-- ==== Sys2Proof/Word.lean ====
section
/-!
DEFINITION. The word types of the WN1616: 32-bit registers (R2), bytes, bench and core numbers.
-/
namespace Sys2Proof

/-- A register, a point value, a Coith working register: 32 bits (R2). -/
abbrev Word := BitVec 32

/-- A byte of instance SRAM or of a host buffer. -/
abbrev Byte := BitVec 8

/-- A half word: the quality word and the flags word of a point entry (R13, R31). -/
abbrev Half := BitVec 16

/-- The index of a bench, 0 to 15 (R16). -/
abbrev BenchIx := Fin 16

/-- A PCI Express function: 0 is the management function, n + 1 is bench n (R17). -/
abbrev FnIx := Fin 17

/-- A rail value or a duration, in nanoseconds (R48). -/
abbrev Time := Nat

end Sys2Proof
end

