-- ==== Sys2Proof/Syntax.lean ====
section
/-!
DEFINITION. Syntax: the commands and events of the module, one constructor per row of the table.
-/
namespace Sys2Proof

/-- The common part of a host command that a bench has taken (R516): the bench whose queue carried it,
its tag, NOIRQ, and the bytes that its host buffer list holds, where it has one (R518). Its parameters are further
operands, in the places R517 gives them. -/
structure Cmd where
  bench : BenchIx
  tag : BitVec 16
  noirq : Bool := false
  buf : Nat := 67108864
  deriving DecidableEq, Repr

/-- A descriptor of a host buffer list (R518): address and length of a buffer, and word 3. -/
structure Descriptor where
  addr : Nat
  len : Word
  w3 : Word
  deriving DecidableEq, Repr

/-- A command entry as it stands in host memory (R516): words 0 and 1, LISTADDR, the parameter words from offset 0x10 on
(those not given are 0), and the descriptors that lie at LISTADDR (R518), read only when LIST is 1. -/
structure Packet where
  w0 : Word
  w1 : Word
  addr : Nat := 0
  params : List Word := []
  list : List Descriptor := []
  deriving DecidableEq, Repr

/-- A write of the mailbox doorbell (R530): its value, the descriptors that lie at the LISTADDR of MG_MBOX, and whether
the hub's memory gave the packet with a corrected error (R507). -/
structure MailBell where
  value : Word := 0
  list : List Descriptor := []
  ecc : Bool := false
  deriving DecidableEq, Repr

/-- What the off-pulses of QN_FAULT_CLEAR give back (R376): OSSDA and OSSDB off, in mV, and the channels, SI0A, SI0B, SI1A,
SI1B, RST, that each lane reads off in the second half of theirs (R356, R370). -/
structure PulseBack where
  ossdA : Nat
  ossdB : Nat
  offA : BitVec 5
  offB : BitVec 5
  deriving DecidableEq, Repr

/-- A gauge sample (R465): its moment, and the memory errors corrected since the last one (R466). -/
structure GaugeTick where
  time : Nat
  sram : Nat := 0
  dram : Nat := 0
  mram : Nat := 0
  deriving DecidableEq, Repr

/-- What the Nalry receiver gets (R482, R500): a good copy block, one that fails its CRC, or a code or CRC error of another
frame. -/
inductive LaneRx where
  | good | badCrc | otherError
  deriving DecidableEq, Repr

/-- How far a FW_LOAD is (R532): it begins, or ends with an image that passes its check or does not. -/
inductive FwFate where
  | begins
  | ends (good : Bool)
  deriving DecidableEq, Repr

/-- One entry of an image's handler table (R107, and Image structure of chapter 06): a segment of a
task when `task` holds its number, a work-item handler otherwise. -/
structure HandlerImg where
  entry : Nat
  ip : Nat
  size : Nat
  task : Option Nat := none
  bound : Nat
  deriving DecidableEq, Repr

/-- One entry of an image's function-block table (Image structure of chapter 06). -/
structure FbImg where
  entry : Nat
  size : Nat
  bound : Nat
  deriving DecidableEq, Repr

/-- One event-flag slot of an image (R111, R145). -/
structure SlotImg where
  slot : Fin 64
  task : Fin 16
  all : Bool := false
  mask : Word
  handler : Nat
  deriving DecidableEq, Repr

/-- One cyclic task of an image: timing (R141; P, PH, OF, D in µs, G in percent), start slot, maps
(R147, R148), stated response bound and core time in block operations (R584), MAXPG (R481). -/
structure TaskImg where
  task : Fin 16
  p : Nat
  ph : Nat
  off : Nat
  d : Nat
  g : Nat
  pri : Nat
  startSlot : Fin 64
  inputs : List Nat := []
  outputs : List Nat := []
  c : Nat := 0
  u : Nat := 0
  maxpg : Nat := 0
  deriving DecidableEq, Repr

/-- The error task of an image (R146, R151, R159). -/
structure ErrImg where
  d0 : Nat
  startSlot : Fin 64
  inputs : List Nat := []
  outputs : List Nat := []
  deriving DecidableEq, Repr

/-- One entry of an image's migration map (R210). -/
structure MigImg where
  old : Nat
  new : Nat
  len : Nat
  conv : Nat
  deriving DecidableEq, Repr

/-- The substitution of one remote input point (R163). -/
structure SubstImg where
  point : Nat
  last : Bool := false
  value : Word := 0
  deriving DecidableEq, Repr

/-- A program image as PROG_LOAD transfers it. The spec names its parts and gives no byte format, so
the parts are the operand. `good` is the outcome of the image's own transfer check. `cells` is the
initial instance data, as (byte address in instance SRAM, byte). `conf` is the loop, axis, face, Haul and
CAN sections: (BAR0 offset, word) pairs (R245, R307, R346, R412, R442); `can` is the filters and
transmit objects of the two controllers: (controller and message-RAM address, word) pairs (R419). -/
structure Image where
  id : BitVec 64
  good : Bool := true
  code : List Word := []
  instBase : Nat := 0
  instSize : Nat := 0
  cells : List (Nat × Byte) := []
  handlers : List HandlerImg := []
  fbs : List FbImg := []
  slots : List SlotImg := []
  tasks : List TaskImg := []
  err : Option ErrImg := none
  mig : List MigImg := []
  subst : List SubstImg := []
  conf : List (Nat × Word) := []
  can : List ((Nat × Nat) × Word) := []
  deriving DecidableEq, Repr

/-- A frame received on the Haul port (R391, R392): what its tag, its addresses and its FCS say, and its payload bytes
(R395, R408). -/
structure UpFrame where
  tagged : Bool := true
  vid : Nat
  etype : Nat
  dst : Nat
  fcsOk : Bool := true
  payload : List Byte
  deriving DecidableEq, Repr

/-- What a CAN controller detects (R435, R438, R443): an error with its ERRTYPE, a recessive res bit in an FD
frame, or any FD frame (a form error while FD_EN is 0). -/
inductive CanFault where
  | error (type : Fin 8)
  | resBit
  | fdFrame
  deriving DecidableEq, Repr

/-- A bit on a CAN line as a controller samples it (R417): the level at the start of the bit (true: recessive), and the
steps of 12.5 ns after it at which the level changes, rising. -/
structure CanWave where
  level : Bool := true
  changes : List Nat := []
  deriving DecidableEq, Repr
/-- The level n steps after the start of the bit. -/
def CanWave.sample (n : Nat) (w : CanWave) : Bool := ((w.changes.filter (· ≤ n)).length % 2 == 0) == w.level

/-- Where an error is detected, as ISO 11898-1 needs it for TEC and REC (R435): in a frame; a bit error while the
controller sends an active error flag or an overload flag; or a dominant bit too many after such a flag. -/
inductive CanSite where
  /-- In a frame. noFlag: an acknowledgement error whose passive error flag saw no dominant bit, or the stuff error in the
  arbitration field that ISO 11898-1 excepts. rxd: the bit as it returned, for a bit error in the data phase (R417). -/
  | frame (noFlag : Bool) (rxd : CanWave)
  | inFlag
  | afterFlag
  deriving DecidableEq, Repr

/-- How steps 2 and 3 of a guard write end (R548): both done; the log entry is not written; or it stands and the guard set
is not stored, though the first or the second copy in MRAM took the new value. -/
inductive MramTry where
  | ok
  | noLog
  | noSet (first second : Bool)
  deriving DecidableEq, Repr

/-- What a Kerf sample is a sample of (R444): the oldest point update not yet seen, the raw digital inputs, an analog input. -/
inductive KerfSource where
  | point
  | digital
  | analog (k : Fin 4)
  deriving DecidableEq, Repr

/-- A heartbeat (R475): the sender's mode as BN_MODE.MODE codes it, custody, fault class as NL_STATUS.PCLASS codes
it, ELIGIBLE and STALE, its free slot's checked image, its latest copy point. -/
structure Heartbeat where
  mode : Fin 5
  custody : Bool
  cls : Fin 4
  eligible : Bool := false
  stale : Bool := false
  freeId : Option (BitVec 64) := none
  seq : Nat := 0
  deriving DecidableEq, Repr

/-- An engine part (R480): each item as its index and its words. A point's entry is 4 words, a loop's state 5
(0x2C to 0x3C), an axis's 14 (0x80 to 0xB4) and VMAX, ACC, DEC in effect, a recipe slot's 8 (0x00 to 0x1C), a
station's word 0x18 and DELAY. -/
structure EnginePart where
  seq : Nat
  time : Time
  points : List (Nat × List Word) := []
  loops : List (Nat × List Word) := []
  axes : List (Nat × List Word) := []
  recipes : List (Nat × List Word) := []
  stations : List (Nat × List Word) := []
  deriving DecidableEq, Repr

/-- A task set (R481): pages of instance SRAM, each with the bytes in it that are not 0; for the error task the
flags of its slot, which R492 counts as committed. -/
structure TaskSet where
  task : Fin 16
  pages : List (Nat × List (Nat × Byte))
  flags : Word := 0
  deriving DecidableEq, Repr

/-- What a copy commit commits (R482). -/
inductive CopyItem where
  | engine (p : EnginePart)
  | set (s : TaskSet)
  deriving DecidableEq, Repr

/-- A full copy (R479): engine state, pages, force entries as (index, EN and point word, FVALUE). -/
structure FullCopy where
  part : EnginePart
  pages : List (Nat × List (Nat × Byte)) := []
  forces : List (Nat × Word × Word) := []
  deriving DecidableEq, Repr

/-- A notice (R483), and the acknowledgement of a hand-over (R494). A recipe's carries words 0x00 to 0x1C of its
run state and the rail value of what happened. -/
inductive Notice where
  | recipe (slot : Fin 16) (time : Time) (words : List Word)
  | force (i : Fin 1024) (w value : Word)
  | faultClass (cls : Fin 4)
  | switched (id : BitVec 64)
  | handover (x : Time)
  | ack
  deriving DecidableEq, Repr

/-- What time lock finds in MRAM (R93, R94): whether the force-table pages of the snapshot pass their check, and which
copies of the life block do (bit 0 copy A, bit 1 copy B). -/
structure LockChecks where
  forcePages : Bool
  life : BitVec 2
  deriving DecidableEq, Repr

/-- What a pulse unit finds each µs, beside its core rail (R474): the hardware probe has completed within the last
4 µs, and the time rail runs. -/
structure Pulse where
  probe : Bool
  rail : Bool
  deriving DecidableEq, Repr

/-- A block core of a bench, and what its reads of instance SRAM and of the code slot meet in this instruction: the byte
address of an uncorrectable error, if there is one (R205). -/
structure CoreRef where
  bench : BenchIx
  core : Fin 4
  memory : Option Nat := none
  deriving DecidableEq, Repr

/-- Conditions of CMP and CMPI (R189). -/
inductive Cond where
  | eq | ne | lt | le | ltu | leu
  deriving DecidableEq, Repr

/-- Conditions of BR on Wa, signed (R195). -/
inductive BrCond where
  | always | zero | nonzero | neg | nonneg | pos | nonpos
  deriving DecidableEq, Repr

/-- A register W0 to W31 (R187). -/
abbrev Reg := Fin 32

/-- One constructor per row of the operations and events table; each docstring gives the row's rule. -/
inductive Instr where
  /-- BENCH_RUN (R83). -/
  | benchRun (c : Cmd)
  /-- BENCH_SHADOW (R83). -/
  | benchShadow (c : Cmd)
  /-- BENCH_HOLD (R83). -/
  | benchHold (c : Cmd)
  /-- BENCH_WARM_RESTART (R98). -/
  | benchWarmRestart (c : Cmd) (target : Word)
  /-- BENCH_COLD_START (R97). -/
  | benchColdStart (c : Cmd)
  /-- BENCH_STOP (R83). -/
  | benchStop (c : Cmd)
  /-- BENCH_RESET (R87). -/
  | benchReset (c : Cmd)
  /-- HOST_KEEPALIVE (R99). -/
  | hostKeepalive (c : Cmd)
  /-- PROG_LOAD (R183). -/
  | progLoad (c : Cmd) (img : Image)
  /-- PROG_ACTIVATE (R183). -/
  | progActivate (c : Cmd)
  /-- PROG_CHANGE (R173). -/
  | progChange (c : Cmd) (ack maxDefer : Word)
  /-- PROG_CHANGE_ABORT (R180). -/
  | progChangeAbort (c : Cmd)
  /-- PROG_SET_TIMING (R141). -/
  | progSetTiming (c : Cmd) (task p ph off d g : Word)
  /-- FORCE_SET (R183). -/
  | forceSet (c : Cmd) (point value : Word)
  /-- FORCE_CLEAR (R183). -/
  | forceClear (c : Cmd) (point : Word)
  /-- LOOP_SET_MODE (R247). -/
  | loopSetMode (c : Cmd) (w : Word)
  /-- LOOP_SET_SP (R228). -/
  | loopSetSp (c : Cmd) (w sp : Word)
  /-- LOOP_SET_OUT (R247). -/
  | loopSetOut (c : Cmd) (w out : Word)
  /-- LOOP_TUNE (R247). -/
  | loopTune (c : Cmd) (w v0 v1 v2 v3 v4 v5 v6 : Word)
  /-- LOOP_SET_TABLE (R247). -/
  | loopSetTable (c : Cmd) (w : Word) (data : List Word)
  /-- LOOP_CLEAR (R247). -/
  | loopClear (c : Cmd) (w : Word)
  /-- RCP_LOAD_STEPS (R253). -/
  | rcpLoadSteps (c : Cmd) (first count : Word) (entries : List (List Word))
  /-- RCP_START (R263). -/
  | rcpStart (c : Cmd) (slot first abort lo hi flags : Word)
  /-- RCP_PAUSE (R265). -/
  | rcpPause (c : Cmd) (slot lo hi late : Word)
  /-- RCP_RESUME (R265). -/
  | rcpResume (c : Cmd) (slot lo hi late : Word)
  /-- RCP_SKIP (R266). -/
  | rcpSkip (c : Cmd) (slot step lo hi late : Word)
  /-- RCP_ABORT (R267). -/
  | rcpAbort (c : Cmd) (slot lo hi late : Word)
  /-- MX_MOVE (R309). -/
  | mxMove (c : Cmd) (w target lo hi : Word)
  /-- MX_JOG (R309). -/
  | mxJog (c : Cmd) (w lo hi : Word)
  /-- MX_SET_DYN (R286). -/
  | mxSetDyn (c : Cmd) (w vmax acc dec : Word)
  /-- MX_STOP (R289). -/
  | mxStop (c : Cmd) (w : Word)
  /-- MX_HOME (R294). -/
  | mxHome (c : Cmd) (w lo hi : Word)
  /-- MX_SET_POS (R309). -/
  | mxSetPos (c : Cmd) (w p : Word)
  /-- MX_CLEAR (R309). -/
  | mxClear (c : Cmd) (w : Word)
  /-- FACE_FAULT_CLEAR (R345). -/
  | faceFaultClear (c : Cmd)
  /-- FACE_ENC_SET (R345). -/
  | faceEncSet (c : Cmd) (w count lo hi : Word)
  /-- QN_UNLOCK (R381). -/
  | qnUnlock (c : Cmd) (pw : List Byte) (oper : BitVec 16)
  /-- QN_LOCK (R381). -/
  | qnLock (c : Cmd)
  /-- QN_COMMIT (R382). -/
  | qnCommit (c : Cmd) (crc : Word) (oper : BitVec 16)
  /-- QN_SET_PASSWORD (R381). -/
  | qnSetPassword (c : Cmd) (old new : List Byte) (oper : BitVec 16)
  /-- QN_FAULT_CLEAR (R376). -/
  | qnFaultClear (c : Cmd) (oper : BitVec 16) (sources : Nat × Nat) (back : PulseBack)
  /-- QN_SET_REF (R373). -/
  | qnSetRef (c : Cmd) (w pos lo hi : Word)
  /-- QN_LOG_READ (R387). -/
  | qnLogRead (c : Cmd) (first count : Word)
  /-- KF_ARM (R450). -/
  | kfArm (c : Cmd) (w pre post : Word)
  /-- KF_DISARM (R452). -/
  | kfDisarm (c : Cmd) (w : Word)
  /-- KF_TRIGGER (R447). -/
  | kfTrigger (c : Cmd) (w : Word)
  /-- KF_READ (R470). -/
  | kfRead (c : Cmd) (w : Word)
  /-- DG_SET_PROFILES (R459). -/
  | dgSetProfiles (c : Cmd) (profs : List Byte)
  /-- DG_CLOSE_NOW (R463). -/
  | dgCloseNow (c : Cmd)
  /-- HL_READ (R470). -/
  | hlRead (c : Cmd) (first count : Word)
  /-- HL_CLOSE_NOW (R464). -/
  | hlCloseNow (c : Cmd)
  /-- HAUL_STATION_SET (R404). -/
  | haulStationSet (c : Cmd) (w : Word)
  /-- CAN_RECOVER (R436). -/
  | canRecover (c : Cmd) (w : Word)
  /-- CAN_OBJ_SET (R441). -/
  | canObjSet (c : Cmd) (w : Word)
  /-- REDUN_HANDOVER (R494). -/
  | redunHandover (c : Cmd) (lo hi maxDefer : Word)
  /-- REDUN_RESYNC (R479). -/
  | redunResync (c : Cmd)
  /-- TIME_SET (R531). -/
  | timeSet (c : Cmd) (lo hi : Word)
  /-- TIME_READ (R531). -/
  | timeRead (c : Cmd)
  /-- GUARD_OPEN (R545). -/
  | guardOpen (c : Cmd) (oper : Word)
  /-- GUARD_CLOSE (R545). -/
  | guardClose (c : Cmd)
  /-- GUARD_LOG_READ (R546). -/
  | guardLogRead (c : Cmd) (first count : Word)
  /-- QN_PASSWORD_REPLACE (R546). -/
  | qnPasswordReplace (c : Cmd) (pw : List Byte)
  /-- DEBUG_OPEN (R546). -/
  | debugOpen (c : Cmd)
  /-- FW_LOAD (R532). -/
  | fwLoad (c : Cmd) (version : Word) (fate : FwFate)
  /-- FW_SELECT (R532). -/
  | fwSelect (c : Cmd)
  /-- FW_INFO (R532). -/
  | fwInfo (c : Cmd)
  /-- READ_STATUS (R535). -/
  | readStatus (b : BenchIx) (noResp : BitVec 16)
  /-- BEDROCK_HOLD (R535). -/
  | bedrockHold (mask noResp : BitVec 16)
  /-- OUTPUTS_OFF (R535). -/
  | outputsOff (mask noResp : BitVec 16)
  /-- BEDROCK_RESET (R535). -/
  | bedrockReset (b : BenchIx) (noResp : BitVec 16)
  /-- RELEASE_CUSTODY (R487). -/
  | releaseCustody (mask noResp : BitVec 16)
  /-- READ_RECORD (R538). -/
  | readRecord (b : BenchIx) (noResp : BitVec 16)
  /-- READ_TIME (R535). -/
  | readTime (b : BenchIx) (noResp : BitVec 16)
  /-- NOP (R189). -/
  | coithNop (k : CoreRef)
  /-- ADD (R190). -/
  | coithAdd (k : CoreRef) (d a b : Reg) (h sat : Bool)
  /-- SUB (R190). -/
  | coithSub (k : CoreRef) (d a b : Reg) (h sat : Bool)
  /-- ADDI (R189). -/
  | coithAddi (k : CoreRef) (d a : Reg) (imm : BitVec 16)
  /-- MUL (R190). -/
  | coithMul (k : CoreRef) (d a b : Reg) (h sat : Bool)
  /-- DIV (R190). -/
  | coithDiv (k : CoreRef) (d a b : Reg)
  /-- REM (R190). -/
  | coithRem (k : CoreRef) (d a b : Reg)
  /-- ABS (R190). -/
  | coithAbs (k : CoreRef) (d a : Reg) (neg h sat : Bool)
  /-- AND (R189). -/
  | coithAnd (k : CoreRef) (d a b : Reg)
  /-- OR (R189). -/
  | coithOr (k : CoreRef) (d a b : Reg)
  /-- XOR (R189). -/
  | coithXor (k : CoreRef) (d a b : Reg)
  /-- ANDI (R189). -/
  | coithAndi (k : CoreRef) (d a : Reg) (imm : BitVec 16)
  /-- ORI (R189). -/
  | coithOri (k : CoreRef) (d a : Reg) (imm : BitVec 16)
  /-- XORI (R189). -/
  | coithXori (k : CoreRef) (d a : Reg) (imm : BitVec 16)
  /-- LUI (R189). -/
  | coithLui (k : CoreRef) (d : Reg) (imm : BitVec 16)
  /-- SHF (R189). -/
  | coithShf (k : CoreRef) (d a b : Reg) (op : Fin 4) (byReg : Bool) (amt : Fin 32)
  /-- BIT (R189). -/
  | coithBit (k : CoreRef) (d a : Reg) (ins : Bool) (pos width1 : Fin 32)
  /-- MINMAX (R189). -/
  | coithMinmax (k : CoreRef) (d a b : Reg) (max h : Bool)
  /-- CMP (R189). -/
  | coithCmp (k : CoreRef) (d a b : Reg) (cond : Cond)
  /-- CMPI (R189). -/
  | coithCmpi (k : CoreRef) (d a : Reg) (cond : Cond) (imm : BitVec 13)
  /-- SEL (R189). -/
  | coithSel (k : CoreRef) (d a b c : Reg)
  /-- LIM (R190). -/
  | coithLim (k : CoreRef) (d a b : Reg) (h : Bool)
  /-- QMUL (R191). -/
  | coithQmul (k : CoreRef) (d a b : Reg)
  /-- MPY (R191). -/
  | coithMpy (k : CoreRef) (a b : Reg) (neg : Bool)
  /-- MAC (R191). -/
  | coithMac (k : CoreRef) (a b : Reg) (sub : Bool)
  /-- LDA (R191). -/
  | coithLda (k : CoreRef) (a : Reg) (f : Fin 4)
  /-- SAC (R191). -/
  | coithSac (k : CoreRef) (d : Reg) (q30 : Bool) (sh : BitVec 5)
  /-- STA (R189). -/
  | coithSta (k : CoreRef) (d : Reg)
  /-- ASH (R191). -/
  | coithAsh (k : CoreRef) (sh : BitVec 6)
  /-- CLS (R189). -/
  | coithCls (k : CoreRef) (d a : Reg) (ofReg : Bool)
  /-- FADD (R192). -/
  | coithFadd (k : CoreRef) (d a b : Reg) (sub : Bool)
  /-- FMUL (R192). -/
  | coithFmul (k : CoreRef) (d a b : Reg)
  /-- FDIV (R192). -/
  | coithFdiv (k : CoreRef) (d a b : Reg)
  /-- FSQRT (R192). -/
  | coithFsqrt (k : CoreRef) (d a : Reg)
  /-- FCMP (R192). -/
  | coithFcmp (k : CoreRef) (d a b : Reg) (op : Fin 4)
  /-- FCVT (R192). -/
  | coithFcvt (k : CoreRef) (d a : Reg) (op : Fin 4)
  /-- FMISC (R192). -/
  | coithFmisc (k : CoreRef) (d a b : Reg) (op : Fin 4)
  /-- TADD (R193). -/
  | coithTadd (k : CoreRef) (d a b : Reg) (sub : Bool)
  /-- TCMP (R193). -/
  | coithTcmp (k : CoreRef) (d a b : Reg) (op : Fin 4)
  /-- RDT (R193). -/
  | coithRdt (k : CoreRef) (d : Reg) (op : Fin 4)
  /-- LDW (R194). -/
  | coithLdw (k : CoreRef) (d base : Reg) (off : BitVec 16)
  /-- LDH (R194). -/
  | coithLdh (k : CoreRef) (d base : Reg) (off : BitVec 16)
  /-- LDD (R194). -/
  | coithLdd (k : CoreRef) (d base : Reg) (off : BitVec 16)
  /-- STW (R194). -/
  | coithStw (k : CoreRef) (d base : Reg) (off : BitVec 16)
  /-- STH (R194). -/
  | coithSth (k : CoreRef) (d base : Reg) (off : BitVec 16)
  /-- STD (R194). -/
  | coithStd (k : CoreRef) (d base : Reg) (off : BitVec 16)
  /-- LDX (R194). -/
  | coithLdx (k : CoreRef) (d a b : Reg) (f : Fin 3) (scale : Fin 4)
  /-- STX (R194). -/
  | coithStx (k : CoreRef) (d a b : Reg) (f : Fin 3) (scale : Fin 4)
  /-- BR (R195). -/
  | coithBr (k : CoreRef) (a : Reg) (cond : BrCond) (off : BitVec 18)
  /-- LOOP (R196). -/
  | coithLoop (k : CoreRef) (d : Reg) (count1 : Fin 4096) (len : Fin 512)
  /-- CALL (R197). -/
  | coithCall (k : CoreRef) (fb : Fin 1024) (ioff : BitVec 16)
  /-- RET (R197). -/
  | coithRet (k : CoreRef)
  /-- END (R198). -/
  | coithEnd (k : CoreRef)
  /-- SETF (R200). -/
  | coithSetf (k : CoreRef) (d a : Reg) (slot : Fin 64)
  /-- POST (R106). -/
  | coithPost (k : CoreRef) (d a : Reg)
  /-- FWR (R202). -/
  | coithFwr (k : CoreRef) (d a : Reg) (n : Fin 32) (eop : Bool)
  /-- FRD (R202). -/
  | coithFrd (k : CoreRef) (d a : Reg) (n : Fin 32)
  /-- PTR (R189). -/
  | coithPtr (k : CoreRef) (d a : Reg)
  /-- PTW (R201). -/
  | coithPtw (k : CoreRef) (d a b : Reg) (own : Bool)
  /-- CSR (R204). -/
  | coithCsr (k : CoreRef) (d a : Reg) (clear : Bool)
  /-- MAC2 (R191). -/
  | coithMac2 (k : CoreRef) (a b : Reg)
  /-- CHK (R205). -/
  | coithChk (k : CoreRef) (a : Reg) (code : BitVec 8)
  /-- PACK (R189). -/
  | coithPack (k : CoreRef) (d a b : Reg)
  /-- CRC (R189). -/
  | coithCrc (k : CoreRef) (d a : Reg)
  /-- BYPASS (R571). -/
  | tapBypass
  /-- IDCODE (R571). -/
  | tapIdcode
  /-- SAMPLE_PRELOAD (R571). -/
  | tapSamplePreload
  /-- EXTEST (R572). -/
  | tapExtest
  /-- CLAMP (R572). -/
  | tapClamp
  /-- HIGHZ (R572). -/
  | tapHighz
  /-- DEBUG (R573). -/
  | tapDebug
  /-- REGISTER_WRITE (R3). -/
  | registerWrite (fn : FnIx) (off : Nat) (v : Word)
  /-- UNSUPPORTED_REQUEST (R2). -/
  | unsupportedRequest (fn : FnIx) (write : Bool)
  /-- LOW_WORD_READ (R7). -/
  | lowWordRead (fn : FnIx) (off : Nat)
  /-- POINT_VALUE_READ (R36). -/
  | pointValueRead (b : BenchIx) (p : Fin 16384)
  /-- RUN_STATE_READ (R273). -/
  | runStateRead (b : BenchIx) (slot : Fin 16)
  /-- FORCE_COMMIT (R166). -/
  | forceCommit (b : BenchIx) (j : Fin 1024) (w : Word)
  /-- DB_CMD_TAIL (R512). -/
  | dbCmdTail (b : BenchIx) (v : Word)
  /-- DB_CPL_HEAD (R512). -/
  | dbCplHead (b : BenchIx) (v : Word)
  /-- DB_STR_HEAD (R512). -/
  | dbStrHead (b : BenchIx) (v : Word)
  /-- DB_EVT_HEAD (R512). -/
  | dbEvtHead (b : BenchIx) (v : Word)
  /-- MBOX_DOORBELL (R530). -/
  | mboxDoorbell (v : MailBell)
  /-- QUEUE_ENABLE (R514). -/
  | queueEnable (b : BenchIx) (q : Fin 4) (v : Word)
  /-- QUEUE_DISABLE (R514). -/
  | queueDisable (b : BenchIx) (q : Fin 4) (v : Word)
  /-- MSIX_UNMASK (R533). -/
  | msixUnmask (fn : FnIx) (v : Fin 6)
  /-- DROP_REMAINDER (R133). -/
  | dropRemainder (b : BenchIx) (n : Fin 32)
  /-- FLUSH (R132). -/
  | flush (b : BenchIx) (n : Fin 32)
  /-- FQ_HOST_POP (R137). -/
  | fqHostPop (b : BenchIx) (n : Fin 32)
  /-- FQ_WR (R130). -/
  | fqWr (b : BenchIx) (n : Fin 32) (w : Word)
  /-- FQ_WR_EOP (R130). -/
  | fqWrEop (b : BenchIx) (n : Fin 32) (w : Word)
  /-- SC_CTRL_WRITE (R123). -/
  | scCtrlWrite (b : BenchIx) (v : Word)
  /-- SC_FLOW_WRITE (R124). -/
  | scFlowWrite (b : BenchIx) (f : Fin 256) (v : Word)
  /-- SC_QCFG_WRITE (R115). -/
  | scQcfgWrite (b : BenchIx) (q : Fin 8) (v : Word)
  /-- FQ_CFG_WRITE (R139). -/
  | fqCfgWrite (b : BenchIx) (n : Fin 32) (v : Word)
  /-- FQ_SPILL_WRITE (R126). -/
  | fqSpillWrite (b : BenchIx) (n : Fin 32) (v : Word)
  /-- BN_DRAM_CAPTURE_WRITE (R45). -/
  | bnDramCaptureWrite (b : BenchIx) (v : Word)
  /-- TM_PACE_LIM_WRITE (R77). -/
  | tmPaceLimWrite (b : BenchIx) (v : Word)
  /-- TM_PACE_REST_WRITE (R77). -/
  | tmPaceRestWrite (b : BenchIx) (v : Word)
  /-- MDIO_CMD (R412). -/
  | mdioCmd (b : BenchIx) (v : Word)
  /-- MR_DATA_ACCESS (R419). -/
  | mrDataAccess (b : BenchIx) (k : Fin 2) (write : Option Word)
  /-- RX_BUFFER_LOCK_READ (R427). -/
  | rxBufferLockRead (b : BenchIx) (k : Fin 2) (buf : Fin 64)
  /-- RX_BUFFER_RELEASE_READ (R427). -/
  | rxBufferReleaseRead (b : BenchIx) (k : Fin 2) (buf : Fin 64)
  /-- GUARD_WRITE (R548). -/
  | guardWrite (off : Nat) (v : Word) (g : Nat) (mram : MramTry)
  /-- GUARD_EFFECT (R549). -/
  | guardEffect (b : BenchIx) (t : Nat)
  /-- BN_CNT_CLR (R44). -/
  | bnCntClr (b : BenchIx) (v : Word)
  /-- TM_CNT_CLR (R74). -/
  | tmCntClr (b : BenchIx) (v : Word)
  /-- SC_CNT_CLR (R135). -/
  | scCntClr (b : BenchIx) (v : Word)
  /-- PE_CNT_CLR (R184). -/
  | peCntClr (b : BenchIx) (v : Word)
  /-- LE_CNT_CLR (R249). -/
  | leCntClr (b : BenchIx) (v : Word)
  /-- RS_CNT_CLR (R275). -/
  | rsCntClr (b : BenchIx) (v : Word)
  /-- MX_CNT_CLR (R310). -/
  | mxCntClr (b : BenchIx) (v : Word)
  /-- FC_CNT_CLR (R346). -/
  | fcCntClr (b : BenchIx) (v : Word)
  /-- QN_CNT_CLR (R388). -/
  | qnCntClr (b : BenchIx) (v : Word)
  /-- KF_CNT_CLR (R471). -/
  | kfCntClr (b : BenchIx) (v : Word)
  /-- DG_CNT_CLR (R472). -/
  | dgCntClr (b : BenchIx) (v : Word)
  /-- HL_CNT_CLR (R472). -/
  | hlCntClr (b : BenchIx) (v : Word)
  /-- HA_CNT_CLR (R412). -/
  | haCntClr (b : BenchIx) (v : Word)
  /-- CN_CNT_CLR (R442). -/
  | cnCntClr (b : BenchIx) (k : Fin 2) (v : Word)
  /-- NL_CNT_CLR (R500). -/
  | nlCntClr (b : BenchIx) (v : Word)
  /-- QC_CNT_CLR (R513). -/
  | qcCntClr (b : BenchIx) (v : Word)
  /-- GS_CNT_CLR (R554). -/
  | gsCntClr (v : Word)
  /-- FUNCTION_LEVEL_RESET (R504). -/
  | functionLevelReset (fn : FnIx) (d3 : Bool)
  /-- HOT_RESET (R504). -/
  | hotReset
  /-- HUB_RESET (R504). -/
  | hubReset
  /-- HOST_READ_ERROR (R515). -/
  | hostReadError (b : BenchIx) (q : Fin 4) (list : Option (BitVec 16))
  /-- COMMAND_TAKE (R519). -/
  | commandTake (b : BenchIx) (p : Packet)
  /-- STREAM_RECORD_WRITE (R528). -/
  | streamRecordWrite (b : BenchIx) (t : Nat)
  /-- INTERRUPT_COALESCE_TIMEOUT (R534). -/
  | interruptCoalesceTimeout (b : BenchIx) (t : Nat) (events : Bool)
  /-- SUPPLY_GOOD (R88). -/
  | supplyGood (t : Nat) (vinA : Bool) (vinB : Bool)
  /-- SUPPLY_LOST (R88). -/
  | supplyLost (t : Nat)
  /-- VIN_INPUT_LOST (R555). -/
  | vinInputLost (t : Nat) (inputB : Bool)
  /-- VBAT_LOW (R559). -/
  | vbatLow (t : Nat)
  /-- MRST_N_ASSERT (R568). -/
  | mrstNAssert (t : Nat)
  /-- MRST_N_RELEASE (R90). -/
  | mrstNRelease (t : Nat) (mid : BitVec 6) (pair : Bool)
  /-- BENCH_START_COMPLETE (R90). -/
  | benchStartComplete (b : BenchIx) (t : Nat) (selftest : BitVec 5) (fwCurOk : Bool) (fwAltOk : Bool) (imgOk : Bool) (headerOk : Bool) (guardA : Bool) (guardB : Bool) (quoinA : Bool) (quoinB : Bool)
  /-- CORE_RAIL_LOW (R23). -/
  | coreRailLow (b : BenchIx) (t : Nat)
  /-- REF_LOST (R55). -/
  | refLost (b : BenchIx) (t : Nat) (refB : Bool)
  /-- REF_GOOD (R55). -/
  | refGood (b : BenchIx) (t : Nat) (refB : Bool)
  /-- TIME_LOCK_TIMEOUT (R56). -/
  | timeLockTimeout (b : BenchIx) (t : Nat) (checks : LockChecks)
  /-- FREE_ENTERED (R56). -/
  | freeEntered (b : BenchIx) (t : Nat)
  /-- RELOCK_COMPLETE (R56). -/
  | relockComplete (b : BenchIx) (t : Nat)
  /-- EPOCH_MARKER (R64). -/
  | epochMarker (b : BenchIx) (t m : Nat) (checks : LockChecks)
  /-- SYNC_MARKER (R60). -/
  | syncMarker (t m : Nat)
  /-- SYNC_LOST (R62). -/
  | syncLost (t : Nat)
  /-- PTM_DIALOGUE (R63). -/
  | ptmDialogue (t m : Nat)
  /-- PACE_LOW (R68). -/
  | paceLow (b : BenchIx) (t rate : Nat)
  /-- PACE_FAULT (R68). -/
  | paceFault (b : BenchIx) (t : Nat)
  /-- TJ_HIGH (R72). -/
  | tjHigh (b : BenchIx) (t : Nat) (tj : Int)
  /-- TJ_RECOVERED (R72). -/
  | tjRecovered (b : BenchIx) (t : Nat) (tj : Int)
  /-- RAISE_DEMAND (R69). -/
  | raiseDemand (b : BenchIx) (t : Nat) (task : Fin 16)
  /-- BARRIER_FRAME (R42). -/
  | barrierFrame (b : BenchIx) (t : Nat) (toFace : Bool) (si : BitVec 5)
  /-- BARRIER_LINK_LOSS (R43). -/
  | barrierLinkLoss (b : BenchIx) (t : Nat)
  /-- FACE_LINK_LOSS (R43). -/
  | faceLinkLoss (b : BenchIx) (t : Nat)
  /-- LIVENESS_TOKEN (R474). -/
  | livenessToken (b : BenchIx) (t : Nat) (pulse : Pulse)
  /-- LIVENESS_LOSS (R476). -/
  | livenessLoss (b : BenchIx) (t : Nat)
  /-- FACE_POWER_LOSS (R314). -/
  | facePowerLoss (b : BenchIx) (t : Nat)
  /-- DI_SAMPLE (R321). -/
  | diSample (b : BenchIx) (t : Nat) (raw low : BitVec 16) (rb : BitVec 8) (lplus : Nat)
  /-- DI_CHANGE_ACCEPTED (R323). -/
  | diChangeAccepted (b : BenchIx) (t : Nat) (ch : Fin 16)
  /-- DI_WIRE_BREAK (R325). -/
  | diWireBreak (b : BenchIx) (t : Nat) (ch : Fin 16)
  /-- FIELD_WARN (R333). -/
  | fieldWarn (b : BenchIx) (t : Nat)
  /-- FIELD_WARN_CLEAR (R333). -/
  | fieldWarnClear (b : BenchIx) (t : Nat)
  /-- LOCKOUT (R333). -/
  | lockout (b : BenchIx) (t : Nat)
  /-- REENABLED (R334). -/
  | reenabled (b : BenchIx) (t : Nat)
  /-- LATCH_OFF (R329). -/
  | latchOff (b : BenchIx) (t : Nat) (ch : Fin 8)
  /-- READ_BACK_MISMATCH (R330). -/
  | readBackMismatch (b : BenchIx) (t : Nat) (ch : Fin 8)
  /-- AI_SAMPLE (R337). -/
  | aiSample (b : BenchIx) (t : Nat) (k : Fin 4) (x : Int)
  /-- AI_SAMPLE_WRITE (R337). -/
  | aiSampleWrite (b : BenchIx) (t : Nat) (k : Fin 4)
  /-- AO_SAMPLE (R340). -/
  | aoSample (b : BenchIx) (t : Nat) (m : Fin 2) (x : Int)
  /-- ENCODER_SAMPLE (R342). -/
  | encoderSample (b : BenchIx) (t : Nat) (e : Fin 2) (ra rb rz : Bool)
  /-- ENCODER_UPDATE (R342). -/
  | encoderUpdate (b : BenchIx) (t : Nat) (e : Fin 2)
  /-- Z_CAPTURE (R343). -/
  | zCapture (b : BenchIx) (t : Nat) (e : Fin 2)
  /-- INPUT_INSTANT (R147). -/
  | inputInstant (b : BenchIx) (t : Nat) (task : Fin 16)
  /-- IMAGE_COPY_DONE (R147). -/
  | imageCopyDone (b : BenchIx) (t : Nat) (task : Fin 16)
  /-- DISPATCH (R110). -/
  | dispatch (b : BenchIx) (t : Nat) (core : Fin 4)
  /-- END_OF_LOGIC (R149). -/
  | endOfLogic (b : BenchIx) (t : Nat) (task : Fin 16)
  /-- OUTPUT_INSTANT (R29). -/
  | outputInstant (b : BenchIx) (t : Nat)
  /-- WATCHDOG_TRIP (R151). -/
  | watchdogTrip (b : BenchIx) (t : Nat) (task : Fin 16)
  /-- SNAPSHOT_COMPLETE (R95). -/
  | snapshotComplete (b : BenchIx) (t : Nat)
  /-- RESTART_CHECK_DONE (R98). -/
  | restartCheckDone (b : BenchIx) (t : Nat) (fail : Nat) (rest : Nat)
  /-- HOST_SILENCE (R99). -/
  | hostSilence (b : BenchIx) (t : Nat)
  /-- OP_HOURS_TICK (R93). -/
  | opHoursTick (b : BenchIx) (t : Nat)
  /-- ITEM_OVERRUN (R109). -/
  | itemOverrun (b : BenchIx) (t : Nat) (core : Fin 4)
  /-- REORDER_RELEASE (R121). -/
  | reorderRelease (b : BenchIx) (t : Nat) (flow : Fin 256)
  /-- FIFO_NOTIFY (R134). -/
  | fifoNotify (b : BenchIx) (t : Nat) (n : Fin 32)
  /-- MOVER_PAGE_COPY (R175). -/
  | moverPageCopy (b : BenchIx) (t : Nat)
  /-- SWITCH_GAP_TEST (R176). -/
  | switchGapTest (b : BenchIx) (t : Nat)
  /-- SWITCH (R177). -/
  | switch (b : BenchIx) (t : Nat)
  /-- LOOP_READ (R215). -/
  | loopRead (b : BenchIx) (t : Nat) (n : Fin 512)
  /-- LOOP_RELEASE (R216). -/
  | loopRelease (b : BenchIx) (t : Nat) (n : Fin 512) (margin : Option Nat)
  /-- CONDITION_CHECK (R255). -/
  | conditionCheck (b : BenchIx) (t : Nat) (slot : Fin 16)
  /-- STEP_BOUNDARY (R255). -/
  | stepBoundary (b : BenchIx) (t : Nat) (slot : Fin 16)
  /-- CANDIDATE_PREPARED (R257). -/
  | candidatePrepared (b : BenchIx) (t : Nat) (slot : Fin 16) (step : Nat)
  /-- COMMIT_MOMENT (R258). -/
  | commitMoment (b : BenchIx) (t : Nat) (slot : Fin 16)
  /-- RECIPE_START_INSTANT (R264). -/
  | recipeStartInstant (b : BenchIx) (t : Nat) (slot : Fin 16)
  /-- PAUSE_INSTANT (R265). -/
  | pauseInstant (b : BenchIx) (t : Nat) (slot : Fin 16)
  /-- RESUME_INSTANT (R265). -/
  | resumeInstant (b : BenchIx) (t : Nat) (slot : Fin 16)
  /-- SKIP_INSTANT (R266). -/
  | skipInstant (b : BenchIx) (t : Nat) (slot : Fin 16)
  /-- ABORT_INSTANT (R267). -/
  | abortInstant (b : BenchIx) (t : Nat) (slot : Fin 16)
  /-- MOVE_START (R280). -/
  | moveStart (b : BenchIx) (t : Nat) (a : Fin 64)
  /-- STEP_EDGE (R283). -/
  | stepEdge (b : BenchIx) (t : Nat) (a : Fin 64)
  /-- LATE_EDGE (R284). -/
  | lateEdge (b : BenchIx) (t : Nat) (a : Fin 64)
  /-- LIMIT_CHANGE (R290). -/
  | limitChange (b : BenchIx) (t : Nat) (a : Fin 10) (inp : Fin 3) (level : Bool) (edge : Nat) (reverted : Bool)
  /-- PWM_PERIOD (R298). -/
  | pwmPeriod (b : BenchIx) (t : Nat) (vbr : Nat)
  /-- HOLD_CURRENT_DELAY (R297). -/
  | holdCurrentDelay (b : BenchIx) (t : Nat) (a : Fin 64)
  /-- REMOTE_EVALUATION (R300). -/
  | remoteEvaluation (b : BenchIx) (t : Nat) (a : Fin 64) (apply : Nat)
  /-- POSITION_POINT_UPDATE (R303). -/
  | positionPointUpdate (b : BenchIx) (t : Nat) (a : Fin 64)
  /-- LANE_B_SAMPLE (R349). -/
  | laneBSample (b : BenchIx) (t : Nat) (si : BitVec 5)
  /-- LANE_EXCHANGE (R351). -/
  | laneExchange (b : BenchIx) (t : Nat) (okA okB : Bool)
  /-- LANE_LOST (R351). -/
  | laneLost (b : BenchIx) (t : Nat) (laneB : Bool)
  /-- LANE_X (R351). -/
  | laneX (b : BenchIx) (t : Nat)
  /-- SWITCH_DRIVE_TIMEOUT (R350). -/
  | switchDriveTimeout (b : BenchIx) (t : Nat) (laneB : Bool)
  /-- TEST_PULSE (R355). -/
  | testPulse (b : BenchIx) (t : Nat) (t2 : Bool) (mv : Nat)
  /-- CHANNEL_CHANGE (R355). -/
  | channelChange (b : BenchIx) (t : Nat) (laneB : Bool) (ch : Fin 5)
  /-- DISC (R357). -/
  | disc (b : BenchIx) (t : Nat) (j : Fin 2)
  /-- OSSD_TEST (R361). -/
  | ossdTest (b : BenchIx) (t : Nat) (o : Fin 2)
  /-- OSSD_READBACK (R362). -/
  | ossdReadback (b : BenchIx) (t : Nat) (mvA mvB : Nat)
  /-- SS1_TIMEOUT (R366). -/
  | ss1Timeout (b : BenchIx) (t : Nat) (laneB : Bool)
  /-- SPEED_EVALUATION (R372). -/
  | speedEvaluation (b : BenchIx) (t : Nat)
  /-- POS_X (R372). -/
  | posX (b : BenchIx) (t : Nat) (q : Fin 2)
  /-- RESET_EDGE (R369). -/
  | resetEdge (b : BenchIx) (t : Nat)
  /-- QN_SESSION_TIMEOUT (R381). -/
  | qnSessionTimeout (b : BenchIx) (t : Nat)
  /-- PASSWORD_WAIT_EXPIRY (R381). -/
  | passwordWaitExpiry (b : BenchIx) (t : Nat)
  /-- HAUL_CUT (R393). -/
  | haulCut (b : BenchIx) (t : Nat) (txs : List Nat)
  /-- UP_FRAME (R401). -/
  | upFrame (b : BenchIx) (t : Nat) (f : UpFrame)
  /-- ARRIVAL_DEADLINE (R403). -/
  | arrivalDeadline (b : BenchIx) (t : Nat)
  /-- LINK_DOWN (R412). -/
  | linkDown (b : BenchIx) (t : Nat)
  /-- CAN_FRAME_RX (R423). -/
  | canFrameRx (b : BenchIx) (t : Nat) (k : Fin 2) (h0 h1 : Word) (data : List Word) (sof : Nat)
  /-- OBJECT_CUT (R430). -/
  | objectCut (b : BenchIx) (t : Nat) (k : Fin 2) (n : Fin 48) (begun : Bool)
  /-- FIFO_TX_OFFER (R431). -/
  | fifoTxOffer (b : BenchIx) (t : Nat) (k : Fin 2) (n : Fin 32)
  /-- ARBITRATION_LOST (R432). -/
  | arbitrationLost (b : BenchIx) (t : Nat) (k : Fin 2)
  /-- TX_COMPLETE (R432). -/
  | txComplete (b : BenchIx) (t : Nat) (k : Fin 2) (sof : Nat) (delay : Option Nat)
  /-- CAN_ERROR (R435). -/
  | canError (b : BenchIx) (t : Nat) (k : Fin 2) (f : CanFault) (phase : Bool) (own : Option Nat) (late : Bool) (site : CanSite) (delay : Option Nat)
  /-- BUS_BACK (R436). -/
  | busBack (b : BenchIx) (t : Nat) (k : Fin 2)
  /-- LOCK_TIMEOUT (R427). -/
  | lockTimeout (b : BenchIx) (t : Nat) (k : Fin 2) (buf : Fin 64)
  /-- REFERENCE_MESSAGE (R439). -/
  | referenceMessage (b : BenchIx) (t : Nat) (k : Fin 2)
  /-- REF_LATE (R439). -/
  | refLate (b : BenchIx) (t : Nat) (k : Fin 2) (begun : Bool)
  /-- TRIGGER_SAMPLE (R445). -/
  | triggerSample (b : BenchIx) (t : Nat) (src : KerfSource)
  /-- REARM_DONE (R451). -/
  | rearmDone (b : BenchIx) (t : Nat) (ch : Fin 32)
  /-- DIGEST_UPDATE (R458). -/
  | digestUpdate (b : BenchIx) (t : Nat)
  /-- INTERVAL_END (R457). -/
  | intervalEnd (b : BenchIx) (t : Nat)
  /-- GAUGE_SAMPLE (R465). -/
  | gaugeSample (b : BenchIx) (x : GaugeTick)
  /-- PERIOD_END (R464). -/
  | periodEnd (b : BenchIx) (t : Nat)
  /-- HEARTBEAT_TX (R475). -/
  | heartbeatTx (b : BenchIx) (t : Nat)
  /-- HEARTBEAT_RX (R475). -/
  | heartbeatRx (b : BenchIx) (t : Nat) (hb : Heartbeat) (same : Bool)
  /-- TALLY_TOGGLE (R473). -/
  | tallyToggle (b : BenchIx) (t : Nat) (own : Bool)
  /-- NALRY_LOST (R475). -/
  | nalryLost (b : BenchIx) (t : Nat)
  /-- TALLY_LOST (R475). -/
  | tallyLost (b : BenchIx) (t : Nat)
  /-- CUSTODY_CHANGE (R488). -/
  | custodyChange (b : BenchIx) (t : Nat) (level : Bool)
  /-- RUN_CLAIM_DONE (R477). -/
  | runClaimDone (b : BenchIx) (t : Nat) (claim : Option Bool)
  /-- TAKEOVER (R489). -/
  | takeover (b : BenchIx) (t : Nat)
  /-- DRIVE_MOMENT (R490). -/
  | driveMoment (b : BenchIx) (t : Nat)
  /-- COPY_COMMIT (R482). -/
  | copyCommit (b : BenchIx) (t : Nat) (item : CopyItem)
  /-- NOTICE (R483). -/
  | notice (b : BenchIx) (t : Nat) (n : Notice)
  /-- FULL_COPY_COMMIT (R479). -/
  | fullCopyCommit (b : BenchIx) (t : Nat) (full : FullCopy)
  /-- HANDOVER_GAP_TEST (R494). -/
  | handoverGapTest (b : BenchIx) (t : Nat)
  /-- HANDOVER_ACK_TIMEOUT (R495). -/
  | handoverAckTimeout (b : BenchIx) (t : Nat)
  /-- HANDOVER_RELEASE_TIMEOUT (R495). -/
  | handoverReleaseTimeout (b : BenchIx) (t : Nat)
  /-- GUARD_SESSION_TIMEOUT (R545). -/
  | guardSessionTimeout (t : Nat)
  /-- PACE_RECOVERED (R68). -/
  | paceRecovered (b : BenchIx) (t rate : Nat)
  /-- FACE_POWER_RETURN (R314). -/
  | facePowerReturn (b : BenchIx) (t : Nat)
  /-- VIN_INPUT_GOOD (R555). -/
  | vinInputGood (t : Nat) (inputB : Bool)
  /-- VBAT_CALENDAR_LOSS (R89). -/
  | vbatCalendarLoss (t : Nat)
  /-- NALRY_LANE_UP (R475). -/
  | nalryLaneUp (b : BenchIx) (t : Nat)
  /-- NALRY_LANE_DOWN (R475). -/
  | nalryLaneDown (b : BenchIx) (t : Nat)
  /-- HAUL_LINK_UP (R412). -/
  | haulLinkUp (b : BenchIx) (t : Nat)
  /-- CAN_INTEGRATED (R440). -/
  | canIntegrated (b : BenchIx) (t : Nat) (k : Fin 2)
  /-- MDIO_COMPLETE (R5). -/
  | mdioComplete (b : BenchIx) (t : Nat) (data : BitVec 16)
  /-- HANDOVER_RELEASE (R494). -/
  | handoverRelease (b : BenchIx) (t : Nat)
  /-- FULL_COPY_REQUEST (R479). -/
  | fullCopyRequest (b : BenchIx) (t : Nat)
  /-- COPY_BLOCK (R482). -/
  | copyBlock (b : BenchIx) (t : Nat) (rx : LaneRx)
  deriving DecidableEq, Repr

end Sys2Proof
end

