-- ==== Sys2Proof/Decode.lean ====
section
/-!
DEFINITION. Words of commands. No row of the operations and events table gives bits: a command is a packet with
its operands, an event is what happens at a land or an instant, so no word spells one.
-/
namespace Sys2Proof

/-- The command that a word of the table spells: none, since the table gives no row any bits. -/
def decodeTableWord (_nbits _w : Nat) : Option Instr := none

end Sys2Proof
end

