-- ==== Sys2Proof/Machine/Bits.lean ====
section
/-!
DEFINITION. Bit fields, saturating counters, sign extension, convergent rounding and integer roots:
the small arithmetic every block of the module uses.
-/
namespace Sys2Proof.Machine

/-- The field [hi:lo] of a word, as a number (the notation of 00_scope). -/
def fld {n : Nat} (w : BitVec n) (hi lo : Nat) : Nat := (w.toNat >>> lo) % 2 ^ (hi - lo + 1)

/-- One bit of a word. -/
def bitOf {n : Nat} (w : BitVec n) (i : Nat) : Bool := w.getLsbD i

/-- The word with bit i put to b. -/
def putBit {n : Nat} (w : BitVec n) (i : Nat) (b : Bool) : BitVec n :=
  if b then w ||| BitVec.ofNat n (2 ^ i) else w &&& ~~~ BitVec.ofNat n (2 ^ i)

/-- The word with field [hi:lo] put to v. -/
def putFld {n : Nat} (w : BitVec n) (hi lo v : Nat) : BitVec n :=
  let m := 2 ^ (hi - lo + 1)
  (w &&& ~~~ BitVec.ofNat n ((m - 1) <<< lo)) ||| BitVec.ofNat n ((v % m) <<< lo)

/-- A word from a field value at a position. -/
def at32 (v lo : Nat) : Word := BitVec.ofNat 32 (v <<< lo)

/-- A Boolean as a number. -/
def b2n (b : Bool) : Nat := if b then 1 else 0

/-- An event counter after one event: it stops at all-ones (R9). -/
def inc (c : Word) : Word := if c = BitVec.allOnes 32 then c else c + 1

/-- An event counter after k events (R9). -/
def incBy (c : Word) (k : Nat) : Word :=
  if c.toNat + k < 2 ^ 32 then BitVec.ofNat 32 (c.toNat + k) else BitVec.allOnes 32

/-- A W1C register after a write: each 1 clears its bit (R3, R4). -/
def w1c (r v : Word) : Word := r &&& ~~~ v

/-- The low and the high word of a 64-bit quantity (R7). -/
def lo32 (n : Nat) : Word := BitVec.ofNat 32 n
def hi32 (n : Nat) : Word := BitVec.ofNat 32 (n >>> 32)

/-- A 64-bit quantity from its two words, low word first. -/
def cat64 (lo hi : Word) : Nat := lo.toNat + (hi.toNat <<< 32)

/-- The two's complement value of the low n bits of v. -/
def sext (n v : Nat) : Int :=
  let u := v % 2 ^ n
  if u < 2 ^ (n - 1) then (u : Int) else (u : Int) - (2 ^ n : Nat)

/-- A word as an INT32 (R10). -/
def s32 (w : Word) : Int := w.toInt

/-- The low half of a word as an INT16 or Q15 integer (R10). -/
def s16 (w : Word) : Int := sext 16 w.toNat

/-- An integer as a 32-bit two's complement word, wrapping. -/
def ofS (i : Int) : Word := BitVec.ofInt 32 i

/-- An integer as a 16-bit field. -/
def half (i : Int) : Nat := (BitVec.ofInt 16 i).toNat

/-- The smaller and larger of two integers, and an integer limited to a range. -/
def clipInt (lo hi z : Int) : Int := if z < lo then lo else if hi < z then hi else z

/-- num / den rounded convergently: exactly half way goes to the even neighbour (R11). -/
def roundDiv (num : Int) (den : Nat) : Int :=
  let q := num.fdiv den
  let r := num.fmod den
  if 2 * r < den then q
  else if 2 * r > den then q + 1
  else if q % 2 = 0 then q else q + 1

/-- One step of the digit-by-digit square root. -/
def isqrtStep (n : Nat) (r i : Nat) : Nat :=
  let c := r + 2 ^ i
  if c * c ≤ n then c else r

/-- The integer part of the square root of n, for n below 2^(2 * bits). -/
def isqrtBits (n : Nat) : Nat → Nat → Nat
  | 0, r => r
  | k + 1, r => isqrtBits n k (isqrtStep n r k)

/-- The integer part of the square root, for arguments below 2^160. -/
def isqrt (n : Nat) : Nat := isqrtBits n 80 0

/-- The integer nearest to the square root; a root is never half way between two integers (R223). -/
def sqrtNear (n : Nat) : Nat :=
  let r := isqrt n
  if n > r * r + r then r + 1 else r

/-- num / den rounded up. -/
def ceilDiv (num den : Nat) : Nat := (num + den - 1) / den

/-- The first multiple of m at or after x. -/
def firstMul (m x : Nat) : Nat := ceilDiv x m * m

/-- One byte of the reflected CRC-32C (polynomial 0x82F63B78), eight bit steps. -/
def crcBits : Nat → Word → Word
  | 0, c => c
  | k + 1, c =>
    crcBits k (if bitOf c 0 then (c >>> (1 : Nat)) ^^^ 0x82F63B78#32 else c >>> (1 : Nat))

/-- A CRC-32C register advanced over one byte, reflected, without final inversion (R189). -/
def crcByte (c : Word) (b : Byte) : Word := crcBits 8 (c ^^^ b.setWidth 32)

/-- The four bytes of a word, lowest first. -/
def bytesOf (w : Word) : List Byte :=
  [w.setWidth 8, (w >>> (8 : Nat)).setWidth 8, (w >>> (16 : Nat)).setWidth 8, (w >>> (24 : Nat)).setWidth 8]

/-- A CRC-32C register advanced over the bytes of a word, lowest byte first. -/
def crcWord (c : Word) (w : Word) : Word := (bytesOf w).foldl crcByte c

/-- The CRC-32C of a list of words, with the usual start and final inversion. -/
def crc32c (ws : List Word) : Word := ~~~ (ws.foldl crcWord (BitVec.allOnes 32))

end Sys2Proof.Machine
end

