-- ==== Sys2Proof/Machine/Table.lean ====
section
/-!
DEFINITION. Sparse tables: a list of (index, value) pairs with indices strictly rising and no pair
equal to what an unlisted index reads as. Memory (instance SRAM, capture memory, message RAM) and the
large tables of a bench (points, loops, axes, step store, logs) are held in this one canonical form.
-/
namespace Sys2Proof.Machine

/-- A sparse table. -/
abbrev Tbl (α : Type) := List (Nat × α)

/-- The entry at k; an unlisted index reads as d. -/
def Tbl.get {α : Type} (d : α) : Tbl α → Nat → α
  | [], _ => d
  | (i, v) :: r, k => if i = k then v else Tbl.get d r k

/-- The table with k put to v, whatever v is: the sorted place, replacing an entry of the same index. -/
def Tbl.insert {α : Type} (k : Nat) (v : α) : Tbl α → Tbl α
  | [] => [(k, v)]
  | (i, u) :: r =>
    if k < i then (k, v) :: (i, u) :: r
    else if i = k then (k, v) :: r
    else (i, u) :: Tbl.insert k v r

/-- The table without any entry at k. -/
def Tbl.erase {α : Type} (k : Nat) : Tbl α → Tbl α
  | [] => []
  | (i, u) :: r => if i = k then Tbl.erase k r else (i, u) :: Tbl.erase k r

/-- The table with k put to v; putting the value an unlisted index reads as removes the entry. -/
def Tbl.set {α : Type} [DecidableEq α] (d : α) (t : Tbl α) (k : Nat) (v : α) : Tbl α :=
  if v = d then Tbl.erase k t else Tbl.insert k v t

/-- The table with the entry at k changed by f. -/
def Tbl.modify {α : Type} [DecidableEq α] (d : α) (t : Tbl α) (k : Nat) (f : α → α) : Tbl α :=
  Tbl.set d t k (f (Tbl.get d t k))

/-- Every index listed is above n. -/
def Tbl.above {α : Type} (n : Nat) : Tbl α → Bool
  | [] => true
  | (i, _) :: r => n < i && Tbl.above n r

/-- The canonical form: indices strictly rising, no entry equal to the unlisted value. -/
def Tbl.wf {α : Type} [DecidableEq α] (d : α) : Tbl α → Bool
  | [] => true
  | (i, v) :: r => (v ≠ d) && Tbl.above i r && Tbl.wf d r

/-- Every entry listed, changed by f of its index (entries that become d are dropped). -/
def Tbl.mapAll {α : Type} [DecidableEq α] (d : α) (f : Nat → α → α) : Tbl α → Tbl α
  | [] => []
  | (i, v) :: r => if f i v = d then Tbl.erase i (Tbl.mapAll d f r) else (i, f i v) :: Tbl.mapAll d f r

end Sys2Proof.Machine
end

