-- ==== Sys2Proof/Machine/StateHost.lean ====
section
/-!
DEFINITION. The parts of State that chapter 16 (host port) and the shared register rules (R2 to R8) give:
what the module writes to the host, the four queues of a bench function, one PCI Express function,
and the mailbox and bedrock registers.
-/
namespace Sys2Proof.Machine

/-- Status codes of a completion (R523). -/
inductive Status where
  | ok | deferred | partialDone | badOpcode | badParam | badState | guardDenied | noResource | busy
  | cancelled | timeout | checkFailed | password | postExceeds | overBudget | notEligible
  deriving DecidableEq, Repr

/-- The number of a status (R523). -/
def Status.code : Status → Nat
  | .ok => 0 | .deferred => 1 | .partialDone => 2 | .badOpcode => 0x100 | .badParam => 0x101
  | .badState => 0x102 | .guardDenied => 0x103 | .noResource => 0x104 | .busy => 0x105
  | .cancelled => 0x106 | .timeout => 0x107 | .checkFailed => 0x108 | .password => 0x109
  | .postExceeds => 0x10A | .overBudget => 0x10B | .notEligible => 0x10C

/-- What the module writes into host memory or sends on the link, in order. It is the only way the
host sees completions, events, stream records and vectors (R511, R518, R521, R524, R527, R533). -/
inductive HostMsg where
  | completion (result : Nat) (status : Status) (tag : BitVec 16) (phase : Bool) (cmdHead : Nat)
  | event (w0 w1 w2 w3 w4 w5 w6 w7 : Word)
  | stream (typ fifo len rseq units : Nat) (phase : Bool) (body : List Word) (crc : Word)
  | vector (v : Nat)
  | buffer (tag : BitVec 16) (data : List Word)
  deriving DecidableEq, Repr

/-- One queue of a bench function (R508, R513). -/
structure Queue where
  baseLo : Word := 0
  baseHi : Word := 0
  size : Word := 2
  ctrl : Word := 0
  head : Nat := 0
  tail : Nat := 0
  phase : Bool := false
  error : Bool := false
  /-- Counted entries since the vector was last sent, and when the first was written (R534). -/
  counted : Nat := 0
  firstAt : Time := 0
  deriving DecidableEq, Repr

/-- A command taken and not yet completed (R519, R520). -/
structure InFlight where
  tag : BitVec 16
  opcode : Nat := 0
  noirq : Bool := false
  /-- Its parameter words, and the bytes of its host buffer list (R516, R518). -/
  params : List Word := []
  bytes : Option Nat := none
  /-- It has been accepted (R520). -/
  accepted : Bool := false
  /-- Taken before a reset of the function: its completion is discarded (R504). -/
  orphan : Bool := false
  deriving DecidableEq, Repr

/-- A stream record that is ready (R528): a digest part with its body, or the next packet of a FIFO. -/
inductive StreamReady where
  | digest (body : List Word)
  | fifo (n : Nat)
  deriving DecidableEq, Repr

def StreamReady.isDigest : StreamReady → Bool
  | .digest _ => true
  | .fifo _ => false

/-- The QC_ block of a bench function and its queue engine (R513 to R528). -/
structure Qc where
  q : Vector Queue 4 := Vector.replicate 4 {}
  err : Word := 0
  evtDrop : Word := 0
  dbBad : Word := 0
  cplDisc : Word := 0
  inflight : List InFlight := []
  /-- The last acceptance (R520). -/
  accAt : Option Time := none
  /-- Stream records that are ready, in the order in which they became ready (R528). -/
  ready : List StreamReady := []
  /-- SEQ of the next event, and whether entries were dropped since the last written one (R524, R526). -/
  evtSeq : Word := 0
  gap : Bool := false
  /-- RSEQ of the next stream record (R527). -/
  rseq : Word := 0
  /-- Everything written to the host so far, oldest first. -/
  sent : List HostMsg := []
  deriving DecidableEq, Repr

/-- One PCI Express function (R2, R7, R8, R36, R273, R502, R533). -/
structure Fn where
  /-- Power state D3hot instead of D0 (R502, R504). -/
  d3 : Bool := false
  /-- MSI-X mask and pending bits, one per vector. Masked at reset: PRESUMED, PCI Express. -/
  mask : BitVec 8 := 0xFF
  pend : BitVec 8 := 0
  /-- The high word held by the last low-word read, with the low word's offset (R7). -/
  held : Option (Nat × Word) := none
  /-- Low words written and not yet stored, by low-word offset (R8). -/
  lows : Tbl (Option Word) := []
  /-- The held copy of a point entry: point, then words 0x4, 0x8 and 0xC, each until it is read (R36). -/
  heldPoint : Option (Nat × List (Option Word)) := none
  /-- The held copy of a recipe run state: slot, then words 0x04 to 0x1C, each until it is read (R273). -/
  heldRun : Option (Nat × List (Option Word)) := none
  /-- Value returned by the last register read of this function. -/
  lastRead : Word := 0
  /-- AER unsupported-request status (R2). -/
  aer : Bool := false
  deriving DecidableEq, Repr

/-- The test port (R571 to R573): which instruction is selected. -/
inductive TapIr where
  | bypass | idcode | samplePreload | extest | clamp | highz | debug
  deriving DecidableEq, Repr

/-- The open guard session (R545): operator ID and the moment of its last guard activity. -/
structure GuardSession where
  oper : BitVec 16
  last : Time
  deriving DecidableEq, Repr

/-- The module-wide part: hub die, backup domain, supply, straps, time block, MG_, BD_ and GS_ blocks. -/
structure Hub where
  /-- Module reference rail (R48). -/
  mref : Time := 0
  /-- ns since power-up of the hub, not moved by a setting of the reference rail. -/
  up : Time := 0
  /-- ORed VIN decided good (R88), each input alone (R555), VBAT low (R559). -/
  vinGood : Bool := false
  vinAOk : Bool := false
  vinBOk : Bool := false
  vbatLow : Bool := false
  calValid : Bool := false
  lossValid : Bool := false
  /-- Calendar in 1/32,768 s (R89, R104) and calendar at the last supply loss. -/
  calendar : Nat := 0
  /-- `up` at which `calendar` was the calendar's value. -/
  calAt : Time := 0
  lossTime : Nat := 0
  /-- MRST_N low and recognised (R568). -/
  inReset : Bool := true
  /-- The next bench starts follow a supply loss (R93). -/
  supplyStart : Bool := true
  /-- Straps as sampled at the last release of MRST_N; open straps read 1 (R47, R569). -/
  mid : BitVec 6 := 0x3F
  pairStrap : Bool := true
  /-- Time block (R78, R79). -/
  timeCtrl : Word := 0
  syncComp : Word := 0
  orderWin : Word := 0x58
  /-- Module-wide parts of every bench's TM_STATUS (R75); `up` of the last valid marker or of becoming a member, and
  whether markers have been missing for 5 ms since (R62). -/
  syncOk : Bool := false
  syncAt : Time := 0
  syncDown : Bool := false
  ptmAt : Option Time := none
  /-- MG_ general block (R507). MG_LINK: link trained at 16 GT/s x4, DESIGN CHOICE. -/
  mgLink : Word := 0x00040400
  mgEvents : Word := 0
  mgErr : Word := 0
  mbox : Vector Word 16 := Vector.replicate 16 0
  /-- Bytes of the host buffer list of the command in the mailbox (R518). -/
  mboxBytes : Nat := 0
  mboxCpl : Vector Word 4 := Vector.replicate 4 0
  mboxBusy : Bool := false
  /-- Bedrock (R536). -/
  bdCmd : Word := 0
  /-- The operation in progress: OP, and its bench or mask (R5, R536). -/
  bdOp : Option (Nat × Nat) := none
  bdSlot : Word := 0
  bdStat : Word := 0
  bdBuf : Vector Word 64 := Vector.replicate 64 0
  /-- The result of the operation in progress is lost: function 0 was reset meanwhile (R505). -/
  bdLost : Bool := false
  /-- Guard session block (R545, R554). -/
  gsEvents : Word := 0
  gsSel : Word := 0
  gsDenied : Word := 0
  gsRej : Word := 0
  session : Option GuardSession := none
  /-- The bench whose debug port was opened last, as GS_STATUS names it (R554, R573). -/
  debugBench : Option BenchIx := none
  /-- Test port (R571). IDCODE selected at reset: PRESUMED, IEEE 1149.1. -/
  tap : TapIr := .idcode
  /-- What the selected data register last captured. -/
  tdr : Word := 0x11616B3B
  /-- How many values that the spec leaves open the hub has taken (Config.freeValue). -/
  free : Nat := 0
  /-- Vectors and host buffers of function 0, oldest first. -/
  sent : List HostMsg := []
  /-- PHASE of the last mailbox completion (R530). -/
  mboxPhase : Bool := false
  fn : Fn := {}
  deriving DecidableEq, Repr

end Sys2Proof.Machine
end

