-- ==== Sys2Proof/Machine/ConfigSpace.lean ====
section
/-!
DEFINITION. What the endpoint shows of itself in configuration space and at BAR4 (R502, R503). No command reads either;
they are constants, but for the vector control bits and pending bits, which are the function's own.
-/
namespace Sys2Proof.Machine

/-- A base address register pair: 64-bit, non-prefetchable, bytes that it maps. -/
structure BarSize where
  bar : Nat
  bytes : Nat
  deriving DecidableEq, Repr

/-- A function's configuration space, as far as chapter 16 gives it. -/
structure ConfigSpace where
  vendor : BitVec 16
  device : BitVec 16
  revision : Byte
  classCode : BitVec 24
  bars : List BarSize
  /-- MSI-X vectors; no MSI, and no legacy interrupt: Interrupt Pin reads 0. -/
  vectors : Nat
  interruptPin : Byte := 0
  /-- Largest payload supported and largest read request, in bytes. -/
  maxPayload : Nat := 512
  maxRead : Nat := 4096
  /-- Power states D0 and D3hot only; no ASPM state. -/
  d1 : Bool := false
  d2 : Bool := false
  aspm : Bool := false
  ari : Bool := true
  flr : Bool := true
  aer : Bool := true
  ptm : Bool
  serial : Bool
  srIov : Bool := false
  deriving DecidableEq, Repr

/-- Function 0, and functions 1 to 16 (R502, R503). -/
def configSpace (fn : FnIx) : ConfigSpace :=
  { vendor := 0x1E8D, device := if fn = 0 then 0x1616 else 0x1617, revision := 0xA1, classCode := 0x118000,
    bars := [{ bar := 0, bytes := if fn = 0 then 65536 else 1048576 }, { bar := 2, bytes := 4096 }, { bar := 4, bytes := 4096 }],
    vectors := if fn = 0 then 6 else 5, ptm := fn = 0, serial := fn = 0 }

/-- Words of the type 0 header whose place the PCI Express Base Specification fixes: identification, revision and class,
Interrupt Pin. PRESUMED (log 46): the places. -/
def configWord (fn : FnIx) (off : Nat) : Option Word :=
  let c := configSpace fn
  match off with
  | 0x00 => some (c.vendor.setWidth 32 ||| at32 c.device.toNat 16)
  | 0x08 => some (c.revision.setWidth 32 ||| at32 c.classCode.toNat 8)
  | 0x3C => some (at32 c.interruptPin.toNat 8)
  | _ => none

/-- The words of BAR4 that are the function's: MSI-X vector control of the table at 0x000, PBA at 0x800. Message address
and data of an entry are the host's; vectors leave this model by number. -/
def msixWord (fn : FnIx) (f : Fn) (off : Nat) : Option Word :=
  if off = 0x800 then some (f.pend.setWidth 32)
  else if off % 16 = 12 && off / 16 < (configSpace fn).vectors then some (at32 (b2n (f.mask.getLsbD (off / 16))) 0)
  else none

end Sys2Proof.Machine
end

