-- ==== Sys2Proof/Config.lean ====
section
/-!
DEFINITION. Values that the spec leaves open. Each is a constant without a body: nothing can be proved
of it, and a statement that mentions it holds whatever it is.
-/
namespace Sys2Proof

/-- The n-th value that the spec leaves open, as a number; the machine counts them in its state, for each bench
(owner 0 to 15) and for the hub (owner 16) apart. -/
opaque Config.freeValue : Nat → Nat → Nat

end Sys2Proof
end

