-- ==== Sys2Proof/Machine/Packets.lean ====
section
/-!
DEFINITION. Command packets: their fields, host buffer lists, opcodes, and the packet that a command row stands for
(R516 to R518, R520, R529, R546).
-/
namespace Sys2Proof.Machine

/-! ### Fields (R516) -/

def pktOpcode (p : Packet) : Nat := fld p.w0 15 0
def pktTag (p : Packet) : BitVec 16 := BitVec.ofNat 16 (fld p.w0 31 16)
def pktPlen (p : Packet) : Nat := fld p.w1 21 16
def pktBench (p : Packet) : Nat := fld p.w1 11 8
def pktFence (p : Packet) : Bool := bitOf p.w1 2
def pktNoirq (p : Packet) : Bool := bitOf p.w1 1
def pktList (p : Packet) : Bool := bitOf p.w1 0
/-- The twelve parameter words, offsets 0x10 to 0x3F. -/
def pktParams (p : Packet) : List Word := (p.params ++ List.replicate 12 0).take 12

/-! ### Host buffer lists (R518) -/

/-- A descriptor keeps its limits. -/
def Descriptor.ok (d : Descriptor) : Bool := d.addr % 4 = 0 && d.len.toNat % 4 = 0 && 4 ≤ d.len.toNat && d.len.toNat ≤ 16777216
/-- The descriptors up to the one with LAST; none where 4,096 go by without it, or memory shows no more. -/
def untilLast : Nat → List Descriptor → Option (List Descriptor)
  | 0, _ => none
  | _ + 1, [] => none
  | n + 1, d :: r => if bitOf d.w3 31 then some [d] else (untilLast n r).map (d :: ·)
/-- Buffer bytes of a list in all. -/
def listBytes (l : List Descriptor) : Nat := l.foldl (fun n d => n + d.len.toNat) 0
/-- The buffer bytes of a list that keeps the limits of R518; none where it does not. -/
def hostList (addr : Nat) (l : List Descriptor) : Option Nat :=
  match untilLast 4096 l with
  | some l => if addr % 16 = 0 && l.all Descriptor.ok && listBytes l ≤ 67108864 then some (listBytes l) else none
  | none => none
def pktBytes (p : Packet) : Option Nat := hostList p.addr p.list

/-! ### Opcodes (R529, R546): parameter bytes, and whether a host buffer list follows -/

/-- What a defined opcode of a bench queue needs. -/
def opcodeNeeds (op : Nat) : Option (Nat × Bool) :=
  match op with
  | 0x0101 | 0x0102 | 0x0103 | 0x0105 | 0x0106 | 0x0107 | 0x0108 => some (0, false)
  | 0x0104 => some (4, false)
  | 0x0201 => some (0, true) | 0x0202 => some (0, false) | 0x0203 => some (8, false) | 0x0204 => some (0, false)
  | 0x0205 => some (24, false) | 0x0206 => some (8, false) | 0x0207 => some (4, false)
  | 0x0301 => some (4, false) | 0x0302 => some (8, false) | 0x0303 => some (8, false) | 0x0304 => some (32, false)
  | 0x0305 => some (4, true) | 0x0306 => some (4, false)
  | 0x0401 => some (8, true) | 0x0402 => some (24, false) | 0x0403 => some (16, false) | 0x0404 => some (16, false)
  | 0x0405 => some (20, false) | 0x0406 => some (16, false)
  | 0x0501 => some (16, false) | 0x0502 => some (12, false) | 0x0503 => some (16, false) | 0x0504 => some (4, false)
  | 0x0505 => some (12, false) | 0x0506 => some (8, false) | 0x0507 => some (4, false)
  | 0x0601 => some (0, false) | 0x0602 => some (16, false)
  | 0x0701 => some (20, false) | 0x0702 => some (0, false) | 0x0703 => some (8, false) | 0x0704 => some (36, false)
  | 0x0705 => some (4, false) | 0x0706 => some (16, false) | 0x0707 => some (8, true)
  | 0x0801 => some (12, false) | 0x0802 => some (4, false) | 0x0803 => some (4, false) | 0x0804 => some (4, true)
  | 0x0901 => some (0, true) | 0x0902 => some (0, false) | 0x0903 => some (8, true) | 0x0904 => some (0, false)
  | 0x0A01 => some (4, false) | 0x0B01 => some (4, false) | 0x0B02 => some (4, false)
  | 0x0C01 => some (12, false) | 0x0C02 => some (0, false)
  | 0x0D01 => some (8, false) | 0x0D02 => some (0, false)
  | 0x0F01 => some (0, true) | 0x0F02 => some (0, false) | 0x0F03 => some (0, false)
  | _ => none

/-- What an opcode of the management mailbox needs (R546). -/
def mailboxNeeds (op : Nat) : Option (Nat × Bool) :=
  match op with
  | 0x0E01 => some (4, false) | 0x0E02 => some (0, false) | 0x0E03 => some (8, true)
  | 0x0E04 => some (16, false) | 0x0E05 => some (0, false)
  | _ => none

/-- Step 2 of R520. -/
def pktHeaderOk (p : Packet) (bench : Nat) (need : Nat × Bool) : Bool :=
  (pktBench p) = bench && p.w1 &&& 0xFFC0F0F8#32 = 0 && need.1 ≤ (pktPlen p) && (pktList p) = need.2 &&
  (!(pktList p) || (pktBytes p).isSome)

/-! ### The packet of a command row (R517) -/

/-- Opcode and parameter words of the packet that a command row stands for; the parameter, if any, that is 16 bits wide. -/
structure Asked where
  c : Cmd
  op : Nat
  ps : List Word := []
  half : Option Nat := none

/-- A password as four words, padded with 0x00. -/
def passwordWords (pw : List Byte) : List Word :=
  let l := (pw ++ List.replicate 16 0).take 16
  (List.range 4).map fun i =>
    ((l.drop (4 * i)).take 4).foldr (fun (x : Byte) (w : Word) => (w <<< 8) ||| x.setWidth 32) 0

/-- What each command row takes from its packet: parameters that share a word are one operand; an instant is two, the low
word first. -/
def packetOf (i : Instr) : Option Asked :=
  match i with
  | .benchRun c => some { c := c, op := 0x0101 }
  | .benchShadow c => some { c := c, op := 0x0102 }
  | .benchHold c => some { c := c, op := 0x0103 }
  | .benchWarmRestart c target => some { c := c, op := 0x0104, ps := [target] }
  | .benchColdStart c => some { c := c, op := 0x0105 }
  | .benchStop c => some { c := c, op := 0x0106 }
  | .benchReset c => some { c := c, op := 0x0107 }
  | .hostKeepalive c => some { c := c, op := 0x0108 }
  | .progLoad c _ => some { c := c, op := 0x0201 }
  | .progActivate c => some { c := c, op := 0x0202 }
  | .progChange c ack maxDefer => some { c := c, op := 0x0203, ps := [ack, maxDefer] }
  | .progChangeAbort c => some { c := c, op := 0x0204 }
  | .progSetTiming c task p ph off d g => some { c := c, op := 0x0205, ps := [task, p, ph, off, d, g] }
  | .forceSet c point value => some { c := c, op := 0x0206, ps := [point, value] }
  | .forceClear c point => some { c := c, op := 0x0207, ps := [point] }
  | .loopSetMode c w => some { c := c, op := 0x0301, ps := [w] }
  | .loopSetSp c w sp => some { c := c, op := 0x0302, ps := [w, sp] }
  | .loopSetOut c w out => some { c := c, op := 0x0303, ps := [w, out] }
  | .loopTune c w v0 v1 v2 v3 v4 v5 v6 => some { c := c, op := 0x0304, ps := [w, v0, v1, v2, v3, v4, v5, v6] }
  | .loopSetTable c w _ => some { c := c, op := 0x0305, ps := [w] }
  | .loopClear c w => some { c := c, op := 0x0306, ps := [w] }
  | .rcpLoadSteps c first count _ => some { c := c, op := 0x0401, ps := [first, count] }
  | .rcpStart c slot first abort lo hi flags => some { c := c, op := 0x0402, ps := [slot, first, abort, lo, hi, flags] }
  | .rcpPause c slot lo hi late => some { c := c, op := 0x0403, ps := [slot, lo, hi, late] }
  | .rcpResume c slot lo hi late => some { c := c, op := 0x0404, ps := [slot, lo, hi, late] }
  | .rcpSkip c slot step lo hi late => some { c := c, op := 0x0405, ps := [slot, step, lo, hi, late] }
  | .rcpAbort c slot lo hi late => some { c := c, op := 0x0406, ps := [slot, lo, hi, late] }
  | .mxMove c w target lo hi => some { c := c, op := 0x0501, ps := [w, target, lo, hi] }
  | .mxJog c w lo hi => some { c := c, op := 0x0502, ps := [w, lo, hi] }
  | .mxSetDyn c w vmax acc dec => some { c := c, op := 0x0503, ps := [w, vmax, acc, dec] }
  | .mxStop c w => some { c := c, op := 0x0504, ps := [w] }
  | .mxHome c w lo hi => some { c := c, op := 0x0505, ps := [w, lo, hi] }
  | .mxSetPos c w p => some { c := c, op := 0x0506, ps := [w, p] }
  | .mxClear c w => some { c := c, op := 0x0507, ps := [w] }
  | .faceFaultClear c => some { c := c, op := 0x0601 }
  | .faceEncSet c w count lo hi => some { c := c, op := 0x0602, ps := [w, count, lo, hi] }
  | .qnUnlock c pw oper => some { c := c, op := 0x0701, ps := passwordWords pw ++ [oper.setWidth 32], half := some 4 }
  | .qnLock c => some { c := c, op := 0x0702 }
  | .qnCommit c crc oper => some { c := c, op := 0x0703, ps := [crc, oper.setWidth 32], half := some 1 }
  | .qnSetPassword c old new oper => some { c := c, op := 0x0704, ps := passwordWords old ++ passwordWords new ++ [oper.setWidth 32], half := some 8 }
  | .qnFaultClear c oper _ _ => some { c := c, op := 0x0705, ps := [oper.setWidth 32], half := some 0 }
  | .qnSetRef c w pos lo hi => some { c := c, op := 0x0706, ps := [w, pos, lo, hi] }
  | .qnLogRead c first count => some { c := c, op := 0x0707, ps := [first, count] }
  | .kfArm c w pre post => some { c := c, op := 0x0801, ps := [w, pre, post] }
  | .kfDisarm c w => some { c := c, op := 0x0802, ps := [w] }
  | .kfTrigger c w => some { c := c, op := 0x0803, ps := [w] }
  | .kfRead c w => some { c := c, op := 0x0804, ps := [w] }
  | .dgSetProfiles c _ => some { c := c, op := 0x0901 }
  | .dgCloseNow c => some { c := c, op := 0x0902 }
  | .hlRead c first count => some { c := c, op := 0x0903, ps := [first, count] }
  | .hlCloseNow c => some { c := c, op := 0x0904 }
  | .haulStationSet c w => some { c := c, op := 0x0A01, ps := [w] }
  | .canRecover c w => some { c := c, op := 0x0B01, ps := [w] }
  | .canObjSet c w => some { c := c, op := 0x0B02, ps := [w] }
  | .redunHandover c lo hi maxDefer => some { c := c, op := 0x0C01, ps := [lo, hi, maxDefer] }
  | .redunResync c => some { c := c, op := 0x0C02 }
  | .timeSet c lo hi => some { c := c, op := 0x0D01, ps := [lo, hi] }
  | .timeRead c => some { c := c, op := 0x0D02 }
  | .guardOpen c oper => some { c := c, op := 0x0E01, ps := [oper] }
  | .guardClose c => some { c := c, op := 0x0E02 }
  | .guardLogRead c first count => some { c := c, op := 0x0E03, ps := [first, count] }
  | .qnPasswordReplace c pw => some { c := c, op := 0x0E04, ps := passwordWords pw }
  | .debugOpen c => some { c := c, op := 0x0E05 }
  | .fwLoad c _ _ => some { c := c, op := 0x0F01 }
  | .fwSelect c => some { c := c, op := 0x0F02 }
  | .fwInfo c => some { c := c, op := 0x0F03 }
  | _ => none

/-- The parameter words of a packet agree with the row's; bytes beyond those the command uses are ignored. -/
def Asked.agrees (a : Asked) (ws : List Word) : Bool :=
  (a.ps.zipIdx).all fun e =>
    let w := ws.getD e.2 0
    if a.half = some e.2 then fld w 15 0 = fld e.1 15 0 else w = e.1

/-- The command in progress that is the next to be accepted. -/
def Qc.nextTag (q : Qc) : Option (BitVec 16) := (q.inflight.find? fun f => !f.accepted).map (·.tag)

/-- The row is the acceptance of the command in progress with its tag: that one is the next in queue order (R520), and its
packet has the row's opcode, parameters and list. -/
def Qc.issued (a : Asked) (q : Qc) : Bool :=
  match q.inflight.find? (fun f => f.tag == a.c.tag) with
  | none => false
  | some f => f.opcode = a.op && f.noirq = a.c.noirq && (match f.bytes with | some n => n = a.c.buf | none => true) &&
      a.agrees f.params && q.nextTag = some a.c.tag

end Sys2Proof.Machine
end

