-- ==== Sys2Proof/Machine/StateCan.lean ====
section
/-!
DEFINITION. The part of State that chapter 13 (CAN FD) gives: one controller.
-/
namespace Sys2Proof.Machine

/-- Where a pending frame comes from (R431, R432, R439). -/
inductive CanSrc where
  | object (n : Nat) | fifo (n : Nat) | reference
  deriving DecidableEq, Repr

/-- A frame: H0, H1 and data words (R420). -/
structure CanFrame where
  h0 : BitVec 32
  h1 : BitVec 32
  data : List (BitVec 32) := []
  deriving DecidableEq, Repr

/-- A frame that waits for the bus (R430 to R432). -/
structure CanPending where
  src : CanSrc
  frame : CanFrame
  /-- Offered from this rail value on; withdrawn at (a frame already in transmission still completes). -/
  time : Nat
  dead : Option Nat := none
  /-- The allow-list let it pass when it was offered; a new offer is tested again (R432, R433). -/
  passed : Bool := false
  /-- The values its point slots carry, by point (R430). -/
  vals : List (Nat × BitVec 32) := []
  deriving DecidableEq, Repr

/-- STATE of CN_STATUS (R443). -/
inductive CanState where
  | off | integrating | active | passive | busOff | monitoring
  deriving DecidableEq, Repr
def CanState.code : CanState → Nat
  | .off => 0 | .integrating => 1 | .active => 2 | .passive => 3 | .busOff => 4 | .monitoring => 5

/-- A hold slot in use (R427): its buffer, and whether a later frame has replaced the one held. -/
structure CanHold where
  slot : Nat
  buf : Nat
  ovr : Bool := false
  deriving DecidableEq, Repr

/-- A CN_ block and its controller (R418, R442, R443); configuration registers are held with the Image registers. -/
structure Can where
  /-- Message RAM, by byte offset of a word. -/
  ram : Tbl (BitVec 32) := []
  addr : Nat := 0
  /-- Locked receive buffers, and since when (R427); hold slots in use. -/
  locks : List (Nat × Nat) := []
  holds : List CanHold := []
  state : CanState := .off
  txErr : Nat := 0
  rxErr : Nat := 0
  errType : Nat := 0
  errPhase : Bool := false
  loopDly : Nat := 0
  pending : List CanPending := []
  urgent : Option CanPending := none
  /-- Bus-off recovery has begun (R436). -/
  recovering : Bool := false
  cycle : Nat := 0
  refSof : Nat := 0
  /-- Counters 0x040 to 0x06C. -/
  cnt : Vector (BitVec 32) 12 := Vector.replicate 12 0
  load : BitVec 32 := 0
  coll : BitVec 32 := 0
  /-- Values last sent, by point (R430). -/
  last : Tbl (BitVec 32) := []
  /-- Frames sent, oldest first. -/
  sent : List CanFrame := []
  deriving DecidableEq, Repr

end Sys2Proof.Machine
end

