-- ==== Sys2Proof/Machine/StateFace.lean ====
section
/-!
DEFINITION. The part of State that chapter 10 (face) gives.
-/
namespace Sys2Proof.Machine

/-- A digital input (R321 to R325). -/
structure DigIn where
  /-- Latest raw sample, the debounced level, and the first of the raw samples that now show another level. -/
  raw : Bool := false
  level : Bool := false
  newAt : Option Nat := none
  /-- WIRE_BREAK, and since when the current lies on the other side of the threshold. -/
  wire : Bool := false
  wireAt : Option Nat := none
  /-- Current below the wire-break threshold at the latest sample. -/
  low : Bool := false
  deriving DecidableEq, Repr

/-- A digital output (R329 to R334, R541, R542). -/
structure DigOut where
  applied : Bool := false
  latched : Bool := false
  readback : Bool := false
  mismatch : Bool := false
  /-- When the applied value last changed (R330), and for the guards; switch-ons of the last second. -/
  changedAt : Nat := 0
  guardAt : Option Nat := none
  ons : List Nat := []
  /-- A change is being held back by a guard (R541). -/
  held : Bool := false
  /-- The value that the bench's frames carry (R42). -/
  want : Bool := false
  deriving DecidableEq, Repr

/-- An analog input (R336 to R338). -/
structure AnaIn where
  value : Int := 0
  quality : BitVec 16 := 0
  /-- Instant of the sample, and whether its point write is still to come. -/
  time : Nat := 0
  due : Bool := false
  alarmLo : Bool := false
  alarmHi : Bool := false
  wire : Bool := false
  /-- Consecutive samples on the other side, for each of the three bits. -/
  nLo : Nat := 0
  nHi : Nat := 0
  nWire : Nat := 0
  deriving DecidableEq, Repr

/-- An analog output (R339 to R341, R541). -/
structure AnaOut where
  /-- Applied value; the value and rail time from which a slewed change runs. -/
  u : Int := 0
  fromU : Int := 0
  fromAt : Nat := 0
  clip : Bool := false
  /-- Limit of the ramp in progress, per 10 µs; 0: none. -/
  slew : Nat := 0
  /-- Last value handed over before the guards, for counting clips once. -/
  asked : Int := 0
  compl : Bool := false
  wire : Bool := false
  nLow : Nat := 0
  nOk : Nat := 0
  nWire : Nat := 0
  meas : BitVec 16 := 0
  deriving DecidableEq, Repr

/-- One filtered encoder track (R342). -/
structure Track where
  level : Bool := false
  cand : Bool := false
  since : Nat := 0
  deriving DecidableEq, Repr

/-- An encoder (R342, R343). -/
structure Encoder where
  a : Track := {}
  b : Track := {}
  z : Track := {}
  count : Int := 0
  /-- Quoin lane B's own count of the same inputs, which FACE_ENC_SET does not alter (R343, R349). -/
  laneB : Int := 0
  /-- A rising Z edge not yet written: its rail time and the count. -/
  zEdge : Option (Nat × Int) := none
  zCount : Int := 0
  /-- FACE_ENC_SET: instants with their counts, earliest first. -/
  load : List (Nat × Int) := []
  deriving DecidableEq, Repr

/-- What the bench has of the face by its last frame (R42): raw samples, debounced levels, WIRE_BREAK bits, read-back
bits, L+ in mV, measured currents, encoder counts. -/
structure FaceReport where
  raw : Word := 0
  level : Word := 0
  wire : Word := 0
  readback : Word := 0
  applied : Word := 0
  lplus : Nat := 0
  meas : Vector (BitVec 16) 2 := Vector.replicate 2 0
  count : Vector Int 2 := Vector.replicate 2 0
  /-- AO_CLIP, OUT_FAULT, LOCKOUT and FIELD_WARN. -/
  clip : Bool := false
  fault : Bool := false
  lockout : Bool := false
  warn : Bool := false
  deriving DecidableEq, Repr

/-- What a bench asks of its face (R345): latched-off channels released, or an encoder's count set at an instant. -/
inductive FaceOrder where
  | clear
  | encSet (e : Fin 2) (instant : Nat) (count : Int)
  deriving DecidableEq, Repr

/-- What a face reports beside its samples, each of which the bench counts and raises (R325, R331, R333, R338, R340,
R343). -/
inductive FaceNews where
  | warn | lockout | reenabled | fault | wire | alarm | compliance | encErr
  deriving DecidableEq, Repr

/-- The FC_ block and the face die (R346, R347). -/
structure Face where
  di : Vector DigIn 16 := Vector.replicate 16 {}
  do_ : Vector DigOut 8 := Vector.replicate 8 {}
  ai : Vector AnaIn 4 := Vector.replicate 4 {}
  ao : Vector AnaOut 2 := Vector.replicate 2 {}
  enc : Vector Encoder 2 := Vector.replicate 2 {}
  powered : Bool := false
  linkOk : Bool := false
  /-- Rail value of the face's latest frame, which confirms whether its outputs are enabled (R476). -/
  confAt : Time := 0
  seen : FaceReport := {}
  /-- The rail value that the last frame gave the face's follower, and `up` of that frame (R42). -/
  follower : Time := 0
  followAt : Time := 0
  /-- Without bench frames: the FC_ configuration as the face last had it (R20). -/
  kept : Tbl Word := []
  /-- What waits for bench frames, and for face frames, to cross the link (R20, R42). -/
  orders : List FaceOrder := []
  news : List FaceNews := []
  /-- The face's own copy of FC_DO_CFG and FC_AO_CFG (R43); none loaded: DO off, AO high-impedance (R80). -/
  safeDo : Word := 0
  safeAo : Vector Word 2 := Vector.replicate 2 0x10000
  /-- The face has bench frames, and liveness tokens (R43, R476). -/
  faceLink : Bool := false
  tokenOk : Bool := false
  tokenAt : Nat := 0
  /-- The bench commands the face to enable outputs (R476). -/
  enable : Bool := false
  fieldWarn : Bool := false
  lockout : Bool := false
  outFault : Bool := false
  mapRej : Bool := false
  /-- L+ in mV, and since when it is below 19.2 V, at or above 19.6 V, below 16.5 V, above 18.0 V (R333). -/
  lplus : Nat := 0
  warnLow : Option Nat := none
  warnHigh : Option Nat := none
  lockLow : Option Nat := none
  lockHigh : Option Nat := none
  wbCnt : BitVec 32 := 0
  sagCnt : BitVec 32 := 0
  lockCnt : BitVec 32 := 0
  faultCnt : BitVec 32 := 0
  encErrCnt : BitVec 32 := 0
  cplCnt : BitVec 32 := 0
  deriving DecidableEq, Repr

end Sys2Proof.Machine
end

