-- ==== Sys2Proof/Machine/StateHaul.lean ====
section
/-!
DEFINITION. The part of State that chapter 12 (Haul) gives.
-/
namespace Sys2Proof.Machine

/-- SSTATE of a station entry (R414). -/
inductive StationState where
  | unused | init | operational | lost | disabled
  deriving DecidableEq, Repr
def StationState.code : StationState → Nat
  | .unused => 0 | .init => 1 | .operational => 2 | .lost => 3 | .disabled => 4

/-- A down frame sent, as long as an up frame may echo it (R397). -/
structure SentFrame where
  seq : Nat
  txb : Nat
  apply : Nat
  carried : Bool
  deriving DecidableEq, Repr

/-- A station (R403 to R405, R414). -/
structure Station where
  state : StationState := .unused
  guarded : Bool := false
  rej : Bool := false
  missRun : Nat := 0
  seq : Nat := 0
  delay : Nat := 0
  /-- Delay samples, newest first, at most 8, and the first since the station went to INIT or LOST (R397). -/
  samples : List Int := []
  first : Option Int := none
  /-- DELAY is the partner's, until the eighth sample of the bench's own (R493). -/
  copied : Bool := false
  /-- Consecutive valid up frames in INIT or LOST. -/
  good : Nat := 0
  /-- The last five down frames, newest first. -/
  sent : List SentFrame := []
  /-- LATCH of the last valid up frame, and whether it carried OUTS_SAFE. -/
  latch : Option Nat := none
  outsSafe : Bool := false
  /-- LATCH of the last group written to the point table. -/
  group : Option Nat := none
  /-- Outputs held back after STATION_BACK (R405): tasks whose image has held a complete group, with the
  output instant of that cycle. -/
  waiting : Bool := false
  seen : List (Nat × Nat) := []
  /-- The error task runs on an image that held a complete group; its output instant follows from its end of logic (R159). -/
  errSeen : Bool := false
  deriving DecidableEq, Repr

/-- What the payload of a frame that the bench sends says (R395, R408). -/
inductive HaulFrame where
  | down (station seq : Nat) (safe init : Bool) (arrive apply nlatch : Nat) (slots : List (BitVec 32))
  | service (station : Nat) (data : List (BitVec 32)) (len : Nat)
  deriving DecidableEq, Repr

/-- A frame on the Haul wire that the bench sent (R391, R392): MAC addresses, tag, EtherType and payload. -/
structure HaulSent where
  dst : Nat
  src : Nat
  vid : Nat
  pcp : Nat
  etype : Nat
  body : HaulFrame
  deriving DecidableEq, Repr

/-- The HA_ block (R412); its configuration is held with the other Image registers. -/
structure Haul where
  etype : BitVec 32 := 0x88B5
  link : Bool := false
  speedOk : Bool := false
  cycling : Bool := false
  stations : Tbl Station := []
  missCnt : BitVec 32 := 0
  rxDrop : BitVec 32 := 0
  outLate : BitVec 32 := 0
  guardCnt : BitVec 32 := 0
  svcDrop : BitVec 32 := 0
  mdioCmd : BitVec 32 := 0
  /-- The access in progress is a read: READ as it stood when GO was written (R5). -/
  mdioRead : Bool := false
  mdioData : BitVec 32 := 0
  txload : BitVec 32 := 0
  rxload : BitVec 32 := 0
  /-- Values handed over for points of stations, with their stamps; last values sent, by point (R399). -/
  out : Tbl (BitVec 32 × Nat) := []
  lastSent : Tbl (BitVec 32) := []
  /-- The base cycle in which a service frame was last sent (R408). -/
  svcCycle : Option Nat := none
  /-- Frames sent, oldest first. -/
  tx : List HaulSent := []
  deriving DecidableEq, Repr

end Sys2Proof.Machine
end

