-- ==== Sys2Proof/Machine/StateLoop.lean ====
section
/-!
DEFINITION. The part of State that chapter 07 (loop engine) gives.
-/
namespace Sys2Proof.Machine

/-- Loop modes, coded as IMODE (R236, R245). -/
inductive LoopMode where
  | off | man | auto | cas | trk
  deriving DecidableEq, Repr

def LoopMode.code : LoopMode → Nat
  | .off => 0 | .man => 1 | .auto => 2 | .cas => 3 | .trk => 4

/-- The state of a loop that a release commits: words 0x2C to 0x3C of its descriptor (R245). -/
structure LoopState where
  mode : LoopMode := .off
  i : Int := 0
  step : Nat := 0
  remain : Nat := 0
  d : Int := 0
  rsp : Int := 0
  yp : Int := 0
  u : Int := 0
  handover : Bool := false
  miss : Bool := false
  hi : Bool := false
  lo : Bool := false
  sat : Bool := false
  compl : Bool := false
  /-- CAS_OPEN for want of a source (R227), and as a primary whose secondary does not follow (R239). -/
  srcOpen : Bool := false
  secOpen : Bool := false
  ftrack : Bool := false
  pvbad : Bool := false
  rej : Bool := false
  deriving DecidableEq, Repr

/-- A command that waits for a read moment of its loop (R247). A LOOP_TUNE holds its words as (word offset, value). -/
inductive LoopCmd where
  | mode (m : LoopMode)
  | sp (v : Int)
  | out (v : Int)
  | tune (ws : List (Nat × BitVec 32)) (reinit : Bool)
  | clear
  deriving DecidableEq, Repr

def LoopCmd.opcode : LoopCmd → Nat
  | .mode _ => 0x0301 | .sp _ => 0x0302 | .out _ => 0x0303 | .tune _ _ => 0x0304 | .clear => 0x0306

/-- What the commands that reach one update ask of it, beside the descriptor words they replace. -/
structure LoopDo where
  mode : Option LoopMode := none
  reinit : Bool := false
  clear : Bool := false
  deriving DecidableEq, Repr

/-- What a bench mode change leaves for a loop's next update (R242, R243). -/
structure LoopReq where
  /-- The update is the first after entry into RUN from CONFIGURE (R242), or after a resumption (R243). -/
  entry : Bool := false
  resume : Bool := false
  /-- u_prev of a takeover (R243). -/
  driven : Option Int := none
  deriving DecidableEq, Repr

/-- The results of an update between its read and its release moment (R216). -/
structure LoopUpdate where
  /-- t(k+1). -/
  due : Nat
  state : LoopState
  /-- The value for the output point; none in OFF. -/
  out : Option Int
  /-- SPL that the engine itself writes (R225, R238). -/
  spl : Option Int
  /-- The output clamp of the guards limited the law (R231, R543). -/
  clipped : Bool := false
  req : LoopReq
  /-- The commands that act in it, with their acceptance times, and the descriptor words that they replaced (R218). -/
  took : List (Nat × LoopCmd)
  undo : List (Nat × BitVec 32)
  deriving DecidableEq, Repr

/-- A loop's state, its requests and the update in progress. -/
structure Loop where
  st : LoopState := {}
  req : LoopReq := {}
  /-- Commands that wait for a read moment, in order of acceptance, each with its acceptance time (R247). -/
  cmds : List (Nat × LoopCmd) := []
  /-- The boundary instant of the last recipe write of SPL (R228). -/
  splAt : Option Nat := none
  upd : Option LoopUpdate := none
  deriving DecidableEq, Repr

/-- The LE_ block (R249). -/
structure LoopEngine where
  loops : Tbl Loop := []
  rate : BitVec 32 := 0
  missLast : BitVec 32 := 0
  missCnt : BitVec 32 := 0
  pvbadCnt : BitVec 32 := 0
  slackMin : BitVec 32 := BitVec.allOnes 32
  deriving DecidableEq, Repr

end Sys2Proof.Machine
end

