-- ==== Sys2Proof/Machine/StateMotion.lean ====
section
/-!
DEFINITION. The parts of State that chapters 17 (guards), 09 (motion engine) and 08 (recipe sequencer) give.
-/
namespace Sys2Proof.Machine

/-- A guard write held in WAKE (R547): offset, value, operator, how its storing ends, and BN_MODE at the write (R551). -/
structure HeldWrite where
  off : Nat
  value : BitVec 32
  oper : BitVec 16
  mram : MramTry
  mode : BitVec 32
  deriving DecidableEq, Repr

/-- The GD_ block (R541 to R553). A register never written holds none (R552). -/
structure Guards where
  /-- The stored guard set by GD_ offset, and what the guarded blocks use since the effect moments (R548). -/
  reg : Tbl (Option (BitVec 32)) := []
  eff : Tbl (Option (BitVec 32)) := []
  /-- Stored values whose effect moment is still to come, in order: moment, offset, value (R548, R549). -/
  pend : List (Nat × Nat × BitVec 32) := []
  /-- Writes held while the bench is in WAKE, in order (R547). -/
  held : List HeldWrite := []
  /-- The lower words of two-word guards, written and not yet stored, by offset (R548). -/
  low : Tbl (Option (BitVec 32)) := []
  /-- The two MRAM copies of the guard set; none before the first store. -/
  copyA : Option (Tbl (Option (BitVec 32))) := none
  copyB : Option (Tbl (Option (BitVec 32))) := none
  /-- The log, oldest first, 16 words an entry, at most 4,096 (R551). -/
  log : List (List (BitVec 32)) := []
  seq : BitVec 32 := 0
  clip : BitVec 32 := 0
  delay : BitVec 32 := 0
  deny : BitVec 32 := 0
  /-- The debug port is open (R546). -/
  debug : Bool := false
  gbad : Bool := false
  logFail : Bool := false
  deriving DecidableEq, Repr

/-! ### Motion (chapter 09) -/

/-- MSTATE (R307). -/
inductive AxisState where
  | idle | armed | moving | jogging | homing | stopping | fault
  deriving DecidableEq, Repr
def AxisState.code : AxisState → Nat
  | .idle => 0 | .armed => 1 | .moving => 2 | .jogging => 3 | .homing => 4 | .stopping => 5 | .fault => 6

/-- HPHASE (R307). -/
inductive HomePhase where
  | none | search | reversed | backoff
  deriving DecidableEq, Repr
def HomePhase.code : HomePhase → Nat
  | .none => 0 | .search => 1 | .reversed => 2 | .backoff => 3

/-- What an armed axis starts at its instant (R309). -/
inductive Motion where
  | move (target : Int)
  | jog (neg : Bool)
  | home
  deriving DecidableEq, Repr

/-- What a change during a move changes (R285, R287, R293). -/
inductive AxisParam where
  | vmax | acc | dec | gvmax | gacc | pmin | pmax
  deriving DecidableEq, Repr

/-- A change that waits for the first computation at an edge at or after its rail value + 1 µs (R286). -/
structure AxisChange where
  time : Nat
  recipe : Bool := false
  par : AxisParam
  value : Int
  deriving DecidableEq, Repr

/-- An MX_SET_DYN whose completion waits for the end of the move, and the edge at which it took effect. -/
structure DynWait where
  tag : BitVec 16
  noirq : Bool
  time : Nat
  edge : Option Nat := none
  deriving DecidableEq, Repr

/-- A limit or home input as the engine has it (R290, R301): the accepted level, and the first of the raw samples that
now show the other one. -/
structure LimitIn where
  level : Bool := false
  newAt : Option Nat := none
  deriving DecidableEq, Repr

/-- One axis (R307): state words 0x80 to 0xB4 and what the recurrence of R280 carries. -/
structure Axis where
  pos : Int := 0
  pfrac : Nat := 0
  target : Int := 0
  /-- E(n), E(n + 1), E(n + 2) in 1/256 ns; Q(n), Q(n + 1), Q(n + 2); whether steps n + 1 and n + 2 are last. -/
  e0 : Nat := 0
  e1 : Nat := 0
  e2 : Nat := 0
  q0 : Nat := 0
  q1 : Nat := 0
  q2 : Nat := 0
  last1 : Bool := false
  last2 : Bool := false
  /-- Edges issued since the start instant. -/
  n : Nat := 0
  /-- Speed of a remote axis (R300), and the apply instant of its last evaluation. -/
  v : Nat := 0
  spAt : Nat := 0
  /-- The position that the last set-point sent carries (R278), and the one before a motion's first evaluation (R309), in
  2^-16 units. -/
  sentP : Option Int := none
  preP : Int := 0
  dce : Nat := 0
  state : AxisState := .idle
  phase : HomePhase := .none
  neg : Bool := false
  homed : Bool := false
  posDoubt : Bool := false
  decelRaised : Bool := false
  guardLimited : Bool := false
  /-- The profile in progress has already set GUARD_LIMITED (R311). -/
  limNoted : Bool := false
  /-- A guard has left DCE below what the stop curve needs (R287). -/
  beyond : Bool := false
  /-- LIMP, LIMN, HOMEP. -/
  inp : Vector LimitIn 3 := Vector.replicate 3 {}
  homeFail : Bool := false
  reversed : Bool := false
  stnLost : Bool := false
  bridgeUv : Bool := false
  vSat : Bool := false
  stepLate : Bool := false
  rej : Bool := false
  chatter : BitVec 32 := 0
  tkskip : BitVec 32 := 0
  hpos : Int := 0
  /-- The armed motion and its start instant; the start instant of the motion begun last. -/
  armed : Option (Nat × Motion) := none
  begun : Nat := 0
  doneEvt : Bool := false
  /-- A jog profile (with the window edge as target); a stand request (R288, R289). -/
  jog : Bool := false
  stand : Bool := false
  /-- HSPEED or HCREEP in place of VMAX (R294). -/
  ovr : Option Nat := none
  /-- The homing phase that follows the stop in progress. -/
  after : HomePhase := .none
  /-- Guards that the move in progress uses (R279, R287, R293). -/
  gvmax : Nat := 0xFFFFFFFF
  gacc : Nat := 0xFFFFFFFF
  pmin : Int := -2147483648
  pmax : Int := 2147483647
  changes : List AxisChange := []
  dyn : List DynWait := []
  /-- Rail times of recent edges, newest first, during homing (R296). -/
  edges : List Nat := []
  /-- The last step pulse on Bnn_STEPi: its rail time and width, ns (R282); level of Bnn_DIRi. -/
  pulseAt : Nat := 0
  pulse : Nat := 0
  dirPin : Bool := false
  /-- Coil current I = IRUN rather than IHOLD (R297), and the rail time of the last edge. -/
  runI : Bool := false
  lastEdge : Nat := 0
  /-- PWM on-times and signs of a phase-drive axis (R298). -/
  onA : Nat := 0
  onB : Nat := 0
  dirA : Bool := false
  dirB : Bool := false
  deriving DecidableEq, Repr

/-- An MX_STOP whose completion waits until its axes stand. -/
structure StopWait where
  tag : BitVec 16
  noirq : Bool
  axes : List Nat
  deriving DecidableEq, Repr

/-- The MX_ block (R310). -/
structure MotionEngine where
  axes : Tbl Axis := []
  rate : BitVec 32 := 0
  vbr : Nat := 0
  /-- Consecutive PWM periods with VBR below VBRMIN (R299). -/
  lowVbr : Nat := 0
  lateCnt : BitVec 32 := 0
  chatterCnt : BitVec 32 := 0
  skipCnt : BitVec 32 := 0
  stops : List StopWait := []
  /-- ENSAFE of the used step/direction axes as a bench reset found it (R278). -/
  ensafe : BitVec 8 := 0
  deriving DecidableEq, Repr

/-! ### Recipes (chapter 08) -/

/-- STATE of a recipe run state (R273). -/
inductive RecipeState where
  | idle | armed | running | paused | held | ended | aborted
  deriving DecidableEq, Repr
def RecipeState.code : RecipeState → Nat
  | .idle => 0 | .armed => 1 | .running => 2 | .paused => 3 | .held => 4 | .ended => 5 | .aborted => 6

/-- A step entry as its 128 words (R252). -/
abbrev StepWords := List (BitVec 32)

/-- What a candidate is prepared for (R257, R264, R266, R267). -/
inductive CandRole where
  | time | cond | first | skip | abort
  deriving DecidableEq, Repr

/-- A candidate of a recipe: the step, its stored content, and whether it has been prepared. -/
structure Cand where
  role : CandRole
  step : Nat
  words : StepWords
  ready : Bool := false
  deriving DecidableEq, Repr

/-- The targets of a step that were not prepared at their commit moment (R259): the boundary, and once their output
targets are written at a commit moment, the grid instant at which the others act. -/
structure LateSet where
  boundary : Nat
  cand : Cand
  due : Option Nat := none
  deriving DecidableEq, Repr

/-- A recipe slot (R273), with the instants that commands gave it and what has been prepared. -/
structure Recipe where
  state : RecipeState := .idle
  rail : Nat := 0
  stepEvt : Bool := false
  late : Bool := false
  condBad : Bool := false
  resync : Bool := false
  step : Nat := 0
  abortStep : Nat := 0x1FFFF
  start : Nat := 0
  sb : Nat := 0
  elapsed : Nat := 0
  steps : BitVec 32 := 0
  /-- Content of the current step. -/
  cur : StepWords := []
  cands : List Cand := []
  /-- Consecutive checks at which the condition was true, and c + 20 µs of the first c at which it held. -/
  held : Nat := 0
  found : Option Nat := none
  /-- No condition check before this rail value (R265, R269, R271). -/
  checkFrom : Nat := 0
  pauseAt : Option Nat := none
  resumeAt : Option Nat := none
  skipAt : Option (Nat × Nat) := none
  abortAt : Option Nat := none
  /-- The boundary whose output targets have been written (R258). -/
  committed : Option Nat := none
  /-- Late target sets (R259), oldest first, each until its candidate is prepared and a commit moment is met. -/
  lateSets : List LateSet := []
  /-- R of a warm restart (R269), from the restart until R. -/
  restartAt : Option Nat := none
  /-- The last boundary taken. -/
  lastB : Option Nat := none
  deriving DecidableEq, Repr

/-- The RS_ block (R275) and the step store (R252). -/
structure Recipes where
  slots : Vector Recipe 16 := Vector.replicate 16 {}
  store : Tbl StepWords := []
  cfg : BitVec 32 := 0
  lateCnt : BitVec 32 := 0
  conflictCnt : BitVec 32 := 0
  /-- Targets applied at instants not yet past: kind, index, instant, slot (R260). -/
  claims : List (Nat × Nat × Nat × Nat) := []
  deriving DecidableEq, Repr

end Sys2Proof.Machine
end

