-- ==== Sys2Proof/Machine/StateNalry.lean ====
section
/-!
DEFINITION. The part of State that chapter 15 (redundant pairs) gives.
-/
namespace Sys2Proof.Machine

/-- What a bench sends on its Nalry lane (R475, R477, R479, R482, R483). -/
inductive NalryMsg where
  | heartbeat (h : Heartbeat)
  | copy (c : CopyItem)
  | full (c : FullCopy)
  | notice (n : Notice)
  | claim (pairStrap : Bool)
  | fullRequest
  deriving DecidableEq, Repr

/-- A hand-over of an active (R494): its command, H, gaps deferred, and once it runs, X and the acknowledgement. -/
structure Handover where
  tag : BitVec 16
  noirq : Bool
  start : Time
  maxDefer : Nat
  told : Bool := false
  gaps : Nat := 0
  /-- Start of a switch gap whose test is still to come. -/
  gapAt : Option Time := none
  x : Option Time := none
  acked : Bool := false
  deriving DecidableEq, Repr

/-- Conversion of a shadow's committed instance data after an online-change switch (R496). -/
structure Migration where
  old : Image
  newInst : Tbl Byte
  todo : List Nat
  waiting : List TaskSet := []
  deriving DecidableEq, Repr

/-- The NL_ block and the partner paths (R473 to R501). -/
structure Nalry where
  cfg : BitVec 32 := 0
  laneUp : Bool := false
  nalryOk : Bool := false
  tallyOk : Bool := false
  /-- Bnn_CUST_I, and since when it has had its level. -/
  custIn : Bool := false
  custAt : Time := 0
  /-- The partner's last valid heartbeat and its arrival; the last toggle of Bnn_TALLY_I. -/
  hb : Option Heartbeat := none
  /-- The partners hold images of one ID and Quoin configurations of one CRC (R473; how a bench learns it is open). -/
  same : Bool := false
  hbAt : Time := 0
  tallyAt : Time := 0
  /-- ns since power-up at which Nalry and tally were both lost. -/
  lostAt : Option Time := some 0
  /-- Level of Bnn_TALLY_O; the last liveness token issued (R474). -/
  tallyOut : Bool := false
  tokenAt : Option Time := none
  /-- This bench's fault class (R487). -/
  cls : Fin 4 := 0
  stale : Bool := false
  resync : Bool := false
  /-- A full copy has been committed since entry into SHADOW or since STALE last set (R478). -/
  full : Bool := false
  isolated : Bool := false
  custFault : Bool := false
  pairConflict : Bool := false
  /-- Eligible at the last valid heartbeat (R478). -/
  wasEligible : Bool := false
  /-- Since when the partner reports custody held while Bnn_CUST_I reads released (R488). -/
  mismatchAt : Option Time := none
  migr : Option Migration := none
  /-- A copy block has failed its CRC once (R479). -/
  retry : Bool := false
  /-- Sequence and rail value of the last copy point sent or committed. -/
  seq : BitVec 32 := 0
  copyAt : Time := 0
  /-- L at the last check, in 0.1 % of 625 bytes per µs (R485). -/
  copyLoad : BitVec 32 := 0
  lastX : Time := 0
  /-- NL_TKO_CNT, NL_HO_CNT, NL_LINK_ERR, NL_TALLY_LOSS, NL_BEHIND. -/
  cnt : Vector (BitVec 32) 5 := Vector.replicate 5 0
  /-- Output preload by point (R484): values with their stamps, newest first. -/
  preload : Tbl (List (Time × BitVec 32)) := []
  /-- Rail values of the last recipe notices (R483). -/
  recAt : Vector Time 16 := Vector.replicate 16 0
  /-- The drive moment decided, and whether of a hand-over (R490, R494). -/
  drive : Option (Time × Bool) := none
  /-- Active: the hand-over in progress. Shadow: X of the hand-over announced, and whether its final part is
  committed. -/
  ho : Option Handover := none
  hoX : Option (Time × Bool) := none
  /-- Pages of instance SRAM written and not yet staged (R481). -/
  pages : List Nat := []
  /-- Rail value at which the copy now being sent is through (R482). -/
  busyUntil : Time := 0
  /-- Task sets staged and not yet on the lane, with their bytes, in order (R482). -/
  waiting : List (Nat × NalryMsg) := []
  /-- Everything sent on the lane so far, oldest first. -/
  sent : List NalryMsg := []
  deriving DecidableEq, Repr

end Sys2Proof.Machine
end

