-- ==== Sys2Proof/Machine/StatePoint.lean ====
section
/-!
DEFINITION. The part of State that chapters 00 and 01 give to points.
-/
namespace Sys2Proof.Machine

/-- One entry of the point table (R13, R28, R31): value, quality word, flags word and stamp. -/
structure Point where
  value : Word := 0
  quality : Half := 0
  flags : Half := 0
  stamp : Time := 0
  deriving DecidableEq, Repr

/-- The producers of points, as SOURCE codes them (R31). -/
inductive Source where
  | unmapped | face | haul | can | program | loop | motion | recipe
  deriving DecidableEq, Repr

def Source.code : Source → Nat
  | .unmapped => 0 | .face => 1 | .haul => 2 | .can => 3
  | .program => 4 | .loop => 5 | .motion => 6 | .recipe => 7

/-- One update of a point as a tap sees it (R28). -/
structure Tap where
  point : Nat
  entry : Point
  /-- Rail value at which it was written (R457). -/
  time : Nat
  deriving DecidableEq, Repr

end Sys2Proof.Machine
end

