-- ==== Sys2Proof/Machine/StateProg.lean ====
section
/-!
DEFINITION. The parts of State that chapters 04 (scheduler and FIFOs), 05 (program engine) and 06 (Coith) give.
-/
namespace Sys2Proof.Machine

/-- A work item (R105). -/
structure Item where
  queue : Fin 8 := 0
  ord : Bool := false
  flow : Nat := 0
  src : Nat := 0
  seq : Nat := 0
  fref : Bool := false
  fifo : Nat := 0
  handler : Nat := 0
  arg0 : Word := 0
  arg1 : Word := 0
  arg2 : Word := 0
  arg3 : Word := 0
  stamp : Time := 0
  /-- Of an item of source 0: the host command it works for, and its NOIRQ. -/
  cmd : Option (BitVec 16 × Bool) := none
  deriving DecidableEq, Repr

/-- A held effect of an ordered item (R120). -/
inductive Effect where
  | point (p : Nat) (value : Word) (stamp : Time) (src : Source)
  | fifo (n : Fin 32) (word : Word) (eop : Bool)
  | post (i : Item)
  deriving DecidableEq, Repr

/-- A result slot of the reorder stage (R119, R120). -/
structure ResultSlot where
  flow : Nat
  seq : Nat
  done : Bool := false
  effects : List Effect := []
  deriving DecidableEq, Repr

/-- An ordered flow (R118, R124). -/
structure Flow where
  cfg : Word := 0x8
  next : Nat := 0
  release : Nat := 0
  deriving DecidableEq, Repr

/-- The changing part of an event-flag slot (R111): flags, dispatches, and when it became ready. -/
structure SlotState where
  flags : Word := 0
  runs : Word := 0
  readyAt : Time := 0
  deriving DecidableEq, Repr

/-- The SC_ block (R135). -/
structure Sched where
  ctrl : Word := 0xFF
  qcfg : Vector Word 8 := Vector.replicate 8 0x00401000
  queues : Vector (List Item) 8 := Vector.replicate 8 []
  /-- The counters at 0x060 + 4n, in that order (R135). -/
  cnt : Vector Word 10 := Vector.replicate 10 0
  flows : Tbl Flow := []
  results : List ResultSlot := []
  /-- Positions to be released empty, as (flow, seq) (R107, R121). -/
  empties : List (Nat × Nat) := []
  slots : Tbl SlotState := []
  /-- The supervisor's item that waits for its queue (R106, source 0). -/
  hostItem : Option Item := none
  deriving DecidableEq, Repr

/-- A FIFO (R125 to R138). -/
structure Fifo where
  cfg : Word := 0
  spill : Word := 0
  /-- Words held, oldest first, each with its end mark. -/
  words : List (Word × Bool) := []
  /-- How many of them are in the head and in the middle (R125). -/
  headN : Nat := 0
  midN : Nat := 0
  rdOpen : Bool := false
  wrOpen : Bool := false
  /-- The core that holds the tail lock (R128). -/
  wrCore : Option (Fin 4) := none
  dropping : Bool := false
  spoil : Word := 0
  /-- Words written so far of the packet being written. -/
  wrLen : Nat := 0
  /-- Lengths of completed packets whose notification is still to be made (R106, R134). -/
  notify : List Nat := []
  deriving DecidableEq, Repr

/-- The FQ_ block (R137). -/
structure Fifos where
  f : Vector Fifo 32 := Vector.replicate 32 {}
  cmdStat : Nat := 0
  hostWord : Word := 0
  hostValid : Bool := false
  hostEop : Bool := false
  deriving DecidableEq, Repr

/-- What a block core runs. -/
inductive Running where
  | idle
  | segment (task : Fin 16) (slot : Fin 64)
  | item (i : Item)
  deriving DecidableEq, Repr

/-- One active counted loop of a core (R196): body address range, iteration and count, index register. -/
structure LoopFrame where
  first : Nat
  after : Nat
  j : Nat
  count : Nat
  reg : Fin 32
  deriving DecidableEq, Repr

/-- One frame of the call stack (R197). -/
structure CallFrame where
  pc : Nat
  ip : Nat
  size : Nat
  loops : List LoopFrame
  deriving DecidableEq, Repr

/-- A block core (chapter 06, Core state). -/
structure Core where
  run : Running := .idle
  /-- W1 to W31 (W0 is never stored). -/
  w : Vector Word 32 := Vector.replicate 32 0
  a : BitVec 40 := 0
  ip : Nat := 0
  /-- Size of the current instance (R194). -/
  size : Nat := 0
  pc : Nat := 0
  /-- CS bits [5:0] (R203). -/
  sticky : BitVec 6 := 0
  loops : List LoopFrame := []
  calls : List CallFrame := []
  stamp : Time := 0
  dispatchedAt : Time := 0
  overrun : Bool := false
  deriving DecidableEq, Repr

/-- The running copy of a task's configuration (R141, R184). -/
structure TaskCfg where
  en : Bool := false
  pri : Nat := 0
  startSlot : Fin 64 := 0
  p : Nat := 0
  ph : Nat := 0
  off : Nat := 0
  d : Nat := 0
  g : Nat := 0
  deriving DecidableEq, Repr

/-- The present cycle of a task (R147 to R149, R69). -/
structure TaskRun where
  active : Bool := false
  ik : Time := 0
  ok : Time := 0
  /-- The input points as they stood at I(k), with the quality the image shows. -/
  frozen : List (Nat × Point) := []
  copied : Bool := false
  dispatched : Bool := false
  /-- R69: the cycle's last demand for a raise, and whether it has counted at the ceiling. -/
  demandAt : Option Time := none
  ceilCounted : Bool := false
  last : Word := 0
  max : Word := 0
  cycles : Word := 0
  deriving DecidableEq, Repr

/-- An output value that a producer has passed to the output stage (R29, R149). -/
structure Staged where
  point : Nat
  value : Word
  /-- Its output instant, and whether the hand-over was later than R30 allows. -/
  due : Time
  late : Bool := false
  /-- Period of the producer's output instants in ns, for the next one after a late value; 0: none. -/
  period : Nat := 0
  deriving DecidableEq, Repr

/-- A force entry (R165, R166): committed words, staged FVALUE, and what is in effect. -/
structure Force where
  en : Bool := false
  point : Nat := 0
  value : Word := 0
  staged : Word := 0
  live : Word := 0
  rej : Bool := false
  seq : Half := 0
  /-- The force in effect: the point it acts on and its value; and those on points that the entry named before, until
  the next instant of each (R166). ACTIVE reads 1 while there is one. -/
  eff : Option (Nat × Word) := none
  old : List (Nat × Word) := []
  /-- Rail value of the commit, or of the change of REJ, that is to take effect (R166, R169). -/
  since : Time := 0
  deriving DecidableEq, Repr

/-- An online change in progress (R173 to R180). -/
structure Change where
  tag : BitVec 16
  noirq : Bool
  maxDefer : Nat
  /-- PROG_CHANGE has completed (DEFERRED). -/
  told : Bool := false
  /-- Start of a switch gap whose test is still to come (R176). -/
  gapAt : Option Time := none
  switching : Bool := false
  /-- Old pages still to be copied in the first pass, and dirty old pages. -/
  todo : List Nat := []
  dirty : List Nat := []
  done : List Nat := []
  gaps : Nat := 0
  /-- The new instance area. -/
  newInst : Tbl Byte := []
  /-- Force commits held during the switch: entry, word 0, FVALUE. -/
  heldForces : List (Nat × Word × Word) := []
  deriving DecidableEq, Repr

/-- The PE_ block and the program state (R184, R211). -/
structure Prog where
  /-- Current code slot (false: 0, true: 1) and the checked images of the two slots. -/
  slot : Bool := false
  img0 : Option Image := none
  img1 : Option Image := none
  /-- The image in the current slot failed its check at this bench start, and is not loaded (R92). -/
  imgBad : Bool := false
  tasks : Vector TaskCfg 16 := Vector.replicate 16 {}
  runs : Vector TaskRun 16 := Vector.replicate 16 {}
  staged : List Staged := []
  forces : Tbl Force := []
  /-- The producer's latest value of each input point whose table entry shows a forced value (R168). -/
  live : Tbl (Option Word) := []
  wdTask : Option (Fin 16) := none
  wdRail : Time := 0
  deferCnt : Word := 0
  forceRej : Word := 0
  errDrop : Word := 0
  faultInfo : Word := 0
  faultPc : Word := 0
  faultAddr : Word := 0
  faultCnt : Word := 0
  stickyWi : Word := 0
  sticky : Vector Word 16 := Vector.replicate 16 0
  /-- PE_ERR_PEND while the image has no error-task code (R160). -/
  errPend : Word := 0
  /-- Cycles begin only at input instants from this rail value on (R84, R98). -/
  startAt : Time := 0
  /-- The last dispatch of the error task (R158). -/
  errLast : Option Time := none
  chg : Option Change := none
  deriving DecidableEq, Repr

end Sys2Proof.Machine
end

