-- ==== Sys2Proof/Machine/StateQuoin.lean ====
section
/-!
DEFINITION. The part of State that chapter 11 (Quoin) gives.
-/
namespace Sys2Proof.Machine

/-- QSTATE (R364, R389). -/
inductive QState where
  | unconfigured | start | ready | on | demand | stopping | fault
  deriving DecidableEq, Repr
def QState.code : QState → Nat
  | .unconfigured => 0 | .start => 1 | .ready => 2 | .on => 3 | .demand => 4 | .stopping => 5 | .fault => 6

/-- A filtered channel of a lane (R355, R356, R369). -/
structure Chan where
  raw : Bool := false
  filt : Bool := false
  /-- Time for which the raw state has differed, outside windows, in ns. -/
  acc : Nat := 0
  /-- Start of the present test window; the channel is verified in it; it has read off in the second half. -/
  win : Option Nat := none
  verify : Bool := false
  sawOff : Bool := false
  /-- Has failed a verification and not passed a later one (R358, R370). -/
  bad : Bool := false
  deriving DecidableEq, Repr

/-- One lane (R349, R364, R372). -/
structure Lane where
  /-- SI0A, SI0B, SI1A, SI1B, RST. -/
  ch : Vector Chan 5 := Vector.replicate 5 {}
  state : QState := .unconfigured
  demand : Word := 0
  /-- QN_FAULT bits that this lane has latched, and functions 3 to 8 that it finds violated (R374 to R376). -/
  fault : Word := 0
  fdem : Word := 0
  /-- Since the input fault of this bit set, both channels stood in the demand state at one sample (R358). -/
  clearSeen : Vector Bool 4 := Vector.replicate 4 false
  /-- Start-up test: input seen with both channels off in one sample (R371). -/
  stSeen : Vector Bool 2 := Vector.replicate 2 false
  /-- When a controlled stop was decided (R366). -/
  stopAt : Nat := 0
  /-- Since when the filtered states of each input disagree (R357). -/
  discAt : Vector (Option Nat) 2 := Vector.replicate 2 none
  /-- Position and speed of the monitored axes, positions of the last SWIN, newest first (R372). -/
  pos : Vector Int 2 := Vector.replicate 2 0
  spd : Vector Int 2 := Vector.replicate 2 0
  hist : Vector (List (Nat × Int)) 2 := Vector.replicate 2 []
  /-- Position latched at the activation of SDI (R374). -/
  sdiAt : Vector Int 2 := Vector.replicate 2 0
  /-- The last toggle of the drive of the lane's switches; it has stopped toggling; the switches are closed (R350, R366). -/
  toggleAt : Nat := 0
  driveLost : Bool := false
  closed : Bool := false
  /-- Rail value of the last valid exchange received (R351). -/
  exchAt : Nat := 0
  deriving DecidableEq, Repr

/-- One OSSD (R360 to R363). -/
structure Ossd where
  /-- End of the present off-pulse, and whose switch the next test opens (true: lane B's). -/
  offUntil : Nat := 0
  nextB : Bool := false
  /-- The land reads above 5 V in the last read-back. -/
  readback : Bool := false
  deriving DecidableEq, Repr

/-- A Quoin configuration session (R381). -/
structure QSession where
  oper : BitVec 16
  last : Nat
  deriving DecidableEq, Repr

/-- The QN_ block (R388 to R390). -/
structure Quoin where
  a : Lane := {}
  b : Lane := {}
  rstReq : Bool := false
  stPend : Bool := false
  /-- Start-up test: input done (R371). -/
  stDone : Vector Bool 2 := Vector.replicate 2 false
  /-- A press of the reset input (R369): its rising edge, QSTATE READY throughout, and a falling edge not yet judged. -/
  pressAt : Option Nat := none
  pressReady : Bool := false
  /-- Lane A, started anew, has not yet caught up with lane B's level of the reset input. -/
  relyB : Bool := false
  fellAt : Option Nat := none
  /-- Functions 3 to 8 activated, with the activation moments of SLS (R374). -/
  active : Word := 0
  actAt : Vector Nat 2 := Vector.replicate 2 0
  /-- SLS limits that lane A imposes on axes (R374): axis and speed in 2^-8 units. -/
  caps : List (Nat × Nat) := []
  ref : Vector Bool 2 := Vector.replicate 2 false
  posRef : Vector Int 2 := Vector.replicate 2 0
  cRef : Vector Int 2 := Vector.replicate 2 0
  pRef : Vector Int 2 := Vector.replicate 2 0
  /-- References still to be set: axis q, instant, position (R373). -/
  setRef : List (Nat × Nat × Int) := []
  /-- Since when the positions differ beyond PTOL (R372); since when the lanes' decisions differ (R351). -/
  posDiff : Vector (Option Nat) 2 := Vector.replicate 2 none
  laneDiff : Option Nat := none
  ossd : Vector Ossd 2 := Vector.replicate 2 {}
  /-- Rail value at which both OSSDs were last switched on or off, and whether they are on. -/
  ossdAt : Nat := 0
  ossdOn : Bool := false
  /-- Outputs enabled, and lockout, as last seen (R364). -/
  wasOut : Bool := false
  wasLock : Bool := false
  staged : Vector Word 24 := Vector.replicate 24 0
  cfg : Option (Vector Word 24) := none
  copyA : Option (Vector Word 24) := none
  copyB : Option (Vector Word 24) := none
  session : Option QSession := none
  /-- The password; the part keeps a salted hash of it and never shows it (R381). -/
  password : Option (List Byte) := none
  failures : Nat := 0
  waitAt : Option Nat := none
  /-- Change log, oldest first, 16 words an entry, at most 256 (R384). -/
  log : List (List Word) := []
  logSeq : Word := 0
  demandCnt : Word := 0
  testfailCnt : Word := 0
  rstRejCnt : Word := 0
  /-- Values last written to the mirror points: SI0, SI1, OSSD, state (R367). -/
  mirror : List Word := []
  deriving DecidableEq, Repr

end Sys2Proof.Machine
end

