-- ==== Sys2Proof/Machine/StateRec.lean ====
section
/-!
DEFINITION. The part of State that chapter 14 gives: Kerf, the signal digest, the health recorder.
-/
namespace Sys2Proof.Machine

/-- A trigger unit (R445, R446, R471). -/
structure KfUnit where
  src : Word := 0
  level : Word := 0
  hyst : Word := 0
  hold : Word := 1
  /-- Ready for a rising, a falling edge. -/
  up : Bool := false
  down : Bool := false
  /-- Hold-off: until the first sample at or after this rail value (HMODE 0); firings still to come (HMODE 1). -/
  until_ : Option Nat := none
  left : Option Nat := none
  count : Word := 0
  miss : Word := 0
  deriving DecidableEq, Repr

/-- State of a capture channel (R451). -/
inductive KfState where
  | idle | armed | capturing | rearm | full
  deriving DecidableEq, Repr
def KfState.code : KfState → Nat
  | .idle => 0 | .armed => 1 | .capturing => 2 | .rearm => 3 | .full => 4

/-- A record in capture memory (R454): header words, samples as entries without flags. -/
structure KfRecord where
  header : List Word
  samples : List Point
  unread : Bool := true
  deriving DecidableEq, Repr

/-- A capture channel (R449 to R452, R471). -/
structure KfChan where
  cfg : Word := 0
  mem : Word := 0
  seg : Word := 1
  state : KfState := .idle
  pre : Nat := 0
  post : Nat := 0
  /-- Next segment, sequence of the next record, trigger time of the record in progress. -/
  next : Nat := 0
  seq : Word := 0
  time : Nat := 0
  /-- Samples kept before T, newest first, and after it, oldest first. -/
  before : List Point := []
  after : List Point := []
  /-- Triggers missed since the latest record began, and those that the record in progress reports (R451, R454). -/
  missed : Word := 0
  recMissed : Word := 0
  cmiss : Word := 0
  records : Tbl (Option KfRecord) := []
  deriving DecidableEq, Repr

/-- The KF_ block (R471). -/
structure Kerf where
  cfg : Word := 0
  missed : Word := 0
  ovf : Word := 0
  units : Vector KfUnit 8 := Vector.replicate 8 {}
  chans : Vector KfChan 32 := Vector.replicate 32 {}
  /-- Rail value at which the write queue is empty again (R453). -/
  busy : Nat := 0
  deriving DecidableEq, Repr

/-- The reduction of one point (R458). Sums are exact integers (for binary32, of 2^-149, kept to 53 bits). -/
structure Reduction where
  qor : Nat := 0
  count : Word := 0
  min : Word := 0
  max : Word := 0
  sum : Int := 0
  /-- Infinities summed: positive, negative. -/
  posInf : Bool := false
  negInf : Bool := false
  last : Word := 0
  bins : List Nat := List.replicate 16 0
  deriving DecidableEq, Repr

/-- The DG_ block (R457 to R463, R472). -/
structure Digest where
  cfg : Word := 0x64
  /-- The open interval: S and, with MODE 1, the step it began with. -/
  open_ : Option (Nat × Nat) := none
  red : Tbl Reduction := []
  /-- ISEQ of the next interval to close. -/
  iseq : Nat := 0
  merged : Nat := 0
  gap : Bool := false
  lost : Word := 0
  prof : Tbl Nat := []
  lo : Tbl Word := []
  step : Tbl Word := []
  deriving DecidableEq, Repr

/-- A gauge over a period (R465). -/
structure Gauge where
  count : Nat := 0
  min : Int := 0
  max : Int := 0
  sum : Int := 0
  minAt : Nat := 0
  maxAt : Nat := 0
  bins : List Nat := List.replicate 16 0
  deriving DecidableEq, Repr

/-- The HL_ block (R464 to R469, R472). -/
structure Health where
  cfg : Word := 0x3C
  /-- A period runs; the rail and `up` at its start. -/
  running : Bool := false
  rail : Nat := 0
  up : Nat := 0
  gauges : Vector Gauge 4 := Vector.replicate 4 {}
  counts : Vector Word 25 := Vector.replicate 25 0
  sev : Nat := 0
  /-- `up` of the last early close (R467). -/
  early : Option Nat := none
  /-- MRAM slots, 64 words each; none: never written (R464, R468). -/
  slots : Tbl (Option (List Word)) := []
  seq : Word := 0
  drop : Word := 0
  bad : Word := 0
  /-- Slots already found failing their check. -/
  found : List Nat := []
  /-- Slots written at the last close, and its `up` (R468). -/
  wrote : List Nat := []
  wroteAt : Nat := 0
  deriving DecidableEq, Repr

end Sys2Proof.Machine
end

