-- ==== Sys2Proof/Machine/StateTime.lean ====
section
/-!
DEFINITION. The parts of State that chapters 02 (time rail and pace) and 03 (modes and start-up) give a bench.
-/
namespace Sys2Proof.Machine

/-- Bench modes, as BN_MODE.MODE codes them (R101). -/
inductive Mode where
  | wake | configure | run | shadow | hold
  deriving DecidableEq, Repr

def Mode.code : Mode → Nat
  | .wake => 0 | .configure => 1 | .run => 2 | .shadow => 3 | .hold => 4

/-- Rail states, as TM_STATUS.STATE codes them (R56, R75). -/
inductive RailState where
  | unlocked | locked | holdover | free | relock
  deriving DecidableEq, Repr

def RailState.code : RailState → Nat
  | .unlocked => 0 | .locked => 1 | .holdover => 2 | .free => 3 | .relock => 4

/-- The time rail and pace governor of a bench (R48 to R77). -/
structure Rail where
  /-- The rail, in ns. Before time lock it counts from 0 (DESIGN CHOICE). -/
  now : Time := 0
  /-- ns since the bench was powered, moved with the rail but not by a setting of it. -/
  up : Time := 0
  state : RailState := .unlocked
  onB : Bool := false
  refAGood : Bool := false
  refBGood : Bool := false
  epochOk : Bool := false
  slewing : Bool := false
  /-- TIME_SET on another bench: the value is taken at the next epoch marker (R531). -/
  takeNext : Bool := false
  /-- Signed offset of the rail from the module reference rail, ns; signed correction, ppb. -/
  offset : Int := 0
  freqAdj : Int := 0
  /-- `up` when WAKE began, when HOLDOVER began, and since when the offset has been within 2 ns in RELOCK. -/
  wakeAt : Time := 0
  holdAt : Time := 0
  nearAt : Option Time := none
  /-- The offset stood above 100 µs in RUN, SHADOW or HOLD at the last marker (EPOCH_FAR, R64). -/
  far : Bool := false
  /-- When each reference was lost, for the row "both within the same 120 ns" (R56). -/
  lossAAt : Option Time := none
  lossBAt : Option Time := none
  /-- PACE_LOW, `up` since when, and whether PACE_FAULT has been raised for it (R68). -/
  paceLow : Bool := false
  paceLowAt : Time := 0
  paceFaulted : Bool := false
  paceLim : Word := 0x02EE0384
  paceRest : Word := 0x2EE
  paceMv : Nat := 750
  slack : Int := 0
  paceRate : Nat := 0
  tj : Int := 0
  /-- Raises withheld by R72. -/
  noRaise : Bool := false
  calm : Nat := 0
  raiseCnt : Word := 0
  lowerCnt : Word := 0
  ceilCnt : Word := 0
  refLossCnt : Word := 0
  deriving DecidableEq, Repr

/-- One copy of the life block (R93): a sequence number and the three counts. -/
structure LifeCopy where
  seq : Nat := 0
  powerCycles : Word := 0
  starts : Word := 0
  opHours : Word := 0
  deriving DecidableEq, Repr

/-- A transition that a command has begun and that is not yet complete (R83, R84, R98, R477). -/
inductive Transition where
  | runClaim (tag : BitVec 16) (noirq : Bool) (since : Time) (warm : Bool)
  | pageCheck (tag : BitVec 16) (noirq : Bool) (toShadow : Bool) (since : Time)
  deriving DecidableEq, Repr

/-- The BN_ block (R44, R100) and the mode of a bench. -/
structure Bn where
  mode : Mode := .wake
  prev : Mode := .wake
  /-- BN_MODE.START (R101). -/
  start : Nat := 0
  hostSilent : Bool := false
  snapBusy : Bool := false
  bootRom : Bool := false
  holdCause : Word := 0
  modeCfg : Word := 0
  hostTmo : Word := 0
  selftest : Word := 0
  pageFail : Word := 0
  pageRest : Word := 0
  dramCapture : Word := 0
  windowRej : Word := 0
  producerConflict : Word := 0
  outLate : Word := 0
  /-- Life block as last read, and its two MRAM copies (R93). -/
  life : LifeCopy := {}
  lifeA : Option LifeCopy := none
  lifeB : Option LifeCopy := none
  /-- The life block has been counted in this WAKE (R93). -/
  lifeDone : Bool := false
  /-- `up` of the last host activity (R99). -/
  hostAt : Time := 0
  /-- `up` when the frozen state of the present HOLD was captured, and the rail at its entry (R85, R95). -/
  holdRail : Time := 0
  /-- Tasks whose watchdog had come due as the present HOLD began, its trip still to be recorded (R85). -/
  trips : BitVec 16 := 0
  /-- Firmware slots (R92, R532): which slot is current, their versions (none: fails its check), slot running,
  swap due at the next start. -/
  fwCur : Option Word := none
  fwAlt : Option Word := none
  fwRunAlt : Bool := false
  fwSwap : Bool := false
  /-- The image in the alternate slot failed its check at the last bench start; the FW_LOAD that runs (R532). -/
  fwAltBad : Bool := false
  fwRun : Option (BitVec 16) := none
  trans : Option Transition := none
  /-- HOLD causes that arrived during a transition into RUN, which completes first (Coincidences of chapter 03). -/
  holdWait : Word := 0
  /-- The fault class of that HOLD (R487), and whether OUTPUTS_OFF was among its triggers (R535). -/
  holdCls : Fin 4 := 2
  holdOff : Bool := false
  /-- First output instants after a warm restart still to come: outputs carry SAFE (R98). -/
  resumed : Bool := false
  /-- OUTPUTS_OFF: the face holds hardware defaults until HOLD is left (R535). -/
  defaultsHeld : Bool := false
  /-- The core rail stands above its detector threshold (R23). -/
  coreOk : Bool := true
  /-- The image's safe values have been loaded (R80). -/
  safeLoaded : Bool := false
  /-- BN_MODULE: straps as sampled (R47). -/
  mid : BitVec 6 := 0x3F
  pair : Bool := true
  deriving DecidableEq, Repr

end Sys2Proof.Machine
end

