-- ==== Sys2Proof/Machine/State.lean ====
section
/-!
DEFINITION. State: the sixteen benches, the module-wide part and the queue of waiting commands.
-/
namespace Sys2Proof.Machine

/-- A HOLD snapshot as MRAM holds it (chapter 03, R95). -/
structure Snapshot where
  /-- Its header is written, and not invalidated (R95, R97). -/
  headed : Bool := false
  imageId : BitVec 64
  modeCfg : Word
  cause : Word
  rail : Time
  inst : Tbl Byte
  points : Tbl Point
  conf : Tbl Word
  forces : Tbl Force
  /-- The producers' values that forces cover (R168). -/
  live : Tbl (Option Word)
  /-- Task phases, event flags and engine registers (queues and FIFOs restart empty). -/
  tasks : Vector TaskCfg 16
  runs : Vector TaskRun 16
  sc : Sched
  fq : Fifos
  rsCfg : Word
  loops : Tbl Loop
  axes : Tbl Axis
  recipes : Vector Recipe 16
  deriving DecidableEq, Repr

/-- A bench (R18, R24): everything that belongs to it alone, its host function included. -/
structure Bench where
  ix : BenchIx := 0
  bn : Bn := {}
  rail : Rail := {}
  fn : Fn := {}
  qc : Qc := {}
  /-- The EVENTS register of each block, by block code (R525); no block has code 0. -/
  ev : Vector Word 18 := Vector.replicate 18 0
  /-- Point table (R28, R31). -/
  points : Tbl Point := []
  /-- Every register and descriptor word whose reset is "Image", by BAR0 offset (R245, R307, R346, R412, R442). -/
  conf : Tbl Word := []
  /-- Instance SRAM, 4 MiB. -/
  inst : Tbl Byte := []
  sc : Sched := {}
  fq : Fifos := {}
  cores : Vector Core 4 := Vector.replicate 4 {}
  pe : Prog := {}
  le : LoopEngine := {}
  gd : Guards := {}
  mx : MotionEngine := {}
  rs : Recipes := {}
  ha : Haul := {}
  fc : Face := {}
  qn : Quoin := {}
  /-- CAN0 and CAN1. -/
  can : Vector Can 2 := Vector.replicate 2 {}
  kf : Kerf := {}
  dg : Digest := {}
  hl : Health := {}
  nl : Nalry := {}
  /-- The snapshot in MRAM, and whether it still serves (R88, R95, R177). -/
  snap : Option Snapshot := none
  snapOk : Bool := false
  /-- Updates of points that the digest and Kerf have still to see, oldest first (R28). -/
  dgTaps : List Tap := []
  kfTaps : List Tap := []
  /-- How many values that the spec leaves open have been taken (Config.freeValue). -/
  free : Nat := 0
  deriving DecidableEq, Repr

/-- The module. -/
structure State where
  /-- Commands and events that wait, first in first out. -/
  pending : List Instr := []
  hub : Hub := {}
  benches : Vector Bench 16 := Vector.replicate 16 {}
  deriving DecidableEq, Repr

/-- The machine stops with a fault: no command or event of this block does, so no reason is listed but this
one, which no meaning answers. Safe: nothing is raised. -/
inductive Fault where
  /-- Raised by nobody. Safe. -/
  | none
  deriving DecidableEq, Repr

/-- Why a command has no meaning. -/
inductive Refusal where
  /-- Raised by the arm of a row that has no meaning yet, with the row's mnemonic. Safe: the machine stops. -/
  | notModelled (mnemonic : String)
  deriving DecidableEq, Repr

/-- A bench as reset leaves it; its current firmware slot holds a firmware image (version 1). -/
def Bench.atReset (n : BenchIx) : Bench := { ix := n, bn := { fwCur := some 1 } }

/-- The module after reset: no supply yet, MRST_N not yet released, every bench in WAKE. -/
def State.reset : State := { benches := #v[
  Bench.atReset 0, Bench.atReset 1, Bench.atReset 2, Bench.atReset 3, Bench.atReset 4, Bench.atReset 5,
  Bench.atReset 6, Bench.atReset 7, Bench.atReset 8, Bench.atReset 9, Bench.atReset 10, Bench.atReset 11,
  Bench.atReset 12, Bench.atReset 13, Bench.atReset 14, Bench.atReset 15] }

end Sys2Proof.Machine
end

