-- ==== Sys2Proof/Machine/Ops.lean ====
section
/-!
DEFINITION. The operations every block shares: time, interrupt vectors, event entries, completions,
instance memory, forces and writes of the point table, error causes.
-/
namespace Sys2Proof.Machine

/-- Entry i of a vector changed by f. -/
def upd {α : Type} {n : Nat} (v : Vector α n) (i : Fin n) (f : α → α) : Vector α n := v.set i (f v[i])

/-- A number as an index below n + 1; numbers beyond give 0. Callers check the range first. -/
def mkIx (n v : Nat) : Fin (n + 1) := if h : v < n + 1 then ⟨v, h⟩ else 0

/-- Time: the bench's rail moves forward to t (R48, R50); it never moves back. -/
def Bench.tick (t : Time) (b : Bench) : Bench :=
  { b with rail := { b.rail with up := b.rail.up + (t - b.rail.now), now := max b.rail.now t } }

/-- Time on the module reference rail. -/
def Hub.tick (t : Time) (h : Hub) : Hub :=
  { h with up := h.up + (t - h.mref), mref := max h.mref t }

/-- A value that the spec leaves open, and the bench with the counter of such values advanced. -/
def Bench.fresh (b : Bench) : Nat × Bench := (Config.freeValue b.ix.val b.free, { b with free := b.free + 1 })

/-! ### Queues and vectors -/

def Queue.en (q : Queue) : Bool := bitOf q.ctrl 31
def Queue.ien (q : Queue) : Bool := bitOf q.ctrl 30
def Queue.icount (q : Queue) : Nat := max 1 (fld q.ctrl 23 16)
def Queue.itime (q : Queue) : Nat := fld q.ctrl 15 0
def Queue.depth (q : Queue) : Nat := fld q.size 12 0
/-- Unit size of the stream ring (R513). -/
def Queue.esz (q : Queue) : Nat := 64 * 4 ^ fld q.size 17 16
/-- Entries or units between head and tail (R509). -/
def Queue.used (q : Queue) : Nat := (q.tail + q.depth - q.head) % q.depth
/-- Free entries: a ring holds at most depth − 1 (R509). -/
def Queue.room (q : Queue) : Nat := q.depth - 1 - q.used
/-- The write position moved on by k, with the phase inverted at a wrap (R510). -/
def Queue.advance (k : Nat) (q : Queue) : Queue :=
  let t := q.tail + k
  if t < q.depth then { q with tail := t } else { q with tail := t % q.depth, phase := !q.phase }

/-- Vector v of the bench's function is raised (R533): sent, or pending while masked. -/
def Bench.vector (v : Nat) (b : Bench) : Bench :=
  if bitOf b.fn.mask v then { b with fn := { b.fn with pend := putBit b.fn.pend v true } }
  else { b with qc := { b.qc with sent := b.qc.sent ++ [.vector v] } }

/-- Vector v of function 0 is raised (R533). -/
def Hub.vector (v : Nat) (h : Hub) : Hub :=
  if bitOf h.fn.mask v then { h with fn := { h.fn with pend := putBit h.fn.pend v true } }
  else { h with sent := h.sent ++ [.vector v] }

/-- An MG_EVENTS bit set by hardware raises vector 2 of function 0 (R507, R533). -/
def Hub.mgEvent (bit : Nat) (h : Hub) : Hub :=
  Hub.vector 2 { h with mgEvents := putBit h.mgEvents bit true }

/-- An MG_ERR bit set by hardware raises vector 5 of function 0 (R507, R533). -/
def Hub.mgError (bit : Nat) (h : Hub) : Hub :=
  Hub.vector 5 { h with mgErr := putBit h.mgErr bit true }

/-- Queue q of the bench changed by f. -/
def Bench.setQueue (q : Fin 4) (f : Queue → Queue) (b : Bench) : Bench :=
  { b with qc := { b.qc with q := upd b.qc.q q f } }

/-- A QC_ERR bit set raises vector 4 (R513, R533). -/
def Bench.qcError (bit : Nat) (b : Bench) : Bench :=
  Bench.vector 4 { b with qc := { b.qc with err := putBit b.qc.err bit true } }

/-- One more counted entry of the completion or event queue, and the vector if it is due (R534). -/
def Bench.counted (q : Fin 4) (v : Nat) (b : Bench) : Bench :=
  let qu := b.qc.q[q]
  let qu := { qu with counted := qu.counted + 1, firstAt := if qu.counted = 0 then b.rail.up else qu.firstAt }
  if qu.ien && (qu.icount ≤ qu.counted || qu.itime = 0) then
    Bench.vector v (b.setQueue q fun _ => { qu with counted := 0 })
  else b.setQueue q fun _ => qu

/-! ### Event entries (R524 to R526) -/

/-- The eight words of an event entry (R524). -/
def Bench.eventWords (gap phase : Bool) (src : Nat) (d0 d1 d2 : Word) (b : Bench) : HostMsg :=
  .event (at32 (b2n phase) 31 ||| at32 (b2n gap) 30 ||| at32 b.rail.state.code 27 ||| at32 b.ix.val 20 ||| at32 (src % 65536) 0)
    b.qc.evtSeq (lo32 b.rail.now) (hi32 b.rail.now) d0 d1 d2 (b.bn.mid.setWidth 32)

/-- A block raises an event: an entry is written, or dropped and counted (R526). -/
def Bench.event (src : Nat) (d0 d1 d2 : Word) (b : Bench) : Bench :=
  let q := b.qc.q[(3 : Fin 4)]
  if q.en && !q.error && 0 < q.room then
    let m := b.eventWords b.qc.gap q.phase src d0 d1 d2
    let b := { b with qc := { b.qc with sent := b.qc.sent ++ [m], evtSeq := b.qc.evtSeq + 1, gap := false } }
    (b.setQueue 3 (Queue.advance 1)).counted 3 3
  else
    let b := { b with qc := { b.qc with evtSeq := b.qc.evtSeq + 1, gap := true, evtDrop := inc b.qc.evtDrop } }
    b.qcError 2

/-- Hardware sets a bit of a block's EVENTS register, which also produces an event entry (R525). -/
def Bench.raise (blk : Fin 18) (bit : Nat) (d0 d1 d2 : Word) (b : Bench) : Bench :=
  Bench.event (256 * blk.val + bit) d0 d1 d2 { b with ev := upd b.ev blk fun w => putBit w bit true }

/-! ### Completions (R519 to R523) -/

/-- A completion is written to its reserved entry, or discarded because the queue is disabled (R514, R521). -/
def Bench.postCompletion (tag : BitVec 16) (noirq : Bool) (st : Status) (result : Nat) (b : Bench) : Bench :=
  let q := b.qc.q[(1 : Fin 4)]
  if q.en then
    let m := HostMsg.completion result st tag q.phase b.qc.q[(0 : Fin 4)].head
    let b := ({ b with qc := { b.qc with sent := b.qc.sent ++ [m] } } : Bench).setQueue 1 (Queue.advance 1)
    if noirq then b else b.counted 1 1
  else Bench.qcError 3 { b with qc := { b.qc with cplDisc := inc b.qc.cplDisc } }

/-- The in-progress command of a tag. -/
def Qc.findTag (tag : BitVec 16) (q : Qc) : Option InFlight := q.inflight.find? (fun f => f.tag == tag)

/-- The command of a tag is no longer in progress. -/
def Bench.dropTag (tag : BitVec 16) (b : Bench) : Bench :=
  { b with qc := { b.qc with inflight := b.qc.inflight.eraseP (fun f => f.tag == tag) } }

/-- A command completes. Its completion is discarded if the function was reset after it was taken (R504). -/
def Bench.completeTag (tag : BitVec 16) (noirq : Bool) (st : Status) (result : Nat) (b : Bench) : Bench :=
  match b.qc.findTag tag with
  | some f =>
    if f.orphan then b.dropTag tag else (b.dropTag tag).postCompletion tag noirq st result
  | none => b.postCompletion tag noirq st result

/-- A command completes with a status and a result. -/
def Bench.complete (c : Cmd) (st : Status) (result : Nat) (b : Bench) : Bench :=
  b.completeTag c.tag c.noirq st result

/-- A refused command: status, RESULT 0, nothing else changed (R523). -/
def Bench.refuse (c : Cmd) (st : Status) (b : Bench) : Bench := b.complete c st 0

/-- The row is the acceptance of its command, the next in queue order (R520). -/
def Bench.issued (i : Instr) (b : Bench) : Bool := match packetOf i with | some a => b.qc.issued a | none => true
/-- The acceptance of a command that passes step 3 now: later than the last one (R520). -/
def Bench.acceptance (b : Bench) : Time := match b.qc.accAt with | some t => max b.rail.now (t + 1) | none => b.rail.now
/-- It is noted. -/
def Bench.accepted (c : Cmd) (b : Bench) : Bench :=
  { b with qc := { b.qc with
      accAt := some b.acceptance,
      inflight := b.qc.inflight.map fun f => if f.tag = c.tag then { f with accepted := true } else f } }
/-- The acceptance of the command that acts. -/
def Bench.acc (b : Bench) : Time := b.qc.accAt.getD b.rail.now

/-- Step 3 of R520 for the command of a row: the mode check, with the boot-ROM rule; then the command's own chapter. -/
def Bench.accept (i : Instr) (c : Cmd) (modes : Mode → Bool) (k : Bench → Bench) (b : Bench) : Bench :=
  if !b.issued i then b
  else if b.bn.bootRom || b.bn.mode = .wake || !modes b.bn.mode then b.refuse c .badState
  else k (b.accepted c)

/-- As accept, for the firmware opcodes, which boot ROM also serves (R520, R532). -/
def Bench.acceptFw (i : Instr) (c : Cmd) (k : Bench → Bench) (b : Bench) : Bench :=
  if !b.issued i then b else if b.bn.mode = .wake then b.refuse c .badState else k (b.accepted c)

/-- A read into the host buffer list: what the list holds is written; the list held all of it (R518, R523). -/
def Bench.writeList (c : Cmd) (ws : List Word) (b : Bench) : Bench :=
  { b with qc := { b.qc with sent := b.qc.sent ++ [.buffer c.tag (ws.take (c.buf / 4))] } }
def listHolds (c : Cmd) (ws : List Word) : Bool := ws.length ≤ c.buf / 4

/-- The end of a read with its result: PARTIAL with the bytes written where the list held less than the data (R523). -/
def Bench.readDone (c : Cmd) (ws : List Word) (result : Nat) (b : Bench) : Bench :=
  let b := b.writeList c ws
  if listHolds c ws then b.complete c .ok result else b.complete c .partialDone (c.buf / 4 * 4)

/-- Stream records that `keep` does not keep are no longer ready (R462, R528). -/
def Bench.unready (keep : StreamReady → Bool) (b : Bench) : Bench := { b with qc := { b.qc with ready := b.qc.ready.filter keep } }

/-- Mode sets of the commands' tables. -/
def modesAny : Mode → Bool := fun _ => true
def modesCfg : Mode → Bool := fun m => m = .configure
def modesRun : Mode → Bool := fun m => m = .run
def modesHold : Mode → Bool := fun m => m = .hold
def modesRunShadow : Mode → Bool := fun m => m = .run || m = .shadow
def modesCfgRun : Mode → Bool := fun m => m = .configure || m = .run
def modesCfgRunHold : Mode → Bool := fun m => m = .configure || m = .run || m = .hold

/-- A block's event counter register held in conf-free storage: window writes refused in the present mode
count once (R37, R45, R100). -/
def Bench.windowRej (b : Bench) : Bench := { b with bn := { b.bn with windowRej := inc b.bn.windowRej } }

/-! ### The module around its benches -/

def State.bench (s : State) (n : BenchIx) : Bench := s.benches[n]

/-- The entry acts on point p. -/
def Force.acts (p : Nat) (f : Force) : Option Word :=
  match f.eff with
  | some (q, v) => if q = p then some v else ((f.old.find? fun e => e.1 == p).map (·.2))
  | none => (f.old.find? fun e => e.1 == p).map (·.2)
/-- ACTIVE of the entry (R165). DESIGN CHOICE (log 55): an entry that takes REJ 1 while its force is in effect reads ACTIVE 1
until its point's next instant (R166, R169), where the force ends. -/
def Force.active (f : Force) : Bool := f.eff.isSome || !f.old.isEmpty

/-- Entries of the force table in effect (PE_FORCE_CNT, R166, R184). -/
def Bench.forceCount (b : Bench) : Nat := (b.pe.forces.filter (fun e => e.2.active)).length

/-- The level of Bnn_FORCE_N: low while PE_FORCE_CNT is above 0, after bench start (R171). -/
def Bench.forceLand (b : Bench) : Bool := b.bn.mode = .wake || b.forceCount = 0

/-- Every bench has left WAKE (R104). -/
def State.allAwake (s : State) : Bool := s.benches.toList.all (fun b => b.bn.mode ≠ .wake)

/-- The calendar now, in 1/32,768 s (R89). -/
def Hub.calNow (h : Hub) : Nat := h.calendar + (h.up - h.calAt) * 32768 / 1000000000

/-- An entry of a chained log (R384, R551): fourteen words, one reserved, and the CRC-32C over them followed by the
previous entry's. -/
def logEntry (log : List (List Word)) (ws : List Word) : List Word :=
  let body := (ws ++ List.replicate 15 0).take 15
  let prev := match log.getLast? with | some e => e.getD 15 0 | none => 0
  body ++ [crc32c (body ++ [prev])]

/-- The active Quoin configuration's CRC (R388). -/
def Quoin.crc (q : Quoin) : Word := match q.cfg with | some v => crc32c v.toList | none => 0

/-- An entry of the Quoin change log (R384). -/
def Bench.quoinLog (cal kind : Nat) (oper : BitVec 16) (before detail : Word) (b : Bench) : Bench :=
  let q := b.qn
  let e := logEntry q.log [q.logSeq + 1, at32 kind 0 ||| at32 oper.toNat 16, lo32 b.rail.now, hi32 b.rail.now,
    lo32 cal, hi32 cal, b.bn.life.opHours, before, q.crc, detail]
  let log := q.log ++ [e]
  { b with qn := { q with logSeq := q.logSeq + 1, log := log.drop (log.length - 256) } }

/-- The Quoin session closes without a commit: the staged block returns to the active configuration (R380, R381). -/
def Bench.quoinClose (cal : Nat) (b : Bench) : Bench :=
  match b.qn.session with
  | none => b
  | some x =>
    let b : Bench := { b with qn := { b.qn with session := none, staged := b.qn.cfg.getD (Vector.replicate 24 0) } }
    b.quoinLog cal 8 x.oper b.qn.crc 0

/-- A bench put back, with what the module shows of it: MG_EVENTS.FORCED_CHANGED when its bit of
MG_FORCED changes (R171, R507); outside CONFIGURE its Quoin session closes (R381); MG_EVENTS.WAKE_DONE when the last bench leaves WAKE (R104, R507). -/
def State.putBench (n : BenchIx) (b : Bench) (s : State) : State :=
  let b := if b.bn.mode = .configure then b else b.quoinClose s.hub.calNow
  let s' := { s with benches := s.benches.set n b }
  let s' := if (0 < (s.bench n).forceCount) = (0 < b.forceCount) then s' else { s' with hub := s'.hub.mgEvent 4 }
  if !s.allAwake && s'.allAwake then { s' with hub := s'.hub.mgEvent 3 } else s'

/-- The outcome of a command or event that acts on one bench. -/
def State.onBench (n : BenchIx) (f : Bench → Bench) (s : State) : Host.Outcome State Fault Refusal :=
  .next (s.putBench n (f (s.bench n)))

/-- A configuration word of a bench, by BAR0 offset. -/
def Bench.cfg (b : Bench) (off : Nat) : Word := Tbl.get 0 b.conf off
def Bench.setCfg (off : Nat) (v : Word) (b : Bench) : Bench := { b with conf := Tbl.set 0 b.conf off v }

/-! ### Instance memory -/

/-- One byte of instance SRAM. -/
def Bench.byte (b : Bench) (a : Nat) : Byte := Tbl.get 0 b.inst a

/-- n bytes of a table at an address, little-endian, as a number. -/
def readLe (m : Tbl Byte) (a : Nat) : Nat → Nat
  | 0 => 0
  | n + 1 => (Tbl.get 0 m a).toNat + 256 * readLe m (a + 1) n

/-- n bytes stored at an address, little-endian. -/
def writeLe (m : Tbl Byte) (a v : Nat) : Nat → Tbl Byte
  | 0 => m
  | n + 1 => writeLe (Tbl.set 0 m a (BitVec.ofNat 8 v)) (a + 1) (v / 256) n

/-- The image of the current code slot, and of the free one. -/
def Prog.cur (p : Prog) : Option Image := if p.imgBad then none else if p.slot then p.img1 else p.img0
def Prog.freeImg (p : Prog) : Option Image := if p.slot then p.img0 else p.img1

/-- Base of the current image's instance area. -/
def Prog.base (p : Prog) : Nat := match p.cur with | some i => i.instBase | none => 0

/-- A write to the old instance area of a change marks pages already copied as dirty (R175). -/
def Change.note (base a n : Nat) (c : Change) : Change :=
  let p0 := (a - base) / 4096
  let p1 := (a + n - 1 - base) / 4096
  let add (c : Change) (p : Nat) : Change :=
    if c.done.contains p && !c.dirty.contains p then { c with dirty := c.dirty ++ [p] } else c
  if a < base then c else if p0 = p1 then add c p0 else add (add c p0) p1

/-- n bytes read from instance SRAM. -/
def Bench.load (a n : Nat) (b : Bench) : Nat := readLe b.inst a n

/-- Pages that a store touches join those still to be staged for the partner (R481). -/
def Nalry.note (a n : Nat) (x : Nalry) : Nalry :=
  let add (l : List Nat) (p : Nat) : List Nat := if l.contains p then l else l ++ [p]
  if bitOf x.cfg 31 then { x with pages := add (add x.pages (a / 4096)) ((a + n - 1) / 4096) } else x

/-- n bytes stored to instance SRAM, noted by the mover and by the state copy. -/
def Bench.store (a n v : Nat) (b : Bench) : Bench :=
  { b with inst := writeLe b.inst a v n,
           pe := { b.pe with chg := b.pe.chg.map (Change.note b.pe.base a n) },
           nl := b.nl.note a n }

/-- PAIR_EN (R473). -/
def Bench.paired (b : Bench) : Bool := bitOf b.nl.cfg 31
def Bench.setNl (f : Nalry → Nalry) (b : Bench) : Bench := { b with nl := f b.nl }

/-- A paired active sends a notice (R483). -/
def Bench.notify (n : Notice) (b : Bench) : Bench :=
  if b.paired && b.nl.laneUp && b.bn.mode = .run then b.setNl fun x => { x with sent := x.sent ++ [.notice n] } else b

/-! ### Counts of the health recorder (R466, R467) -/

/-- The severity that a condition gives the running period. -/
def Bench.healthSev (k : Nat) (b : Bench) : Bench := { b with hl := { b.hl with sev := max b.hl.sev k } }
/-- Count i of R466 increases by one, with the severity of R467. -/
def Bench.health (i : Fin 25) (b : Bench) : Bench :=
  if b.hl.running then
    let b : Bench := { b with hl := { b.hl with counts := upd b.hl.counts i inc } }
    b.healthSev (if [0, 7, 9, 10, 16, 17, 18].contains i.val then 2 else 1)
  else b

/-- Count i increases by n. -/
def Bench.healthBy (i : Fin 25) (n : Nat) (b : Bench) : Bench :=
  if b.hl.running && 0 < n then
    Bench.healthSev 1 { b with hl := { b.hl with counts := upd b.hl.counts i fun w => incBy w n } }
  else b

/-! ### Event-flag slots and error causes -/

/-- The slot of the current image with a number. -/
def Prog.slotImg (p : Prog) (n : Fin 64) : Option SlotImg :=
  match p.cur with
  | some i => i.slots.find? (fun x => x.slot == n)
  | none => none

/-- The handler-table entry of a slot or item. -/
def Prog.handler (p : Prog) (h : Nat) : Option HandlerImg :=
  match p.cur with
  | some i => i.handlers[h]?
  | none => none

/-- The flags satisfy the slot's mask (R111); the error task's slot has mode ANY (R146). -/
def slotReady (x : SlotImg) (flags : Word) : Bool :=
  x.mask ≠ 0 && (if x.all && x.task ≠ 0 then flags &&& x.mask = x.mask else flags &&& x.mask ≠ 0)

/-- Flags set in a slot (R112); the slot's ready time is kept when it was ready already. -/
def Bench.setFlags (n : Fin 64) (f : Word) (b : Bench) : Bench :=
  let st := Tbl.get {} b.sc.slots n.val
  let was := match b.pe.slotImg n with | some x => slotReady x st.flags | none => false
  let now := match b.pe.slotImg n with | some x => slotReady x (st.flags ||| f) | none => false
  let st' := { st with flags := st.flags ||| f, readyAt := if now && !was then b.rail.now else st.readyAt }
  { b with sc := { b.sc with slots := Tbl.set {} b.sc.slots n.val st' } }

/-- Address of the error ring: the start of the error task's instance data (R156, R209). -/
def Bench.ringAddr (b : Bench) (e : ErrImg) : Nat :=
  match b.pe.slotImg e.startSlot with
  | some x => match b.pe.handler x.handler with | some h => h.ip | none => b.pe.base
  | none => b.pe.base

/-- An error cause (R155 to R157, R160): record first, then the flag; nothing outside RUN. -/
def Bench.errorCause (bit : Nat) (detail : Word) (b : Bench) : Bench :=
  if b.bn.mode ≠ .run then b else
  match b.pe.cur.bind (·.err) with
  | none => { b with pe := { b.pe with errPend := putBit b.pe.errPend bit true } }
  | some e =>
    let mask := match b.pe.slotImg e.startSlot with | some x => x.mask | none => 0
    if !bitOf mask bit then b else
    let ring := b.ringAddr e
    let w := b.load (ring + 0x200) 4 % 32
    let r := b.load (ring + 0x204) 4 % 32
    let b :=
      if (w + 1) % 32 = r then
        Bench.raise 4 4 0 detail 0 { b with pe := { b.pe with errDrop := inc b.pe.errDrop } }
      else
        (((b.store (ring + 16 * w) 4 bit).store (ring + 16 * w + 4) 4 detail.toNat).store (ring + 16 * w + 8) 8 b.rail.now).store
          (ring + 0x200) 4 ((w + 1) % 32)
    b.setFlags e.startSlot (at32 1 bit)

/-! ### Points (R13 to R15, R26 to R28, R168, R583) -/

/-- Quality bits (R13). -/
def qMiss : Nat := 11
def qCompliance : Nat := 10
def qWireBreak : Nat := 9
def qOverrange : Nat := 8
def qUnderrange : Nat := 7
def qAlarmHi : Nat := 6
def qAlarmLo : Nat := 5
def qSafe : Nat := 4
def qStale : Nat := 3
def qSubst : Nat := 2
def qForced : Nat := 1
def qValid : Nat := 0

/-- R14: VALID is 0 whenever SUBST, STALE, SAFE or WIRE_BREAK is 1. -/
def qNorm (q : Half) : Half :=
  if bitOf q qSubst || bitOf q qStale || bitOf q qSafe || bitOf q qWireBreak then putBit q qValid false else q

/-- The quality of a live value and of nothing else. -/
def qLive : Half := 1

def Bench.point (b : Bench) (p : Nat) : Point := Tbl.get {} b.points p
def Bench.setPoint (p : Nat) (e : Point) (b : Bench) : Bench := { b with points := Tbl.set {} b.points p e }
/-- SOURCE, OUTPUT, SAFETY, DIGEST, FORMAT of a point's flags word (R31). -/
def Point.source (e : Point) : Nat := fld e.flags 15 13
def Point.output (e : Point) : Bool := bitOf e.flags 12
def Point.safety (e : Point) : Bool := bitOf e.flags 11
def Point.digest (e : Point) : Bool := bitOf e.flags 10
def Point.format (e : Point) : Nat := fld e.flags 7 4

/-- A value word as a point of a format holds it: INT16 and Q15 sign-extended from bits [15:0] (R10, R34, R396). -/
def fmtWord (format : Nat) (v : Word) : Word := if format = 1 || format = 2 then (v.setWidth 16).signExtend 32 else v
/-- The truth of a BOOL value word: bits [31:1] are ignored (R10). -/
def boolOf (v : Word) : Bool := bitOf v 0

/-- What a force entry asks for: the point and value it forces, unless disabled or refused. -/
def Force.target (f : Force) : Option (Nat × Word) := if f.en && !f.rej then some (f.point, f.value) else none

/-- A force entry at an instant of point p: its committed state takes effect, if it was committed by then (R166). -/
def Force.settle (p inst : Nat) (f : Force) : Force :=
  if inst < f.since then f
  else
    let old := f.old.filter fun e => e.1 ≠ p
    match f.target with
    | some (q, v) => if q = p then { f with eff := some (q, v), old := old } else { f with old := old }
    | none => match f.eff with
      | some (q, _) => { f with eff := if q = p then none else f.eff, old := old }
      | none => { f with old := old }

/-- At an instant of point p, committed changes of its forces take effect (R166). -/
def Bench.settleForces (p inst : Nat) (b : Bench) : Bench :=
  { b with pe := { b.pe with forces := Tbl.mapAll {} (fun _ f => f.settle p inst) b.pe.forces } }

/-- The force in effect on a point. -/
def Bench.forceOn (b : Bench) (p : Nat) : Option Word :=
  b.pe.forces.findSome? fun e => e.2.acts p

/-- LIVE of the entries that name a point (R165). -/
def Bench.setLive (p : Nat) (v : Word) (b : Bench) : Bench :=
  { b with pe := { b.pe with forces := Tbl.mapAll {} (fun _ f => if f.point = p then { f with live := v } else f) b.pe.forces } }

/-- The latest value of a point's producer: the entry's, or the one that a force covers (R168). -/
def Bench.liveOf (b : Bench) (p : Nat) : Word := (Tbl.get none b.pe.live p).getD (b.point p).value
/-- The table entry of a forced input covers the producer's value v; none: it shows it (R168). -/
def Bench.cover (p : Nat) (v : Option Word) (b : Bench) : Bench :=
  { b with pe := { b.pe with live := Tbl.set none b.pe.live p v } }

/-- MODE and RSLOT of DG_CFG (R472). -/
def Bench.dgMode (b : Bench) : Bool := bitOf b.dg.cfg 30
def Bench.dgSlot (b : Bench) : Fin 16 := mkIx 15 (fld b.dg.cfg 27 24)
/-- MODE 1: updates are reduced only while the slot is RUNNING or PAUSED (R457). -/
def Bench.dgTakes (b : Bench) : Bool :=
  let st := b.rs.slots[b.dgSlot].state
  !b.dgMode || st = .running || st = .paused

/-- A Kerf unit watches a point, or a channel that is not IDLE records it. -/
def Bench.kerfWatches (b : Bench) (p : Nat) : Bool :=
  b.kf.units.toList.any (fun u => fld u.src 31 30 = 1 && fld u.src 13 0 = p) ||
  b.kf.chans.toList.any (fun c => fld c.cfg 30 29 = 1 && fld c.cfg 13 0 = p && c.state ≠ .idle)

/-- The taps see an update of a point once, in order (R28). -/
def Bench.tap (p : Nat) (e : Point) (b : Bench) : Bench :=
  let b := if e.digest && bitOf b.dg.cfg 31 && b.dgTakes then { b with dgTaps := b.dgTaps ++ [⟨p, e, b.rail.now⟩] } else b
  if b.kerfWatches p then { b with kfTaps := b.kfTaps ++ [⟨p, e, b.rail.now⟩] } else b

/-- A write refused because the writer is not the point's producer (R26), with its error cause. -/
def Bench.conflict (p : Nat) (b : Bench) : Bench :=
  Bench.errorCause 13 (BitVec.ofNat 32 p) { b with bn := { b.bn with producerConflict := inc b.bn.producerConflict } }

/-- COMPLIANCE and WIRE_BREAK of an output point belong to the face, and SAFE stands until the point's first output
instant after a resumption: a producer's write leaves them (R98, R341). -/
def faceBits (old q : Half) : Half :=
  qNorm (putBit (putBit (putBit q qCompliance (bitOf old qCompliance)) qWireBreak (bitOf old qWireBreak)) qSafe (bitOf old qSafe))
/-- The entry a producer's update leaves: for a forced input the forced value, for a forced output the
producer's value, FORCED set (R168); CHANGED set (R31); the face's bits of an output stay (R341). -/
def Bench.pointEntry (p : Nat) (v : Word) (q : Half) (st : Time) (b : Bench) : Point :=
  let e := b.point p
  let q := if e.output then faceBits e.quality q else q
  match b.forceOn p with
  | some f => { value := fmtWord e.format (if e.output then v else f), quality := putBit (qNorm q) qForced true,
                flags := putBit e.flags 9 true, stamp := st }
  | none => { value := fmtWord e.format v, quality := putBit (qNorm q) qForced false, flags := putBit e.flags 9 true, stamp := st }

/-- The update itself, once the producer is known to be the point's own (R28, R168). -/
def Bench.putPoint (p : Nat) (v : Word) (q : Half) (st : Time) (b : Bench) : Bench :=
  let input := !(b.point p).output
  let b := if input then b.settleForces p st else b
  let e := b.pointEntry p v q st
  let live := fmtWord e.format v
  let b := b.cover p (if input && (b.forceOn p).isSome then some live else none)
  ((b.setLive p live).setPoint p e).tap p e

/-- A block writes a point: nothing outside RUN (R583); another block than the producer is counted (R26). -/
def Bench.writePoint (src : Source) (p : Nat) (v : Word) (q : Half) (st : Time) (b : Bench) : Bench :=
  if b.bn.mode ≠ .run then b
  else if (b.point p).source ≠ src.code then b.conflict p
  else b.putPoint p v q st

/-- A quality change of a point by its producer, value and stamp as they are (one update, R28). -/
def Bench.markPoint (p : Nat) (f : Half → Half) (b : Bench) : Bench :=
  if b.bn.mode ≠ .run then b
  else
    let e := b.point p
    let e' := { e with quality := qNorm (f e.quality), flags := putBit e.flags 9 true }
    (b.setPoint p e').tap p e'

/-- At a latch instant of an input point, a change of the force on an input point shows in the point table
(R166, R168). DESIGN CHOICE (log 55): no producer writes then, so the taps of R28 do not see it; CHANGED sets. -/
def Bench.latchForce (p : Nat) (b : Bench) : Bench :=
  if (b.point p).output then b else
  let live := b.liveOf p
  let b := b.settleForces p b.rail.now
  let e := b.point p
  match b.forceOn p with
  | some v =>
    (b.cover p (some live)).setPoint p { e with
      value := fmtWord e.format v, quality := putBit e.quality qForced true, flags := putBit e.flags 9 true }
  | none =>
    if bitOf e.quality qForced then
      (b.cover p none).setPoint p { e with
        value := live, quality := putBit e.quality qForced false, flags := putBit e.flags 9 true }
    else b

/-- A change stamped at or before I(k) reaches the table before the cycle's copy is done: the image takes it (R147, R162,
R324), under the force that the point showed at I(k). -/
def Bench.lateImage (p st : Nat) (img : Nat → Point) (b : Bench) : Bench :=
  { b with pe := { b.pe with runs := b.pe.runs.map fun r =>
      if r.active && !r.copied && st ≤ r.ik then
        { r with frozen := r.frozen.map fun e =>
            if e.1 = p then
              let forced := bitOf e.2.quality qForced
              let n := img r.ik
              (p, { n with value := if forced then e.2.value else b.liveOf p, quality := putBit n.quality qForced forced })
            else e }
      else r } }

/-- Points that a force entry names or acts on. -/
def Bench.forcePoints (b : Bench) : List Nat :=
  (b.pe.forces.flatMap fun e => e.2.point :: ((e.2.eff.map (·.1)).toList ++ e.2.old.map (·.1))).eraseDups

end Sys2Proof.Machine
end

