-- ==== Sys2Proof/Machine/CoithWord.lean ====
section
/-!
DEFINITION. What a word of block code spells (R187 to R189).
-/
namespace Sys2Proof.Machine

/-! ### Decoding a code word (R187 to R189) -/

def condOf : Nat → Option Cond
  | 0 => some .eq | 1 => some .ne | 2 => some .lt | 3 => some .le | 4 => some .ltu | 5 => some .leu | _ => none

def brCondOf : Nat → Option BrCond
  | 0 => some .always | 1 => some .zero | 2 => some .nonzero | 3 => some .neg | 4 => some .nonneg
  | 5 => some .pos | 6 => some .nonpos | _ => none

/-- The instruction a code word spells on a core; none where R188 finds a failure. -/
def coithDecode (k : CoreRef) (w : Word) : Option Instr :=
  let d : Reg := mkIx 31 (fld w 25 21)
  let a : Reg := mkIx 31 (fld w 20 16)
  let b : Reg := mkIx 31 (fld w 15 11)
  let fn := fld w 10 0
  let imm : BitVec 16 := w.setWidth 16
  let h := bitOf w 10
  let sat := bitOf w 9
  let f0 := bitOf w 0
  let even (r : Reg) : Bool := r.val % 2 = 0
  let only (mask : Nat) : Bool := fn &&& (2047 - mask) = 0
  let need (c : Bool) (i : Instr) : Option Instr := if c then some i else none
  let f2 : Fin 4 := mkIx 3 (fld w 1 0)
  match fld w 31 26 with
  | 0x00 => need (only 0) (.coithNop k)
  | 0x01 => need (only 0x600) (.coithAdd k d a b h sat)
  | 0x02 => need (only 0x600) (.coithSub k d a b h sat)
  | 0x03 => some (.coithAddi k d a imm)
  | 0x04 => need (only 0x600) (.coithMul k d a b h sat)
  | 0x05 => need (only 0) (.coithDiv k d a b)
  | 0x06 => need (only 0) (.coithRem k d a b)
  | 0x07 => need (only 0x601) (.coithAbs k d a f0 h sat)
  | 0x08 => need (only 0) (.coithAnd k d a b)
  | 0x09 => need (only 0) (.coithOr k d a b)
  | 0x0A => need (only 0) (.coithXor k d a b)
  | 0x0B => some (.coithAndi k d a imm)
  | 0x0C => some (.coithOri k d a imm)
  | 0x0D => some (.coithXori k d a imm)
  | 0x0E => need (a = 0) (.coithLui k d imm)
  | 0x0F => need (only 0x71F) (.coithShf k d a b (mkIx 3 (fld w 10 9)) (bitOf w 8) (mkIx 31 (fld w 4 0)))
  | 0x10 => need (fld w 9 5 + fld w 4 0 + 1 ≤ 32) (.coithBit k d a h (mkIx 31 (fld w 9 5)) (mkIx 31 (fld w 4 0)))
  | 0x11 => need (only 0x401) (.coithMinmax k d a b f0 h)
  | 0x12 => if only 7 then (condOf (fld w 2 0)).map (.coithCmp k d a b) else none
  | 0x13 => (condOf (fld w 15 13)).map fun c => .coithCmpi k d a c (w.setWidth 13)
  | 0x14 => need (only 0x1F) (.coithSel k d a b (mkIx 31 (fld w 4 0)))
  | 0x15 => need (only 0x400 && even b) (.coithLim k d a b h)
  | 0x16 => need (only 0) (.coithQmul k d a b)
  | 0x17 => need (only 1) (.coithMpy k a b f0)
  | 0x18 => need (only 1) (.coithMac k a b f0)
  | 0x19 => need (only 3 && (f2 ≠ 0 || even a)) (.coithLda k a f2)
  | 0x1A => need (only 0x41F) (.coithSac k d h (w.setWidth 5))
  | 0x1B => need (only 0 && even d) (.coithSta k d)
  | 0x1C => need (only 0x3F) (.coithAsh k (w.setWidth 6))
  | 0x1D => need (only 1) (.coithCls k d a f0)
  | 0x1E => need (only 1) (.coithFadd k d a b f0)
  | 0x1F => need (only 0) (.coithFmul k d a b)
  | 0x20 => need (only 0) (.coithFdiv k d a b)
  | 0x21 => need (only 0) (.coithFsqrt k d a)
  | 0x22 => need (only 3) (.coithFcmp k d a b f2)
  | 0x23 => need (only 3) (.coithFcvt k d a f2)
  | 0x24 => need (only 3) (.coithFmisc k d a b f2)
  | 0x25 => need (only 1 && even d && even a && even b) (.coithTadd k d a b f0)
  | 0x26 => need (only 3 && even a && even b) (.coithTcmp k d a b f2)
  | 0x27 => need (only 3 && even d) (.coithRdt k d f2)
  | 0x28 => some (.coithLdw k d a imm)
  | 0x29 => some (.coithLdh k d a imm)
  | 0x2A => need (even d) (.coithLdd k d a imm)
  | 0x2B => some (.coithStw k d a imm)
  | 0x2C => some (.coithSth k d a imm)
  | 0x2D => need (even d) (.coithStd k d a imm)
  | 0x2E => need (only 0xF && f2 ≠ 3 && (f2 ≠ 2 || even d)) (.coithLdx k d a b (mkIx 2 (fld w 1 0)) (mkIx 3 (fld w 3 2)))
  | 0x2F => need (only 0xF && f2 ≠ 3 && (f2 ≠ 2 || even d)) (.coithStx k d a b (mkIx 2 (fld w 1 0)) (mkIx 3 (fld w 3 2)))
  | 0x30 =>
    if fld w 17 0 ≠ 0 then (brCondOf (fld w 20 18)).map fun c => .coithBr k d c (w.setWidth 18) else none
  | 0x31 => need (fld w 8 0 ≠ 0) (.coithLoop k d (mkIx 4095 (fld w 20 9)) (mkIx 511 (fld w 8 0)))
  | 0x32 => some (.coithCall k (mkIx 1023 (fld w 25 16)) imm)
  | 0x33 => need (fld w 25 0 = 0) (.coithRet k)
  | 0x34 => need (fld w 25 0 = 0) (.coithEnd k)
  | 0x35 => need (fld w 9 0 = 0) (.coithSetf k d a (mkIx 63 (fld w 15 10)))
  | 0x36 => need (fld w 15 0 = 0 && a.val ≤ 26) (.coithPost k d a)
  | 0x37 => need (fld w 9 1 = 0 && !bitOf w 15) (.coithFwr k d a (mkIx 31 (fld w 14 10)) f0)
  | 0x38 => need (fld w 9 0 = 0 && !bitOf w 15) (.coithFrd k d a (mkIx 31 (fld w 14 10)))
  | 0x39 => need (only 0 && even d) (.coithPtr k d a)
  | 0x3A => need (only 1) (.coithPtw k d a b f0)
  | 0x3B => need (only 1) (.coithCsr k d a f0)
  | 0x3C => need (only 0) (.coithMac2 k a b)
  | 0x3D => need (only 0xFF) (.coithChk k a (w.setWidth 8))
  | 0x3E => need (only 0) (.coithPack k d a b)
  | _ => need (only 0) (.coithCrc k d a)

end Sys2Proof.Machine
end

