-- ==== Sys2Proof/Machine/Guards.lean ====
section
/-!
DEFINITION. Writable bits of configuration words, and guards as the guarded blocks read them (R6, R541, R543, R552).
-/
namespace Sys2Proof.Machine

/-! ### Configuration words by BAR0 offset (R6, R245, R250, R307, R346, R412, R414, R442) -/

/-- Writable bits of a configuration word whose reset is "Image"; none where none lies. -/
def confMask (off : Nat) : Option Word :=
  if off % 4 ≠ 0 then none
  else if 0x80000 ≤ off && off < 0x88000 then
    match off % 64 with
    | 0x00 => some 0xFFCFFFFF
    | 0x08 | 0x0C => some 0x3FFF3FFF
    | o => if o < 0x2C then some 0xFFFFFFFF else none
  else if 0x88000 ≤ off && off < 0x8C000 then
    match off % 256 with
    | 0x00 => some 0xFFE03FFF
    | 0x18 | 0x1C => some 0x3FFF3FFF
    | 0x34 => some 0xF000FFFF
    | 0x40 => some 0x0000FFFF
    | o => if o < 0x40 then some 0xFFFFFFFF else none
  else if 0x0A000 ≤ off && off < 0x0C000 then
    let o := off % 0x80
    if o < 0x40 then some 0xFFFFFFFF else if o = 0x40 then some 0x0001FFFF else some 0
  else if 0x12000 ≤ off && off < 0x14000 then
    let o := off - 0x12000
    if o = 0x01C then some 0xFF
    else if 0x020 ≤ o && o < 0x0AC then some 0x80003FFF
    else if 0x0B0 ≤ o && o < 0x0F0 then some 0x0003FFFF
    else if o = 0x0F0 then some 0x00FF00FF
    else if 0x0F4 ≤ o && o < 0x104 then some 0x3FFF0000
    else if 0x104 ≤ o && o < 0x10C then some 0x0001FFFF
    else if 0x10C ≤ o && o < 0x114 then some 0xF0FFFFFF
    else none
  else if 0x1A000 ≤ off && off < 0x1C000 then
    let o := off - 0x1A000
    if 0x1000 ≤ o && o < 0x1800 then
      match o % 0x20 with
      | 0x00 => some 0x8000FFFF
      | 0x04 => some 0xFFFFFFFF
      | 0x08 => some 0x0000FFFF
      | 0x0C | 0x10 => some 0x3FFF01FF
      | 0x14 => some 0x003F003F
      | _ => none
    else match o with
      | 0x008 => some 0xC0FFFFFF
      | 0x010 => some 0x0000EFFF
      | 0x014 => some 0xFFFFFFFF
      | 0x018 => some 0x0000FFFF
      | 0x020 => some 0x03FF03FF
      | 0x024 => some 0x3FFFFFFF
      | 0x028 => some 0x00011F1F
      | _ => none
  else if 0x1C000 ≤ off && off < 0x1E000 then
    match off % 0x1000 with
    | 0x008 => some 0xF81F0000
    | 0x00C => some 0xFFFFFFFF
    | 0x010 => some 0xFC3F3F3F
    | 0x014 => some 0x800000FF
    | 0x01C => some 0xFFFFFFFF
    | 0x020 => some 0x0001FFFF
    | _ => none
  else none

/-- A value that a face register takes as reserved: APH above 4, encoder MODE 3 (R346, R348). -/
def faceReserved (off : Nat) (v : Word) : Bool :=
  (0x120F4 ≤ off && off < 0x12104 && 4 < fld v 26 24) || (0x1210C ≤ off && off < 0x12114 && fld v 31 30 = 3)

/-! ### Guards -/

/-- The never-written value of a guard register (R552, R553). -/
def guardReset (off : Nat) : Word :=
  if off = 0x140 || off = 0x148 then 0x7B0CFA88
  else if 0x160 ≤ off && off < 0x170 then 0xFFFFFFFF
  else if off = 0x200 || off = 0x300 then 0x80000000
  else if off = 0x204 || off = 0x304 then 0x7FF
  else if off = 0x208 || off = 0x308 then 0xA0000000
  else if off = 0x20C || off = 0x30C then 0x1FFFFFFF
  else if 0x400 ≤ off && off < 0x800 then
    (if off % 16 = 8 then 0x80000000 else if off % 16 = 12 then 0x7FFFFFFF else 0xFFFFFFFF)
  else if 0x800 ≤ off && off < 0x1000 then 0x7FFF8000
  else 0

/-- A guard register as it reads, and as its block uses it since its effect moment (R548). -/
def Bench.guardReg (b : Bench) (off : Nat) : Word := (Tbl.get none b.gd.reg off).getD (guardReset off)
def Bench.guard (b : Bench) (off : Nat) : Word := (Tbl.get none b.gd.eff off).getD (guardReset off)

/-- The counters of interventions (R543). -/
def Bench.guardClip (b : Bench) : Bench := { b with gd := { b.gd with clip := inc b.gd.clip } }
def Bench.guardDelay (b : Bench) : Bench := { b with gd := { b.gd with delay := inc b.gd.delay } }
def Bench.guardDeny (b : Bench) : Bench := { b with gd := { b.gd with deny := inc b.gd.deny } }

/-- GLO and GHI of a loop (R231). -/
def Bench.loopClamp (n : Nat) (b : Bench) : Int × Int :=
  let w := b.guard (0x800 + 4 * n)
  (s16 w, sext 16 (fld w 31 16))

/-- GVMAX, GACC and the position window of an axis (R279, R293); an active SLS lowers GVMAX (R374). -/
def Bench.guardVmax (b : Bench) (a : Nat) : Nat :=
  b.qn.caps.foldl (fun m c => if c.1 = a then min m c.2 else m) (b.guard (0x400 + 16 * a)).toNat
def Bench.guardAcc (b : Bench) (a : Nat) : Nat := (b.guard (0x404 + 16 * a)).toNat
def Bench.guardPmin (b : Bench) (a : Nat) : Int := s32 (b.guard (0x408 + 16 * a))
def Bench.guardPmax (b : Bench) (a : Nat) : Int := s32 (b.guard (0x40C + 16 * a))

end Sys2Proof.Machine
end

