-- ==== Sys2Proof/Machine/Face.lean ====
section
/-!
DEFINITION. The face: digital and analog inputs and outputs, field supply, encoders (R312 to R348).
-/
namespace Sys2Proof.Machine

/-! ### Configuration (R317, R346, R348) -/

def faceAt (o : Nat) : Nat := 0x12000 + o
def Bench.fw (b : Bench) (o : Nat) : Word := b.cfg (faceAt o)
/-- The configuration as the face has it: the bench's, while bench frames reach it (R20, R42). -/
def Bench.ffw (b : Bench) (o : Nat) : Word := if b.fc.faceLink then b.fw o else Tbl.get 0 b.fc.kept (faceAt o)
/-- The rail by the face's follower: with bench frames the bench's own, else on from the last frame (R42). -/
def Bench.faceNow (b : Bench) : Time :=
  if b.fc.faceLink then b.rail.now else b.fc.follower + (b.rail.up - b.fc.followAt)
/-- The point a channel is mapped to (R317). -/
def Bench.facePoint (b : Bench) (c : Nat) : Option Nat :=
  let w := b.fw (0x20 + 4 * c)
  if c < 35 && bitOf w 31 then some (fld w 13 0) else none
/-- The output channel (0 to 7 DO, 8 and 9 AO) that a point drives. -/
def Bench.outChannel (b : Bench) (p : Nat) : Option Nat :=
  ((List.range 10).find? fun i => b.facePoint (if i < 8 then 16 + i else 20 + i) = some p)
def Bench.faceMapped (b : Bench) (p : Nat) : Bool := (b.outChannel p).isSome

def Bench.setFace (f : Face → Face) (b : Bench) : Bench := { b with fc := f b.fc }
def Bench.setDi (i : Fin 16) (x : DigIn) (b : Bench) : Bench := b.setFace fun f => { f with di := f.di.set i x }
def Bench.setDo (i : Fin 8) (x : DigOut) (b : Bench) : Bench := b.setFace fun f => { f with do_ := f.do_.set i x }
def Bench.setAi (i : Fin 4) (x : AnaIn) (b : Bench) : Bench := b.setFace fun f => { f with ai := f.ai.set i x }
def Bench.setAo (i : Fin 2) (x : AnaOut) (b : Bench) : Bench := b.setFace fun f => { f with ao := f.ao.set i x }
def Bench.setEnc (i : Fin 2) (x : Encoder) (b : Bench) : Bench := b.setFace fun f => { f with enc := f.enc.set i x }

/-- A write of a face input to its point (R26, R323), over the barrier link (R20); nothing where the channel has none. -/
def Bench.faceWrite (c : Nat) (v : Word) (q : Half) (st : Time) (b : Bench) : Bench :=
  match b.facePoint c with | some p => if b.fc.linkOk then b.writePoint .face p v q st else b | none => b

/-- An event bit of the FC_ block (R347). -/
def Bench.faceEvent (bit : Nat) (d1 : Word) (b : Bench) : Bench := b.raise 8 bit 0 d1 0
/-- What the bench does with what its face reports: it counts, records and raises it (R325, R331, R333, R338, R340, R343). -/
def Bench.faceHear (n : FaceNews) (b : Bench) : Bench :=
  match n with
  | .warn => ((b.setFace fun f => { f with sagCnt := inc f.sagCnt }).health 12 |>.faceEvent 0 0).errorCause 6 0
  | .lockout => ((b.setFace fun f => { f with lockCnt := inc f.lockCnt }).health 10 |>.faceEvent 1 1).errorCause 6 1
  | .reenabled => b.faceEvent 2 0
  | .fault => ((b.setFace fun f => { f with faultCnt := inc f.faultCnt }).health 11 |>.faceEvent 3 0).errorCause 7 0
  | .wire => (b.setFace fun f => { f with wbCnt := inc f.wbCnt }).faceEvent 4 0
  | .alarm => b.faceEvent 5 0
  | .compliance => (b.setFace fun f => { f with cplCnt := inc f.cplCnt }).faceEvent 6 0
  | .encErr =>
    let b := b.setFace fun f => { f with encErrCnt := inc f.encErrCnt }
    if bitOf b.ev[(8 : Fin 18)] 7 then b else b.faceEvent 7 0
/-- The face reports it in its next frame; without frames it waits for the link (R20). -/
def Bench.faceSay (n : FaceNews) (b : Bench) : Bench :=
  if b.fc.linkOk then b.faceHear n else b.setFace fun f => { f with news := f.news ++ [n] }
/-- A face frame arrives: the link runs, and what waited for it is told (R42). -/
def Bench.faceHeard (b : Bench) : Bench :=
  let l := b.fc.news
  l.foldl (fun b n => b.faceHear n) (b.setFace fun f => { f with linkOk := true, confAt := b.rail.now, news := [] })

/-! ### Digital inputs (R321 to R327) -/

/-- DB of an input; 0, which only an image without a face section leaves, acts as 1 (R322). -/
def Bench.diDb (b : Bench) (i : Nat) : Nat := max 1 (fld (b.ffw (0xB0 + 4 * i)) 15 0)
def Bench.diWben (b : Bench) (i : Nat) : Bool := bitOf (b.ffw (0xB0 + 4 * i)) 17
/-- RBEN of an output (R330). -/
def Bench.doRben (b : Bench) (i : Nat) : Bool := bitOf (b.ffw 0xF0) (16 + i)
/-- Value and quality of an input's point (R323, R325). -/
def DigIn.entry (x : DigIn) : Word × Half :=
  if x.wire then (0, putBit 0 qWireBreak true) else (boolW x.level, qLive)
where boolW (v : Bool) : Word := if v then 1 else 0

/-- A change of some read-back bit writes the read-back word (R317). -/
def Face.readbacks (f : Face) : Word := (List.finRange 8).foldl (fun w i => putBit w i.val f.do_[i].readback) 0
def Face.applied (f : Face) : Word := (List.finRange 8).foldl (fun w i => putBit w i.val f.do_[i].applied) 0

/-- OUT_FAULT follows latch-offs and mismatches; its rise is counted and raised (R331). -/
def Bench.outFaultEval (b : Bench) : Bench :=
  let now := b.fc.do_.toList.any fun x => x.latched || x.mismatch
  let was := b.fc.outFault
  let b := b.setFace fun f => { f with outFault := now }
  if now && !was then b.faceSay .fault else b

/-- One input at one microsecond (R321, R322); its current is watched with WBEN = 1 (R325). -/
def DigIn.sample (wben raw low : Bool) (now : Time) (x : DigIn) : DigIn :=
  { x with
    raw := raw, low := low,
    newAt := if raw = x.level then none else match x.newAt with | some a => if x.raw = raw then some a else some now | none => some now,
    wireAt := if !wben || low = x.wire then none else match x.wireAt with | some a => if x.low = low then some a else some now | none => some now }

/-- Since when a condition has held. -/
def since (cond : Bool) (old : Option Nat) (now : Nat) : Option Nat :=
  if cond then (match old with | some a => some a | none => some now) else none

/-- What a face frame says. -/
def Face.report (f : Face) : FaceReport where
  raw := (List.finRange 16).foldl (fun w i => putBit w i.val f.di[i].raw) 0
  level := (List.finRange 16).foldl (fun w i => putBit w i.val f.di[i].level) 0
  wire := (List.finRange 16).foldl (fun w i => putBit w i.val f.di[i].wire) 0
  readback := f.readbacks
  applied := f.applied
  lplus := f.lplus
  meas := f.ao.map (·.meas)
  count := f.enc.map (·.count)
  clip := f.ao.toList.any (·.clip)
  fault := f.outFault
  lockout := f.lockout
  warn := f.fieldWarn
/-- What the next frame tells the bench, while the link runs (R20, R42). -/
def Bench.faceReport (b : Bench) : Bench := if b.fc.linkOk then b.setFace fun f => { f with seen := f.report } else b
/-- Face frames end: the bench keeps what the last one said. -/
def Bench.faceMute (b : Bench) : Bench := b.faceReport.setFace fun f => { f with linkOk := false }
/-- What the bench knows of its face. -/
def Face.known (f : Face) : FaceReport := if f.linkOk then f.report else f.seen

/-- The latch instants of digital inputs, each whole microsecond: changes of forces on them take effect (R166, R321). -/
def Bench.diForces (b : Bench) : Bench :=
  if b.bn.mode ≠ .run then b
  else (b.forcePoints.filter fun p => (List.range 16).any fun i => b.facePoint i = some p).foldl (fun b p => b.latchForce p) b

/-- The samples of one whole microsecond of the follower (R321, R325, R330, R333). -/
def Bench.diSample (raw low : BitVec 16) (rb : BitVec 8) (lplus : Nat) (b : Bench) : Bench :=
  let now := b.faceNow
  let old := b.fc.readbacks
  let b := b.setFace fun f => { f with
    di := f.di.mapFinIdx fun i x _ => DigIn.sample (b.diWben i) (raw.getLsbD i) (low.getLsbD i) now x,
    do_ := f.do_.mapFinIdx fun i x _ => { x with readback := rb.getLsbD i, mismatch := x.mismatch && b.doRben i && (rb.getLsbD i != x.applied) },
    lplus := lplus, warnLow := since (lplus < 19200) f.warnLow now, warnHigh := since (19600 ≤ lplus) f.warnHigh now,
    lockLow := since (lplus < 16500) f.lockLow now, lockHigh := since (18000 < lplus) f.lockHigh now }
  let b := if b.fc.readbacks = old then b else b.faceWrite 34 b.fc.readbacks qLive now
  b.diForces.outFaultEval.faceReport

/-- A digital input's write, which an image of an instant not before its stamp still takes (R323, R324). -/
def Bench.diWrite (i : Fin 16) (st : Time) (b : Bench) : Bench :=
  let x := b.fc.di[i]
  let b := b.faceWrite i.val x.entry.1 x.entry.2 st
  match b.facePoint i.val with
  | some p => if b.bn.mode = .run && b.fc.linkOk && (b.point p).source = 1 then b.lateImage p st fun _ => b.point p else b
  | none => b

/-- An accepted change of an input (R322, R323): stamped with the microsecond of the last of the DB samples. -/
def Bench.diAccept (i : Fin 16) (b : Bench) : Bench :=
  let x := b.fc.di[i]
  match x.newAt with
  | some a =>
    let at' := a + (b.diDb i.val - 1) * 1000
    if at' ≤ b.faceNow then
      let x := { x with level := x.raw, newAt := none }
      let b := b.setDi i x
      if x.wire then b.faceReport else (b.diWrite i at').faceReport
    else b
  | none => b

/-- DI_CHANGE_ACCEPTED (R322, R323). -/
def execDiChangeAccepted (bn : BenchIx) (t : Nat) (ch : Fin 16) (s : State) : Host.Outcome State Fault Refusal :=
  s.onBench bn fun b =>
    let b := b.tick t
    if b.fc.powered then b.diAccept ch else b

/-- WIRE_BREAK of an input sets or clears after 10 ms (R325, R327). -/
def Bench.diWire (i : Fin 16) (b : Bench) : Bench :=
  let x := b.fc.di[i]
  match x.wireAt with
  | some a =>
    if b.diWben i.val && !b.fc.fieldWarn && a + 10000000 ≤ b.faceNow then
      let x := { x with wire := !x.wire, wireAt := none }
      let b := b.setDi i x
      let b := if x.wire then b.faceSay .wire else b
      (b.diWrite i (a + 10000000)).faceReport
    else b
  | none => b

/-- DI_WIRE_BREAK (R325, R327). -/
def execDiWireBreak (bn : BenchIx) (t : Nat) (ch : Fin 16) (s : State) : Host.Outcome State Fault Refusal :=
  s.onBench bn fun b =>
    let b := b.tick t
    if b.fc.powered then b.diWire ch else b

/-! ### Field supply (R333 to R335) -/

/-- n consecutive samples have been seen since a. -/
def runOf (a : Option Nat) (n now : Nat) : Bool := match a with | some a => a + (n - 1) * 1000 ≤ now | none => false

/-- FIELD_WARN (R327, R333). -/
def execFieldWarn (bn : BenchIx) (t : Nat) (s : State) : Host.Outcome State Fault Refusal :=
  s.onBench bn fun b =>
    let b := b.tick t
    if b.fc.powered && runOf b.fc.warnLow 10 b.faceNow && !b.fc.fieldWarn then
      ((b.setFace fun f => { f with fieldWarn := true }).faceSay .warn).faceReport
    else b

/-- FIELD_WARN_CLEAR (R327, R333): wire-break counts restart. -/
def execFieldWarnClear (bn : BenchIx) (t : Nat) (s : State) : Host.Outcome State Fault Refusal :=
  s.onBench bn fun b =>
    let b := b.tick t
    if b.fc.powered && runOf b.fc.warnHigh 10000 b.faceNow && b.fc.fieldWarn then
      let now := b.faceNow
      (b.setFace fun f => { f with fieldWarn := false, di := f.di.map fun x => { x with wireAt := x.wireAt.map fun _ => now } }).faceReport
    else b

/-- The read-back window restarts (R330). -/
def Face.windowRestart (now : Nat) (f : Face) : Face := { f with do_ := f.do_.map fun x => { x with changedAt := now, mismatch := false } }

/-- The land of a DO that is on goes off by lockout or latch-off: the guards' timing history restarts (R542), and so does
the read-back window (R330). -/
def DigOut.landOff (now : Nat) (x : DigOut) : DigOut :=
  if x.applied && !x.latched then { x with guardAt := some now, ons := [], changedAt := now, mismatch := false } else x

/-- Lockout begins (R333): every DO goes off at its land. -/
def Bench.lockoutBegins (b : Bench) : Bench :=
  if b.fc.powered && runOf b.fc.lockLow 5 b.faceNow && !b.fc.lockout then
    let now := b.rail.now
    let b := b.setFace fun f => { f with lockout := true, do_ := f.do_.map fun x => x.landOff now }
    ((b.faceSay .lockout).outFaultEval).faceReport
  else b

/-- REENABLED (R330, R333, R334): outputs follow their applied values again. -/
def execReenabled (bn : BenchIx) (t : Nat) (s : State) : Host.Outcome State Fault Refusal :=
  s.onBench bn fun b =>
    let b := b.tick t
    if b.fc.powered && runOf b.fc.lockHigh 10000 b.faceNow && b.fc.lockout then
      (((b.setFace fun f => { f.windowRestart b.rail.now with lockout := false }).faceSay .reenabled).outFaultEval).faceReport
    else b

/-! ### Outputs (R29, R329 to R332, R339, R541 to R543) -/

/-- LATCH_OFF (R329). -/
def execLatchOff (bn : BenchIx) (t : Nat) (ch : Fin 8) (s : State) : Host.Outcome State Fault Refusal :=
  s.onBench bn fun b =>
    let b := b.tick t
    let x := b.fc.do_[ch]
    if b.fc.powered && x.applied && !b.fc.lockout then
      ((b.setDo ch { x.landOff b.rail.now with latched := true, changedAt := b.rail.now }).outFaultEval).faceReport
    else b

/-- READ_BACK_MISMATCH (R330): from RB_WIN after the applied value last changed, during lockout too (R332). -/
def execReadBackMismatch (bn : BenchIx) (t : Nat) (ch : Fin 8) (s : State) : Host.Outcome State Fault Refusal :=
  s.onBench bn fun b =>
    let b := b.tick t
    let x := b.fc.do_[ch]
    if b.fc.powered && b.doRben ch.val && x.readback ≠ x.applied &&
        x.changedAt + fld (b.ffw 0x1C) 7 0 * 100000 ≤ b.rail.now then
      ((b.setDo ch { x with mismatch := true }).outFaultEval).faceReport
    else b

/-- A DO takes an applied value at once: guards' history restarts (R542), latch-off ends on 0 to 1 (R329). -/
def DigOut.take (v : Bool) (now : Nat) (x : DigOut) : DigOut :=
  if v = x.applied then { x with held := false }
  else { x with applied := v, changedAt := now, guardAt := some now, held := false, latched := x.latched && !v,
                ons := if v then now :: x.ons.filter (fun k => now < k + 1000000000) else x.ons }
def DigOut.force (v : Bool) (now : Nat) (x : DigOut) : DigOut :=
  { DigOut.take v now x with changedAt := now, guardAt := some now, ons := [], mismatch := false, held := false }

/-- The DO guards admit a change now (R541). -/
def Bench.doAdmits (b : Bench) (i : Fin 8) (v : Bool) : Bool :=
  let x := b.fc.do_[i]
  let w := b.guard (0x100 + 8 * i.val)
  let rate := fld (b.guard (0x104 + 8 * i.val)) 15 0
  let min := (if v then fld w 15 0 else fld w 31 16) * 10000
  (match x.guardAt with | some a => a + min ≤ b.rail.now | none => true) &&
  (!v || rate = 0 || (x.ons.filter fun k => b.rail.now < k + 1000000000).length < rate)

/-- A value handed over to a DO: held back where a guard does not admit the change yet (R541, R543). -/
def Bench.handDo (i : Fin 8) (v : Bool) (b : Bench) : Bool × Bench :=
  let x := b.fc.do_[i]
  if v = x.applied then (false, b.setDo i { x with held := false })
  else if b.doAdmits i v then
    (false, (b.setDo i (x.take v b.rail.now)).outFaultEval)
  else (true, if x.held then b else (b.setDo i { x with held := true }).guardDelay)

/-- A value handed over to a DO crosses the barrier link; the face takes it while it has frames (R20, R42). -/
def Bench.applyDo (i : Fin 8) (v : Bool) (b : Bench) : Bool × Bench :=
  let b := b.setDo i { b.fc.do_[i] with want := v }
  if b.fc.faceLink then b.handDo i v else (false, b)

/-- The value an AO stands at, on its ramp (R541). -/
def AnaOut.nowU (now : Nat) (x : AnaOut) : Int :=
  if x.slew = 0 then x.u
  else
    let d : Int := (x.slew * ((now - x.fromAt) / 10000) : Nat)
    if x.fromU ≤ x.u then min x.u (x.fromU + d) else max x.u (x.fromU - d)

/-- An AO takes a value (R339, R541): clipped to the guard's range (unless it is not a guarded change), then to
what the output delivers. -/
def Bench.applyAo (m : Fin 2) (slewed : Bool) (v : Int) (b : Bench) : Bench :=
  let x := b.fc.ao[m]
  let w := b.guard (0x140 + 8 * m.val)
  let slew := fld (b.guard (0x144 + 8 * m.val)) 15 0
  let u := clipInt (s16 w) (sext 16 (fld w 31 16)) v
  let b := if u ≠ v && v ≠ x.asked then b.guardClip else b
  let u' := clipInt (-1400) 31500 u
  if slewed && u' = x.u && slew = x.slew then b.setAo m { x with clip := u' ≠ u, asked := v }
  else
    let start := if slewed then x.nowU b.rail.now else u'
    let b := if slewed && slew ≠ 0 && u' ≠ x.u && slew < (u' - start).natAbs then b.guardDelay else b
    b.setAo m { x with u := u', fromU := start, fromAt := b.rail.now, slew := slew, clip := u' ≠ u, asked := v }

/-- A value handed over to an AO crosses the barrier link (R20); the face stands at SAFE until tokens reach it (R344). -/
def Bench.handAo (m : Fin 2) (v : Int) (b : Bench) : Bench :=
  if b.fc.faceLink && b.fc.tokenOk then b.applyAo m true v else b.setAo m { b.fc.ao[m] with asked := v }

/-- The output stage hands a value over: to the face, or kept for the network port that takes it (R29, R399).
Answers whether a guard held the change back. -/
def Bench.applyOutput (p : Nat) (v : Word) (stamp : Time) (b : Bench) : Bool × Bench :=
  match b.outChannel p with
  | none => (false, { b with ha := { b.ha with out := Tbl.insert p (v, stamp) b.ha.out } })
  | some c =>
    if c < 8 then b.applyDo (mkIx 7 c) (boolOf v)
    else (false, b.handAo (mkIx 1 (c - 8)) (s16 v))

/-- FC_AO_CFG as the face takes it: the AO range clips its SAFE value too (R542). -/
def Bench.aoConf (b : Bench) (m : Fin 2) : Word :=
  let w := b.guard (0x140 + 8 * m.val)
  let c := b.fw (0x104 + 4 * m.val)
  putFld c 15 0 (half (clipInt (s16 w) (sext 16 (fld w 31 16)) (s16 c)))

/-- The configuration as it stands reaches the face: its own copy of the safe values, once an image has given them
(R43, R80), and no wire break without WBEN (R325). Without bench frames nothing reaches it (R20). -/
def Bench.faceConf (b : Bench) : Bench :=
  if !b.fc.faceLink then b
  else b.setFace fun f => { f with
    safeDo := if b.bn.safeLoaded then b.fw 0xF0 else f.safeDo,
    safeAo := if b.bn.safeLoaded then #v[b.aoConf 0, b.aoConf 1] else f.safeAo,
    di := f.di.mapFinIdx fun i x _ => if b.diWben i then x else { x with wire := false, wireAt := none } }

/-- Safe values become the applied values, at once, on a face that has bench frames (R20, R81, R330, R542). -/
def Bench.faceSafe (b : Bench) : Bench :=
  if !b.fc.faceLink then b else
  let now := b.rail.now
  let safe := b.fw 0xF0
  let b := b.faceConf.setFace fun f => { f with
    do_ := f.do_.mapFinIdx fun i x _ => { x.force (bitOf safe i) now with want := bitOf safe i } }
  (((b.applyAo 0 false (s16 (b.fw 0x104))).applyAo 1 false (s16 (b.fw 0x108))).outFaultEval).faceReport

/-- The SAFE value of an AO as the face holds it, clipped to what the output delivers (R339). -/
def Face.aoSafe (f : Face) (m : Fin 2) : Int := clipInt (-1400) 31500 (s16 f.safeAo[m])

/-- The face sets its outputs by itself (R43, R476): DO to `off` or its SAFE bits, AO to SAFE. -/
def Bench.faceDrop (off : Bool) (b : Bench) : Bench :=
  let now := b.rail.now
  (b.setFace fun f => { f with
    do_ := f.do_.mapFinIdx fun i x _ => x.force (!off && bitOf f.safeDo i) now,
    ao := f.ao.mapFinIdx fun m x h =>
      let u := f.aoSafe ⟨m, h⟩
      { x with u := u, fromU := u, fromAt := now, slew := 0, clip := u ≠ s16 f.safeAo[m] } }).outFaultEval

/-- Bench frames end: the face goes on by itself with the configuration it has (R20, R43). -/
def Bench.faceAlone (b : Bench) : Bench :=
  if !b.fc.faceLink then b
  else b.setFace fun f => { f with
    faceLink := false, follower := b.rail.now, followAt := b.rail.up,
    kept := b.conf.filter fun e => 0x12000 ≤ e.1 && e.1 < 0x14000 }

/-- The bench no longer sends frames: its core rail or the supply is gone (R23, R43, R88). -/
def Bench.faceDark (b : Bench) : Bench :=
  (b.faceMute.faceAlone).faceDrop false

/-- What the bench asks of its face, once it is there (R329, R331, R345). -/
def Bench.faceObey (o : FaceOrder) (b : Bench) : Bench :=
  match o with
  | .clear => ((b.setFace fun f => { f with do_ := f.do_.map fun x => { x with latched := false } }).outFaultEval).faceReport
  | .encSet e t v =>
    let x := b.fc.enc[e]
    b.setEnc e { x with load := (x.load.filter fun k => k.1 ≤ t) ++ (t, v) :: x.load.filter fun k => t < k.1 }
/-- It crosses the link in the next bench frame; without frames it waits for them (R20). -/
def Bench.faceAsk (o : FaceOrder) (b : Bench) : Bench :=
  if b.fc.faceLink then b.faceObey o else b.setFace fun f => { f with orders := f.orders ++ [o] }
/-- A bench frame reaches the face: rail, configuration and what waited for it (R20, R42). -/
def Bench.faceFramed (b : Bench) : Bench :=
  let l := b.fc.orders
  let b := (b.setFace fun f => { f with faceLink := true, follower := b.rail.now, followAt := b.rail.up, orders := [] }).faceConf
  l.foldl (fun b o => b.faceObey o) b

/-- Frames, or tokens, reach the face again: it takes the values that they carry (R42, R476). -/
def Bench.faceBack (b : Bench) : Bench :=
  if !(b.fc.powered && b.fc.faceLink && b.fc.tokenOk) then b
  else match b.bn.mode with
  | .run =>
    let b := (List.finRange 8).foldl (fun b i => (b.handDo i b.fc.do_[i].want).2) b
    (List.finRange 2).foldl (fun b m => b.applyAo m true b.fc.ao[m].asked) b
  | .configure | .hold => b.faceSafe
  | _ => b

/-- The first drive at a takeover (R484, R542): no guard delays it. -/
def Bench.faceDrive (p : Nat) (v : Word) (stamp : Time) (b : Bench) : Bench :=
  match b.outChannel p with
  | none => { b with ha := { b.ha with out := Tbl.insert p (v, stamp) b.ha.out } }
  | some c =>
    if c < 8 then let i : Fin 8 := mkIx 7 c; b.setDo i { b.fc.do_[i].force (boolOf v) b.rail.now with want := boolOf v }
    else b.applyAo (mkIx 1 (c - 8)) false (s16 v)

/-! ### Analog inputs (R336 to R338) -/

def Bench.aiCfg (b : Bench) (k : Nat) : Word := b.ffw (0xF4 + 4 * k)

/-- The point value of a sample (R336): x in nA (modes 1, 2) or µV (mode 3), limited to the converter's span;
the value clipped to INT16, and whether it was clipped low or high. -/
def aiValue (mode : Nat) (x : Int) : Int × Bool × Bool :=
  let z := match mode with
    | 1 => roundDiv (1750 * (clipInt 0 25000000 x - 4000000)) 1000000
    | 2 => roundDiv (1400 * clipInt 0 25000000 x) 1000000
    | _ => roundDiv (2800 * clipInt (-1250000) 11700000 x) 1000000
  (clipInt (-32768) 32767 z, z < -32768, 32767 < z)

/-- A delayed bit (R338): it follows its condition after ADLY + 1 consecutive samples on the other side. -/
def delayed (adly : Nat) (bit cond : Bool) (n : Nat) : Bool × Nat :=
  if cond = bit then (bit, 0) else if adly < n + 1 then (cond, 0) else (bit, n + 1)

/-- A sample at s (R336 to R338). -/
def Bench.aiSample (k : Fin 4) (x : Int) (b : Bench) : Bench :=
  let w := b.aiCfg k.val
  let mode := fld w 29 28
  let ne := bitOf w 27 && mode = 1
  let adly := fld w 23 16
  let a := b.fc.ai[k]
  let (v, lo, hi) := aiValue mode x
  let (wire, nW) := delayed adly a.wire (mode = 1 && x < 1000000) a.nWire
  let (alo, nL) := delayed adly a.alarmLo (ne && x ≤ 3600000) a.nLo
  let (ahi, nH) := delayed adly a.alarmHi (ne && 21000000 ≤ x) a.nHi
  let under := lo || (mode = 1 && x < 3800000) || (ne && x ≤ 3600000) || (mode = 3 && x < -100000)
  let ovr := hi || ((mode = 1 || mode = 2) && 20500000 < x) || (ne && 21000000 ≤ x) || (mode = 3 && 10250000 < x)
  let q : Half := putBit (putBit (putBit (putBit (putBit 0 qUnderrange under) qOverrange ovr) qAlarmLo alo) qAlarmHi ahi) qWireBreak wire
  let q := putBit q qValid (!alo && !ahi && !wire)
  let b := b.setAi k { value := v, quality := q, time := b.faceNow, due := true, alarmLo := alo, alarmHi := ahi, wire := wire,
                       nLo := nL, nHi := nH, nWire := nW }
  let b := if wire && !a.wire then b.faceSay .wire else b
  if (alo && !a.alarmLo) || (ahi && !a.alarmHi) then b.faceSay .alarm else b

/-- AI_SAMPLE (R337): x is the measured current in nA or voltage in µV. -/
def execAiSample (bn : BenchIx) (t : Nat) (k : Fin 4) (x : Int) (s : State) : Host.Outcome State Fault Refusal :=
  s.onBench bn fun b =>
    let b := b.tick t
    let aph := fld (b.aiCfg k.val) 26 24 * 10000
    if b.fc.powered && fld (b.aiCfg k.val) 29 28 ≠ 0 && aph ≤ b.faceNow && (b.faceNow - aph) % 50000 = 0 then b.aiSample k x
    else b

/-- AI_SAMPLE_WRITE (R337): at exactly s + 4 µs, stamped s. -/
def execAiSampleWrite (bn : BenchIx) (t : Nat) (k : Fin 4) (s : State) : Host.Outcome State Fault Refusal :=
  s.onBench bn fun b =>
    let b := b.tick t
    let a := b.fc.ai[k]
    if b.fc.powered && a.due && b.faceNow = a.time + 4000 then
      (b.setAi k { a with due := false }).faceWrite (24 + k.val) (ofS a.value) a.quality a.time
    else b

/-! ### Analog outputs (R340, R341) -/

/-- DO and AO lands follow the applied values (R344). -/
def Bench.outEn (b : Bench) : Bool :=
  b.bn.mode = .run && b.fc.enable && b.fc.powered && b.fc.faceLink && b.fc.tokenOk
/-- The value at which an AO's land stands by the rows of R344; none: high impedance. -/
def Bench.aoLand (b : Bench) (m : Fin 2) : Option Int :=
  let x := b.fc.ao[m]
  if !b.fc.powered then none
  else if !b.fc.tokenOk || !b.fc.faceLink then
    (if bitOf b.fc.safeAo[m] 16 then none else some (b.fc.aoSafe m))
  else if !b.bn.safeLoaded || b.bn.defaultsHeld then none
  else if b.bn.mode = .configure || b.bn.mode = .hold then (if bitOf (b.fw (0x104 + 4 * m.val)) 16 then none else some x.u)
  else if b.outEn then some (x.nowU b.rail.now) else none

/-- A bit of an AO point set or cleared in place by the face where the point does not hold it so (R341). -/
def Bench.aoBit (m bit : Nat) (v : Bool) (b : Bench) : Bench :=
  match b.facePoint (28 + m) with
  | some p => if (b.point p).quality.getLsbD bit = v || !b.fc.linkOk then b else b.markPoint p fun q => putBit q bit v
  | none => b

/-- COMPLIANCE and WIRE_BREAK of a measured current (R340): nA against the commanded current. -/
def Bench.aoSample (m : Fin 2) (x : Int) (b : Bench) : Bench :=
  let a := b.fc.ao[m]
  let meas := BitVec.ofInt 16 (clipInt (-32768) 32767 (roundDiv (1750 * (x - 4000000)) 1000000))
  match b.aoLand m with
  | none => (b.setAo m { a with meas := meas }).faceReport
  | some u =>
    -- commanded current in nA, times 7: 4 mA + u / 1,750 mA
    let cmd7 : Int := 28000000 + 4000 * u
    let low := 7 * x < cmd7 - 350000
    let ok := (cmd7 - 7 * x).natAbs ≤ 140000
    let dead := x < 500000 && 22400000 ≤ cmd7
    let nLow := if low then a.nLow + 1 else 0
    let nOk := if ok then a.nOk + 1 else 0
    let nW := if dead then a.nWire + 1 else 0
    let compl := if a.compl then nOk < 20 else 2 ≤ nLow
    let wire := if a.wire then x ≤ 500000 else 20 ≤ nW
    let b := (b.setAo m { a with meas := meas, compl := compl, wire := wire, nLow := nLow, nOk := nOk, nWire := nW }).faceReport
    let b := b.aoBit m.val qCompliance compl
    let b := if compl && !a.compl then b.faceSay .compliance else b
    let b := b.aoBit m.val qWireBreak wire
    if wire && !a.wire then b.faceSay .wire else b

/-- AO_SAMPLE (R340): on the 50 µs grid; x is the measured loop current in nA. -/
def execAoSample (bn : BenchIx) (t : Nat) (m : Fin 2) (x : Int) (s : State) : Host.Outcome State Fault Refusal :=
  s.onBench bn fun b =>
    let b := b.tick t
    if b.fc.powered && b.faceNow % 50000 = 0 then b.aoSample m x else b

/-! ### Encoders (R342, R343, R345) -/

def Bench.encCfg (b : Bench) (e : Nat) : Word := b.ffw (0x10C + 4 * e)

/-- The glitch filter: a level that has held for FILT × 40 ns passes (R342). -/
def Track.sample (raw : Bool) (now filt : Nat) (k : Track) : Track :=
  let k := if raw = k.cand then k else { k with cand := raw, since := now }
  if k.since + filt * 40 ≤ now then { k with level := k.cand } else k

/-- A count wraps at 32 bits. -/
def wrap32 (z : Int) : Int := s32 (ofS z)

/-- Position of a pair of levels in the quadrature cycle. -/
def quadOf (a b : Bool) : Nat := match a, b with | false, false => 0 | true, false => 1 | true, true => 2 | false, true => 3

/-- What a sample counts (R342): ×4 every transition; ×1 the transitions of A while B is low; pulse on A's rise,
down while B is high. none: A and B changed together. -/
def encStep (mode : Nat) (a0 b0 a1 b1 : Bool) : Option Int :=
  if mode = 2 then (if a1 && !a0 then some (if b1 then -1 else 1) else some 0)
  else
    let d := (quadOf a1 b1 + 4 - quadOf a0 b0) % 4
    if d = 2 then none
    else
      let z : Int := if d = 1 then 1 else if d = 3 then -1 else 0
      if mode = 0 then some z else if a0 ≠ a1 && !b1 then some z else some 0

/-- Counts loaded by FACE_ENC_SET whose instants have come: the latest stands (R345). -/
def Bench.encSettle (e : Fin 2) (b : Bench) : Bench :=
  let x := b.fc.enc[e]
  match (x.load.takeWhile fun k => k.1 ≤ b.faceNow).getLast? with
  | some (_, v) => b.setEnc e { x with count := v, load := x.load.dropWhile fun k => k.1 ≤ b.faceNow }
  | none => b

/-- One 10 ns sample (R342, R343). -/
def Bench.encSample (e : Fin 2) (ra rb rz : Bool) (b : Bench) : Bench :=
  let b := b.encSettle e
  let x := b.fc.enc[e]
  let w := b.encCfg e.val
  let now := b.faceNow
  let f := fld w 23 16
  let a := x.a.sample ra now f
  let bb := x.b.sample rb now f
  let z := x.z.sample rz now f
  let step := encStep (fld w 31 30) x.a.level x.b.level a.level bb.level
  let d := match step with | some d => if bitOf w 28 then -d else d | none => 0
  let n := wrap32 (x.count + d)
  let m := wrap32 (x.laneB + d)
  let edge := z.level && !x.z.level
  let b := b.setEnc e { x with a := a, b := bb, z := z, count := n, laneB := m, zEdge := if edge then some (now / 10 * 10, n) else x.zEdge }
  let b := b.faceReport
  if step.isNone then b.faceSay .encErr else b

/-- ENCODER_SAMPLE (R342): levels of A, B and Z. -/
def execEncoderSample (bn : BenchIx) (t : Nat) (e : Fin 2) (ra rb rz : Bool) (s : State) : Host.Outcome State Fault Refusal :=
  s.onBench bn fun b =>
    let b := b.tick t
    if b.fc.powered then b.encSample e ra rb rz else b

/-- ENCODER_UPDATE (R342). -/
def execEncoderUpdate (bn : BenchIx) (t : Nat) (e : Fin 2) (s : State) : Host.Outcome State Fault Refusal :=
  s.onBench bn fun b =>
    let b := b.tick t
    if !b.fc.powered then b
    else
      let b := (b.encSettle e).faceReport
      let per := fld (b.encCfg e.val) 15 0 * 10000
      let now := b.faceNow
      if per = 0 || now % per ≠ 0 then b else b.faceWrite (30 + e.val) (ofS b.fc.enc[e].count) qLive now

/-- Z_CAPTURE (R343). -/
def execZCapture (bn : BenchIx) (t : Nat) (e : Fin 2) (s : State) : Host.Outcome State Fault Refusal :=
  s.onBench bn fun b =>
    let b := b.tick t
    let x := b.fc.enc[e]
    match (if b.fc.powered then x.zEdge else none) with
    | some (at', n) =>
      let b := b.setEnc e { x with zEdge := none, zCount := if bitOf (b.encCfg e.val) 29 then n else x.zCount }
      if bitOf (b.encCfg e.val) 29 then b.faceWrite (32 + e.val) (ofS n) qLive at' else b
    | none => b

/-- FACE_ENC_SET (R52, R345). -/
def execFaceEncSet (c : Cmd) (w count lo hi : Word) (s : State) : Host.Outcome State Fault Refusal :=
  s.onBench c.bench (Bench.accept (.faceEncSet c w count lo hi) c modesCfgRunHold fun b =>
    let at' := cat64 lo hi
    if 1 < w.toNat || at' % 10 ≠ 0 then b.refuse c .badParam
    else
      let first := firstMul 10000 (b.acc + 20000)
      let z := if at' = 0 then first else at'
      if z < b.acc then b.refuse c .timeout
      else
        (b.faceAsk (.encSet (mkIx 1 w.toNat) z (s32 count))).complete c .ok z)

/-- FACE_FAULT_CLEAR (R329, R331, R345). -/
def execFaceFaultClear (c : Cmd) (s : State) : Host.Outcome State Fault Refusal :=
  s.onBench c.bench (Bench.accept (.faceFaultClear c) c modesCfgRunHold fun b =>
    (b.faceAsk .clear).complete c .ok 0)

/-! ### Link and power (R42, R43, R314) -/

/-- LIVENESS_TOKEN (R474, R476): issued while the core rail and the hardware probe are good and the time rail runs; it
reaches the face in a barrier frame. -/
def execLivenessToken (bn : BenchIx) (t : Nat) (pulse : Pulse) (s : State) : Host.Outcome State Fault Refusal :=
  s.onBench bn fun b =>
    let b := b.tick t
    if pulse.probe && pulse.rail && b.bn.coreOk then
      let b := b.setNl fun x => { x with tokenAt := some b.rail.now }
      if b.fc.powered && b.fc.faceLink then
        let was := b.fc.tokenOk
        let b := b.setFace fun f => { f with tokenOk := true, tokenAt := b.rail.now }
        if was then b else b.faceBack
      else b
    else b

/-- FACE_POWER_RETURN (R314): the face operates again and barrier frames resume. -/
def execFacePowerReturn (bn : BenchIx) (t : Nat) (s : State) : Host.Outcome State Fault Refusal :=
  s.onBench bn fun b =>
    ((((b.tick t).setFace fun f => { f with powered := true }).faceFramed).faceHeard).faceBack

/-! ### Bench modes (R318, R344, R583) -/

/-- A map entry meets R317. -/
def Bench.mapEntryOk (b : Bench) (c p : Nat) : Bool :=
  let e := b.point p
  let half := e.format = 1 || e.format = 2
  let src := e.source = 1
  (if c < 16 then src && e.format = 3
   else if c < 24 then e.output && e.format = 3
   else if c < 28 then src && half
   else if c < 30 then e.output && half
   else if c < 34 then src && e.format = 0
   else src && e.format = 4) &&
  (List.range 35).all fun d => d = c || b.facePoint d ≠ some p

/-- The check of the face map at BENCH_RUN (R318). -/
def Bench.faceOk (b : Bench) : Bool :=
  (List.range 35).all fun c => match b.facePoint c with | some p => b.mapEntryOk c p | none => true
def Bench.faceCheck (b : Bench) : Bench := let r := !b.faceOk; b.setFace fun f => { f with mapRej := r }

/-- On entry into RUN the face writes every face-sourced input point once (R583). DESIGN CHOICE (log 54): while the
barrier link is lost the face writes nothing, and the marks of R43 stand. -/
def Bench.faceEnter (b : Bench) : Bench :=
  let now := b.rail.now
  let b := (List.finRange 16).foldl (fun b i => let e := b.fc.di[i].entry; b.faceWrite i.val e.1 e.2 now) b
  let b := (List.finRange 4).foldl (fun b k =>
    if fld (b.aiCfg k.val) 29 28 = 0 then b else b.faceWrite (24 + k.val) (ofS b.fc.ai[k].value) b.fc.ai[k].quality now) b
  let b := (List.finRange 2).foldl (fun b e =>
    let x := b.fc.enc[e]
    (b.faceWrite (30 + e.val) (ofS x.count) qLive now).faceWrite (32 + e.val) (ofS x.zCount) qLive now) b
  b.faceWrite 34 b.fc.readbacks qLive now

/-- The level of a DO land (R344). -/
def Bench.doLand (b : Bench) (i : Fin 8) : Bool :=
  let x := b.fc.do_[i]
  if !b.fc.powered || !b.fc.tokenOk then false
  else if !b.fc.faceLink then bitOf b.fc.safeDo i.val && !b.fc.lockout && !x.latched
  else if !b.bn.safeLoaded || b.bn.defaultsHeld then false
  else if b.bn.mode = .configure || b.bn.mode = .hold then bitOf (b.fw 0xF0) i.val && !b.fc.lockout && !x.latched
  else b.outEn && x.applied && !b.fc.lockout && !x.latched

/-- FC_STATUS, FC_DI_LEVEL, FC_DI_RAW, FC_DO_STATE, FC_AO_MEAS (R346, R347): what the face knows, as its last frame gave it. -/
def Bench.faceStatus (b : Bench) : Word :=
  let k := b.fc.known
  at32 (b2n b.fc.mapRej) 7 ||| at32 (b2n k.clip) 6 ||| at32 (b2n k.fault) 5 |||
  at32 (b2n k.lockout) 4 ||| at32 (b2n k.warn) 3 ||| at32 (b2n b.outEn) 2 ||| at32 (b2n b.fc.linkOk) 1 |||
  at32 (b2n b.fc.powered) 0
def Bench.faceWord (b : Bench) (o : Nat) : Word :=
  let k := b.fc.known
  match o with
  | 0x000 => b.faceStatus
  | 0x004 => b.ev[(8 : Fin 18)]
  | 0x008 => BitVec.ofNat 32 (k.lplus / 10)
  | 0x00C => (k.wire <<< (16 : Nat)) ||| k.level
  | 0x010 => k.raw
  | 0x014 => (k.readback <<< (8 : Nat)) ||| k.applied
  | 0x018 => at32 k.meas[(1 : Fin 2)].toNat 16 ||| at32 k.meas[(0 : Fin 2)].toNat 0
  | 0x120 => b.fc.wbCnt | 0x124 => b.fc.sagCnt | 0x128 => b.fc.lockCnt | 0x12C => b.fc.faultCnt
  | 0x130 => b.fc.encErrCnt | 0x134 => b.fc.cplCnt
  | 0x140 => ofS k.count[(0 : Fin 2)] | 0x144 => ofS k.count[(1 : Fin 2)]
  | _ => b.fw o

/-- FC_CNT_CLR (R346). -/
def execFcCntClr (bn : BenchIx) (v : Word) (s : State) : Host.Outcome State Fault Refusal :=
  s.onBench bn fun b => b.setFace fun f => { f with
    wbCnt := if bitOf v 0 then 0 else f.wbCnt, sagCnt := if bitOf v 1 then 0 else f.sagCnt,
    lockCnt := if bitOf v 2 then 0 else f.lockCnt, faultCnt := if bitOf v 3 then 0 else f.faultCnt,
    encErrCnt := if bitOf v 4 then 0 else f.encErrCnt, cplCnt := if bitOf v 5 then 0 else f.cplCnt }

end Sys2Proof.Machine
end

