-- ==== Sys2Proof/Machine/Flags.lean ====
section
/-!
DEFINITION. Coith arithmetic with the sticky flags it sets (R189 to R193, R203): each operation gives
its result and the flags to be set in CS bits [5:0].
-/
namespace Sys2Proof.Machine

/-- CS bits [5:0] (R203). -/
abbrev Sticky := BitVec 6
def fSat : Sticky := 1
def fDvz : Sticky := 2
def fFiv : Sticky := 4
def fFof : Sticky := 8
def fFuf : Sticky := 16
def fFdz : Sticky := 32

def int32Min : Int := -2147483648
def int32Max : Int := 2147483647
def int16Min : Int := -32768
def int16Max : Int := 32767

/-- An integer clipped to a range, with SAT when clipping happened (R12). -/
def clipSat (lo hi z : Int) : Int × Sticky := if z < lo then (lo, fSat) else if hi < z then (hi, fSat) else (z, 0)

/-- An operand as the H bit takes it (R190). -/
def operand (h : Bool) (a : Word) : Int := if h then s16 a else s32 a

/-- The result of an integer operation under H and S (R190): wrapped, or clipped to its format. -/
def intResult (h s : Bool) (z : Int) : Word × Sticky :=
  if s then
    let (r, f) := if h then clipSat int16Min int16Max z else clipSat int32Min int32Max z
    (ofS r, f)
  else (if h then ofS (sext 16 (half z)) else ofS z, 0)

/-- ADD and SUB (R190). -/
def aluAdd (sub h s : Bool) (a b : Word) : Word × Sticky :=
  let x := operand h a
  let y := operand h b
  intResult h s (if sub then x - y else x + y)

/-- MUL (R190). -/
def aluMul (h s : Bool) (a b : Word) : Word × Sticky :=
  if h then (ofS (s16 a * s16 b), 0) else intResult false s (s32 a * s32 b)

/-- DIV (R190). -/
def aluDiv (a b : Word) : Word × Sticky :=
  if s32 b = 0 then (if 0 ≤ s32 a then ofS int32Max else ofS int32Min, fDvz)
  else if s32 a = int32Min && s32 b = -1 then (ofS int32Max, fSat)
  else (ofS ((s32 a).tdiv (s32 b)), 0)

/-- REM (R190). -/
def aluRem (a b : Word) : Word × Sticky :=
  if s32 b = 0 then (a, fDvz) else (ofS ((s32 a).tmod (s32 b)), 0)

/-- ABS, or negation with FUNC [0] (R189, R190). -/
def aluAbs (neg h s : Bool) (a : Word) : Word × Sticky :=
  let x := operand h a
  intResult h s (if neg then -x else if x < 0 then -x else x)

/-- SHF: 0 SLL, 1 SRL, 2 SRA, 3 ROL. -/
def aluShift (op : Fin 4) (a : Word) (k : Nat) : Word :=
  match op with
  | 0 => a <<< k
  | 1 => a >>> k
  | 2 => a.sshiftRight k
  | 3 => a.rotateLeft k

/-- BIT extract: width bits of a from a position. -/
def aluExtract (a : Word) (pos width : Nat) : Word := BitVec.ofNat 32 ((a.toNat >>> pos) % 2 ^ width)

/-- BIT insert: the low width bits of a into d at a position. -/
def aluInsert (d a : Word) (pos width : Nat) : Word := putFld d (pos + width - 1) pos (a.toNat % 2 ^ width)

/-- A condition of CMP or CMPI on two words (R189). -/
def condHolds (c : Cond) (a b : Word) : Bool :=
  match c with
  | .eq => a = b | .ne => a ≠ b | .lt => s32 a < s32 b | .le => s32 a ≤ s32 b
  | .ltu => a.toNat < b.toNat | .leu => a.toNat ≤ b.toNat

def boolWord (c : Bool) : Word := if c then 1 else 0

/-! ### The accumulator, Q9.30 (R191) -/

def accMin : Int := -(2 ^ 39)
def accMax : Int := 2 ^ 39 - 1
/-- The accumulator as an integer number of 2^−30, and back, clipped. -/
def accInt (a : BitVec 40) : Int := a.toInt
def accClip (z : Int) : BitVec 40 × Sticky :=
  let (r, f) := clipSat accMin accMax z
  (BitVec.ofInt 40 r, f)

/-- The Q30 product of two Q15 operands. -/
def prodQ30 (a b : Word) : Int := s16 a * s16 b

/-- QMUL. -/
def aluQmul (a b : Word) : Word × Sticky :=
  let (r, f) := clipSat int16Min int16Max (roundDiv (prodQ30 a b) (2 ^ 15))
  (ofS r, f)

/-- An integer scaled by 2^s and divided by 2^k, rounded convergently. -/
def scaled (z s : Int) (k : Nat) : Int :=
  if 0 ≤ s then roundDiv (z * 2 ^ s.toNat) (2 ^ k) else roundDiv z (2 ^ (k + (-s).toNat))

/-- SAC: to Q15, or to Q1.30. -/
def aluSac (q30 : Bool) (s : Int) (a : BitVec 40) : Word × Sticky :=
  let (r, f) := if q30 then clipSat int32Min int32Max (scaled (accInt a) s 0)
                else clipSat int16Min int16Max (scaled (accInt a) s 15)
  (ofS r, f)

/-- ASH. -/
def aluAsh (s : Int) (a : BitVec 40) : BitVec 40 × Sticky := accClip (scaled (accInt a) s 0)

/-- Redundant sign bits of an n-bit number: how often the sign repeats below the top bit. -/
def signBits {n : Nat} (w : BitVec n) : Nat → Nat
  | 0 => 0
  | k + 1 => if w.getLsbD k = w.msb then signBits w k + 1 else 0

/-! ### binary32 (R192) -/

/-- A binary32 operand as R192 reads it. A finite one is sign, 24-bit integer and exponent of 2. -/
inductive Flt where
  | nan
  | inf (neg : Bool)
  | zero (neg : Bool)
  | fin (neg : Bool) (m : Nat) (e : Int)
  deriving DecidableEq, Repr

/-- Read a word as binary32; a subnormal is zero of its sign (R192). -/
def fltOf (w : Word) : Flt :=
  let s := bitOf w 31
  let e := fld w 30 23
  let m := fld w 22 0
  if e = 255 then (if m = 0 then .inf s else .nan)
  else if e = 0 then .zero s
  else .fin s (2 ^ 23 + m) ((e : Int) - 150)

def fltNan : Word := 0x7FC00000
def fltInf (s : Bool) : Word := at32 (b2n s) 31 ||| 0x7F800000
def fltZero (s : Bool) : Word := at32 (b2n s) 31

/-- A positive rational num / den times 2^e, with a sign, rounded to nearest even. Overflow gives infinity
with FOF; a result that would be subnormal gives zero of its sign with FUF (R192). -/
def fltPack (s : Bool) (num den : Nat) (e : Int) : Word × Sticky :=
  let lg : Int := (Nat.log2 num : Int) - (Nat.log2 den : Int)
  -- floor of log2 (num / den)
  let lg := if 0 ≤ lg then (if num < den * 2 ^ lg.toNat then lg - 1 else lg)
            else (if num * 2 ^ (-lg).toNat < den then lg - 1 else lg)
  -- the unit in the last place, no smaller than that of subnormals
  let ulp : Int := max (lg + e - 23) (-149)
  let sh := ulp - e
  let q : Int := if 0 ≤ sh then roundDiv num (den * 2 ^ sh.toNat) else roundDiv (num * 2 ^ (-sh).toNat) den
  let q := q.toNat
  if q < 2 ^ 23 then (fltZero s, fFuf)
  else
    let (q, ulp) := if q = 2 ^ 24 then (2 ^ 23, ulp + 1) else (q, ulp)
    let be := ulp + 150
    if 255 ≤ be then (fltInf s, fFof)
    else (at32 (b2n s) 31 ||| at32 be.toNat 23 ||| BitVec.ofNat 32 (q - 2 ^ 23), 0)

/-- A signed integer times 2^e as binary32; zero takes the given sign. -/
def fltInt (zeroNeg : Bool) (z : Int) (e : Int) : Word × Sticky :=
  if z = 0 then (fltZero zeroNeg, 0) else fltPack (z < 0) z.natAbs 1 e

def fltNeg : Flt → Flt
  | .nan => .nan | .inf s => .inf !s | .zero s => .zero !s | .fin s m e => .fin (!s) m e

def fltWord : Flt → Word
  | .nan => fltNan | .inf s => fltInf s | .zero s => fltZero s
  | .fin s m e => at32 (b2n s) 31 ||| at32 (e + 150).toNat 23 ||| BitVec.ofNat 32 (m - 2 ^ 23)

/-- The integer that a finite operand is of 2^e, e at most its exponent. -/
def fltAt (s : Bool) (m : Nat) (e base : Int) : Int :=
  let v : Int := (m : Int) * 2 ^ (e - base).toNat
  if s then -v else v

/-- FADD, and with `sub` FSUB. -/
def fltAdd (sub : Bool) (a b : Word) : Word × Sticky :=
  let y := if sub then fltNeg (fltOf b) else fltOf b
  match fltOf a, y with
  | .nan, _ => (fltNan, 0)
  | _, .nan => (fltNan, 0)
  | .inf s, .inf t => if s = t then (fltInf s, 0) else (fltNan, fFiv)
  | .inf s, _ => (fltInf s, 0)
  | _, .inf t => (fltInf t, 0)
  | .zero s, .zero t => (fltZero (s && t), 0)
  | .zero _, f => (fltWord f, 0)
  | f, .zero _ => (fltWord f, 0)
  | .fin s m e, .fin t n d =>
    let base := min e d
    fltInt false (fltAt s m e base + fltAt t n d base) base

/-- FMUL. -/
def fltMul (a b : Word) : Word × Sticky :=
  match fltOf a, fltOf b with
  | .nan, _ => (fltNan, 0)
  | _, .nan => (fltNan, 0)
  | .inf _, .zero _ => (fltNan, fFiv)
  | .zero _, .inf _ => (fltNan, fFiv)
  | .inf s, .inf t => (fltInf (s ^^ t), 0)
  | .inf s, .fin t _ _ => (fltInf (s ^^ t), 0)
  | .fin s _ _, .inf t => (fltInf (s ^^ t), 0)
  | .zero s, .zero t => (fltZero (s ^^ t), 0)
  | .zero s, .fin t _ _ => (fltZero (s ^^ t), 0)
  | .fin s _ _, .zero t => (fltZero (s ^^ t), 0)
  | .fin s m e, .fin t n d => fltPack (s ^^ t) (m * n) 1 (e + d)

/-- FDIV. -/
def fltDiv (a b : Word) : Word × Sticky :=
  match fltOf a, fltOf b with
  | .nan, _ => (fltNan, 0)
  | _, .nan => (fltNan, 0)
  | .inf _, .inf _ => (fltNan, fFiv)
  | .zero _, .zero _ => (fltNan, fFiv)
  | .inf s, .zero t => (fltInf (s ^^ t), 0)
  | .inf s, .fin t _ _ => (fltInf (s ^^ t), 0)
  | .zero s, .inf t => (fltZero (s ^^ t), 0)
  | .zero s, .fin t _ _ => (fltZero (s ^^ t), 0)
  | .fin s _ _, .inf t => (fltZero (s ^^ t), 0)
  | .fin s _ _, .zero t => (fltInf (s ^^ t), fFdz)
  | .fin s m e, .fin t n d => fltPack (s ^^ t) m n (e - d)

/-- FSQRT: the root of m 2^e, from the root of m 2^60 or m 2^61 with a sticky bit below it. -/
def fltSqrt (a : Word) : Word × Sticky :=
  match fltOf a with
  | .nan => (fltNan, 0)
  | .zero s => (fltZero s, 0)
  | .inf s => if s then (fltNan, fFiv) else (fltInf false, 0)
  | .fin s m e =>
    if s then (fltNan, fFiv)
    else
      let odd := e % 2 ≠ 0
      let n := if odd then m * 2 ^ 61 else m * 2 ^ 60
      let h : Int := if odd then (e - 61) / 2 else (e - 60) / 2
      let r := isqrt n
      fltPack false (2 * r + (if r * r = n then 0 else 1)) 1 (h - 1)

/-- a < b for operands that are no NaN. -/
def fltLt : Flt → Flt → Bool
  | .nan, _ => false
  | _, .nan => false
  | .inf s, .inf t => s && !t
  | .inf s, _ => s
  | _, .inf t => !t
  | .zero _, .zero _ => false
  | .zero _, .fin t _ _ => !t
  | .fin s _ _, .zero _ => s
  | .fin s m e, .fin t n d =>
    let base := min e d
    fltAt s m e base < fltAt t n d base

def fltNan? : Flt → Bool
  | .nan => true
  | _ => false

/-- FCMP: 0 EQ, 1 LT, 2 LE, 3 unordered; quiet. -/
def fltCmp (op : Fin 4) (a b : Word) : Bool :=
  let x := fltOf a
  let y := fltOf b
  let un := fltNan? x || fltNan? y
  match op with
  | 0 => !un && !fltLt x y && !fltLt y x
  | 1 => !un && fltLt x y
  | 2 => !un && !fltLt y x
  | 3 => un

/-- A binary32 value times 2^k rounded to an integer and clipped; a NaN gives 0 with FIV (R192). -/
def fltToInt (k : Nat) (lo hi : Int) (a : Word) : Int × Sticky :=
  match fltOf a with
  | .nan => (0, fFiv)
  | .zero _ => (0, 0)
  | .inf s => (if s then lo else hi, fSat)
  | .fin s m e =>
    let z : Int := if s then -(m : Int) else (m : Int)
    let e := e + k
    if 0 ≤ e then clipSat lo hi (if 64 < e then (if s then lo - 1 else hi + 1) else z * 2 ^ e.toNat)
    else clipSat lo hi (if e < -64 then 0 else roundDiv z (2 ^ (-e).toNat))

/-- FCVT: 0 INT32 to binary32, 1 back, 2 Q15 to binary32, 3 back. -/
def fltCvt (op : Fin 4) (a : Word) : Word × Sticky :=
  match op with
  | 0 => fltInt false (s32 a) 0
  | 1 => let (z, f) := fltToInt 0 int32Min int32Max a; (ofS z, f)
  | 2 => fltInt false (s16 a) (-15)
  | 3 => let (z, f) := fltToInt 15 int16Min int16Max a; (ofS z, f)

/-- The smaller of two operands, −0 below +0; the other one when one is a NaN (R192). -/
def fltMin (a b : Flt) : Flt :=
  match a, b with
  | .nan, y => y
  | x, .nan => x
  | .zero s, .zero t => .zero (s || t)
  | x, y => if fltLt y x then y else x

/-- FMISC: 0 abs, 1 negate, 2 min, 3 max. -/
def fltMisc (op : Fin 4) (a b : Word) : Word :=
  match op with
  | 0 => match fltOf a with
         | .nan => fltNan | .inf _ => fltInf false | .zero _ => fltZero false | .fin _ m e => fltWord (.fin false m e)
  | 1 => fltWord (fltNeg (fltOf a))
  | 2 => fltWord (fltMin (fltOf a) (fltOf b))
  | 3 => fltWord (fltNeg (fltMin (fltNeg (fltOf a)) (fltNeg (fltOf b))))

/-! ### TIME64 (R193) -/

def int64Min : Int := -(2 ^ 63)
def int64Max : Int := 2 ^ 63 - 1

/-- TADD, clipped to the TIME64 range. -/
def timeAdd (sub : Bool) (a b : Int) : Int × Sticky := clipSat int64Min int64Max (if sub then a - b else a + b)

/-- TCMP: 0 EQ, 1 NE, 2 LT, 3 LE. -/
def timeCmp (op : Fin 4) (a b : Int) : Bool :=
  match op with
  | 0 => a = b | 1 => a ≠ b | 2 => a < b | 3 => a ≤ b

end Sys2Proof.Machine
end

