-- ==== Sys2Proof/Machine/Motion.lean ====
section
/-!
DEFINITION. The motion engine (R276 to R311): profiles, edges, changes, limits, homing, phase drives, remote axes.
-/
namespace Sys2Proof.Machine

/-! ### The descriptor (R307) -/

def axisAt (a : Nat) : Nat := 0x88000 + 256 * a
/-- Word at offset o of the descriptor of axis a. -/
def Bench.aw (b : Bench) (a o : Nat) : Word := b.cfg (axisAt a + o)
def Bench.axisKind (b : Bench) (a : Nat) : Nat := fld (b.aw a 0) 31 28
def Bench.axisUsed (b : Bench) (a : Nat) : Bool := a < 64 && b.axisKind a ≠ 0
def Bench.axisHmode (b : Bench) (a : Nat) : Nat := fld (b.aw a 0) 23 22
def Bench.axisLstop (b : Bench) (a : Nat) : Bool := bitOf (b.aw a 0) 26
def Bench.axisLimp (b : Bench) (a : Nat) : Nat := fld (b.aw a 0x18) 29 16
def Bench.axisLimn (b : Bench) (a : Nat) : Nat := fld (b.aw a 0x18) 13 0
def Bench.axisHomep (b : Bench) (a : Nat) : Nat := fld (b.aw a 0x1C) 29 16
def Bench.axisSpdp (b : Bench) (a : Nat) : Nat := fld (b.aw a 0x1C) 13 0
def Bench.axisPosp (b : Bench) (a : Nat) : Nat := fld (b.aw a 0) 13 0
def Bench.axisLdb (b : Bench) (a : Nat) : Nat := fld (b.aw a 0x24) 31 16

def Bench.axis (b : Bench) (a : Nat) : Axis := Tbl.get {} b.mx.axes a
def Bench.setAxis (a : Nat) (x : Axis) (b : Bench) : Bench := { b with mx := { b.mx with axes := Tbl.set {} b.mx.axes a x } }

/-- Class speed limit of an axis, in position units per second (R276). -/
def classLimit (a : Nat) : Nat := if a < 8 then 2000000 else if a < 10 then 1000000 else 16777215
/-- The class of an axis index (R276). -/
def classOf (a : Nat) : Nat := if a < 8 then 1 else if a < 10 then 2 else 3

/-- The axis is in motion. -/
def Axis.busy (x : Axis) : Bool := x.state = .moving || x.state = .jogging || x.state = .homing || x.state = .stopping

/-- Position in 2^-16 units. -/
def Axis.fine (x : Axis) : Int := x.pos * 65536 + x.pfrac
def Axis.atFine (p : Int) (x : Axis) : Axis := { x with pos := p / 65536, pfrac := (p % 65536).toNat }
/-- A remote axis evaluated for its first apply instant before its start instant: still ARMED (R300, R309). -/
def Axis.early (now : Nat) (x : Axis) : Bool := x.busy && now < x.begun

/-! ### Limit and home inputs, enable lands (R276, R278, R290, R299, R301) -/

/-- The channel or point of an input: 0 LIMP, 1 LIMN, 2 HOMEP. -/
def Bench.axisChan (b : Bench) (a : Nat) (k : Fin 3) : Nat :=
  match k with | 0 => b.axisLimp a | 1 => b.axisLimn a | 2 => b.axisHomep a
/-- The level of a limit input of a remote axis, from its BOOL point (R301). -/
def Bench.remoteLevel (b : Bench) (a p : Nat) : Bool := p ≠ 0x3FFF && (boolOf (b.point p).value != bitOf (b.aw a 0) 25)
/-- LIM_P, LIM_N and HOME_IN, live (R290, R292, R301). -/
def Bench.axisIn (b : Bench) (a : Nat) (k : Fin 3) : Bool :=
  if a < 10 then b.axisChan a k < 16 && ((b.axis a).inp[k].level != bitOf (b.aw a 0) 25)
  else b.remoteLevel a (b.axisChan a k)
/-- The limit of one direction. -/
def Bench.limitOn (b : Bench) (a : Nat) (neg : Bool) : Bool := b.axisIn a (if neg then 1 else 0)

/-- Bnn_AXENi and Bnn_PDj_EN (R276 to R278, R299): active in RUN, a phase drive's not in FAULT; outside RUN ENSAFE gives
the level of Bnn_AXENi, in WAKE as the reset found it, and a bridge is off; of an unused axis both are inactive (R80). -/
def Bench.axisEnable (b : Bench) (a : Nat) : Bool :=
  if b.bn.mode = .wake then a < 8 && b.mx.ensafe.getLsbD a
  else b.axisUsed a && (if b.bn.mode = .run then (b.axis a).state ≠ .fault else a < 8 && bitOf (b.aw a 0) 21)

/-- The ENSAFE levels that a bench reset leaves (R278). -/
def Bench.ensafeNow (b : Bench) : BitVec 8 :=
  if b.bn.mode = .wake then b.mx.ensafe
  else (List.range 8).foldl (fun w a => w ||| (if b.axisUsed a && bitOf (b.aw a 0) 21 then 1#8 <<< a else 0)) 0

/-! ### Effective values and the recurrence (R279, R280, R286, R287) -/

/-- VM, VS, VE and ACE, and whether a guard changed one of them or DEC (R279). -/
structure AxisEff where
  vm : Nat
  vs : Nat
  ve : Nat
  ace : Nat
  limited : Bool

def Bench.axisEff (b : Bench) (a : Nat) (x : Axis) : AxisEff :=
  let vmax := match x.ovr with | some v => v | none => (b.aw a 8).toNat
  let vstart := (b.aw a 4).toNat
  let vstop := (b.aw a 0xC).toNat
  let acc := (b.aw a 0x10).toNat
  let vm := if x.jog then vmax else max vmax vstop
  { vm := min vm x.gvmax, vs := min vstart x.gvmax, ve := min vstop x.gvmax, ace := min acc x.gacc,
    limited := x.gvmax < vm || x.gvmax < vstart || x.gvmax < vstop || x.gacc < acc || x.gacc < (b.aw a 0x14).toNat }

/-- The position a motion is bound for: target or window edge in the direction of travel (R279, R293). -/
def Axis.bound (x : Axis) : Int :=
  if x.jog then (if x.neg then x.pmin else x.pmax)
  else if x.neg then max x.target x.pmin else min x.target x.pmax
/-- Steps from the present position to that place. -/
def Axis.dist (x : Axis) : Nat := if x.neg then (x.pos - x.bound).toNat else (x.bound - x.pos).toNat

/-- C = 2 × 2^16: the change of Q over one step for one unit of acceleration. -/
def qPerStep : Nat := 131072

/-- Q(n + 1) from Q(n), whether step n + 1 is the last, and whether the rate guard clipped it (R280). -/
structure AxisCalc where
  q : Nat
  last : Bool
  limited : Bool

/-- A stand request (R288, R289). A homing phase runs on where HCREEP lies below VSTOP (R295, R308). -/
def Axis.stands (x : Axis) (e : AxisEff) : Bool := x.stand || (x.jog && x.ovr.isNone && e.vm < e.ve)

/-- One advance (R280). Where a guard has lowered DCE below the stop curve, the speed falls at DCE (R287). -/
def Axis.calc (x : Axis) (e : AxisEff) (q left : Nat) : AxisCalc :=
  let up := q + qPerStep * e.ace
  let dn := q - qPerStep * x.dce
  let stand := x.stands e
  let z := if stand then max dn (e.ve * e.ve) else if q ≤ e.vm * e.vm then min up (e.vm * e.vm) else max dn (e.vm * e.vm)
  let curve := e.ve * e.ve + qPerStep * x.dce * left
  let c := min z (if x.beyond then max curve dn else curve)
  { q := min c (x.gvmax * x.gvmax), last := left = 0 || (stand && z = e.ve * e.ve), limited := x.gvmax * x.gvmax < c }

/-- T in 2^-8 ns of a step between two speeds (R280). -/
def stepTime (v0 v1 : Nat) : Nat := (roundDiv 131072000000000 (max (v0 + v1) 512)).toNat

/-- A deceleration that takes effect (R286): the DCE, whether it is raised, and whether GACC held it below the need. -/
structure AxisDce where
  dce : Nat
  raised : Bool
  beyond : Bool

/-- The deceleration of R286 for a wanted one. A remote axis has V² and 2 × the distance from P, in 2^-16 units, in place
of Q(n + 1) and C × (left + 1) (R300). -/
def Axis.needed (remote : Bool) (x : Axis) (ve want : Nat) : AxisDce :=
  let q := if remote then x.v * x.v else x.q1
  let bound := x.bound * 65536
  let d := if remote then 2 * (if x.neg then (x.fine - bound).toNat else (bound - x.fine).toNat)
           else qPerStep * (x.dist - 2 + 1)
  let need := if 0 < d && ve * ve + d * want < q then ceilDiv (q - ve * ve) d else 0
  { dce := min (max want need) x.gacc, raised := want < need, beyond := x.gacc < max want need }

/-- One flag event of the MX_ block, naming the axis (R311). -/
def Bench.axisEvent (a bit : Nat) (b : Bench) : Bench := b.raise 6 bit (BitVec.ofNat 32 a) 0 0

/-- A guard limits the profile in progress (R279, R293): GUARD_LIMITED, and once for the profile the event (R311) and the
count of the intervention (R543). -/
def Bench.axisLimited (a : Nat) (on : Bool) (b : Bench) : Bench :=
  let x := b.axis a
  if on && !(x.guardLimited && x.limNoted) then
    (b.setAxis a { x with guardLimited := true, limNoted := true }).guardClip.axisEvent a 4
  else b

/-- A raised deceleration (R286). -/
def Bench.axisDce (a : Nat) (d : AxisDce) (b : Bench) : Bench :=
  let x := b.axis a
  let b := b.setAxis a { x with dce := d.dce, decelRaised := x.decelRaised || d.raised, beyond := x.beyond || d.beyond }
  let b := b.axisLimited a d.beyond
  if d.raised then b.axisEvent a 3 else b

/-- A change takes effect in a computation with Q(n + 1) (R286, R287, R293). -/
def Bench.axisChange (a : Nat) (c : AxisChange) (b : Bench) : Bench :=
  let x := b.axis a
  let v := c.value.toNat
  let w := BitVec.ofNat 32 v
  let far := decide (10 ≤ a)
  let ve := (b.axisEff a x).ve
  match c.par with
  | .vmax => b.setCfg (axisAt a + 8) w
  | .acc => b.setCfg (axisAt a + 0x10) w
  | .dec => (b.setCfg (axisAt a + 0x14) w).axisDce a (Axis.needed far x ve v)
  | .gvmax => b.setAxis a { x with gvmax := v }
  | .gacc => b.setAxis a { x with gacc := v, dce := min x.dce v, beyond := x.beyond || v < x.dce }
  | .pmin =>
    let x := { x with pmin := c.value }
    (b.setAxis a x).axisDce a (Axis.needed far x ve x.dce)
  | .pmax =>
    let x := { x with pmax := c.value }
    (b.setAxis a x).axisDce a (Axis.needed far x ve x.dce)

/-- The changes that a computation beginning at rail value t takes, and MX_SET_DYN learning its edge (R286, R309). -/
def Bench.axisTake (a t : Nat) (b : Bench) : Bench :=
  let x := b.axis a
  let due := x.changes.filter fun c => c.time + 1000 ≤ t
  let dyn := x.dyn.map fun d => if d.edge.isNone && d.time + 1000 ≤ t then { d with edge := some t } else d
  let b := b.setAxis a { x with changes := x.changes.filter (fun c => t < c.time + 1000), dyn := dyn }
  due.foldl (fun b c => b.axisChange a c) b

/-- The computation of Q(n + 2), T(n + 1) and E(n + 2) that begins at edge n, rail value t (R283). -/
def Bench.axisCompute (a t : Nat) (b : Bench) : Bench :=
  if (b.axis a).last1 then b
  else
    let b := b.axisTake a t
    let x := b.axis a
    let e := b.axisEff a x
    let k := x.calc e x.q1 (x.dist - 2)
    let e2 := x.e1 + stepTime (sqrtNear x.q1) (sqrtNear k.q)
    (b.setAxis a { x with q2 := k.q, e2 := e2, last2 := k.last }).axisLimited a (k.limited || e.limited)

/-- A change arrives (R286, R288): queued in the order of rail values, a recipe's after a command's; before
the first computation's begin it is still taken by that computation. -/
def Bench.axisQueue (a : Nat) (c : AxisChange) (b : Bench) : Bench :=
  let x := b.axis a
  let before (d : AxisChange) : Bool := d.time < c.time || (d.time = c.time && (!d.recipe || c.recipe))
  let l := x.changes.filter before ++ [c] ++ x.changes.filter (fun d => !before d)
  let b := b.setAxis a { x with changes := l }
  if x.busy && a < 10 && x.n = 0 && c.time + 1000 ≤ x.e0 / 256 then b.axisCompute a (x.e0 / 256) else b

/-- A recipe's speed target at its boundary (R258, R285, R286). -/
def Bench.axisSpeed (a : Nat) (v : Word) (at' : Nat) (b : Bench) : Bench :=
  if !b.axisUsed a then b
  else if (b.axis a).busy then b.axisQueue a { time := at', recipe := true, par := .vmax, value := (v.toNat : Int) }
  else b.setCfg (axisAt a + 8) v

/-! ### Starting and ending -/

/-- The state of a local or remote motion, or of a homing phase, at its start (R279, R280, R300): rail value m. Changes that
still wait stay (R286). -/
def Bench.axisBegin (a m : Nat) (x : Axis) (b : Bench) : Bench :=
  let x := { x with gvmax := b.guardVmax a, gacc := b.guardAcc a, pmin := b.guardPmin a, pmax := b.guardPmax a,
                    n := 0, stand := false, last1 := false, last2 := false, runI := true, armed := none, begun := m,
                    limNoted := false, beyond := false }
  let x := { x with dce := min (b.aw a 0x14).toNat x.gacc, dirPin := x.neg != bitOf (b.aw a 0) 27 }
  let e := b.axisEff a x
  let l := x.dist
  if 10 ≤ a then (b.setAxis a { x with v := min e.vs e.vm }).axisLimited a e.limited
  else
    let q := min (e.vs * e.vs) (e.vm * e.vm)
    let q := if x.jog then q else min q (e.ve * e.ve + qPerStep * x.dce * l)
    let k := x.calc e q (l - 1)
    let e0 := (m + fld (b.aw a 0x20) 15 0) * 256
    let e1 := e0 + stepTime (sqrtNear q) (sqrtNear k.q)
    let x := { x with e0 := e0, e1 := e1, q0 := q, q1 := k.q, last1 := k.last }
    ((b.setAxis a x).axisLimited a (k.limited || e.limited)).axisCompute a (m + fld (b.aw a 0x20) 15 0)

/-- The home signal of a method (R294). -/
def Bench.homeSignal (b : Bench) (a : Nat) : Bool :=
  match b.axisHmode a with | 0 => b.axisIn a 2 | 1 => b.axisIn a 0 | _ => b.axisIn a 1
/-- The search direction, true for negative (R294). -/
def Bench.searchNeg (b : Bench) (a : Nat) : Bool :=
  match b.axisHmode a with | 0 => bitOf (b.aw a 0) 24 | 1 => false | _ => true

/-- A homing phase begins (R295). -/
def Bench.axisPhase (a m : Nat) (ph : HomePhase) (b : Bench) : Bench :=
  let x := b.axis a
  let s := b.searchNeg a
  let v := if ph = .backoff then (b.aw a 0x2C).toNat else (b.aw a 0x28).toNat
  b.axisBegin a m { x with state := .homing, phase := ph, jog := true, ovr := some v, after := .none,
                           neg := if ph = .search then s else !s, reversed := x.reversed || ph = .reversed }

/-- Completions of MX_STOP commands whose axes all stand. -/
def Bench.stopsDone (b : Bench) : Bench :=
  let done (w : StopWait) : Bool := w.axes.all fun a => !(b.axis a).busy
  let b' : Bench := { b with mx := { b.mx with stops := b.mx.stops.filter fun w => !done w } }
  (b.mx.stops.filter done).foldl (fun x w => x.completeTag w.tag w.noirq .ok x.rail.now) b'

/-- A parameter change that no computation took any more reaches the descriptor. -/
def Bench.axisRest (a : Nat) (l : List AxisChange) (b : Bench) : Bench :=
  l.foldl (fun b c => match c.par with
    | .vmax => b.setCfg (axisAt a + 8) (ofS c.value)
    | .acc => b.setCfg (axisAt a + 0x10) (ofS c.value)
    | .dec => b.setCfg (axisAt a + 0x14) (ofS c.value)
    | _ => b) b

/-- MSTATE word of a descriptor (word 0xA4 of R307). A remote axis evaluated for its first apply instant before its start
instant still reads ARMED (R300, R309). -/
def Bench.axisMstate (b : Bench) (a : Nat) : Word :=
  let x := b.axis a
  let st : AxisState := if x.early b.rail.now then .armed else x.state
  at32 st.code 28 ||| at32 x.phase.code 26 ||| at32 (b2n x.neg) 25 ||| at32 (b2n x.homed) 24 |||
  at32 (b2n x.posDoubt) 23 ||| at32 (b2n x.decelRaised) 22 ||| at32 (b2n x.guardLimited) 21 ||| at32 (b2n (b.axisIn a 0)) 20 |||
  at32 (b2n (b.axisIn a 1)) 19 ||| at32 (b2n (b.axisIn a 2)) 18 ||| at32 (b2n x.homeFail) 17 ||| at32 (b2n x.reversed) 16 |||
  at32 (b2n x.stnLost) 15 ||| at32 (b2n x.bridgeUv) 14 ||| at32 (b2n x.vSat) 13 ||| at32 (b2n x.stepLate) 12 |||
  at32 (b2n x.rej) 11

/-- The axis stands and becomes IDLE (or FAULT): waiting commands complete, DONE_EVT (R289, R309). -/
def Bench.axisIdle (a : Nat) (st : AxisState) (b : Bench) : Bench :=
  let x := b.axis a
  let evt := x.doneEvt && x.state ≠ .armed
  let b := b.axisRest a x.changes
  let b := b.setAxis a { x with state := st, phase := .none, ovr := none, after := .none, stand := false, jog := false,
                                q0 := 0, q1 := 0, v := 0, changes := [], dyn := [], armed := none, doneEvt := false, edges := [] }
  let b := x.dyn.foldl (fun b d => b.completeTag d.tag d.noirq .ok (d.edge.getD 0)) b
  let b := if evt then b.event 0x680 (BitVec.ofNat 32 a) (ofS x.pos) (b.axisMstate a) else b
  b.stopsDone

/-- POS_DOUBT set: HOMED clears, event when it goes from 0 to 1 (R289, R311). -/
def Bench.axisDoubt (a : Nat) (b : Bench) : Bench :=
  let x := b.axis a
  let b := b.setAxis a { x with posDoubt := true, homed := false }
  if x.posDoubt then b else b.axisEvent a 5

/-- No further edge is issued: POS_DOUBT if the last step had V above VE, then the next homing phase or rest
(R280, R287, R289, R295). -/
def Bench.axisStops (a : Nat) (b : Bench) : Bench :=
  let x := b.axis a
  let e := b.axisEff a x
  let v := if a < 10 then sqrtNear x.q0 else x.v
  let b := if 0 < x.n && e.ve < v then b.axisDoubt a else b
  let atEdge := x.dist = 0 && !x.stand && (x.jog || x.bound ≠ x.target)
  let b := b.axisLimited a atEdge
  match x.after with
  | .none | .search => b.axisIdle a .idle
  | ph => b.axisPhase a b.rail.now ph

/-- A hard stop with no homing phase to follow (R289). -/
def Bench.axisHard (a : Nat) (b : Bench) : Bench :=
  let x := b.axis a
  if x.busy then (b.setAxis a { x with after := .none }).axisStops a
  else if x.state = .armed then b.axisIdle a .idle
  else b

/-- The motion becomes a stand request (R289); after: the homing phase that follows. -/
def Bench.axisRamp (a : Nat) (st : AxisState) (after : HomePhase) (b : Bench) : Bench :=
  let x := b.axis a
  let b := b.setAxis a { x with stand := true, state := st, after := after }
  if a < 10 && x.n = 0 && b.rail.now ≤ x.e0 / 256 then b.axisCompute a (x.e0 / 256) else b

/-- An armed motion begins at its start instant m (R280, R294, R295, R300). -/
def Bench.axisStart (a m : Nat) (k : Motion) (b : Bench) : Bench :=
  let x := b.axis a
  match k with
  | .move target =>
    let x := { x with state := .moving, jog := false, ovr := none, target := target, neg := target < x.pos }
    let b := b.axisBegin a m x
    if (b.axis a).dist = 0 then b.axisStops a else b
  | .jog neg =>
    let b := b.axisBegin a m { x with state := .jogging, jog := true, ovr := none, neg := neg }
    if (b.axis a).dist = 0 then b.axisStops a else b
  | .home =>
    let x := { x with reversed := false, homeFail := false, homed := false, edges := [] }
    if b.axisHmode a = 3 then
      (b.setAxis a { x with pos := s32 (b.aw a 0x30), pfrac := 0, homed := true }).axisIdle a .idle
    else
      let b := b.setAxis a x
      b.axisPhase a m (if b.homeSignal a then .backoff else .search)

/-- The start instant of an armed axis. -/
def Bench.moveStart (a : Nat) (b : Bench) : Bench :=
  match (b.axis a).armed with
  | none => b
  | some (m, k) =>
    if b.bn.mode ≠ .run || (b.axis a).state ≠ .armed || b.rail.now < m then b else b.axisStart a m k

/-- MOVE_START (R280). -/
def execMoveStart (bn : BenchIx) (t : Nat) (a : Fin 64) (s : State) : Host.Outcome State Fault Refusal :=
  s.onBench bn fun b => (b.tick t).moveStart a.val

/-! ### Edges (R281 to R284) -/

/-- Step n + 1 is taken: the state moves on by one, without an output. -/
def Bench.axisAdvance (a : Nat) (b : Bench) : Bench :=
  let x := b.axis a
  let last := x.last1
  let x := { x with pos := if x.neg then x.pos - 1 else x.pos + 1, n := x.n + 1, lastEdge := x.e1 / 256,
                    e0 := x.e1, q0 := x.q1, e1 := x.e2, q1 := x.q2, last1 := x.last2 }
  let b := b.setAxis a x
  if last then b.axisStops a else b.axisCompute a (x.e0 / 256)

/-- An edge on Bnn_STEPi, with its pulse (R282); recent edges are kept while homing (R296). -/
def Bench.axisPulse (a : Nat) (b : Bench) : Bench :=
  let x := b.axis a
  let pw := fld (b.aw a 0x20) 31 16
  let next := (x.e2 - x.e1) / 256
  let keep := x.edges.filter fun k => b.rail.now ≤ k + (b.axisLdb a + 10) * 1000
  b.setAxis a { x with pulseAt := b.rail.now, pulse := if !x.last1 && next < 2 * pw then (x.e2 - x.e1) / 512 else pw,
                       edges := if x.state = .homing then b.rail.now :: keep else [] }

/-- A local axis in motion whose next edge has fallen due. -/
def Bench.edgeDue (b : Bench) (a : Nat) : Bool :=
  b.bn.mode = .run && a < 10 && (b.axis a).busy && (b.axis a).e1 / 256 ≤ b.rail.now

/-- STEP_EDGE (R281 to R283). -/
def execStepEdge (bn : BenchIx) (t : Nat) (a : Fin 64) (s : State) : Host.Outcome State Fault Refusal :=
  s.onBench bn fun b =>
    let b := b.tick t
    if b.edgeDue a.val then (b.axisPulse a.val).axisAdvance a.val else b

/-- LATE_EDGE (R284): the edge is issued now; E stays as computed. -/
def execLateEdge (bn : BenchIx) (t : Nat) (a : Fin 64) (s : State) : Host.Outcome State Fault Refusal :=
  s.onBench bn fun b =>
    let b := b.tick t
    if b.edgeDue a.val && (b.axis a.val).e1 / 256 < b.rail.now then
      let b := b.setAxis a.val { b.axis a.val with stepLate := true }
      let b : Bench := { b with mx := { b.mx with lateCnt := inc b.mx.lateCnt } }
      ((b.axisEvent a.val 1).axisPulse a.val).axisAdvance a.val
    else b

/-! ### Limits and homing (R289 to R296) -/

/-- A limit stops the axis, by LSTOP (R291, R295). -/
def Bench.limitStop (a : Nat) (after : HomePhase) (b : Bench) : Bench :=
  let x := b.axis a
  let b := b.axisEvent a 0
  let st := if x.state = .homing && after ≠ .none then .homing else .stopping
  if b.axisLstop a then b.axisRamp a st after
  else (b.setAxis a { x with after := after }).axisStops a

/-- The homing capture (R295, R296): POS redefined from the position at the edge time; the axis stops. -/
def Bench.homeCapture (a edge : Nat) (b : Bench) : Bench :=
  let x := b.axis a
  let since : Int := ((x.edges.filter fun k => edge < k).length : Nat)
  let was := if x.neg then x.pos + since else x.pos - since
  let x := { x with pos := s32 (b.aw a 0x30) + (x.pos - was), hpos := was, homed := true, phase := .none }
  let b := b.setAxis a x
  if sqrtNear x.q0 ≤ (b.axisEff a x).ve then b.axisHard a else b.axisRamp a .homing .none

/-- Which input of an axis a change concerns. -/
def Bench.homingInput (a : Nat) (home dirLimit active : Bool) (edge : Nat) (b : Bench) : Bench :=
  let x := b.axis a
  match x.phase with
  | .search =>
    if home && active then
      if b.axisHmode a ≠ 0 then b.limitStop a .backoff
      -- on the ramp that a limit began, the axis then backs off from the signal it has met
      else if x.stand then (if x.after = .reversed then b.setAxis a { x with after := .backoff, reversed := true } else b)
      else b.axisRamp a .homing .backoff
    else if dirLimit && active && b.axisHmode a = 0 then
      b.limitStop a (if x.after = .backoff then .backoff else .reversed)
    else b
  | .reversed | .backoff =>
    if dirLimit && active then
      let b := (b.setAxis a { x with homeFail := true, homed := false }).axisEvent a 2
      b.limitStop a .none
    else if home && active && x.phase = .reversed then
      b.setAxis a { x with phase := .backoff, ovr := some (b.aw a 0x2C).toNat }
    else if home && !active && !x.stand then b.homeCapture a edge
    else b
  | .none => if dirLimit && active then b.limitStop a .none else b

/-- What a new level of a limit or home input does (R291, R295). -/
def Bench.axisInput (a : Nat) (inp : Fin 3) (active : Bool) (edge : Nat) (b : Bench) : Bench :=
  let x := b.axis a
  if !x.busy || b.bn.mode ≠ .run then b
  else
    let dirLimit := (inp = 0 && !x.neg) || (inp = 1 && x.neg)
    if x.state = .homing then
      let home := match b.axisHmode a with | 0 => inp = 2 | 1 => inp = 0 | _ => inp = 1
      b.homingInput a home dirLimit active edge
    else if dirLimit && active then b.limitStop a .none
    else b

def Bench.setIn (a : Nat) (k : Fin 3) (l : LimitIn) (b : Bench) : Bench :=
  let x := b.axis a
  b.setAxis a { x with inp := x.inp.set k l }

/-- The new level of an input is accepted once it has held for LDB (R290). -/
def Bench.limitAccept (a : Nat) (k : Fin 3) (b : Bench) : Bench :=
  let l := (b.axis a).inp[k]
  match l.newAt with
  | some e =>
    if b.rail.now < e + b.axisLdb a * 1000 then b
    else
      let b := b.setIn a k { level := !l.level }
      b.axisInput a k (b.axisIn a k) e
  | none => b

/-- One raw sample of an input (R290, R321): a change begins, goes on, or reverts, which within LDB is chatter. -/
def Bench.limitSample (raw : Word) (a : Nat) (k : Fin 3) (b : Bench) : Bench :=
  let ch := b.axisChan a k
  if 16 ≤ ch then b
  else
    let r := bitOf raw ch
    let l := (b.axis a).inp[k]
    match l.newAt with
    | none => if r = l.level then b else b.setIn a k { l with newAt := some b.rail.now }
    | some e =>
      if r ≠ l.level then b
      else if e + b.axisLdb a * 1000 ≤ b.rail.now then
        (b.limitAccept a k).setIn a k { level := !l.level, newAt := some b.rail.now }
      else
        let b := b.setIn a k { l with newAt := none }
        let b := b.setAxis a { b.axis a with chatter := inc (b.axis a).chatter }
        { b with mx := { b.mx with chatterCnt := inc b.mx.chatterCnt } }

/-- The raw samples that the last frame brought reach the local axes (R290, R321). -/
def Bench.limitSamples (b : Bench) : Bench :=
  let raw := b.fc.seen.raw
  ((List.range 10).filter b.axisUsed).foldl (fun b a =>
    ((b.limitSample raw a 0).limitSample raw a 1).limitSample raw a 2) b

/-- LIMIT_CHANGE (R290): input 0 LIMP, 1 LIMN, 2 HOMEP, goes to `level` with edge time `edge`, as the samples have
shown it. A change that reverted has been counted as chatter at the sample that reverts. -/
def execLimitChange (bn : BenchIx) (t : Nat) (a : Fin 10) (inp : Fin 3) (level : Bool) (edge : Nat) (reverted : Bool)
    (s : State) : Host.Outcome State Fault Refusal :=
  s.onBench bn fun b =>
    let b := b.tick t
    let l := (b.axis a.val).inp[inp]
    if b.axisUsed a.val && b.axisChan a.val inp < 16 && !reverted && l.newAt = some edge && level ≠ l.level then
      b.limitAccept a.val inp
    else b

/-! ### Phase-drive axes (R297 to R299) -/

/-- The electrical index (R297). -/
def Bench.axisIndex (b : Bench) (a : Nat) : Nat :=
  (((b.axis a).pos * 256) / (2 ^ fld (b.aw a 0x34) 31 28 : Nat) % 1024).toNat

/-- On-time of a coil voltage (R298), and whether it was clipped; with VBR 0 a voltage of 0 gives a value the spec
leaves open. -/
def onTime (u : Int) (vbr free : Nat) : Nat × Bool :=
  if vbr = 0 then (if u = 0 then (free % 25001, false) else (25000, true))
  else
    let n := (roundDiv (u.natAbs * 25000 : Nat) vbr).toNat
    if 25000 < n then (25000, true) else (n, false)

/-- Coil voltages uA, uB in mV (R298). -/
def Bench.coilVolts (b : Bench) (a : Nat) : Int × Int :=
  let x := b.axis a
  let w38 := b.aw a 0x38
  let w3c := b.aw a 0x3C
  let i := if x.runI then fld w38 31 16 else fld w38 15 0
  let fs := roundDiv (sqrtNear x.q0 : Nat) (256 * 2 ^ fld (b.aw a 0x34) 31 28)
  let ur := roundDiv ((i * fld w3c 31 16 : Nat) : Int) 1000
  let uw := roundDiv ((fld w3c 15 0 : Nat) * fs) 1000
  let e := b.axisIndex a
  (roundDiv (ur * cosineQ15 e - uw * sineQ15 e) 32768, roundDiv (ur * sineQ15 e + uw * cosineQ15 e) 32768)

/-- The PWM of one axis for one period (R298). -/
def Bench.axisPwm (a : Nat) (b : Bench) : Bench :=
  let x := b.axis a
  if !b.axisUsed a || x.state = .fault then b
  else
    let (ua, ub) := b.coilVolts a
    let mv := b.mx.vbr * 10
    let (f, b) := if mv = 0 && (ua = 0 || ub = 0) then b.fresh else (0, b)
    let (onA, ca) := onTime ua mv f
    let (onB, cb) := onTime ub mv f
    let inv := bitOf (b.aw a 0) 27
    b.setAxis a { x with onA := onA, onB := onB, dirA := (ua < 0) != inv, dirB := (ub < 0) != inv, vSat := x.vSat || ca || cb }

/-- An axis enters FAULT (R299, R302). -/
def Bench.axisFault (a : Nat) (b : Bench) : Bench :=
  let b := b.axisHard a
  b.setAxis a { b.axis a with state := .fault, onA := 0, onB := 0 }

/-- Bridge undervoltage of a used phase-drive axis (R299). -/
def Bench.vbrLow (b : Bench) (v : Nat) : Bool :=
  (b.axisUsed 8 && v < fld (b.aw 8 0x40) 15 0) || (b.axisUsed 9 && v < fld (b.aw 9 0x40) 15 0)

/-- Both phase-drive axes stop for want of bridge supply (R299). -/
def Bench.bridgeFault (b : Bench) : Bench :=
  [8, 9].foldl (fun b a =>
    let b := b.axisFault a
    let b := b.setAxis a { b.axis a with bridgeUv := true }
    (b.axisDoubt a).axisEvent a 6) b

/-- PWM_PERIOD (R298, R299): t is the period's centre, vbr the sample of this period in 10 mV. -/
def execPwmPeriod (bn : BenchIx) (t : Nat) (vbr : Nat) (s : State) : Host.Outcome State Fault Refusal :=
  s.onBench bn fun b =>
    let b := b.tick t
    if b.rail.now % 25000 ≠ 12500 then b
    else
      let b := if b.bn.mode = .run then (b.axisPwm 8).axisPwm 9 else b
      let v := min vbr 6000
      let low := b.vbrLow v
      let b : Bench := { b with mx := { b.mx with vbr := v, lowVbr := if low then b.mx.lowVbr + 1 else 0 } }
      if b.bn.mode = .run && low && 2 ≤ b.mx.lowVbr && ((b.axis 8).state ≠ .fault || (b.axis 9).state ≠ .fault) then b.bridgeFault
      else b

/-- HOLD_CURRENT_DELAY (R297). -/
def execHoldCurrentDelay (bn : BenchIx) (t : Nat) (a : Fin 64) (s : State) : Host.Outcome State Fault Refusal :=
  s.onBench bn fun b =>
    let b := b.tick t
    let x := b.axis a.val
    if !x.busy && x.lastEdge + fld (b.aw a.val 0x34) 15 0 * 1000000 ≤ b.rail.now then b.setAxis a.val { x with runI := false } else b

/-! ### Remote axes (R300 to R302) -/

/-- Words of a station entry (R414), and the schedule (R393, R412). -/
def haulAt (o : Nat) : Nat := 0x1A000 + o
def Bench.sw (b : Bench) (s o : Nat) : Word := b.cfg (haulAt (0x1000 + 0x20 * s + o))
def Bench.haulBase (b : Bench) : Nat := fld (b.cfg (haulAt 0x20)) 9 0 * 10000
def Bench.haulPhase (b : Bench) : Nat := fld (b.cfg (haulAt 0x20)) 25 16 * 10000
def Bench.haulAof (b : Bench) : Nat := fld (b.cfg (haulAt 0x24)) 29 20 * 10000
def Bench.haulLead (b : Bench) : Nat := fld (b.cfg (haulAt 0x24)) 19 10 * 10000
def Bench.haulRxwin (b : Bench) : Nat := fld (b.cfg (haulAt 0x24)) 9 0 * 10000
def Bench.stationEn (b : Bench) (s : Nat) : Bool := s < 64 && bitOf (b.sw s 0) 31
def Bench.stationMult (b : Bench) (s : Nat) : Nat := fld (b.sw s 0) 15 8
def Bench.station (b : Bench) (s : Nat) : Station := Tbl.get {} b.ha.stations s
def Bench.setStation (s : Nat) (x : Station) (b : Bench) : Bench :=
  { b with ha := { b.ha with stations := Tbl.set {} b.ha.stations s x } }

/-- A rail value is the beginning of a base cycle in which the station is served (R393). -/
def Bench.servedAt (b : Bench) (s t : Nat) : Bool :=
  b.haulBase ≠ 0 && b.haulPhase ≤ t && (t - b.haulPhase) % b.haulBase = 0 && b.stationMult s ≠ 0 &&
  (t - b.haulPhase) / b.haulBase % b.stationMult s = fld (b.sw s 0) 7 0

/-- The station whose entry holds a remote axis (R414). -/
def Bench.axisStation (b : Bench) (a : Nat) : Option Nat :=
  (List.range 64).find? fun s =>
    b.stationEn s && fld (b.sw s 0x14) 21 16 ≤ a && a < fld (b.sw s 0x14) 21 16 + fld (b.sw s 0x14) 5 0

/-- The profile of one station cycle of h ns (R300). -/
def Bench.remoteStep (a h : Nat) (b : Bench) : Bench :=
  let x := b.axis a
  let e := b.axisEff a x
  let dva := (roundDiv (e.ace * 256 * h : Nat) 1000000000).toNat
  let dvd := (roundDiv (x.dce * 256 * h : Nat) 1000000000).toNat
  let stand := x.stands e
  let bound := x.bound * 65536
  let d := if x.neg then (x.fine - bound).toNat else (bound - x.fine).toNat
  let z := if stand then x.v - dvd else if x.v ≤ e.vm then min (x.v + dva) e.vm else max (x.v - dvd) e.vm
  let v1 := min z (isqrt (e.ve * e.ve + 2 * x.dce * d))
  let move := min d (roundDiv ((x.v + v1) * h * 128 : Nat) 1000000000).toNat
  let p := if x.neg then x.fine - (move : Int) else x.fine + (move : Int)
  let x := { x with pos := p / 65536, pfrac := (p % 65536).toNat, v := v1, n := x.n + 1 }
  let b := (b.setAxis a x).axisLimited a e.limited
  -- reaching the end, or standing after a stand request, ends the motion
  if move = d then (b.setAxis a { x with v := min v1 e.ve }).axisStops a
  else if stand && v1 = 0 then b.axisStops a
  else b

/-- A limit or home point of a remote axis has a new level at an evaluation (R301). -/
def Bench.remoteInput (a : Nat) (b : Bench) (k : Fin 3) : Bench :=
  let p := b.axisChan a k
  let on := b.axisIn a k
  if on = (b.axis a).inp[k].level then b else (b.setIn a k { level := on }).axisInput a k on (b.point p).stamp

/-- One evaluation of a remote axis for an apply instant (R300, R301). -/
def Bench.remoteEval (a apply h : Nat) (b : Bench) : Bench :=
  let b := if (b.axis a).busy then b.axisTake a b.rail.now else b
  let b := [(0 : Fin 3), 1, 2].foldl (Bench.remoteInput a) b
  let b := if (b.axis a).busy then b.remoteStep a h else b
  b.setAxis a { b.axis a with spAt := apply }

/-- The first apply instant of a move is the first at or after its start instant (R300): its evaluation begins it. -/
def Bench.remoteArmed (a apply : Nat) (b : Bench) : Bench :=
  match (b.axis a).armed with
  | some (_, .home) => b
  | some (m, k) =>
    if (b.axis a).state = .armed && m ≤ apply then (b.setAxis a { b.axis a with preP := (b.axis a).fine }).axisStart a m k else b
  | none => b

/-- REMOTE_EVALUATION (R300): apply is the apply instant the evaluation is for; it runs in the cycle before it. -/
def execRemoteEvaluation (bn : BenchIx) (t : Nat) (a : Fin 64) (apply : Nat) (s : State) : Host.Outcome State Fault Refusal :=
  s.onBench bn fun b =>
    let b := b.tick t
    match b.axisStation a.val with
    | some st =>
      let h := b.stationMult st * b.haulBase
      if b.bn.mode = .run && b.axisKind a.val = 3 && b.haulAof ≤ apply && b.servedAt st (apply - b.haulAof) &&
          (b.axis a.val).spAt < apply && b.rail.now ≤ apply && apply ≤ b.rail.now + h then
        (b.remoteArmed a.val apply).remoteEval a.val apply h
      else b
    | none => b

/-- STATION_LOST for the station of remote axes (R302). -/
def Bench.axesLost (s : Nat) (b : Bench) : Bench :=
  (List.range 64).foldl (fun b a =>
    if b.axisKind a = 3 && b.axisStation a = some s then
      let b := b.axisFault a
      let b := b.setAxis a { b.axis a with stnLost := true, homed := false }
      b.axisEvent a 7
    else b) b

/-! ### Points (R303) -/

/-- Present speed (R307). -/
def Bench.axisVnow (b : Bench) (a : Nat) : Nat := if a < 10 then sqrtNear (b.axis a).q0 else (b.axis a).v

/-- POSITION_POINT_UPDATE (R303). -/
def Bench.positionUpdate (a : Nat) (b : Bench) : Bench :=
  let x := b.axis a
  let per := fld (b.aw a 0x24) 15 0 * 10000
  if b.bn.mode ≠ .run || !b.axisUsed a || per = 0 || b.rail.now % per ≠ 0 then b
  else
    let b := b.writePoint .motion (b.axisPosp a) (ofS (if a < 10 then x.pos else roundDiv x.fine 65536)) qLive b.rail.now
    let v := roundDiv (b.axisVnow a : Nat) 256
    if b.axisSpdp a = 0x3FFF then b
    else b.writePoint .motion (b.axisSpdp a) (ofS (if x.neg then -v else v)) qLive b.rail.now

/-- POSITION_POINT_UPDATE (R303): At each UPD instant the position and speed points are written. -/
def execPositionPointUpdate (bn : BenchIx) (t : Nat) (a : Fin 64) (s : State) : Host.Outcome State Fault Refusal :=
  s.onBench bn fun b => (b.tick t).positionUpdate a.val

/-! ### Bench modes (R278, R304 to R306, R308) -/

def allAxes : List Nat := List.range 64

/-- Leaving RUN: every axis stops hard, bridges off, and a remote set-point freezes at the last value sent (R278). -/
def Bench.motionLeave (b : Bench) : Bench :=
  allAxes.foldl (fun b a =>
    if b.axisUsed a then
      let b := b.axisHard a
      let x := b.axis a
      let x := match x.sentP with | some p => if a < 10 then x else x.atFine p | none => x
      b.setAxis a { x with onA := 0, onB := 0 }
    else b) b

/-- A warm restart resumes each axis IDLE (R305). -/
def Bench.motionResume (b : Bench) : Bench :=
  { b with mx := { b.mx with axes := Tbl.mapAll {} (fun _ x => { x with state := .idle }) b.mx.axes } }

/-- R308 on VMAX, ACC and DEC. -/
def Bench.dynOk (b : Bench) (a vmax acc dec : Nat) : Bool :=
  vmax ≤ 256 * classLimit a && (b.aw a 4).toNat ≤ vmax && (b.aw a 0xC).toNat ≤ vmax && acc ≠ 0 && dec ≠ 0

/-- A point that an axis may write (R303, R308). -/
def Bench.axisPoint (b : Bench) (p : Nat) : Bool := (b.point p).source = 6 && (b.point p).format = 0

/-- A used descriptor meets no condition of R308. -/
def Bench.axisOk (b : Bench) (a : Nat) : Bool :=
  let k := b.axisKind a
  let hm := b.axisHmode a
  let chan (p : Nat) : Bool := p < 16 || p = 0x3FFF
  let boolp (p : Nat) : Bool := p = 0x3FFF || (b.point p).format = 3
  let pts (c : Nat) : List Nat := b.axisPosp c :: (if b.axisSpdp c = 0x3FFF then [] else [b.axisSpdp c])
  k = classOf a && (k ≠ 3 || hm = 3) && b.dynOk a (b.aw a 8).toNat (b.aw a 0x10).toNat (b.aw a 0x14).toNat &&
  (hm = 3 || ((b.aw a 0x28) ≠ 0 && (b.aw a 0x2C) ≠ 0 && (b.aw a 0x2C).toNat ≤ (b.aw a 0xC).toNat)) &&
  (hm ≠ 0 || b.axisHomep a ≠ 0x3FFF) && (hm ≠ 1 || b.axisLimp a ≠ 0x3FFF) && (hm ≠ 2 || b.axisLimn a ≠ 0x3FFF) &&
  (k ≠ 1 || (100 ≤ fld (b.aw a 0x20) 31 16 && 100 ≤ fld (b.aw a 0x20) 15 0)) &&
  (k = 3 || (b.axisLdb a ≠ 0 && chan (b.axisLimp a) && chan (b.axisLimn a) && chan (b.axisHomep a))) &&
  (k ≠ 2 || (fld (b.aw a 0x34) 31 28 ≤ 8 && fld (b.aw a 0x38) 31 16 ≠ 0 && fld (b.aw a 0x40) 15 0 ≤ 6000)) &&
  (k ≠ 3 || (boolp (b.axisLimp a) && boolp (b.axisLimn a) && boolp (b.axisHomep a))) &&
  fld (b.aw a 0x24) 15 0 ≠ 0 && (pts a).all b.axisPoint &&
  allAxes.all fun c => c = a || !b.axisUsed c || (pts c).all fun p => !(pts a).contains p

/-- The step-interval row of R73 (R304). -/
def Bench.stepRate (b : Bench) : Nat :=
  ceilDiv ((List.range 10).foldl (fun n a =>
    if b.axisUsed a then n + min (256 * classLimit a) (b.guard (0x400 + 16 * a)).toNat else n) 0) 256

/-- The check of every used descriptor at BENCH_RUN: REJ of each, MX_RATE, and whether all pass (R304, R308). -/
def Bench.axesCheck (b : Bench) : Bench :=
  let b' : Bench := { b with mx := { b.mx with rate := BitVec.ofNat 32 b.stepRate } }
  (allAxes.filter b.axisUsed).foldl (fun x a => x.setAxis a { x.axis a with rej := !b.axisOk a }) b'
def Bench.axesOk (b : Bench) : Bool := (allAxes.filter b.axisUsed).all b.axisOk

/-- Recurrence of a local axis up to a rail value, nothing issued (R306); k counts. -/
def Bench.axisReplay (a x : Nat) : Nat → Nat → Bench → Bench × Nat
  | 0, k, b => (b, k)
  | f + 1, k, b =>
    if (b.axis a).busy && (b.axis a).e1 / 256 < x then Bench.axisReplay a x f (k + 1) (b.axisAdvance a) else (b, k)

/-- Evaluations of a remote axis up to a rail value (R306). -/
def Bench.remoteReplay (a h x : Nat) : Nat → Bench → Bench
  | 0, b => b
  | f + 1, b =>
    if (b.axis a).spAt + h ≤ x then Bench.remoteReplay a h x f (b.remoteEval a ((b.axis a).spAt + h) h) else b

/-- A takeover at the bench's first output instant x (R306): moving axes replay, skipped edges count. -/
def Bench.motionTakeover (x : Nat) (b : Bench) : Bench :=
  allAxes.foldl (fun b a =>
    let ax := b.axis a
    if !ax.busy then b
    else if a < 10 then
      let (b, k) := Bench.axisReplay a x ((x * 256 - ax.e1) / 15000 + 1) 0 b
      if k = 0 then b
      else
        let b := b.setAxis a { b.axis a with tkskip := incBy (b.axis a).tkskip k }
        Bench.axisDoubt a { b with mx := { b.mx with skipCnt := incBy b.mx.skipCnt k } }
    else match b.axisStation a with
      | some s =>
        let h := b.stationMult s * b.haulBase
        if h = 0 then b else Bench.remoteReplay a h x ((x - ax.spAt) / h + 1) b
      | none => b) b

/-! ### Commands (R309) -/

/-- The earliest instant of a command: the first multiple of 10 µs at least lead after acceptance (R262, R309). -/
def Bench.earliest (b : Bench) (lead : Nat) : Nat := firstMul 10000 (b.acc + lead)
/-- The start instant a command uses, or none: TIMEOUT (R263, R309). -/
def Bench.instantFor (b : Bench) (lead at' : Nat) (lateOk : Bool) : Option Nat :=
  if at' = 0 then some (b.earliest lead)
  else if b.earliest lead ≤ at' then some at'
  else if lateOk then some (b.earliest lead)
  else none

/-- An axis becomes ARMED (R309). -/
def Bench.axisArm (c : Cmd) (a at' : Nat) (lateOk : Bool) (k : Motion) (evt : Bool) (b : Bench) : Bench :=
  match b.instantFor 20000 at' lateOk with
  | none => b.refuse c .timeout
  | some m => (b.setAxis a { b.axis a with state := .armed, armed := some (m, k), doneEvt := evt }).complete c .ok m

/-- Shape of the commands that arm an axis: RUN, a used axis, IDLE (else st), an instant on the 10 ns grid (R52, R309). -/
def Bench.axisCommand (i : Instr) (c : Cmd) (a at' : Nat) (st : Status) (k : Bench → Bench) (b : Bench) : Bench :=
  b.accept i c modesRun fun b =>
    if !b.axisUsed a || at' % 10 ≠ 0 then b.refuse c .badParam
    else if (b.axis a).state ≠ .idle then b.refuse c st
    else k b

/-- MX_MOVE (R285, R292, R293, R309). -/
def execMxMove (c : Cmd) (w target lo hi : Word) (s : State) : Host.Outcome State Fault Refusal :=
  s.onBench c.bench fun b =>
    let a := fld w 5 0
    let at' := cat64 lo hi
    b.axisCommand (.mxMove c w target lo hi) c a at' .busy fun b =>
      let p := (b.axis a).pos
      let g := if bitOf w 8 then p + s32 target else s32 target
      if g < -2147483648 || 2147483647 < g then b.refuse c .badParam
      else if g < b.guardPmin a || b.guardPmax a < g then (b.refuse c .guardDenied).guardDeny
      else if g ≠ p && b.limitOn a (g < p) then b.refuse c .badState
      else b.axisArm c a at' (bitOf w 9) (.move g) (bitOf w 10)

/-- MX_JOG (R292, R309). -/
def execMxJog (c : Cmd) (w lo hi : Word) (s : State) : Host.Outcome State Fault Refusal :=
  s.onBench c.bench fun b =>
    let a := fld w 5 0
    b.axisCommand (.mxJog c w lo hi) c a (cat64 lo hi) .badState fun b =>
      if b.limitOn a (bitOf w 8) then b.refuse c .badState
      else b.axisArm c a (cat64 lo hi) (bitOf w 9) (.jog (bitOf w 8)) false

/-- The first motion of a homing run goes toward an active limit (R292, R295). -/
def Bench.homeBlocked (b : Bench) (a : Nat) : Bool :=
  if b.axisHmode a = 3 then false
  else if b.homeSignal a then b.limitOn a (!b.searchNeg a) else b.limitOn a (b.searchNeg a)

/-- MX_HOME (R292, R294, R309). -/
def execMxHome (c : Cmd) (w lo hi : Word) (s : State) : Host.Outcome State Fault Refusal :=
  s.onBench c.bench fun b =>
    let a := fld w 5 0
    b.axisCommand (.mxHome c w lo hi) c a (cat64 lo hi) .badState fun b =>
      if b.homeBlocked a then b.refuse c .badState
      else b.axisArm c a (cat64 lo hi) (bitOf w 9) .home false

/-- The changes an MX_SET_DYN asks for. -/
def dynChanges (w vmax acc dec : Word) (now : Nat) : List AxisChange :=
  (if bitOf w 16 then [{ time := now, par := .vmax, value := (vmax.toNat : Int) }] else []) ++
  (if bitOf w 17 then [{ time := now, par := .acc, value := (acc.toNat : Int) }] else []) ++
  (if bitOf w 18 then [{ time := now, par := .dec, value := (dec.toNat : Int) }] else [])

/-- A remote axis that is still ARMED starts its motion with the DEC that stands at its start instant. -/
def Bench.axisEarly (a : Nat) (b : Bench) : Bench :=
  let x := b.axis a
  if x.early b.rail.now then b.setAxis a { x with dce := min (b.aw a 0x14).toNat x.gacc } else b

/-- MX_SET_DYN (R73, R285, R286, R308, R309). -/
def execMxSetDyn (c : Cmd) (w vmax acc dec : Word) (s : State) : Host.Outcome State Fault Refusal :=
  s.onBench c.bench (Bench.accept (.mxSetDyn c w vmax acc dec) c modesRun fun b =>
    let a := fld w 5 0
    let pick (i : Nat) (v : Word) (o : Nat) : Nat := if bitOf w i then v.toNat else (b.aw a o).toNat
    if !b.axisUsed a then b.refuse c .badParam
    else if (b.axis a).state = .fault then b.refuse c .badState
    else if !b.dynOk a (pick 16 vmax 8) (pick 17 acc 0x10) (pick 18 dec 0x14) then b.refuse c .badParam
    else if bitOf w 16 && 25000000 < b.stepRate then b.refuse c .overBudget
    else
      let l := dynChanges w vmax acc dec b.acc
      if (b.axis a).busy && !(b.axis a).early b.rail.now then
        let x := b.axis a
        let b := b.setAxis a { x with dyn := x.dyn ++ [{ tag := c.tag, noirq := c.noirq, time := b.acc }] }
        l.foldl (fun b k => b.axisQueue a k) b
      else ((b.axisRest a l).axisEarly a).complete c .ok 0)

/-- The axes a command names: one, or every used one (0xFF). -/
def Bench.axesNamed (b : Bench) (w : Word) : List Nat :=
  if fld w 7 0 = 0xFF then allAxes.filter b.axisUsed else if b.axisUsed (fld w 5 0) then [fld w 5 0] else []

/-- MX_STOP of one axis (R289); an ARMED one becomes IDLE without motion (R309). -/
def Bench.axisStopOne (hard : Bool) (a : Nat) (b : Bench) : Bench :=
  let x := b.axis a
  if x.early b.rail.now then (b.setAxis a { x.atFine x.preP with doneEvt := false }).axisIdle a .idle
  else if x.state = .armed || hard then b.axisHard a
  else b.axisRamp a .stopping .none

/-- MX_STOP (R289, R295, R309). -/
def execMxStop (c : Cmd) (w : Word) (s : State) : Host.Outcome State Fault Refusal :=
  s.onBench c.bench (Bench.accept (.mxStop c w) c modesRun fun b =>
    let l := b.axesNamed w
    let can (a : Nat) : Bool := let x := b.axis a; x.state = .armed || x.state = .moving || x.state = .jogging || x.state = .homing
    if l.isEmpty && fld w 7 0 ≠ 0xFF then b.refuse c .badParam
    else if fld w 7 0 ≠ 0xFF && !l.all can then b.refuse c .badState
    else
      let l := l.filter can
      let b : Bench := { b with mx := { b.mx with stops := b.mx.stops ++ [{ tag := c.tag, noirq := c.noirq, axes := l }] } }
      (l.foldl (fun b a => b.axisStopOne (bitOf w 8) a) b).stopsDone)

/-- MX_SET_POS (R309). -/
def execMxSetPos (c : Cmd) (w p : Word) (s : State) : Host.Outcome State Fault Refusal :=
  s.onBench c.bench fun b =>
    let a := fld w 5 0
    b.axisCommand (.mxSetPos c w p) c a 0 .badState fun b =>
      (b.setAxis a { b.axis a with pos := s32 p, pfrac := 0, posDoubt := false }).complete c .ok 0

/-- The cause of an axis's FAULT has gone (R299, R302, R309). -/
def Bench.axisClearable (b : Bench) (a : Nat) : Bool :=
  let x := b.axis a
  x.state ≠ .fault ||
  ((!x.bridgeUv || fld (b.aw a 0x40) 15 0 ≤ b.mx.vbr) &&
   (!x.stnLost || (match b.axisStation a with | some s => (b.station s).state = .operational | none => false)))

/-- Flags that MX_CLEAR clears. -/
def Axis.cleared (x : Axis) : Axis :=
  let x := { x with decelRaised := false, guardLimited := false, homeFail := false, reversed := false, stepLate := false, vSat := false }
  if x.state = .fault then { x with state := .idle, bridgeUv := false, stnLost := false } else x

/-- MX_CLEAR (R309). -/
def execMxClear (c : Cmd) (w : Word) (s : State) : Host.Outcome State Fault Refusal :=
  s.onBench c.bench (Bench.accept (.mxClear c w) c modesRun fun b =>
    let l := b.axesNamed w
    if l.isEmpty && fld w 7 0 ≠ 0xFF then b.refuse c .badParam
    else if !l.all b.axisClearable then b.refuse c .badState
    else (l.foldl (fun b a => b.setAxis a (b.axis a).cleared) b).complete c .ok 0)

/-- MX_CNT_CLR (R310). -/
def execMxCntClr (bn : BenchIx) (v : Word) (s : State) : Host.Outcome State Fault Refusal :=
  s.onBench bn fun b => { b with mx := { b.mx with
    lateCnt := if bitOf v 0 then 0 else b.mx.lateCnt, chatterCnt := if bitOf v 1 then 0 else b.mx.chatterCnt,
    skipCnt := if bitOf v 2 then 0 else b.mx.skipCnt } }

/-- Words 0x80 to 0xB4 of a descriptor (R307). -/
def Bench.axisStateWord (b : Bench) (a o : Nat) : Word :=
  let x := b.axis a
  match o with
  | 0x80 => ofS x.pos | 0x84 => ofS x.target | 0x88 => lo32 (x.e1 / 256) | 0x8C => hi32 (x.e1 / 256)
  | 0x90 => at32 (x.e1 % 256) 0 | 0x94 => lo32 x.q0 | 0x98 => hi32 x.q0 | 0x9C => BitVec.ofNat 32 (b.axisVnow a)
  | 0xA0 => BitVec.ofNat 32 x.dce | 0xA4 => b.axisMstate a | 0xA8 => x.chatter | 0xAC => x.tkskip
  | 0xB0 => at32 x.pfrac 0 | 0xB4 => ofS x.hpos
  | _ => 0

end Sys2Proof.Machine
end

