-- ==== Sys2Proof/Machine/Fifo.lean ====
section
/-!
DEFINITION. The 32 FIFOs (R125 to R134, R137 to R139): their words, packets and host registers.
-/
namespace Sys2Proof.Machine

def Fifo.en (f : Fifo) : Bool := bitOf f.cfg 31
def Fifo.prod (f : Fifo) : Nat := fld f.cfg 26 24
def Fifo.cons (f : Fifo) : Nat := fld f.cfg 22 20
def Fifo.notifies (f : Fifo) : Bool := bitOf f.cfg 19
def Fifo.nq (f : Fifo) : Nat := fld f.cfg 18 16
def Fifo.nhandler (f : Fifo) : Nat := fld f.cfg 7 0
def Fifo.spillMib (f : Fifo) : Nat := fld f.spill 6 0
/-- Capacity in words (R126). -/
def Fifo.cap (f : Fifo) : Nat := 128 + 60 * 4096 * f.spillMib
def Fifo.free (f : Fifo) : Nat := f.cap - f.words.length
def Fifo.full (f : Fifo) : Bool := f.cap ≤ f.words.length
/-- Packets whose end-marked word is held (R127). -/
def Fifo.pkts (f : Fifo) : Nat := (f.words.filter (·.2)).length
def Fifo.tailN (f : Fifo) : Nat := f.words.length - f.headN - f.midN

/-- Words move on towards the head (R125): directly while the middle is empty and the head has room,
else in blocks of 60 words into the middle and out of it. -/
def Fifo.settle (f : Fifo) : Fifo :=
  let k := min 60 f.midN
  let f := if f.headN + k ≤ 64 then { f with headN := f.headN + k, midN := f.midN - k } else f
  let f := if f.midN = 0 then { f with headN := min 64 f.words.length } else f
  if (0 < f.midN || f.headN = 64) && 60 ≤ f.tailN && f.midN + 60 ≤ 60 * 4096 * f.spillMib then
    { f with midN := f.midN + 60 } else f

/-- A word enters the FIFO; while DROPPING it is discarded through the end mark (R127, R133, R134). -/
def Fifo.push (w : Word) (eop : Bool) (f : Fifo) : Fifo :=
  if f.dropping then
    { f with dropping := !eop, wrOpen := !eop, wrCore := if eop then none else f.wrCore, wrLen := 0 }
  else
    let len := f.wrLen + 1
    Fifo.settle { f with
      words := f.words ++ [(w, eop)], wrOpen := !eop, wrCore := if eop then none else f.wrCore,
      wrLen := if eop then 0 else len,
      notify := if eop && f.notifies then f.notify ++ [len] else f.notify }

/-- The head word leaves the FIFO (R127). -/
def Fifo.pop (f : Fifo) : Fifo :=
  match f.words with
  | [] => f
  | (_, e) :: r => Fifo.settle { f with words := r, rdOpen := !e, headN := f.headN - 1 }

/-- The head word belongs to a packet that is still being written under a core's lock (R131). -/
def Fifo.headLocked (f : Fifo) : Bool := f.wrCore.isSome && f.pkts = 0 && f.words ≠ []

/-- The words after the last end mark removed, lock and open packet with them (R205). -/
def Fifo.dropOpen (f : Fifo) : Fifo :=
  let keep := (f.words.reverse.dropWhile (fun w => !w.2)).reverse
  Fifo.settle { f with words := keep, wrOpen := false, wrCore := none, wrLen := 0, dropping := false,
                       headN := min f.headN keep.length, midN := min f.midN (keep.length - min f.headN keep.length) }

/-- The words of the first packet, its end-marked word included. -/
def Fifo.firstPacket (f : Fifo) : List Word :=
  ((f.words.takeWhile (fun w => !w.2)) ++ (f.words.dropWhile (fun w => !w.2)).take 1).map (·.1)

/-- The first packet removed, word by word. -/
def Fifo.dropPacket (f : Fifo) : Fifo := f.firstPacket.foldl (fun f _ => f.pop) f

/-- All contents and the packet state gone (FLUSH, R132); notifications of packets already completed are still made (R134). -/
def Fifo.flush (f : Fifo) : Fifo :=
  { f with words := [], headN := 0, midN := 0, rdOpen := false, wrOpen := false, wrCore := none,
           dropping := false, wrLen := 0 }

def Fifo.spoiled (f : Fifo) : Fifo := { f with spoil := inc f.spoil }

def Bench.fifo (b : Bench) (n : Fin 32) : Fifo := b.fq.f[n]
def Bench.setFifo (n : Fin 32) (f : Fifo → Fifo) (b : Bench) : Bench :=
  { b with fq := { b.fq with f := upd b.fq.f n f } }

/-- A word written; a packet completed for the host stream queue is ready for its record (R528). -/
def Bench.fifoPush (n : Fin 32) (w : Word) (eop : Bool) (b : Bench) : Bench :=
  let f := b.fifo n
  let b := b.setFifo n (Fifo.push w eop)
  if eop && !f.dropping && f.cons = 5 then { b with qc := { b.qc with ready := b.qc.ready ++ [.fifo n.val] } } else b

/-- The words of a list pushed as one packet. -/
def Bench.fifoPushAll (n : Fin 32) : List Word → Bench → Bench
  | [], b => b
  | [w], b => b.fifoPush n w true
  | w :: r, b => Bench.fifoPushAll n r (b.fifoPush n w false)

/-- A hardware producer of class `cls` writes a whole packet, or it is spoiled whole (R129, R132). -/
def Bench.fifoPacket (n : Fin 32) (cls : Nat) (ws : List Word) (b : Bench) : Bench :=
  let f := b.fifo n
  if f.en && f.prod = cls && ws.length ≤ f.free then b.fifoPushAll n ws else b.setFifo n Fifo.spoiled

/-- Sum of the spill limits of all FIFOs, in MiB (FQ_SPILL_USED). -/
def Bench.spillUsed (b : Bench) : Nat := (b.fq.f.toList.map Fifo.spillMib).foldl (· + ·) 0

/-- A host write of a word (R130). -/
def Bench.hostWrite (n : Fin 32) (w : Word) (eop : Bool) (b : Bench) : Bench :=
  let f := b.fifo n
  if f.full || f.prod ≠ 1 || !f.en then b.setFifo n Fifo.spoiled else b.fifoPush n w eop

/-- FQ_WR (R130, R137). -/
def execFqWr (bn : BenchIx) (n : Fin 32) (w : Word) (s : State) : Host.Outcome State Fault Refusal :=
  s.onBench bn (Bench.hostWrite n w false)

/-- FQ_WR_EOP (R130, R137). -/
def execFqWrEop (bn : BenchIx) (n : Fin 32) (w : Word) (s : State) : Host.Outcome State Fault Refusal :=
  s.onBench bn (Bench.hostWrite n w true)

/-- The host pops the head word (R131, R137). -/
def Bench.hostPop (n : Fin 32) (b : Bench) : Bench :=
  let f := b.fifo n
  match f.words with
  | (w, e) :: _ =>
    if f.cons = 1 && f.en && !f.headLocked then
      let b := b.setFifo n Fifo.pop
      { b with fq := { b.fq with hostWord := w, hostValid := true, hostEop := e } }
    else { b with fq := { b.fq with hostValid := false } }
  | [] => { b with fq := { b.fq with hostValid := false } }

/-- FQ_HOST_POP (R131, R137). -/
def execFqHostPop (bn : BenchIx) (n : Fin 32) (s : State) : Host.Outcome State Fault Refusal :=
  s.onBench bn (Bench.hostPop n)

def Bench.cmdStat (v : Nat) (b : Bench) : Bench := { b with fq := { b.fq with cmdStat := v } }

/-- DROP_REMAINDER acts on the packet being read (R133). -/
def Bench.dropRemainder (n : Fin 32) (b : Bench) : Bench :=
  let f := b.fifo n
  if !f.en then b.cmdStat 3
  else if !f.rdOpen then b.cmdStat 1
  else if 0 < f.pkts then (b.setFifo n Fifo.dropPacket).cmdStat 0
  else (b.setFifo n fun f => { f with words := [], headN := 0, midN := 0, rdOpen := false, dropping := true }).cmdStat 2

/-- DROP_REMAINDER (R133). -/
def execDropRemainder (bn : BenchIx) (n : Fin 32) (s : State) : Host.Outcome State Fault Refusal :=
  s.onBench bn (Bench.dropRemainder n)

/-- Every FIFO emptied: contents and notifications gone, and with them the records that waited. -/
def Fifos.emptied (f : Fifos) : Fifos := { f with f := f.f.map fun x => { x.flush with notify := [] }, hostValid := false }
def Bench.fifosEmptied (f : Fifos) (b : Bench) : Bench := Bench.unready StreamReady.isDigest { b with fq := f.emptied }

/-- FLUSH, accepted only while EN is 0 (R132, R137). -/
def Bench.flushFifo (n : Fin 32) (b : Bench) : Bench :=
  if (b.fifo n).en then b.cmdStat 3 else ((b.setFifo n Fifo.flush).unready fun r => r ≠ .fifo n.val).cmdStat 0

/-- FLUSH (R132). -/
def execFlush (bn : BenchIx) (n : Fin 32) (s : State) : Host.Outcome State Fault Refusal :=
  s.onBench bn (Bench.flushFifo n)

/-- The value FQ_CFG takes: PROD, CONS, NOTIFY, NQ and NHANDLER only while EN is 0 and no word is held (R132, R138). -/
def Fifo.newCfg (v : Word) (f : Fifo) : Word :=
  let v := v &&& 0x877F00FF#32
  if !f.en && f.words.isEmpty then v else putBit f.cfg 31 (bitOf v 31)

/-- Enabled FIFOs other than n whose field [hi:lo] of FQ_CFG is k (R139). -/
def Bench.boundTo (n : Fin 32) (hi lo k : Nat) (b : Bench) : Nat :=
  ((List.finRange 32).filter fun m => m ≠ n && (b.fifo m).en && fld (b.fifo m).cfg hi lo = k).length

/-- A write to FQ_CFG (R132, R139). -/
def Bench.writeFqCfg (n : Fin 32) (v : Word) (b : Bench) : Bench :=
  let f := b.fifo n
  let w := f.newCfg v
  if 5 < fld v 26 24 || 5 < fld v 22 20 then b
  else if bitOf v 31 && (8 ≤ b.boundTo n 26 24 (fld w 26 24) || 8 ≤ b.boundTo n 22 20 (fld w 22 20)) then b
  else b.setFifo n fun f => { f with cfg := w }

/-- FQ_CFG_WRITE (R123, R132, R139). -/
def execFqCfgWrite (bn : BenchIx) (n : Fin 32) (v : Word) (s : State) : Host.Outcome State Fault Refusal :=
  s.onBench bn (Bench.writeFqCfg n v)

/-- A write to FQ_SPILL: at most 64, within the pool of R39, while EN is 0 and no word is held (R126, R132).
DESIGN CHOICE (log 55): bits above the field are reserved and ignored (R6), so a value of 128 or more counts by bits 6:0. -/
def Bench.writeFqSpill (n : Fin 32) (v : Word) (b : Bench) : Bench :=
  let f := b.fifo n
  let m := fld v 6 0
  if 64 < m || 896 < b.spillUsed - f.spillMib + m + b.bn.dramCapture.toNat || f.en || !f.words.isEmpty then b
  else b.setFifo n fun f => { f with spill := at32 m 0 }

/-- FQ_SPILL_WRITE (R126). -/
def execFqSpillWrite (bn : BenchIx) (n : Fin 32) (v : Word) (s : State) : Host.Outcome State Fault Refusal :=
  s.onBench bn (Bench.writeFqSpill n v)

/-- A write to BN_DRAM_CAPTURE (R45). -/
def Bench.writeDramCapture (v : Word) (b : Bench) : Bench :=
  if b.bn.mode ≠ .configure then b.windowRej
  else if 512 < v.toNat || 896 < v.toNat + b.spillUsed then b
  else { b with bn := { b.bn with dramCapture := v } }

/-- BN_DRAM_CAPTURE_WRITE (R39, R45). -/
def execBnDramCaptureWrite (bn : BenchIx) (v : Word) (s : State) : Host.Outcome State Fault Refusal :=
  s.onBench bn (Bench.writeDramCapture v)

end Sys2Proof.Machine
end

