-- ==== Sys2Proof/Machine/Sched.lean ====
section
/-!
DEFINITION. Work items, priority queues, ordered flows, dispatch and release (R105 to R124, R134 to R136).
-/
namespace Sys2Proof.Machine

/-- How a post ends (R106, R113, R118, R123, R199). -/
inductive PostResult where
  | accepted | full | denied | mode
  deriving DecidableEq, Repr

def Bench.count (n : Fin 10) (b : Bench) : Bench := { b with sc := { b.sc with cnt := upd b.sc.cnt n inc } }
/-- Counters of R135 by position: SC_CANCELLED is 5. -/
def Bench.cancelItems (k : Nat) (b : Bench) : Bench :=
  { b with sc := { b.sc with cnt := upd b.sc.cnt 5 fun c => incBy c k } }

/-- A spoil counter counts; at all-ones SPOIL_SAT sets once (R117). -/
def Bench.spoil (n : Fin 10) (b : Bench) : Bench :=
  let c := b.sc.cnt[n]
  let b' := (b.count n).health 2
  if c ≠ BitVec.allOnes 32 && b'.sc.cnt[n] = BitVec.allOnes 32 then b'.raise 3 0 0 0 0 else b'

/-- The spoil counter of a source that cannot stall (R106). -/
def spoilOf (src : Nat) : Option (Fin 10) :=
  match src with
  | 4 => some 0 | 5 => some 1 | 6 => some 2 | 7 => some 3 | _ => none

def qEn (w : Word) : Bool := bitOf w 31
def qReserve (w : Word) : Nat := fld w 28 16
def qLimit (w : Word) : Nat := fld w 12 0

def Bench.depthOf (b : Bench) (q : Fin 8) : Nat := b.sc.queues[q].length

/-- Σ RESERVE over the eight queues. -/
def reserveSum (c : Vector Word 8) : Nat := (c.toList.map qReserve).foldl (· + ·) 0

/-- Shared-pool entries in use (R114). -/
def Bench.poolUsed (b : Bench) : Nat :=
  ((List.finRange 8).map fun q => b.depthOf q - qReserve b.sc.qcfg[q]).foldl (· + ·) 0

/-- Free shared-pool entries (SC_POOL_FREE). -/
def Bench.poolFree (b : Bench) : Nat := 4096 - reserveSum b.sc.qcfg - b.poolUsed

/-- Queue q has an entry for one more item (R114); a disabled queue is as a full one (R123). -/
def Bench.hasRoom (b : Bench) (q : Fin 8) : Bool :=
  let c := b.sc.qcfg[q]
  let d := b.depthOf q
  qEn c && (d < qReserve c || (d < qLimit c && 0 < b.poolFree))

def Flow.en (f : Flow) : Bool := bitOf f.cfg 31
def Flow.queue (f : Flow) : Fin 8 := mkIx 7 (fld f.cfg 18 16)
def Flow.maxif (f : Flow) : Nat := fld f.cfg 5 0
def Bench.flow (b : Bench) (f : Nat) : Flow := Tbl.get {} b.sc.flows f
def Bench.setFlow (f : Nat) (v : Flow) (b : Bench) : Bench :=
  { b with sc := { b.sc with flows := Tbl.set {} b.sc.flows f v } }

/-- Acceptance of an item into its queue: sequence number of an ordered one, stamp (R105, R118). -/
def Bench.enqueue (i : Item) (b : Bench) : Bench :=
  if i.ord then
    let fl := b.flow i.flow
    let it := { i with seq := fl.next, stamp := b.rail.now, queue := fl.queue }
    let b := b.setFlow i.flow { fl with next := (fl.next + 1) % 65536 }
    { b with sc := { b.sc with queues := upd b.sc.queues fl.queue fun l => l ++ [it] } }
  else
    { b with sc := { b.sc with queues := upd b.sc.queues i.queue fun l => l ++ [{ i with stamp := b.rail.now }] } }

/-- A post of source i.src. A source that stalls (0, 2, 3) is answered `full` and nothing changes (R106). -/
def Bench.post (i : Item) (b : Bench) : PostResult × Bench :=
  if b.bn.mode ≠ .run && b.bn.mode ≠ .shadow && (i.src ≠ 0 || b.bn.mode = .wake) then (.mode, b.count 7)
  else if !bitOf b.sc.ctrl i.src then (.denied, b.cancelItems 1)
  else if i.ord && !(b.flow i.flow).en then (.denied, b.cancelItems 1)
  else
    let q := if i.ord then (b.flow i.flow).queue else i.queue
    if b.hasRoom q then (.accepted, b.enqueue i)
    else match spoilOf i.src with
      | some n => (.full, b.spoil n)
      | none => (.full, if i.src = 1 then b.count 4 else b)

/-! ### Dispatch (R110, R111, R116, R119, R158) -/

/-- The slot runs on some core. -/
def Bench.slotRunning (b : Bench) (n : Fin 64) : Bool :=
  b.cores.toList.any fun c => match c.run with | .segment _ m => m == n | _ => false

/-- Priority of a slot: its task's PRI; the error task's slot has PRI 0 (R145, R146). -/
def Bench.slotPri (b : Bench) (x : SlotImg) : Nat := if x.task = 0 then 0 else b.pe.tasks[x.task].pri

/-- The shortest period among enabled cyclic tasks, in ns (R158). -/
def Prog.minPeriod (p : Prog) : Option Nat :=
  ((p.tasks.toList.drop 1).filter (·.en)).foldl
    (fun m t => match m with | none => some (t.p * 1000) | some k => some (min k (t.p * 1000))) none

/-- R158: the error task may be dispatched now. -/
def Bench.errMay (b : Bench) : Bool :=
  match b.pe.errLast, b.pe.minPeriod with
  | some l, some p => l + p ≤ b.rail.now
  | _, _ => true

/-- The slot is ready to be dispatched (R111, R113, R158). -/
def Bench.slotReadyNow (b : Bench) (x : SlotImg) : Bool :=
  slotReady x (Tbl.get {} b.sc.slots x.slot.val).flags && !b.slotRunning x.slot && (x.task ≠ 0 || b.errMay)

/-- The ready slot of lowest PRI, then of lowest number (R110). -/
def Bench.nextSlot (b : Bench) : Option SlotImg :=
  match b.pe.cur with
  | none => none
  | some i =>
    i.slots.foldl (fun best x =>
      if b.slotReadyNow x then
        match best with
        | none => some x
        | some y => if b.slotPri x < b.slotPri y || (b.slotPri x = b.slotPri y && x.slot < y.slot) then some x else best
      else best) none

/-- Items of a flow between dispatch and release (R119). -/
def Bench.inFlow (b : Bench) (f : Nat) : Nat := (b.sc.results.filter fun r => r.flow = f).length

/-- An item can be dispatched now (R113, R119). -/
def Bench.dispatchable (b : Bench) (i : Item) : Bool :=
  (b.bn.mode = .run || b.bn.mode = .shadow || (b.bn.mode ≠ .wake && i.src = 0)) &&
  (!i.ord || (b.inFlow i.flow < (b.flow i.flow).maxif && b.sc.results.length < 512))

/-- The oldest dispatchable item among the first 16 of the lowest-numbered enabled queue that has one (R110, R116). -/
def Bench.nextItem (b : Bench) : Option (Fin 8 × Item) :=
  (List.finRange 8).findSome? fun q =>
    if qEn b.sc.qcfg[q] then ((b.sc.queues[q].take 16).find? b.dispatchable).map fun i => (q, i) else none

/-- The core loaded for a piece of work (R186). -/
def coreLoad (h : HandlerImg) (run : Running) (w1 w2 w3 w4 : Word) (st : Time) (sticky : BitVec 6) (t : Time) : Core :=
  { run := run, ip := h.ip, size := h.size, pc := h.entry, stamp := st, dispatchedAt := t, sticky := sticky,
    w := ((((((Vector.replicate 32 0).set 1 w1).set 2 w2).set 3 w3).set 4 w4).set 5 (lo32 st)).set 6 (hi32 st) }

def Bench.setCore (k : Fin 4) (c : Core) (b : Bench) : Bench := { b with cores := b.cores.set k c }

/-- The 8-byte entries of an input image stored at an address (R209). -/
def Bench.storeInputs : Nat → List (Nat × Point) → Bench → Bench
  | _, [], b => b
  | a, (_, e) :: r, b => Bench.storeInputs (a + 8) r ((b.store a 4 e.value.toNat).store (a + 4) 2 e.quality.toNat)

/-- The output image of an input map of n entries follows at the next 16-byte boundary (R209). -/
def outImage (base n : Nat) : Nat := ceilDiv (base + 8 * n) 16 * 16

/-- ITEM_OVERRUN (R109). -/
def Bench.itemOverrun (k : Fin 4) (b : Bench) : Bench :=
  let c := b.cores[k]
  match c.run with
  | .item _ =>
    if c.dispatchedAt + 32768 ≤ b.rail.now && !c.overrun then ((b.count 9).health 3).setCore k { c with overrun := true } else b
  | _ => b

/-- ITEM_OVERRUN (R109): An item still running 32.768 µs after dispatch increments SC_OVERRUN. -/
def execItemOverrun (bn : BenchIx) (t : Nat) (core : Fin 4) (s : State) : Host.Outcome State Fault Refusal :=
  s.onBench bn fun b => (b.tick t).itemOverrun core

/-! ### Release of ordered results (R120, R121, R123) -/

/-- The words an effect list holds for FIFO n, in order. -/
def heldWords (n : Fin 32) (l : List Effect) : List (Word × Bool) :=
  l.filterMap fun e => match e with | .fifo m w eop => if m = n then some (w, eop) else none | _ => none

/-- Held effects released in their order; none where a post meets a full queue (R106 source 2).
acc: words of packets whose end mark comes later; each packet is written whole at its end mark, or spoiled whole (R121, R129). -/
def Bench.releaseEffects : List Effect → List (Fin 32 × Word) → Bench → Option Bench
  | [], _, b => some b
  | .point p v st src :: r, acc, b => Bench.releaseEffects r acc (b.writePoint src p v qLive st)
  | .fifo n w true :: r, acc, b =>
    Bench.releaseEffects r (acc.filter fun x => x.1 ≠ n) (b.fifoPacket n 0 ((acc.filter fun x => x.1 = n).map (·.2) ++ [w]))
  | .fifo n w false :: r, acc, b => Bench.releaseEffects r (acc ++ [(n, w)]) b
  | .post i :: r, acc, b =>
    match b.post { i with src := 2 } with
    | (.full, _) => none
    | (_, b') => Bench.releaseEffects r acc b'

/-- No FIFO that the group writes is locked to a core with an open packet (R121). -/
def Bench.tailsFree (l : List Effect) (b : Bench) : Bool :=
  (List.finRange 32).all fun n => (heldWords n l).isEmpty || (b.fifo n).wrCore.isNone

/-- RELEASE moves on (R121). -/
def Bench.advanceRelease (f : Nat) (b : Bench) : Bench :=
  let fl := b.flow f
  b.setFlow f { fl with release := (fl.release + 1) % 65536 }

/-- A completed group at its flow's RELEASE waits to write FIFO n: no core may lock the tail before it (R121). -/
def Bench.releaseWaits (n : Fin 32) (b : Bench) : Bool :=
  b.sc.results.any fun r => r.done && r.seq = (b.flow r.flow).release && !(heldWords n r.effects).isEmpty

/-- The position at RELEASE of a flow is released as one group, if its item has completed and nothing stalls it (R121). -/
def Bench.release (f : Nat) (b : Bench) : Bench :=
  let fl := b.flow f
  if b.sc.empties.contains (f, fl.release) then
    Bench.advanceRelease f { b with sc := { b.sc with empties := b.sc.empties.erase (f, fl.release) } }
  else match b.sc.results.find? (fun r => r.flow = f && r.seq = fl.release) with
    | some r =>
      if r.done && b.tailsFree r.effects then
        match Bench.releaseEffects r.effects [] b with
        | some b => Bench.advanceRelease f { b with sc := { b.sc with results := b.sc.results.erase r } }
        | none => b
      else b
    | none => b

/-- REORDER_RELEASE (R121). -/
def execReorderRelease (bn : BenchIx) (t : Nat) (flow : Fin 256) (s : State) : Host.Outcome State Fault Refusal :=
  s.onBench bn fun b => (b.tick t).release flow.val

/-! ### FIFO notifications (R106 source 3, R134) -/

/-- The oldest pending notification of a FIFO is posted; it waits while its queue has no room. -/
def Bench.fifoNotify (n : Fin 32) (b : Bench) : Bench :=
  let f := b.fifo n
  match f.notify with
  | [] => b
  | len :: rest =>
    match b.post { queue := mkIx 7 f.nq, src := 3, fref := true, fifo := n.val, handler := f.nhandler,
                   arg0 := BitVec.ofNat 32 len } with
    | (.full, b') => b'
    | (_, b') => b'.setFifo n fun f => { f with notify := rest }

/-- FIFO_NOTIFY (R134). -/
def execFifoNotify (bn : BenchIx) (t : Nat) (n : Fin 32) (s : State) : Host.Outcome State Fault Refusal :=
  s.onBench bn fun b => (b.tick t).fifoNotify n

/-- The command of an item of source 0 completes with a status (R122, R205). -/
def Bench.endHostItem (st : Status) (b : Bench) (i : Item) : Bench :=
  match (if i.src = 0 then i.cmd else none) with | some (tag, noirq) => b.completeTag tag noirq st 0 | none => b

/-- The supervisor's waiting item is posted once its queue accepts it (R106). -/
def Bench.hostPost (b : Bench) : Bench :=
  match b.sc.hostItem with
  | none => b
  | some i =>
    match b.post i with
    | (.full, b) => b
    | (.accepted, b) => { b with sc := { b.sc with hostItem := none } }
    | (_, b) => Bench.endHostItem .cancelled { b with sc := { b.sc with hostItem := none } } i

/-! ### Disabling (R123, R124) and the configuration registers (R115, R135, R136) -/

/-- Queued items that satisfy p are removed and counted; positions of ordered ones are released empty, commands of source 0
cancelled. -/
def Bench.removeItems (p : Item → Bool) (b : Bench) : Bench :=
  let all := b.sc.queues.toList.flatten
  let gone := all.filter p
  let queues := b.sc.queues.map fun l => l.filter fun i => !p i
  let empties := b.sc.empties ++ (gone.filter (·.ord)).map fun i => (i.flow, i.seq)
  gone.foldl (Bench.endHostItem .cancelled) (Bench.cancelItems gone.length { b with sc := { b.sc with queues := queues, empties := empties } })

/-- A write to SC_CTRL (R123, R135): items of sources it disables are removed. -/
def Bench.writeScCtrl (v : Word) (b : Bench) : Bench :=
  let off (n : Nat) : Bool := n < 8 && bitOf b.sc.ctrl n && !bitOf v n
  let b' := b.removeItems fun i => off i.src
  { b' with sc := { b'.sc with ctrl := v &&& 0xFF } }

/-- SC_CTRL_WRITE (R123, R135). -/
def execScCtrlWrite (bn : BenchIx) (v : Word) (s : State) : Host.Outcome State Fault Refusal :=
  s.onBench bn (Bench.writeScCtrl v)

/-- A write to SC_FLOW (R118, R123, R124, R136). DESIGN CHOICE (log 54): a write with EN = 1 to a flow that is enabled
and drained changes nothing; NEXT and RELEASE go on. -/
def Bench.writeScFlow (f : Nat) (v : Word) (b : Bench) : Bench :=
  let fl := b.flow f
  let v := v &&& 0x8007003F#32
  if fld v 5 0 = 0 || 32 < fld v 5 0 then b
  else if fl.en then
    if bitOf v 31 then b
    else (b.setFlow f { fl with cfg := putBit fl.cfg 31 false }).removeItems fun i => i.ord && i.flow = f
  else if fl.next ≠ fl.release then b
  else if bitOf v 31 then b.setFlow f { cfg := v, next := 0, release := 0 }
  else b.setFlow f { fl with cfg := v }

/-- SC_FLOW_WRITE (R123, R124). -/
def execScFlowWrite (bn : BenchIx) (f : Fin 256) (v : Word) (s : State) : Host.Outcome State Fault Refusal :=
  s.onBench bn (Bench.writeScFlow f.val v)

/-- A write to SC_QCFG (R115). -/
def Bench.writeScQcfg (q : Fin 8) (v : Word) (b : Bench) : Bench :=
  let v := v &&& 0x9FFF1FFF#32
  let c := b.sc.qcfg.set q v
  if b.bn.mode ≠ .configure || qLimit v < qReserve v || qLimit v = 0 || 4096 < qLimit v || 4096 < reserveSum c then b
  else { b with sc := { b.sc with qcfg := c } }

/-- SC_QCFG_WRITE (R115, R123). -/
def execScQcfgWrite (bn : BenchIx) (q : Fin 8) (v : Word) (s : State) : Host.Outcome State Fault Refusal :=
  s.onBench bn (Bench.writeScQcfg q v)

/-- SC_CNT_CLR (R135). -/
def execScCntClr (bn : BenchIx) (v : Word) (s : State) : Host.Outcome State Fault Refusal :=
  s.onBench bn fun b => { b with sc := { b.sc with cnt := b.sc.cnt.mapFinIdx fun n c _ => if bitOf v n then 0 else c } }

/-! ### Leaving the running modes (R122) -/

/-- A task's lasting sticky flags, or those of handlers, take a core's (R204). -/
def Bench.mergeSticky (c : Core) (b : Bench) : Bench :=
  match c.run with
  | .segment t _ => { b with pe := { b.pe with sticky := upd b.pe.sticky t fun w => w ||| c.sticky.setWidth 32 } }
  | .item _ => { b with pe := { b.pe with stickyWi := b.pe.stickyWi ||| c.sticky.setWidth 32 } }
  | .idle => b

/-- FIFOs whose tail the core holds lose their open packet (R205). -/
def Bench.dropOpenOf (k : Fin 4) (b : Bench) : Bench :=
  { b with fq := { b.fq with f := b.fq.f.map fun f =>
      if f.wrOpen && f.wrCore = some k then f.dropOpen.spoiled else f } }

/-- An ordered item's effect list leaves a packet of FIFO n open. -/
def heldOpen (n : Fin 32) (l : List Effect) : Bool :=
  match (heldWords n l).getLast? with | some (_, e) => !e | none => false

/-- Packets that the ordered item of a core holds open count in FQ_SPOIL (R205). -/
def Bench.spoilHeld (i : Item) (b : Bench) : Bench :=
  match b.sc.results.find? (fun r => r.flow = i.flow && r.seq = i.seq) with
  | some r => (List.finRange 32).foldl (fun b n => if heldOpen n r.effects then b.setFifo n Fifo.spoiled else b) b
  | none => b

/-- A core stops; its sticky flags are merged (R122, R204). -/
def Bench.stopCore (b : Bench) (k : Fin 4) : Bench :=
  let c := b.cores[k]
  (b.mergeSticky c).setCore k { c with run := .idle, loops := [], calls := [] }
/-- A core stops in the middle of its work: its open packets are discarded (R122, R205). -/
def Bench.faultStop (b : Bench) (k : Fin 4) : Bench :=
  let c := b.cores[k]
  let b := (b.stopCore k).dropOpenOf k
  match c.run with | .item i => if i.ord then b.spoilHeld i else b | _ => b

/-- R122: work stops, writes made stand, open packets and held results go, and queued items with them, flags clear, flows
restart. Commands of source 0 complete with CANCELLED. -/
def Bench.schedStop (b : Bench) : Bench :=
  let b := (List.finRange 4).foldl Bench.faultStop b
  let items := b.sc.queues.toList.flatten
  let b := (items ++ b.sc.hostItem.toList).foldl (Bench.endHostItem .cancelled) (b.cancelItems items.length)
  { b with
    sc := { b.sc with hostItem := none, queues := Vector.replicate 8 [], results := [], empties := [],
                      flows := Tbl.mapAll {} (fun _ f => { f with next := 0, release := 0 }) b.sc.flows,
                      slots := Tbl.mapAll {} (fun _ x => { x with flags := 0 }) b.sc.slots },
    pe := { b.pe with errPend := 0 } }

/-! ### Instants of the cyclic tasks (R142, R159) -/

def TaskCfg.pNs (t : TaskCfg) : Nat := t.p * 1000
def TaskCfg.phNs (t : TaskCfg) : Nat := t.ph * 1000

/-- A rail value is an input instant of the task (R142). -/
def TaskCfg.isInstant (t : TaskCfg) (now : Time) : Bool := t.phNs ≤ now && (now - t.phNs) % t.pNs = 0

/-- The first input instant of the task at or after a rail value (R142). -/
def TaskCfg.nextInstant (t : TaskCfg) (now : Time) : Time :=
  if now ≤ t.phNs then t.phNs else t.phNs + firstMul t.pNs (now - t.phNs)

/-- Enabled cyclic task of shortest period, of lowest number among equals (R159). -/
def Prog.shortest (p : Prog) : Option TaskCfg :=
  ((p.tasks.toList.drop 1).filter (·.en)).foldl (fun m t =>
    match m with | none => some t | some x => if t.p < x.p then some t else some x) none

/-- The output instant of the error task's outputs: the first of the shortest-period task at least 4 µs
later, or the first multiple of 10 µs if there is none (R159). -/
def Prog.errOutput (p : Prog) (now : Time) : Time :=
  match p.shortest with
  | some t =>
    let o := t.off * 1000
    -- first I + OF at or after now + 4 µs
    if now + 4000 ≤ t.phNs + o then t.phNs + o else t.phNs + o + firstMul t.pNs (now + 4000 - (t.phNs + o))
  | none => firstMul 10000 (now + 4000)

end Sys2Proof.Machine
end

