-- ==== Sys2Proof/Machine/CanBase.lean ====
section
/-!
DEFINITION. The CAN controllers as the start of a bench and host writes need them: configuration, message RAM, states
(R418, R419, R440, R442).
-/
namespace Sys2Proof.Machine

/-! ### Configuration and message RAM (R418, R419, R442) -/

def canAt (k : Fin 2) (o : Nat) : Nat := 0x1C000 + 0x1000 * k.val + o
def Bench.cw (b : Bench) (k : Fin 2) (o : Nat) : Word := b.cfg (canAt k o)
def Bench.canEn (b : Bench) (k : Fin 2) : Bool := bitOf (b.cw k 8) 31
def Bench.canFd (b : Bench) (k : Fin 2) : Bool := bitOf (b.cw k 8) 30
def Bench.canResAct (b : Bench) (k : Fin 2) : Bool := bitOf (b.cw k 8) 29
def Bench.canBorAuto (b : Bench) (k : Fin 2) : Bool := bitOf (b.cw k 8) 28
def Bench.setCan (k : Fin 2) (f : Can → Can) (b : Bench) : Bench := { b with can := upd b.can k f }
/-- A word of message RAM. -/
def Can.word (c : Can) (o : Nat) : Word := Tbl.get 0 c.ram o
def Can.put (o : Nat) (v : Word) (c : Can) : Can := { c with ram := Tbl.set 0 c.ram o v }
/-- Bits of a word of the filters (R422) and transmit objects (R420, R428) that are not reserved; others read 0 (R6). -/
def mrMask (o : Nat) : Word :=
  if o < 0x1400 then
    match o % 16 / 4 with
    | 0 => 0xBFFFFFFF | 1 => 0x1FFFFFFF | 2 => 0x00FF00FF | _ => 0xFF3F1FFF
  else
    match (o - 0x2800) % 80 with
    | 0 => 0x7FFFFFFF | 4 => 0xE3FF000F | 8 => 0xFFC1FFFF | 12 => 0x7FFFFFFF | _ => 0xFFFFFFFF

/-! ### Image, start, WAKE (R419, R440) -/

/-- Configuration registers whose reset is "Image": the words that lie at their offsets, reserved bits 0 (R6). -/
def imageConf (i : Image) : Tbl Word :=
  i.conf.foldl (fun m c => match confMask c.1 with | some k => Tbl.set 0 m c.1 (c.2 &&& k) | none => m) []

/-- Filters and transmit objects of an image (R419): the whole of both tables, 0 where the image has none. -/
def Bench.canImage (l : List ((Nat × Nat) × Word)) (b : Bench) : Bench :=
  [(0 : Fin 2), 1].foldl (fun b k =>
    let kept := b.can[k].ram.filter fun e => (0x1400 ≤ e.1 && e.1 < 0x2800) || 0x3700 ≤ e.1
    let b := b.setCan k fun c => { c with ram := kept }
    (l.filter fun e => e.1.1 = k.val && (e.1.2 < 0x1400 || (0x2800 ≤ e.1.2 && e.1.2 < 0x3700))).foldl (fun b e =>
      b.setCan k (Can.put (e.1.2 / 4 * 4) (e.2 &&& mrMask (e.1.2 / 4 * 4)))) b) b

/-- A controller whose EN is 1 begins to integrate; one whose EN is 0 is off: its frame in transmission completes, what
waits is dropped (R440). -/
def Bench.canStart (b : Bench) : Bench :=
  [(0 : Fin 2), 1].foldl (fun b k =>
    let now := b.rail.now
    b.setCan k fun c =>
      if !b.canEn k then
        { c with state := .off, urgent := none, recovering := false,
                 pending := if c.state = .off then c.pending else c.pending.map fun p => { p with dead := some now } }
      else if c.state = .off then { c with state := .integrating, pending := [] } else c) b

/-- In RUN no reference message is sent; one that waits is withdrawn, one in transmission completes (R432, R439). -/
def Bench.canReferencesEnd (b : Bench) : Bench :=
  [(0 : Fin 2), 1].foldl (fun b k => b.setCan k fun c => { c with pending := c.pending.map fun p =>
    if p.src = .reference && p.dead.isNone then { p with dead := some b.rail.now } else p }) b

/-- At time lock in WAKE the controllers of the image in the current slot take their configuration and begin to
integrate (R90, R439, R440). -/
def Bench.canWake (b : Bench) : Bench :=
  match b.pe.cur with
  | some i =>
    let mine (e : Nat × Word) : Bool := 0x1C000 ≤ e.1 && e.1 < 0x1E000
    (Bench.canImage i.can { b with conf := (imageConf i).filter mine }).canStart
  | none => b

end Sys2Proof.Machine
end

