-- ==== Sys2Proof/Machine/Health.lean ====
section
/-!
DEFINITION. The health recorder: gauges, counts, severity, periods, slots (R464 to R469, R472).
-/
namespace Sys2Proof.Machine

def Bench.setHealth (f : Health → Health) (b : Bench) : Bench := { b with hl := f b.hl }

/-! ### Gauges (R465) -/

/-- LO and STEP of gauge QID i + 1. -/
def gaugeScale (i : Nat) : Int × Int :=
  match i with | 0 => (-400, 100) | 1 => (600, 20) | 2 => (1400, 120) | _ => (80, 10)
/-- The bin of a value (R459). -/
def binOf (lo step v : Int) : Nat := if step ≤ 0 then (if v < lo then 0 else 15) else (clipInt 0 15 ((v - lo).fdiv step)).toNat
/-- A value counted in a bin. -/
def addBin (l : List Nat) (j : Nat) : List Nat := l.set j (l.getD j 0 + 1)

/-- A sample of gauge i, at ms offset o from the period's start. -/
def Gauge.sample (i o : Nat) (v : Int) (g : Gauge) : Gauge :=
  let s := gaugeScale i
  { count := g.count + 1, sum := g.sum + v, bins := addBin g.bins (binOf s.1 s.2 v),
    min := if g.count = 0 || v < g.min then v else g.min, minAt := if g.count = 0 || v < g.min then o else g.minAt,
    max := if g.count = 0 || g.max < v then v else g.max, maxAt := if g.count = 0 || g.max < v then o else g.maxAt }

/-- The four gauges now: TM_TJ, TM_PACE_MV, FC_LPLUS, TM_PACE_RATE. -/
def Bench.gaugeNow (b : Bench) (i : Nat) : Int :=
  match i with
  | 0 => b.rail.tj | 1 => (b.rail.paceMv : Int) | 2 => ((b.fc.lplus / 10 : Nat) : Int) | _ => (b.rail.paceRate : Int)

/-- GAUGE_SAMPLE (R465 to R467): every 10 ms; with it the corrected memory errors are counted. -/
def execGaugeSample (bn : BenchIx) (x : GaugeTick) (s : State) : Host.Outcome State Fault Refusal :=
  s.onBench bn fun b =>
    let b := (((b.tick x.time).healthBy 21 x.sram).healthBy 22 x.dram).healthBy 23 x.mram
    if !b.hl.running || b.bn.mode = .wake then b
    else
      let o := (b.rail.up - b.hl.up) / 1000000
      let edge := (List.range 4).any fun i => let x := gaugeScale i; let j := binOf x.1 x.2 (b.gaugeNow i); j = 0 || j = 15
      let b := b.setHealth fun h => { h with gauges := h.gauges.mapFinIdx fun i g _ => g.sample i o (b.gaugeNow i) }
      if edge then b.healthSev 1 else b

/-! ### Records (R464, R468) -/

/-- A record passes its check. -/
def recordOk (r : List Word) : Bool := r.getD 63 0 = crc32c (r.take 63)
/-- A slot is free: never written, or failing its CRC. -/
def Health.free (h : Health) (n : Nat) : Bool :=
  match Tbl.get none h.slots n with | some r => !recordOk r | none => true
/-- Slots found failing their check are counted once each. -/
def Health.findBad (l : List Nat) (h : Health) : Health :=
  let new := l.filter fun n => (match Tbl.get none h.slots n with | some r => !recordOk r | none => false) && !h.found.contains n
  { h with found := h.found ++ new, bad := incBy h.bad new.length }
def recordSev (r : List Word) : Nat := fld (r.getD 0 0) 19 18
def recordSeq (r : List Word) : Nat := (r.getD 1 0).toNat

/-- The slot for a record of severity k: the lowest free one, else the record of lowest SEQ among those of a severity
at most k. -/
def Health.slotFor (h : Health) (k : Nat) : Option Nat :=
  match (List.range 16384).find? h.free with
  | some n => some n
  | none =>
    let l := h.slots.filterMap fun e => match e.2 with | some r => if recordSev r ≤ k then some (e.1, recordSeq r) else none | none => none
    (l.foldl (fun m e => match m with | some x => if e.2 < x.2 then some e else m | none => some e) none).map (·.1)

/-- A gauge block of 24 words (R465). Values of a period without a sample are open. -/
def Bench.gaugeBlock (i : Nat) (b : Bench) : List Word × Bench :=
  let g := b.hl.gauges.toList.getD i {}
  let s := gaugeScale i
  let tail := [ofS s.1, ofS s.2] ++ (g.bins.map fun n => BitVec.ofNat 32 n)
  if g.count = 0 then
    let (a, b) := b.fresh
    let (c, b) := b.fresh
    let (d, b) := b.fresh
    let (e, b) := b.fresh
    let (f, b) := b.fresh
    ([BitVec.ofNat 32 (i + 1)] ++ [a, c, d, e, f].map (BitVec.ofNat 32) ++ tail, b)
  else
    ([BitVec.ofNat 32 (i + 1), ofS g.min, ofS g.max, ofS (roundDiv g.sum g.count), BitVec.ofNat 32 g.minAt, BitVec.ofNat 32 g.maxAt] ++ tail, b)

/-- A record is written, or dropped (R468). -/
def Bench.recordWrite (kind cls cause : Nat) (body : List Word) (b : Bench) : Bench :=
  let h := b.hl
  match h.slotFor h.sev with
  | some n =>
    let len := (b.rail.up - h.up) / 1000000
    let seq := h.seq + 1
    let ws := [at32 kind 24 ||| at32 h.sev 18 ||| at32 cls 16, seq, b.bn.life.opHours, b.bn.life.powerCycles, lo32 h.rail, hi32 h.rail,
               BitVec.ofNat 32 len, BitVec.ofNat 32 cause] ++ body
    let ws := (ws ++ List.replicate 63 0).take 63
    b.setHealth fun h => { h with
      seq := seq, slots := Tbl.set none h.slots n (some (ws ++ [crc32c ws])), wrote := h.wrote ++ [n],
      found := h.found.filter (· ≠ n) }
  | none => (b.setHealth fun h => { h with drop := inc h.drop }).raise 12 1 0 0 0

/-- A new period starts (R467, R469). -/
def Bench.periodOpen (b : Bench) : Bench :=
  b.setHealth fun h => { h with
    running := true, rail := b.rail.now, up := b.rail.up, gauges := Vector.replicate 4 {}, counts := Vector.replicate 25 0, sev := 0 }

/-- The running period closes: three records, then a new period (R464, R467). -/
def Bench.periodClose (cls cause : Nat) (b : Bench) : Bench :=
  let b := b.setHealth fun h =>
    let h := h.findBad (h.slots.map (·.1))
    { h with wrote := [], wroteAt := b.rail.up }
  let (g0, b) := b.gaugeBlock 0
  let (g1, b) := b.gaugeBlock 1
  let b := b.recordWrite 1 cls cause (g0 ++ g1)
  let (g2, b) := b.gaugeBlock 2
  let (g3, b) := b.gaugeBlock 3
  let b := b.recordWrite 2 cls cause (g2 ++ g3)
  (b.recordWrite 3 cls cause b.hl.counts.toList).periodOpen

/-- A severity-3 condition closes the health period at once; within 10 s of the last early close it only raises the
severity (R467): 1 PACE_FAULT, 2 TJ_HIGH, 3 watchdog, 4 Quoin. -/
def Bench.earlyClose (cause : Nat) (b : Bench) : Bench :=
  if !b.hl.running then b
  else
    let b := b.healthSev 3
    let near : Bool := match b.hl.early with | some a => b.rail.up < a + 10000000000 | none => false
    if near then b
    else ((b.setHealth fun h => { h with early := some b.rail.up }).periodClose 1 cause).raise 12 0 0 0 0

/-- PERIOD_END (R464). -/
def execPeriodEnd (bn : BenchIx) (t : Nat) (s : State) : Host.Outcome State Fault Refusal :=
  s.onBench bn fun b =>
    let b := b.tick t
    if b.hl.running && b.hl.up + fld b.hl.cfg 10 0 * 60000000000 ≤ b.rail.up then b.periodClose 0 0 else b

/-- HL_CLOSE_NOW (R464, R470). -/
def execHlCloseNow (c : Cmd) (s : State) : Host.Outcome State Fault Refusal :=
  s.onBench c.bench (Bench.accept (.hlCloseNow c) c modesAny fun b =>
    let b := b.periodClose 2 0
    b.complete c .ok b.hl.seq.toNat)

/-- HL_READ (R468, R470): the records of the slots named. -/
def execHlRead (c : Cmd) (first count : Word) (s : State) : Host.Outcome State Fault Refusal :=
  s.onBench c.bench (Bench.accept (.hlRead c first count) c modesAny fun b =>
    if count = 0 || 64 < count.toNat || 16384 < first.toNat + count.toNat then b.refuse c .badParam
    else
      let l := (List.range count.toNat).map (first.toNat + ·)
      let recs := l.filterMap fun n => Tbl.get none b.hl.slots n
      let bad := (recs.filter fun r => !recordOk r).length
      let b := b.setHealth (Health.findBad l)
      b.readDone c recs.flatten (recs.length + 65536 * bad))

/-- HL_CNT_CLR (R472). -/
def execHlCntClr (bn : BenchIx) (v : Word) (s : State) : Host.Outcome State Fault Refusal :=
  s.onBench bn fun b => b.setHealth fun h => { h with drop := if bitOf v 0 then 0 else h.drop, bad := if bitOf v 1 then 0 else h.bad }

/-- Supply loss or a bench reset discards the running period (R469); records not complete for 20 µs hold an open check
word (R468). -/
def Bench.healthLost (b : Bench) : Bench :=
  let b := b.setHealth fun h => { h with running := false }
  if b.hl.wroteAt + 20000 ≤ b.rail.up then b
  else
    b.hl.wrote.foldl (fun b n =>
      let (v, b) := b.fresh
      match Tbl.get none b.hl.slots n with
      | some r => b.setHealth fun h => { h with slots := Tbl.set none h.slots n (some (r.take 63 ++ [BitVec.ofNat 32 v])) }
      | none => b) (b.setHealth fun h => { h with wrote := [] })

/-- An HL_ register as it reads (R472). -/
def Bench.healthWord (b : Bench) (o : Nat) : Word :=
  match o with
  | 0x000 => b.hl.cfg
  | 0x004 =>
    let n := (b.hl.slots.filter fun e => match e.2 with | some r => recordOk r | none => false).length
    at32 (b2n (n = 16384)) 31 ||| at32 n 0
  | 0x008 => b.hl.seq
  | 0x00C => b.ev[(12 : Fin 18)]
  | 0x010 => b.hl.drop
  | 0x014 => b.hl.bad
  | _ => 0

end Sys2Proof.Machine
end

