-- ==== Sys2Proof/Machine/Pace.lean ====
section
/-!
DEFINITION. Pace and the pace governor (R67 to R72, R77).
-/
namespace Sys2Proof.Machine

def Rail.floor (r : Rail) : Nat := fld r.paceLim 27 16
def Rail.ceil (r : Rail) : Nat := fld r.paceLim 11 0
/-- A supply clipped to the limits of TM_PACE_LIM. -/
def Rail.clip (mv : Nat) (r : Rail) : Nat := min r.ceil (max r.floor mv)

def Bench.setRail (f : Rail → Rail) (b : Bench) : Bench := { b with rail := f b.rail }

/-- Supply held at REST_MV, clipped, in modes without running cyclic tasks, unless PACE_LOW holds it (R68, R71).
DESIGN CHOICE (log 54): an upward move to REST_MV or to a raised limit is no raise of R69: R72 does not withhold it,
and TM_RAISE_CNT does not count it. -/
def Bench.restSupply (b : Bench) : Bench :=
  if b.bn.mode = .run || b.rail.paceLow then b
  else b.setRail fun r => { r with paceMv := r.clip (fld r.paceRest 11 0) }

/-- The move to the ceiling of R68: one raise, none while R72 withholds raises. -/
def Bench.toCeiling (b : Bench) : Bench :=
  if b.rail.noRaise || b.rail.ceil ≤ b.rail.paceMv then b
  else b.setRail fun r => { r with paceMv := r.ceil, raiseCnt := inc r.raiseCnt }

/-- The logic window W of a task, in ns (R143). -/
def TaskCfg.window (t : TaskCfg) : Nat := (t.off - 4) * 1000

/-- demand_raise(c) of R69, c being the present cycle of a task. -/
def Bench.demandRaise (k : Fin 16) (b : Bench) : Bench :=
  let b := b.setRail fun r => { r with calm := 0 }
  if b.rail.noRaise then b
  else if b.rail.paceMv < b.rail.ceil then
    b.setRail fun r => { r with paceMv := min (r.paceMv + 30) r.ceil, raiseCnt := inc r.raiseCnt }
  else if !b.pe.runs[k].ceilCounted then
    let runs := upd b.pe.runs k fun r => { r with ceilCounted := true }
    let b := b.health 16
    Bench.raise 2 5 0 0 0 { b with
      rail := { b.rail with ceilCnt := inc b.rail.ceilCnt }, pe := { b.pe with runs := runs } }
  else b

/-- The governor on the completion of a cycle (R69): span is I(k) to E(k). -/
def Bench.cycleDone (k : Fin 16) (span : Nat) (b : Bench) : Bench :=
  let w := b.pe.tasks[k].window
  let left : Int := (w : Int) - (span : Int)
  let b := b.setRail fun r => { r with slack := roundDiv (1000 * left) w }
  if 5 * left < (w : Int) then b.demandRaise k
  else if 5 * left > 2 * (w : Int) then
    if b.rail.calm + 1 = 100 then
      if !b.rail.paceLow then
        b.setRail fun r => { r with calm := 0, paceMv := max (r.paceMv - 10) r.floor, lowerCnt := inc r.lowerCnt }
      else b.setRail fun r => { r with calm := 0 }
    else b.setRail fun r => { r with calm := r.calm + 1 }
  else b.setRail fun r => { r with calm := 0 }

/-- A running cycle passes 0.80 of its window, or a further 2 µs (R69). -/
def Bench.raiseDemand (k : Fin 16) (b : Bench) : Bench :=
  let r := b.pe.runs[k]
  let due := match r.demandAt with | none => true | some a => a + 2000 ≤ b.rail.now
  if b.bn.mode = .run && k ≠ 0 && r.active && due && 4 * b.pe.tasks[k].window ≤ 5 * (b.rail.now - r.ik) then
    let runs := upd b.pe.runs k fun r => { r with demandAt := some b.rail.now }
    Bench.demandRaise k { b with pe := { b.pe with runs := runs } }
  else b

/-- RAISE_DEMAND (R69). -/
def execRaiseDemand (bn : BenchIx) (t : Nat) (task : Fin 16) (s : State) : Host.Outcome State Fault Refusal :=
  s.onBench bn fun b => (b.tick t).raiseDemand task

/-- The replica path measures a pace below the guaranteed minimum (R68). -/
def Bench.paceLow (rate : Nat) (b : Bench) : Bench :=
  if rate < 100 then
    let b := b.setRail fun r => { r with
      paceRate := rate, paceLow := true, paceLowAt := if r.paceLow then r.paceLowAt else r.up,
      paceFaulted := r.paceLow && r.paceFaulted }
    b.toCeiling
  else b

/-- PACE_LOW (R68). -/
def execPaceLow (bn : BenchIx) (t rate : Nat) (s : State) : Host.Outcome State Fault Refusal :=
  s.onBench bn fun b => (b.tick t).paceLow rate

/-- Pace below the minimum for 1 ms at the ceiling, or with raises withheld (R68). -/
def Bench.paceFault (b : Bench) : Bench :=
  if b.rail.paceLow && !b.rail.paceFaulted && b.rail.paceLowAt + 1000000 ≤ b.rail.up then
    let b := b.setRail fun r => { r with paceFaulted := true }
    ((b.raise 2 7 0 0 0).errorCause 12 0).earlyClose 1
  else b

/-- PACE_FAULT (R68). -/
def execPaceFault (bn : BenchIx) (t : Nat) (s : State) : Host.Outcome State Fault Refusal :=
  s.onBench bn fun b => (b.tick t).paceFault

/-- Measured pace is back at the minimum: R69 in RUN, R71 elsewhere (R68). -/
def Bench.paceRecovered (rate : Nat) (b : Bench) : Bench :=
  if 100 ≤ rate then
    Bench.restSupply (b.setRail fun r => { r with paceRate := rate, paceLow := false, paceFaulted := false })
  else b

/-- PACE_RECOVERED (R68). -/
def execPaceRecovered (bn : BenchIx) (t rate : Nat) (s : State) : Host.Outcome State Fault Refusal :=
  s.onBench bn fun b => (b.tick t).paceRecovered rate

/-- Junction temperature, 0.1 °C, above 110 °C: raises stop (R72). -/
def Bench.tjHigh (tj : Int) (b : Bench) : Bench :=
  let b' := b.setRail fun r => { r with tj := tj }
  if 1100 < tj && !b.rail.noRaise then
    Bench.earlyClose 2 (Bench.raise 2 6 0 0 0 (b'.setRail fun r => { r with noRaise := true }))
  else b'

/-- TJ_HIGH (R72). -/
def execTjHigh (bn : BenchIx) (t : Nat) (tj : Int) (s : State) : Host.Outcome State Fault Refusal :=
  s.onBench bn fun b => (b.tick t).tjHigh tj

/-- Below 105 °C raises are allowed again; a bench with PACE_LOW set then makes the move of R68 (DEDUCED), and its
1 ms at the ceiling counts from there, a case of its own for PACE_FAULT. -/
def Bench.tjRecovered (tj : Int) (b : Bench) : Bench :=
  let b := b.setRail fun r => { r with tj := tj, noRaise := r.noRaise && 1050 ≤ tj }
  if b.rail.paceLow && !b.rail.noRaise && b.rail.paceMv < b.rail.ceil then
    b.toCeiling.setRail fun r => { r with paceLowAt := r.up, paceFaulted := false }
  else b

/-- TJ_RECOVERED (R72). -/
def execTjRecovered (bn : BenchIx) (t : Nat) (tj : Int) (s : State) : Host.Outcome State Fault Refusal :=
  s.onBench bn fun b => (b.tick t).tjRecovered tj

/-- A write to TM_PACE_LIM (R77). DESIGN CHOICE (log 54): a supply held under R71 moves to REST_MV clipped to the new
limits, which need not be the nearer limit. -/
def Bench.writePaceLim (v : Word) (b : Bench) : Bench :=
  let v := v &&& 0x0FFF0FFF#32
  let fl := fld v 27 16
  let ce := fld v 11 0
  if ce < fl || fl < 660 || 900 < fl || ce < 660 || 900 < ce then b
  else
    let held := b.rail.paceLow && b.rail.paceMv = b.rail.ceil
    let r := { b.rail with paceLim := v }
    let mv := if held then ce else if b.bn.mode = .run || b.rail.paceLow then r.clip r.paceMv
              else r.clip (fld r.paceRest 11 0)
    b.setRail fun _ => { r with paceMv := mv, calm := if mv = r.paceMv then r.calm else 0 }

/-- TM_PACE_LIM_WRITE (R77). -/
def execTmPaceLimWrite (bn : BenchIx) (v : Word) (s : State) : Host.Outcome State Fault Refusal :=
  s.onBench bn (Bench.writePaceLim v)

/-- A write to TM_PACE_REST (R74, R77). -/
def Bench.writePaceRest (v : Word) (b : Bench) : Bench :=
  let m := fld v 11 0
  if m < 660 || 900 < m then b
  else Bench.restSupply (b.setRail fun r => { r with paceRest := at32 m 0 })

/-- TM_PACE_REST_WRITE (R77). -/
def execTmPaceRestWrite (bn : BenchIx) (v : Word) (s : State) : Host.Outcome State Fault Refusal :=
  s.onBench bn (Bench.writePaceRest v)

/-- TM_CNT_CLR (R74). -/
def execTmCntClr (bn : BenchIx) (v : Word) (s : State) : Host.Outcome State Fault Refusal :=
  s.onBench bn fun b => b.setRail fun r => { r with
    raiseCnt := if bitOf v 0 then 0 else r.raiseCnt, lowerCnt := if bitOf v 1 then 0 else r.lowerCnt,
    ceilCnt := if bitOf v 2 then 0 else r.ceilCnt, refLossCnt := if bitOf v 3 then 0 else r.refLossCnt }

end Sys2Proof.Machine
end

