-- ==== Sys2Proof/Machine/Time.lean ====
section
/-!
DEFINITION. Time rail, references, epoch sources (R48 to R66, R74 to R79) and what time lock does (R93, R94).
-/
namespace Sys2Proof.Machine

/-- Fields of MG_TIME_CTRL (R79). -/
def Hub.refMode (h : Hub) : Nat := fld h.timeCtrl 11 10
def Hub.ptmFallback (h : Hub) : Bool := bitOf h.timeCtrl 9
def Hub.headSrc (h : Hub) : Nat := fld h.timeCtrl 8 8
def Hub.syncRole (h : Hub) : Nat := fld h.timeCtrl 5 4
def Hub.epochSrc (h : Hub) : Nat := fld h.timeCtrl 2 0

/-- The calendar in ns since 2000-01-01 (R48, R89). -/
def Hub.calNs (h : Hub) : Nat := h.calNow * 1000000000 / 32768

/-- PTM_OK: a PTM dialogue within the last 10 ms (R75). -/
def Hub.ptmOk (h : Hub) : Bool := match h.ptmAt with | some a => h.up ≤ a + 10000000 | none => false

def Rail.good (r : Rail) (refB : Bool) : Bool := if refB then r.refBGood else r.refAGood

/-- The reference is permitted by REF_MODE (R57). -/
def permitted (mode : Nat) (refB : Bool) : Bool := mode < 2 || (mode == 3) == refB

/-- Some permitted reference is good. -/
def Rail.anyPermitted (mode : Nat) (r : Rail) : Bool :=
  (permitted mode false && r.refAGood) || (permitted mode true && r.refBGood)

/-- The reference a bench selects (R57): the preferred one if good, otherwise the other. -/
def Rail.choose (mode : Nat) (r : Rail) : Bool :=
  match mode with
  | 0 => !r.refAGood
  | 1 => r.refBGood
  | 2 => false
  | _ => true

/-- The rail leaves LOCKED or RELOCK, or is forced, into HOLDOVER (R56). DESIGN CHOICE (log 54): EPOCH_OK and SLEWING
clear there, for no marker is followed in HOLDOVER; the table names only the frequency held and the event. -/
def Bench.toHoldover (b : Bench) : Bench :=
  let was := b.rail.state
  if was = .holdover then b
  else
    let b := b.setRail fun r => { r with state := .holdover, holdAt := r.up, nearAt := none, epochOk := false, slewing := false }
    if was = .locked then b.errorCause 11 (at32 RailState.holdover.code 0) else b

/-- A reference input is decided lost (R22, R55, R56). -/
def Bench.refLost (mode : Nat) (refB : Bool) (b : Bench) : Bench :=
  if !b.rail.good refB then b
  else
    let b := b.setRail fun r =>
      if refB then { r with refBGood := false, lossBAt := some r.up, refLossCnt := inc r.refLossCnt }
      else { r with refAGood := false, lossAAt := some r.up, refLossCnt := inc r.refLossCnt }
    let b := (b.health 15).raise 2 (if refB then 1 else 0) 0 0 0
    let other := if refB then b.rail.lossAAt else b.rail.lossBAt
    let both := !b.rail.good (!refB) && (match other with | some a => b.rail.up ≤ a + 120 | none => false)
    let inUse := b.rail.state = .locked || b.rail.state = .relock
    if both then b.toHoldover
    else if inUse && b.rail.onB = refB then
      if mode < 2 && b.rail.good (!refB) then
        b.setRail fun r => { r with onB := !refB, nearAt := r.nearAt.map fun _ => r.up }
      else b.toHoldover
    else b

/-- REF_LOST (R22, R55, R56, R76). -/
def execRefLost (bn : BenchIx) (t : Nat) (refB : Bool) (s : State) : Host.Outcome State Fault Refusal :=
  s.onBench bn fun b => (b.tick t).refLost s.hub.refMode refB

/-- 10 ms have passed since the input was lost, and since WAKE began: it may become good (R55, R57). -/
def Rail.qualifies (refB : Bool) (r : Rail) : Bool :=
  max r.wakeAt ((if refB then r.lossBAt else r.lossAAt).getD 0) + 10000000 ≤ r.up

/-- A reference input is good again; in HOLDOVER and FREE a permitted one starts RELOCK (R55 to R57). -/
def Bench.refGood (mode : Nat) (refB : Bool) (b : Bench) : Bench :=
  if b.rail.good refB || !b.rail.qualifies refB then b
  else
  let b := b.setRail fun r => if refB then { r with refBGood := true } else { r with refAGood := true }
  if (b.rail.state = .holdover || b.rail.state = .free) && b.rail.anyPermitted mode then
    b.setRail fun r => { r with state := .relock, onB := r.choose mode, nearAt := none }
  else b

/-- REF_GOOD (R55 to R57). -/
def execRefGood (bn : BenchIx) (t : Nat) (refB : Bool) (s : State) : Host.Outcome State Fault Refusal :=
  s.onBench bn fun b => (b.tick t).refGood s.hub.refMode refB

/-- The newer valid copy of the life block (R93). -/
def Bn.lifeRead (n : Bn) : LifeCopy :=
  match n.lifeA, n.lifeB with
  | some a, some c => if a.seq < c.seq then c else a
  | some a, none => a
  | none, some c => c
  | none, none => {}

/-- A life-block write: the older copy (or one that fails its check) takes the new counts (R93). -/
def Bn.lifeWrite (l : LifeCopy) (n : Bn) : Bn :=
  let l := { l with seq := n.lifeRead.seq + 1 }
  match n.lifeA, n.lifeB with
  | some a, some c => if a.seq < c.seq then { n with life := l, lifeA := some l } else { n with life := l, lifeB := some l }
  | some _, none => { n with life := l, lifeB := some l }
  | none, _ => { n with life := l, lifeA := some l }

/-- A copy of the life block that fails its check is ignored (R93): bit 0 says that copy A passes, bit 1 copy B. -/
def Bn.lifeCheck (ok : BitVec 2) (n : Bn) : Bn :=
  { n with lifeA := if bitOf ok 0 then n.lifeA else none, lifeB := if bitOf ok 1 then n.lifeB else none }

/-- Time lock counts the start in the life block (R93). -/
def Bn.lifeCount (ok : BitVec 2) (n : Bn) : Bn :=
  if n.lifeDone then n
  else
    let n := n.lifeCheck ok
    let l := n.lifeRead
    let l := if n.start = 0 then { l with powerCycles := inc l.powerCycles } else { l with starts := inc l.starts }
    { n.lifeWrite l with lifeDone := true }

/-- Forces at bench start (R94): kept if FORCE_KEEP was 1 and the snapshot's force-table pages pass. -/
def Bench.startForces (pagesOk : Bool) (b : Bench) : Bench :=
  let keep := bitOf b.bn.modeCfg 0
  match b.snap with
  | some sn =>
    if keep && pagesOk then { b with pe := { b.pe with forces := Tbl.mapAll {} (fun _ f => { f with since := 0 }) sn.forces } }
    else { b with pe := { b.pe with forces := [] },
                  bn := { b.bn with selftest := if keep then putBit b.bn.selftest 8 true else b.bn.selftest } }
  | none => { b with pe := { b.pe with forces := [] },
                     bn := { b.bn with selftest := if keep then putBit b.bn.selftest 8 true else b.bn.selftest } }

/-- What comes about at time lock (R90): the rail set once, life block, forces. -/
def Bench.timeLock (v : Nat) (st : RailState) (checks : LockChecks) (b : Bench) : Bench :=
  let b := b.setRail fun r => { r with now := v, state := st, offset := 0 }
  (Bench.startForces checks.forcePages { b with bn := b.bn.lifeCount checks.life }).canWake

/-- 100 ms of WAKE without a good permitted reference (R56): the rail is set from the epoch source, or the calendar,
and enters FREE, which sets FREE_ENTERED (R76, DEDUCED: R56's own row does not name the event). -/
def Bench.lockTimeout (mode v : Nat) (checks : LockChecks) (b : Bench) : Bench :=
  if b.bn.mode = .wake && b.rail.state = .unlocked && b.rail.wakeAt + 100000000 ≤ b.rail.up && !b.rail.anyPermitted mode then
    Bench.healthSev 2 (Bench.raise 2 2 0 0 0 (b.timeLock v .free checks))
  else b

/-- TIME_LOCK_TIMEOUT (R56, R57, R93, R94). DESIGN CHOICE (log 54): with EPOCH_SRC other than 0 the module reference
rail counts as the epoch source, also before its source has delivered anything; with 0 it is the calendar. -/
def execTimeLockTimeout (bn : BenchIx) (t : Nat) (checks : LockChecks) (s : State) :
    Host.Outcome State Fault Refusal :=
  s.onBench bn fun b =>
    (b.tick t).lockTimeout s.hub.refMode (if s.hub.epochSrc = 0 then s.hub.calNs else s.hub.mref) checks

/-- 1 s of HOLDOVER without a good permitted reference (R56). -/
def Bench.freeEntered (mode : Nat) (b : Bench) : Bench :=
  if b.rail.state = .holdover && b.rail.holdAt + 1000000000 ≤ b.rail.up && !b.rail.anyPermitted mode then
    Bench.healthSev 2 (Bench.raise 2 2 0 0 0 (b.setRail fun r => { r with state := .free }))
  else b

/-- FREE_ENTERED (R56, R76). -/
def execFreeEntered (bn : BenchIx) (t : Nat) (s : State) : Host.Outcome State Fault Refusal :=
  s.onBench bn fun b => (b.tick t).freeEntered s.hub.refMode

/-- 10 ms within ±2 ns in RELOCK (R56). -/
def Bench.relockComplete (b : Bench) : Bench :=
  match b.rail.nearAt with
  | some a =>
    if b.rail.state = .relock && a + 10000000 ≤ b.rail.up then
      b.setRail fun r => { r with state := .locked, epochOk := true }
    else b
  | none => b

/-- RELOCK_COMPLETE (R56). -/
def execRelockComplete (bn : BenchIx) (t : Nat) (s : State) : Host.Outcome State Fault Refusal :=
  s.onBench bn fun b => (b.tick t).relockComplete

/-- The slew toward the module reference rail (R64): offset / 5 ms, limited to 200 ppm, in ppb. -/
def slewPpb (offset : Int) : Int := clipInt (-200000) 200000 (-(offset * 200))

/-- Steering by an epoch marker of value m (R64): EPOCH_FAR is raised when the offset comes to exceed 100 µs in
RUN, SHADOW or HOLD, or exceeds it at the first marker in such a mode. -/
def Bench.steer (m : Nat) (b : Bench) : Bench :=
  let off : Int := (b.rail.now : Int) - (m : Int)
  let near := off.natAbs ≤ 2
  let far := 100000 < off.natAbs && (b.bn.mode = .run || b.bn.mode = .shadow || b.bn.mode = .hold)
  let new := far && !b.rail.far
  let b := b.setRail fun r => { r with
    offset := off, freqAdj := slewPpb off, slewing := off ≠ 0, far := far,
    nearAt := if near then (match r.nearAt with | some a => some a | none => some r.up) else none,
    epochOk := if r.state = .locked then near else r.epochOk }
  if new then b.raise 2 4 0 0 0 else b

/-- The rail takes a value outright, as TIME_SET gives it (R50, R531): no offset is left. -/
def Rail.taken (v : Nat) (r : Rail) : Rail :=
  { r with now := v, offset := 0, freqAdj := 0, slewing := false, far := false, epochOk := r.epochOk || r.state = .locked }

def Bench.railTaken (v : Nat) (b : Bench) : Bench :=
  { b with rail := b.rail.taken v, qc := { b.qc with accAt := none } }

/-- An epoch marker (R50, R56, R57, R64, R531): a value of TIME_SET is taken at the next one only, and in CONFIGURE.
DESIGN CHOICE (log 54): a marker before any permitted reference is good does not count as "epoch received"; time
lock waits for the next. -/
def Bench.epochMarker (mode m : Nat) (checks : LockChecks) (b : Bench) : Bench :=
  let take := b.rail.takeNext && b.bn.mode = .configure
  let b := b.setRail fun r => { r with takeNext := false }
  match b.rail.state with
  | .unlocked =>
    if b.rail.anyPermitted mode then
      let b := b.setRail fun r => { r with onB := r.choose mode, epochOk := true }
      b.timeLock m .locked checks
    else b
  | .locked | .relock => if take then b.railTaken m else b.steer m
  | .holdover | .free => b

/-- EPOCH_MARKER (R64): m is the module reference rail's value that the marker carries; which copies of the life block
pass their checks (R93). -/
def execEpochMarker (bn : BenchIx) (t m : Nat) (checks : LockChecks) (s : State) :
    Host.Outcome State Fault Refusal :=
  State.onBench bn (fun b => (b.tick t).epochMarker s.hub.refMode m checks) { s with hub := s.hub.tick m }

/-- A marker and its frame reach a member (R59, R60): the frame names the rail value of the edge as it left,
so at the receiver the reference rail stands the cable delay later. -/
def Hub.syncMarker (m : Nat) (h : Hub) : Hub :=
  if h.syncRole = 1 then
    { h with syncOk := true, syncAt := h.up, syncDown := false,
             mref := if h.epochSrc = 1 then m + h.syncComp.toNat / 100 else h.mref }
  else h

/-- SYNC_MARKER (R59, R60). -/
def execSyncMarker (t m : Nat) (s : State) : Host.Outcome State Fault Refusal :=
  .next { s with hub := (s.hub.tick t).syncMarker m }

/-- Every bench changed by f. -/
def State.mapBenches (f : Bench → Bench) (s : State) : State :=
  (List.finRange 16).foldl (fun s n => s.putBench n (f (s.bench n))) s

/-- No valid marker for 5 ms since the last, or since the module became a member (R62): SYNC_OK clears, SYNC_LOST on
every bench. -/
def State.syncLost (s : State) : State :=
  let h := s.hub
  if h.syncRole = 1 && !h.syncDown && h.syncAt + 5000000 ≤ h.up then
    State.mapBenches (Bench.raise 2 3 0 0 0) { s with hub := { h with syncOk := false, syncDown := true } }
  else s

/-- SYNC_LOST (R62, R76). -/
def execSyncLost (t : Nat) (s : State) : Host.Outcome State Fault Refusal :=
  .next (State.syncLost { s with hub := s.hub.tick t })

/-- PTM steers the module reference rail (R59, EPOCH_SRC): also that of a member whose markers are missing while
PTM_FALLBACK is 1 (R62). -/
def Hub.byPtm (h : Hub) : Bool :=
  h.epochSrc = 2 || (h.epochSrc = 1 && h.syncRole = 2 && h.headSrc = 0) ||
  (h.epochSrc = 1 && h.syncRole = 1 && h.syncDown && h.ptmFallback)

/-- A PTM dialogue completes with the root time m (R63): the host has enabled PTM (MG_LINK.PTM_EN, R507). -/
def Hub.ptmDialogue (m : Nat) (h : Hub) : Hub :=
  { h with ptmAt := some h.up, mref := if h.byPtm then m else h.mref, mgLink := putBit h.mgLink 0 true }

/-- PTM_DIALOGUE (R63). -/
def execPtmDialogue (t m : Nat) (s : State) : Host.Outcome State Fault Refusal :=
  .next { s with hub := (s.hub.tick t).ptmDialogue m }

/-- TIME_SET is accepted with EPOCH_SRC 3, or with EPOCH_SRC 1, role head and HEAD_SRC 1 (R531). -/
def Hub.timeSettable (h : Hub) : Bool :=
  h.epochSrc = 3 || (h.epochSrc = 1 && h.syncRole = 2 && h.headSrc = 1)

/-- TIME_SET takes effect (R50, R531). -/
def State.timeSet (c : Cmd) (v : Nat) (s : State) : State :=
  let s := { s with hub := { s.hub with mref := v } }
  let s := State.mapBenches (fun b =>
    if b.ix ≠ c.bench && b.bn.mode = .configure then b.setRail fun r => { r with takeNext := true } else b) s
  s.putBench c.bench (Bench.complete c .ok v ((s.bench c.bench).railTaken v))

/-- TIME_SET (R49 to R51, R531): CONFIGURE only. -/
def execTimeSet (c : Cmd) (lo hi : Word) (s : State) : Host.Outcome State Fault Refusal :=
  let b := s.bench c.bench
  if !b.issued (.timeSet c lo hi) then .next s
  else if b.bn.bootRom || b.bn.mode ≠ .configure || !s.hub.timeSettable then
    s.onBench c.bench (Bench.refuse c .badState)
  else .next (s.timeSet c (cat64 lo hi))

/-- TIME_READ (R531). -/
def execTimeRead (c : Cmd) (s : State) : Host.Outcome State Fault Refusal :=
  s.onBench c.bench (Bench.accept (.timeRead c) c modesAny fun b => b.complete c .ok b.acc)

/-- Operating hours grow by one unit of 0.1 h while VIN is good (R93). -/
def Bench.opHours (vin : Bool) (b : Bench) : Bench :=
  if vin then
    let l := b.bn.lifeRead
    { b with bn := b.bn.lifeWrite { l with opHours := inc l.opHours } }
  else b

/-- OP_HOURS_TICK (R93). -/
def execOpHoursTick (bn : BenchIx) (t : Nat) (s : State) : Host.Outcome State Fault Refusal :=
  s.onBench bn fun b => (b.tick t).opHours s.hub.vinGood

end Sys2Proof.Machine
end

