-- ==== Sys2Proof/Machine/Haul.lean ====
section
/-!
DEFINITION. Haul remote stations (R391 to R414).
-/
namespace Sys2Proof

/-! ### The payload of a received frame (R395, R408) -/

/-- A little-endian number of n bytes of the payload. -/
def UpFrame.num (f : UpFrame) (offset n : Nat) : Nat :=
  ((f.payload.drop offset).take n).foldr (fun (x : Byte) a => x.toNat + 256 * a) 0
/-- Bytes of the frame from its destination address to its FCS, the tag counted. -/
def UpFrame.bytes (f : UpFrame) : Nat := 22 + f.payload.length
def UpFrame.ver (f : UpFrame) : Nat := f.num 0 1 / 64
def UpFrame.typ (f : UpFrame) : Nat := f.num 0 1 / 16 % 4
def UpFrame.outsSafe (f : UpFrame) : Bool := f.num 0 1 % 2 = 1
def UpFrame.lateLatch (f : UpFrame) : Bool := f.num 0 1 / 2 % 2 = 1
def UpFrame.station (f : UpFrame) : Nat := f.num 1 1
def UpFrame.seq (f : UpFrame) : Nat := f.num 2 2
def UpFrame.latch (f : UpFrame) : Nat := f.num 4 8
def UpFrame.rxt (f : UpFrame) : Nat := f.num 12 8
def UpFrame.txt (f : UpFrame) : Nat := f.num 20 8
/-- The first n slots of an up cycle frame. -/
def UpFrame.slots (f : UpFrame) (n : Nat) : List Word := (List.range n).map fun i => BitVec.ofNat 32 (f.num (28 + 4 * i) 4)
/-- The payload holds n slots: a header, the slots and zero padding to the Ethernet minimum. -/
def UpFrame.holds (f : UpFrame) (n : Nat) : Bool := f.payload.length = max 42 (28 + 4 * n)
/-- Length and data words of a service frame. -/
def UpFrame.len (f : UpFrame) : Nat := f.num 2 2
def UpFrame.data (f : UpFrame) : List Word :=
  (List.range ((f.len + 3) / 4)).map fun i => BitVec.ofNat 32 (f.num (4 + 4 * i) (min 4 (f.len - 4 * i)))

end Sys2Proof
namespace Sys2Proof.Machine

/-! ### The payload of a sent frame (R395, R396, R408) -/

/-- A number as n bytes, the lowest first. -/
def leBytes (n v : Nat) : List Byte := (List.range n).map fun i => BitVec.ofNat 8 (v >>> (8 * i))
/-- Zero bytes up to the Ethernet minimum. -/
def padded (l : List Byte) : List Byte := l ++ List.replicate (42 - l.length) 0
/-- Byte 0: VER = 1, TYPE and FLAGS. -/
def frameByte0 (typ flags : Nat) : Byte := BitVec.ofNat 8 (64 + 16 * typ + flags)
/-- The payload bytes of a frame. -/
def HaulFrame.payload : HaulFrame → List Byte
  | .down station seq safe init arrive apply nlatch slots =>
    padded (frameByte0 0 (b2n safe + 2 * b2n init) :: leBytes 1 station ++ leBytes 2 seq ++ leBytes 8 arrive ++ leBytes 8 apply ++
      leBytes 8 nlatch ++ (slots.map fun w => leBytes 4 w.toNat).flatten)
  | .service station data len =>
    padded (frameByte0 2 0 :: leBytes 1 station ++ leBytes 2 len ++ ((data.map fun w => leBytes 4 w.toNat).flatten.take len))

def Bench.haulEn (b : Bench) : Bool := bitOf (b.cfg (haulAt 8)) 31
def Bench.haulMisslim (b : Bench) : Nat := fld (b.cfg (haulAt 8)) 23 20
def Bench.haulRcnt (b : Bench) : Nat := fld (b.cfg (haulAt 8)) 19 12
def Bench.haulMac (b : Bench) : Nat := (b.cfg (haulAt 0x14)).toNat + fld (b.cfg (haulAt 0x18)) 15 0 * 2 ^ 32
/-- The MAC of a station entry (R414). -/
def Bench.stationMac (b : Bench) (s : Nat) : Nat := (b.sw s 4).toNat + fld (b.sw s 8) 15 0 * 2 ^ 32
/-- A frame to a station, with its addresses, tag and EtherType (R391, R392). -/
def Bench.haulTo (b : Bench) (s : Nat) (body : HaulFrame) : HaulSent :=
  { dst := b.stationMac s
    src := b.haulMac
    vid := fld (b.cfg (haulAt 0x10)) 11 0
    pcp := fld (b.cfg (haulAt 0x10)) 15 13
    etype := fld b.ha.etype 15 0
    body := body }
/-- Input and output ranges of a station entry: first point and count (R414). -/
def Bench.stationIn (b : Bench) (s : Nat) : List Nat :=
  (List.range (fld (b.sw s 0xC) 8 0)).map (· + fld (b.sw s 0xC) 29 16)
def Bench.stationOut (b : Bench) (s : Nat) : List Nat :=
  (List.range (fld (b.sw s 0x10) 8 0)).map (· + fld (b.sw s 0x10) 29 16)
def Bench.stationAxes (b : Bench) (s : Nat) : List Nat :=
  (List.range (fld (b.sw s 0x14) 5 0)).map (· + fld (b.sw s 0x14) 21 16)
/-- Stations with an entry, in station order. -/
def Bench.stations (b : Bench) : List Nat := (List.range 64).filter b.stationEn
/-- The station whose inputs hold a point. -/
def Bench.inputStation (b : Bench) (p : Nat) : Option Nat :=
  b.stations.find? fun s => fld (b.sw s 0xC) 29 16 ≤ p && p < fld (b.sw s 0xC) 29 16 + fld (b.sw s 0xC) 8 0
/-- The latest latch instant of a station at or before a rail value (R393). -/
def Bench.latchAt (b : Bench) (s t : Nat) : Option Nat :=
  let m := b.stationMult s
  if b.haulBase = 0 || m = 0 || t < b.haulPhase then none
  else
    let k := (t - b.haulPhase) / b.haulBase
    let back := (k + m - fld (b.sw s 0) 7 0 % m) % m
    if k < back then none else some (b.haulPhase + (k - back) * b.haulBase)
def Bench.stationHas (b : Bench) (s : Nat) (st : StationState) : Bool := (b.station s).state = st

/-! ### Inputs: groups, substitution, image copies (R161 to R164, R402 to R404) -/

/-- Substitution of one point (R163): value or last valid value, SUBST set, VALID clear. -/
def Bench.substPoint (stamp : Time) (b : Bench) (p : Nat) : Bench :=
  let sub := (b.pe.cur.map (·.subst)).getD [] |>.find? (fun x => x.point == p)
  let v := match sub with | some x => if x.last then b.liveOf p else x.value | none => 0
  b.writePoint .haul p v (putBit 0 qSubst true) stamp
def Bench.substStation (s : Nat) (stamp : Time) (b : Bench) : Bench := (b.stationIn s).foldl (Bench.substPoint stamp) b

/-- The station whose group an input point belongs to, where the station is served. -/
def Bench.groupOf (b : Bench) (p : Nat) : Option Nat :=
  if (b.point p).source ≠ 2 then none
  else match b.inputStation p with
    | some s => if b.stationHas s .unused || b.stationHas s .disabled then none else some s
    | none => none

/-- What an input image of the instant `ik` takes for a point (R162): STALE where the group of the station's latest
latch instant has not arrived. -/
def Bench.imagePoint (b : Bench) (ik : Time) (p : Nat) : Point :=
  let e := b.point p
  match b.groupOf p with
  | some s => if (b.station s).group ≠ b.latchAt s ik then { e with quality := qNorm (putBit e.quality qStale true) } else e
  | none => e

/-- The group of a valid up frame (R402), which the input images of instants not before its latch still take while their
copies run (R162). -/
def Bench.writeGroup (s latch : Nat) (slots : List Word) (b : Bench) : Bench :=
  let b := ((b.stationIn s).zip slots).foldl (fun b e => b.writePoint .haul e.1 e.2 qLive latch) b
  if b.bn.mode = .run then
    let b := b.setStation s { b.station s with group := some latch }
    ((b.stationIn s).filter fun p => b.groupOf p = some s).foldl (fun b p => b.lateImage p latch fun ik => b.imagePoint ik p) b
  else b

/-- A station that came back, and whose complete group an image of the instant `ik` holds (R164, R405). -/
def Station.returned (ik : Time) (x : Station) : Bool :=
  x.waiting && x.state = .operational && (match x.group with | some g => g ≤ ik | none => false)

/-- A cyclic task's image is copied: stations that came back learn its first cycle with a complete group (R164, R405). -/
def Bench.noteImages (task : Fin 16) (ik ok : Time) (b : Bench) : Bench :=
  b.stations.foldl (fun b s =>
    let x := b.station s
    if x.returned ik && !x.seen.any (fun e => e.1 = task.val) then
      b.setStation s { x with seen := x.seen ++ [(task.val, ok)] }
    else b) b

/-- The error task's image is copied at its dispatch; the output instant is known at its end of logic (R159, R164). -/
def Bench.noteErrImage (ik : Time) (b : Bench) : Bench :=
  b.stations.foldl (fun b s =>
    let x := b.station s
    if x.returned ik && !x.seen.any (fun e => e.1 = 0) then b.setStation s { x with errSeen := true } else b) b
def Bench.noteErrOutputs (ok : Time) (b : Bench) : Bench :=
  b.stations.foldl (fun b s =>
    let x := b.station s
    if x.errSeen then b.setStation s { x with errSeen := false, seen := x.seen ++ [(0, ok)] } else b) b

/-- The task whose output map holds a point: a cyclic task's number, 0 for the error task. -/
def Bench.writerTask (b : Bench) (p : Nat) : Option Nat :=
  match (b.pe.cur.map (·.tasks)).getD [] |>.find? (fun t => t.outputs.contains p) with
  | some t => some t.task.val
  | none => match b.pe.cur.bind (·.err) with
    | some e => if e.outputs.contains p then some 0 else none
    | none => none

/-- The output instant of a program point's first cycle that saw the group has been written (R405). -/
def Bench.outputSeen (b : Bench) (s p : Nat) : Bool :=
  if (b.point p).source ≠ 4 then true
  else match b.writerTask p with
    | some k => match (b.station s).seen.find? (fun e => e.1 == k) with
      | some e => e.2 ≤ (b.point p).stamp
      | none => false
    | none => true

/-! ### Cuts (R393, R395 to R400, R405) -/

/-- A cycle of a cyclic task with an output instant at or before `apply` has not reached its end of logic, or has not
begun (R142, R149). -/
def Bench.cyclePending (b : Bench) (t : TaskImg) (apply : Nat) : Bool :=
  let c := b.pe.tasks[t.task]
  let r := b.pe.runs[t.task]
  let next := c.nextInstant (max b.rail.now b.pe.startAt)
  (r.active && r.ok ≤ apply) || (c.en && c.p ≠ 0 && (r.ik < next || b.rail.now < next) && next + c.off * 1000 ≤ apply)

/-- A loop's value for an instant at or before `apply` is not released yet: of the update in progress, or of one that
still begins (R214, R216). -/
def Bench.loopPending (b : Bench) (n apply : Nat) : Bool :=
  let l := b.le.loops.find? (fun e => e.1 == n) |>.map (·.2) |>.getD {}
  let w := b.cfg (0x80000 + 64 * n)
  let per := fld w 19 0 * 10000
  let ph := fld (b.cfg (0x80000 + 64 * n + 4)) 19 0 * 10000
  let last := apply - (apply - ph) % per
  (match l.upd with | some u => u.out.isSome && u.due ≤ apply | none => false) ||
  (l.st.mode ≠ .off && per ≠ 0 && ph ≤ apply && b.pe.startAt + per ≤ last && b.rail.now + 2000 < last)

/-- The newest value for an apply instant is not yet present at the cut (R399): of a cycle, of a run of the error task
or of a loop update whose output instant lies at or before it. -/
def Bench.outputPending (b : Bench) (p apply : Nat) : Bool :=
  match (b.point p).source with
  | 4 => (match b.pe.cur with
    | some i => i.tasks.any (fun t => t.outputs.contains p && b.cyclePending t apply) ||
        (match i.err with
         | some e => e.outputs.contains p && b.pe.runs[(0 : Fin 16)].active && b.pe.errOutput b.rail.now ≤ apply
         | none => false)
    | none => false)
  | 5 => (List.range 512).any fun n =>
      fld (b.cfg (0x80000 + 64 * n)) 19 0 ≠ 0 && fld (b.cfg (0x80000 + 64 * n + 8)) 29 16 = p && b.loopPending n apply
  | _ => false

/-- The newest value with a stamp at or before an apply instant (R399): one staged for an output instant, under the force
that is due by then, or the last one handed over. -/
def Bench.newestFor (b : Bench) (p apply : Nat) : Option Word :=
  let staged := b.pe.staged.foldl (fun (m : Option Staged) x =>
    if x.point = p && x.due ≤ apply && (match m with | some y => y.due ≤ x.due | none => true) then some x else m) none
  match staged with
  | some x => some (((b.settleForces p x.due).forceOn p).getD x.value)
  | none => match (b.ha.out.find? (fun e => e.1 == p)).map (·.2) with
    | some (v, st) => if st ≤ apply then some v else none
    | none => none

/-- The value a slot carries at the cut of an apply instant; none where the one it should carry is not present (R399, R430). -/
def Bench.cutValue (b : Bench) (p apply : Nat) : Option Word :=
  if b.outputPending p apply then none else b.newestFor p apply

/-- The slot word of a value: in the point's FORMAT, a BOOL as 0 or 1 (R396). -/
def slotWord (format : Nat) (v : Word) : Word := if format = 3 then BitVec.ofNat 32 (b2n (boolOf v)) else fmtWord format v

/-- One point slot of a down frame (R396, R399). -/
def Bench.pointSlot (apply : Nat) (r : List Word × Bench) (p : Nat) : List Word × Bench :=
  let b := r.2
  match b.cutValue p apply with
  | none =>
    let b := b.markPoint p fun q => putBit q qMiss true
    let last := match b.ha.lastSent.find? (fun e => e.1 == p) with | some e => e.2 | none => 0
    (r.1 ++ [last], { b with ha := { b.ha with outLate := inc b.ha.outLate } })
  | some w =>
    let v := slotWord (b.point p).format w
    (r.1 ++ [v], { b with ha := { b.ha with lastSent := Tbl.insert p v b.ha.lastSent } })

/-- The two slots of an axis set-point (R396, R399). -/
def Bench.axisSlot (apply : Nat) (r : List Word × Bench) (a : Nat) : List Word × Bench :=
  let b := r.2
  let x := b.axis a
  let b : Bench := if x.busy && x.spAt < apply then { b with ha := { b.ha with outLate := inc b.ha.outLate } } else b
  (r.1 ++ [ofS x.pos, at32 x.pfrac 16], b.setAxis a { x with sentP := some x.fine })

/-- The down frame of one station (R395, R397, R400, R404, R405); txb is its send time. Without a link the schedule goes
on and the frame is lost. -/
def Bench.downFrame (apply start txb s : Nat) (b : Bench) : Bench :=
  let x := b.station s
  let denied := !bitOf (b.guard (0x160 + 4 * (s / 32))) (s % 32)
  let back := !x.waiting || (b.stationOut s).all (b.outputSeen s)
  let safe := x.state ≠ .operational || b.bn.mode ≠ .run || denied || !back
  let x := { x with waiting := x.waiting && !back, guarded := denied, seq := (x.seq + 1) % 65536 }
  let b := b.setStation s x
  let b := if denied then
      let b : Bench := { b with ha := { b.ha with guardCnt := inc b.ha.guardCnt } }
      b.guardDeny.raise 13 4 (BitVec.ofNat 32 s) 0 0
    else b
  let (slots, b) := if safe then ([], b)
    else (b.stationAxes s).foldl (Bench.axisSlot apply) ((b.stationOut s).foldl (Bench.pointSlot apply) ([], b))
  let init := x.state = .init || x.state = .lost
  let next := if b.rail.now < start then start else start + b.haulBase * b.stationMult s
  let f := b.haulTo s (.down s x.seq safe init (txb + x.delay) apply next slots)
  let sent : SentFrame := { seq := x.seq, txb := txb, apply := apply, carried := !safe }
  let b := b.setStation s { b.station s with sent := (sent :: x.sent).take 5 }
  if b.ha.link then { b with ha := { b.ha with tx := b.ha.tx ++ [f] } } else b

/-- At most one service frame per base cycle, after the down burst; packets before it may be discarded (R408). -/
def Bench.haulService : Nat → Bench → Bench
  | 0, b => b
  | k + 1, b =>
  let svc := b.cfg (haulAt 0x28)
  let n : Fin 32 := mkIx 31 (fld svc 4 0)
  let f := b.fifo n
  let cyc := (b.rail.now - b.haulPhase) / b.haulBase
  if !bitOf svc 16 || !b.ha.link || !f.en || f.cons ≠ 2 || f.pkts = 0 || b.ha.svcCycle = some cyc then b
  else
    let ws := f.firstPacket
    let b := b.setFifo n Fifo.dropPacket
    let s := fld (ws.headD 0) 5 0
    let len := fld (ws.headD 0) 31 16
    let denied := !bitOf (b.guard (0x168 + 4 * (s / 32))) (s % 32)
    if 1496 < len || !b.stationEn s || b.stationHas s .disabled || denied then
      let b : Bench := { b with ha := { b.ha with svcDrop := inc b.ha.svcDrop } }
      let b := if denied then b.guardDeny else b
      Bench.haulService k (b.raise 13 5 (BitVec.ofNat 32 s) 0 0)
    else { b with ha := { b.ha with svcCycle := some cyc, tx := b.ha.tx ++ [b.haulTo s (.service s (ws.drop 1) len)] } }

/-- A cut (R393, R400, R410): the frames of the stations served in the base cycle, then a service frame. -/
def Bench.haulCut (txs : List Nat) (b : Bench) : Bench :=
  let apply := b.rail.now + b.haulLead
  let start := apply - b.haulAof
  let cycle := b.bn.mode = .run || b.bn.mode = .hold
  if !b.haulEn || b.haulBase = 0 || apply < b.haulAof + b.haulPhase || (start - b.haulPhase) % b.haulBase ≠ 0 then b
  else
    let b := if cycle then
        let b : Bench := { b with ha := { b.ha with cycling := true } }
        let l := b.stations.filter fun s => b.servedAt s start && !b.stationHas s .disabled
        (l.zip ((List.range l.length).map fun i => txs.getD i b.rail.now)).foldl
          (fun b e => b.downFrame apply start e.2 e.1) b
      else b
    if cycle || b.bn.mode = .configure then
      b.haulService ((b.fifo (mkIx 31 (fld (b.cfg (haulAt 0x28)) 4 0))).pkts + 1) else b

/-- HAUL_CUT (R393): txs are the send times of the down frames, in station order. -/
def execHaulCut (bn : BenchIx) (t : Nat) (txs : List Nat) (s : State) : Host.Outcome State Fault Refusal :=
  s.onBench bn fun b => (b.tick t).haulCut txs

/-! ### Reception (R392, R397, R401 to R404, R408) -/

def Bench.haulDrop (b : Bench) : Bench := { b with ha := { b.ha with rxDrop := inc b.ha.rxDrop } }

/-- R392. -/
def Bench.frameOk (b : Bench) (f : UpFrame) : Bool :=
  f.tagged && f.vid = fld (b.cfg (haulAt 0x10)) 11 0 && f.etype = fld b.ha.etype 15 0 && f.fcsOk && 64 ≤ f.bytes && f.bytes ≤ 1522 &&
  f.dst = b.haulMac && f.ver = 1

/-- A service frame received (R408). -/
def Bench.serviceRx (f : UpFrame) (b : Bench) : Bench :=
  let n : Fin 32 := mkIx 31 (fld (b.cfg (haulAt 0x28)) 12 8)
  let q := b.fifo n
  let ws := (at32 f.len 16 ||| at32 f.station 0) :: f.data
  let stored := q.en && q.prod = 2 && ws.length ≤ q.free
  let b := b.fifoPacket n 2 ws
  let w := b.cfg (haulAt 8)
  if stored && bitOf w 11 then
    (b.post { queue := mkIx 7 (fld w 10 8), src := 4, fref := true, fifo := n.val, handler := fld w 7 0,
              arg0 := BitVec.ofNat 32 f.station, arg1 := BitVec.ofNat 32 f.len }).2
  else b

/-- The delay sample of a valid up frame that echoes a down frame sent within the last four station cycles (R397, R404). -/
def Bench.delaySample (f : UpFrame) (b : Bench) : Bench :=
  let x := b.station f.station
  match x.sent.find? (fun d => d.seq == f.seq) with
  | none => b
  | some d =>
    if d.txb + 4 * (b.haulBase * b.stationMult f.station) < b.rail.now then b
    else
      let sample := roundDiv (((b.rail.now : Int) - d.txb) - ((f.txt : Int) - f.rxt)) 2
      let early := x.state = .init || x.state = .lost
      let l := (sample :: x.samples).take 8
      let first := x.first.getD sample
      let mean := if early then first else roundDiv (l.foldl (· + ·) 0) l.length
      let copied := x.copied && l.length < 8
      let dl := if copied then x.delay else (max 0 mean).toNat
      let b := b.setStation f.station { x with samples := l, first := some first, delay := dl, copied := copied }
      if 10000 < dl then b.raise 13 3 (BitVec.ofNat 32 f.station) 0 0 else b

/-- A valid up frame (R401, R402, R404). -/
def Bench.validFrame (f : UpFrame) (b : Bench) : Bench :=
  let s := f.station
  let b := b.delaySample f
  let slots := f.slots (b.stationIn s).length
  let x := { b.station s with latch := some f.latch, outsSafe := f.outsSafe }
  match x.state with
  | .operational => (b.setStation s x).writeGroup s f.latch slots
  | .init | .lost =>
    if b.haulRcnt ≤ x.good + 1 then
      let b := b.setStation s { x with state := .operational, good := 0, missRun := 0, waiting := true, seen := [], errSeen := false }
      let b := b.writeGroup s f.latch slots
      let w := BitVec.ofNat 32 s
      (b.raise 13 2 w w 0).errorCause 1 w
    else b.setStation s { x with good := x.good + 1 }
  | _ => b

/-- A frame arrives (R392, R401, R408, R410). -/
def Bench.upFrame (f : UpFrame) (b : Bench) : Bench :=
  if !b.haulEn then b
  else if !b.frameOk f then b.haulDrop
  else if b.bn.mode = .wake || b.bn.mode = .shadow then b
  else if f.typ = 3 then b.serviceRx f
  else if b.bn.mode = .configure then b
  else
    let s := f.station
    let l := b.latchAt s b.rail.now
    let inTime := match l with | some l => b.rail.now ≤ l + b.haulRxwin | none => false
    if f.typ = 1 && b.stationEn s && !b.stationHas s .disabled && l = some f.latch && inTime &&
        f.holds (b.stationIn s).length && !f.lateLatch && (b.station s).latch ≠ some f.latch then
      b.validFrame f
    else b.haulDrop

/-- UP_FRAME (R392, R401, R408): t is the reception time RXB at the SFD. -/
def execUpFrame (bn : BenchIx) (t : Nat) (f : UpFrame) (s : State) : Host.Outcome State Fault Refusal :=
  s.onBench bn fun b => (b.tick t).upFrame f

/-! ### Arrival deadlines (R403, R404) -/

/-- The down frame for the preceding apply instant carried outputs (R403). -/
def Station.carriedBefore (x : Station) (latch : Nat) : Bool :=
  match x.sent.find? (fun d => d.apply ≤ latch) with | some d => d.carried | none => false

/-- A station becomes LOST (R302, R404); in HOLD the axes stand as the snapshot has them (R96, R305). -/
def Bench.stationLost (s latch : Nat) (b : Bench) : Bench :=
  let b := (b.setStation s { b.station s with state := .lost, good := 0, samples := [], first := none, copied := false }).health 7
  let b := b.substStation s latch
  let w := BitVec.ofNat 32 s
  let b := (b.raise 13 1 w w 0).errorCause 0 w
  if b.bn.mode = .run then b.axesLost s else b

/-- The deadline of one station (R403, R404). -/
def Bench.deadline (latch s : Nat) (b : Bench) : Bench :=
  let x := b.station s
  match x.state with
  | .operational =>
    if x.latch ≠ some latch || (x.outsSafe && x.carriedBefore latch) then
      let b : Bench := { b with ha := { b.ha with missCnt := inc b.ha.missCnt } }
      let b := b.health 6
      let b := b.setStation s { x with missRun := x.missRun + 1 }
      let b := (b.stationIn s).foldl (fun b p => b.markPoint p fun q => putBit q qStale true) b
      if b.haulMisslim ≤ x.missRun + 1 then b.stationLost s latch else b
    else b.setStation s { x with missRun := 0 }
  | .init | .lost => if x.latch ≠ some latch then b.setStation s { x with good := 0 } else b
  | _ => b

/-- ARRIVAL_DEADLINE (R403): of every station served in the base cycle that began RXWIN ago. -/
def execArrivalDeadline (bn : BenchIx) (t : Nat) (s : State) : Host.Outcome State Fault Refusal :=
  s.onBench bn fun b =>
    let b := b.tick t
    let latch := b.rail.now - b.haulRxwin
    if !b.haulEn || !(b.bn.mode = .run || b.bn.mode = .hold) || b.rail.now < b.haulRxwin then b
    else (b.stations.filter fun s => b.servedAt s latch).foldl (fun b s => b.deadline latch s) b

/-! ### Link, modes, checks (R400, R404, R407, R409, R410, R412, R414) -/

/-- LINK_DOWN (R412). -/
def execLinkDown (bn : BenchIx) (t : Nat) (s : State) : Host.Outcome State Fault Refusal :=
  s.onBench bn fun b =>
    let b := b.tick t
    if b.ha.link then Bench.raise 13 0 0 0 0 { b with ha := { b.ha with link := false, speedOk := false } } else b

/-- HAUL_LINK_UP (R412). -/
def execHaulLinkUp (bn : BenchIx) (t : Nat) (s : State) : Host.Outcome State Fault Refusal :=
  s.onBench bn fun b =>
    let b := b.tick t
    { b with ha := { b.ha with link := true, speedOk := true } }

/-- A station enters INIT (R404). -/
def Bench.stationInit (s : Nat) (b : Bench) : Bench :=
  let x := b.station s
  let b := b.setStation s { x with state := .init, good := 0, missRun := 0, samples := [], first := none, copied := false, waiting := false, seen := [], errSeen := false,
                                   latch := none, group := none }
  b.substStation s b.rail.now

/-- Entry into RUN: every enabled station in INIT (R404, R410). -/
def Bench.haulEnter (b : Bench) : Bench :=
  if b.haulEn then b.stations.foldl (fun b s => b.stationInit s) b else b

/-- Cycle frames end in CONFIGURE and SHADOW (R410). -/
def Bench.haulLeave (b : Bench) : Bench := { b with ha := { b.ha with cycling := false } }

/-- Wire bytes of a frame of n slots (R396). -/
def wireBytes (n : Nat) : Nat := 42 + max (28 + 4 * n) 42
def Bench.downBytes (b : Bench) (s : Nat) : Nat := wireBytes (fld (b.sw s 0x10) 8 0 + 2 * fld (b.sw s 0x14) 5 0)
def Bench.upBytes (b : Bench) (s : Nat) : Nat := wireBytes (fld (b.sw s 0xC) 8 0)

/-- Base cycles of one repeat of the schedule. -/
def Bench.haulRepeat (b : Bench) : Nat := b.stations.foldl (fun n s => Nat.lcm n (max 1 (b.stationMult s))) 1
/-- Largest sum over the base cycles of one repeat. -/
def Bench.burst (b : Bench) (f : Nat → Nat) : Nat :=
  (List.range b.haulRepeat).foldl (fun m k =>
    max m ((b.stations.filter fun s => b.stationMult s ≠ 0 && k % b.stationMult s = fld (b.sw s 0) 7 0).foldl (fun n s => n + f s) 0)) 0

/-- R407, and HA_TXLOAD, HA_RXLOAD. -/
def Bench.haulFits (b : Bench) : Bool :=
  let d := b.burst b.downBytes
  let u := b.burst b.upBytes
  !b.haulEn || (8 * d + 20000 ≤ b.haulLead && 8 * u + 30000 ≤ b.haulRxwin && 80 * (d + 1542) ≤ 9 * b.haulBase)
def Bench.haulLoads (b : Bench) : Bench :=
  if b.haulEn then { b with ha := { b.ha with txload := BitVec.ofNat 32 (8 * b.burst b.downBytes),
                                              rxload := BitVec.ofNat 32 (8 * b.burst b.upBytes) } } else b

/-- An enabled entry breaks no condition of R414. -/
def Bench.stationOk (b : Bench) (s : Nat) : Bool :=
  let ic := fld (b.sw s 0xC) 8 0
  let oc := fld (b.sw s 0x10) 8 0
  let ac := fld (b.sw s 0x14) 5 0
  let ab := fld (b.sw s 0x14) 21 16
  let pts (s : Nat) : List Nat := b.stationIn s ++ b.stationOut s
  ic ≤ 368 && oc + 2 * ac ≤ 368 && fld (b.sw s 0) 7 0 < b.stationMult s &&
  fld (b.sw s 0xC) 29 16 + ic ≤ 16384 && fld (b.sw s 0x10) 29 16 + oc ≤ 16384 && 10 ≤ ab && ab + ac ≤ 64 &&
  (b.stationIn s).all (fun p => (b.point p).source = 2) && (b.stationOut s).all (fun p => (b.point p).output) &&
  (b.stationAxes s).all (fun a => b.axisKind a = 3) && !bitOf (b.sw s 4) 0 &&
  b.stations.all fun o => o = s || (b.stationMac o ≠ b.stationMac s && (pts s).all (fun p => !(pts o).contains p) &&
    (b.stationAxes s).all (fun a => !(b.stationAxes o).contains a))

/-- The check at BENCH_RUN: REJ of each entry, loads, and whether R409 and R414 hold. -/
def Bench.haulCheck (b : Bench) : Bench :=
  ((List.range 64).foldl (fun x s => x.setStation s { x.station s with rej := b.stationEn s && !b.stationOk s }) b).haulLoads
def Bench.haulOk (b : Bench) : Bool :=
  let svc := b.cfg (haulAt 0x28)
  b.stations.all b.stationOk && (b.fifo (mkIx 31 (fld svc 4 0))).cons = 2 && (b.fifo (mkIx 31 (fld svc 12 8))).prod = 2

/-- The next cut of a station after a rail value (R393, R411). -/
def Bench.nextCut (b : Bench) (s : Nat) : Nat :=
  let c0 : Int := (b.haulPhase + fld (b.sw s 0) 7 0 * b.haulBase + b.haulAof : Nat) - (b.haulLead : Nat)
  let per : Int := (b.haulBase * b.stationMult s : Nat)
  let now : Int := (b.rail.now : Nat)
  if per = 0 then 0 else if now < c0 then c0.toNat else (c0 + ((now - c0) / per + 1) * per).toNat

/-- HAUL_STATION_SET (R404, R411). -/
def execHaulStationSet (c : Cmd) (w : Word) (s : State) : Host.Outcome State Fault Refusal :=
  s.onBench c.bench (Bench.accept (.haulStationSet c w) c (fun m => m = .run || m = .hold) fun b =>
    let n := fld w 5 0
    if !b.stationEn n then b.refuse c .badParam
    else
      let cut := b.nextCut n
      let b := if bitOf w 8 then b.stationInit n
        else (b.setStation n { b.station n with state := .disabled }).substStation n b.rail.now
      b.complete c .ok cut)

/-- HA_CNT_CLR (R412). -/
def execHaCntClr (bn : BenchIx) (v : Word) (s : State) : Host.Outcome State Fault Refusal :=
  s.onBench bn fun b => { b with ha := { b.ha with
    missCnt := if bitOf v 0 then 0 else b.ha.missCnt, rxDrop := if bitOf v 1 then 0 else b.ha.rxDrop,
    outLate := if bitOf v 2 then 0 else b.ha.outLate, guardCnt := if bitOf v 3 then 0 else b.ha.guardCnt,
    svcDrop := if bitOf v 4 then 0 else b.ha.svcDrop } }

/-- MDIO_CMD (R3, R5, R391, R412): a write to HA_MDIO_CMD stores READ, PHYAD, REGAD and data; a second GO has no effect
while one runs. -/
def execMdioCmd (bn : BenchIx) (v : Word) (s : State) : Host.Outcome State Fault Refusal :=
  s.onBench bn fun b =>
    let go := bitOf b.ha.mdioCmd 31
    let read := if go then b.ha.mdioRead else bitOf v 30
    { b with ha := { b.ha with mdioCmd := putBit (v &&& 0xFFF0FFFF#32) 31 (go || bitOf v 31), mdioRead := read } }

/-- MDIO_COMPLETE (R5): GO returns to 0, a read places its data. -/
def execMdioComplete (bn : BenchIx) (t : Nat) (data : BitVec 16) (s : State) : Host.Outcome State Fault Refusal :=
  s.onBench bn fun b =>
    let b := b.tick t
    if bitOf b.ha.mdioCmd 31 then
      { b with ha := { b.ha with mdioCmd := putBit b.ha.mdioCmd 31 false,
                                 mdioData := if b.ha.mdioRead then data.setWidth 32 else b.ha.mdioData } }
    else b

/-- HA_STATUS, HA_LOST, HA_OPER and the state words of a station entry (R412, R414). -/
def Bench.haulStatus (b : Bench) : Word :=
  at32 (b2n b.ha.cycling) 2 ||| at32 (b2n b.ha.speedOk) 1 ||| at32 (b2n b.ha.link) 0
def Bench.stationBits (b : Bench) (st : StationState) (base : Nat) : Word :=
  (List.range 32).foldl (fun w i => putBit w i (b.stationHas (base + i) st)) 0
def Bench.stationStateWord (b : Bench) (s : Nat) : Word :=
  let x := b.station s
  at32 x.state.code 28 ||| at32 (b2n x.guarded) 27 ||| at32 (b2n x.rej) 26 ||| at32 (min 15 x.missRun) 16 ||| at32 x.seq 0

end Sys2Proof.Machine
end

