-- ==== Sys2Proof/Machine/Program.lean ====
section
/-!
DEFINITION. The cyclic program engine: cycles, output stage, force table, online change (R140 to R185).
-/
namespace Sys2Proof.Machine

/-! ### Force table (R165 to R172) -/

/-- A point that may be forced (R167). -/
def Point.forceable (e : Point) : Bool :=
  (e.source = 1 || e.source = 2 || e.source = 3 || e.output) && !e.safety

def Bench.forceEntry (b : Bench) (i : Nat) : Force := Tbl.get {} b.pe.forces i
def Bench.setForce (i : Nat) (f : Force) (b : Bench) : Bench :=
  { b with pe := { b.pe with forces := Tbl.set {} b.pe.forces i f } }

/-- Enabled entries that name a point and may force it, lowest index first. -/
def Bench.claimants (b : Bench) (p : Nat) : List Nat :=
  (b.pe.forces.filter fun e => e.2.en && e.2.point = p && (b.point p).forceable).map (·.1)

/-- How many enabled entries name a point (R169). -/
def Bench.naming (b : Bench) (p : Nat) : Nat := (b.pe.forces.filter fun e => e.2.en && e.2.point = p).length

/-- R169: the lowest-indexed claimant of a point takes REJ 0, every other one REJ 1. -/
def Bench.arbitrate (p : Nat) (b : Bench) : Bench :=
  match b.claimants p with
  | [] => b
  | w :: _ =>
    { b with pe := { b.pe with forces := Tbl.mapAll {} (fun i f =>
        if f.en && f.point = p && (b.point p).forceable && f.rej ≠ (i ≠ w : Bool) then
          { f with rej := i ≠ w, since := b.rail.now } else f) b.pe.forces } }

/-- A commit of a force entry (R166 to R169). DESIGN CHOICE (log 55): in SHADOW, as in CONFIGURE and HOLD, no instant falls
due and it takes effect at once. -/
def Bench.commitForce (i : Nat) (en : Bool) (p : Nat) (v : Word) (b : Bench) : Bench :=
  let old := b.forceEntry i
  let bad := !(b.point p).forceable
  -- a force in effect on another point stands until that point's next instant
  let (eff, gone) := match old.eff with
    | some (q, w) => if q = p then (old.eff, old.old) else (none, old.old ++ [(q, w)])
    | none => (none, old.old)
  let b := b.setForce i { old with en := en, point := p, value := v, staged := v, rej := bad, seq := old.seq + 1,
                                   since := b.rail.now, live := b.liveOf p, eff := eff, old := gone }
  let b := if bad then { b with pe := { b.pe with forceRej := inc b.pe.forceRej } } else b
  let b := (b.arbitrate old.point).arbitrate p
  let b := if b.bn.mode = .run then b else
    ((gone.foldl (fun b e => b.settleForces e.1 b.rail.now) b).settleForces old.point b.rail.now).settleForces p b.rail.now
  let b := b.notify (.force (mkIx 1023 i) (at32 (b2n en) 31 ||| at32 (p % 16384) 0) v)
  let dup := 1 < b.naming p || 1 < b.naming old.point
  let b := if dup then b.raise 4 3 0 (BitVec.ofNat 32 i) 0 else b
  b.errorCause 8 (BitVec.ofNat 32 i)

/-- A commit by the host or a command: held while a switch runs (R177). -/
def Bench.forceCommit (i : Nat) (en : Bool) (p : Nat) (v : Word) (b : Bench) : Bench :=
  match b.pe.chg with
  | some c =>
    if c.switching then
      let c := { c with heldForces := c.heldForces ++ [(i, at32 (b2n en) 31 ||| at32 p 0, v)] }
      { b with pe := { b.pe with chg := some c } }
    else b.commitForce i en p v
  | none => b.commitForce i en p v

/-- The held commits of a change, in order (R177). -/
def Bench.applyHeld : List (Nat × Word × Word) → Bench → Bench
  | [], b => b
  | (i, w, v) :: r, b => Bench.applyHeld r (b.commitForce i (bitOf w 31) (fld w 13 0) v)

/-- FORCE_COMMIT: a write to word 0x0 of a force entry (R37, R166, R170). -/
def execForceCommit (bn : BenchIx) (i : Fin 1024) (w : Word) (s : State) : Host.Outcome State Fault Refusal :=
  s.onBench bn fun b =>
    if modesCfgRunHold b.bn.mode then b.forceCommit i.val (bitOf w 31) (fld w 13 0) (b.forceEntry i.val).staged
    else b.windowRej

/-- EN, POINT and FVALUE of the enabled entries, in order, held commits of a switch included (R177, R183). -/
def Bench.enabled (b : Bench) : List (Nat × Nat × Word) :=
  let held := match b.pe.chg with | some c => c.heldForces | none => []
  let t := held.foldl (fun m h => Tbl.modify ({} : Force) m h.1 fun f =>
    { f with en := bitOf h.2.1 31, point := fld h.2.1 13 0, value := h.2.2 }) b.pe.forces
  (t.filter fun e => e.2.en).map fun e => (e.1, e.2.point, e.2.value)

/-- The entry FORCE_SET uses: the enabled one of lowest index on the point, else the first free one. -/
def Bench.entryFor (b : Bench) (p : Nat) : Option Nat :=
  let l := b.enabled
  match l.filter fun e => e.2.1 = p with
  | e :: _ => some e.1
  | [] => (List.range 1024).find? fun i => l.all fun e => e.1 ≠ i

/-- FORCE_SET (R167, R170, R182, R183). -/
def execForceSet (c : Cmd) (point value : Word) (s : State) : Host.Outcome State Fault Refusal :=
  s.onBench c.bench (Bench.accept (.forceSet c point value) c modesCfgRunHold fun b =>
    let p := point.toNat
    if 16383 < p || !(b.point p).forceable then b.refuse c .badParam
    else match b.entryFor p with
      | some i =>
        let b := b.setForce i { b.forceEntry i with staged := value }
        (b.forceCommit i true p value).complete c .ok i
      | none => b.refuse c .noResource)

/-- The entries FORCE_CLEAR disables. -/
def Bench.enabledOn (b : Bench) (p : Option Nat) : List (Nat × Nat × Word) :=
  b.enabled.filter fun e => match p with | some q => e.2.1 = q | none => true

/-- FORCE_CLEAR (R170, R182). -/
def execForceClear (c : Cmd) (point : Word) (s : State) : Host.Outcome State Fault Refusal :=
  s.onBench c.bench (Bench.accept (.forceClear c point) c modesCfgRunHold fun b =>
    if point ≠ 0xFFFF && 16383 < point.toNat then b.refuse c .badParam
    else
      let l := b.enabledOn (if point = 0xFFFF then none else some point.toNat)
      let b := l.foldl (fun b i => b.forceCommit i.1 false i.2.1 i.2.2) b
      b.complete c .ok l.length)

/-! ### The cycle (R140 to R149) -/

/-- The cyclic task's entry of the current image. -/
def Prog.taskImg (p : Prog) (k : Fin 16) : Option TaskImg :=
  match p.cur with | some i => i.tasks.find? (fun x => x.task == k) | none => none

/-- The earliest input instant of any enabled cyclic task at or after a rail value. -/
def Prog.nextInput (p : Prog) (now : Time) : Option Time :=
  ((p.tasks.toList.drop 1).filter (·.en)).foldl (fun m t =>
    let n := t.nextInstant now
    match m with | none => some n | some k => some (min k n)) none

/-- The top instance of a task: IP of its start slot's handler (R209). -/
def Bench.topInstance (b : Bench) (k : Fin 16) : Nat :=
  match b.pe.slotImg b.pe.tasks[k].startSlot with
  | some x => match b.pe.handler x.handler with | some h => h.ip | none => b.pe.base
  | none => b.pe.base

/-- A gap whose test has not been made is over (R176, R494). -/
def Bench.gapOver (b : Bench) : Bench :=
  { b with pe := { b.pe with chg := b.pe.chg.map fun c => { c with gapAt := none } },
           nl := { b.nl with ho := b.nl.ho.map fun h => { h with gapAt := none } } }

/-- I(k) of a task (R142, R147): face inputs latched, the image copy fixed to the table's state. DESIGN CHOICE (log 55): it
is a latch instant (R166) of every forced input point, whoever reads the point. -/
def Bench.inputInstant (k : Fin 16) (b : Bench) : Bench :=
  let tc := b.pe.tasks[k]
  if b.bn.mode = .run && k ≠ 0 && tc.en && tc.isInstant b.rail.now && b.pe.startAt ≤ b.rail.now && !b.pe.runs[k].active then
    let ins := match b.pe.taskImg k with | some x => x.inputs | none => []
    let b := (ins ++ b.forcePoints).foldl (fun b p => b.latchForce p) b.gapOver
    let r := b.pe.runs[k]
    let r := { r with active := true, copied := false, dispatched := false, demandAt := none, ceilCounted := false,
                      ik := b.rail.now, ok := b.rail.now + tc.off * 1000,
                      frozen := ins.map fun p => (p, b.imagePoint b.rail.now p) }
    { b with pe := { b.pe with runs := b.pe.runs.set k r } }
  else b

/-- INPUT_INSTANT (R147). -/
def execInputInstant (bn : BenchIx) (t : Nat) (task : Fin 16) (s : State) : Host.Outcome State Fault Refusal :=
  s.onBench bn fun b => (b.tick t).inputInstant task

/-! ### Dispatch of slots and items (R110, R111, R158, R159, R186) -/

/-- The error task's dispatch: its time, and its input image, forces latched, copied (R158, R159, R162, R209). -/
def Bench.errDispatch (b : Bench) : Bench :=
  match b.pe.cur.bind (·.err) with
  | none => b
  | some e =>
    let b := e.inputs.foldl (fun b p => b.latchForce p) b.gapOver
    let b := b.noteErrImage b.rail.now
    let b := b.storeInputs (b.ringAddr e + 0x210) (e.inputs.map fun p => (p, b.imagePoint b.rail.now p))
    let runs := upd b.pe.runs 0 fun r => { r with active := true, dispatched := true, ik := b.rail.now }
    { b with pe := { b.pe with errLast := some b.rail.now, runs := runs } }

/-- A slot goes to a core (R111, R186): its flags clear in the same step. -/
def Bench.dispatchSlot (k : Fin 4) (x : SlotImg) (b : Bench) : Bench :=
  match b.pe.handler x.handler with
  | none => b
  | some h =>
    let st := Tbl.get {} b.sc.slots x.slot.val
    let got := st.flags &&& x.mask
    let b := if x.task = 0 then b.errDispatch else
      { b with pe := { b.pe with runs := upd b.pe.runs x.task fun r =>
          if x.slot = b.pe.tasks[x.task].startSlot then { r with dispatched := true } else r } }
    let st := { st with flags := st.flags &&& ~~~ x.mask, runs := inc st.runs }
    let b := { b with sc := { b.sc with slots := Tbl.set {} b.sc.slots x.slot.val st } }
    b.setCore k (coreLoad h (.segment x.task x.slot) got 0 0 0 st.readyAt (b.pe.sticky[x.task].setWidth 6) b.rail.now)

/-- An item goes to a core, or is discarded for its handler (R107, R186). -/
def Bench.dispatchItem (k : Fin 4) (q : Fin 8) (i : Item) (b : Bench) : Bench :=
  let b := { b with sc := { b.sc with queues := upd b.sc.queues q fun l => l.erase i } }
  match b.pe.handler i.handler with
  | none =>
    let b := b.count 6
    if i.ord then { b with sc := { b.sc with empties := b.sc.empties ++ [(i.flow, i.seq)] } } else b
  | some h =>
    let b := if i.ord then { b with sc := { b.sc with results := b.sc.results ++ [⟨i.flow, i.seq, false, []⟩] } } else b
    b.setCore k (coreLoad h (.item i) i.arg0 i.arg1 i.arg2 i.arg3 i.stamp (b.pe.stickyWi.setWidth 6) b.rail.now)

/-- A change in progress is in its switch: nothing is dispatched (R177). -/
def Bench.switching (b : Bench) : Bool :=
  let ho : Bool := match b.nl.ho with | some h => h.x.isSome | none => false
  (match b.pe.chg with | some c => c.switching | none => false) || ho

/-- A free core takes the next ready piece of work (R110). -/
def Bench.dispatch (k : Fin 4) (b : Bench) : Bench :=
  let b := b.hostPost
  if b.cores[k].run ≠ .idle || b.switching then b
  else
    match (if b.bn.mode = .run then b.nextSlot else none) with
    | some x => b.dispatchSlot k x
    | none => match b.nextItem with
      | some (q, i) => b.dispatchItem k q i
      | none => b

/-- DISPATCH (R110). -/
def execDispatch (bn : BenchIx) (t : Nat) (core : Fin 4) (s : State) : Host.Outcome State Fault Refusal :=
  s.onBench bn fun b => (b.tick t).dispatch core

/-! ### The copy and the end of a cycle (R145 to R149) -/

/-- The lowest set bit of a mask (the start flag of R145). -/
def lowBit (w : Word) : Word :=
  match (List.range 32).find? fun i => bitOf w i with | some i => at32 1 i | none => 0

/-- The image copy completes (R147, R162, R209): values in instance SRAM, start flag set. -/
def Bench.copyDone (k : Fin 16) (b : Bench) : Bench :=
  let r := b.pe.runs[k]
  if b.bn.mode = .run && k ≠ 0 && r.active && !r.copied then
    let b := b.noteImages k r.ik r.ok
    let b := b.storeInputs (b.topInstance k) r.frozen
    let b := { b with pe := { b.pe with runs := b.pe.runs.set k { r with copied := true } } }
    let n := b.pe.tasks[k].startSlot
    match b.pe.slotImg n with
    | some x => b.setFlags n (lowBit x.mask)
    | none => b
  else b

/-- IMAGE_COPY_DONE (R147). -/
def execImageCopyDone (bn : BenchIx) (t : Nat) (task : Fin 16) (s : State) : Host.Outcome State Fault Refusal :=
  s.onBench bn fun b => (b.tick t).copyDone task

/-- Some slot of the task is ready or running (R145). -/
def Bench.slotsPending (b : Bench) (k : Fin 16) : Bool :=
  match b.pe.cur with
  | none => false
  | some i => i.slots.any fun x =>
      x.task = k && (b.slotRunning x.slot || slotReady x (Tbl.get {} b.sc.slots x.slot.val).flags)

/-- The output map of a task, the address of its output image, and its output instant (R149, R159, R209). -/
def Bench.outputsOf (b : Bench) (k : Fin 16) : List Nat × Nat :=
  if k = 0 then
    match b.pe.cur.bind (·.err) with
    | some e => (e.outputs, outImage (b.ringAddr e + 0x210) e.inputs.length)
    | none => ([], 0)
  else match b.pe.taskImg k with
    | some x => (x.outputs, outImage (b.topInstance k) x.inputs.length)
    | none => ([], 0)

/-- A value passed to the output stage (R29, R30): a newer value replaces one still waiting for a later instant. -/
def Bench.stage (p : Nat) (v : Word) (due : Time) (period : Nat) (b : Bench) : Bench :=
  if !(b.point p).output then b
  else
    let late := b.faceMapped p && due < b.rail.now + 1500
    let rest := b.pe.staged.filter fun x => !(x.point = p && due ≤ x.due)
    { b with pe := { b.pe with staged := rest ++ [{ point := p, value := v, due := due, late := late, period := period }] } }

/-- A producer's new value of a point, and its way to the output stage; a write that is discarded goes no further (R26, R29). -/
def Bench.produce (src : Source) (p : Nat) (v : Word) (q : Half) (due period : Nat) (b : Bench) : Bench :=
  let b' := b.writePoint src p v q due
  if (b.point p).source = src.code then b'.stage p (fmtWord (b.point p).format v) due period else b'

/-- The output map written at E(k), stamped with the output instant, and passed on (R149). -/
def Bench.writeOutputs (due : Time) (period : Nat) : List Nat → Nat → Bench → Bench
  | [], _, b => b
  | p :: r, a, b =>
    let v := BitVec.ofNat 32 (b.load a 4)
    Bench.writeOutputs due period r (a + 4) (b.produce .program p v qLive due period)

/-- No task's logic is ready or running (R176). -/
def Bench.noLogic (b : Bench) : Bool :=
  b.pe.runs.toList.all (fun r => !r.active) && !b.slotsPending 0

/-- A switch gap begins now, where no task's logic is ready or running: for an online change once the first pass has
copied every page (R176), for a hand-over from its instant H on (R494). -/
def Bench.gapBegins (b : Bench) : Bench :=
  if !b.noLogic then b
  else { b with
    pe := { b.pe with chg := b.pe.chg.map fun c => if c.todo.isEmpty && !c.switching then { c with gapAt := some b.rail.now } else c },
    nl := { b.nl with ho := b.nl.ho.map fun h => if h.x.isNone && h.start ≤ b.rail.now then { h with gapAt := some b.rail.now } else h } }

/-- E(k) of a task (R145, R149, R159, R184): outputs, span, pace governor, copy point. -/
def Bench.endOfLogic (k : Fin 16) (b : Bench) : Bench :=
  let r := b.pe.runs[k]
  if b.bn.mode = .run && r.active && r.dispatched && (if k = 0 then !b.cores.toList.any (fun c => match c.run with | .segment t _ => t = 0 | _ => false) else !b.slotsPending k) then
    let (outs, addr) := b.outputsOf k
    let due := if k = 0 then b.pe.errOutput b.rail.now else r.ok
    let period := if k = 0 then (match b.pe.shortest with | some t => t.pNs | none => 10000) else b.pe.tasks[k].pNs
    let b := if k = 0 then b.noteErrOutputs due else b
    let b := b.writeOutputs due period outs addr
    let span := b.rail.now - r.ik
    let w := BitVec.ofNat 32 span
    let runs := upd b.pe.runs k fun r => { r with
      active := false, dispatched := false, copied := false, last := w,
      max := if r.max.toNat < span then w else r.max, cycles := inc r.cycles }
    let b := if k = 0 then b else b.cycleDone k span
    Bench.gapBegins { b with pe := { b.pe with runs := upd runs k fun r => { r with ceilCounted := b.pe.runs[k].ceilCounted } } }
  else b

/-! ### The output stage (R29, R30, R166, R168) -/

/-- The point's producer passes its values to the output stage itself, for an output instant: program, loop engine or
recipe sequencer. Every other producer's value is taken from the table at each output instant (R29). -/
def Point.stages (e : Point) : Bool := e.source = 4 || e.source = 5 || e.source = 7

/-- The value is kept for the point's next output instant, unless a newer one waits (R30, R541). A producer without
periodic instants of its own (a recipe) has one at each multiple of 10 µs. -/
def Bench.keepStaged (x : Staged) (b : Bench) : Bench :=
  if !(b.point x.point).stages || b.pe.staged.any (fun y => y.point = x.point) then b
  else
    let due := if x.period = 0 then firstMul 10000 (b.rail.now + 1) else x.due + x.period
    { b with pe := { b.pe with staged := b.pe.staged ++ [{ x with due := due, late := false }] } }

/-- The output stage at one output point's instant: force, then guards and hand-over; the FORCED bit and LIVE follow the
force, and SAFE clears at the first output instant after an entry into RUN (R98). A change held back by a guard is
tried again at the point's next output instant (R541). DESIGN CHOICE (log 55): the stage is no producer, so its change of
FORCED, SAFE and VALID is no update for the taps of R28 and leaves CHANGED. -/
def Bench.outputOne (x : Staged) (b : Bench) : Bench :=
  let b := b.settleForces x.point x.due
  let e := b.point x.point
  let q := putBit e.quality qForced (b.forceOn x.point).isSome
  let q := if bitOf q qSafe then qNorm (putBit (putBit q qSafe false) qValid true) else q
  let b := (b.setLive x.point e.value).setPoint x.point { e with quality := q }
  let (held, b) := b.applyOutput x.point (match b.forceOn x.point with | some v => v | none => x.value) x.due
  if held then b.keepStaged x else b

/-- Now is an output instant of the point: O(k) of the task that writes it, an instant of the loop that does, any output
instant for another producer or none; with the period of such instants in ns, 0 where there is none (R29, R149, R214). -/
def Bench.outPeriod (b : Bench) (p : Nat) : Option Nat :=
  let now := b.rail.now
  match (b.point p).source with
  | 4 =>
    match (b.pe.cur.map (·.tasks)).getD [] |>.find? (fun t => t.outputs.contains p) with
    | some t =>
      let c := b.pe.tasks[t.task]
      if c.off * 1000 ≤ now && c.isInstant (now - c.off * 1000) then some c.pNs else none
    | none => some 0
  | 5 =>
    match (List.range 512).find? fun n =>
        fld (b.cfg (0x80000 + 64 * n)) 19 0 ≠ 0 && fld (b.cfg (0x80000 + 64 * n + 8)) 29 16 = p with
    | some n =>
      let per := fld (b.cfg (0x80000 + 64 * n)) 19 0 * 10000
      let ph := fld (b.cfg (0x80000 + 64 * n + 4)) 19 0 * 10000
      if ph ≤ now && (now - ph) % per = 0 then some per else none
    | none => some 0
  | _ => some 0

/-- A point whose producer stages nothing for this instant: the output stage takes the value the table holds, where the
producer never stages (R29), or where the point is forced or shows a force that has ended (R166, R181). -/
def Bench.forceOne (p : Nat) (b : Bench) : Bench :=
  let e := b.point p
  match b.outPeriod p with
  | none => b
  | some per =>
    if !e.stages || ((b.settleForces p b.rail.now).forceOn p).isSome || bitOf e.quality qForced then
      b.outputOne { point := p, value := e.value, due := b.rail.now, period := per }
    else b

/-- A late value is not applied: MISS, counted, kept for the next instant (R30). -/
def Bench.outputLate (x : Staged) (b : Bench) : Bench :=
  let b := b.markPoint x.point fun q => putBit q qMiss true
  let b : Bench := { b with bn := { b.bn with outLate := inc b.bn.outLate } }
  let b := b.health 1
  (b.errorCause 5 (BitVec.ofNat 32 x.point)).keepStaged x

/-- An output instant: every value due is applied, or is late, and the forces of the other output points take effect
(R29, R30, R166). -/
def Bench.outputInstant (b : Bench) : Bench :=
  if b.bn.mode ≠ .run then b
  else
    let due := b.pe.staged.filter fun x => x.due ≤ b.rail.now
    let b := { b with pe := { b.pe with staged := b.pe.staged.filter fun x => b.rail.now < x.due } }
    let rest := b.points.filter fun e => e.2.output && due.all fun x => x.point ≠ e.1
    let b := due.foldl (fun b x => if x.late then b.outputLate x else b.outputOne x) b
    rest.foldl (fun b e => b.forceOne e.1) b

/-- OUTPUT_INSTANT (R29, R30). -/
def execOutputInstant (bn : BenchIx) (t : Nat) (s : State) : Host.Outcome State Fault Refusal :=
  s.onBench bn fun b => (b.tick t).outputInstant

/-! ### Online change (R173 to R181) -/

/-- Sizes of one element in the old and in the new region of a map entry (R210). -/
def convSizes (conv : Nat) : Nat × Nat :=
  match conv with
  | 0 => (1, 1) | 1 => (2, 4) | 2 => (2, 4) | 3 => (4, 4) | 4 => (4, 2) | 5 => (4, 4) | _ => (0, 1)

/-- One element converted (R210). -/
def convElem (conv diff v : Nat) : Nat :=
  match conv with
  | 1 => (ofS (sext 16 v)).toNat
  | 2 => (fltCvt 2 (BitVec.ofNat 32 v)).1.toNat
  | 3 => (fltCvt 0 (BitVec.ofNat 32 v)).1.toNat
  | 4 => (fltCvt 3 (BitVec.ofNat 32 v)).1.toNat % 65536
  | 5 => (v + diff) % 2 ^ 32
  | 6 => 0
  | _ => v

/-- The elements of one map entry whose old place lies in an old page (none: all of them, zero fill included). -/
def copyEntry (old new : Image) (m : MigImg) (page : Option Nat) (src dst : Tbl Byte) : Tbl Byte :=
  let (so, sn) := convSizes m.conv
  let diff := (2 ^ 32 + new.instBase - old.instBase) % 2 ^ 32
  (List.range (m.len / sn)).foldl (fun d i =>
    let o := m.old + i * so
    if page = none || page = some (o / 4096) then
      writeLe d (new.instBase + m.new + i * sn) (convElem m.conv diff (readLe src (old.instBase + o) so)) sn
    else d) dst

/-- Old pages that some map entry reads (R175). -/
def readPages (m : List MigImg) : List Nat :=
  ((m.filter fun x => x.conv ≠ 6 && 0 < x.len).flatMap fun x =>
    let n := x.len / (convSizes x.conv).2 * (convSizes x.conv).1
    (List.range ((x.old + n - 1) / 4096 + 1 - x.old / 4096)).map fun i => x.old / 4096 + i).eraseDups

/-- The mover copies the next page: first pass, then dirty pages (R175). -/
def Bench.moverPage (b : Bench) : Bench :=
  match b.pe.chg, b.pe.cur, b.pe.freeImg with
  | some c, some old, some new =>
    if c.switching || !b.noLogic then b
    else match (match c.todo with | p :: _ => some p | [] => c.dirty.head?) with
      | none => b
      | some p =>
        let dst := new.mig.foldl (fun d m => if m.conv = 6 then d else copyEntry old new m (some p) b.inst d) c.newInst
        let c := { c with todo := c.todo.erase p, dirty := c.dirty.erase p, newInst := dst,
                          done := if c.done.contains p then c.done else c.done ++ [p] }
        let b := { b with pe := { b.pe with chg := some c } }
        -- with no cyclic task enabled, the first test falls at the end of the first pass
        if c.todo.isEmpty && !c.told && b.pe.shortest.isNone then b.gapBegins else b
  | _, _, _ => b

/-- The change is given up or cancelled: old image, new one stays in the free slot (R179, R180). DESIGN CHOICE (log 55):
force commits held for a switch that is cancelled take effect at the cancellation. -/
def Bench.endChange (c : Change) (b : Bench) : Bench :=
  Bench.applyHeld c.heldForces { b with pe := { b.pe with chg := none } }

/-- R180: a change in progress is cancelled. -/
def Bench.cancelChange (b : Bench) : Bench :=
  match b.pe.chg with
  | none => b
  | some c =>
    let b := b.endChange c
    if c.told then (b.raise 4 2 0 (BitVec.ofNat 32 c.gaps) 0).errorCause 10 (BitVec.ofNat 32 c.gaps)
    else b.completeTag c.tag c.noirq .cancelled 0

/-- t_sw of R176, in ns. -/
def Bench.switchTime (c : Change) (b : Bench) : Nat :=
  let items := b.cores.toList.any fun x => match x.run with | .item _ => true | _ => false
  4000 + 1250 * c.dirty.length + (if items then 8192 else 0)

/-- t_sw is at most the available time A of a gap that began at g (R176). -/
def Bench.gapFits (c : Change) (g : Time) (b : Bench) : Bool :=
  match b.pe.nextInput (g + 1) with
  | some i => g + 2000 + b.switchTime c ≤ i
  | none => true

/-- The test of a switch gap, once for each (R176, R178, R179). -/
def Bench.gapTest (b : Bench) : Bench :=
  match b.pe.chg with
  | none => b
  | some c =>
    match (if c.switching || !b.noLogic || b.bn.mode ≠ .run then none else c.gapAt) with
    | none => b
    | some g =>
      if b.gapFits c g then { b with pe := { b.pe with chg := some { c with switching := true, gapAt := none } } }
      else
        let c' := { c with gaps := c.gaps + 1, told := true, gapAt := none }
        let b := { b with pe := { b.pe with deferCnt := inc b.pe.deferCnt, chg := some c' } }
        let b := if c.told then b else b.completeTag c.tag c.noirq .deferred c.dirty.length
        if c'.gaps = c.maxDefer then
          ((b.endChange c').raise 4 2 0 (BitVec.ofNat 32 c'.gaps) 0).errorCause 10 (BitVec.ofNat 32 c'.gaps)
        else b

/-- SWITCH_GAP_TEST (R176). -/
def execSwitchGapTest (bn : BenchIx) (t : Nat) (s : State) : Host.Outcome State Fault Refusal :=
  s.onBench bn fun b => (b.tick t).gapTest

/-- Instance SRAM with the bytes of one area replaced by those of a table. -/
def replaceArea (base size : Nat) (new old : Tbl Byte) : Tbl Byte :=
  let keep := old.filter fun e => e.1 < base || base + size ≤ e.1
  new.foldl (fun m e => if base ≤ e.1 && e.1 < base + size then Tbl.set 0 m e.1 e.2 else m) keep

/-- Running copies of the task configuration taken from an image (R141). -/
def imageTask (i : Image) (k : Fin 16) : TaskCfg :=
  if k = 0 then
    match i.err with | some e => { en := true, startSlot := e.startSlot, d := e.d0 } | none => {}
  else match i.tasks.find? (fun x => x.task == k) with
    | some x => { en := true, pri := x.pri, startSlot := x.startSlot, p := x.p, ph := x.ph, off := x.off, d := x.d, g := x.g }
    | none => {}
def imageTasks (i : Image) : Vector TaskCfg 16 := (Vector.replicate 16 ({} : TaskCfg)).mapFinIdx fun n _ h => imageTask i ⟨n, h⟩

/-- The slots exchange roles (R177, R183). -/
def Bench.swapSlots (b : Bench) : Bench :=
  let p := b.pe
  { b with
    pe := { p with
      slot := !p.slot, imgBad := false,
      img0 := if p.imgBad && !p.slot then none else p.img0,
      img1 := if p.imgBad && p.slot then none else p.img1 },
    snapOk := false }

/-- The first input instant of any task from now on; open where no cyclic task is enabled. -/
def Bench.firstInput (b : Bench) : Nat × Bench :=
  match b.pe.nextInput b.rail.now with | some i => (i, b) | none => b.fresh

/-- The switch itself, once running items have completed (R177, R178): the error causes that wait carry over, in the flags
of the error task or, where the image has no code for it, in PE_ERR_PEND (R160). -/
def Bench.doSwitch (b : Bench) : Bench :=
  match b.pe.chg, b.pe.cur, b.pe.freeImg with
  | some c, some old, some new =>
    let busy := b.cores.toList.any fun x => x.run ≠ .idle
    if !c.switching || busy then b
    else
      let dst := c.dirty.foldl (fun d p =>
        new.mig.foldl (fun d m => if m.conv = 6 then d else copyEntry old new m (some p) b.inst d) d) c.newInst
      let errFlags := match old.err with
        | some e => (Tbl.get ({} : SlotState) b.sc.slots e.startSlot.val).flags
        | none => b.pe.errPend
      let errPend := match new.err with | some _ => 0 | none => errFlags
      let slots := Tbl.mapAll {} (fun _ x => { x with flags := 0 }) b.sc.slots
      let slots := match new.err with
        | some e => Tbl.modify ({} : SlotState) slots e.startSlot.val fun x => { x with flags := errFlags }
        | none => slots
      let b := b.swapSlots
      let b := { b with inst := replaceArea new.instBase new.instSize dst b.inst,
                        sc := { b.sc with slots := slots },
                        pe := { b.pe with chg := none, tasks := imageTasks new, errPend := errPend } }
      let b := b.applyHeld c.heldForces
      let id := BitVec.ofNat 32 new.id.toNat
      let b := ((b.raise 4 1 0 id 0).errorCause 9 id).notify (.switched new.id)
      if c.told then b
      else
        let (v, b) := b.firstInput
        b.completeTag c.tag c.noirq .ok v
  | _, _, _ => b

/-- SWITCH (R177). -/
def execSwitch (bn : BenchIx) (t : Nat) (s : State) : Host.Outcome State Fault Refusal :=
  s.onBench bn fun b => (b.tick t).doSwitch

/-- PROG_CHANGE_ABORT (R180, R182). -/
def execProgChangeAbort (c : Cmd) (s : State) : Host.Outcome State Fault Refusal :=
  s.onBench c.bench (Bench.accept (.progChangeAbort c) c modesAny fun b =>
    match b.pe.chg with
    | none => b.refuse c .badState
    | some ch => if ch.switching then b.refuse c .busy else b.cancelChange.complete c .ok 0)

/-- PE_CNT_CLR (R184, R211). -/
def execPeCntClr (bn : BenchIx) (v : Word) (s : State) : Host.Outcome State Fault Refusal :=
  s.onBench bn fun b => { b with pe := { b.pe with
    deferCnt := if bitOf v 0 then 0 else b.pe.deferCnt, forceRej := if bitOf v 1 then 0 else b.pe.forceRej,
    errDrop := if bitOf v 2 then 0 else b.pe.errDrop, faultCnt := if bitOf v 17 then 0 else b.pe.faultCnt,
    runs := if bitOf v 16 then b.pe.runs.map (fun r => { r with max := 0 }) else b.pe.runs } }

end Sys2Proof.Machine
end

