-- ==== Sys2Proof/Machine/ImageCheck.lean ====
section
/-!
DEFINITION. The bench's check of a program image: Coith encodings (R187, R188), branches, loops, ends,
calls, accesses, flags and bounds (R195 to R207), task timing and maps (R141, R143, R145, R148),
migration map (R210), stated budgets (R73, R108, R144, R584).
-/
namespace Sys2Proof.Machine

/-! ### Costs and paths (R189, R195 to R198, R207) -/

/-- The core that decoding for a check names; no check depends on it. -/
def anyCore : CoreRef := { bench := 0, core := 0 }

/-- The instruction at a byte address of a code slot. -/
def codeAt (code : List Word) (p : Nat) : Option Instr :=
  match code[p / 4]? with | some w => if p % 4 = 0 then coithDecode anyCore w else none | none => none

/-- Cost in block operations (R189); BR not taken. -/
def coithCost : Instr → Nat
  | .coithDiv .. => 8 | .coithRem .. => 8 | .coithFadd .. => 2 | .coithFmul .. => 2 | .coithFdiv .. => 8
  | .coithFsqrt .. => 8 | .coithFcvt .. => 2 | .coithTadd .. => 2 | .coithTcmp .. => 2 | .coithRdt .. => 2
  | .coithLdw .. => 2 | .coithLdh .. => 2 | .coithLdd .. => 3 | .coithStw .. => 2 | .coithSth .. => 2
  | .coithStd .. => 3 | .coithLdx .. => 2 | .coithStx .. => 2 | .coithLoop .. => 2 | .coithCall .. => 3
  | .coithRet .. => 3 | .coithSetf .. => 2 | .coithPost .. => 4 | .coithFwr .. => 2 | .coithFrd .. => 2
  | .coithPtr .. => 3 | .coithPtw .. => 3 | .coithMac2 .. => 2 | _ => 1

/-- Addresses that control may go to next, within the same code (R195 to R197). -/
def successors (p : Nat) : Instr → List Nat
  | .coithEnd _ => []
  | .coithRet _ => []
  | .coithBr _ _ c off => if c = .always then [p + 4 * off.toNat] else [p + 4, p + 4 * off.toNat]
  | _ => [p + 4]

/-- The instructions reachable from an entry, with their addresses; none when one does not decode. -/
def reach (code : List Word) : Nat → List Nat → List (Nat × Instr) → Option (List (Nat × Instr))
  | 0, [], seen => some seen
  | 0, _ :: _, _ => none
  | _ + 1, [], seen => some seen
  | n + 1, p :: todo, seen =>
    if seen.any (fun e => e.1 = p) then reach code n todo seen
    else match codeAt code p with
      | some i => reach code n (successors p i ++ todo) (seen ++ [(p, i)])
      | none => none

/-- The counted loops among some instructions: address of the LOOP, and the address after its body. -/
def loopBodies (l : List (Nat × Instr)) : List (Nat × Nat) :=
  l.filterMap fun e => match e.2 with | .coithLoop _ _ _ len => some (e.1, e.1 + 4 + 4 * len.val) | _ => none

/-- Branch targets out of other bodies (R195), bodies wholly inside the one that holds their LOOP, nesting (R196). -/
def flowOk (l : List (Nat × Instr)) : Bool :=
  let loops := loopBodies l
  let inside (p : Nat) (x : Nat × Nat) : Bool := x.1 < p && p < x.2
  l.all (fun e => match e.2 with
    | .coithBr _ _ _ off => loops.all fun x => !inside (e.1 + 4 * off.toNat) x || inside e.1 x
    | _ => true) &&
  loops.all (fun x => loops.all (fun y => !inside x.1 y || x.2 ≤ y.2) &&
    (loops.filter fun y => inside x.1 y).length ≤ 3)

/-- Branch targets among some instructions. -/
def branchTargets (l : List (Nat × Instr)) : List Nat :=
  l.filterMap fun e => match e.2 with | .coithBr _ _ _ off => some (e.1 + 4 * off.toNat) | _ => none

/-- Every branch stays in its own segment or function block: its target is not also code of another entry (R195). -/
def branchesApart (i : Image) : Bool :=
  let entries := (i.handlers.map (·.entry) ++ i.fbs.map (·.entry)).eraseDups
  let codes := entries.map fun e => (reach i.code (3 * i.code.length + 3) [e] []).getD []
  (entries.zip codes).all fun x => (entries.zip codes).all fun y =>
    x.1 = y.1 || (branchTargets x.2).all fun t => !y.2.any fun e => e.1 = t

/-- The longest path from an address to the end, or to the end of the body [.., stop) (R207).
`fbs` gives the bounds of function blocks. None where the code has no such path. -/
def longest (code : List Word) (fbs : List Nat) : Nat → Option Nat → Nat → Option Nat
  | 0, _, _ => none
  | n + 1, stop, p =>
    let out : Bool := match stop with | some s => s ≤ p | none => false
    if out then some 0
    else match codeAt code p with
      | none => none
      | some i =>
        match i with
        | .coithEnd _ => some 1
        | .coithRet _ => some 3
        | .coithBr _ _ c off =>
          let t := (longest code fbs n stop (p + 4 * off.toNat)).map (· + 2)
          if c = .always then t
          else match longest code fbs n stop (p + 4), t with
            | some x, some y => some (max (x + 1) y)
            | _, _ => none
        | .coithLoop _ _ cnt len =>
          let first := p + 4
          let after := p + 4 + 4 * len.val
          let targets := (List.range len.val).filterMap fun j =>
            match codeAt code (first + 4 * j) with
            | some (.coithBr _ _ _ off) =>
              let t := first + 4 * j + 4 * off.toNat
              if after ≤ t then some t else none
            | _ => none
          let exits := (after :: targets).map (longest code fbs n stop)
          match longest code fbs n (some after) first with
          | some b =>
            if exits.all Option.isSome then
              some (2 + (cnt.val + 1) * (b + 1) + (exits.map (·.getD 0)).foldl max 0)
            else none
          | none => none
        | .coithCall _ f _ =>
          match fbs[f.val]?, longest code fbs n stop (p + 4) with
          | some c, some x => some (3 + c + x)
          | _, _ => none
        | _ => (longest code fbs n stop (p + 4)).map (· + coithCost i)

/-- The bound of the code at an entry (R207). -/
def imageBound (i : Image) (entry : Nat) : Option Nat :=
  longest i.code (i.fbs.map (·.bound)) (i.code.length + 2) none entry

/-- Function blocks that some instructions call. -/
def callees (l : List (Nat × Instr)) : List Nat :=
  l.filterMap fun e => match e.2 with | .coithCall _ g _ => some g.val | _ => none

/-- How deep calls from a function block go; none beyond the fuel, which a cycle exhausts (R197). -/
def callDepth (i : Image) : Nat → Nat → Option Nat
  | 0, _ => none
  | n + 1, f =>
    match i.fbs[f]? with
    | none => none
    | some x =>
      match reach i.code (3 * i.code.length + 3) [x.entry] [] with
      | none => none
      | some l =>
        (callees l).foldl
          (fun m g => match m, callDepth i n g with | some a, some c => some (max a (c + 1)) | _, _ => none) (some 0)

/-- A static access of n bytes with BASE 0 (R194). -/
def staticOk (size : Nat) (base : Reg) (off : BitVec 16) (n : Nat) : Bool :=
  base ≠ 0 || (off.toNat + n ≤ size && off.toNat % n = 0)

/-- Per-instruction checks in code whose current instance has a size: calls (R197), static accesses (R194),
END and RET in their places (R198). -/
def instrOk (i : Image) (size : Nat) (isFb : Bool) : Instr → Bool
  | .coithEnd _ => !isFb
  | .coithRet _ => isFb
  | .coithCall _ f ioff => match i.fbs[f.val]? with
    | some x => 16 * ioff.toNat + x.size ≤ size && (callDepth i 16 f.val).isSome
    | none => false
  | .coithLdw _ _ base off => staticOk size base off 4
  | .coithLdh _ _ base off => staticOk size base off 2
  | .coithLdd _ _ base off => staticOk size base off 8
  | .coithStw _ _ base off => staticOk size base off 4
  | .coithSth _ _ base off => staticOk size base off 2
  | .coithStd _ _ base off => staticOk size base off 8
  | _ => true

/-- Constant SETF slots of a segment of a task, or of a handler (R145, R200). -/
def setfOk (i : Image) (task : Option Nat) : Instr → Bool
  | .coithSetf _ _ _ n =>
    match i.slots.find? (fun x => x.slot == n) with
    | some x => (match task with | some t => x.task.val = t | none => x.task ≠ 0)
    | none => false
  | _ => true

/-- The constant SETF slots of the code at an entry and of every function block it calls, n frames deep (R200). -/
def setfsOk (i : Image) (task : Option Nat) : Nat → Nat → Bool
  | 0, _ => true
  | n + 1, entry =>
    match reach i.code (3 * i.code.length + 3) [entry] [] with
    | none => false
    | some l => l.all (fun e => setfOk i task e.2) &&
        (callees l).eraseDups.all fun g => match i.fbs[g]? with | some x => setfsOk i task n x.entry | none => false

/-- One entry's code: decodes, flows, ends, calls and accesses as R206 asks. -/
def entryOk (i : Image) (entry size : Nat) (isFb : Bool) : Bool :=
  match reach i.code (3 * i.code.length + 3) [entry] [] with
  | some l => flowOk l && l.all fun e => instrOk i size isFb e.2
  | none => false

/-- A handler-table entry (R206). -/
def handlerOk (i : Image) (h : HandlerImg) : Bool :=
  entryOk i h.entry h.size false && setfsOk i h.task 17 h.entry &&
  i.instBase ≤ h.ip && h.ip + h.size ≤ i.instBase + i.instSize && h.ip % 16 = 0 &&
  imageBound i h.entry = some h.bound

/-- A function-block entry (R206). -/
def fbOk (i : Image) (f : FbImg) : Bool :=
  entryOk i f.entry f.size true && 16 ≤ f.size && f.size ≤ 65536 && f.size % 16 = 0 &&
  imageBound i f.entry = some f.bound

/-- Bounds of a task's slots (R584). -/
def slotBounds (i : Image) (t : Fin 16) : List Nat :=
  (i.slots.filter (·.task = t)).map fun x => match i.handlers[x.handler]? with | some h => h.bound | none => 0

/-- Stated C and U against the stated bounds of the task's slots (R584). -/
def statedOk (i : Image) (t : TaskImg) : Bool :=
  (slotBounds i t.task).foldl (· + ·) 0 ≤ t.u && (slotBounds i t.task).foldl max 0 ≤ t.c

/-- The start slot belongs to its task and has a mask (R145). -/
def startOk (i : Image) (t n : Nat) : Bool :=
  match i.slots.find? (fun x => x.slot.val == n) with
  | some x => x.task.val = t && x.mask ≠ 0
  | none => false

/-- One migration-map entry inside both areas, with a length of its unit; without an old area only the new one counts (R210). -/
def migOk (oldSize : Option Nat) (newSize : Nat) (m : MigImg) : Bool :=
  let (so, sn) := convSizes m.conv
  m.conv ≤ 6 && m.len % sn = 0 && m.new + m.len ≤ newSize &&
  (match oldSize with | some n => m.conv = 6 || m.old + m.len / sn * so ≤ n | none => true)

/-- New regions that do not overlap (R210). -/
def migApart : List MigImg → Bool
  | [] => true
  | m :: r => r.all (fun x => m.new + m.len ≤ x.new || x.new + x.len ≤ m.new || m.len = 0 || x.len = 0) && migApart r

/-- Every check whose failure is CHECK_FAILED (R145, R206, R210, R584). -/
def imageCheck (oldSize : Option Nat) (i : Image) : Bool :=
  i.good && i.handlers.length ≤ 256 && i.fbs.length ≤ 1024 &&
  i.handlers.all (handlerOk i) && i.fbs.all (fbOk i) && i.tasks.all (statedOk i) &&
  i.tasks.all (fun t => startOk i t.task.val t.startSlot.val) &&
  (match i.err with | some e => startOk i 0 e.startSlot.val | none => true) &&
  i.slots.all (fun x => x.handler < i.handlers.length) &&
  i.mig.all (migOk oldSize i.instSize) && migApart i.mig && branchesApart i

/-! ### Timing, maps and budgets -/

/-- Ranges of R141 and the relation of R143. -/
def timingOk (p ph off d g : Nat) : Bool :=
  50 ≤ p && p ≤ 2000000 && ph < p && 10 ≤ off && off ≤ p && 1 ≤ d && d ≤ off - 4 && g ≤ 50 &&
  100 * d + g * p ≤ 100 * (off - 4)

/-- Task timing of an image: ranges, distinct priorities, D0 (R141, R151). -/
def imageTiming (i : Image) : Bool :=
  i.tasks.all (fun t => t.task ≠ 0 && timingOk t.p t.ph t.off t.d t.g && 1 ≤ t.pri && t.pri ≤ 15) &&
  (i.tasks.map (·.pri)).eraseDups.length = i.tasks.length &&
  (i.tasks.map (·.task)).eraseDups.length = i.tasks.length &&
  (match i.err with | some e => 5 ≤ e.d0 && e.d0 ≤ 1000 | none => true)

/-- The points of all output maps of an image. -/
def imageOutputs (i : Image) : List Nat :=
  (i.tasks.flatMap (·.outputs)) ++ (match i.err with | some e => e.outputs | none => [])

/-- R148: each point of an output map has SOURCE 4 and appears once. -/
def Bench.mapsOk (i : Image) (b : Bench) : Bool :=
  (imageOutputs i).all (fun p => (b.point p).source = 4) &&
  (imageOutputs i).eraseDups.length = (imageOutputs i).length

/-- C at most 0.80 W (R73) and at most D (R144), C in block operations of 4 ns. -/
def responseOk (off d c : Nat) : Bool := 20 * c ≤ 4 * ((off - 4) * 1000) && 4 * c ≤ d * 1000

/-- Σ U / P at most 3.20, U in block operations of 4 ns and P in µs (R73). -/
def utilOk (l : List (Nat × Nat)) : Bool :=
  let (n, d) := l.foldl (fun (n, d) (u, p) => (n * (p * 1000) + 4 * u * d, d * (p * 1000))) ((0 : Nat), (1 : Nat))
  10 * n ≤ 32 * d

/-- The budgets of an image's tasks and handlers (R73, R108, R144). -/
def imageBudget (i : Image) : Bool :=
  i.tasks.all (fun t => responseOk t.off t.d t.c) && utilOk (i.tasks.map fun t => (t.u, t.p)) &&
  i.handlers.all (fun h => h.task.isSome || h.bound ≤ 2048)

end Sys2Proof.Machine
end

