-- ==== Sys2Proof/Machine/Can.lean ====
section
/-!
DEFINITION. The CAN FD controllers: message RAM, filters, receive buffers, transmission, errors (R415 to R443).
-/
namespace Sys2Proof.Machine

/-! ### Message RAM, counters, events (R418, R442, R443) -/

/-- Words put from an offset on. -/
def Can.putAll (c : Can) (o : Nat) : List Word → Can
  | [] => c
  | v :: r => Can.putAll (c.put o v) (o + 4) r
/-- A counter of 0x040 + 4n counts. -/
def Can.count (n : Fin 12) (c : Can) : Can := { c with cnt := upd c.cnt n inc }
/-- An event bit of the block. -/
def Bench.canEvent (k : Fin 2) (bit : Nat) (b : Bench) : Bench :=
  b.raise (if k = 0 then 14 else 15) bit (BitVec.ofNat 32 k.val) 0 0
/-- The same, with the error cause of the same moment: its DETAIL is DETAIL1 (R524). -/
def Bench.canCause (k : Fin 2) (bit cause : Nat) (b : Bench) : Bench :=
  (b.errorCause cause (BitVec.ofNat 32 k.val)).raise (if k = 0 then 14 else 15) bit (BitVec.ofNat 32 k.val) (BitVec.ofNat 32 k.val) 0

def bufAt (n : Nat) : Nat := 0x1400 + 80 * n
def objAt (n : Nat) : Nat := 0x2800 + 80 * n
def holdAt (n : Nat) : Nat := 0x3700 + 80 * n
/-- The controller is on the bus with full rights: it may acknowledge and send. -/
def CanState.normal (s : CanState) : Bool := s = .active || s = .passive

/-! ### Frames (R420) -/

/-- Data bytes of a DLC (R420). -/
def dlcBytes (fd : Bool) (d : Nat) : Nat :=
  if d ≤ 8 then d else if !fd then 8
  else match d with | 9 => 12 | 10 => 16 | 11 => 20 | 12 => 24 | 13 => 32 | 14 => 48 | _ => 64
def CanFrame.rtr (f : CanFrame) : Bool := bitOf f.h0 30
def CanFrame.ide (f : CanFrame) : Bool := bitOf f.h0 29
def CanFrame.id (f : CanFrame) : Nat := fld f.h0 28 0
def CanFrame.fdf (f : CanFrame) : Bool := bitOf f.h1 31
def CanFrame.brs (f : CanFrame) : Bool := bitOf f.h1 30
def CanFrame.bytes (f : CanFrame) : Nat := if f.rtr then 0 else dlcBytes f.fdf (fld f.h1 3 0)
/-- What the bus compares: the smaller value wins arbitration (R432, ISO 11898-1). -/
def CanFrame.key (f : CanFrame) : Nat :=
  if f.ide then (fld f.h0 28 18 <<< 21) + (1 <<< 20) + (1 <<< 19) + (fld f.h0 17 0 <<< 1) + b2n f.rtr
  else (fld f.h0 10 0 <<< 21) + (b2n f.rtr <<< 20)
/-- Between frames of one identifier (R432): objects by index, then FIFOs by index, then the reference message. -/
def CanSrc.rank : CanSrc → Nat
  | .object n => n | .fifo n => 48 + n | .reference => 80

/-- Bytes packed lowest first into words, unused bytes 0 (R420). -/
def packBytes : Nat → List Byte → List Word
  | 0, _ => []
  | k + 1, l =>
    match l with
    | [] => []
    | _ =>
      let w := ((l.take 4).zipIdx).foldl (fun a x => a ||| at32 x.1.toNat (8 * x.2)) (0 : Word)
      w :: packBytes k (l.drop 4)
/-- The data words a frame of n bytes carries, of the words given. -/
def frameWords (n : Nat) (ws : List Word) : List Word :=
  packBytes 16 (((ws.map bytesOf).flatten ++ List.replicate 64 0).take n)

/-! ### Transmit objects (R428, R429, R434) -/

def Bench.ow (b : Bench) (k : Fin 2) (n o : Nat) : Word := b.can[k].word (objAt n + o)
def Bench.objEn (b : Bench) (k : Fin 2) (n : Nat) : Bool := bitOf (b.ow k n 8) 31
def Bench.objSize (b : Bench) (k : Fin 2) (n : Nat) : Nat := match fld (b.ow k n 8) 30 29 with | 0 => 4 | 1 => 2 | _ => 1
def Bench.objPoints (b : Bench) (k : Fin 2) (n : Nat) : List Nat :=
  (List.range (fld (b.ow k n 8) 28 22)).map fun i => fld (b.ow k n 0xC) 30 17 + i
def Bench.objPeriod (b : Bench) (k : Fin 2) (n : Nat) : Nat := fld (b.ow k n 8) 16 0
def Bench.objPhase (b : Bench) (k : Fin 2) (n : Nat) : Nat := fld (b.ow k n 0xC) 16 0
def Bench.objFrame (b : Bench) (k : Fin 2) (n : Nat) : CanFrame := { h0 := b.ow k n 0, h1 := b.ow k n 4 }
def Bench.objPayload (b : Bench) (k : Fin 2) (n : Nat) : List Word := (List.range 16).map fun i => b.ow k n (0x10 + 4 * i)
/-- A rail value is an apply instant of an object (R430). -/
def Bench.objInstant (b : Bench) (k : Fin 2) (n a : Nat) : Bool :=
  let p := b.objPeriod k n * 10000
  let ph := b.objPhase k n * 10000
  p ≠ 0 && ph ≤ a && (a - ph) % p = 0
/-- An object passes R429, were it enabled: the transmit objects and station entries it is held against count whether
enabled or not. -/
def Bench.objOk (b : Bench) (k : Fin 2) (n : Nat) : Bool :=
  let h0 := b.ow k n 0
  let h1 := b.ow k n 4
  let f := b.objFrame k n
  let pts := b.objPoints k n
  !bitOf h0 31 && !f.rtr && (f.ide || fld h0 28 11 = 0) && h1 &&& 0x3FFFFFF0#32 = 0 &&
  fld (b.ow k n 8) 30 29 ≠ 3 && fld (b.ow k n 8) 21 17 = 0 && fld (b.ow k n 8) 28 22 ≤ 64 &&
  10 ≤ b.objPeriod k n && b.objPeriod k n ≤ 100000 && !bitOf (b.ow k n 0xC) 31 && b.objPhase k n < b.objPeriod k n &&
  pts.length * b.objSize k n ≤ f.bytes && !(f.brs && !f.fdf) && !(f.fdf && !b.canFd k) &&
  pts.all fun p =>
    p < 16384 && (b.point p).output && (List.range 35).all (fun c => b.facePoint c ≠ some p) &&
    [(0 : Fin 2), 1].all (fun j => (List.range 48).all fun m => (j, m) = (k, n) || !(b.objPoints j m).contains p) &&
    (List.range 64).all fun s => !((b.stationIn s).contains p || (b.stationOut s).contains p)

/-- Bits of a nominal and a data bit time, in 12.5 ns (R416). -/
def Bench.canTn (b : Bench) (k : Fin 2) : Nat := fld (b.cw k 0xC) 31 26 * fld (b.cw k 0xC) 25 17
def Bench.canTd (b : Bench) (k : Fin 2) : Nat := fld (b.cw k 0x10) 31 26 * fld (b.cw k 0x10) 21 16
/-- Longest frame time of an object, in 12.5 ns (R434). -/
def Bench.objTime (b : Bench) (k : Fin 2) (n : Nat) : Nat :=
  let f := b.objFrame k n
  let d := f.bytes
  let tn := b.canTn k
  let td := if f.brs then b.canTd k else tn
  if f.fdf then (if f.ide then 58 else 36) * tn + ceilDiv (5 * (8 * d + (if d ≤ 16 then 28 else 33))) 4 * td
  else ((if f.ide then 80 else 55) + 10 * d) * tn
/-- The load U of a controller, as a fraction; extra: an object counted whether enabled or not (R434, R441). -/
def Bench.canLoad (b : Bench) (k : Fin 2) (extra : Option Nat) : Nat × Nat :=
  ((List.range 48).filter fun n => b.objEn k n || extra = some n).foldl (fun (x : Nat × Nat) n =>
    let p := b.objPeriod k n * 800
    if p = 0 then x else (x.1 * p + b.objTime k n * x.2, x.2 * p)) (0, 1)
def loadOk (u : Nat × Nat) : Bool := 10 * u.1 ≤ 6 * u.2

/-! ### The checks at BENCH_RUN (R416, R425, R429, R434) -/

/-- Filter entries: table, index, words. -/
def filterAt (tbl i : Nat) : Nat := (if tbl = 0 then 0 else if tbl = 1 then 0x800 else 0x1000) + 16 * i
/-- Indices of every filter entry, in the order of R423. -/
def filterList : List (Nat × Nat) :=
  (List.range 128).map (fun i => (0, i)) ++ (List.range 128).map (fun i => (1, i)) ++ (List.range 64).map (fun i => (2, i))
/-- Bit timing (R416). -/
def Bench.canTimingOk (b : Bench) (k : Fin 2) : Bool :=
  let w := b.cw k 0xC
  let d := b.cw k 0x10
  let (npre, nbit, nsp, njw) := (fld w 31 26, fld w 25 17, fld w 16 8, fld w 7 0)
  let (dpre, dbit, dsp, djw) := (fld d 31 26, fld d 21 16, fld d 13 8, fld d 5 0)
  let tn := npre * nbit
  let td := dpre * dbit
  1 ≤ npre && npre ≤ 32 && 8 ≤ nbit && nbit ≤ 385 && 1 ≤ dpre && dpre ≤ 32 && 5 ≤ dbit && dbit ≤ 63 &&
  80 ≤ tn && tn ≤ 640 && 10 ≤ td && td ≤ tn && 2 ≤ nsp && nsp + 1 ≤ nbit && 2 ≤ dsp && dsp + 1 ≤ dbit &&
  1 ≤ njw && njw + 1 ≤ nsp && njw + nsp ≤ nbit && 1 ≤ djw && djw + 1 ≤ dsp && djw + dsp ≤ dbit
/-- Every FIFO that an enabled entry or NMFIFO names has PROD of this controller (R425). -/
def Bench.canFifosOk (b : Bench) (k : Fin 2) : Bool :=
  let mine (n : Nat) : Bool := n < 32 && (b.fifo (mkIx 31 n)).prod = 3 + k.val
  (!bitOf (b.cw k 8) 27 || mine (fld (b.cw k 8) 20 16)) &&
  filterList.all fun e =>
    let o := filterAt e.1 e.2
    let w := b.can[k].word (o + 12)
    !bitOf (b.can[k].word o) 31 || !bitOf w 29 || mine (fld w 12 8)
/-- BAD_PARAM at BENCH_RUN unless every enabled filter entry and object passes, and the bit timing of each enabled
controller. -/
def Bench.canOk (b : Bench) : Bool :=
  [(0 : Fin 2), 1].all fun k =>
    (!b.canEn k || b.canTimingOk k) && b.canFifosOk k && (List.range 48).all fun n => !b.objEn k n || b.objOk k n
/-- OVER_BUDGET at BENCH_RUN unless each controller's load fits (R434). -/
def Bench.canFits (b : Bench) : Bool := [(0 : Fin 2), 1].all fun k => loadOk (b.canLoad k none)
/-- CN_LOAD takes U at a BENCH_RUN, in 0.1 % (R434). -/
def Bench.canLoads (b : Bench) : Bench :=
  [(0 : Fin 2), 1].foldl (fun b k =>
    let u := b.canLoad k none
    b.setCan k fun c => { c with load := ofS (roundDiv ((u.1 * 1000 : Nat) : Int) u.2) }) b

/-! ### Receive buffers (R426, R427) -/

/-- A frame's words as a buffer holds them: H0 to H2, status, sixteen data words. -/
def bufWords (h0 h1 ts st : Word) (data : List Word) : List Word :=
  [h0, h1, ts, st] ++ (data ++ List.replicate 16 0).take 16
/-- NEW and OVW of a buffer. -/
def Can.bufNew (c : Can) (n : Nat) : Bool := bitOf (c.word (bufAt n + 12)) 31
/-- A frame enters an unlocked buffer. -/
def Can.bufStore (n : Nat) (h0 h1 ts : Word) (data : List Word) (ovr : Bool) (c : Can) : Can :=
  let st := at32 1 31 ||| at32 (b2n (c.bufNew n || ovr)) 30
  c.putAll (bufAt n) (bufWords h0 h1 ts st data)
def Can.locked (c : Can) (n : Nat) : Bool := c.locks.any fun l => l.1 = n
/-- A buffer is released: a held frame enters it. -/
def Can.release (n : Nat) (c : Can) : Can :=
  let c := { c with locks := c.locks.filter fun l => l.1 ≠ n }
  match c.holds.find? (fun h => h.buf = n) with
  | some h =>
    let o := holdAt h.slot
    let ws := (List.range 16).map fun i => c.word (o + 16 + 4 * i)
    let c := { c with holds := c.holds.filter fun x => x.buf ≠ n }
    c.bufStore n (c.word o) (c.word (o + 4)) (c.word (o + 8)) ws h.ovr
  | none => c
/-- A frame for a locked buffer goes to a hold slot; none: no slot is free. -/
def Can.hold (n : Nat) (h0 h1 ts : Word) (data : List Word) (c : Can) : Option Can :=
  match c.holds.find? (fun h => h.buf = n) with
  | some h =>
    let c : Can := { c with holds := c.holds.map fun x => if x.buf = n then { x with ovr := true } else x }
    some (c.putAll (holdAt h.slot) (bufWords h0 h1 ts 0 data))
  | none =>
    match (List.range 16).find? (fun i => c.holds.all fun h => h.slot ≠ i) with
    | some i =>
      let x : CanHold := { slot := i, buf := n }
      let c : Can := { c with holds := c.holds ++ [x] }
      some (c.putAll (holdAt i) (bufWords h0 h1 ts 0 data))
    | none => none
/-- A frame is stored for buffer n; false: it is lost (R427). -/
def Bench.canStore (k : Fin 2) (n : Nat) (h0 h1 ts : Word) (data : List Word) (b : Bench) : Bool × Bench :=
  let c := b.can[k]
  if !c.locked n then (true, b.setCan k (Can.bufStore n h0 h1 ts data false))
  else match c.hold n h0 h1 ts data with
    | some c' => (true, b.setCan k fun _ => c')
    | none => (false, (b.setCan k (Can.count 3)).canEvent k 4)

/-- The word at CN_MR_ADDR is read: the first word of a buffer locks it, the last releases it (R427). -/
def Bench.mrRead (k : Fin 2) (b : Bench) : Word × Bench :=
  let c := b.can[k]
  let o := c.addr
  let v := if 0x3C00 ≤ o then 0 else c.word o
  let b := b.setCan k fun c => { c with addr := (o + 4) % 0x4000 }
  if 0x1400 ≤ o && o < 0x2800 then
    let n := (o - 0x1400) / 80
    let r := (o - 0x1400) % 80
    if r = 0 then
      (v, b.setCan k fun c => if c.locked n then c else { c with locks := c.locks ++ [(n, b.rail.now)] })
    else if r = 76 then
      (v, b.setCan k fun c => Can.release n (c.put (bufAt n + 12) 0))
    else (v, b)
  else (v, b)

/-- A write of the word at CN_MR_ADDR (R419): filters and objects in CONFIGURE, else discarded and counted. -/
def Bench.mrWrite (k : Fin 2) (v : Word) (b : Bench) : Bench :=
  let o := b.can[k].addr
  let b := b.setCan k fun c => { c with addr := (o + 4) % 0x4000 }
  let mine := o < 0x1400 || (0x2800 ≤ o && o < 0x3700)
  if mine && b.bn.mode = .configure then b.setCan k (Can.put o (v &&& mrMask o))
  else b.windowRej

/-- MR_DATA_ACCESS (R419). -/
def execMrDataAccess (bn : BenchIx) (k : Fin 2) (write : Option Word) (s : State) : Host.Outcome State Fault Refusal :=
  s.onBench bn fun b =>
    match write with
    | some v => b.mrWrite k v
    | none => let r := b.mrRead k; { r.2 with fn := { r.2.fn with lastRead := r.1 } }

/-- A host read of one word of a buffer (R419, R427). -/
def Bench.bufRead (k : Fin 2) (o : Nat) (b : Bench) : Bench :=
  let r := (b.setCan k fun c => { c with addr := o }).mrRead k
  { r.2 with fn := { r.2.fn with lastRead := r.1 } }

/-- RX_BUFFER_LOCK_READ (R427): word 0x00 of a buffer. -/
def execRxBufferLockRead (bn : BenchIx) (k : Fin 2) (buf : Fin 64) (s : State) : Host.Outcome State Fault Refusal :=
  s.onBench bn fun b => b.bufRead k (bufAt buf.val)

/-- RX_BUFFER_RELEASE_READ (R427): word 0x4C of a buffer. -/
def execRxBufferReleaseRead (bn : BenchIx) (k : Fin 2) (buf : Fin 64) (s : State) : Host.Outcome State Fault Refusal :=
  s.onBench bn fun b => b.bufRead k (bufAt buf.val + 76)

/-- LOCK_TIMEOUT (R427). -/
def execLockTimeout (bn : BenchIx) (t : Nat) (k : Fin 2) (buf : Fin 64) (s : State) : Host.Outcome State Fault Refusal :=
  s.onBench bn fun b =>
    let b := b.tick t
    match b.can[k].locks.find? (fun l => l.1 = buf.val) with
    | some l =>
      if l.2 + 100000 ≤ b.rail.now then b.setCan k fun c => Can.release buf.val (c.count 4) else b
    | none => b

/-! ### Acceptance (R422 to R425) -/

/-- An entry matches a frame (R423). -/
def Can.matches (c : Can) (tbl i : Nat) (f : CanFrame) : Bool :=
  let o := filterAt tbl i
  let w := c.word o
  let id1 := fld w 28 0
  let id2 := fld (c.word (o + 4)) 28 0
  bitOf w 31 && bitOf w 29 == f.ide && (!f.rtr || bitOf (c.word (o + 12)) 30) &&
  (match tbl with
   | 0 => id1 ≤ f.id && f.id ≤ id2
   | 1 => f.id = id1 || f.id = id2
   | _ => (f.id ^^^ id1) &&& id2 = 0)
/-- The deciding entry: lowest RANK, the earlier in the order of tables and indices among equals (R423). -/
def Can.decide (c : Can) (f : CanFrame) : Option (Nat × Nat) :=
  filterList.foldl (fun best e =>
    if c.matches e.1 e.2 f then
      let r (x : Nat × Nat) : Nat := fld (c.word (filterAt x.1 x.2 + 8)) 23 16
      match best with
      | some x => if r e < r x then some e else best
      | none => some e
    else best) none

/-- A packet of a received frame goes to a FIFO; whether it was stored (R129, R425). -/
def Bench.canPacket (k : Fin 2) (n : Nat) (ws : List Word) (b : Bench) : Bool × Bench :=
  let i : Fin 32 := mkIx 31 n
  let f := b.fifo i
  (f.en && f.prod = 3 + k.val && ws.length ≤ f.free, b.fifoPacket i (3 + k.val) ws)

/-- The deciding entry acts on a frame (R424); in SHADOW only receive buffers (R440). -/
def Bench.canAct (k : Fin 2) (e : Nat × Nat) (f : CanFrame) (ts : Word) (b : Bench) : Bench :=
  let o := filterAt e.1 e.2
  let w := b.can[k].word (o + 12)
  let shadow := b.bn.mode = .shadow
  let h1 := (f.h1 &&& 0xE000000F#32) ||| at32 e.1 24 ||| at32 e.2 16
  let data := frameWords f.bytes f.data
  let toBuf := bitOf w 28
  let toFifo := bitOf w 29 && !shadow
  let r := if toBuf then b.canStore k (fld w 21 16) f.h0 h1 ts data else (false, b)
  let q := if toFifo then r.2.canPacket k (fld w 12 8) ([f.h0, h1, ts] ++ data) else (false, r.2)
  if bitOf w 31 && !shadow && (r.1 || q.1) then
    let i : Item := { queue := mkIx 7 (fld w 26 24), ord := bitOf w 27, flow := if bitOf w 27 then fld (b.can[k].word (o + 8)) 7 0 else 0,
                      src := 5 + k.val, fref := q.1, fifo := if q.1 then fld w 12 8 else 0, handler := fld w 7 0,
                      arg0 := f.h0, arg1 := h1, arg2 := ts, arg3 := if toBuf then at32 (fld w 21 16) 0 else 0x3F }
    (q.2.post i).2
  else q.2

/-- An identifier collision (R437). -/
def Bench.canCollision (k : Fin 2) (f : CanFrame) (b : Bench) : Bench :=
  (b.setCan k fun c => { c.count 2 with coll := putBit (f.h0 &&& 0x7FFFFFFF#32) 31 true }).canEvent k 3

/-- A frame carries the identifier of an enabled object, or of the reference message (R437). -/
def Bench.canOwnId (b : Bench) (k : Fin 2) (f : CanFrame) : Bool :=
  let same (h : Word) : Bool := bitOf h 29 == f.ide && fld h 28 0 = f.id
  (List.range 48).any (fun n => b.objEn k n && same (b.ow k n 0)) || (bitOf (b.cw k 0x1C) 31 && same (b.cw k 0x1C))

/-- A receiver's count after a frame without error (ISO 11898-1): one less, or into 119 to 127 from above 127; in bus
monitoring the counts stay. ERRTYPE returns to 0 (R443). -/
def Bench.canGood (k : Fin 2) (b : Bench) : Bench :=
  let c := b.can[k]
  if !c.state.normal then b.setCan k fun c => { c with errType := 0 }
  else
    let (v, b) := if 127 < c.rxErr then b.fresh else (0, b)
    let r := if 127 < c.rxErr then 119 + v % 9 else c.rxErr - 1
    b.setCan k fun c => { c with
                                 rxErr := r, errType := 0,
                                 state := if c.state = .passive && c.txErr ≤ 127 && r ≤ 127 then .active else c.state }

/-- A frame received without error (R421, R423 to R425, R437, R440). -/
def Bench.canReceive (k : Fin 2) (f : CanFrame) (sof : Nat) (b : Bench) : Bench :=
  let c := b.can[k]
  if !b.canEn k || !(c.state.normal || c.state = .monitoring) || (f.fdf && !b.canFd k) then b
  else if b.bn.mode = .wake then b.canGood k
  else
    let b := b.canGood k
    let b := if b.canOwnId k f then b.canCollision k f else b
    let ts := lo32 sof
    match b.can[k].decide f with
    | some e => b.canAct k e f ts
    | none =>
      if bitOf (b.cw k 8) 27 && b.bn.mode ≠ .shadow then
        (b.canPacket k (fld (b.cw k 8) 20 16) ([f.h0, (f.h1 &&& 0xE000000F#32) ||| at32 3 24, ts] ++ frameWords f.bytes f.data)).2
      else b

/-- CAN_FRAME_RX (R423): a frame with its start-of-frame rail value. -/
def execCanFrameRx (bn : BenchIx) (t : Nat) (k : Fin 2) (h0 h1 : Word) (data : List Word) (sof : Nat) (s : State) :
    Host.Outcome State Fault Refusal :=
  let id := if bitOf h0 29 then h0 &&& 0x7FFFFFFF#32 else h0 &&& 0x400007FF#32
  s.onBench bn fun b => (b.tick t).canReceive k { h0 := id, h1 := h1, data := data } sof

/-! ### Offers (R431 to R433) -/

/-- An enabled entry of the allow-list has the frame's IDE and encloses its identifier (R553). -/
def Bench.canAllowed (b : Bench) (k : Fin 2) (f : CanFrame) : Bool :=
  (List.range 32).any fun e =>
    let w := b.guard (0x200 + 0x100 * k.val + 8 * e)
    bitOf w 31 && bitOf w 29 == f.ide && fld w 28 0 ≤ f.id && f.id ≤ fld (b.guard (0x204 + 0x100 * k.val + 8 * e)) 28 0

/-- a is offered before b (R432). -/
def CanPending.before (a b : CanPending) : Bool :=
  a.frame.key < b.frame.key || (a.frame.key = b.frame.key && a.src.rank < b.src.rank)
/-- The frame that would win arbitration. -/
def bestPending (l : List CanPending) : Option CanPending :=
  l.foldl (fun m p => match m with | some x => if p.before x then some p else m | none => some p) none
/-- The frame offered among those pending at an instant and not withdrawn before it; the urgent frame goes first (R436). -/
def Can.offer (c : Can) (t : Nat) : Option CanPending :=
  match c.urgent with
  | some u => some u
  | none => bestPending (c.pending.filter fun p => p.time ≤ t && match p.dead with | some d => t ≤ d | none => true)

/-- A denied frame (R433, R543). -/
def Bench.canDenied (k : Fin 2) (p : CanPending) (b : Bench) : Bench :=
  let b := b.setCan k fun c => { c.count 7 with pending := c.pending.filter (fun x => x ≠ p), urgent := if c.urgent = some p then none else c.urgent }
  let b := match p.src with | .fifo n => b.setFifo (mkIx 31 n) Fifo.dropPacket | _ => b
  (b.guardDeny).canEvent k 7
/-- A frame has passed its test. -/
def Can.pass (p : CanPending) (c : Can) : Can :=
  let f (x : CanPending) : CanPending := if x = p then { x with passed := true } else x
  { c with pending := c.pending.map f, urgent := c.urgent.map f }
/-- The offer at an instant is evaluated against the allow-list until a frame passes; a frame on offer, or in transmission,
is not tested again (R432, R433). -/
def Bench.canOffer (k : Fin 2) (t : Nat) : Nat → Bench → Bench
  | 0, b => b
  | n + 1, b =>
    if !b.can[k].state.normal then b
    else match b.can[k].offer t with
      | some p =>
        if p.passed then b
        else if b.canAllowed k p.frame then b.setCan k (Can.pass p)
        else Bench.canOffer k t n (b.canDenied k p)
      | none => b
/-- The first instant from `a` to `t` at which a frame that has not been tested is offered. -/
def Can.firstOffer (c : Can) (a t : Nat) : Option Nat :=
  ((c.pending.filter fun p => !p.passed && a ≤ p.time && p.time ≤ t).map (·.time)).min?
/-- Every offer up to `t` that has not been evaluated, in order of time: the list in force decides (R430, R433). -/
def Bench.canDue (k : Fin 2) (t : Nat) : Nat → Nat → Bench → Bench
  | 0, _, b => b
  | n + 1, a, b =>
    match b.can[k].firstOffer a t with
    | none => b
    | some x => Bench.canDue k t n (x + 1) (b.canOffer k x (b.can[k].pending.length + 2))
/-- Time reaches `t`: the offers that fell due on both controllers. -/
def Bench.canOffers (t : Nat) (b : Bench) : Bench :=
  [(0 : Fin 2), 1].foldl (fun b k => b.canDue k t (b.can[k].pending.length + 1) 0) b
/-- The module's clocks at t, and the frames offered by then. -/
def Bench.canTick (t : Nat) (b : Bench) : Bench := let b := b.tick t; b.canOffers b.rail.now
/-- The bus is free for another frame: withdrawn frames are forgotten, and the offer is evaluated again (R432). -/
def Can.purge (c : Can) : Can :=
  { c with pending := (c.pending.filter fun p => p.dead.isNone).map fun p => { p with passed := false },
           urgent := c.urgent.map fun p => { p with passed := false } }
def Bench.canEval (k : Fin 2) (b : Bench) : Bench := b.canOffer k b.rail.now (b.can[k].pending.length + 2)

/-! ### Transmission (R430 to R432) -/

/-- One point slot at the cut of apply instant a (R430). -/
def Bench.canSlot (k : Fin 2) (a : Nat) (r : List Word × Bench) (p : Nat) : List Word × Bench :=
  let b := r.2
  match b.cutValue p a with
  | none =>
    let b := b.markPoint p fun q => putBit q qMiss true
    (r.1 ++ [Tbl.get 0 b.can[k].last p], b.setCan k (Can.count 5))
  | some v => (r.1 ++ [v], b)

/-- The data words of an object's frame at apply instant a (R428, R430), and the values of its point slots; PAYLOAD alone
in HOLD (R440). -/
def Bench.objData (k : Fin 2) (n a : Nat) (live : Bool) (b : Bench) : (List Word × List (Nat × Word)) × Bench :=
  let pay := b.objPayload k n
  let len := (b.objFrame k n).bytes
  if live then
    let (vs, b) := (b.objPoints k n).foldl (Bench.canSlot k a) ([], b)
    let covered := (vs.map fun v => (bytesOf v).take (b.objSize k n)).flatten
    ((packBytes 16 ((covered ++ ((pay.map bytesOf).flatten).drop covered.length).take len), (b.objPoints k n).zip vs), b)
  else ((frameWords len pay, []), b)

/-- An object's frame at the cut of instant a joins the pending frames, to be offered at a; it replaces the object's frame
that has not begun (R430), in the urgent frame's place where that is the one (R436). -/
def Bench.objPend (k : Fin 2) (n a : Nat) (begun : Bool) (b : Bench) : Bench :=
  let ((ws, vals), b) := b.objData k n a (b.bn.mode = .run)
  let p : CanPending := { src := .object n, frame := { b.objFrame k n with data := ws }, time := a, vals := vals }
  let c := b.can[k]
  let urgent := match c.urgent with | some u => u.src = .object n | none => false
  if urgent && !begun then b.setCan k fun c => { c.count 6 with urgent := c.urgent.map fun u => { p with time := u.time, passed := u.passed } }
  else if !begun && c.pending.any (fun p => p.src = .object n && p.dead.isNone) then
    b.setCan k fun c => { c.count 6 with pending := (c.pending.filter fun p => p.src ≠ .object n) ++ [p] }
  else b.setCan k fun c => { c with pending := c.pending ++ [p] }

/-- OBJECT_CUT (R430, R436, R440): at A − 1 µs; begun: the object's frame from an earlier instant is in transmission. -/
def execObjectCut (bn : BenchIx) (t : Nat) (k : Fin 2) (n : Fin 48) (begun : Bool) (s : State) : Host.Outcome State Fault Refusal :=
  s.onBench bn fun b =>
    let b := b.canTick t
    let a := b.rail.now + 1000
    let c := b.can[k]
    if !b.canEn k || !b.objEn k n.val || !b.objInstant k n.val a || !(b.bn.mode = .run || b.bn.mode = .hold) then b
    else if c.state = .busOff then
      match c.urgent with
      | some u =>
        if u.src = .object n.val then
          let ((ws, vals), b) := b.objData k n.val a (b.bn.mode = .run)
          b.setCan k fun c => { c with urgent := some { u with frame := { u.frame with data := ws }, vals := vals } }
        else b.setCan k (Can.count 8)
      | none => b.setCan k (Can.count 8)
    else if c.state = .off || c.state = .monitoring then b
    else b.objPend k n.val a begun

/-- A FIFO packet as a frame, or none if it is malformed (R431). -/
def Bench.packetFrame (b : Bench) (k : Fin 2) (ws : List Word) : Option CanFrame :=
  match ws with
  | h0 :: h1 :: _ :: data =>
    let f : CanFrame := { h0 := putBit h0 31 false, h1 := h1, data := data }
    let need := ceilDiv f.bytes 4
    if data.length ≠ need || (f.brs && !f.fdf) || (f.fdf && (!b.canFd k || f.rtr)) then none else some f
  | _ => none

/-- FIFO_TX_OFFER (R431, R440). -/
def execFifoTxOffer (bn : BenchIx) (t : Nat) (k : Fin 2) (n : Fin 32) (s : State) : Host.Outcome State Fault Refusal :=
  s.onBench bn fun b =>
    let b := b.canTick t
    let f := b.fifo n
    let c := b.can[k]
    let modes := b.bn.mode = .configure || b.bn.mode = .run || b.bn.mode = .hold
    let waits := c.pending.any (fun p => p.src = .fifo n.val) || (match c.urgent with | some u => u.src = .fifo n.val | none => false)
    if !b.canEn k || !c.state.normal || !modes || !f.en || f.cons ≠ 3 + k.val || f.pkts = 0 || waits then b
    else match b.packetFrame k f.firstPacket with
      | none => (b.setFifo n Fifo.dropPacket).setCan k (Can.count 11)
      | some fr =>
        let p : CanPending := { src := .fifo n.val, frame := fr, time := b.rail.now }
        (b.setCan k fun c => { c with pending := c.pending ++ [p] }).canEval k

/-- ARBITRATION_LOST (R432): the offer is evaluated again. -/
def execArbitrationLost (bn : BenchIx) (t : Nat) (k : Fin 2) (s : State) : Host.Outcome State Fault Refusal :=
  s.onBench bn fun b => ((b.canTick t).setCan k Can.purge).canEval k

/-- A pending frame has been sent (R430, R431, R436, R439). -/
def Bench.canSent (k : Fin 2) (p : CanPending) (sof : Nat) (b : Bench) : Bench :=
  let b := b.setCan k fun c => { c with
    pending := c.pending.erase p, urgent := if c.urgent = some p then none else c.urgent, sent := c.sent ++ [p.frame],
    txErr := c.txErr - 1, errType := 0, last := p.vals.foldl (fun m e => Tbl.set 0 m e.1 e.2) c.last,
    state := if c.state = .passive && c.txErr - 1 ≤ 127 && c.rxErr ≤ 127 then .active else c.state,
    refSof := if p.src = .reference then sof else c.refSof }
  match p.src with | .fifo n => b.setFifo (mkIx 31 n) Fifo.dropPacket | _ => b

/-- With SSP_EN, the loop delay of an FD frame with BRS that the controller sends, once it is measured (R417). -/
def Bench.canDelay (k : Fin 2) (f : CanFrame) (delay : Option Nat) (b : Bench) : Bench :=
  match delay with
  | some d => if bitOf (b.cw k 0x14) 31 && f.fdf && f.brs then b.setCan k fun c => { c with loopDly := min d 127 } else b
  | none => b

/-- TX_COMPLETE (R417, R432): the frame whose start of frame was at sof, and its loop delay in steps if measured. A frame
in transmission when its controller is disabled completes as well. -/
def execTxComplete (bn : BenchIx) (t : Nat) (k : Fin 2) (sof : Nat) (delay : Option Nat) (s : State) :
    Host.Outcome State Fault Refusal :=
  s.onBench bn fun b =>
    let b := b.canTick t
    if !(b.can[k].state.normal || b.can[k].state = .off) then b
    else match b.can[k].offer sof with
      | none => b
      | some p => (((b.canSent k p sof).canDelay k p.frame delay).setCan k Can.purge).canEval k

/-! ### Errors and bus-off (R435 to R438) -/

/-- Entry into bus-off, in one step (R435). -/
def Bench.canBusOff (k : Fin 2) (b : Bench) : Bench :=
  let u := b.can[k].offer b.rail.now
  let auto := b.canBorAuto k
  let kept (p : CanPending) : Bool := p.src = .reference && some p ≠ u
  let b := b.setCan k fun c => { c.count 1 with
    state := .busOff, urgent := u, pending := c.pending.filter kept, recovering := auto }
  (b.health 9).canCause k 1 2

/-- What ISO 11898-1 adds to TEC and to REC for an error: 8 to the count of a sender, 8 to that of a receiver at or after a
flag, 1 else; nothing to TEC where a passive sender's acknowledgement error met no dominant bit, or for a stuff error in
arbitration (R435). -/
def errSteps (sender passive : Bool) (typ : Nat) (site : CanSite) : Nat × Nat :=
  match site with
  | .frame noFlag _ =>
    if !sender then (0, 1) else if noFlag && ((typ = 4 && passive) || typ = 3) then (0, 0) else (8, 0)
  | _ => if sender then (8, 0) else (0, 8)

/-- Where a sender samples its own bits of the data phase, in steps of 12.5 ns after the start of the bit: at the secondary
sample point, or the data phase's own without SSP_EN (R416, R417). -/
def Bench.canSample (b : Bench) (k : Fin 2) : Nat :=
  let w := b.cw k 0x14
  if bitOf w 31 then b.can[k].loopDly + fld w 7 0 else fld (b.cw k 0x10) 31 26 * fld (b.cw k 0x10) 13 8

/-- An error of the sender's own bit in the data phase is one only if the level at its sample point differs from the one
sent: recessive for ERRTYPE 5, dominant for 6 (R417, R443). -/
def Bench.canErrs (b : Bench) (k : Fin 2) (f : CanFrame) (typ : Nat) (phase : Bool) (site : CanSite) : Bool :=
  match site with
  | .frame _ rxd => !(f.fdf && f.brs && phase && (typ = 5 || typ = 6)) || rxd.sample (b.canSample k) ≠ (typ = 5 : Bool)
  | _ => true

/-- A detected error (R435): steps are what it adds to TEC and REC. -/
def Bench.canDetected (k : Fin 2) (typ : Nat) (phase : Bool) (steps : Nat × Nat) (b : Bench) : Bench :=
  let c := b.can[k]
  let b := b.setCan k fun c => { c.count 0 with errType := typ, errPhase := phase }
  let b := b.health 8
  if !c.state.normal then b
  else
    let tec := c.txErr + steps.1
    let rc := min 255 (c.rxErr + steps.2)
    let b := b.setCan k fun c => { c with txErr := tec, rxErr := rc }
    if 255 < tec then b.canBusOff k
    else if c.state = .active && (127 < tec || 127 < rc) then
      (b.setCan k fun c => { c with state := .passive }).canEvent k 0
    else b

/-- CAN_ERROR (R417, R432, R435, R437, R438): own is the start of frame of this controller's own frame, if it was sending;
late: a bit error after the arbitration field with none in it; delay: the loop delay measured in that frame. -/
def execCanError (bn : BenchIx) (t : Nat) (k : Fin 2) (f : CanFault) (phase : Bool) (own : Option Nat) (late : Bool)
    (site : CanSite) (delay : Option Nat) (s : State) : Host.Outcome State Fault Refusal :=
  s.onBench bn fun b =>
    let b := b.canTick t
    let c := b.can[k]
    if !b.canEn k || !(c.state.normal || c.state = .monitoring) then b
    else
      let mine := own.bind c.offer
      let b := match mine with | some p => b.canDelay k p.frame delay | none => b
      let receiver := errSteps false false 2 site
      match f with
      | .error typ =>
        let bit := typ.val = 5 || typ.val = 6
        if (match mine with | some p => b.canErrs k p.frame typ.val phase site | none => true) then
          let b := match mine with
            | some p => if bit && late then b.canCollision k p.frame else b
            | none => b
          let steps := errSteps mine.isSome (c.state = .passive) typ.val site
          ((b.canDetected k typ.val phase steps).setCan k Can.purge).canEval k
        else b
      | .resBit =>
        if b.canResAct k || !b.canFd k then ((b.canDetected k 2 phase receiver).setCan k Can.purge).canEval k
        else (b.setCan k fun c => { c.count 10 with state := .integrating }).canEvent k 5
      | .fdFrame => if b.canFd k then b else ((b.canDetected k 2 phase receiver).setCan k Can.purge).canEval k

/-- BUS_BACK (R436): recovery, once begun, completes. -/
def execBusBack (bn : BenchIx) (t : Nat) (k : Fin 2) (s : State) : Host.Outcome State Fault Refusal :=
  s.onBench bn fun b =>
    let b := b.canTick t
    if b.can[k].state = .busOff && (b.can[k].recovering || b.canBorAuto k) then
      ((b.setCan k fun c => { c with state := .active, txErr := 0, rxErr := 0, recovering := false }).canCause k 2 3).canEval k
    else b

/-- CAN_INTEGRATED (R440): SYNC; bus monitoring in SHADOW. -/
def execCanIntegrated (bn : BenchIx) (t : Nat) (k : Fin 2) (s : State) : Host.Outcome State Fault Refusal :=
  s.onBench bn fun b =>
    let b := b.canTick t
    let c := b.can[k]
    if c.state ≠ .integrating then b
    else if b.bn.mode = .shadow then b.setCan k fun c => { c with state := .monitoring }
    else
      (b.setCan k fun c => { c with state := if 127 < c.txErr || 127 < c.rxErr then .passive else .active }).canEval k

/-! ### Reference messages (R439) -/

/-- Reference messages are being sent: REF_ACTIVE. -/
def Bench.refActive (b : Bench) (k : Fin 2) : Bool :=
  let w := b.cw k 0x1C
  bitOf w 31 && b.canEn k && b.can[k].state ≠ .off &&
  (b.bn.mode = .configure || b.bn.mode = .hold || (b.bn.mode = .wake && bitOf w 30 && b.rail.state ≠ .unlocked))
def Bench.refPeriod (b : Bench) (k : Fin 2) : Nat := fld (b.cw k 0x20) 16 0 * 10000

/-- REFERENCE_MESSAGE (R439). -/
def execReferenceMessage (bn : BenchIx) (t : Nat) (k : Fin 2) (s : State) : Host.Outcome State Fault Refusal :=
  s.onBench bn fun b =>
    let b := b.canTick t
    let per := b.refPeriod k
    if !b.refActive k || per = 0 || b.rail.now % per ≠ 0 then b
    else
      let w := b.cw k 0x1C
      let c := b.can[k]
      let f : CanFrame := { h0 := w &&& 0x3FFFFFFF#32, h1 := 1, data := [at32 c.cycle 0] }
      let p : CanPending := { src := .reference, time := b.rail.now, frame := f }
      (b.setCan k fun c => { c with cycle := (c.cycle + 1) % 64, pending := c.pending ++ [p] }).canEval k

/-- REF_LATE (R439): half a period after its instant a message that has not begun is withdrawn. -/
def execRefLate (bn : BenchIx) (t : Nat) (k : Fin 2) (begun : Bool) (s : State) : Host.Outcome State Fault Refusal :=
  s.onBench bn fun b =>
    let b := b.canTick t
    let late (p : CanPending) : Bool := p.src = .reference && p.dead.isNone && p.time + b.refPeriod k / 2 ≤ b.rail.now
    if begun || !b.can[k].pending.any late then b
    else (b.setCan k fun c => { c.count 9 with pending := c.pending.filter fun p => !late p }).canEvent k 6

/-! ### Commands and modes (R440, R441) -/

/-- CAN_RECOVER (R436, R441). -/
def execCanRecover (c : Cmd) (w : Word) (s : State) : Host.Outcome State Fault Refusal :=
  s.onBench c.bench (Bench.accept (.canRecover c w) c modesCfgRunHold fun b =>
    if 1 < w.toNat then b.refuse c .badParam
    else
      let k : Fin 2 := mkIx 1 w.toNat
      if b.can[k].state ≠ .busOff || b.canBorAuto k then b.refuse c .badState
      else (b.setCan k fun x => { x with recovering := true }).complete c .ok b.acc)

/-- The next apply instant of an object whose cut has not passed. -/
def Bench.nextApply (b : Bench) (k : Fin 2) (n : Nat) : Nat :=
  let p := b.objPeriod k n * 10000
  let ph := b.objPhase k n * 10000
  if p = 0 then 0 else ph + firstMul p (b.rail.now + 1000 - ph)

/-- CAN_OBJ_SET (R441). -/
def execCanObjSet (c : Cmd) (w : Word) (s : State) : Host.Outcome State Fault Refusal :=
  s.onBench c.bench (Bench.accept (.canObjSet c w) c (fun m => m = .run || m = .hold) fun b =>
    let k : Fin 2 := mkIx 1 (fld w 0 0)
    let n := fld w 13 8
    let en := bitOf w 16
    if w &&& 0xFFFEC0FE#32 ≠ 0 || 48 ≤ n then b.refuse c .badParam
    else if en && !b.objOk k n then b.refuse c .badParam
    else if en && !loadOk (b.canLoad k (some n)) then b.refuse c .overBudget
    else
      (b.setCan k fun x => x.put (objAt n + 8) (putBit (x.word (objAt n + 8)) 31 en)).complete c .ok (b.nextApply k n))

/-- Entry into HOLD or CONFIGURE (R440): frames from live values are withdrawn; an urgent frame takes its PAYLOAD. -/
def Bench.canLeaveRun (b : Bench) : Bench :=
  [(0 : Fin 2), 1].foldl (fun b k =>
    let live (p : CanPending) : Bool := match p.src with | .object _ => p.dead.isNone | _ => false
    let b := b.setCan k fun c => { c with
      pending := c.pending.map fun p => if live p then { p with dead := some b.rail.now } else p }
    match b.can[k].urgent with
    | some u =>
      (match u.src with
       | .object n => b.setCan k fun c => { c with urgent := some { u with frame := { u.frame with data := (b.objData k n 0 false).1.1 }, vals := [] } }
       | _ => b)
    | none => b) b

/-- SHADOW: bus monitoring, nothing pending (R440). -/
def Bench.canShadow (b : Bench) : Bench :=
  [(0 : Fin 2), 1].foldl (fun b k => b.setCan k fun c =>
    { c with state := if c.state.normal || c.state = .busOff then .monitoring else c.state, pending := [], urgent := none, recovering := false }) b
/-- A controller leaves bus monitoring (R440, R493). -/
def Bench.canFromShadow (b : Bench) : Bench :=
  [(0 : Fin 2), 1].foldl (fun b k => b.setCan k fun c => if c.state = .monitoring then { c with state := .integrating } else c) b

/-! ### Registers (R442, R443) -/

def Can.newWord (c : Can) (base : Nat) : Word := (List.range 32).foldl (fun w i => putBit w i (c.bufNew (base + i))) 0
def Can.sync (c : Can) : Bool := c.state.normal || c.state = .monitoring
/-- A CN_ register as it reads. -/
def Bench.canWord (b : Bench) (k : Fin 2) (o : Nat) : Word :=
  let c := b.can[k]
  match o with
  | 0x000 =>
    at32 (b2n (c.loopDly = 127)) 23 ||| at32 c.loopDly 16 ||| at32 c.state.code 8 ||| at32 c.errType 4 |||
    at32 (b2n c.errPhase) 3 ||| at32 (b2n c.urgent.isSome) 2 ||| at32 (b2n (b.refActive k)) 1 ||| at32 (b2n c.sync) 0
  | 0x004 => if k = 0 then b.ev[(14 : Fin 18)] else b.ev[(15 : Fin 18)]
  | 0x018 => at32 (c.txErr % 512) 16 ||| at32 c.rxErr 0
  | 0x020 => (b.cw k 0x20 &&& 0x1FFFF#32) ||| at32 c.cycle 24
  | 0x024 => lo32 c.refSof | 0x028 => hi32 c.refSof
  | 0x030 => BitVec.ofNat 32 c.addr
  | 0x080 => c.newWord 0 | 0x084 => c.newWord 32
  | 0x088 => c.load
  | 0x08C => match c.urgent with | some u => putBit u.frame.h0 31 true | none => 0
  | 0x090 => c.coll
  | _ => if 0x40 ≤ o && o < 0x70 then c.cnt.toList.getD ((o - 0x40) / 4) 0 else b.cw k o

/-- CN_CNT_CLR (R442). -/
def execCnCntClr (bn : BenchIx) (k : Fin 2) (v : Word) (s : State) : Host.Outcome State Fault Refusal :=
  s.onBench bn fun b => b.setCan k fun c => { c with cnt := c.cnt.mapFinIdx fun i x _ => if bitOf v i then 0 else x }

end Sys2Proof.Machine
end

