-- ==== Sys2Proof/Machine/Digest.lean ====
section
/-!
DEFINITION. The signal digest: reductions, intervals, parts (R457 to R463, R472); values compared in their formats.
-/
namespace Sys2Proof.Machine

/-! ### Values in their formats (R444, R458) -/

/-- A binary32 value as an integer of 2^-149; an infinity lies beyond every finite value; none for a NaN. -/
def fltFix (w : Word) : Option Int :=
  match fltOf w with
  | .nan => none
  | .inf s => some (if s then -(2 ^ 300 : Nat) else (2 ^ 300 : Nat))
  | .zero _ => some 0
  | .fin s m e => some (fltAt s m e (-149))

/-- A value as an integer that compares as its format compares (R31, R444). -/
def numOf (fmt : Nat) (w : Word) : Option Int :=
  match fmt with
  | 1 | 2 => some (s16 w)
  | 3 => some (if bitOf w 0 then 1 else 0)
  | 4 => some (w.toNat : Int)
  | 5 => fltFix w
  | _ => some (s32 w)

/-- A quality is bad (R222). -/
def badQuality (q : Half) : Bool := !bitOf q qForced && !bitOf q qValid && !bitOf q qSubst

/-- A sum kept to the 53 bits of a binary64 significand. -/
def round64 (z : Int) : Int :=
  let n := Nat.log2 z.natAbs
  if n < 53 then z else roundDiv z (2 ^ (n - 52)) * (2 ^ (n - 52) : Nat)

/-! ### The reduction (R458, R459) -/

def Bench.setDigest (f : Digest → Digest) (b : Bench) : Bench := { b with dg := f b.dg }
/-- LO and STEP of the profile of a point (R459), as numbers of the format. -/
def Bench.profileOf (b : Bench) (p fmt : Nat) : Int × Int :=
  let k := Tbl.get 0 b.dg.prof p
  if k = 0 then
    match fmt with
    | 1 | 2 => (-32768, 4096)
    | 3 => (0, 1)
    | 4 => (0, 2 ^ 28)
    | 5 => (-8 * 2 ^ 149, 2 ^ 149)
    | _ => (-(2 ^ 31), 2 ^ 28)
  else ((numOf fmt (Tbl.get 0 b.dg.lo k)).getD 0, (numOf fmt (Tbl.get 1 b.dg.step k)).getD 0)

/-- A good value enters the reduction (R458). -/
def Reduction.good (fmt : Nat) (prof : Int × Int) (w : Word) (v : Int) (r : Reduction) : Reduction :=
  if r.count = BitVec.allOnes 32 then r
  else
    let less (a b : Word) : Bool := (numOf fmt a).getD 0 < (numOf fmt b).getD 0
    let inf := fmt = 5 && 2 ^ 299 < v.natAbs
    { r with
      count := r.count + 1,
      min := if r.count = 0 || less w r.min then w else r.min,
      max := if r.count = 0 || less r.max w then w else r.max,
      sum := if inf then r.sum else if fmt = 5 then round64 (r.sum + v) else r.sum + v,
      posInf := r.posInf || (inf && 0 < v), negInf := r.negInf || (inf && v < 0),
      last := w, bins := addBin r.bins (binOf prof.1 prof.2 v) }

/-- An update enters the reduction of its point (R458). -/
def Bench.reduce (p : Nat) (e : Point) (b : Bench) : Bench :=
  let fmt := e.format
  let r := Tbl.get {} b.dg.red p
  let r := { r with qor := r.qor ||| fld e.quality 11 0 }
  let r := match numOf fmt e.value with
    | some v => if badQuality e.quality then r else r.good fmt (b.profileOf p fmt) e.value v
    | none => r
  b.setDigest fun d => { d with red := Tbl.set {} d.red p r }

/-- The oldest update that the digest has not seen yet (R28, R457, R463). -/
def Bench.digestOne (b : Bench) : Bench :=
  match b.dgTaps with
  | [] => b
  | x :: rest =>
    let b : Bench := { b with dgTaps := rest }
    let b := if b.dg.open_.isNone then b.setDigest fun d => { d with open_ := some (x.time, b.rs.slots[b.dgSlot].step) } else b
    b.reduce x.point x.entry

/-- DIGEST_UPDATE (R458). -/
def execDigestUpdate (bn : BenchIx) (t : Nat) (s : State) : Host.Outcome State Fault Refusal :=
  s.onBench bn fun b => (b.tick t).digestOne

/-- Updates written before e enter first: they belong to the interval that ends at e (R457). -/
def Bench.digestDrain (e : Nat) : Nat → Bench → Bench
  | 0, b => b
  | k + 1, b => match b.dgTaps with | x :: _ => if x.time < e then Bench.digestDrain e k b.digestOne else b | [] => b

/-! ### Entries and parts (R458, R460, R461) -/

/-- MEAN (R458). -/
def Reduction.mean (fmt : Nat) (r : Reduction) : Word :=
  let n := r.count.toNat
  if n = 0 then 0
  else match fmt with
    | 3 => ofS (clipInt 0 32767 (roundDiv (r.sum * 32768) n))
    | 4 => 0
    | 5 =>
      if r.posInf && r.negInf then fltNan else if r.posInf then fltInf false else if r.negInf then fltInf true
      else if r.sum = 0 then fltZero false else (fltPack (r.sum < 0) r.sum.natAbs n (-149)).1
    | 1 | 2 => ofS (clipInt int16Min int16Max (roundDiv r.sum n))
    | _ => ofS (clipInt int32Min int32Max (roundDiv r.sum n))

/-- HSHIFT (R461). -/
def hshift (bins : List Nat) : Nat := ((List.range 16).find? fun s => bins.all fun c => c ≤ 4095 * 2 ^ s).getD 15
/-- The twelve-bit bins packed, lowest word first. -/
def packBins (bins : List Nat) (s : Nat) : List Word :=
  let z := (bins.zipIdx).foldl (fun a x => a + min 4095 (x.1 / 2 ^ s) * 2 ^ (12 * x.2)) 0
  (List.range 6).map fun i => BitVec.ofNat 32 (z / 2 ^ (32 * i))
/-- The 48-byte entry of a point (R460). -/
def Bench.digestEntry (b : Bench) (p : Nat) (fmt : Nat) : List Word :=
  let r := Tbl.get {} b.dg.red p
  let s := hshift r.bins
  [at32 r.qor 20 ||| at32 s 16 ||| at32 p 0, r.count, r.min, r.max, r.mean fmt, r.last] ++ packBins r.bins s
/-- The digested points, ascending (R457). -/
def Bench.digested (b : Bench) : List (Nat × Nat) := (b.points.filter fun e => e.2.digest).map fun e => (e.1, e.2.format)
/-- A list in runs of 1,024. -/
def chunks : Nat → List (Nat × Nat) → List (List (Nat × Nat))
  | 0, _ => []
  | k + 1, l => if l.isEmpty then [] else l.take 1024 :: chunks k (l.drop 1024)

/-- Parts that the stream queue has not accepted by this E are discarded (R462). -/
def Bench.digestLate (b : Bench) : Bench :=
  let n := (b.qc.ready.filter StreamReady.isDigest).length
  if n = 0 then b
  else
    let b := b.unready fun x => !x.isDigest
    (b.setDigest fun d => { d with lost := incBy d.lost n, gap := true }).raise 11 0 0 0 0

/-- The open interval closes at e; next: S and step of the interval that follows (R457, R460, R462, R463). -/
def Bench.digestClose (e : Nat) (cut cont : Bool) (next : Option (Nat × Nat)) (b : Bench) : Bench :=
  let b := b.digestDrain e b.dgTaps.length
  match b.dg.open_ with
  | none => b
  | some (s, step) =>
    let b := b.digestLate
    let parts := chunks 16 b.digested
    let word (k : Nat) : Word :=
      at32 (b2n b.dgMode) 31 ||| at32 (b2n (b.dg.gap && k = 0)) 30 ||| at32 (b2n cut) 29 ||| at32 (b2n cont) 28 |||
      (if b.dgMode then at32 b.dgSlot.val 24 ||| at32 step 0 else 0)
    let bodies := parts.zipIdx.map fun x =>
      [at32 x.2 16 ||| at32 parts.length 0, BitVec.ofNat 32 b.dg.iseq, lo32 s, hi32 s, lo32 e, hi32 e, word x.2,
       at32 b.dg.merged 16 ||| at32 x.1.length 0] ++ (x.1.map fun p => b.digestEntry p.1 p.2).flatten
    let b : Bench := { b with qc := { b.qc with ready := b.qc.ready ++ bodies.map fun w => .digest w } }
    b.setDigest fun d => { d with
      open_ := next, red := [], iseq := d.iseq + 1, merged := 0, gap := d.gap && parts.isEmpty }

/-- INTERVAL_END (R457): a multiple of INTERVAL with MODE 0; 3,600 s after S with MODE 1. -/
def execIntervalEnd (bn : BenchIx) (t : Nat) (s : State) : Host.Outcome State Fault Refusal :=
  s.onBench bn fun b =>
    let b := b.tick t
    let now := b.rail.now
    let per := fld b.dg.cfg 18 0 * 10000000
    if b.bn.mode ≠ .run || !bitOf b.dg.cfg 31 then b
    else if b.dgMode then
      match (b.digestDrain now b.dgTaps.length).dg.open_ with
      | some (s, _) =>
        if s + 3600000000000 ≤ now then b.digestClose (s + 3600000000000) false true (some (s + 3600000000000, b.rs.slots[b.dgSlot].step)) else b
      | none => b
    else if per = 0 || now % per ≠ 0 then b
    else
      let b := b.digestDrain now b.dgTaps.length
      b.digestClose now false false (b.dg.open_.map fun _ => (now, 0))

/-- Before a boundary of the digest's own slot at t changes its step, the updates written before t enter the interval that
t ends (R457, R460). -/
def Bench.digestBefore (n : Fin 16) (t : Nat) (b : Bench) : Bench :=
  if bitOf b.dg.cfg 31 && b.dgMode && b.dgSlot = n && b.bn.mode = .run then b.digestDrain t b.dgTaps.length else b

/-- A boundary of a recipe slot at t: with MODE 1 and the slot's own, the interval ends (R457); next: the step that begins,
none at the recipe's end or abort. DEDUCED (log 42): R457 names the recipe's end and abort beside the boundaries, so they
close the interval also less than 10 ms after S; only a boundary between two steps merges. -/
def Bench.digestBoundary (n : Fin 16) (t : Nat) (next : Option Nat) (b : Bench) : Bench :=
  if !bitOf b.dg.cfg 31 || !b.dgMode || b.dgSlot ≠ n || b.bn.mode ≠ .run then b
  else
    let b := b.digestDrain t b.dgTaps.length
    match b.dg.open_ with
    | some (s, _) =>
      if next.isSome && t < s + 10000000 then b.setDigest fun d => { d with merged := d.merged + 1 }
      else b.digestClose t false false (next.map fun k => (t, k))
    | none => b

/-- The bench leaves RUN: the open interval closes at the trigger with CUT; an update of that very moment belongs to
no interval (R457, R463). -/
def Bench.digestLeave (b : Bench) : Bench :=
  if bitOf b.dg.cfg 31 then { b.digestClose b.rail.now true false none with dgTaps := [] } else b

/-! ### Commands and registers (R459, R470, R472) -/

/-- DG_SET_PROFILES (R459, R470): the buffer's 16,384 bytes. -/
def execDgSetProfiles (c : Cmd) (profs : List Byte) (s : State) : Host.Outcome State Fault Refusal :=
  s.onBench c.bench (Bench.accept (.dgSetProfiles c profs) c modesCfg fun b =>
    if profs.length ≠ 16384 then b.refuse c .badParam
    else
      let tbl := (profs.zipIdx).filterMap fun x => let v := fld x.1 5 0; if v = 0 then none else some (x.2, v)
      (b.setDigest fun d => { d with prof := tbl }).complete c .ok 0)

/-- DG_CLOSE_NOW (R463, R470): E of the closed interval is the acceptance. -/
def execDgCloseNow (c : Cmd) (s : State) : Host.Outcome State Fault Refusal :=
  s.onBench c.bench (Bench.accept (.dgCloseNow c) c modesRun fun b =>
    let now := b.acc
    let b := b.digestDrain now b.dgTaps.length
    (b.digestClose now true false (b.dg.open_.map fun x => (now, x.2))).complete c .ok now)

/-- DG_CNT_CLR (R472). -/
def execDgCntClr (bn : BenchIx) (v : Word) (s : State) : Host.Outcome State Fault Refusal :=
  s.onBench bn fun b => b.setDigest fun d => { d with lost := if bitOf v 0 then 0 else d.lost }

/-- A DG_ register as it reads. -/
def Bench.digestWord (b : Bench) (o : Nat) : Word :=
  match o with
  | 0x000 => b.dg.cfg
  | 0x004 => at32 (b2n (b.bn.mode = .run && bitOf b.dg.cfg 31)) 31 ||| at32 b.digested.length 0
  | 0x008 => b.ev[(11 : Fin 18)]
  | 0x00C => BitVec.ofNat 32 (b.dg.iseq - 1)
  | 0x010 => b.dg.lost
  | _ =>
    if 0x108 ≤ o && o < 0x300 then
      (if o % 8 = 0 then Tbl.get 0 b.dg.lo ((o - 0x100) / 8) else Tbl.get 1 b.dg.step ((o - 0x100) / 8))
    else 0

end Sys2Proof.Machine
end

