-- ==== Sys2Proof/Machine/Kerf.lean ====
section
/-!
DEFINITION. Kerf: trigger units and capture channels (R444 to R456, R471).
-/
namespace Sys2Proof.Machine

def Bench.setKerf (f : Kerf → Kerf) (b : Bench) : Bench := { b with kf := f b.kf }
def Bench.setChan (c : Fin 32) (x : KfChan) (b : Bench) : Bench := b.setKerf fun k => { k with chans := k.chans.set c x }
def Bench.setUnit (u : Fin 8) (x : KfUnit) (b : Bench) : Bench := b.setKerf fun k => { k with units := k.units.set u x }
def KfUnit.stype (u : KfUnit) : Nat := fld u.src 31 30
def KfUnit.edge (u : KfUnit) : Nat := fld u.src 29 28
def KfUnit.hmode (u : KfUnit) : Bool := bitOf u.src 27
def KfUnit.source (u : KfUnit) : Nat := fld u.src 13 0
def KfChan.en (c : KfChan) : Bool := bitOf c.cfg 31
def KfChan.ctype (c : KfChan) : Nat := fld c.cfg 30 29
def KfChan.unit (c : KfChan) : Nat := fld c.cfg 26 24
def KfChan.auto (c : KfChan) : Bool := bitOf c.cfg 23
def KfChan.source (c : KfChan) : Nat := fld c.cfg 13 0
def KfChan.base (c : KfChan) : Nat := fld c.mem 31 16
def KfChan.size (c : KfChan) : Nat := fld c.mem 15 0
def KfChan.nseg (c : KfChan) : Nat := fld c.seg 7 0
/-- CAP of a channel (R449). -/
def KfChan.cap (c : KfChan) : Nat := if c.nseg = 0 then 0 else (c.size * 65536 / c.nseg / 16 * 16 - 64) / 16

def Bench.kerfEvent (bit ch : Nat) (b : Bench) : Bench := b.raise 10 bit (BitVec.ofNat 32 ch) 0 0

/-! ### Channels (R450 to R455) -/

/-- The next segment holds an unread record. -/
def KfChan.blocked (c : KfChan) : Bool := match Tbl.get none c.records c.next with | some r => r.unread | none => false
/-- A channel is armed in its next segment, or FULL (R451). -/
def KfChan.arm (c : KfChan) : KfChan :=
  if c.blocked then { c with state := .full, before := [], after := [] }
  else { c with state := .armed, before := [], after := [], records := Tbl.set none c.records c.next none }

/-- The record in progress ends (R452, R454, R455). -/
def Bench.recordEnd (ch : Fin 32) (why : Nat) (b : Bench) : Bench :=
  let c := b.kf.chans[ch]
  let pre := (c.before.take c.pre).reverse
  let short := pre.length < c.pre
  let header := [at32 why 28 ||| at32 (b2n short) 27 ||| at32 c.unit 24 ||| at32 ch.val 16 ||| at32 c.ctype 8, c.seq, lo32 c.time, hi32 c.time,
    BitVec.ofNat 32 pre.length, BitVec.ofNat 32 c.after.length, c.recMissed, BitVec.ofNat 32 c.pre, BitVec.ofNat 32 c.post] ++ List.replicate 7 0
  let rec_ : KfRecord := { header := header, samples := pre ++ c.after }
  let seg := c.next
  let seq := c.seq
  let b := b.setChan ch { c with
    records := Tbl.set none c.records seg (some rec_), next := if c.nseg = 0 then 0 else (seg + 1) % c.nseg, seq := c.seq + 1,
    before := [], after := [], state := if why = 2 || why = 3 || !c.auto then .idle else .rearm }
  let b := if short then b.kerfEvent 2 ch.val else b
  let b := b.kerfEvent 0 ch.val
  let k := b.kf.cfg
  if !bitOf k 31 then b
  else
    let n : Fin 32 := mkIx 31 (fld k 20 16)
    let ws := [BitVec.ofNat 32 ch.val, seq, lo32 c.time, hi32 c.time]
    let f := b.fifo n
    let stored := f.en && f.prod = 5 && ws.length ≤ f.free
    let b := b.fifoPacket n 5 ws
    (b.post { queue := mkIx 7 (fld k 26 24), src := 7, fref := stored, fifo := if stored then n.val else 0, handler := fld k 7 0,
              arg0 := BitVec.ofNat 32 ch.val, arg1 := BitVec.ofNat 32 seg }).2

/-- Whether the write queue takes one more sample: 4,096 samples at 40 ns each (R453). -/
def Bench.kerfRoom (b : Bench) : Bool := b.kf.busy ≤ b.rail.now + 4095 * 40
/-- A sample due to a channel that keeps or stores samples (R450, R452, R453). -/
def Bench.chanStore (ch : Fin 32) (e : Point) (b : Bench) : Bench :=
  let c := b.kf.chans[ch]
  if c.state ≠ .armed && c.state ≠ .capturing then b
  else if !b.kerfRoom then
    let b := (b.setKerf fun k => { k with ovf := inc k.ovf }).kerfEvent 1 ch.val
    if c.state = .armed then b.setChan ch { c with before := [] } else b.recordEnd ch 1
  else
    let b := b.setKerf fun k => { k with busy := max k.busy b.rail.now + 40 }
    if c.state = .armed then b.setChan ch { c with before := (e :: c.before).take c.cap }
    else if e.stamp < c.time then b.setChan ch { c with before := (e :: c.before).take c.pre }
    else
      let c := { c with after := c.after ++ [e] }
      let b := b.setChan ch c
      if c.post ≤ c.after.length then b.recordEnd ch 0 else b

/-- An accepted trigger of unit u at T reaches a channel (R450, R451): one that starts a record takes the count of those
missed since the record before. -/
def Bench.chanTrigger (u : Nat) (time : Nat) (b : Bench) (ch : Fin 32) : Bench :=
  let c := b.kf.chans[ch]
  if !c.en || c.unit ≠ u || c.state = .idle then b
  else if c.state = .armed then
    let after := (c.before.filter fun e => time ≤ e.stamp).reverse.take c.post
    let c := { c with state := .capturing, time := time, recMissed := c.missed, missed := 0,
                       before := (c.before.filter fun e => e.stamp < time).take c.pre, after := after }
    let b := b.setChan ch c
    if c.post ≤ after.length then b.recordEnd ch 0 else b
  else
    (b.setKerf fun k => { k with missed := inc k.missed }).setChan ch { c with missed := inc c.missed, cmiss := inc c.cmiss }

/-! ### Units (R444 to R447) -/

/-- A unit fires at T (R446). -/
def Bench.unitFire (u : Fin 8) (time : Nat) (b : Bench) : Bench :=
  let x := b.kf.units[u]
  let inHold := if x.hmode then x.left.isSome else x.until_.isSome
  if inHold then
    let left := x.left.map (· - 1)
    (b.setUnit u { x with miss := inc x.miss, left := if left = some 0 then none else left }).setKerf fun k => { k with missed := inc k.missed }
  else
    let b := b.setUnit u { x with
      count := inc x.count, until_ := if x.hmode then none else some (time + x.hold.toNat * 1000),
      left := if x.hmode then some x.hold.toNat else none }
    (List.finRange 32).foldl (Bench.chanTrigger u.val time) b

/-- The first sample at or after T + HOLD, of any quality, ends the hold-off of HMODE 0 (R446). -/
def KfUnit.holdEnds (stamp : Nat) (x : KfUnit) : KfUnit :=
  match x.until_ with | some e => if e ≤ stamp then { x with until_ := none } else x | none => x

/-- A unit sees a sample (R444, R445): its format, value and stamp. -/
def Bench.unitSample (u : Fin 8) (fmt : Nat) (w : Word) (stamp : Nat) (b : Bench) : Bench :=
  let x := b.kf.units[u]
  match numOf fmt w, numOf fmt x.level, numOf fmt x.hyst with
  | some v, some lev, some hy =>
    let below := v < lev - hy && x.edge ≠ 1
    let above := lev + hy < v && x.edge ≠ 0
    let rise := x.up && lev ≤ v
    let fall := x.down && v ≤ lev
    if rise || fall then
      let x := { x with up := !rise && x.up, down := !fall && x.down }
      let x := if below then { x with up := true, down := false } else if above then { x with down := true, up := false } else x
      (b.setUnit u x).unitFire u stamp
    else if below then b.setUnit u { x with up := true, down := if x.edge = 2 then false else x.down }
    else if above then b.setUnit u { x with down := true, up := if x.edge = 2 then false else x.up }
    else b.setUnit u x
  | _, _, _ => b

/-! ### Samples (R444, R448) -/

/-- A sample of a source: units first, then channels; stype and ctype name the source's kind. -/
def Bench.kerfSample (stype ctype src fmt : Nat) (good : Bool) (unitWord : KfUnit → Option Word) (e : Point) (b : Bench) : Bench :=
  let b := (List.finRange 8).foldl (fun b u =>
    let x := b.kf.units[u]
    match unitWord x with
    | some w =>
      if x.stype ≠ stype then b
      else
        let b := b.setUnit u (x.holdEnds e.stamp)
        if good then b.unitSample u fmt w e.stamp else b
    | none => b) b
  (List.finRange 32).foldl (fun b ch =>
    let c := b.kf.chans[ch]
    if c.en && c.ctype = ctype && (ctype = 2 || c.source = src) then b.chanStore ch e else b) b

/-- The oldest update of a point that Kerf has not seen yet (R28, R444). -/
def Bench.kerfPoint (b : Bench) : Bench :=
  match b.kfTaps with
  | [] => b
  | x :: rest =>
    let e := { x.entry with flags := 0 }
    Bench.kerfSample 1 1 x.point x.entry.format (!badQuality e.quality)
      (fun u => if u.source = x.point then some e.value else none) e { b with kfTaps := rest }

/-- All updates written so far are seen. -/
def Bench.kerfDrain : Nat → Bench → Bench
  | 0, b => b
  | k + 1, b => Bench.kerfDrain k b.kerfPoint

/-- TRIGGER_SAMPLE (R444, R445, R448): a point update, the raw digital word of this microsecond, or the latest sample of
an analog input. -/
def execTriggerSample (bn : BenchIx) (t : Nat) (src : KerfSource) (s : State) : Host.Outcome State Fault Refusal :=
  s.onBench bn fun b =>
    let b := b.tick t
    if b.bn.mode ≠ .run then b
    else match src with
      | .point => b.kerfPoint
      | .digital =>
        let raw := b.fc.seen.raw
        let us := b.rail.now / 1000 * 1000
        b.kerfSample 2 2 0 3 true (fun u => if u.source < 16 then some (if bitOf raw u.source then 1 else 0) else none)
          { value := raw, quality := qLive, flags := 0, stamp := us }
      | .analog k =>
        let a := b.fc.ai[k]
        b.kerfSample 3 3 k.val 2 (!badQuality a.quality) (fun u => if u.source = k.val then some (ofS a.value) else none)
          { value := ofS a.value, quality := a.quality, flags := 0, stamp := a.time }

/-- REARM_DONE (R451). -/
def execRearmDone (bn : BenchIx) (t : Nat) (ch : Fin 32) (s : State) : Host.Outcome State Fault Refusal :=
  s.onBench bn fun b =>
    let b := b.tick t
    let c := b.kf.chans[ch]
    if c.state = .rearm then b.setChan ch c.arm else b

/-! ### Commands (R447, R450, R452, R470) -/

/-- KF_ARM (R450, R451, R470). -/
def execKfArm (c : Cmd) (w pre post : Word) (s : State) : Host.Outcome State Fault Refusal :=
  s.onBench c.bench (Bench.accept (.kfArm c w pre post) c modesRun fun b =>
    let ch : Fin 32 := mkIx 31 (fld w 4 0)
    let b := b.kerfDrain b.kfTaps.length
    let x := b.kf.chans[ch]
    if 31 < w.toNat || post = 0 || x.cap ≤ pre.toNat then b.refuse c .badParam
    else if x.state ≠ .idle || !x.en then b.refuse c .badState
    else if x.cap < pre.toNat + post.toNat then b.complete c .postExceeds (x.cap - pre.toNat)
    else (b.setChan ch { x with pre := pre.toNat, post := post.toNat }.arm).complete c .ok 0)

/-- A channel is disarmed: a record in progress ends with END 2 (R452). -/
def Bench.chanStop (why : Nat) (r : Nat × Bench) (ch : Fin 32) : Nat × Bench :=
  let b := r.2
  if b.kf.chans[ch].state = .capturing then (r.1 + 1, b.recordEnd ch why)
  else (r.1, b.setChan ch { b.kf.chans[ch] with state := .idle, before := [], after := [] })

/-- KF_DISARM (R452, R470). -/
def execKfDisarm (c : Cmd) (w : Word) (s : State) : Host.Outcome State Fault Refusal :=
  s.onBench c.bench (Bench.accept (.kfDisarm c w) c modesRun fun b =>
    let b := b.kerfDrain b.kfTaps.length
    if w = 0xFF then
      let r := (List.finRange 32).foldl (Bench.chanStop 2) (0, b)
      r.2.complete c .ok r.1
    else if 31 < w.toNat then b.refuse c .badParam
    else
      let r := Bench.chanStop 2 (0, b) (mkIx 31 w.toNat)
      r.2.complete c .ok r.1)

/-- KF_TRIGGER (R445, R447, R470): the firing clears the unit's readiness. -/
def execKfTrigger (c : Cmd) (w : Word) (s : State) : Host.Outcome State Fault Refusal :=
  s.onBench c.bench (Bench.accept (.kfTrigger c w) c modesRun fun b =>
    if 7 < w.toNat then b.refuse c .badParam
    else
      let time := b.acc / 10 * 10
      let u : Fin 8 := mkIx 7 w.toNat
      let b := b.kerfDrain b.kfTaps.length
      ((b.setUnit u { b.kf.units[u] with up := false, down := false }).unitFire u time).complete c .ok time)

/-- The words of a record: header, then entries in stamp order (R448, R454). -/
def KfRecord.words (r : KfRecord) : List Word :=
  r.header ++ ((r.samples.insertionSort fun x y => x.stamp ≤ y.stamp).map fun e => [e.value, e.quality.setWidth 32, lo32 e.stamp, hi32 e.stamp]).flatten

/-- KF_READ (R451, R454, R470). -/
def execKfRead (c : Cmd) (w : Word) (s : State) : Host.Outcome State Fault Refusal :=
  s.onBench c.bench (Bench.accept (.kfRead c w) c modesAny fun b =>
    let ch : Fin 32 := mkIx 31 (fld w 4 0)
    let seg := fld w 15 8
    let x := b.kf.chans[ch]
    if w &&& 0xFFFE00E0#32 ≠ 0 then b.refuse c .badParam
    else match Tbl.get none x.records seg with
      | none => b.refuse c .badState
      | some r =>
        let x := if bitOf w 16 && listHolds c r.words then { x with records := Tbl.set none x.records seg (some { r with unread := false }) } else x
        let x := if x.state = .full then x.arm else x
        (b.setChan ch x).readDone c r.words (4 * r.words.length))

/-- KF_CNT_CLR (R471). -/
def execKfCntClr (bn : BenchIx) (v : Word) (s : State) : Host.Outcome State Fault Refusal :=
  s.onBench bn fun b => b.setKerf fun k => { k with missed := if bitOf v 0 then 0 else k.missed, ovf := if bitOf v 1 then 0 else k.ovf }

/-! ### Modes and registers (R449, R456, R471) -/

/-- The regions of enabled channels fit and do not overlap, and CAP is at least 2 (R449). -/
def Bench.kerfOk (b : Bench) : Bool :=
  let l := (b.kf.chans.toList.filter (·.en))
  let lim := b.bn.dramCapture.toNat * 16
  l.all (fun c => 2 ≤ c.cap && c.base + c.size ≤ lim) &&
  (l.zipIdx.all fun x => l.zipIdx.all fun y => x.2 = y.2 || x.1.base + x.1.size ≤ y.1.base || y.1.base + y.1.size ≤ x.1.base)

/-- The bench leaves RUN (R456). -/
def Bench.kerfLeave (b : Bench) : Bench := ((List.finRange 32).foldl (Bench.chanStop 3) (0, b.kerfDrain b.kfTaps.length)).2

/-- Bench start clears capture memory (R454, R456). -/
def Bench.kerfStart (b : Bench) : Bench :=
  b.setKerf fun k => { k with chans := k.chans.map fun c => { c with state := .idle, next := 0, seq := 0, before := [], after := [], missed := 0, records := [] } }

/-- A unit's registers are writable while no channel of it is ARMED or CAPTURING (R471). -/
def Bench.unitFree (b : Bench) (u : Nat) : Bool :=
  (b.bn.mode = .configure || b.bn.mode = .run || b.bn.mode = .hold) &&
  b.kf.chans.toList.all fun c => c.unit ≠ u || !c.en || (c.state ≠ .armed && c.state ≠ .capturing)

/-- A write to a KF_ register (R471). -/
def Bench.kerfWrite (o : Nat) (v : Word) (b : Bench) : Bench :=
  let cfg := b.bn.mode = .configure
  if o = 0x00C then if cfg then b.setKerf fun k => { k with cfg := v &&& 0x871F00FF#32 } else b.windowRej
  else if 0x100 ≤ o && o < 0x200 then
    let u : Fin 8 := mkIx 7 ((o - 0x100) / 0x20)
    let x := b.kf.units[u]
    let r := (o - 0x100) % 0x20
    if 0xC < r then b
    else if !b.unitFree u.val then b.windowRej
    else b.setUnit u (match r with
      | 0 => { x with src := v &&& 0xF8003FFF#32, up := false, down := false }
      | 4 => { x with level := v } | 8 => { x with hyst := v } | _ => { x with hold := v })
  else if 0x400 ≤ o && o < 0x800 then
    let ch : Fin 32 := mkIx 31 ((o - 0x400) / 0x20)
    let x := b.kf.chans[ch]
    match (o - 0x400) % 0x20 with
    | 0 => if x.state = .idle then b.setChan ch { x with cfg := v &&& 0xE7803FFF#32 } else b.windowRej
    | 4 => if cfg then b.setChan ch { x with mem := v } else b.windowRej
    | 8 => if cfg then b.setChan ch { x with seg := v &&& 0xFF#32 } else b.windowRej
    | _ => b
  else b

/-- A KF_ register as it reads. -/
def Bench.kerfWord (b : Bench) (o : Nat) : Word :=
  let bits (f : KfChan → Bool) : Word := (List.finRange 32).foldl (fun w i => putBit w i.val (f b.kf.chans[i])) 0
  let unread (c : KfChan) : Nat := (c.records.filter fun e => match e.2 with | some r => r.unread | none => false).length
  match o with
  | 0x000 => bits fun c => c.state = .armed || c.state = .capturing
  | 0x004 => bits fun c => 0 < unread c
  | 0x008 => b.ev[(10 : Fin 18)]
  | 0x00C => b.kf.cfg
  | 0x010 => b.kf.missed
  | 0x014 => b.kf.ovf
  | _ =>
    if 0x100 ≤ o && o < 0x200 then
      let x := b.kf.units[(mkIx 7 ((o - 0x100) / 0x20) : Fin 8)]
      match (o - 0x100) % 0x20 with
      | 0x00 => x.src | 0x04 => x.level | 0x08 => x.hyst | 0x0C => x.hold
      | 0x10 => at32 (b2n (x.until_.isSome || x.left.isSome)) 1 ||| at32 (b2n (x.up || x.down)) 0
      | 0x14 => x.count | 0x18 => x.miss
      | _ => 0
    else if 0x400 ≤ o && o < 0x800 then
      let x := b.kf.chans[(mkIx 31 ((o - 0x400) / 0x20) : Fin 32)]
      match (o - 0x400) % 0x20 with
      | 0x00 => x.cfg | 0x04 => x.mem | 0x08 => x.seg
      | 0x0C => BitVec.ofNat 32 x.cap
      | 0x10 => at32 x.state.code 28 ||| at32 x.next 8 ||| at32 (unread x) 0
      | 0x14 => x.cmiss
      | _ => 0
    else 0

end Sys2Proof.Machine
end

