-- ==== Sys2Proof/Machine/Loop.lean ====
section
/-!
DEFINITION. The loop engine (R213 to R251): instants, characteristic, setpoint, law, modes, commands.
-/
namespace Sys2Proof.Machine

/-! ### The descriptor (R245) and the tables (R250) -/

def loopAt (n : Nat) : Nat := 0x80000 + 64 * n
/-- Word at offset o of the descriptor of loop n. -/
def Bench.lw (b : Bench) (n o : Nat) : Word := b.cfg (loopAt n + o)
def Bench.loopPeriod (b : Bench) (n : Nat) : Nat := fld (b.lw n 0) 19 0
def Bench.loopPhase (b : Bench) (n : Nat) : Nat := fld (b.lw n 4) 19 0
def Bench.loopOutp (b : Bench) (n : Nat) : Nat := fld (b.lw n 8) 29 16
def Bench.loopPvp (b : Bench) (n : Nat) : Nat := fld (b.lw n 8) 13 0
def Bench.loopTrkp (b : Bench) (n : Nat) : Nat := fld (b.lw n 0xC) 29 16
def Bench.loopCass (b : Bench) (n : Nat) : Nat := fld (b.lw n 0xC) 13 0
def Bench.loopCasPoint (b : Bench) (n : Nat) : Bool := bitOf (b.lw n 0) 25
def Bench.loopAct (b : Bench) (n : Nat) : Bool := bitOf (b.lw n 0) 28
def Bench.loopSpl (b : Bench) (n : Nat) : Int := s16 (b.lw n 0x24)
def Bench.loopOutman (b : Bench) (n : Nat) : Int := sext 16 (fld (b.lw n 0x24) 31 16)
def Bench.loop (b : Bench) (n : Nat) : Loop := Tbl.get {} b.le.loops n
def Bench.setLoop (n : Nat) (l : Loop) (b : Bench) : Bench :=
  { b with le := { b.le with loops := Tbl.set {} b.le.loops n l } }

/-- Used loops (R213). -/
def usedIn (conf : Tbl Word) : List Nat :=
  conf.filterMap fun e =>
    if 0x80000 ≤ e.1 && e.1 < 0x88000 && e.1 % 64 = 0 && fld e.2 19 0 ≠ 0 then some ((e.1 - 0x80000) / 64) else none
def Bench.usedLoops (b : Bench) : List Nat := usedIn b.conf

def modeOf : Nat → LoopMode
  | 0 => .off | 1 => .man | 2 => .auto | 3 => .cas | _ => .trk

def tableAt (j : Nat) : Nat := 0x8000 + 0x2000 + 0x80 * j
/-- Y[i] of table j, and its UNI. -/
def Bench.tableY (b : Bench) (j i : Nat) : Int :=
  let w := b.cfg (tableAt j + 4 * (i / 2))
  if i % 2 = 0 then s16 w else sext 16 (fld w 31 16)
def Bench.tableUni (b : Bench) (j : Nat) : Bool := bitOf (b.cfg (tableAt j + 0x40)) 16

/-! ### Measurement (R222 to R224) -/

/-- A bad measurement (R222). -/
def qBad (q : Half) : Bool := !bitOf q qForced && !bitOf q qValid && !bitOf q qSubst

/-- Interpolation in a table (R224). -/
def Bench.interpolate (b : Bench) (j : Nat) (v : Int) : Int :=
  let uni := b.tableUni j
  if uni && v < 0 then b.tableY j 0
  else
    let z := (if uni then v else v + 32768).toNat
    let dv := if uni then 1024 else 2048
    let s := z / dv
    b.tableY j s + roundDiv ((b.tableY j (s + 1) - b.tableY j s) * ((z % dv : Nat) : Int)) dv

/-- The characteristic (R223). -/
def Bench.characteristic (b : Bench) (n : Nat) (v : Int) : Int :=
  let cpar := fld (b.lw n 4) 31 24
  match fld (b.lw n 0) 31 30 with
  | 1 => if v ≤ (cpar * 128 : Nat) then 0 else (sqrtNear (v.toNat * 32768) : Int)
  | 2 => b.interpolate cpar v
  | _ => v

/-! ### Setpoint (R225 to R227) -/

/-- One step of the ramp toward target T (R226). -/
def rampStep (rup rdn re : Nat) (t rsp : Int) : Int :=
  let tgt := t * 2 ^ 15
  if rsp < tgt then
    if rup = 0 then tgt else rsp + min (tgt - rsp) ((rup : Int) * 2 ^ re)
  else if tgt < rsp then
    if rdn = 0 then tgt else rsp - min (rsp - tgt) ((rdn : Int) * 2 ^ re)
  else rsp

/-- The working setpoint r of a ramped value. -/
def workingSp (rsp : Int) : Int := roundDiv rsp (2 ^ 15)

/-- The cascade source of a loop in CAS: its value, or none where it cannot serve (R227). -/
def Bench.casSource (b : Bench) (n : Nat) : Option Int :=
  let c := b.loopCass n
  if b.loopCasPoint n then
    if qBad (b.point c).quality then none else some (s16 (b.point c).value)
  else if (b.loop c).st.mode = .off then none else some (b.loop c).st.u

/-! ### The law (R229 to R235) -/

/-- shift(z, s) of R229. -/
def shiftZ (z s : Int) : Int := if 0 ≤ s then z * 2 ^ s.toNat else roundDiv z (2 ^ (-s).toNat)

def clipN (n : Nat) (z : Int) : Int := clipInt (-(2 ^ (n - 1) : Nat)) ((2 ^ (n - 1) : Nat) - 1) z
def clips (n : Nat) (z : Int) : Bool := clipN n z ≠ z

/-- ULO, UHI and, where ULO > UHI, the only value u may take (R231). -/
def Bench.loopLimits (b : Bench) (n : Nat) : Int × Int × Option Int :=
  let w := b.lw n 0x1C
  let ohi := sext 16 (fld w 31 16)
  let olo := s16 w
  let (glo, ghi) := b.loopClamp n
  let uhi := min ohi ghi
  let ulo := max olo glo
  (ulo, uhi, if uhi < ulo then some (if ohi < glo then glo else ghi) else none)

/-- A value held between the limits, or the only one left where they are apart (R231). -/
def held (z ulo uhi : Int) (apart : Option Int) : Int :=
  match apart with | some u => u | none => min (max z ulo) uhi

/-- The inputs of one update (R215). -/
structure LoopIn where
  x : Int
  bad : Bool
  r : Int
  rsp : Int
  ulo : Int
  uhi : Int
  apart : Option Int
  uprev : Int
  dyZero : Bool
  reinit : Bool
  compl : Bool
  upBlocked : Bool
  dnBlocked : Bool

/-- Error and derivative source (R232), with whether clipping happened. -/
def Bench.errYd (b : Bench) (n : Nat) (x r : Int) : Int × Int × Bool :=
  let act := b.loopAct n
  let z := if act then x - r else r - x
  let e := clipN 16 z
  let dsrc := bitOf (b.lw n 0) 29
  let yd := if !dsrc then e else if act then x else clipN 16 (-x)
  (e, yd, clips 16 z || (dsrc && !act && clips 16 (-x)))

/-- The derivative term of one update (R232): yd, D and whether it clipped. -/
def Bench.derivative (b : Bench) (n : Nat) (st : LoopState) (yd : Int) (dyZero : Bool) : Int × Bool :=
  let w14 := b.lw n 0x14
  let w18 := b.lw n 0x18
  let dy := if dyZero then 0 else yd - st.yp
  let z := roundDiv ((fld w18 15 0 : Int) * st.d) (2 ^ 15) + shiftZ ((fld w14 15 0 : Int) * dy) (fld w18 27 24)
  (clipN 32 z, clips 32 z)

/-- The law of R232 for AUTO and CAS with a good measurement. -/
def Bench.law (b : Bench) (n : Nat) (st : LoopState) (c : LoopIn) : LoopState :=
  let w10 := b.lw n 0x10
  let w14 := b.lw n 0x14
  let w18 := b.lw n 0x18
  let (e, yd, s1) := b.errYd n c.x c.r
  let p0 := shiftZ ((fld w10 15 0 : Int) * e) ((fld w18 19 16 : Int) - 8)
  let p := clipN 40 p0
  let (d, s2) := b.derivative n st yd c.dyZero
  let di := shiftZ ((fld w10 31 16 : Int) * e) ((fld w18 23 20 : Int) - 15)
  let hi := c.uhi * 2 ^ 15
  let lo := c.ulo * 2 ^ 15
  let t := p + st.i + di + d
  let hold := (0 < di && (hi < t || c.upBlocked)) || (di < 0 && (t < lo || c.dnBlocked))
  let i0 := if c.reinit then c.uprev * 2 ^ 15 - p - d else if hold then st.i else st.i + di
  let i1 := clipN 40 i0
  let v0 := p + i1 + d
  let v := clipN 40 v0
  let u := held (roundDiv v (2 ^ 15)) c.ulo c.uhi c.apart
  let w := min (max v lo) hi - v
  let i2 := i1 + shiftZ ((fld w14 31 16 : Int) * w) ((fld w18 31 28 : Int) - 30)
  { st with
    i := clipN 40 i2, d := d, yp := yd, u := u,
    hi := c.apart.isSome || (u = c.uhi && (hi < v || c.compl)), lo := c.apart.isSome || (u = c.ulo && v < lo),
    sat := st.sat || s1 || s2 || clips 40 p0 || clips 40 i0 || clips 40 v0 || clips 40 i2 }

/-! ### One update (R236 to R243) -/

/-- The secondary of a loop: the loop whose CASS names it with CASKIND 0 (R233). -/
def Bench.secondary (b : Bench) (n : Nat) : Option Nat :=
  b.usedLoops.find? fun s => s ≠ n && !b.loopCasPoint s && b.loopCass s = n

/-- Directions that a secondary in CAS blocks (R233). -/
def Bench.blocks (b : Bench) (n : Nat) : Bool × Bool :=
  match b.secondary n with
  | some s =>
    let st := (b.loop s).st
    let act := b.loopAct s
    if st.mode = .cas then ((st.hi && !act) || (st.lo && act), (st.lo && !act) || (st.hi && act)) else (false, false)
  | none => (false, false)

/-- The working setpoint of the secondary of a cascade-open primary (R239). -/
def Bench.openTo (b : Bench) (n : Nat) : Option Int :=
  match b.secondary n with
  | some s =>
    let st := (b.loop s).st
    if st.mode ≠ .cas || st.pvbad then some (workingSp st.rsp) else none
  | none => none

/-- The hand-over of R237 for MAN and TRK: u_new against u_prev. A ramp that still runs is at no limit (R231). -/
def Bench.handover (b : Bench) (n : Nat) (entry : Bool) (apart : Option Int) (unew uprev : Int) (st : LoopState) : LoopState :=
  let w := b.lw n 0x28
  let htime := fld w 31 16
  let diff := (unew - uprev).natAbs
  let st := if entry then
      if diff ≤ fld w 15 0 || htime = 0 then { st with handover := false }
      else { st with handover := true, step := ceilDiv diff htime, remain := htime }
    else st
  if st.handover then
    let rem := st.remain - 1
    if rem = 0 || diff ≤ st.step then { st with remain := rem, u := unew, handover := false }
    else { st with remain := rem, u := if uprev < unew then uprev + st.step else uprev - st.step, hi := apart.isSome, lo := apart.isSome }
  else { st with u := unew }

/-- A value limited under R231, with its HI and LO. -/
def limited (z ulo uhi : Int) (apart : Option Int) (st : LoopState) : Int × LoopState :=
  (held z ulo uhi apart, { st with hi := apart.isSome || uhi < z, lo := apart.isSome || z < ulo })

/-- Target, ramped value, SPL written by the engine and whether a cascade source was missing (R225 to R227, R238, R240, R242). -/
def Bench.setpoint (b : Bench) (n : Nat) (mode old : LoopMode) (first bad : Bool) (x : Int) (st : LoopState) :
    Int × Option Int × Bool :=
  let w := b.lw n 0x20
  let rup := fld w 31 16
  let rdn := fld w 15 0
  let re := fld (b.lw n 4) 23 20
  let pvtrk := bitOf (b.lw n 0) 27
  let spl := b.loopSpl n
  let ramp (t : Int) : Int := if first then t * 2 ^ 15 else rampStep rup rdn re t st.rsp
  match mode with
  | .cas =>
    match b.casSource n with
    | some t => (t * 2 ^ 15, none, false)
    | none => (workingSp st.rsp * 2 ^ 15, none, true)
  | .auto => if old = .cas && !first then (st.rsp, some (workingSp st.rsp), false) else (ramp spl, none, false)
  | .off => (ramp spl, none, false)
  | .man | .trk =>
    if pvtrk then
      if bad then (spl * 2 ^ 15, none, false) else (x * 2 ^ 15, some x, false)
    else (ramp spl, none, false)

/-- An update in AUTO or CAS: forced output, open cascade, bad measurement, or the law (R232, R239 to R241). -/
def Bench.autoUpdate (b : Bench) (n : Nat) (c : LoopIn) (first : Bool) (st : LoopState) : LoopState :=
  let (_, yd, s1) := b.errYd n c.x c.r
  let st := { st with handover := false, pvbad := c.bad }
  -- D and YP go on from a good measurement; YP takes its first value in the first update whatever it is (R242)
  let st' := if c.bad then (if first then { st with yp := yd } else st) else
    let (d, s2) := b.derivative n st yd (c.dyZero || first)
    { st with d := d, yp := yd, sat := st.sat || s1 || s2 }
  match (if bitOf (b.lw n 0) 26 then b.forceOn (b.loopOutp n) else none) with
  | some f => { st' with u := s16 f, ftrack := true, secOpen := false }
  | none =>
    match b.openTo n with
    | some z =>
      let (u, s) := limited z c.ulo c.uhi c.apart { st' with ftrack := false, secOpen := true }
      { s with u := u }
    | none =>
      if c.bad then { st' with u := c.uprev, ftrack := false, secOpen := false }
      else { b.law n st c with ftrack := false, secOpen := false }

/-- One whole update at its read moment (R232 to R243). -/
def Bench.update (b : Bench) (n : Nat) (l : Loop) (d : LoopDo) : LoopState × Option Int × Option Int :=
  let q := l.req
  let first := q.entry
  let st := if d.clear then { l.st with miss := false, sat := false } else l.st
  let (ulo, uhi, apart) := b.loopLimits n
  let st := if first then { st with d := 0, u := held (s16 (b.point (b.loopOutp n)).value) ulo uhi apart } else st
  let st := match q.driven with | some u => { st with u := u } | none => st
  let old := if first then .off else st.mode
  let mode := match d.mode with | some m => m | none => if first then modeOf (fld (b.lw n 0) 24 22) else st.mode
  let pv := b.point (b.loopPvp n)
  let bad := qBad pv.quality
  let x := b.characteristic n (s16 pv.value)
  let (rsp, spl, srcOpen) := b.setpoint n mode old first bad x st
  let compl := bitOf (b.point (b.loopOutp n)).quality qCompliance
  let (sup, sdn) := b.blocks n
  let reg := mode = .auto || mode = .cas
  let wasForced := st.ftrack
  let reinit := reg && (mode ≠ old || d.reinit || (st.pvbad && !bad) || wasForced || st.secOpen || q.driven.isSome)
  let dyZero := first || q.resume || (st.pvbad && !bad)
  let c : LoopIn := { x := x, bad := bad, r := workingSp rsp, rsp := rsp, ulo := ulo, uhi := uhi, apart := apart,
                      uprev := st.u, dyZero := dyZero, reinit := reinit, compl := compl,
                      upBlocked := compl || sup, dnBlocked := sdn }
  let st := { st with mode := mode, rsp := rsp, compl := compl, srcOpen := srcOpen }
  let (_, yd, s1) := b.errYd n x c.r
  match mode with
  | .off =>
    ({ st with d := 0, yp := yd, handover := false, ftrack := false, secOpen := false, pvbad := false, sat := st.sat || s1 }, none, spl)
  | .auto | .cas =>
    let s := b.autoUpdate n c first st
    (s, some s.u, spl)
  | .man | .trk =>
    let z := if mode = .man then b.loopOutman n else s16 (b.point (b.loopTrkp n)).value
    let (d, s2) := b.derivative n st yd dyZero
    let st := { st with d := d, yp := yd, ftrack := false, secOpen := false, pvbad := false, sat := st.sat || s1 || s2 }
    let (unew, st) := limited z ulo uhi apart st
    let s := b.handover n (mode ≠ old) apart unew c.uprev st
    (s, some s.u, spl)

/-- The guard's clamp, tighter than the loop's own limits, limited an update (R231, R543): not where its output was not
limited at all, in OFF, forced, or held for a bad measurement. -/
def Bench.loopClipped (b : Bench) (n : Nat) (st : LoopState) : Bool :=
  let w := b.lw n 0x1C
  let (glo, ghi) := b.loopClamp n
  let reg := st.mode = .auto || st.mode = .cas
  st.mode ≠ .off && !st.ftrack && !(reg && st.pvbad && !st.secOpen) &&
    ((st.hi && ghi < sext 16 (fld w 31 16)) || (st.lo && s16 w < glo))

/-- The instants of a loop (R214). -/
def Bench.loopInstant (b : Bench) (n : Nat) (t : Time) : Bool :=
  b.loopPhase n * 10000 ≤ t && (t - b.loopPhase n * 10000) % (b.loopPeriod n * 10000) = 0

/-- The commands that stand among those that reach one update: of each opcode the last (R248). -/
def standing : List (Nat × LoopCmd) → List (Nat × LoopCmd)
  | [] => []
  | e :: r => if r.any (fun f => f.2.opcode == e.2.opcode) then standing r else e :: standing r

/-- What they ask of the update itself. -/
def askedOf (l : List (Nat × LoopCmd)) : LoopDo :=
  l.foldl (fun d e => match e.2 with
    | .mode m => { d with mode := some m }
    | .tune _ r => { d with reinit := r }
    | .clear => { d with clear := true }
    | _ => d) {}

/-- The descriptor words that a command replaces, as (word offset, value). An SPL that a recipe wrote with a rail value
at or after the acceptance time z stands (R228). -/
def Bench.cmdWords (b : Bench) (n z : Nat) (c : LoopCmd) : List (Nat × Word) :=
  let old := b.lw n 0x24
  let keep : Bool := match (b.loop n).splAt with | some r => z ≤ r | none => false
  let spl (w : Word) : Word := if keep then putFld w 15 0 (fld old 15 0) else w
  match c with
  | .sp v => [(0x24, spl (putFld old 15 0 (half v)))]
  | .out v => [(0x24, putFld old 31 16 (half v))]
  | .tune ws _ => ws.map fun e => if e.1 = 0x24 then (e.1, spl e.2) else e
  | _ => []

def Bench.setWords (n : Nat) (ws : List (Nat × Word)) (b : Bench) : Bench :=
  ws.foldl (fun b e => b.setCfg (loopAt n + e.1) e.2) b

/-- The descriptor words that a LOOP_TUNE may replace (R247). -/
def tunable : List Nat := (List.range 7).map fun i => 0x10 + 4 * i

/-- Commands accepted before this read moment replace their words of the descriptor (R228, R247). -/
def Bench.takeCmds (n : Nat) (l : List (Nat × LoopCmd)) (b : Bench) : Bench :=
  l.foldl (fun b e => b.setWords n (b.cmdWords n e.1 e.2)) b

/-- A recipe writes SPL of a loop, used or not, at the boundary instant t (R228, R258). A miss does not take it back, and
the release of an update already read does not write over it. -/
def Bench.recipeSpl (n t : Nat) (v : Int) (b : Bench) : Bench :=
  let put (w : Word) : Word := putFld w 15 0 (half v)
  let l := b.loop n
  let upd := l.upd.map fun u => { u with spl := none, undo := u.undo.map fun e => if e.1 = 0x24 then (e.1, put e.2) else e }
  (b.setCfg (loopAt n + 0x24) (put (b.lw n 0x24))).setLoop n { l with splAt := some t, upd := upd }

/-- The read moment t(k) + 4 µs (R215): inputs and released states taken, results held until the release (R216). -/
def Bench.loopRead (n : Nat) (b : Bench) : Bench :=
  let t := b.rail.now
  if b.bn.mode = .run && b.loopPeriod n ≠ 0 && 4000 ≤ t && b.loopInstant n (t - 4000) && b.pe.startAt ≤ t - 4000 &&
      (b.loop n).upd.isNone then
    let l := b.loop n
    let took := standing (l.cmds.filter fun e => e.1 < t)
    let undo := tunable.map fun o => (o, b.lw n o)
    let b := b.takeCmds n took
    let (st, out, spl) := b.update n l (askedOf took)
    let u : LoopUpdate :=
      { due := t - 4000 + b.loopPeriod n * 10000, state := st, out := out, spl := spl, clipped := b.loopClipped n st,
        req := l.req, took := took, undo := undo }
    b.setLoop n { l with req := {}, cmds := l.cmds.filter (fun e => t ≤ e.1), upd := some u }
  else b

/-- LOOP_READ (R215). -/
def execLoopRead (bn : BenchIx) (t : Nat) (n : Fin 512) (s : State) : Host.Outcome State Fault Refusal :=
  s.onBench bn fun b => (b.tick t).loopRead n.val

/-- What was due to act in an update that is discarded acts in the next one, as if accepted for it (R218). -/
def Bench.loopAgain (n : Nat) (l : Loop) (u : LoopUpdate) (b : Bench) : Bench :=
  let q : LoopReq :=
    { entry := u.req.entry || l.req.entry, resume := u.req.resume || l.req.resume,
      driven := match l.req.driven with | some v => some v | none => u.req.driven }
  (b.setWords n u.undo).setLoop n { l with upd := none, req := q, cmds := u.took ++ l.cmds }

/-- A missed update (R218). -/
def Bench.loopMiss (n : Nat) (l : Loop) (u : LoopUpdate) (b : Bench) : Bench :=
  let was := l.st.miss
  let b := b.loopAgain n { l with st := { l.st with miss := true } } u
  let b : Bench := { b with le := { b.le with missCnt := inc b.le.missCnt, missLast := at32 1 31 ||| at32 n 0 } }
  let b := b.health 0
  let p := b.loopOutp n
  let e := b.point p
  let per := b.loopPeriod n * 10000
  let b := if l.st.mode ≠ .off then
      b.produce .loop p e.value (putBit (putBit e.quality qMiss true) qForced false) u.due per
    else b
  let w := BitVec.ofNat 32 n
  let b := b.raise 5 0 w (if was then 0 else w) 0
  if was then b else b.errorCause 4 w

/-- The release of an update (R216): output point, state, SPL; margin is the time it was complete before. -/
def Bench.loopDone (n margin : Nat) (l : Loop) (u : LoopUpdate) (b : Bench) : Bench :=
  let b := b.setLoop n { l with st := { u.state with miss := l.st.miss && u.state.miss }, upd := none }
  let b := if margin < b.le.slackMin.toNat then
    { b with le := { b.le with slackMin := BitVec.ofNat 32 margin } } else b
  let b := match u.spl with
    | some v => b.setCfg (loopAt n + 0x24) (putFld (b.lw n 0x24) 15 0 (half v))
    | none => b
  let p := b.loopOutp n
  let b := match u.out with
    | some z => b.produce .loop p (ofS z) qLive u.due (b.loopPeriod n * 10000)
    | none => b
  let b := if u.clipped then b.guardClip else b
  let w := BitVec.ofNat 32 n
  let b := if u.state.sat && !l.st.sat then b.raise 5 1 w 0 0 else b
  if u.state.pvbad && !l.st.pvbad then
    Bench.raise 5 2 w 0 0 { b with le := { b.le with pvbadCnt := inc b.le.pvbadCnt } }
  else b

/-- The release moment t(k+1) − 2 µs: results released together, or the update is missed (R216, R218). -/
def Bench.loopRelease (n : Nat) (margin : Option Nat) (b : Bench) : Bench :=
  let l := b.loop n
  match l.upd with
  | some u =>
    if b.bn.mode = .run && u.due ≤ b.rail.now + 2000 then
      match margin with
      | some m => b.loopDone n m l u
      | none => b.loopMiss n l u
    else b
  | none => b

/-- LOOP_RELEASE (R216, R218): margin is how long before its release moment the update was complete, in ns;
none when it was not complete. -/
def execLoopRelease (bn : BenchIx) (t : Nat) (n : Fin 512) (margin : Option Nat) (s : State) :
    Host.Outcome State Fault Refusal :=
  s.onBench bn fun b => (b.tick t).loopRelease n.val margin

/-! ### Checks (R220, R246) -/

/-- Σ of loop update rates in one second, as a fraction (R220). -/
def loopRate (conf : Tbl Word) : Nat × Nat :=
  (usedIn conf).foldl (fun (n, d) k =>
    let p := fld (Tbl.get 0 conf (loopAt k)) 19 0
    (n * p + 100000 * d, d * p)) ((0 : Nat), (1 : Nat))
def loopRateOk (conf : Tbl Word) : Bool := (loopRate conf).1 ≤ 10000000 * (loopRate conf).2

/-- A point that a loop may name (R221). -/
def Bench.q15Point (b : Bench) (p : Nat) : Bool := (b.point p).format = 1 || (b.point p).format = 2

/-- The chain of cascade sources from a loop comes back to it (R246). -/
def Bench.casCycle (b : Bench) (n : Nat) : Nat → Nat → Bool
  | 0, _ => true
  | k + 1, m =>
    if b.loopCasPoint m || b.loopCass m = 0x3FFF then false
    else if b.loopCass m = n then true
    else b.casCycle n k (b.loopCass m)

/-- R246 for the fields of words 0x10 to 0x28. -/
def Bench.tuneOk (w : Nat → Word) : Bool :=
  !bitOf (w 0x10) 31 && !bitOf (w 0x10) 15 && !bitOf (w 0x14) 31 && !bitOf (w 0x14) 15 && !bitOf (w 0x18) 15 &&
  s16 (w 0x1C) ≤ sext 16 (fld (w 0x1C) 31 16)

/-- A used descriptor breaks no condition of R246. -/
def Bench.loopOk (b : Bench) (n : Nat) : Bool :=
  let w0 := b.lw n 0
  let per := b.loopPeriod n
  let cas := b.loopCass n
  2 ≤ per && per ≤ 1000000 && b.loopPhase n < per && fld w0 31 30 ≠ 3 &&
  (fld w0 31 30 ≠ 2 || fld (b.lw n 4) 31 24 ≤ 63) && fld w0 24 22 ≤ 4 && Bench.tuneOk (b.lw n) &&
  (b.point (b.loopOutp n)).source = 5 && b.q15Point (b.loopOutp n) && b.q15Point (b.loopPvp n) &&
  (b.loopTrkp n = 0x3FFF || b.q15Point (b.loopTrkp n)) &&
  b.usedLoops.all (fun m => m = n || b.loopOutp m ≠ b.loopOutp n) &&
  (fld w0 24 22 ≠ 3 || cas ≠ 0x3FFF) && (fld w0 24 22 ≠ 4 || b.loopTrkp n ≠ 0x3FFF) &&
  (if b.loopCasPoint n then cas = 0x3FFF || b.q15Point cas
   else cas = 0x3FFF || (cas < 512 && cas ≠ n && b.loopPeriod cas ≠ 0 &&
     b.usedLoops.all (fun m => m = n || b.loopCasPoint m || b.loopCass m ≠ cas) && !b.casCycle n 513 n))

/-- The check of every used descriptor at BENCH_RUN: REJ of each, LE_RATE, and whether all pass (R220, R246). -/
def Bench.loopsCheck (b : Bench) : Bench :=
  let r := loopRate b.conf
  let b' := { b with le := { b.le with rate := BitVec.ofNat 32 (ceilDiv r.1 r.2) } }
  b.usedLoops.foldl (fun x n =>
    let l := x.loop n
    x.setLoop n { l with st := { l.st with rej := !b.loopOk n } }) b'
def Bench.loopsOk (b : Bench) : Bool := b.usedLoops.all b.loopOk

/-! ### Bench modes (R242 to R244) -/

/-- Entry into RUN from CONFIGURE: the next update of each used loop is its first (R242). -/
def Bench.loopsEnter (b : Bench) : Bench :=
  b.usedLoops.foldl (fun b n => b.setLoop n { st := { rej := (b.loop n).st.rej }, req := { entry := true } }) b

/-- A warm restart or a takeover (R243): driven gives u_prev for a takeover. -/
def Bench.loopsResume (driven : Nat → Option Int) (b : Bench) : Bench :=
  b.usedLoops.foldl (fun b n =>
    let l := b.loop n
    b.setLoop n { l with upd := none, req := { l.req with resume := true, driven := driven n } }) b

/-- Leaving RUN discards updates not yet released (R244). -/
def Bench.loopsLeave (b : Bench) : Bench :=
  b.usedLoops.foldl (fun b n =>
    let l := b.loop n
    match l.upd with | some u => b.loopAgain n l u | none => b) b

/-! ### Commands (R247, R248) -/

/-- t(k) of the first read moment after acceptance (R247). -/
def Bench.firstUpdate (b : Bench) (n : Nat) : Nat :=
  let ph := b.loopPhase n * 10000
  let lo := max b.pe.startAt (b.acc + 1 - 4000)
  if lo ≤ ph then ph else ph + firstMul (b.loopPeriod n * 10000) (lo - ph)

/-- A command waits for the loop's next read moment. -/
def Bench.loopWaits (n : Nat) (x : LoopCmd) (b : Bench) : Bench :=
  let l := b.loop n
  b.setLoop n { l with cmds := l.cmds ++ [(b.acc, x)] }

/-- A command that names a used loop; result t(k). -/
def Bench.loopCommand (c : Cmd) (n : Nat) (ok : Bool) (x : LoopCmd) (b : Bench) : Bench :=
  if b.loopPeriod n = 0 || !ok then b.refuse c .badParam
  else (b.loopWaits n x).complete c .ok (b.firstUpdate n)

/-- LOOP_SET_MODE (R236 to R238, R247, R248). -/
def execLoopSetMode (c : Cmd) (w : Word) (s : State) : Host.Outcome State Fault Refusal :=
  s.onBench c.bench (Bench.accept (.loopSetMode c w) c modesRun fun b =>
    let n := fld w 8 0
    let m := fld w 18 16
    let ok := m ≤ 4 && (m ≠ 3 || b.loopCass n ≠ 0x3FFF) && (m ≠ 4 || b.loopTrkp n ≠ 0x3FFF)
    b.loopCommand c n ok (.mode (modeOf m)))

/-- LOOP_SET_SP (R228, R247). -/
def execLoopSetSp (c : Cmd) (w sp : Word) (s : State) : Host.Outcome State Fault Refusal :=
  s.onBench c.bench (Bench.accept (.loopSetSp c w sp) c modesRun fun b =>
    b.loopCommand c (fld w 8 0) true (.sp (s16 sp)))

/-- LOOP_SET_OUT (R247). -/
def execLoopSetOut (c : Cmd) (w out : Word) (s : State) : Host.Outcome State Fault Refusal :=
  s.onBench c.bench (Bench.accept (.loopSetOut c w out) c modesRun fun b =>
    b.loopCommand c (fld w 8 0) true (.out (s16 out)))

/-- The masked words of a LOOP_TUNE, as (word offset, value). -/
def tuneWords (mask : Nat) (vs : List Word) : List (Nat × Word) :=
  ((List.range 7).zip vs).filterMap fun e => if mask.testBit e.1 then some (0x10 + 4 * e.1, e.2) else none

/-- LOOP_TUNE (R246 to R248). -/
def execLoopTune (c : Cmd) (w v0 v1 v2 v3 v4 v5 v6 : Word) (s : State) : Host.Outcome State Fault Refusal :=
  s.onBench c.bench (Bench.accept (.loopTune c w v0 v1 v2 v3 v4 v5 v6) c modesRun fun b =>
    let n := fld w 8 0
    let ws := tuneWords (fld w 22 16) [v0, v1, v2, v3, v4, v5, v6]
    let ok := Bench.tuneOk fun o => match ws.find? (fun e => e.1 == o) with | some e => e.2 | none => b.lw n o
    b.loopCommand c n ok (.tune ws (bitOf w 31)))

/-- LOOP_SET_TABLE (R247, R250): 32 words, of which 17 hold the values and UNI. -/
def execLoopSetTable (c : Cmd) (w : Word) (data : List Word) (s : State) : Host.Outcome State Fault Refusal :=
  s.onBench c.bench (Bench.accept (.loopSetTable c w data) c modesRun fun b =>
    let j := fld w 5 0
    if data.length ≠ 32 then b.refuse c .badParam
    else
      let b := ((List.range 17).zip data).foldl (fun b e =>
        b.setCfg (tableAt j + 4 * e.1) (if e.1 = 16 then e.2 &&& 0x1FFFF else e.2)) b
      b.complete c .ok 0)

/-- LOOP_CLEAR (R247). -/
def execLoopClear (c : Cmd) (w : Word) (s : State) : Host.Outcome State Fault Refusal :=
  s.onBench c.bench (Bench.accept (.loopClear c w) c modesRun fun b =>
    if w = 0xFFFF then (b.usedLoops.foldl (fun b n => b.loopWaits n .clear) b).complete c .ok 0
    else b.loopCommand c (fld w 8 0) true .clear)

/-- LE_CNT_CLR (R249). -/
def execLeCntClr (bn : BenchIx) (v : Word) (s : State) : Host.Outcome State Fault Refusal :=
  s.onBench bn fun b => { b with le := { b.le with
    missCnt := if bitOf v 0 then 0 else b.le.missCnt, pvbadCnt := if bitOf v 1 then 0 else b.le.pvbadCnt,
    slackMin := if bitOf v 16 then BitVec.allOnes 32 else b.le.slackMin } }

/-- Descriptor words 0x2C to 0x3C as a host reads them (R245). -/
def Bench.loopStateWord (b : Bench) (n o : Nat) : Word :=
  let st := (b.loop n).st
  match o with
  | 0x2C => if st.mode = .man || st.mode = .trk then at32 (st.step % 65536) 16 ||| at32 (st.remain % 65536) 0 else ofS st.i
  | 0x30 => ofS st.d
  | 0x34 => ofS st.rsp
  | 0x38 => at32 (fld (BitVec.ofInt 40 st.i) 39 32) 24 ||| at32 (half st.yp) 0
  | _ => at32 (half st.u) 16 ||| at32 st.mode.code 13 ||| at32 (b2n st.handover) 12 ||| at32 (b2n st.miss) 11 |||
         at32 (b2n st.hi) 10 ||| at32 (b2n st.lo) 9 ||| at32 (b2n st.sat) 8 ||| at32 (b2n st.compl) 7 |||
         at32 (b2n (st.srcOpen || st.secOpen)) 6 ||| at32 (b2n st.ftrack) 5 ||| at32 (b2n st.pvbad) 4 ||| at32 (b2n st.rej) 3

end Sys2Proof.Machine
end

