-- ==== Sys2Proof/Machine/Quoin.lean ====
section
/-!
DEFINITION. Quoin, the safety unit: lanes, inputs, OSSDs, states, axis functions, configuration (R349 to R390).
-/
namespace Sys2Proof.Machine

/-! ### Configuration (R390) -/

/-- Word k of a configuration block. -/
def cfgWord (v : Vector Word 24) (k : Nat) : Word := v.toList.getD k 0
/-- Word k of the active configuration; 0 while there is none. -/
def Bench.qw (b : Bench) (k : Nat) : Word := match b.qn.cfg with | some v => cfgWord v k | none => 0
/-- A point field of the active configuration. -/
def Bench.quoinPoint (b : Bench) (k hi lo : Nat) : Option Nat :=
  if b.qn.cfg.isNone then none else let p := fld (b.qw k) hi lo; if p = 0x3FFF then none else some p
def Bench.qRestart (b : Bench) : Bool := bitOf (b.qw 0) 30
def Bench.qRstTp (b : Bench) : Bool := bitOf (b.qw 0) 29
def Bench.qTpp (b : Bench) : Nat := fld (b.qw 1) 31 20 * 1000000
def Bench.qTpw (b : Bench) : Nat := fld (b.qw 1) 3 0 * 100000
def Bench.qSmode (b : Bench) (i : Nat) : Nat := fld (b.qw (2 + i)) 31 30
def Bench.qAction (b : Bench) (i : Nat) : Nat := fld (b.qw (2 + i)) 29 28
def Bench.qIfilt (b : Bench) (ch : Nat) : Nat := if ch = 4 then 1000000 else fld (b.qw (2 + ch / 2)) 14 8 * 100000
def Bench.qDisc (b : Bench) (i : Nat) : Nat := fld (b.qw (2 + i)) 6 0 * 10000000
def Bench.qOpp (b : Bench) : Nat := fld (b.qw 4) 31 20 * 1000000
def Bench.qOpw (b : Bench) : Nat := fld (b.qw 4) 8 0 * 1000
def Bench.qSs1 (b : Bench) : Nat := fld (b.qw 5) 31 16 * 1000000
def Bench.stopMask (b : Bench) : List Nat := (List.range 10).filter fun a => bitOf (b.qw 5) a
/-- Word o of the block of monitored axis q. -/
def Bench.qa (b : Bench) (q o : Nat) : Word := b.qw (8 + 8 * q + o)
def Bench.qAxisEn (b : Bench) (q : Nat) : Bool := bitOf (b.qa q 0) 31
def Bench.qAxis (b : Bench) (q : Nat) : Nat := fld (b.qa q 0) 3 0
def Bench.qFact (b : Bench) (q : Nat) : Nat := fld (b.qa q 0) 23 22
def Bench.qSwin (b : Bench) (q : Nat) : Nat := fld (b.qa q 2) 31 24
def Bench.qSls (b : Bench) (q : Nat) : Nat := fld (b.qa q 2) 23 0
def Bench.qPtol (b : Bench) (q : Nat) : Nat := fld (b.qa q 5) 31 16

def Bench.setQuoin (f : Quoin → Quoin) (b : Bench) : Bench := { b with qn := f b.qn }
def Quoin.lane (q : Quoin) (laneB : Bool) : Lane := if laneB then q.b else q.a
def Bench.setLane (laneB : Bool) (l : Lane) (b : Bench) : Bench :=
  b.setQuoin fun q => if laneB then { q with b := l } else { q with a := l }
def Bench.lane (laneB : Bool) (b : Bench) : Lane := b.qn.lane laneB

/-- QN_FAULT: what either lane has latched (R389). -/
def Quoin.fault (q : Quoin) : Word := q.a.fault ||| q.b.fault
/-- Functions that either lane finds violated (R374). -/
def Quoin.fdem (q : Quoin) : Word := q.a.fdem ||| q.b.fdem

/-! ### Demands (R354, R358, R365) -/

/-- Filtered state of a channel of a lane. -/
def Lane.filt (l : Lane) (ch : Fin 5) : Bool := l.ch[ch].filt
/-- Channels A and B of input i. -/
def chanA (i : Nat) : Fin 5 := if i = 0 then 0 else 2
def chanB (i : Nat) : Fin 5 := if i = 0 then 1 else 3
/-- A channel of input i stands in the demand state (R354). -/
def Bench.offA (b : Bench) (l : Lane) (i : Nat) : Bool := b.qSmode i ≠ 0 && !l.filt (chanA i)
def Bench.offB (b : Bench) (l : Lane) (i : Nat) : Bool :=
  if b.qSmode i = 0 then false else if b.qSmode i = 2 then l.filt (chanB i) else !l.filt (chanB i)
/-- Input i is in demand in a lane (R354, R358). -/
def Bench.inputDemand (b : Bench) (l : Lane) (i : Nat) : Bool :=
  b.offA l i || b.offB l i || bitOf b.qn.fault i || bitOf b.qn.fault (2 + i)
/-- Channels of input i disagree in a lane (R357). -/
def Bench.disagree (b : Bench) (l : Lane) (i : Nat) : Bool := b.qSmode i ≠ 0 && (b.offA l i != b.offB l i)
/-- The demands a lane sees: its inputs, and the functions violated in either lane (R374). -/
def Bench.laneDemand (b : Bench) (l : Lane) : Word :=
  b.qn.fdem ||| at32 (b2n (b.inputDemand l 0)) 1 ||| at32 (b2n (b.inputDemand l 1)) 2
/-- The action of a function code (R365). -/
def Bench.actionOf (b : Bench) (code : Nat) : Nat :=
  if code = 1 || code = 2 then b.qAction (code - 1)
  else if 3 ≤ code && code ≤ 8 then b.qFact ((code - 3) % 2)
  else 0
/-- The demands of a word whose action is k. -/
def Bench.withAction (b : Bench) (k : Nat) (w : Word) : Bool :=
  (List.range 9).any fun c => bitOf w c && b.actionOf c = k
/-- Module faults (R375). -/
def Quoin.moduleFault (q : Quoin) : Bool := fld q.fault 10 4 ≠ 0

/-! ### Stops (R366) -/

/-- Lane A stops every axis in STOPMASK: hard, or down its ramp (R289, R366). -/
def Bench.quoinHard (b : Bench) : Bench := b.stopMask.foldl (fun b a => b.axisHard a) b
def Bench.quoinRamp (b : Bench) : Bench :=
  b.stopMask.foldl (fun b a =>
    let x := b.axis a
    if x.state = .armed || x.state = .moving || x.state = .jogging || x.state = .homing then b.axisStopOne false a else b) b

/-- A lane latches a QN_FAULT bit. -/
def Lane.latch (bit : Nat) (l : Lane) : Lane :=
  if bitOf l.fault bit then l
  else { l with fault := putBit l.fault bit true, clearSeen := l.clearSeen.setIfInBounds bit false }

/-- A fault that one lane latches; a module fault as soon as one lane has it (R351, R365, R375). -/
def Bench.laneFault (laneB : Bool) (bit : Nat) (b : Bench) : Bench :=
  let was := bitOf b.qn.fault bit
  let b := b.setLane laneB ((b.lane laneB).latch bit)
  if was || !(4 ≤ bit && bit ≤ 10) then b
  else ((((b.health 14).earlyClose 4).errorCause 14 15).raise 9 3 0 15 0).quoinHard

/-- A fault that both lanes latch (R359, R362, R372, R375). -/
def Bench.quoinFault (bit : Nat) (b : Bench) : Bench := (b.laneFault false bit).laneFault true bit

/-! ### Lane states (R364, R366) -/

/-- A lane is at its standstill (R366). -/
def Bench.laneStands (b : Bench) (laneB : Bool) : Bool :=
  if laneB then
    [(0 : Fin 2), 1].all fun q => !b.qAxisEn q.val || !b.stopMask.contains (b.qAxis q.val) ||
      b.qn.b.spd[q].natAbs ≤ fld (b.qa q.val 6) 15 0
  else b.stopMask.all fun a => (b.axis a).state = .idle

/-- One row of R364 for a lane, the first that applies: the new state, and whether RST_REQ sets (R368). fell:
OUT_EN has just fallen or lockout begun. -/
def Bench.laneRow (b : Bench) (laneB fell : Bool) : QState × Bool :=
  let l := b.lane laneB
  let d := b.laneDemand l
  let d1 := b.withAction 1 d
  let d2 := b.withAction 2 d
  if b.qn.moduleFault then (.fault, false)
  else match l.state with
    | .on => if d1 then (.demand, false) else if d2 then (.stopping, false) else if fell then (.ready, true) else (.on, false)
    | .ready => if d1 || d2 then (.demand, false) else if !b.qn.rstReq then (.on, false) else (.ready, false)
    | .start => if d1 || d2 then (.demand, false) else if !b.qn.stPend then (.ready, false) else (.start, false)
    | .stopping => if d1 || b.laneStands laneB then (.demand, false) else (.stopping, false)
    | .demand => if d ≠ 0 then (.demand, false) else (if b.qn.stPend then .start else .ready, !b.qRestart)
    | st => (st, false)

/-- Rows of R364 until none applies. -/
def Bench.laneRun (laneB : Bool) : Nat → Bool → Bench → Bench
  | 0, _, b => b
  | k + 1, fell, b =>
    let l := b.lane laneB
    let (st, req) := b.laneRow laneB fell
    let b := if req then b.setQuoin fun q => { q with rstReq := true } else b
    if st = l.state then b
    else Bench.laneRun laneB k false (b.setLane laneB { l with state := st, stopAt := if st = .stopping then b.rail.now else l.stopAt })

/-! ### OSSDs (R350, R360) -/

/-- REQP asks for the OSSDs: its value is 1, read by its FORMAT (R10, R360). -/
def Bench.reqOk (b : Bench) : Bool :=
  match b.quoinPoint 0 13 0 with
  | none => true
  | some p =>
    let e := b.point p
    (if e.format = 3 then boolOf e.value else e.value = 1) && bitOf e.quality qValid

/-- A lane may have its switches closed (R350, R360, R366): ON in both lanes, or switches found closed by a controlled
stop, its own or one that the other lane has just decided. -/
def Bench.permits (b : Bench) (laneB : Bool) : Bool :=
  let l := b.lane laneB
  let o := b.lane (!laneB)
  let ok := (l.state = .on && o.state = .on) || (l.closed && (l.state = .stopping || (l.state = .on && o.state = .stopping)))
  ok && b.outEn && b.reqOk && !b.fc.lockout && b.fc.powered && !l.driveLost
/-- LANE_A_PERMIT, LANE_B_PERMIT (R389). -/
def Bench.permit (b : Bench) (laneB : Bool) : Bool := (b.lane laneB).closed
/-- The switches of both lanes, and the OSSDs, which both lanes' switches feed. -/
def Bench.ossdFollow (b : Bench) : Bench :=
  let pa := b.permits false
  let pb := b.permits true
  let on := pa && pb
  let at' := if on = b.qn.ossdOn then b.qn.ossdAt else b.rail.now
  b.setQuoin fun q => { q with
    a := { q.a with closed := pa }, b := { q.b with closed := pb }, ossdOn := on, ossdAt := at' }

/-! ### Mirror points (R367) -/

/-- Mirror values of SI0, SI1, OSSD, state. -/
def Bench.mirrorNow (b : Bench) : List Word :=
  let d := b.qn.a.demand ||| b.qn.b.demand
  [boolW (!bitOf d 1), boolW (!bitOf d 2), boolW b.qn.ossdOn, BitVec.ofNat 32 b.qn.a.state.code]
where boolW (v : Bool) : Word := if v then 1 else 0
/-- The mirror points, in the order of their values. -/
def Bench.mirrorPoints (b : Bench) : List (Option Nat) :=
  [b.quoinPoint 6 13 0, b.quoinPoint 6 29 16, b.quoinPoint 7 13 0, b.quoinPoint 7 29 16]
/-- Lane A writes the mirror points whose value changed. -/
def Bench.mirrorWrite (b : Bench) : Bench :=
  let new := b.mirrorNow
  let old := b.qn.mirror
  let b := b.setQuoin fun q => { q with mirror := new }
  (List.range 4).foldl (fun b k =>
    match b.mirrorPoints.getD k none with
    | some p => if old[k]? = new[k]? then b else b.writePoint .face p (new.getD k 0) qLive b.rail.now
    | none => b) b

/-! ### Activation and axis positions (R372 to R374) -/

/-- The source of a function is active: never, always, SI0 or SI1 in demand in either lane (R374); in WAKE lane B runs
alone (R349). -/
def Bench.sourceOn (b : Bench) (src : Nat) : Bool :=
  if src = 0 then false else if src = 1 then true
  else (b.bn.mode ≠ .wake && b.inputDemand b.qn.a (src - 2)) || b.inputDemand b.qn.b (src - 2)
/-- Functions activated now: SLS 3 and 4, SLP 5 and 6, SDI 7 and 8. -/
def Bench.activeNow (b : Bench) : Word :=
  [0, 1].foldl (fun w q =>
    if b.qAxisEn q then
      let c := b.qa q 0
      putBit (putBit (putBit w (3 + q) (b.sourceOn (fld c 30 29))) (5 + q) (b.sourceOn (fld c 28 27))) (7 + q) (b.sourceOn (fld c 26 25))
    else w) 0

/-- Positions of monitored axis q in the lanes (R372). -/
def Bench.quoinPosA (b : Bench) (q : Fin 2) : Int :=
  (b.axis (b.qAxis q.val)).pos - b.qn.posRef[q] + b.qn.pRef[q]
def Bench.quoinPosB (b : Bench) (q : Fin 2) : Int :=
  let c := b.qa q.val 1
  Int.tdiv (wrap32 (b.fc.enc[q].laneB - b.qn.cRef[q]) * (fld c 15 0 : Nat)) (fld c 31 16 : Nat) + b.qn.pRef[q]

/-- References whose instant has come set, and are logged (R373, R384). -/
def Bench.refSettle (cal : Nat) (b : Bench) : Bench :=
  let due := b.qn.setRef.filter fun r => r.2.1 ≤ b.rail.now
  let b := b.setQuoin fun x => { x with setRef := x.setRef.filter fun r => b.rail.now < r.2.1 }
  due.foldl (fun b r =>
    let q : Fin 2 := mkIx 1 r.1
    let b := b.setQuoin fun x => { x with
      ref := x.ref.set q true, pRef := x.pRef.set q r.2.2,
      posRef := x.posRef.set q (b.axis (b.qAxis q.val)).pos, cRef := x.cRef.set q b.fc.enc[q].laneB }
    b.quoinLog cal 9 0 b.qn.crc (BitVec.ofNat 32 q.val)) b

/-- SLP of axis q is violated in a lane (R374). -/
def Bench.slpBad (b : Bench) (q : Fin 2) (p : Int) : Bool :=
  !b.qn.ref[q] || p < s32 (b.qa q.val 3) || s32 (b.qa q.val 4) < p

/-- Activation edges: the activation moment, the positions SDI latches, the limit SLS imposes; a function
that is deactivated ends its demand; SLP without a reference demands at once (R374). -/
def Bench.activate (b : Bench) : Bench :=
  let new := b.activeNow
  let old := b.qn.active
  if new = old then b
  else
    let b := b.setQuoin fun q => { q with
      active := new, a := { q.a with fdem := q.a.fdem &&& new }, b := { q.b with fdem := q.b.fdem &&& new } }
    let b := [(0 : Fin 2), 1].foldl (fun b q =>
      let rises (c : Nat) : Bool := bitOf new c && !bitOf old c
      let b := if rises (3 + q.val) then b.setQuoin fun x => { x with actAt := x.actAt.set q b.rail.now } else b
      let slp (l : Lane) : Lane := { l with fdem := putBit l.fdem (5 + q.val) true }
      let b := if rises (5 + q.val) && !b.qn.ref[q] then b.setQuoin fun x => { x with a := slp x.a, b := slp x.b } else b
      if rises (7 + q.val) then
        b.setQuoin fun x => { x with
                                     a := { x.a with sdiAt := x.a.sdiAt.set q (b.quoinPosA q) },
                                     b := { x.b with sdiAt := x.b.sdiAt.set q (b.quoinPosB q) } }
      else b) b
    let caps := [0, 1].filterMap fun q => if bitOf new (3 + q) then some (b.qAxis q, b.qSls q * 256) else none
    let was := b.qn.caps
    let b := b.setQuoin fun q => { q with caps := caps }
    if caps = was then b
    else ((was ++ caps).map (·.1)).eraseDups.foldl (fun b a =>
      if (b.axis a).busy then b.axisQueue a { time := b.rail.now, par := .gvmax, value := (b.guardVmax a : Int) } else b) b

/-! ### Inputs at a decision (R357, R358, R369, R371) -/

/-- Since when the channels disagree, whether an input has passed its clearing and start-up conditions. -/
def Bench.inputTrack (laneB : Bool) (b : Bench) : Bench :=
  let l := b.lane laneB
  let both (i : Nat) : Bool := b.offA l i && b.offB l i
  let off (i : Nat) : Bool := b.qSmode i ≠ 0 && !l.filt (chanA i) && !l.filt (chanB i)
  b.setLane laneB { l with
    discAt := l.discAt.mapFinIdx fun i x _ => since (b.disagree l i) x b.rail.now,
    clearSeen := l.clearSeen.mapFinIdx fun i x _ => x || both (i % 2),
    stSeen := l.stSeen.mapFinIdx fun i x _ => x || (b.qn.stPend && off i) }

/-- The start-up test: every input with ST has stood in demand and left it (R371). -/
def Bench.startupTrack (b : Bench) : Bench :=
  if !b.qn.stPend then b
  else
    let gone (i : Nat) : Bool := !b.inputDemand b.qn.a i && !b.inputDemand b.qn.b i
    let b := b.setQuoin fun q => { q with stDone := q.stDone.mapFinIdx fun i x h => x || (q.a.stSeen[i] && q.b.stSeen[i] && gone i) }
    let pend := [(0 : Fin 2), 1].any fun i => bitOf (b.qw (2 + i.val)) 27 && !b.qn.stDone[i]
    b.setQuoin fun q => { q with stPend := pend }

/-- Filtered level of RST: on in both lanes (R369), or as lane B has it until lane A, started anew, has caught up. -/
def Quoin.rstLevel (q : Quoin) : Bool := (q.a.filt 4 || q.relyB) && q.b.filt 4
/-- The press in progress (R369). In WAKE no lane A stands in READY. -/
def Bench.pressTrack (b : Bench) : Bench :=
  let ready := b.bn.mode ≠ .wake && b.qn.a.state = .ready && b.qn.b.state = .ready
  b.setQuoin fun q =>
    let q := { q with relyB := q.relyB && q.b.filt 4 && !q.a.filt 4 }
    if q.rstLevel then
      (match q.pressAt, q.fellAt with
       | some _, none => { q with pressReady := q.pressReady && ready }
       | _, _ => { q with pressAt := some b.rail.now, fellAt := none, pressReady := ready })
    else
      (match q.pressAt, q.fellAt with
       | some _, none => { q with fellAt := some b.rail.now, pressReady := q.pressReady && ready }
       | _, _ => q)

/-! ### The decision -/

/-- Both lanes' demands; rises and falls (R365, R367), the reset that the last one's end asks for (R368), and the stops
lane A makes (R366). -/
def Bench.demandEval (b : Bench) : Bench :=
  let oldA := b.qn.a.demand
  let old := oldA ||| b.qn.b.demand
  let b := b.setQuoin fun q => { q with a := { q.a with demand := b.laneDemand q.a }, b := { q.b with demand := b.laneDemand q.b } }
  let new := b.qn.a.demand ||| b.qn.b.demand
  let b := (List.range 9).foldl (fun b c =>
    if bitOf new c && !bitOf old c then
      (((b.setQuoin fun q => { q with demandCnt := inc q.demandCnt }).health 13).errorCause 14 (BitVec.ofNat 32 c)).raise 9 0 0 (BitVec.ofNat 32 c) 0
    else if bitOf old c && !bitOf new c then b.raise 9 1 0 0 0
    else b) b
  let b := if old ≠ 0 && new = 0 && !b.qRestart then b.setQuoin fun q => { q with rstReq := true } else b
  let rose := b.qn.a.demand &&& ~~~ oldA
  if b.withAction 1 rose then b.quoinHard else if b.withAction 2 rose then b.quoinRamp else b

/-- OUT_EN has fallen or lockout begun since the last decision (R364). -/
def Bench.outFell (b : Bench) : Bool := (b.qn.wasOut && !b.outEn) || (!b.qn.wasLock && b.fc.lockout)
def Bench.noteOut (b : Bench) : Bench := b.setQuoin fun q => { q with wasOut := b.outEn, wasLock := b.fc.lockout }

/-- In WAKE lane B decides alone (R349). -/
def Bench.laneBEval (b : Bench) : Bench :=
  let fell := b.outFell
  let b := (b.noteOut.inputTrack true).activate
  let b := b.setLane true { b.qn.b with demand := b.laneDemand b.qn.b }
  (Bench.laneRun true 4 fell b).pressTrack.ossdFollow

/-- What both lanes decide (R354 to R374). -/
def Bench.lanesEval (b : Bench) : Bench :=
  let b := ((b.inputTrack false).inputTrack true).startupTrack
  let b := b.activate.demandEval
  let fell := b.outFell
  let b := Bench.laneRun true 4 fell (Bench.laneRun false 4 fell b.noteOut)
  let differ := b.qn.a.demand ≠ b.qn.b.demand || b.qn.a.state ≠ b.qn.b.state
  let b := b.setQuoin fun q => { q with laneDiff := since differ q.laneDiff b.rail.now }
  b.pressTrack.ossdFollow.mirrorWrite

/-- What Quoin decides whenever something it looks at may have changed. -/
def Bench.quoinEval (b : Bench) : Bench := if b.bn.mode = .wake then b.laneBEval else b.lanesEval

/-! ### Samples and test windows (R355, R356, R370) -/

/-- A test window covers an instant. -/
def Bench.inWindow (b : Bench) (w : Option Nat) (t : Nat) : Bool :=
  match w with | some a => a ≤ t && t < a + b.qTpw + 100000 | none => false

/-- A sample of a channel: the count of R355, and the verification of R356. Answers whether a verification has just
failed. -/
def Bench.chanSample (b : Bench) (raw : Bool) (period : Nat) (x : Chan) : Chan × Bool :=
  let now := b.rail.now
  let counted := x.raw ≠ x.filt && !b.inWindow x.win (now - period)
  let x := { x with acc := if counted then x.acc + period else x.acc }
  let ahead : Bool := match x.win with | some a => now < a | none => false
  if ahead then ({ x with raw := raw, acc := if raw = x.filt then 0 else x.acc, verify := raw }, false)
  else if b.inWindow x.win now then
    let w := x.win.getD 0
    let second := w + b.qTpw / 2 ≤ now && now < w + b.qTpw
    ({ x with raw := raw, sawOff := x.sawOff || (second && !raw) }, false)
  else
    let failed := x.win.isSome && x.verify && !x.sawOff
    let passed := x.win.isSome && x.verify && x.sawOff
    ({ x with
              raw := raw, acc := if raw = x.filt then 0 else x.acc, win := none, verify := false, sawOff := false,
              bad := if failed then true else if passed then false else x.bad }, failed)

/-- A failed verification of a channel (R356, R370). -/
def Bench.verifyFailed (laneB : Bool) (ch : Nat) (b : Bench) : Bench :=
  let b := b.setQuoin fun q => { q with testfailCnt := inc q.testfailCnt }
  b.laneFault laneB (if ch = 4 then 11 else ch / 2)

/-- One sample of the five lands by a lane: SI0A, SI0B, SI1A, SI1B, RST. -/
def Bench.laneSample (laneB : Bool) (si : BitVec 5) (b : Bench) : Bench :=
  let period := if laneB then 10000 else 1000
  (List.finRange 5).foldl (fun b (c : Fin 5) =>
    let l := b.lane laneB
    let r := b.chanSample (si.getLsbD c.val) period l.ch[c]
    let b := b.setLane laneB { l with ch := l.ch.set c r.1 }
    if r.2 then b.verifyFailed laneB c.val else b) b

/-- The channel is fed from the source (R354, R370): T1 feeds the A channels and RST, T2 the B channels. -/
def Bench.fedFrom (b : Bench) (t2 : Bool) (c : Nat) : Bool :=
  if c = 4 then !t2 && b.qRstTp
  else (b.qSmode (c / 2) = 1 || b.qSmode (c / 2) = 2) && (c % 2 == 1) == t2

/-- Test windows start in both lanes at a rail value (R355, R356). -/
def Bench.windowsStart (t2 : Bool) (start : Nat) (b : Bench) : Bench :=
  let one (c : Nat) (x : Chan) : Chan :=
    if b.fedFrom t2 c then { x with win := some start, verify := x.raw, sawOff := false } else x
  let opened (l : Lane) : Lane := { l with ch := l.ch.mapFinIdx fun c x _ => one c x }
  b.setQuoin fun q => { q with a := opened q.a, b := opened q.b }

/-! ### Events -/

/-- The drive of a lane's switches toggles (R350). -/
def Bench.toggle (laneB : Bool) (b : Bench) : Bench :=
  let l := b.lane laneB
  let b := b.setLane laneB { l with toggleAt := b.rail.now, driveLost := false }
  if l.driveLost then b.quoinEval else b

/-- BARRIER_FRAME (R42, R43, R349, R350): a frame to the face, with the rail and the output values, or one from it
with its report and lane A's samples of this µs. -/
def execBarrierFrame (bn : BenchIx) (t : Nat) (toFace : Bool) (si : BitVec 5) (s : State) : Host.Outcome State Fault Refusal :=
  let cal := s.hub.calNow
  s.onBench bn fun b =>
    let b := (b.tick t).refSettle cal
    if !b.fc.powered || !b.bn.coreOk then b
    else if toFace then
      let was := b.fc.faceLink
      let b := b.faceFramed
      ((if was then b else b.faceBack).toggle false).quoinEval
    else (b.faceHeard.faceReport.laneSample false si).quoinEval

/-- FACE_LINK_LOSS (R43): the face sets its outputs to their safe values. -/
def execFaceLinkLoss (bn : BenchIx) (t : Nat) (s : State) : Host.Outcome State Fault Refusal :=
  s.onBench bn fun b =>
    ((b.tick t).faceAlone.faceDrop false).quoinEval

/-- LIVENESS_LOSS (R476): DO off, AO at SAFE. -/
def execLivenessLoss (bn : BenchIx) (t : Nat) (s : State) : Host.Outcome State Fault Refusal :=
  s.onBench bn fun b =>
    let b := b.tick t
    if b.fc.tokenAt + 6000 ≤ b.rail.now then ((b.setFace fun f => { f with tokenOk := false }).faceDrop true).quoinEval else b

/-- A face without power: outputs off, sample counts and configuration gone, hardware defaults from here on (R80, R314,
R322, R333, R556). -/
def Face.unpowered (now : Time) (f : Face) : Face :=
  { f with
    powered := false, tokenOk := false, kept := [], news := [], safeDo := 0, safeAo := Vector.replicate 2 0x10000,
    warnLow := none, warnHigh := none, lockLow := none, lockHigh := none,
    di := f.di.map fun x => { x with newAt := none, wireAt := none },
    do_ := f.do_.map fun x => x.force false now,
    ai := f.ai.map fun x => { x with due := false },
    ao := f.ao.map fun x => { x with u := 0, fromU := 0, fromAt := now, slew := 0, clip := false } }

/-- The face stops below 14.0 V (R314). -/
def Bench.facePowerLoss (b : Bench) : Bench :=
  ((b.faceAlone.setFace (Face.unpowered b.rail.now)).outFaultEval).quoinEval

/-- FACE_POWER_LOSS (R314). -/
def execFacePowerLoss (bn : BenchIx) (t : Nat) (s : State) : Host.Outcome State Fault Refusal :=
  s.onBench bn fun b => (b.tick t).facePowerLoss

/-- DI_SAMPLE (R321, R325, R330, R333): raw levels, currents below the wire-break threshold, DO land voltages above
12 V, and L+ in mV; below 14.0 V the face stops (R314). Lane B of Quoin runs with the face (R349, R350). -/
def execDiSample (bn : BenchIx) (t : Nat) (raw low : BitVec 16) (rb : BitVec 8) (lplus : Nat) (s : State) :
    Host.Outcome State Fault Refusal :=
  s.onBench bn fun b =>
    let b := b.tick t
    if b.faceNow % 1000 = 0 && b.fc.powered then
      if lplus < 14000 then (b.setFace fun f => { f with lplus := lplus }).facePowerLoss
      else
        let b := b.diSample raw low rb lplus
        (if b.fc.linkOk then b.limitSamples else b).toggle true
    else b

/-- LOCKOUT (R333, R364). -/
def execLockout (bn : BenchIx) (t : Nat) (s : State) : Host.Outcome State Fault Refusal :=
  s.onBench bn fun b => (b.tick t).lockoutBegins.quoinEval

/-- LANE_B_SAMPLE (R349). -/
def execLaneBSample (bn : BenchIx) (t : Nat) (si : BitVec 5) (s : State) : Host.Outcome State Fault Refusal :=
  let cal := s.hub.calNow
  s.onBench bn fun b =>
    let b := (b.tick t).refSettle cal
    if b.fc.powered && b.rail.now % 10000 = 0 then ((b.toggle true).laneSample true si).quoinEval else b

/-- LANE_EXCHANGE (R351): whether each lane received a valid exchange. -/
def execLaneExchange (bn : BenchIx) (t : Nat) (okA okB : Bool) (s : State) : Host.Outcome State Fault Refusal :=
  s.onBench bn fun b =>
    let b := b.tick t
    let b := b.setQuoin fun q => { q with
                                          a := if okA then { q.a with exchAt := b.rail.now } else q.a,
                                          b := if okB then { q.b with exchAt := b.rail.now } else q.b }
    b.quoinEval

/-- LANE_LOST (R351). -/
def execLaneLost (bn : BenchIx) (t : Nat) (laneB : Bool) (s : State) : Host.Outcome State Fault Refusal :=
  s.onBench bn fun b =>
    let b := b.tick t
    if (b.lane laneB).exchAt + 5000 ≤ b.rail.now then (b.laneFault laneB 6).quoinEval else b

/-- LANE_X (R351). -/
def execLaneX (bn : BenchIx) (t : Nat) (s : State) : Host.Outcome State Fault Refusal :=
  s.onBench bn fun b =>
    let b := b.tick t
    match b.qn.laneDiff with
    | some a => if a + 2000000 ≤ b.rail.now then (b.quoinFault 9).quoinEval else b
    | none => b

/-- SWITCH_DRIVE_TIMEOUT (R350): no toggle for 5 µs. -/
def execSwitchDriveTimeout (bn : BenchIx) (t : Nat) (laneB : Bool) (s : State) : Host.Outcome State Fault Refusal :=
  s.onBench bn fun b =>
    let b := b.tick t
    if (b.lane laneB).toggleAt + 5000 ≤ b.rail.now then (b.setLane laneB { b.lane laneB with driveLost := true }).quoinEval
    else b

/-- Time since the off-pulse of a source began (R355). -/
def Bench.pulsePhase (b : Bench) (t2 : Bool) : Nat :=
  (b.rail.now + b.qTpp - (if t2 then b.qTpp / 2 else 0)) % b.qTpp

/-- A source's read-back of its own land fails (R359): at or below L+ − 3 V up to its off-pulse and after it, 3 V or more
at its end. Without a configuration there is no off-pulse. -/
def Bench.sourceBad (b : Bench) (t2 : Bool) (mv : Nat) : Bool :=
  let ph := b.pulsePhase t2
  if b.qTpp = 0 then mv + 3000 ≤ b.fc.lplus else if ph = b.qTpw then 3000 ≤ mv else (ph = 0 || b.qTpw < ph) && mv + 3000 ≤ b.fc.lplus

/-- TEST_PULSE (R355, R359): mv is a read-back of the source's land, in mV; at the rail value at which its off-pulse
begins the windows start. -/
def execTestPulse (bn : BenchIx) (t : Nat) (t2 : Bool) (mv : Nat) (s : State) : Host.Outcome State Fault Refusal :=
  s.onBench bn fun b =>
    let b := b.tick t
    if !b.fc.powered then b
    else
      let bad := b.sourceBad t2 mv
      let b := if b.qTpp ≠ 0 && b.pulsePhase t2 = 0 then b.windowsStart t2 b.rail.now else b
      (if bad then b.quoinFault 4 else b).quoinEval

/-- CHANNEL_CHANGE (R355). -/
def execChannelChange (bn : BenchIx) (t : Nat) (laneB : Bool) (ch : Fin 5) (s : State) : Host.Outcome State Fault Refusal :=
  s.onBench bn fun b =>
    let b := b.tick t
    let l := b.lane laneB
    let x := l.ch[ch]
    if x.raw ≠ x.filt && b.qIfilt ch.val ≤ x.acc && !b.inWindow x.win b.rail.now then
      (b.setLane laneB { l with ch := l.ch.set ch { x with filt := x.raw, acc := 0 } }).quoinEval
    else b

/-- The channels of an input have disagreed for DISC in a lane (R357). -/
def Bench.discLate (b : Bench) (l : Lane) (i : Fin 2) : Bool :=
  match l.discAt[i] with | some a => a + b.qDisc i.val ≤ b.rail.now | none => false
def Bench.discOf (laneB : Bool) (i : Fin 2) (b : Bench) : Bench :=
  if b.discLate (b.lane laneB) i then b.laneFault laneB (2 + i.val) else b

/-- DISC (R357). -/
def execDisc (bn : BenchIx) (t : Nat) (i : Fin 2) (s : State) : Host.Outcome State Fault Refusal :=
  s.onBench bn fun b =>
    let b := b.tick t
    if b.discLate b.qn.a i || b.discLate b.qn.b i then ((b.discOf false i).discOf true i).quoinEval else b

/-- OSSD_TEST (R361): not made while the output is off. -/
def execOssdTest (bn : BenchIx) (t : Nat) (o : Fin 2) (s : State) : Host.Outcome State Fault Refusal :=
  s.onBench bn fun b =>
    let b := b.tick t
    let p := b.qOpp
    let due := b.rail.now % p = (if o = 0 then 0 else p / 2)
    if p = 0 || !due || !b.qn.ossdOn then b
    else b.setQuoin fun q => { q with ossd := upd q.ossd o fun x => { x with offUntil := b.rail.now + b.qOpw, nextB := !x.nextB } }

/-- A read-back of one OSSD land fails (R362). -/
def Bench.ossdBad (b : Bench) (o : Fin 2) (mv : Nat) : Bool :=
  let now := b.rail.now
  let x := b.qn.ossd[o]
  let pulseEnd := x.offUntil ≠ 0 && now ≤ x.offUntil && x.offUntil < now + 10000
  if now < x.offUntil || pulseEnd then pulseEnd && 5000 ≤ mv
  else if b.qn.ossdOn then b.qn.ossdAt + 1000000 ≤ now && (mv : Int) ≤ (b.fc.lplus : Int) - 2000
  else b.qn.ossdAt + 100000 ≤ now && 5000 ≤ mv

/-- OSSD_READBACK (R362): land voltages of OSSDA and OSSDB in mV. -/
def execOssdReadback (bn : BenchIx) (t : Nat) (mvA mvB : Nat) (s : State) : Host.Outcome State Fault Refusal :=
  s.onBench bn fun b =>
    let b := b.tick t
    if !b.fc.powered || b.rail.now % 10000 ≠ 0 then b
    else
      let bad := b.ossdBad 0 mvA || b.ossdBad 1 mvB
      let b := b.setQuoin fun q => { q with ossd := (upd q.ossd 0 fun x => { x with readback := 5000 < mvA }) }
      let b := b.setQuoin fun q => { q with ossd := (upd q.ossd 1 fun x => { x with readback := 5000 < mvB }) }
      if bad then (b.quoinFault 5).quoinEval else b

/-- SS1_TIMEOUT (R366). -/
def execSs1Timeout (bn : BenchIx) (t : Nat) (laneB : Bool) (s : State) : Host.Outcome State Fault Refusal :=
  s.onBench bn fun b =>
    let b := b.tick t
    let l := b.lane laneB
    if l.state = .stopping && l.stopAt + b.qSs1 ≤ b.rail.now then (b.setLane laneB { l with state := .demand }).quoinEval else b

/-- Position and speed of axis q in a lane (R372): the change over the last SWIN divided by SWIN, rounded by R11. -/
def Bench.laneSpeed (b : Bench) (q : Fin 2) (p : Int) (l : Lane) : Lane :=
  let now := b.rail.now
  let win := b.qSwin q.val * 1000000
  let keep := l.hist[q].filter fun h => now ≤ h.1 + win
  let old := match keep.getLast? with | some h => h.2 | none => p
  let v := if b.qSwin q.val = 0 then 0 else roundDiv ((p - old) * 1000) (b.qSwin q.val)
  { l with pos := l.pos.set q p, spd := l.spd.set q v, hist := l.hist.set q ((now, p) :: keep) }

/-- The speed magnitude is above the SLS limit, exactly: |change| over SWIN. -/
def Bench.slsOver (b : Bench) (q : Fin 2) (p : Int) (l : Lane) : Bool :=
  let win := b.qSwin q.val * 1000000
  let keep := l.hist[q].filter fun h => b.rail.now ≤ h.1 + win
  let old := match keep.getLast? with | some h => h.2 | none => p
  b.qSls q.val * b.qSwin q.val < (p - old).natAbs * 1000

/-- Travel in the forbidden direction beyond SDI_TOL (R374). -/
def Bench.sdiBad (b : Bench) (q : Fin 2) (p start : Int) : Bool :=
  let d := if bitOf (b.qa q.val 0) 24 then p - start else start - p
  (fld (b.qa q.val 5) 15 0 : Int) < d

/-- The functions of one monitored axis in a lane that keeps its position as p (R374). -/
def Bench.laneFunctions (q : Fin 2) (p : Int) (b : Bench) (l : Lane) : Lane :=
  let act (c : Nat) : Bool := bitOf b.qn.active (c + q.val)
  let was (c : Nat) : Bool := bitOf l.fdem (c + q.val)
  let due := b.qn.actAt[q] + fld (b.qa q.val 6) 31 16 * 1000000 ≤ b.rail.now
  let sls := act 3 && b.slsOver q p l && (due || was 3)
  let slp := act 5 && b.slpBad q p
  let sdi := act 7 && (was 7 || b.sdiBad q p l.sdiAt[q])
  let l := { l with fdem := putBit (putBit (putBit l.fdem (3 + q.val) sls) (5 + q.val) slp) (7 + q.val) sdi }
  b.laneSpeed q p l

/-- One monitored axis at an evaluation (R372, R374); in WAKE lane B alone (R349). -/
def Bench.axisFunctions (q : Fin 2) (b : Bench) : Bench :=
  if !b.qAxisEn q.val then b.setQuoin fun x => { x with posDiff := x.posDiff.set q none }
  else
    let pb := b.quoinPosB q
    let b' := b.setLane true (b.laneFunctions q pb b.qn.b)
    if b.bn.mode = .wake then b'
    else
      let pa := b.quoinPosA q
      let apart := b.qPtol q.val < (pa - pb).natAbs
      (b'.setLane false (b.laneFunctions q pa b.qn.a)).setQuoin fun x =>
        { x with posDiff := x.posDiff.set q (since apart x.posDiff[q] b.rail.now) }

/-- SPEED_EVALUATION (R372, R374). -/
def execSpeedEvaluation (bn : BenchIx) (t : Nat) (s : State) : Host.Outcome State Fault Refusal :=
  let cal := s.hub.calNow
  s.onBench bn fun b =>
    let b := b.tick t
    if b.rail.now % 100000 ≠ 0 then b else (((b.refSettle cal).axisFunctions 0).axisFunctions 1).quoinEval

/-- POS_X (R372). -/
def execPosX (bn : BenchIx) (t : Nat) (q : Fin 2) (s : State) : Host.Outcome State Fault Refusal :=
  s.onBench bn fun b =>
    let b := b.tick t
    match b.qn.posDiff[q] with
    | some a => if b.qAxisEn q.val && a + 10000000 ≤ b.rail.now then (b.quoinFault (7 + q.val)).quoinEval else b
    | none => b

/-- RESET_EDGE (R368, R369): the falling edge is judged. -/
def execResetEdge (bn : BenchIx) (t : Nat) (s : State) : Host.Outcome State Fault Refusal :=
  s.onBench bn fun b =>
    let b := b.tick t
    match b.qn.pressAt, b.qn.fellAt with
    | some p, some f =>
      let ok := p + 50000000 ≤ f && f ≤ p + 3000000000 && b.qn.pressReady && !b.qn.stPend && !bitOf b.qn.fault 11
      let b := b.setQuoin fun q => { q with pressAt := none, fellAt := none, pressReady := false }
      if ok then (b.setQuoin fun q => { q with rstReq := false }).quoinEval
      else (b.setQuoin fun q => { q with rstRejCnt := inc q.rstRejCnt }).raise 9 2 0 0 0
    | _, _ => b

/-! ### Session, password and configuration (R380 to R384) -/

/-- A Quoin command: the session's ten minutes start again (R381). -/
def Bench.quoinTouch (b : Bench) : Bench :=
  b.setQuoin fun q => { q with session := q.session.map fun x => { x with last := b.rail.up } }

/-- A password of 8 to 16 characters, each from 0x21 to 0x7E (R381). -/
def passwordOk (p : List Byte) : Bool :=
  8 ≤ p.length && p.length ≤ 16 && p.all fun c => 0x21 ≤ c.toNat && c.toNat ≤ 0x7E

/-- A wrong password: counted, logged, and at the third a wait of 60 s (R381, R384, R387). -/
def Bench.passwordWrong (cal : Nat) (oper : BitVec 16) (b : Bench) : Bench :=
  let b := b.setQuoin fun q =>
    if q.failures + 1 < 3 then { q with failures := q.failures + 1 }
    else { q with failures := 3, waitAt := some b.rail.up }
  b.quoinLog cal 4 oper b.qn.crc 0

/-- QN_UNLOCK (R381, R387). -/
def execQnUnlock (c : Cmd) (pw : List Byte) (oper : BitVec 16) (s : State) : Host.Outcome State Fault Refusal :=
  let cal := s.hub.calNow
  s.onBench c.bench (Bench.accept (.qnUnlock c pw oper) c modesCfg fun b =>
    let b := b.quoinTouch
    if b.qn.waitAt.isSome then b.refuse c .busy
    else if !passwordOk pw then b.refuse c .badParam
    else match b.qn.password with
      | none => b.refuse c .password
      | some p =>
        if p = pw then
          let b := b.setQuoin fun q => { q with failures := 0, session := some { oper := oper, last := b.rail.up } }
          (b.quoinLog cal 3 oper b.qn.crc 0).complete c .ok 0
        else (b.passwordWrong cal oper).refuse c .password)

/-- QN_LOCK (R381). -/
def execQnLock (c : Cmd) (s : State) : Host.Outcome State Fault Refusal :=
  let cal := s.hub.calNow
  s.onBench c.bench (Bench.accept (.qnLock c) c modesCfg fun b => (b.quoinClose cal).complete c .ok 0)

/-- QN_SET_PASSWORD (R381, R387). -/
def execQnSetPassword (c : Cmd) (old new : List Byte) (oper : BitVec 16) (s : State) : Host.Outcome State Fault Refusal :=
  let cal := s.hub.calNow
  s.onBench c.bench (Bench.accept (.qnSetPassword c old new oper) c modesCfg fun b =>
    let b := b.quoinTouch
    let oldOk := match b.qn.password with | none => old.isEmpty | some p => p = old
    if b.qn.waitAt.isSome then b.refuse c .busy
    else if !passwordOk new || !(passwordOk old || (old.isEmpty && b.qn.password.isNone)) then b.refuse c .badParam
    else if !oldOk then (b.passwordWrong cal oper).refuse c .password
    else
      let b := b.setQuoin fun q => { q with password := some new, failures := 0 }
      (b.quoinLog cal 5 oper b.qn.crc 0).complete c .ok 0)

/-- QN_SESSION_TIMEOUT (R381). -/
def execQnSessionTimeout (bn : BenchIx) (t : Nat) (s : State) : Host.Outcome State Fault Refusal :=
  let cal := s.hub.calNow
  s.onBench bn fun b =>
    let b := b.tick t
    match b.qn.session with
    | some x => if x.last + 600000000000 ≤ b.rail.up then b.quoinClose cal else b
    | none => b

/-- PASSWORD_WAIT_EXPIRY (R381). -/
def execPasswordWaitExpiry (bn : BenchIx) (t : Nat) (s : State) : Host.Outcome State Fault Refusal :=
  s.onBench bn fun b =>
    let b := b.tick t
    match b.qn.waitAt with
    | some a => if a + 60000000000 ≤ b.rail.up then b.setQuoin fun q => { q with waitAt := none, failures := 0 } else b
    | none => b

/-- The bits of a configuration word that R390 lists; the others read 0 (R6). -/
def quoinMask (k : Nat) : Word :=
  match k with
  | 0 => 0xE0003FFF | 1 => 0xFFF0000F | 2 | 3 => 0xF8007F7F | 4 => 0xFFF001FF | 5 => 0xFFFF03FF
  | 6 | 7 => 0x3FFF3FFF | 8 | 16 => 0xFFC0000F | 15 | 23 => 0 | _ => 0xFFFFFFFF

/-- A field's value lies between two bounds. -/
def inRange (v lo hi : Nat) : Bool := lo ≤ v && v ≤ hi

/-- The staged words with a monitored axis (R382, R390): ranges and sources whether it is enabled or not. -/
def quoinAxisOk (b : Bench) (w : Nat → Word) (q : Nat) : Bool :=
  let o := 8 + 8 * q
  let c := w o
  let smode (src : Nat) : Bool := src < 2 || fld (w src) 31 30 ≠ 0
  fld c 3 0 < 10 && smode (fld c 30 29) && smode (fld c 28 27) && smode (fld c 26 25) &&
  inRange (fld (w (o + 2)) 31 24) 1 100 && inRange (fld (w (o + 2)) 23 0) 1 2000000 &&
  inRange (fld (w (o + 5)) 31 16) 1 65535 && inRange (fld (w (o + 5)) 15 0) 1 65535 &&
  fld (w (o + 1)) 31 16 ≠ 0 && fld (w (o + 1)) 15 0 ≠ 0 && s32 (w (o + 3)) ≤ s32 (w (o + 4)) &&
  (!bitOf c 31 || (b.axisUsed (fld c 3 0) && inRange (fld c 23 22) 1 2))

/-- The points the staged block maps, with the format each must have (R382). -/
def quoinMaps (w : Nat → Word) : List (Nat × Nat) :=
  [(fld (w 6) 13 0, 3), (fld (w 6) 29 16, 3), (fld (w 7) 13 0, 3), (fld (w 7) 29 16, 0)].filter fun m => m.1 ≠ 0x3FFF

/-- The table of R382 finds no breach in a block. -/
def Bench.quoinCfgOk (b : Bench) (v : Vector Word 24) : Bool :=
  let w := cfgWord v
  let maps := quoinMaps w
  let input (i : Nat) : Bool :=
    let c := w (2 + i)
    let fed := fld c 31 30 = 1 || fld c 31 30 = 2
    fld c 29 28 ≠ 3 && inRange (fld c 14 8) 1 100 && inRange (fld c 6 0) 1 100 &&
    (!fed || 2 * (fld c 14 8 + fld (w 1) 3 0 + 1) ≤ fld (w 1) 31 20 * 10)
  inRange (fld (w 1) 31 20) 10 1000 && inRange (fld (w 1) 3 0) 2 10 && input 0 && input 1 &&
  inRange (fld (w 4) 31 20) 20 1000 && inRange (fld (w 4) 8 0) 100 500 && inRange (fld (w 5) 31 16) 1 10000 &&
  maps.all (fun m => let e := b.point m.1
    e.source = 1 && e.format = m.2 && !e.output && (List.range 35).all fun c => b.facePoint c ≠ some m.1) &&
  (maps.map (fun m => m.1)).Nodup &&
  quoinAxisOk b w 0 && quoinAxisOk b w 1 && !(bitOf (w 8) 31 && bitOf (w 16) 31 && fld (w 8) 3 0 = fld (w 16) 3 0)

/-- SAFETY sets in the flags of the mapped points and of no other (R31, R382). -/
def Bench.safetyFlags (b : Bench) : Bench :=
  let maps := match b.qn.cfg with | some v => List.map (fun m : Nat × Nat => m.1) (quoinMaps (cfgWord v)) | none => []
  let b : Bench := { b with points := Tbl.mapAll {} (fun _ e => if e.safety then { e with flags := putBit e.flags 11 false } else e) b.points }
  maps.foldl (fun b p => let e := b.point p; b.setPoint p { e with flags := putBit e.flags 11 true }) b

/-- Quoin restarts under R364: START while the start-up test is pending, else READY, with RST_REQ; FAULT prevails. -/
def Bench.quoinRestart (b : Bench) : Bench :=
  let st : QState := if b.qn.stPend then .start else .ready
  (b.setQuoin fun q => { q with
    rstReq := true, active := 0, caps := [],
    posDiff := q.posDiff.mapFinIdx fun i x _ => if b.qAxisEn i then x else none,
    a := { q.a with state := st, fdem := 0 }, b := { q.b with state := st, fdem := 0 } }).lanesEval

/-- QN_COMMIT (R382, R383). -/
def execQnCommit (c : Cmd) (crc : Word) (oper : BitVec 16) (s : State) : Host.Outcome State Fault Refusal :=
  let cal := s.hub.calNow
  s.onBench c.bench (Bench.accept (.qnCommit c crc oper) c modesAny fun b =>
    let before := b.qn.crc
    let no (st : Status) : Bench := ((b.quoinTouch).quoinLog cal 2 oper before (BitVec.ofNat 32 st.code)).refuse c st
    if b.bn.mode ≠ .configure || b.qn.session.isNone then no .badState
    else if !b.quoinCfgOk b.qn.staged then no .badParam
    else if crc32c b.qn.staged.toList ≠ crc then no .checkFailed
    else
      let v := b.qn.staged
      let b := b.setQuoin fun q => { q with
        cfg := some v, copyA := some v, copyB := some v, session := none,
        a := { q.a with fault := putBit q.a.fault 10 false }, b := { q.b with fault := putBit q.b.fault 10 false }, stPend := q.stPend && bitOf (cfgWord v 0) 31 }
      let b := b.safetyFlags.quoinRestart
      ((b.quoinLog cal 1 oper before 0).raise 9 4 0 0 0).complete c .ok crc.toNat)

/-- The QN_FAULT bits whose cause has gone for a lane (R358, R370, R376). -/
def Bench.faultsGone (b : Bench) (l : Lane) (check : Bool) : Word :=
  let q := b.qn
  let now := b.rail.now
  let agree := now < q.a.exchAt + 5000 && now < q.b.exchAt + 5000 && q.laneDiff.isNone
  let good (c : Fin 5) : Bool := !l.ch[c].bad
  let w : Word := 0
  let w := putBit w 0 (l.clearSeen[(0 : Fin 4)] && good 0 && good 1)
  let w := putBit w 1 (l.clearSeen[(1 : Fin 4)] && good 2 && good 3)
  let w := putBit w 2 l.clearSeen[(2 : Fin 4)]
  let w := putBit w 3 l.clearSeen[(3 : Fin 4)]
  let w := putBit (putBit w 4 check) 5 check
  let w := putBit (putBit w 6 agree) 9 agree
  let w := putBit w 7 q.posDiff[(0 : Fin 2)].isNone
  let w := putBit w 8 q.posDiff[(1 : Fin 2)].isNone
  putBit w 11 (good 4)

/-- Faults of both lanes are cleared as far as their cause has gone. -/
def Bench.faultsClear (check : Bool) (b : Bench) : Bench :=
  let one (l : Lane) : Lane := { l with fault := l.fault &&& ~~~ b.faultsGone l check }
  b.setQuoin fun q => { q with a := one q.a, b := one q.b }

/-- What the off-pulses of a fault clearing show in a lane (R356, R370): each channel fed from a source and on before them is
verified, `off` naming those that read off in the second half. The channels whose verification fails are answered. -/
def Bench.pulsesSeen (laneB : Bool) (off : BitVec 5) (b : Bench) : Bench :=
  (List.finRange 5).foldl (fun b (c : Fin 5) =>
    let l := b.lane laneB
    let x := l.ch[c]
    if !((b.fedFrom false c.val || b.fedFrom true c.val) && x.raw) then b
    else
      let ok := off.getLsbD c.val
      let b := b.setLane laneB { l with ch := l.ch.set c { x with bad := !ok, verify := false } }
      if ok then b else b.verifyFailed laneB c.val) b

/-- QN_FAULT_CLEAR (R355, R356, R358, R359, R362, R364, R368, R370, R376): first an off-pulse on T1, then on T2, at whose
ends their lands read `sources`, in mV; the lanes' samples in their second halves and the read-back of the OSSDs are
`back`. Then the clearing. -/
def execQnFaultClear (c : Cmd) (oper : BitVec 16) (sources : Nat × Nat) (back : PulseBack) (s : State) : Host.Outcome State Fault Refusal :=
  let cal := s.hub.calNow
  s.onBench c.bench (Bench.accept (.qnFaultClear c oper sources back) c modesAny fun b =>
    let srcOk := sources.1 < 3000 && sources.2 < 3000
    let outOk := back.ossdA < 5000 && back.ossdB < 5000
    let check := srcOk && outOk
    let was := b.qn.fault
    let b := (b.quoinTouch.windowsStart false b.rail.now).windowsStart true (b.rail.now + b.qTpw + 100000)
    let b := (b.pulsesSeen false back.offA).pulsesSeen true back.offB
    let b := if srcOk then b else b.quoinFault 4
    let b := if outOk then b else b.quoinFault 5
    let b := b.faultsClear check
    let gone := was &&& ~~~ b.qn.fault
    let b := b.quoinLog cal 6 oper b.qn.crc gone
    if b.qn.fault ≠ 0 then b.quoinEval.complete c .badState 0
    else
      let leave (l : Lane) : Lane := if l.state = .fault then { l with state := .ready } else l
      let b := b.setQuoin fun q => { q with rstReq := true, a := leave q.a, b := leave q.b }
      b.quoinEval.complete c .ok gone.toNat)

/-- QN_SET_REF (R373, R387). -/
def execQnSetRef (c : Cmd) (w pos lo hi : Word) (s : State) : Host.Outcome State Fault Refusal :=
  s.onBench c.bench (Bench.accept (.qnSetRef c w pos lo hi) c modesRun fun b =>
    let b := b.quoinTouch
    let at' := cat64 lo hi
    let q : Fin 2 := mkIx 1 w.toNat
    if 1 < w.toNat || at' % 10 ≠ 0 || !b.qAxisEn q.val then b.refuse c .badParam
    else if (b.axis (b.qAxis q.val)).state ≠ .idle then b.refuse c .badState
    else
      let z := if at' = 0 then firstMul 10000 (b.acc + 20000) else at'
      if z < b.acc then b.refuse c .timeout
      else
        (b.setQuoin fun x => { x with setRef := x.setRef ++ [(q.val, z, s32 pos)] }).complete c .ok z)

/-- Entries that fail their check, of a list and the entry before it (R384). -/
def logBad (keep : Word → Bool) : Option (List Word) → List (List Word) → Nat
  | _, [] => 0
  | prev, e :: r =>
    let stored := e.getD 15 0
    let ok := match prev with
      | some p => stored = crc32c (e.take 15 ++ [p.getD 15 0])
      | none => e.getD 0 0 ≠ 1 || stored = crc32c (e.take 15 ++ [0])
    (if ok || !keep (e.getD 0 0) then 0 else 1) + logBad keep (some e) r

/-- Entries of a log from a SEQ on, at most n; RESULT counts them and those that fail their check. -/
def logRead (log : List (List Word)) (first n : Nat) : List (List Word) × Nat :=
  let l := (log.filter fun e => first ≤ (e.getD 0 0).toNat).take n
  let seqs := l.map fun e => e.getD 0 0
  (l, l.length + 65536 * logBad (fun q => seqs.contains q) none log)

/-- QN_LOG_READ (R384, R387). -/
def execQnLogRead (c : Cmd) (first count : Word) (s : State) : Host.Outcome State Fault Refusal :=
  s.onBench c.bench (Bench.accept (.qnLogRead c first count) c modesAny fun b =>
    let b := b.quoinTouch
    if count = 0 || 256 < count.toNat then b.refuse c .badParam
    else
      let r := logRead b.qn.log first.toNat count.toNat
      b.readDone c r.1.flatten r.2)

/-! ### Bench start and modes (R364, R371, R372, R383) -/

/-- A bench reset at rail value `now` (R349, R364): MRAM is kept, lane B runs on, its switches open with OUT_EN, and
lane A starts again. An open session closes as WAKE is entered (R381). -/
def Quoin.reset (now : Nat) (q : Quoin) : Quoin :=
  { copyA := q.copyA, copyB := q.copyB, cfg := q.cfg, staged := q.staged, session := q.session, password := q.password,
    log := q.log, logSeq := q.logSeq, failures := q.failures, waitAt := q.waitAt,
    rstReq := q.rstReq, stPend := q.stPend, stDone := q.stDone, pressAt := q.pressAt, fellAt := q.fellAt, relyB := true,
    b := { q.b with closed := false }, a := { exchAt := q.a.exchAt, toggleAt := q.a.toggleAt },
    active := q.active, actAt := q.actAt, ref := q.ref, posRef := q.posRef, cRef := q.cRef, pRef := q.pRef,
    ossd := q.ossd, ossdAt := if q.ossdOn then now else q.ossdAt, wasOut := q.wasOut, wasLock := q.wasLock }

/-- Bench start: the first copy that passes its check is loaded (R383); references (R372); R364's rows, R368. -/
def Bench.quoinStart (okA okB : Bool) (cal : Nat) (b : Bench) : Bench :=
  let copy := if okA && b.qn.copyA.isSome then b.qn.copyA else if okB then b.qn.copyB else none
  let never := b.qn.copyA.isNone && b.qn.copyB.isNone
  let fresh (l : Lane) : Lane := { l with state := .unconfigured, fdem := 0, stSeen := Vector.replicate 2 false }
  let b := b.setQuoin fun q => { q with
    cfg := copy, staged := copy.getD (Vector.replicate 24 0), session := none, active := 0, rstReq := true,
    a := fresh q.a, b := fresh q.b }
  let b := b.setQuoin fun q => { q with
    ref := Vector.replicate 2 false, pRef := Vector.replicate 2 0,
    posRef := q.posRef.mapFinIdx fun i _ _ => (b.axis (b.qAxis i)).pos,
    cRef := q.cRef.mapFinIdx fun i _ h => b.fc.enc[i].laneB,
    stPend := bitOf (b.qw 0) 31 }
  if copy.isSome then b.safetyFlags.quoinRestart
  else if never then b.safetyFlags.lanesEval
  else ((b.quoinFault 10).quoinLog cal 7 0 0 0).safetyFlags.lanesEval

/-- On entry into RUN the mirror points are written once (R583), and the decision follows the new OUT_EN. -/
def Bench.quoinEnter (b : Bench) : Bench := (b.setQuoin fun q => { q with mirror := [] }).quoinEval

/-! ### Registers (R380, R388 to R390) -/

/-- A write of the staged block (R380). -/
def Bench.quoinWrite (o : Nat) (v : Word) (b : Bench) : Bench :=
  if b.bn.mode = .configure && b.qn.session.isSome && 0x100 ≤ o && o < 0x160 then
    let k := (o - 0x100) / 4
    b.setQuoin fun q => { q with staged := q.staged.set! k (v &&& quoinMask k) }
  else b.windowRej

/-- QN_STATUS (R389). -/
def Bench.quoinStatus (b : Bench) : Word :=
  at32 b.qn.a.state.code 28 ||| at32 (b2n b.qn.ref[(1 : Fin 2)]) 9 ||| at32 (b2n b.qn.ref[(0 : Fin 2)]) 8 |||
  at32 (b2n b.qn.rstReq) 7 ||| at32 (b2n b.qn.stPend) 6 ||| at32 (b2n b.qn.rstLevel) 5 |||
  at32 (b2n b.qn.ossd[(1 : Fin 2)].readback) 4 ||| at32 (b2n b.qn.ossd[(0 : Fin 2)].readback) 3 |||
  at32 (b2n b.qn.ossdOn) 2 ||| at32 (b2n (b.permit true)) 1 ||| at32 (b2n (b.permit false)) 0

/-- QN_SESSION (R388). -/
def Bench.quoinSession (b : Bench) : Word :=
  at32 (b2n b.qn.session.isSome) 31 ||| at32 (b2n b.qn.password.isSome) 30 ||| at32 (b2n b.qn.waitAt.isSome) 29 |||
  at32 b.qn.failures 16 ||| (match b.qn.session with | some x => x.oper.setWidth 32 | none => 0)

/-- A QN_ register as it reads. -/
def Bench.quoinWord (b : Bench) (o : Nat) : Word :=
  let ax (q : Fin 2) (k : Nat) : Word :=
    match k with
    | 0 => ofS b.qn.a.pos[q] | 4 => ofS b.qn.b.pos[q] | 8 => ofS b.qn.a.spd[q] | _ => ofS b.qn.b.spd[q]
  match o with
  | 0x000 => b.quoinStatus
  | 0x004 => b.ev[(9 : Fin 18)]
  | 0x008 => b.qn.fault
  | 0x00C => b.qn.a.demand ||| b.qn.b.demand
  | 0x010 => b.qn.active
  | 0x014 => b.qn.crc
  | 0x018 => b.qn.logSeq
  | 0x01C => b.quoinSession
  | 0x040 => b.qn.demandCnt | 0x044 => b.qn.testfailCnt | 0x048 => b.qn.rstRejCnt
  | _ =>
    if 0x20 ≤ o && o < 0x30 then ax 0 (o - 0x20)
    else if 0x30 ≤ o && o < 0x40 then ax 1 (o - 0x30)
    else if 0x100 ≤ o && o < 0x160 then cfgWord b.qn.staged ((o - 0x100) / 4)
    else 0

/-- QN_CNT_CLR (R388). -/
def execQnCntClr (bn : BenchIx) (v : Word) (s : State) : Host.Outcome State Fault Refusal :=
  s.onBench bn fun b => b.setQuoin fun q => { q with
    demandCnt := if bitOf v 0 then 0 else q.demandCnt, testfailCnt := if bitOf v 1 then 0 else q.testfailCnt,
    rstRejCnt := if bitOf v 2 then 0 else q.rstRejCnt }

end Sys2Proof.Machine
end

