-- ==== Sys2Proof/Machine/Recipe.lean ====
section
/-!
DEFINITION. The recipe sequencer (R252 to R275).
-/
namespace Sys2Proof.Machine

/-! ### Step entries (R252, R253) -/

/-- Word at byte offset o of a step entry. -/
def stepWord (w : StepWords) (o : Nat) : Word := w.getD (o / 4) 0
def stepEnd (w : StepWords) : Nat := fld (stepWord w 0) 31 30
def stepNtgt (w : StepWords) : Nat := fld (stepWord w 0) 5 0
def stepTicks (w : StepWords) : Nat := (stepWord w 4).toNat
def stepNextT (w : StepWords) : Nat := fld (stepWord w 8) 16 0
def stepNextC (w : StepWords) : Nat := fld (stepWord w 0xC) 16 0
def stepCmp (w : StepWords) : Nat := fld (stepWord w 0x10) 31 28
def stepCpoint (w : StepWords) : Nat := fld (stepWord w 0x10) 13 0
def stepChold (w : StepWords) : Nat := fld (stepWord w 0x18) 15 0
/-- Targets in use, as (KIND, INDEX, VALUE). -/
def stepTargets (w : StepWords) : List (Nat × Nat × Word) :=
  (List.range (stepNtgt w)).map fun i =>
    (fld (stepWord w (0x40 + 8 * i)) 31 28, fld (stepWord w (0x40 + 8 * i)) 13 0, stepWord w (0x44 + 8 * i))

/-- No step: the recipe ends, or has no abort step. -/
def noStep : Nat := 0x1FFFF

/-- Bits of a word of a step entry that are not reserved (R252). -/
def stepMask (k : Nat) : Word :=
  match k with
  | 0 => 0xC000003F | 1 => 0xFFFFFFFF | 2 => 0x1FFFF | 3 => 0x1FFFF | 4 => 0xF0003FFF | 5 => 0xFFFFFFFF
  | 6 => 0xFFFF | 7 => 0xFFFF
  | _ => if 16 ≤ k && k < 80 then (if k % 2 = 0 then 0xF0003FFF else 0xFFFFFFFF) else 0

/-- Two targets name the same KIND and INDEX. -/
def sameTargets : List (Nat × Nat × Word) → Bool
  | [] => false
  | t :: r => r.any (fun u => u.1 = t.1 && u.2.1 = t.2.1) || sameTargets r

/-- A next-step field that may be loaded. -/
def nextOk (n : Nat) : Bool := n < 0x10000 || n = noStep

/-- An entry has none of the properties of R253. -/
def stepOk (w : StepWords) : Bool :=
  w.length = 128 && stepNtgt w ≤ 32 && (List.range 128).all (fun k => w.getD k 0 &&& ~~~ stepMask k = 0) &&
  (stepEnd w = 1 || 2 ≤ stepTicks w) && nextOk (stepNextT w) && nextOk (stepNextC w) &&
  (stepEnd w = 0 || stepCmp w ≤ 7) &&
  (stepTargets w).all (fun t => match t.1 with
    | 0 => true | 1 => t.2.1 < 512 | 2 => t.2.1 < 16384 | 3 => t.2.1 < 64 | _ => false) &&
  !sameTargets (stepTargets w)

/-- The stored content of a step. -/
def Bench.stepAt (b : Bench) (s : Nat) : StepWords := Tbl.get [] b.rs.store s

def Bench.recipe (b : Bench) (n : Fin 16) : Recipe := b.rs.slots[n]
def Bench.setRecipe (n : Fin 16) (r : Recipe) (b : Bench) : Bench := { b with rs := { b.rs with slots := b.rs.slots.set n r } }
/-- ARMED, RUNNING, PAUSED or HELD. -/
def Recipe.active (r : Recipe) : Bool := r.state = .armed || r.state = .running || r.state = .paused || r.state = .held

/-! ### Boundaries (R255, R256) -/

/-- The condition of a step on a point (R256). Of a BOOL only bit 0 counts (R10). -/
def stepHolds (w : StepWords) (e : Point) : Bool :=
  let m : Word := if e.format = 3 then 1 else BitVec.allOnes 32
  let a := e.value &&& m
  let b := stepWord w 0x14 &&& m
  let half := e.format = 1 || e.format = 2
  let lt (a b : Word) : Bool :=
    if e.format = 5 then fltCmp 1 a b else if e.format = 4 then a.toNat < b.toNat
    else if half then s16 a < s16 b else s32 a < s32 b
  let le (a b : Word) : Bool :=
    if e.format = 5 then fltCmp 2 a b else if e.format = 4 then a.toNat ≤ b.toNat
    else if half then s16 a ≤ s16 b else s32 a ≤ s32 b
  !qBad e.quality &&
  match stepCmp w with
  | 0 => a = b | 1 => a ≠ b | 2 => lt b a | 3 => le b a | 4 => lt a b | 5 => le a b
  | 6 => a &&& b = b | 7 => a &&& b ≠ 0 | _ => false

/-- The time boundary B_T (R255). -/
def Recipe.timeB (r : Recipe) : Nat := r.sb + stepTicks r.cur * 10000

/-- The boundary that the step's end condition gives, as far as it is known (R255). -/
def Recipe.natural (r : Recipe) : Option (Nat × CandRole) :=
  match stepEnd r.cur with
  | 0 => some (r.timeB, .time)
  | 1 => r.found.map fun t => (t, .cond)
  | 2 => match r.found with
    | some t => if t ≤ r.timeB then some (t, .cond) else some (r.timeB, .time)
    | none => some (r.timeB, .time)
  | _ => r.found.map fun t => (t, .time)

def Recipe.cand (r : Recipe) (k : CandRole) : Option Cand := r.cands.find? fun c => c.role == k

/-- The candidate that a skip begins (R266). -/
def Recipe.skipCand (r : Recipe) (step : Nat) : Option Cand := if step = noStep then r.cand .time else r.cand .skip

/-- What begins next and when: the recipe's start, an abort, a skip, or the step's own boundary, unless a pause
comes before it (R255, R263, R265 to R267). -/
def Recipe.upcoming (r : Recipe) : Option (Nat × Option Cand) :=
  match r.state with
  | .armed => some (r.start, r.cand .first)
  | .running | .paused =>
    let nat := if r.state = .paused then none else
      match r.natural with
      | some (t, k) => (match r.pauseAt with | some z => if z < t then none else some (t, r.cand k) | none => some (t, r.cand k))
      | none => none
    let skip := match r.skipAt with
      | some (k, s) => (match nat with | some (t, c) => if k ≤ t then some (k, r.skipCand s) else some (t, c) | none => some (k, r.skipCand s))
      | none => nat
    match r.abortAt with
    | some z => (match skip with | some (t, c) => if z ≤ t then some (z, r.cand .abort) else some (t, c) | none => some (z, r.cand .abort))
    | none => skip
  | _ => none

/-! ### Targets (R258 to R260) -/

/-- Whether a target may act at instant t for slot n, or a lower slot prevails (R260); a slot does not conflict with itself. -/
def Bench.claim (n kind ix t : Nat) (b : Bench) : Bool × Bench :=
  let l := b.rs.claims.filter fun c => b.rail.now ≤ c.2.2.1 + 10000
  match l.find? (fun c => c.1 == kind && c.2.1 == ix && c.2.2.1 == t) with
  | none => (true, { b with rs := { b.rs with claims := l ++ [(kind, ix, t, n)] } })
  | some c =>
    if c.2.2.2 = n then (true, b) else
    let b : Bench := { b with rs := { b.rs with conflictCnt := inc b.rs.conflictCnt, claims := l } }
    if c.2.2.2 < n then (false, b)
    else (true, { b with rs := { b.rs with claims := (l.filter fun x => x ≠ c) ++ [(kind, ix, t, n)] } })

/-- One output target, written at its commit moment with the stamp of the boundary (R27, R258). -/
def Bench.outputTarget (n t : Nat) (b : Bench) (g : Nat × Nat × Word) : Bench :=
  if g.1 ≠ 2 then b
  else
    let (ok, b) := b.claim n 2 g.2.1 t
    if !ok then b
    else
      b.produce .recipe g.2.1 g.2.2 qLive t 10000

/-- Setpoint and axis targets, at the boundary (R228, R258). -/
def Bench.otherTarget (n t : Nat) (b : Bench) (g : Nat × Nat × Word) : Bench :=
  match g.1 with
  | 1 =>
    let (ok, b) := b.claim n 1 g.2.1 t
    if ok then b.recipeSpl g.2.1 t (s16 g.2.2) else b
  | 3 =>
    let (ok, b) := b.claim n 3 g.2.1 t
    if ok then b.axisSpeed g.2.1 g.2.2 t else b
  | _ => b

def Bench.outputTargets (n : Fin 16) (t : Nat) (w : StepWords) (b : Bench) : Bench :=
  (stepTargets w).foldl (fun b g => b.outputTarget n.val t g) b
def Bench.otherTargets (n : Fin 16) (t : Nat) (w : StepWords) (b : Bench) : Bench :=
  (stepTargets w).foldl (fun b g => b.otherTarget n.val t g) b

/-- A candidate that is not prepared at its commit moment (R259): MISS on the step's output points, STEP_LATE. -/
def Bench.recipeLate (n : Fin 16) (t : Nat) (c : Cand) (b : Bench) : Bench :=
  let r := b.recipe n
  let b := b.setRecipe n { r with lateSets := r.lateSets ++ [{ boundary := t, cand := c }] }
  let b : Bench := { b with rs := { b.rs with lateCnt := inc b.rs.lateCnt } }
  let b := (stepTargets c.words).foldl (fun b g =>
    if g.1 = 2 && (b.point g.2.1).source = 7 then b.markPoint g.2.1 fun q => putBit q qMiss true else b) b
  b.raise 7 1 (BitVec.ofNat 32 n.val) 0 0

/-- The commit moment of the targets of what begins at t (R258, R259). -/
def Bench.recipeCommit (n : Fin 16) (t : Nat) (c : Option Cand) (b : Bench) : Bench :=
  let b := b.setRecipe n { b.recipe n with committed := some t }
  match c with
  | none => b
  | some c => if c.ready then b.outputTargets n t c.words else b.recipeLate n t c

/-- Late target sets whose candidates are prepared, at the commit moment of grid instant t (R259): their outputs. -/
def Bench.recipeLateCommit (n : Fin 16) (t : Nat) (b : Bench) : Bench :=
  let meets (x : LateSet) : Bool := x.cand.ready && x.due.isNone && t % 10000 = 0
  let r := b.recipe n
  let b := b.setRecipe n { r with lateSets := r.lateSets.map fun x => if meets x then { x with due := some t } else x }
  (r.lateSets.filter meets).foldl (fun b x => b.outputTargets n t x.cand.words) b

/-- The other targets of a late set act at its grid instant (R258, R259). -/
def Bench.recipeLateAct (n : Fin 16) (b : Bench) : Bench :=
  let now := b.rail.now
  let acts (x : LateSet) : Bool := match x.due with | some z => z ≤ now | none => false
  let r := b.recipe n
  let b := b.setRecipe n { r with lateSets := r.lateSets.filter fun x => !acts x }
  (r.lateSets.filter acts).foldl (fun b x => b.otherTargets n (x.due.getD now) x.cand.words) b

/-- Time moves on; late sets that are due by now act before what this moment brings. -/
def Bench.recipeTick (t : Nat) (n : Fin 16) (b : Bench) : Bench :=
  let b := b.tick t
  if b.bn.mode = .run then b.recipeLateAct n else b

/-- The commit moment of R of a warm restart: the outputs of the current step again (R258, R269). -/
def Bench.restartCommit (n : Fin 16) (t : Nat) (b : Bench) : Bench :=
  let r := b.recipe n
  if r.restartAt = some t && r.committed ≠ some t then
    (b.setRecipe n { r with committed := some t }).outputTargets n t r.cur
  else b

/-- COMMIT_MOMENT (R258, R259, R269). -/
def execCommitMoment (bn : BenchIx) (t : Nat) (slot : Fin 16) (s : State) : Host.Outcome State Fault Refusal :=
  s.onBench bn fun b =>
    let b := b.tick t
    let at' := b.rail.now + 3000
    if b.bn.mode ≠ .run then b
    else
      let b := ((b.recipeLateAct slot).recipeLateCommit slot at').restartCommit slot at'
      match (b.recipe slot).upcoming with
      | some (u, c) => if u = at' && (b.recipe slot).committed ≠ some u then b.recipeCommit slot u c else b
      | none => b

/-! ### Steps begin and end (R255, R257, R261, R264) -/

/-- The candidates of a step (R257); the abort step and a skip's step stay prepared. -/
def Bench.prepare (w : StepWords) (old : List Cand) (b : Bench) : List Cand :=
  let mk (k : CandRole) (s : Nat) : List Cand := if s = noStep then [] else [{ role := k, step := s, words := b.stepAt s }]
  mk .time (stepNextT w) ++ (if stepEnd w = 0 then [] else mk .cond (stepNextC w)) ++
  old.filter fun c => c.role = .abort || c.role = .skip

/-- Words of a run state (R273). -/
def Bench.runStateWord (b : Bench) (n : Fin 16) (o : Nat) : Word :=
  let r := b.recipe n
  let el := if r.state = .running then (b.rail.now - r.sb) / 10000 else r.elapsed
  match o with
  | 0x00 => at32 r.state.code 28 ||| at32 r.rail 25 ||| at32 (b2n r.stepEvt) 24 ||| at32 (b2n r.late) 23 |||
            at32 (b2n r.condBad) 22 ||| at32 (b2n r.resync) 21 ||| at32 r.step 0
  | 0x04 => BitVec.ofNat 32 r.abortStep
  | 0x08 => lo32 r.start | 0x0C => hi32 r.start | 0x10 => lo32 r.sb | 0x14 => hi32 r.sb
  | 0x18 => BitVec.ofNat 32 el | 0x1C => r.steps
  | _ => 0

/-- A notice of a boundary, pause, resume, skip or abort (R270, R483). -/
def Bench.recipeNotice (n : Fin 16) (b : Bench) : Bench :=
  b.notify (.recipe n b.rail.now ((List.range 8).map fun i => b.runStateWord n (4 * i)))

/-- What a boundary leaves besides the step itself: STEPS, event entry (R273, R525), notice. -/
def Bench.boundaryTaken (n : Fin 16) (t next : Nat) (b : Bench) : Bench :=
  let r := b.recipe n
  let r := { r with steps := inc r.steps, lastB := some t }
  let b := b.setRecipe n r
  let b := if r.stepEvt then b.event 0x780 (BitVec.ofNat 32 n.val) (BitVec.ofNat 32 next) r.steps else b
  (b.digestBoundary n t (if next = noStep then none else some next)).recipeNotice n

/-- The targets of what begins at t were not prepared (R259). -/
def Recipe.isLate (r : Recipe) (t : Nat) : Bool := r.lateSets.any fun x => x.boundary == t

/-- A step begins at t (R257, R258): its targets that act at the boundary, its candidates; st is its state. -/
def Bench.beginStep (n : Fin 16) (t : Nat) (c : Cand) (st : RecipeState) (b : Bench) : Bench :=
  let b := if (b.recipe n).committed = some t then b else b.recipeCommit n t (some c)
  let b := if (b.recipe n).isLate t then b else b.otherTargets n t c.words
  let r := b.recipe n
  b.setRecipe n { r with state := st, step := c.step, sb := t, cur := c.words, elapsed := 0, held := 0, found := none,
                         checkFrom := t + 10000, committed := none, cands := b.prepare c.words r.cands }

/-- A boundary: the next step, or the end of the recipe (R255, R261, R266). -/
def Bench.boundary (n : Fin 16) (t : Nat) (c : Option Cand) (st : RecipeState) (b : Bench) : Bench :=
  let b := b.digestBefore n t
  match c with
  | some c => (b.beginStep n t c st).boundaryTaken n t c.step
  | none =>
    let r := b.recipe n
    let el := if r.state = .running then (t - r.sb) / 10000 else r.elapsed
    let b := b.setRecipe n { r with state := .ended, elapsed := el, found := none, committed := none, pauseAt := none,
                                    skipAt := none, abortAt := none, cands := [] }
    (b.raise 7 2 (BitVec.ofNat 32 n.val) 0 0).boundaryTaken n t noStep

/-- The step's own boundary, if it has been reached by rail value z and no pause, skip or abort precedes it. -/
def Bench.takeBoundary (n : Fin 16) (z : Nat) (b : Bench) : Bench :=
  let r := b.recipe n
  match r.state, r.natural, r.upcoming with
  | .running, some (t, k), some (u, _) =>
    if t ≤ z && u = t && r.skipAt.map (·.1) ≠ some t && r.abortAt ≠ some t then b.boundary n t (r.cand k) .running else b
  | _, _, _ => b

/-- STEP_BOUNDARY (R255, R258, R261). -/
def execStepBoundary (bn : BenchIx) (t : Nat) (slot : Fin 16) (s : State) : Host.Outcome State Fault Refusal :=
  s.onBench bn fun b =>
    let b := b.recipeTick t slot
    if b.bn.mode = .run then b.takeBoundary slot b.rail.now else b

/-- A check of the condition at grid instant c, within the step (R255, R256): a bad point counts at every one, also between
the first c at which the condition holds and B. -/
def Bench.conditionCheck (n : Fin 16) (c : Nat) (b : Bench) : Bench :=
  let r := b.recipe n
  let stopped := match r.pauseAt with | some z => z ≤ c | none => false
  let past : Bool := match r.natural with | some (t, _) => t ≤ c | none => false
  if r.state ≠ .running || stepEnd r.cur = 0 || c % 10000 ≠ 0 || c < r.checkFrom || past || stopped then b
  else
    let e := b.point (stepCpoint r.cur)
    let k := if stepHolds r.cur e then r.held + 1 else 0
    let holds := stepChold r.cur < k && (stepEnd r.cur ≠ 3 || r.timeB ≤ c + 20000) && (stepEnd r.cur ≠ 2 || c + 20000 ≤ r.timeB)
    let bad := qBad e.quality
    let b := b.setRecipe n { r with held := k, found := if r.found.isNone && holds then some (c + 20000) else r.found, condBad := r.condBad || bad }
    if bad && !r.condBad then b.raise 7 0 (BitVec.ofNat 32 n.val) 0 0 else b

/-- CONDITION_CHECK (R255). -/
def execConditionCheck (bn : BenchIx) (t : Nat) (slot : Fin 16) (s : State) : Host.Outcome State Fault Refusal :=
  s.onBench bn fun b =>
    let b := b.recipeTick t slot
    if b.bn.mode = .run then b.conditionCheck slot b.rail.now else b

/-- CANDIDATE_PREPARED (R257): the entry of a step has been read and decoded. -/
def execCandidatePrepared (bn : BenchIx) (t : Nat) (slot : Fin 16) (step : Nat) (s : State) : Host.Outcome State Fault Refusal :=
  s.onBench bn fun b =>
    let b := b.tick t
    let r := b.recipe slot
    let f (c : Cand) : Cand := if c.step = step then { c with ready := true } else c
    b.setRecipe slot { r with cands := r.cands.map f, lateSets := r.lateSets.map fun x => { x with cand := f x.cand } }

/-- RECIPE_START_INSTANT (R263, R264). -/
def Bench.recipeStart (n : Fin 16) (b : Bench) : Bench :=
  let r := b.recipe n
  match r.state, r.cand .first with
  | .armed, some c =>
    if b.rail.now < r.start || b.bn.mode ≠ .run then b
    else
      let b := b.beginStep n r.start c .running
      (b.setRecipe n { b.recipe n with rail := b.rail.state.code }).digestBoundary n r.start (some c.step)
  | _, _ => b

/-- RECIPE_START_INSTANT (R264): At instant S an armed recipe begins its first step. -/
def execRecipeStartInstant (bn : BenchIx) (t : Nat) (slot : Fin 16) (s : State) : Host.Outcome State Fault Refusal :=
  s.onBench bn fun b => (b.recipeTick t slot).recipeStart slot

/-- PAUSE_INSTANT (R265): a boundary that falls at Z is taken first. -/
def Bench.recipePause (n : Fin 16) (b : Bench) : Bench :=
  match (b.recipe n).pauseAt with
  | some z =>
    if b.rail.now < z || b.bn.mode ≠ .run || (b.recipe n).state ≠ .running then b
    else
      let b := b.takeBoundary n z
      let r := b.recipe n
      if r.state ≠ .running then b.setRecipe n { r with pauseAt := none }
      else Bench.recipeNotice n (b.setRecipe n { r with state := .paused, elapsed := (z - r.sb) / 10000, found := none, held := 0,
                                                         pauseAt := none })
  | none => b

/-- PAUSE_INSTANT (R265): At instant Z a recipe's elapsed time freezes. -/
def execPauseInstant (bn : BenchIx) (t : Nat) (slot : Fin 16) (s : State) : Host.Outcome State Fault Refusal :=
  s.onBench bn fun b => (b.recipeTick t slot).recipePause slot

/-- R of a warm restart (R269): the recipe leaves HELD and the targets of its current step act again. -/
def Bench.recipeRestart (n : Fin 16) (b : Bench) : Bench :=
  let r := b.recipe n
  match r.restartAt with
  | some z =>
    if b.rail.now < z || b.bn.mode ≠ .run || r.state ≠ .held then b
    else
      let b := (b.restartCommit n z).otherTargets n z r.cur
      let x := { b.recipe n with restartAt := none, committed := none, checkFrom := z + 10000 }
      if bitOf b.rs.cfg 0 then b.setRecipe n { x with state := .paused }
      else b.setRecipe n { x with state := .running, sb := z - x.elapsed * 10000 }
  | none => b

/-- RESUME_INSTANT (R265). -/
def Bench.recipeResume (n : Fin 16) (b : Bench) : Bench :=
  let r := b.recipe n
  match r.resumeAt with
  | some z =>
    if b.rail.now < z || b.bn.mode ≠ .run || r.state ≠ .paused then b
    else Bench.recipeNotice n (b.setRecipe n { r with state := .running, sb := z - r.elapsed * 10000, checkFrom := z + 10000,
                                                       held := 0, found := none, resumeAt := none })
  | none => b

/-- RESUME_INSTANT (R265, R269): at instant Z' a paused recipe resumes; at R of a warm restart a held one does. -/
def execResumeInstant (bn : BenchIx) (t : Nat) (slot : Fin 16) (s : State) : Host.Outcome State Fault Refusal :=
  s.onBench bn fun b => ((b.recipeTick t slot).recipeRestart slot).recipeResume slot

/-- SKIP_INSTANT (R266): a paused recipe stays PAUSED. -/
def Bench.recipeSkip (n : Fin 16) (b : Bench) : Bench :=
  let r := b.recipe n
  match r.skipAt with
  | some (k, step) =>
    if b.rail.now < k || b.bn.mode ≠ .run || !(r.state = .running || r.state = .paused) then b
    else
      let b := b.boundary n k (r.skipCand step) r.state
      let r := b.recipe n
      b.setRecipe n { r with skipAt := none, cands := r.cands.filter fun c => c.role ≠ .skip }
  | none => b

/-- SKIP_INSTANT (R266): At instant K the current step ends as a boundary. -/
def execSkipInstant (bn : BenchIx) (t : Nat) (slot : Fin 16) (s : State) : Host.Outcome State Fault Refusal :=
  s.onBench bn fun b => (b.recipeTick t slot).recipeSkip slot

/-- ABORT_INSTANT (R267): the abort step's targets at Z, unless the recipe is ARMED or has no abort step. -/
def Bench.recipeAbort (n : Fin 16) (b : Bench) : Bench :=
  let r := b.recipe n
  match r.abortAt with
  | some z =>
    if b.rail.now < z || b.bn.mode ≠ .run || !(r.state = .armed || r.state = .running || r.state = .paused) then b
    else
      let b := match (if r.state = .armed then none else r.cand .abort) with
        | some c =>
          let b := if (b.recipe n).committed = some z then b else b.recipeCommit n z (some c)
          if (b.recipe n).isLate z then b else b.otherTargets n z c.words
        | none => b
      let r := b.recipe n
      let el := if r.state = .running then (z - r.sb) / 10000 else r.elapsed
      let b := b.digestBoundary n z none
      Bench.recipeNotice n (b.setRecipe n { r with state := .aborted, elapsed := el, found := none, pauseAt := none, resumeAt := none,
                                                    skipAt := none, abortAt := none, committed := none, cands := [] })
  | none => b

/-- ABORT_INSTANT (R267): At instant Z the abort step's targets apply and the recipe becomes ABORTED. -/
def execAbortInstant (bn : BenchIx) (t : Nat) (slot : Fin 16) (s : State) : Host.Outcome State Fault Refusal :=
  s.onBench bn fun b => (b.recipeTick t slot).recipeAbort slot

/-! ### HOLD, restart, takeover (R268 to R272) -/

def Bench.eachRecipe (f : Fin 16 → Bench → Bench) (b : Bench) : Bench := (List.finRange 16).foldl (fun b n => f n b) b

/-- Entry into HOLD at trigger z (R268). -/
def Bench.recipesHold (z : Nat) (b : Bench) : Bench :=
  b.eachRecipe fun n b =>
    let r := b.recipe n
    let r := { r with pauseAt := none, resumeAt := none, skipAt := none, found := none, held := 0, committed := none,
                          lateSets := [], restartAt := none }
    match r.state with
    | .running => b.setRecipe n { r with state := .held, elapsed := (z - r.sb) / 10000, abortAt := none }
    | .paused => b.setRecipe n { r with state := .held, abortAt := none }
    | .armed => b.setRecipe n { r with state := .aborted, abortAt := none, cands := [] }
    | .held => b.setRecipe n r
    | _ => b

/-- A warm restart (R269): first is the first resumed input instant; each HELD recipe stays so until R. -/
def Bench.recipesRestart (first : Nat) (b : Bench) : Bench :=
  b.eachRecipe fun n b =>
    let x := b.recipe n
    if x.state = .held then b.setRecipe n { x with restartAt := some (firstMul 10000 first) } else b

/-- The targets of the step reached apply at r (R271): outputs with that stamp, the others at r. -/
def Bench.applyReached (n : Fin 16) (r : Nat) (b : Bench) : Bench :=
  let x := b.recipe n
  let c : Cand := { role := .first, step := x.step, words := x.cur, ready := true }
  (b.setRecipe n { x with lateSets := x.lateSets ++ [{ boundary := r, cand := c, due := some r }] }).outputTargets n r x.cur

/-- Time boundaries walked at a takeover (R271), at most f of them. -/
def Bench.walkSteps (n : Fin 16) (r : Nat) : Nat → Bench → Bench
  | 0, b => b
  | f + 1, b =>
    let x := b.recipe n
    if x.state = .running && (stepEnd x.cur = 0 || stepEnd x.cur = 2) && x.timeB ≤ r then
      let t := x.timeB
      let next := stepNextT x.cur
      if next = noStep then
        let b := b.setRecipe n { x with state := .ended, resync := true, elapsed := stepTicks x.cur, cands := [] }
        (b.raise 7 2 (BitVec.ofNat 32 n.val) 0 0).boundaryTaken n t noStep
      else
        let w := b.stepAt next
        let b := b.setRecipe n { x with step := next, sb := t, cur := w, resync := true, elapsed := 0, cands := b.prepare w x.cands }
        Bench.walkSteps n r f (b.boundaryTaken n t next)
    else b

/-- Entry into RUN from SHADOW at x (R271). -/
def Bench.recipesTakeover (x : Nat) (b : Bench) : Bench :=
  let r := firstMul 10000 x
  b.eachRecipe fun n b =>
    let s := (b.recipe n).state
    if s ≠ .running && s ≠ .paused then b
    else
      let b := Bench.walkSteps n r ((r - (b.recipe n).sb) / 20000 + 1) b
      let b := b.setRecipe n { b.recipe n with checkFrom := r + 10000, held := 0, found := none }
      if (b.recipe n).active then b.applyReached n r else b

/-- BENCH_STOP and bench start (R272). -/
def Bench.recipesIdle (b : Bench) : Bench := { b with rs := { b.rs with slots := Vector.replicate 16 {}, claims := [] } }

/-! ### Commands (R253, R254, R262 to R267, R274) -/

/-- Steps that a load may not cover (R254). -/
def Bench.stepsInUse (b : Bench) : List Nat :=
  (b.rs.slots.toList.filter (·.active)).flatMap fun r =>
    r.step :: (r.cands.map (·.step) ++ r.lateSets.map (·.cand.step))

/-- RCP_LOAD_STEPS (R253, R254, R274): one list of 128 words for each entry. -/
def execRcpLoadSteps (c : Cmd) (first count : Word) (entries : List (List Word)) (s : State) : Host.Outcome State Fault Refusal :=
  s.onBench c.bench (Bench.accept (.rcpLoadSteps c first count entries) c modesAny fun b =>
    let f := first.toNat
    let n := count.toNat
    if n = 0 || 4096 < n || 65536 < f + n || entries.length ≠ n then b.refuse c .badParam
    else match entries.findIdx? (fun w => !stepOk w) with
      | some i => b.complete c .badParam i
      | none =>
        if b.stepsInUse.any (fun s => f ≤ s && s < f + n) then b.refuse c .busy
        else
          let st := ((List.range n).zip entries).foldl (fun t e => Tbl.set [] t (f + e.1) e.2) b.rs.store
          Bench.complete c .ok n { b with rs := { b.rs with store := st } })

/-- A recipe command on one slot: RUN, a slot, a listed state, an instant on the grid; k takes the instant used
and whether it is a late one (R262, R263, R274). -/
def Bench.recipeCommand (i : Instr) (c : Cmd) (slot : Word) (at' : Nat) (late : Bool) (stepsOk : Bool) (states : RecipeState → Bool)
    (k : Fin 16 → Nat → Bool → Bench → Bench) (b : Bench) : Bench :=
  b.accept i c modesRun fun b =>
    if 15 < slot.toNat || at' % 10000 ≠ 0 || !stepsOk then b.refuse c .badParam
    else
      let n : Fin 16 := mkIx 15 slot.toNat
      if !states (b.recipe n).state then b.refuse c .badState
      else match b.instantFor 50000 at' late with
        | none => b.refuse c .timeout
        | some z => (k n z (at' ≠ 0 && z ≠ at') b).complete c .ok z

/-- RCP_START (R262 to R264, R267, R274). -/
def execRcpStart (c : Cmd) (slot first abort lo hi flags : Word) (s : State) : Host.Outcome State Fault Refusal :=
  s.onBench c.bench (Bench.recipeCommand (.rcpStart c slot first abort lo hi flags) c slot (cat64 lo hi) (bitOf flags 0)
    (first.toNat < 65536 && (abort.toNat < 65536 || abort.toNat = noStep))
    (fun st => st = .idle || st = .ended || st = .aborted)
    fun n z late b =>
      let ab : List Cand := if abort.toNat = noStep then [] else [{ role := .abort, step := abort.toNat, words := b.stepAt abort.toNat }]
      let fi : Cand := { role := .first, step := first.toNat, words := b.stepAt first.toNat }
      b.setRecipe n { state := .armed, stepEvt := bitOf flags 1, late := late, step := first.toNat, abortStep := abort.toNat,
                      start := z, sb := z, cands := fi :: ab, lateSets := (b.recipe n).lateSets })

/-- RCP_PAUSE (R265, R274). -/
def execRcpPause (c : Cmd) (slot lo hi late : Word) (s : State) : Host.Outcome State Fault Refusal :=
  s.onBench c.bench (Bench.recipeCommand (.rcpPause c slot lo hi late) c slot (cat64 lo hi) (bitOf late 0) true (fun st => st = .running)
    fun n z l b => let r := b.recipe n; b.setRecipe n { r with pauseAt := some z, late := r.late || l })

/-- RCP_RESUME (R265, R274). -/
def execRcpResume (c : Cmd) (slot lo hi late : Word) (s : State) : Host.Outcome State Fault Refusal :=
  s.onBench c.bench (Bench.recipeCommand (.rcpResume c slot lo hi late) c slot (cat64 lo hi) (bitOf late 0) true (fun st => st = .paused)
    fun n z l b => let r := b.recipe n; b.setRecipe n { r with resumeAt := some z, late := r.late || l })

/-- RCP_SKIP (R266, R274). -/
def execRcpSkip (c : Cmd) (slot step lo hi late : Word) (s : State) : Host.Outcome State Fault Refusal :=
  s.onBench c.bench (Bench.recipeCommand (.rcpSkip c slot step lo hi late) c slot (cat64 lo hi) (bitOf late 0)
    (step.toNat < 65536 || step.toNat = noStep) (fun st => st = .running || st = .paused)
    fun n z l b =>
      let r := b.recipe n
      let sk : List Cand := if step.toNat = noStep then [] else [{ role := .skip, step := step.toNat, words := b.stepAt step.toNat }]
      b.setRecipe n { r with skipAt := some (z, step.toNat), late := r.late || l, cands := r.cands.filter (fun c => c.role ≠ .skip) ++ sk })

/-- States in which RCP_ABORT is accepted (R274). -/
def abortable (st : RecipeState) : Bool := st = .armed || st = .running || st = .paused

/-- RCP_ABORT of every slot in a state that has it (R267, R274). -/
def Bench.abortAll (i : Instr) (c : Cmd) (at' : Nat) (late : Bool) (b : Bench) : Bench :=
  b.accept i c modesRun fun b =>
    if at' % 10000 ≠ 0 then b.refuse c .badParam
    else match b.instantFor 50000 at' late with
      | none => b.refuse c .timeout
      | some z =>
        Bench.complete c .ok z (b.eachRecipe fun n b =>
          let r := b.recipe n
          if abortable r.state then b.setRecipe n { r with abortAt := some z, late := r.late || (at' ≠ 0 && z ≠ at') } else b)

/-- RCP_ABORT (R267, R274). -/
def execRcpAbort (c : Cmd) (slot lo hi late : Word) (s : State) : Host.Outcome State Fault Refusal :=
  s.onBench c.bench (if slot = 0xFF then Bench.abortAll (.rcpAbort c slot lo hi late) c (cat64 lo hi) (bitOf late 0)
    else Bench.recipeCommand (.rcpAbort c slot lo hi late) c slot (cat64 lo hi) (bitOf late 0) true abortable
      fun n z l b => let r := b.recipe n; b.setRecipe n { r with abortAt := some z, late := r.late || l })

/-- RS_CNT_CLR (R275). -/
def execRsCntClr (bn : BenchIx) (v : Word) (s : State) : Host.Outcome State Fault Refusal :=
  s.onBench bn fun b => { b with rs := { b.rs with
    lateCnt := if bitOf v 0 then 0 else b.rs.lateCnt, conflictCnt := if bitOf v 1 then 0 else b.rs.conflictCnt } }

/-- RS_ACTIVE (R275). -/
def Bench.recipesActive (b : Bench) : Word :=
  (List.finRange 16).foldl (fun w n => putBit w n.val (b.recipe n).active) 0

end Sys2Proof.Machine
end

