-- ==== Sys2Proof/Machine/Hold.lean ====
section
/-!
DEFINITION. Leaving the running modes: entry into HOLD with its snapshot, entry into CONFIGURE, the cycle
watchdog (R81 to R86, R95 to R97, R122, R151, R152).
-/
namespace Sys2Proof.Machine

def Bench.setBn (f : Bn → Bn) (b : Bench) : Bench := { b with bn := f b.bn }

/-- SNAP_VALID (R95): the header is written and names the image in the current code slot. -/
def Bench.snapValid (b : Bench) : Bool :=
  b.snapOk && (match b.snap, b.pe.cur with | some sn, some i => sn.imageId = i.id | _, _ => false)

/-- BN_MODE (R101). -/
def Bench.modeWord (b : Bench) : Word :=
  at32 b.bn.start 12 ||| at32 (b2n b.bn.hostSilent) 11 ||| at32 (b2n b.bn.snapBusy) 10 ||| at32 (b2n b.snapValid) 9 |||
  at32 (b2n b.bn.bootRom) 8 ||| at32 b.bn.prev.code 4 ||| at32 b.bn.mode.code 0

/-- The bench commands its face to enable outputs only in RUN and while Bnn_CUST_I reads released (R476); Quoin
follows (R360, R364). -/
def Bench.custody (b : Bench) : Bench :=
  let on := b.bn.mode = .run && !b.nl.custIn
  (b.setFace fun f => { f with enable := on }).quoinEval

/-- The mode itself: PREV, the causes of a HOLD left, OUTPUTS_OFF (R100, R101, R535). -/
def Bench.toMode (m : Mode) (b : Bench) : Bench :=
  let was := b.bn.mode = .hold
  b.setBn fun n => { n with
    prev := n.mode, mode := m,
    holdCause := if was then 0 else n.holdCause,
    defaultsHeld := n.defaultsHeld && !was }

/-- Mode changed (R525). -/
def Bench.modeEvent (b : Bench) : Bench := b.event 0x181 0 b.modeWord b.bn.holdCause

/-! ### Leaving RUN and SHADOW -/

/-- A fault class of the active (R487): its heartbeats carry it, and a notice goes at once (R483). -/
def Bench.faultClass (cls : Fin 4) (b : Bench) : Bench :=
  if b.bn.mode = .run then (b.setNl fun x => { x with cls := cls }).notify (.faultClass cls) else b

/-- A hand-over given up: HO_FAILED, or the command that is still open completes (R179, R494, R495). -/
def Bench.endHandover (st : Status) (b : Bench) : Bench :=
  match b.nl.ho with
  | none => b
  | some h =>
    let b := b.setNl fun x => { x with ho := none }
    let b := b.raise 16 2 0 0 0
    if h.told then b else b.completeTag h.tag h.noirq st 0

/-- Work of RUN ends, before the mode changes (R86, R122, R180, R244, R278, R456, R463). -/
def Bench.leaveRun (b : Bench) : Bench :=
  let b := b.kerfLeave.digestLeave
  let b := b.loopsLeave.motionLeave
  let b := (b.cancelChange.endHandover .cancelled).schedStop
  { b with pe := { b.pe with
      staged := [],
      runs := b.pe.runs.map fun r => { r with active := false, dispatched := false, copied := false } } }

/-- What a shadow keeps only as a shadow goes: preload, drive moment, hand-over, migration (R478, R484, R496). -/
def Bench.leaveShadow (b : Bench) : Bench :=
  b.setNl fun x => { x with preload := [], drive := none, hoX := none, migr := none, resync := false, stale := false,
                            full := false, wasEligible := false, isolated := false, custFault := false, mismatchAt := none }

/-- A cyclic task's cycle is in progress (R86). DESIGN CHOICE (log 55): a cycle lasts from I(k) to E(k); between E(k) and
O(k) none is part-way through. -/
def Bench.midCycle (b : Bench) : Bool := b.bn.mode = .run && (b.pe.runs.toList.drop 1).any (·.active)

/-! ### HOLD (R81, R85, R86, R95) -/

/-- Rail value at which a task's watchdog trips (R151). -/
def Bench.watchdogAt (k : Fin 16) (b : Bench) : Nat :=
  let tc := b.pe.tasks[k]
  b.pe.runs[k].ik + tc.d * 1000 + (if k = 0 then 0 else tc.g * tc.p * 10)

/-- Tasks whose watchdog has come due by now, in RUN. -/
def Bench.watchdogsDue (b : Bench) : BitVec 16 :=
  (List.finRange 16).foldl (fun w k =>
    putBit w k.val (b.bn.mode = .run && b.pe.runs[k].active && b.watchdogAt k ≤ b.rail.now)) 0

/-- The parts of a bench that a snapshot holds. -/
def Bench.snapshot (b : Bench) : Snapshot :=
  { imageId := (match b.pe.cur with | some i => i.id | none => 0), modeCfg := b.bn.modeCfg, cause := b.bn.holdCause,
    rail := b.bn.holdRail, inst := b.inst, points := b.points, conf := b.conf, forces := b.pe.forces, live := b.pe.live,
    sc := b.sc, fq := b.fq, tasks := b.pe.tasks, runs := b.pe.runs, rsCfg := b.rs.cfg, loops := b.le.loops, axes := b.mx.axes, recipes := b.rs.slots }

/-- A HOLD trigger with its cause and, on an active, its fault class (R81, R83, R85, R86, R487). -/
def Bench.enterHold (cause : Word) (cls : Fin 4) (b : Bench) : Bench :=
  match b.bn.mode with
  | .hold => b.setBn fun n => { n with holdCause := n.holdCause ||| cause }
  | .run | .shadow =>
    let run := b.bn.mode = .run
    let cause := if b.midCycle then cause ||| 0x100#32 else cause
    let trips := b.watchdogsDue
    let b := b.faultClass cls
    let b := if run then b.leaveRun.recipesHold b.rail.now else (b.leaveShadow.motionLeave.schedStop).recipesHold b.rail.now
    let b := b.toMode .hold
    let b := (b.setBn fun n => { n with holdCause := cause, holdRail := b.rail.now, snapBusy := true, resumed := false, trips := trips }).faceSafe
    let b := if run then b.canLeaveRun else b.canFromShadow
    let b := (b.restSupply.custody).health 24
    Bench.modeEvent { b with snap := some b.snapshot, snapOk := false }
  | _ => b

/-- The face takes the hardware defaults of R80 until the bench leaves HOLD (R535); the DO history restarts where an output
changes (R542). -/
def Bench.holdDefaults (b : Bench) : Bench :=
  if b.bn.defaultsHeld then b
  else
    let b := b.setBn fun n => { n with defaultsHeld := true }
    b.setFace fun f => { f with do_ := f.do_.map fun x => x.landOff b.rail.now }

/-- SNAPSHOT_COMPLETE (R95): the header is written. -/
def execSnapshotComplete (bn : BenchIx) (t : Nat) (s : State) : Host.Outcome State Fault Refusal :=
  s.onBench bn fun b =>
    let b := b.tick t
    if b.bn.snapBusy then
      let b := b.setBn fun n => { n with snapBusy := false }
      { b with snap := b.snap.map fun x => { x with headed := true }, snapOk := b.snap.isSome }
    else b

/-! ### CONFIGURE (R83, R97) -/

/-- Initial instance data of an image. -/
def initialData (i : Image) : Tbl Byte := i.cells.foldl (fun m c => Tbl.set 0 m c.1 c.2) []

/-- Instance data and engine state are discarded; the image's initial instance data is loaded (R97). The force
table, the configuration and the event counters stay. -/
def Bench.freshState (b : Bench) : Bench :=
  let b := b.recipesIdle
  { b with
    inst := (match b.pe.cur with | some i => initialData i | none => []),
    le := { b.le with loops := [] },
    mx := { b.mx with axes := Tbl.mapAll {} (fun _ x => { inp := x.inp }) b.mx.axes, stops := [] },
    pe := { b.pe with runs := b.pe.runs.map fun r => { r with frozen := [] }, staged := [], errLast := none, startAt := 0 },
    sc := { b.sc with slots := Tbl.mapAll {} (fun _ x => { x with flags := 0, readyAt := 0 }) b.sc.slots } }

/-- Entry into CONFIGURE by BENCH_STOP or BENCH_COLD_START (R81, R83, R97, R487). -/
def Bench.enterConfigure (b : Bench) : Bench :=
  let was := b.bn.mode
  let b := b.faultClass 2
  let b := if was = .run then b.leaveRun else if was = .shadow then b.leaveShadow.schedStop else b.schedStop
  let b := (b.freshState.toMode .configure).faceSafe
  let b := if was = .run then b.canLeaveRun else if was = .shadow then b.canFromShadow else b
  (b.haulLeave.restSupply.custody).modeEvent

/-! ### The cycle watchdog (R151, R152) -/

/-- A trip of a task's watchdog, or a core fault in one of its segments (R152, R205, R467, R487). -/
def Bench.watchdogTrip (task : Fin 16) (b : Bench) : Bench :=
  let b : Bench := { b with pe := { b.pe with wdTask := some task, wdRail := b.rail.now } }
  let b := (b.raise 4 0 (BitVec.ofNat 32 task.val) 0 0).health 5
  (b.earlyClose 3).enterHold 4 1

/-- WATCHDOG_TRIP (R151, R152). A trip that had come due as another trigger put the bench into HOLD arrived with it,
and adds its cause (R85). -/
def execWatchdogTrip (bn : BenchIx) (t : Nat) (task : Fin 16) (s : State) : Host.Outcome State Fault Refusal :=
  s.onBench bn fun b =>
    let b := b.tick t
    if b.bn.mode = .run && b.pe.runs[task].active && b.watchdogAt task ≤ b.rail.now then b.watchdogTrip task
    else if b.bn.mode = .hold && bitOf b.bn.trips task.val then
      (b.setBn fun n => { n with trips := putBit n.trips task.val false }).watchdogTrip task
    else b

end Sys2Proof.Machine
end

