-- ==== Sys2Proof/Machine/Trust.lean ====
section
/-!
DEFINITION. Guard sessions, guard writes and the guard log (R544 to R551, R554), and the commands of the mailbox
(R530, R546).
-/
namespace Sys2Proof.Machine

/-! ### Log (R551) -/

/-- An entry of a bench's guard log, with BN_MODE at the write; at 4,096 entries the oldest goes. -/
def Bench.guardLogAs (mode : Word) (cal kind : Nat) (oper : BitVec 16) (stamp off : Nat) (before written : Word) (b : Bench) : Bench :=
  let g := b.gd
  let e := logEntry g.log [g.seq + 1, at32 kind 0 ||| at32 oper.toNat 16, lo32 stamp, hi32 stamp, lo32 cal, hi32 cal,
    b.bn.life.opHours, BitVec.ofNat 32 off, before, written, mode]
  let log := g.log ++ [e]
  { b with gd := { g with seq := g.seq + 1, log := log.drop (log.length - 4096) } }

def Bench.guardLog (cal kind : Nat) (oper : BitVec 16) (stamp off : Nat) (before written : Word) (b : Bench) : Bench :=
  b.guardLogAs b.modeWord cal kind oper stamp off before written

/-- An event that the log of every bench records (R545). -/
def State.guardLogAll (kind : Nat) (oper : BitVec 16) (s : State) : State :=
  let cal := s.hub.calNow
  (List.finRange 16).foldl (fun s n => s.putBench n ((s.bench n).guardLog cal kind oper (s.bench n).rail.now 0 0 0)) s

/-- A GS_EVENTS bit set by hardware raises vector 3 of function 0 (R533, R554). -/
def Hub.gsEvent (bit : Nat) (h : Hub) : Hub := Hub.vector 3 { h with gsEvents := putBit h.gsEvents bit true }

/-! ### Sessions (R545) -/

/-- The session closes, with the log KIND and the event bit of what closed it; the debug ports close (R546). -/
def State.closeSession (kind bit : Nat) (s : State) : State :=
  match s.hub.session with
  | none => s
  | some x =>
    let s := (s.guardLogAll kind x.oper).mapBenches fun b => { b with gd := { b.gd with debug := false } }
    { s with hub := Hub.gsEvent bit { s.hub with session := none, debugBench := none } }

/-- A guard write or a 0x0Exx command keeps the session open (R545). -/
def Hub.guardActive (h : Hub) : Hub := { h with session := h.session.map fun x => { x with last := h.up } }

/-- GUARD_SESSION_TIMEOUT (R545). -/
def execGuardSessionTimeout (t : Nat) (s : State) : Host.Outcome State Fault Refusal :=
  let s := { s with hub := s.hub.tick t }
  match s.hub.session with
  | some x => .next (if x.last + 600000000000 ≤ s.hub.up then s.closeSession 5 2 else s)
  | none => .next s

/-! ### Mailbox commands (R521, R530, R546) -/

/-- The row is the command in MG_MBOX (R530): BUSY, and its opcode, tag, bench, parameters and list. -/
def Hub.mailed (i : Instr) (h : Hub) : Bool :=
  match packetOf i with
  | some a =>
    let w0 := h.mbox[0]
    h.mboxBusy && fld w0 15 0 = a.op && fld w0 31 16 = a.c.tag.toNat && fld h.mbox[1] 11 8 = a.c.bench.val &&
    a.agrees (h.mbox.toList.drop 4) && (!bitOf h.mbox[1] 0 || h.mboxBytes = a.c.buf)
  | none => false

/-- Effect of a mailbox row: none unless it is the command in MG_MBOX. -/
def State.mailed (i : Instr) (k : State → State) (s : State) : Host.Outcome State Fault Refusal :=
  .next (if s.hub.mailed i then k s else s)

/-- A mailbox command ends: its completion is written with PHASE inverted, BUSY clears, vector 0 of function 0. -/
def State.mboxDone (tag : BitVec 16) (st : Status) (result : Nat) (s : State) : State :=
  let h := s.hub
  let ph := !h.mboxPhase
  let cpl : Vector Word 4 :=
    #v[lo32 result, hi32 result, at32 st.code 16 ||| at32 tag.toNat 0, at32 (b2n ph) 31]
  { s with hub := Hub.vector 0 { h with mboxCpl := cpl, mboxPhase := ph, mboxBusy := false } }

/-- GUARD_OPEN (R545, R546): the result is the rail value of the bench named. -/
def execGuardOpen (c : Cmd) (oper : Word) (s : State) : Host.Outcome State Fault Refusal :=
  State.mailed (.guardOpen c oper) (fun s =>
    if s.hub.session.isSome then State.mboxDone c.tag .busy 0 { s with hub := s.hub.guardActive }
    else
      let op := oper.setWidth 16
      let s := { s with hub := Hub.gsEvent 0 { s.hub with session := some { oper := op, last := s.hub.up } } }
      (s.guardLogAll 3 op).mboxDone c.tag .ok (s.bench c.bench).rail.now) s

/-- GUARD_CLOSE (R545, R546). -/
def execGuardClose (c : Cmd) (s : State) : Host.Outcome State Fault Refusal :=
  State.mailed (.guardClose c) (fun s =>
    if s.hub.session.isSome then (s.closeSession 4 1).mboxDone c.tag .ok 0 else s.mboxDone c.tag .badState 0) s

/-- GUARD_LOG_READ (R546, R551). -/
def execGuardLogRead (c : Cmd) (first count : Word) (s : State) : Host.Outcome State Fault Refusal :=
  State.mailed (.guardLogRead c first count) (fun s : State =>
    let s := { s with hub := s.hub.guardActive }
    if count = 0 || 4096 < count.toNat then s.mboxDone c.tag .badParam 0
    else
      let r := logRead (s.bench c.bench).gd.log first.toNat count.toNat
      let ws := r.1.flatten
      let s := { s with hub := { s.hub with sent := s.hub.sent ++ [HostMsg.buffer c.tag (ws.take (c.buf / 4))] } }
      if listHolds c ws then s.mboxDone c.tag .ok r.2 else s.mboxDone c.tag .partialDone (c.buf / 4 * 4)) s

/-- QN_PASSWORD_REPLACE (R381, R384, R546). -/
def execQnPasswordReplace (c : Cmd) (pw : List Byte) (s : State) : Host.Outcome State Fault Refusal :=
  State.mailed (.qnPasswordReplace c pw) (fun s =>
    let cal := s.hub.calNow
    match s.hub.session with
    | none => s.mboxDone c.tag .badState 0
    | some x =>
      let s := { s with hub := s.hub.guardActive }
      if !passwordOk pw then s.mboxDone c.tag .badParam 0
      else
        let b := (s.bench c.bench).setQuoin fun q => { q with password := some pw, failures := 0, waitAt := none }
        let b := (b.quoinLog cal 10 x.oper b.qn.crc 0).guardLog cal 7 x.oper b.rail.now 0 0 0
        (s.putBench c.bench b).mboxDone c.tag .ok 0) s

/-- DEBUG_OPEN (R546, R551). -/
def execDebugOpen (c : Cmd) (s : State) : Host.Outcome State Fault Refusal :=
  State.mailed (.debugOpen c) (fun s =>
    match s.hub.session with
    | none => s.mboxDone c.tag .badState 0
    | some x =>
      let s := { s with hub := { s.hub.guardActive with debugBench := some c.bench } }
      let b := s.bench c.bench
      let b : Bench := { b with gd := { b.gd with debug := true } }
      (s.putBench c.bench (b.guardLog s.hub.calNow 6 x.oper b.rail.now 0 0 0)).mboxDone c.tag .ok 0) s

/-! ### Guard writes (R547, R548) -/

/-- The writable bits of a guard register; none where no guard register lies (R552). -/
def guardMask (off : Nat) : Option Word :=
  if off % 4 ≠ 0 then none
  else if 0x100 ≤ off && off < 0x140 then some (if off % 8 = 0 then 0xFFFFFFFF else 0xFFFF)
  else if 0x140 ≤ off && off < 0x150 then some (if off % 8 = 0 then 0xFFFFFFFF else 0xFFFF)
  else if 0x160 ≤ off && off < 0x170 then some 0xFFFFFFFF
  else if 0x200 ≤ off && off < 0x400 then some (if off % 8 = 0 then 0xBFFFFFFF else 0x1FFFFFFF)
  else if 0x400 ≤ off && off < 0x1000 then some 0xFFFFFFFF
  else none

/-- The lower, and the higher, word of a two-word guard: the Haul lists and the CAN entries. -/
def guardLow (off : Nat) : Bool := (0x160 ≤ off && off < 0x170 || 0x200 ≤ off && off < 0x400) && off % 8 = 0
def guardHigh (off : Nat) : Bool := (0x160 ≤ off && off < 0x170 || 0x200 ≤ off && off < 0x400) && off % 8 = 4

/-- The check of step 1 of R548. -/
def Bench.guardOk (b : Bench) (off : Nat) (mask v : Word) : Bool :=
  let hi := sext 16 (fld v 31 16)
  v &&& ~~~ mask = 0 &&
  (!((0x140 ≤ off && off < 0x150 && off % 8 = 0) || 0x800 ≤ off) || s16 v ≤ hi) &&
  (!(0x400 ≤ off && off < 0x800 && off % 16 = 8) || s32 v ≤ s32 (b.guardReg (off + 4))) &&
  (!(0x400 ≤ off && off < 0x800 && off % 16 = 12) || s32 (b.guardReg (off - 4)) ≤ s32 v)

/-- A write as its log entry shows it: calendar, operator and BN_MODE. -/
structure GuardBy where
  cal : Nat
  oper : BitVec 16
  mode : Word

/-- Steps 2 to 4 for the words of one guard (R548): each logged with its effect moment, then stored in both copies of the
set, effect due. Where a step fails, the registers keep their old values, and LOG_FAIL sets. -/
def Bench.guardStore (y : GuardBy) (mram : MramTry) (g : Nat) (l : List (Nat × Word)) (b : Bench) : Bench :=
  let logged := l.foldl (fun b e => b.guardLogAs y.mode y.cal 1 y.oper g e.1 (b.guardReg e.1) e.2) b
  let reg := l.foldl (fun m e => Tbl.set none m e.1 (some e.2)) b.gd.reg
  match mram with
  | .noLog => { b with gd := { b.gd with logFail := true } }
  | .noSet first second =>
    { logged with gd := { logged.gd with
        logFail := true, copyA := if first then some reg else b.gd.copyA, copyB := if second then some reg else b.gd.copyB } }
  | .ok =>
    { logged with gd := { logged.gd with
        reg := reg, copyA := some reg, copyB := some reg, pend := b.gd.pend ++ l.map (fun e => (g, e.1, e.2)), gbad := false } }

/-- The effect moment of a write (R548, R549): at most 20 µs after it, and not before that of a write made earlier. -/
def Bench.guardMoment (b : Bench) (g : Nat) : Nat :=
  let g := max b.rail.now (min g (b.rail.now + 20000))
  match b.gd.pend.getLast? with | some e => max g e.1 | none => g

/-- A guard write inside a session to a bench not in WAKE; the Booleans of the result: refused, MRAM failed. -/
def Bench.guardWrite (y : GuardBy) (mram : MramTry) (g off : Nat) (v : Word) (b : Bench) : Bench × Bool × Bool :=
  match guardMask off with
  | none => (b, false, false)
  | some mask =>
    if !b.guardOk off mask v then (b.guardLogAs y.mode y.cal 2 y.oper b.rail.now off (b.guardReg off) v, true, false)
    else if guardLow off then ({ b with gd := { b.gd with low := Tbl.set none b.gd.low off (some v) } }, false, false)
    else
      let low := if guardHigh off then Tbl.get none b.gd.low (off - 4) else none
      let l := match low with | some w => [(off - 4, w), (off, v)] | none => [(off, v)]
      let b := b.guardStore y mram g l
      let b : Bench := if mram = .ok then { b with gd := { b.gd with low := Tbl.set none b.gd.low (off - 4) none } } else b
      (b, false, mram ≠ .ok)

/-- The counts and events of the GS_ block after a guard write. -/
def Hub.guardOutcome (rej fail : Bool) (h : Hub) : Hub :=
  let h := if rej then Hub.gsEvent 3 { h with gsRej := inc h.gsRej } else h
  if fail then h.gsEvent 4 else h

/-- GUARD_WRITE (R544, R545, R547, R548): to the bench of GS_SEL. `g` is the effect moment, at most 20 µs after the
write; `mram`: how steps 2 and 3 end. An offset of the window without a guard takes nothing (R552). -/
def execGuardWrite (off : Nat) (v : Word) (g : Nat) (mram : MramTry) (s : State) : Host.Outcome State Fault Refusal :=
  match guardMask off, s.hub.session with
  | none, _ => .next s
  | some _, none => .next { s with hub := { s.hub with gsDenied := inc s.hub.gsDenied } }
  | some _, some x =>
    let s := { s with hub := s.hub.guardActive }
    let n : BenchIx := mkIx 15 (fld s.hub.gsSel 3 0)
    let b := s.bench n
    if b.bn.mode = .wake then
      let h : HeldWrite := { off := off, value := v, oper := x.oper, mram := mram, mode := b.modeWord }
      .next (s.putBench n { b with gd := { b.gd with held := b.gd.held.filter (fun e => e.off ≠ off) ++ [h] } })
    else
      let r := b.guardWrite ⟨s.hub.calNow, x.oper, b.modeWord⟩ mram (b.guardMoment g) off v
      let s := s.putBench n r.1
      .next { s with hub := s.hub.guardOutcome r.2.1 r.2.2 }

/-- A stored value reaches its block (R549): an axis in motion takes it under R286 and R287, an SLS limit over it (R374). -/
def Bench.guardApply (g off : Nat) (v : Word) (b : Bench) : Bench :=
  let b : Bench := { b with gd := { b.gd with eff := Tbl.set none b.gd.eff off (some v) } }
  if 0x400 ≤ off && off < 0x800 then
    let a := (off - 0x400) / 16
    let ch : AxisChange := match off % 16 with
      | 0 => { time := g, par := .gvmax, value := (b.guardVmax a : Int) }
      | 4 => { time := g, par := .gacc, value := (v.toNat : Int) }
      | 8 => { time := g, par := .pmin, value := s32 v }
      | _ => { time := g, par := .pmax, value := s32 v }
    if (b.axis a).busy then b.axisQueue a ch else b
  else if off = 0x140 || off = 0x148 then b.faceConf
  else b

/-- Every stored value whose effect moment has come, in the order written; CAN frames offered before it met the list in
force then (R433). -/
def Bench.guardEffect (b : Bench) : Bench :=
  let b := b.canOffers (b.rail.now - 1)
  let due := b.gd.pend.filter fun e => e.1 ≤ b.rail.now
  let b : Bench := { b with gd := { b.gd with pend := b.gd.pend.filter fun e => b.rail.now < e.1 } }
  due.foldl (fun b e => b.guardApply e.1 e.2.1 e.2.2) b

/-- GUARD_EFFECT (R549). -/
def execGuardEffect (bn : BenchIx) (t : Nat) (s : State) : Host.Outcome State Fault Refusal :=
  s.onBench bn fun b => (b.tick t).guardEffect

/-- Writes held in WAKE are taken as the bench leaves it, each acting at once (R547); how many were refused, and how many
MRAM failed. -/
def Bench.guardHeld (cal : Nat) (b : Bench) : Bench × Nat × Nat :=
  let held := b.gd.held
  let b : Bench := { b with gd := { b.gd with held := [] } }
  let r := held.foldl (fun (r : Bench × Nat × Nat) e =>
    let x := r.1.guardWrite ⟨cal, e.oper, e.mode⟩ e.mram r.1.rail.now e.off e.value
    (x.1, r.2.1 + b2n x.2.1, r.2.2 + b2n x.2.2)) (b, 0, 0)
  (r.1.guardEffect, r.2)

/-- Bench start: the first copy of the guard set that passes its check is loaded (R550); oper: the operator of an open
session. -/
def Bench.guardStart (okA okB : Bool) (cal : Nat) (oper : BitVec 16) (b : Bench) : Bench :=
  let g := b.gd
  let set := if okA && g.copyA.isSome then g.copyA else if okB then g.copyB else none
  let never := g.copyA.isNone && g.copyB.isNone
  let reg := set.getD []
  let b : Bench := { b with gd := { g with reg := reg, eff := reg, pend := [], low := [], gbad := !never && set.isNone } }
  if b.gd.gbad then b.guardLog cal 8 oper b.rail.now 0 0 0 else b

/-- GS_CNT_CLR (R554). -/
def execGsCntClr (v : Word) (s : State) : Host.Outcome State Fault Refusal :=
  .next { s with hub := { s.hub with gsDenied := if bitOf v 0 then 0 else s.hub.gsDenied,
                                     gsRej := if bitOf v 1 then 0 else s.hub.gsRej } }

end Sys2Proof.Machine
end

