-- ==== Sys2Proof/Machine/Modes.lean ====
section
/-!
DEFINITION. Bench resets, bench start, entry into RUN and SHADOW, the mode commands, host silence and link loss
(R80 to R99, R43, R477, R485).
-/
namespace Sys2Proof.Machine

/-! ### Reset into WAKE (R83, R87, R90, R122, R469, R522) -/

/-- What a bench keeps over a reset: what MRAM holds, its straps, time since power-up, its Haul and Nalry
wiring, its function. -/
def Bench.wakeNalry (b : Bench) : Nalry :=
  let x := b.nl
  { laneUp := x.laneUp, nalryOk := x.nalryOk, tallyOk := x.tallyOk, custIn := x.custIn, custAt := x.custAt, hb := x.hb,
    hbAt := x.hbAt, tallyAt := x.tallyAt, lostAt := x.lostAt, tallyOut := x.tallyOut, tokenAt := x.tokenAt, cls := x.cls,
    sent := x.sent }

/-- The face goes on by itself: its inputs, its power, its link and the safe values it was last given. The outputs of
one that bench frames and tokens reach take hardware defaults (R80); another stands at its SAFE values (R344). -/
def Bench.wakeFace (b : Bench) : Face :=
  let now := b.rail.now
  let f := { b.fc with
    enable := false, mapRej := false, wbCnt := 0, sagCnt := 0, lockCnt := 0, faultCnt := 0, encErrCnt := 0, cplCnt := 0,
    orders := [],
    do_ := b.fc.do_.map fun x => { x with want := false },
    ao := b.fc.ao.map fun x => { x with asked := 0 } }
  if f.faceLink && f.tokenOk then
    { f with
      do_ := f.do_.map fun x => x.force false now,
      ao := f.ao.map fun x => { x with u := 0, fromU := 0, fromAt := now, slew := 0, clip := false } }
  else f

def Bench.wakeBn (start : Nat) (b : Bench) : Bn :=
  let n := b.bn
  { prev := n.mode, start := start, modeCfg := n.modeCfg, lifeA := n.lifeA, lifeB := n.lifeB, life := n.life,
    hostAt := b.rail.up, fwCur := n.fwCur, fwAlt := n.fwAlt, fwSwap := n.fwSwap, coreOk := n.coreOk, mid := n.mid, pair := n.pair }

def Bench.wakeRail (b : Bench) : Rail :=
  let r := b.rail
  { now := r.now, up := r.up, wakeAt := r.up }

/-- A bench in WAKE after a reset of kind START (R90, R101); queues of its function as they are, SEQ and RSEQ 0
(R522, R524, R527). -/
def Bench.wake (start : Nat) (b : Bench) : Bench :=
  let b := b.healthLost
  { ix := b.ix, fn := b.fn, free := b.free, snap := b.snap, snapOk := b.snapOk, bn := b.wakeBn start, rail := b.wakeRail,
    qc := { b.qc with evtSeq := 0, rseq := 0, inflight := [], accAt := none, ready := b.qc.ready.filter StreamReady.isDigest },
    pe := { slot := b.pe.slot, img0 := b.pe.img0, img1 := b.pe.img1 },
    gd := { copyA := b.gd.copyA, copyB := b.gd.copyB, log := b.gd.log, seq := b.gd.seq, held := b.gd.held },
    qn := b.qn.reset b.rail.now, fc := b.wakeFace, nl := b.wakeNalry,
    mx := { ensafe := b.ensafeNow }, ha := { link := b.ha.link, speedOk := b.ha.speedOk, tx := b.ha.tx },
    can := b.can.map fun c => { ram := [], sent := c.sent },
    hl := { slots := b.hl.slots, seq := b.hl.seq, found := b.hl.found, wrote := b.hl.wrote, wroteAt := b.hl.wroteAt } }

/-- Every command in progress completes CANCELLED (R87, R522). -/
def Bench.cancelAll (b : Bench) : Bench :=
  b.qc.inflight.foldl (fun b f => b.completeTag f.tag f.noirq .cancelled 0) b

/-- A reset of one bench (R83, R84, R87): hardware fault class first (R487); in RUN an online
change is cancelled (R180), records in progress end (R456) and the digest interval closes (R463). -/
def Bench.resetTo (start : Nat) (b : Bench) : Bench :=
  let b := b.faultClass 3
  let b := if b.bn.mode = .run then b.cancelChange.kerfLeave.digestLeave else b
  b.cancelAll.wake start

/-- BENCH_RESET (R84, R87, R522): no completion is written for it. -/
def execBenchReset (c : Cmd) (s : State) : Host.Outcome State Fault Refusal :=
  s.onBench c.bench (Bench.accept (.benchReset c) c modesAny fun b => (b.dropTag c.tag).resetTo 2)

/-- CORE_RAIL_LOW (R23, R83): the outputs of the face take their safe values. -/
def execCoreRailLow (bn : BenchIx) (t : Nat) (s : State) : Host.Outcome State Fault Refusal :=
  s.onBench bn fun b =>
    let b := ((b.tick t).faceDark).resetTo 3
    b.setBn fun n => { n with coreOk := false }

/-! ### Loading an image (R90, R141, R245, R307, R346, R412, R419, R442) -/

/-- Registers, tables, instance data and tasks take their values from the image in the current code slot. -/
def Bench.loadImage (b : Bench) : Bench :=
  match b.pe.cur with
  | some i =>
    let b : Bench := { b with conf := imageConf i, inst := initialData i, pe := { b.pe with tasks := imageTasks i } }
    b.canImage i.can
  | none =>
    let b : Bench := { b with conf := [], inst := [], pe := { b.pe with tasks := Vector.replicate 16 {} } }
    b.canImage []

/-! ### Bench start (R90 to R95) -/

/-- Firmware slots at a bench start (R92, R532). -/
def Bn.startFw (curOk altOk : Bool) (n : Bn) : Bn :=
  let n := if n.fwSwap then { n with fwCur := n.fwAlt, fwAlt := n.fwCur, fwSwap := false } else n
  let c := curOk && n.fwCur.isSome
  let a := altOk && n.fwAlt.isSome
  let n := { n with fwRunAlt := !c && a, bootRom := !c && !a, fwAltBad := !altOk && n.fwAlt.isSome }
  if n.fwRunAlt then { n with selftest := putBit n.selftest 5 true } else n

/-- A snapshot that is complete stands in MRAM, and it fits the image loaded and its header passes (R95). -/
def Bench.snapUsable (b : Bench) (headerOk : Bool) : Bool := b.snapValid && headerOk

/-- Configuration after a resume: loop and axis descriptors are the snapshot's (Snapshot table), every other register
the image's (R346, R412, R442). -/
def snapConf (snap img : Tbl Word) : Tbl Word :=
  (img.filter fun e => e.1 < 0x80000) ++ snap.filter fun e => 0x80000 ≤ e.1

/-- HOLD out of WAKE (R83, R95): the snapshot's parts; recipes stay IDLE (R272), forces as time lock left them (R94).
DESIGN CHOICE (log 55): this entry into HOLD writes no snapshot again, and the old one stands. -/
def Bench.resumeHold (sn : Snapshot) (b : Bench) : Bench :=
  let b : Bench := { b with
    inst := sn.inst, points := sn.points, conf := snapConf sn.conf b.conf, sc := sn.sc,
    le := { b.le with loops := sn.loops },
    mx := { b.mx with axes := sn.axes },
    rs := { b.rs with cfg := sn.rsCfg },
    pe := { b.pe with tasks := sn.tasks, runs := sn.runs, live := sn.live } }
  ((b.fifosEmptied sn.fq).toMode .hold).setBn fun n => { n with holdCause := 0x40, holdRail := sn.rail }

/-- Mode after a bench start (R83, R91). -/
def Bench.leaveWake (headerOk : Bool) (b : Bench) : Bench :=
  let bad := (match b.snap with | some x => x.headed | none => false) && !b.snapUsable headerOk
  let b := if bad then b.setBn fun n => { n with selftest := putBit n.selftest 7 true } else b
  match b.snap with
  | some sn => if b.snapUsable headerOk && fld b.bn.selftest 4 0 = 0 then b.resumeHold sn else b.toMode .configure
  | none => b.toMode .configure

/-- The bench rows of R90 up to the end of WAKE. The face passes only with L+ at or above 18.0 V (R316); an image that
fails its check is not loaded and stays in its slot (R92). DESIGN CHOICE (log 29): host silence counts from here while
no doorbell has been written (R99). -/
def Bench.startUp (cal : Nat) (oper : BitVec 16) (selftest : BitVec 5) (fwCurOk fwAltOk imgOk headerOk guardA guardB quoinA quoinB : Bool)
    (b : Bench) : Bench :=
  let face := !(b.fc.powered && 18000 ≤ b.fc.lplus)
  let b := b.setBn fun n => Bn.startFw fwCurOk fwAltOk
    { n with selftest := n.selftest ||| selftest.setWidth 32 ||| at32 (b2n face) 3, coreOk := true }
  let bad := b.pe.cur.isSome && !imgOk
  let b : Bench := if bad then { b with pe := { b.pe with imgBad := true }, bn := { b.bn with selftest := putBit b.bn.selftest 6 true } } else b
  let b := (b.loadImage.guardStart guardA guardB cal oper).quoinStart quoinA quoinB cal
  let b := b.setBn fun n => { n with safeLoaded := b.pe.cur.isSome, hostAt := b.rail.up }
  let b := b.kerfStart.leaveWake headerOk
  (((b.periodOpen.faceSafe.canStart).restSupply).custody).event 0x180 0 b.modeWord b.bn.selftest

/-- BENCH_START_COMPLETE (R90 to R95): after time lock, with supply good and MRST_N released. -/
def execBenchStartComplete (bn : BenchIx) (t : Nat) (selftest : BitVec 5)
    (fwCurOk fwAltOk imgOk headerOk guardA guardB quoinA quoinB : Bool) (s : State) : Host.Outcome State Fault Refusal :=
  let b := (s.bench bn).tick t
  if b.bn.mode = .wake && b.rail.state ≠ .unlocked && s.hub.vinGood && !s.hub.inReset then
    let cal := s.hub.calNow
    let oper := match s.hub.session with | some x => x.oper | none => 0
    let r := (b.startUp cal oper selftest fwCurOk fwAltOk imgOk headerOk guardA guardB quoinA quoinB).guardHeld cal
    let s := s.putBench bn r.1
    let h := (List.range r.2.1).foldl (fun h _ => h.guardOutcome true false) s.hub
    .next { s with hub := (List.range r.2.2).foldl (fun h _ => h.guardOutcome false true) h }
  else .next (s.putBench bn b)

/-! ### The copy load (R485) -/

def Bench.lead (b : Bench) : Nat := fld b.nl.cfg 27 24

/-- Bytes of an engine part: sourced points, used loops, used axes, enabled stations of a configuration. -/
def Bench.copyBytes (b : Bench) : Nat :=
  64 + 20 * (b.points.filter fun e => e.2.source ≠ 0).length + 24 * b.usedLoops.length +
  72 * (allAxes.filter b.axisUsed).length + 36 * 16 + 8 * b.stations.length

/-- L as a fraction, from E and for each task its number, P in µs and MAXPG. -/
def copyLoad (e lead : Nat) (l : List (Nat × Nat × Nat)) : Nat × Nat :=
  let (n, d) := l.foldl (fun (n, d) (k, p, m) =>
    let x := 4100 * m + 16 + (if k = lead then e else 0)
    (n * p + x * d, d * p)) ((0 : Nat), (1 : Nat))
  (16 * n, 15 * d)

/-- L exceeds 468.75 bytes per µs. -/
def copyOver (l : Nat × Nat) : Bool := 1875 * l.2 < 4 * l.1

/-- Tasks of the current image as they run: number, P, MAXPG. -/
def Bench.copyTasks (b : Bench) : List (Nat × Nat × Nat) :=
  match b.pe.cur with
  | some i => i.tasks.map fun x => (x.task.val, b.pe.tasks[x.task].p, x.maxpg)
  | none => []

/-- A paired bench notes L (NL_COPY_LOAD). -/
def Bench.noteLoad (l : Nat × Nat) (b : Bench) : Bench :=
  b.setNl fun x => { x with copyLoad := BitVec.ofNat 32 (roundDiv (8 * l.1) (5 * l.2)).toNat }

/-- The check of R485 for the present configuration. -/
def Bench.copyCheck (b : Bench) : Bool × Bench :=
  if b.paired then
    let l := copyLoad b.copyBytes b.lead b.copyTasks
    (!copyOver l, b.noteLoad l)
  else (true, b)

/-! ### The checks of BENCH_RUN, BENCH_SHADOW and warm restart (R34, R73, R83, R91, R550) -/

/-- No failure that keeps the bench from running. -/
def Bench.selftestOk (b : Bench) : Bool := fld b.bn.selftest 4 0 = 0 && !b.gd.gbad

/-- R34, and LEAD of a pair (R501). -/
def Bench.leaveOk (b : Bench) : Bool :=
  (b.points.all fun e => e.2.format < 6 && !(e.2.safety && e.2.output)) && (!b.paired || b.lead ≠ 0)

/-- Task rows of R73 for an image at given timing. -/
def tasksFit (i : Image) (cfg : Vector TaskCfg 16) : Bool :=
  i.tasks.all (fun x => responseOk cfg[x.task].off cfg[x.task].d x.c) &&
  utilOk (i.tasks.map fun x => (x.u, cfg[x.task].p)) && i.handlers.all (fun h => h.task.isSome || h.bound ≤ 2048)

/-- The loop and step rows of R73 for the present configuration. -/
def Bench.enginesFit (b : Bench) : Bool := loopRateOk b.conf && b.stepRate ≤ 25000000

/-- R73 for the present configuration. -/
def Bench.budgetOk (b : Bench) : Bool :=
  (match b.pe.cur with | some i => tasksFit i b.pe.tasks | none => true) &&
  b.enginesFit && b.haulFits && b.canFits

/-- Every descriptor in use is sound (R246, R308, R318, R409, R414, R442, R449). -/
def Bench.descriptorsOk (b : Bench) : Bool := b.loopsOk && b.axesOk && b.faceOk && b.haulOk && b.canOk && b.kerfOk

/-- REJ marks and computed loads of BENCH_RUN. -/
def Bench.runMarks (b : Bench) : Bench := b.loopsCheck.axesCheck.faceCheck.haulCheck.canLoads

/-- Why the bench may not enter RUN, if it may not; the first that applies. -/
def Bench.runRefusal (b : Bench) : Option Status × Bench :=
  if !b.selftestOk then (some .checkFailed, b)
  else if !(b.leaveOk && b.descriptorsOk) then (some .badParam, b)
  else
    let r := b.copyCheck
    if !(b.budgetOk && r.1) then (some .overBudget, r.2)
    else if b.nl.custIn then (some .notEligible, r.2)
    else (none, r.2)

/-- Why the bench may not enter SHADOW. -/
def Bench.shadowRefusal (b : Bench) : Option Status × Bench :=
  if !b.selftestOk then (some .checkFailed, b)
  else if !(b.paired && b.nl.laneUp) then (some .notEligible, b)
  else if !b.leaveOk then (some .badParam, b)
  else
    let r := b.copyCheck
    if r.1 then (none, r.2) else (some .overBudget, r.2)

/-! ### Entry into RUN and SHADOW (R83, R98, R242, R318, R410, R477, R583) -/

/-- A bench in RUN from here on; its tasks begin at input instants from `start` on. -/
def Bench.runFrom (start : Nat) (b : Bench) : Bench :=
  let b : Bench := { b with pe := { b.pe with startAt := start } }
  (b.toMode .run).canReferencesEnd.setNl fun x => { x with cls := 0 }

/-- RUN from CONFIGURE: tasks and loops begin at the first input instant in RUN (R84, R242). -/
def Bench.enterRun (b : Bench) : Bench :=
  let b := (b.runFrom ((b.pe.nextInput b.rail.now).getD b.rail.now)).loopsEnter
  ((b.haulEnter.faceEnter).custody.quoinEnter).modeEvent

/-- Output points carry SAFE until their first output instant (R98). -/
def Bench.safeOutputs (b : Bench) : Bench :=
  b.points.foldl (fun b e => if e.2.output then b.markPoint e.1 fun q => putBit q qSafe true else b) b

/-- RUN from HOLD, resuming at `start` (R98, R243, R269, R305). -/
def Bench.resumeRun (start : Nat) (b : Bench) : Bench :=
  let b := b.fifosEmptied b.fq
  let b := ((b.runFrom start).setBn fun n => { n with resumed := true }).safeOutputs
  let b := ((b.loopsResume fun _ => none).recipesRestart start).motionResume.haulEnter
  ((b.faceEnter).custody.quoinEnter).modeEvent

/-- SHADOW: tracking, nothing driven (R83, R410, R440, R478). -/
def Bench.enterShadow (b : Bench) : Bench :=
  let b := (b.leaveShadow.toMode .shadow).canShadow
  ((b.haulLeave.restSupply).custody).modeEvent

/-- A HOLD that waited for the transition into RUN follows at once (Coincidences of chapter 03). -/
def Bench.holdAfter (b : Bench) : Bench :=
  let w := b.bn.holdWait
  if w = 0 then b
  else
    let off := b.bn.holdOff
    let b := ((b.setBn fun n => { n with holdWait := 0, holdOff := false }).enterHold w b.bn.holdCls).setBn fun n => { n with holdCls := 2 }
    if off then b.holdDefaults else b

/-- The transition into RUN takes place and its command completes (R84). `warm`: the end of the page check. -/
def Bench.finishRun (tag : BitVec 16) (noirq : Bool) (warm : Option Nat) (b : Bench) : Bench :=
  let b := b.setBn fun n => { n with trans := none }
  match warm with
  | none =>
    let r := b.firstInput
    let at' := r.1
    let res := if b.bn.holdWait = 0 then at' else b.rail.now
    ((r.2.enterRun).completeTag tag noirq .ok res).holdAfter
  | some e =>
    match b.pe.nextInput (e + 100000) with
    | some i => ((b.resumeRun i).completeTag tag noirq .ok i).holdAfter
    | none =>
      let r := b.fresh
      ((r.2.resumeRun b.rail.now).completeTag tag noirq .ok r.1).holdAfter

/-- A paired bench sends its run claim first (R477). -/
def Bench.claimOrRun (tag : BitVec 16) (noirq : Bool) (warm : Option Nat) (b : Bench) : Bench :=
  if b.paired then
    let b := b.setBn fun n => { n with trans := some (.runClaim tag noirq b.rail.now warm.isSome) }
    b.setNl fun x => { x with sent := x.sent ++ [.claim b.bn.pair], pairConflict := false }
  else b.finishRun tag noirq warm

/-- BENCH_RUN (R83, R84). -/
def execBenchRun (c : Cmd) (s : State) : Host.Outcome State Fault Refusal :=
  s.onBench c.bench (Bench.accept (.benchRun c) c modesCfg fun b =>
    if b.bn.trans.isSome then b.refuse c .busy
    else
      let r := b.runRefusal
      let b := if b.selftestOk then r.2.runMarks else r.2
      match r.1 with
      | some st => b.refuse c st
      | none => b.claimOrRun c.tag c.noirq none)

/-- BENCH_SHADOW (R83, R84). -/
def execBenchShadow (c : Cmd) (s : State) : Host.Outcome State Fault Refusal :=
  s.onBench c.bench (Bench.accept (.benchShadow c) c modesCfg fun b =>
    if b.bn.trans.isSome then b.refuse c .busy
    else match b.shadowRefusal with
      | (some st, b) => b.refuse c st
      | (none, b) => (b.enterShadow).complete c .ok b.rail.now)

/-- The partner counts as absent: Nalry and tally both lost for 100 ms (R477). -/
def Bench.partnerAbsent (b : Bench) : Bool :=
  match b.nl.lostAt with | some a => a + 100000000 ≤ b.rail.up | none => false

/-- Whether a claim fails: custody held, partner in RUN, or its own claim with the better or an equal strap (R477). -/
def Bench.claimFails (b : Bench) (claim : Option Bool) : Bool :=
  b.nl.custIn || (!b.partnerAbsent &&
    ((match b.nl.hb with | some h => b.nl.nalryOk && h.mode = 2 | none => false) ||
     (match claim with | some p => p || !b.bn.pair | none => false)))

/-- The claim is decided; equal straps set PAIR_CONFLICT (R477). -/
def Bench.decideClaim (claim : Option Bool) (b : Bench) : Bench :=
  match b.bn.trans with
  | some (.runClaim tag noirq since warm) =>
    if since + 4000 ≤ b.rail.now then
      if b.claimFails claim then
        let equal := claim = some b.bn.pair
        let b := b.setBn fun n => { n with trans := none, holdWait := 0, holdCls := 2, holdOff := false }
        let b := if equal then (b.setNl fun x => { x with pairConflict := true }).raise 16 11 0 0 0 else b
        b.completeTag tag noirq .notEligible 0
      else b.finishRun tag noirq (if warm then some since else none)
    else b
  | _ => b

/-- RUN_CLAIM_DONE (R477): `claim` is the PAIR strap in a claim of the partner within the same 4 µs. -/
def execRunClaimDone (bn : BenchIx) (t : Nat) (claim : Option Bool) (s : State) : Host.Outcome State Fault Refusal :=
  s.onBench bn fun b => (b.tick t).decideClaim claim

/-! ### Warm restart (R97, R98) -/

/-- BENCH_WARM_RESTART (R83, R84, R97): the page check begins. -/
def execBenchWarmRestart (c : Cmd) (target : Word) (s : State) : Host.Outcome State Fault Refusal :=
  s.onBench c.bench (Bench.accept (.benchWarmRestart c target) c modesHold fun b =>
    if 1 < target.toNat then b.refuse c .badParam
    else if b.bn.snapBusy || b.bn.trans.isSome then b.refuse c .busy
    else b.setBn fun n => { n with trans := some (.pageCheck c.tag c.noirq (target ≠ 0) b.rail.now) })

/-- The page check ends (R98): `fail` pages neither verified nor restored, `rest` pages restored. The conditions of
the target row (R83) are checked here, in the order in which the table names them. -/
def Bench.restartChecked (fail rest : Nat) (b : Bench) : Bench :=
  match b.bn.trans with
  | some (.pageCheck tag noirq toShadow _) =>
    let b := b.setBn fun n => { n with trans := none, pageFail := BitVec.ofNat 32 fail, pageRest := BitVec.ofNat 32 rest }
    if fail ≠ 0 then b.completeTag tag noirq .checkFailed 0
    else
      match (if toShadow then b.shadowRefusal else b.runRefusal) with
      | (some st, b) => b.completeTag tag noirq st 0
      | (none, b) =>
        if toShadow then
          let b := b.fifosEmptied b.fq
          (b.enterShadow).completeTag tag noirq .ok b.rail.now
        else b.claimOrRun tag noirq (some b.rail.now)
  | _ => b

/-- RESTART_CHECK_DONE (R98). -/
def execRestartCheckDone (bn : BenchIx) (t fail rest : Nat) (s : State) : Host.Outcome State Fault Refusal :=
  s.onBench bn fun b => (b.tick t).restartChecked fail rest

/-! ### HOLD, CONFIGURE, keep-alive (R83 to R85, R97, R99) -/

/-- BENCH_HOLD (R83 to R85). -/
def execBenchHold (c : Cmd) (s : State) : Host.Outcome State Fault Refusal :=
  s.onBench c.bench (Bench.accept (.benchHold c) c (fun m => m = .run || m = .shadow || m = .hold) fun b =>
    (b.enterHold 1 2).complete c .ok b.rail.now)

/-- BENCH_COLD_START (R83, R84, R97). -/
def execBenchColdStart (c : Cmd) (s : State) : Host.Outcome State Fault Refusal :=
  s.onBench c.bench (Bench.accept (.benchColdStart c) c modesHold fun b =>
    if b.bn.trans.isSome then b.refuse c .busy
    else
      let b : Bench := { b with snapOk := false, snap := b.snap.map fun x => { x with headed := false }, bn := { b.bn with snapBusy := false } }
      (b.enterConfigure).complete c .ok 0)

/-- BENCH_STOP (R83, R84, R97). -/
def execBenchStop (c : Cmd) (s : State) : Host.Outcome State Fault Refusal :=
  s.onBench c.bench (Bench.accept (.benchStop c) c modesRunShadow fun b => (b.enterConfigure).complete c .ok b.rail.now)

/-- HOST_KEEPALIVE (R84, R99). -/
def execHostKeepalive (c : Cmd) (s : State) : Host.Outcome State Fault Refusal :=
  s.onBench c.bench (Bench.accept (.hostKeepalive c) c modesAny fun b => (b.setBn fun n => { n with hostAt := b.rail.up }).complete c .ok 0)

/-- Host silence beyond BN_HOST_TMO (R99, R525). -/
def Bench.silence (b : Bench) : Bench :=
  let tmo := b.bn.hostTmo.toNat * 1000000
  if b.bn.mode ≠ .wake && !b.bn.hostSilent && tmo ≠ 0 && b.bn.hostAt + tmo < b.rail.up then
    let b := (b.setBn fun n => { n with hostSilent := true }).event 0x182 0 b.bn.hostTmo 0
    if bitOf b.bn.modeCfg 1 && b.bn.mode = .run then b.enterHold 0x20 2 else b
  else b

/-- HOST_SILENCE (R99). -/
def execHostSilence (bn : BenchIx) (t : Nat) (s : State) : Host.Outcome State Fault Refusal :=
  s.onBench bn fun b => (b.tick t).silence

/-! ### Barrier-link loss (R43) -/

/-- Face-sourced points are marked STALE while the bench is still in RUN; then HOLD, FACE_LINK. In HOLD the cause is
added (R85). -/
def Bench.linkLoss (b : Bench) : Bench :=
  if !b.fc.linkOk then b
  else
    let b := b.faceMute
    if b.bn.mode ≠ .run then (if b.bn.mode = .hold then b.enterHold 0x10 3 else b)
    else
      let b := b.points.foldl (fun b e =>
        if e.2.source = 1 then b.markPoint e.1 fun q => putBit (putBit q qStale true) qValid false else b) b
      b.enterHold 0x10 3

/-- BARRIER_LINK_LOSS (R43). -/
def execBarrierLinkLoss (bn : BenchIx) (t : Nat) (s : State) : Host.Outcome State Fault Refusal :=
  s.onBench bn fun b => (b.tick t).linkLoss

end Sys2Proof.Machine
end

