-- ==== Sys2Proof/Machine/ProgLoad.lean ====
section
/-!
DEFINITION. Loading, activating and changing program images, and task timing (R141, R173 to R175, R182, R183, R496).
-/
namespace Sys2Proof.Machine

/-- The free slot holds another image, or none. -/
def Bench.setFreeImg (i : Option Image) (b : Bench) : Bench :=
  { b with pe := if b.pe.slot then { b.pe with img0 := i } else { b.pe with img1 := i } }

/-- The bench as the configuration section of an image would make it; for checks only. -/
def Bench.underConf (i : Image) (b : Bench) : Bench := { b with conf := imageConf i }

/-- R485 for an image: its tasks, with the configuration `b` has. -/
def Bench.copyCheckImage (i : Image) (b : Bench) : Bool × (Nat × Nat) :=
  let l := copyLoad b.copyBytes b.lead (i.tasks.map fun x => (x.task.val, x.p, x.maxpg))
  (!b.paired || !copyOver l, l)

/-- NL_COPY_LOAD after a check of a paired bench. -/
def Bench.noteLoadIf (l : Nat × Nat) (b : Bench) : Bench := if b.paired then b.noteLoad l else b

/-- PROG_LOAD (R141, R144, R148, R183, R206, R485): the image goes into the free slot. -/
def execProgLoad (c : Cmd) (img : Image) (s : State) : Host.Outcome State Fault Refusal :=
  s.onBench c.bench (Bench.accept (.progLoad c img) c modesAny fun b =>
    if b.pe.chg.isSome || b.nl.migr.isSome then b.refuse c .busy
    else if !imageCheck (b.pe.cur.map (·.instSize)) img then (b.setFreeImg none).refuse c .checkFailed
    else if !(imageTiming img && b.mapsOk img) then b.refuse c .badParam
    else
      let u := b.underConf img
      let l := u.copyCheckImage img
      let b := b.noteLoadIf l.2
      if !(imageBudget img && u.enginesFit && l.1) then b.refuse c .overBudget
      else (b.setFreeImg (some img)).complete c .ok img.id.toNat)

/-- PROG_ACTIVATE (R183): the free slot becomes current and its sections are loaded. -/
def execProgActivate (c : Cmd) (s : State) : Host.Outcome State Fault Refusal :=
  s.onBench c.bench (Bench.accept (.progActivate c) c modesCfg fun b =>
    if b.bn.trans.isSome then b.refuse c .busy
    else match b.pe.freeImg with
      | none => b.refuse c .badState
      | some i =>
        let b := (b.swapSlots.loadImage.safetyFlags).setBn fun n => { n with safeLoaded := true }
        (b.faceSafe.canStart.quoinEval).complete c .ok i.id.toNat)

/-- Timing of cyclic tasks is the same (R173). -/
def sameTiming (a b : Vector TaskCfg 16) : Bool :=
  let key (t : TaskCfg) : Bool × Nat × List Nat := (t.en, t.pri, [t.p, t.ph, t.off, t.d, t.g])
  (a.toList.drop 1).map key = (b.toList.drop 1).map key

/-- Old and new instance data lie side by side in the 4 MiB (R173). -/
def areasFit (old new : Image) : Bool :=
  new.instBase + new.instSize ≤ 4194304 &&
  (new.instBase + new.instSize ≤ old.instBase || old.instBase + old.instSize ≤ new.instBase || old.instSize = 0)

/-- The shadow is eligible, as its last heartbeat shows (R496). -/
def Bench.shadowEligible (b : Bench) : Bool :=
  b.paired && b.nl.nalryOk && (match b.nl.hb with | some h => h.eligible | none => false)

/-- Refusal of PROG_CHANGE, the first in order (R173, R174, R496). -/
def Bench.changeRefusal (ack maxDefer : Word) (old new : Image) (b : Bench) : Option Status :=
  let l := b.copyCheckImage new
  if b.forceCount ≠ 0 && ack ≠ 1 then some .badState
  else if b.pe.chg.isSome then some .busy
  else if 1 < ack.toNat || maxDefer = 0 || 65535 < maxDefer.toNat || !sameTiming b.pe.tasks (imageTasks new) then some .badParam
  else if !b.mapsOk new then some .badParam
  else if !areasFit old new then some .noResource
  else if !(tasksFit new b.pe.tasks && b.enginesFit && l.1) then some .overBudget
  else if b.shadowEligible && (match b.nl.hb with | some h => h.freeId ≠ some new.id | none => true) then some .notEligible
  else none

/-- A change begins (R175): regions that no entry covers take initial data, zero fill included. -/
def Bench.beginChange (c : Cmd) (maxDefer : Nat) (old new : Image) (b : Bench) : Bench :=
  let zero := new.mig.foldl (fun d m => if m.conv = 6 then copyEntry old new m none b.inst d else d) (initialData new)
  let ch : Change := { tag := c.tag, noirq := c.noirq, maxDefer := maxDefer, todo := readPages new.mig, newInst := zero }
  let b : Bench := { b with pe := { b.pe with chg := some ch, deferCnt := 0 } }
  -- with no page to copy and no cyclic task, the first pass ends here
  if ch.todo.isEmpty && b.pe.shortest.isNone then b.gapBegins else b

/-- PROG_CHANGE (R173 to R175, R178, R496). -/
def execProgChange (c : Cmd) (ack maxDefer : Word) (s : State) : Host.Outcome State Fault Refusal :=
  s.onBench c.bench (Bench.accept (.progChange c ack maxDefer) c modesRun fun b =>
    match b.pe.cur, b.pe.freeImg with
    | some old, some new =>
      match b.changeRefusal ack maxDefer old new with
      | some st =>
        -- L is noted once its check is reached (R485)
        let b := if st = .overBudget || st = .notEligible then b.noteLoadIf (b.copyCheckImage new).2 else b
        b.refuse c st
      | none => Bench.beginChange c maxDefer.toNat old new (b.noteLoadIf (b.copyCheckImage new).2)
    | _, _ => b.refuse c .badState)

/-- PROG_SET_TIMING (R73, R141, R143, R144). -/
def execProgSetTiming (c : Cmd) (task p ph off d g : Word) (s : State) : Host.Outcome State Fault Refusal :=
  s.onBench c.bench (Bench.accept (.progSetTiming c task p ph off d g) c modesCfg fun b =>
    let k : Fin 16 := mkIx 15 task.toNat
    match b.pe.cur with
    | none => b.refuse c .badParam
    | some i =>
      if task = 0 || 15 < task.toNat || !i.tasks.any (fun x => x.task = k) ||
          !timingOk p.toNat ph.toNat off.toNat d.toNat g.toNat then b.refuse c .badParam
      else
        let cfg := upd b.pe.tasks k fun x =>
          { x with p := p.toNat, ph := ph.toNat, off := off.toNat, d := d.toNat, g := g.toNat }
        if !(tasksFit i cfg && b.enginesFit) then b.refuse c .overBudget
        else Bench.complete c .ok 0 { b with pe := { b.pe with tasks := cfg } })

end Sys2Proof.Machine
end

