-- ==== Sys2Proof/Machine/RedunCopy.lean ====
section
/-!
DEFINITION. The state copy of a pair: what the active assembles, and how a shadow reads it back
(R480 to R484, R479, R496).
-/
namespace Sys2Proof.Machine

/-- Lane time of some bytes, framing included, in ns (R482, R494). -/
def laneTime (bytes : Nat) : Nat := ceilDiv (bytes * 16000) 9375

/-! ### Eligibility (R478) -/

def Bench.partnerRun (b : Bench) : Bool := match b.nl.hb with | some h => h.mode = 2 | none => false
def Bench.partnerClass (b : Bench) : Nat := match b.nl.hb with | some h => h.cls.val | none => 0
def Bench.partnerCustody (b : Bench) : Bool := match b.nl.hb with | some h => h.custody | none => false

/-- ELIGIBLE of a shadow. -/
def Bench.eligible (b : Bench) : Bool :=
  b.bn.mode = .shadow && b.nl.nalryOk && b.nl.tallyOk && b.partnerRun && b.nl.same && b.nl.full && !b.nl.stale && b.nl.migr.isNone

/-! ### Words of the items -/

def Point.words (e : Point) : List Word :=
  [e.value, at32 e.flags.toNat 16 ||| at32 e.quality.toNat 0, lo32 e.stamp, hi32 e.stamp]
def pointOf (l : List Word) : Point :=
  { value := l.getD 0 0, quality := (l.getD 1 0).setWidth 16, flags := BitVec.ofNat 16 (fld (l.getD 1 0) 31 16),
    stamp := cat64 (l.getD 2 0) (l.getD 3 0) }

/-- Loop words 0x2C to 0x3C read back; I of a loop in MAN or TRK is not among them. -/
def loopOf (l : List Word) (old : LoopState) : LoopState :=
  let w0 := l.getD 0 0
  let w3 := l.getD 3 0
  let w4 := l.getD 4 0
  let mode := modeOf (fld w4 15 13)
  let open_ := bitOf w4 6
  let man := mode = .man || mode = .trk
  { mode := mode, i := if man then old.i else sext 40 (w0.toNat + fld w3 31 24 * 2 ^ 32),
    step := if man then fld w0 31 16 else 0, remain := if man then fld w0 15 0 else 0,
    d := s32 (l.getD 1 0), rsp := s32 (l.getD 2 0), yp := s16 w3, u := sext 16 (fld w4 31 16), handover := bitOf w4 12,
    miss := bitOf w4 11, hi := bitOf w4 10, lo := bitOf w4 9, sat := bitOf w4 8, compl := bitOf w4 7,
    srcOpen := open_, secOpen := open_, ftrack := bitOf w4 5, pvbad := bitOf w4 4, rej := bitOf w4 3 }

def axisStateOf : Nat → AxisState
  | 1 => .armed | 2 => .moving | 3 => .jogging | 4 => .homing | 5 => .stopping | 6 => .fault | _ => .idle
def homePhaseOf : Nat → HomePhase
  | 1 => .search | 2 => .reversed | 3 => .backoff | _ => .none

/-- The latest apply instant of a remote axis's station whose cut is at or before c (R300, R393). -/
def Bench.lastApply (b : Bench) (a c : Nat) : Nat :=
  match b.axisStation a with
  | none => 0
  | some s =>
    let per := b.haulBase * b.stationMult s
    let first := b.haulPhase + fld (b.sw s 0) 7 0 * b.haulBase + b.haulAof
    if per = 0 || c + b.haulLead < first then 0 else first + (c + b.haulLead - first) / per * per

/-- Axis words 0x80 to 0xB4, VMAX, ACC and DEC read back at copy point c; what the words do not hold is computed
again from them with this bench's own guards (R279, R280, R306). -/
def Bench.putAxis (a c : Nat) (l : List Word) (b : Bench) : Bench :=
  let w (o : Nat) : Word := l.getD ((o - 0x80) / 4) 0
  let st := w 0xA4
  let state := axisStateOf (fld st 31 28)
  let phase := homePhaseOf (fld st 27 26)
  let homing := state = .homing
  let target := s32 (w 0x84)
  let pos := s32 (w 0x80)
  let neg := bitOf st 25
  let past := if neg then pos < target else target < pos
  let b := ((b.setCfg (axisAt a + 8) (l.getD 14 0)).setCfg (axisAt a + 0x10) (l.getD 15 0)).setCfg (axisAt a + 0x14) (l.getD 16 0)
  let x : Axis :=
    { pos := pos, target := target, e1 := cat64 (w 0x88) (w 0x8C) * 256 + fld (w 0x90) 7 0, q0 := cat64 (w 0x94) (w 0x98),
      v := if a < 10 then 0 else (w 0x9C).toNat, dce := (w 0xA0).toNat, chatter := w 0xA8, tkskip := w 0xAC,
      pfrac := fld (w 0xB0) 15 0, hpos := s32 (w 0xB4), state := state, phase := phase, neg := neg, homed := bitOf st 24,
      posDoubt := bitOf st 23, decelRaised := bitOf st 22, guardLimited := bitOf st 21,
      inp := (b.axis a).inp, homeFail := bitOf st 17, reversed := bitOf st 16, stnLost := bitOf st 15, bridgeUv := bitOf st 14,
      vSat := bitOf st 13, stepLate := bitOf st 12, rej := bitOf st 11,
      gvmax := b.guardVmax a, gacc := b.guardAcc a, pmin := b.guardPmin a, pmax := b.guardPmax a,
      jog := state = .jogging || homing || (state = .stopping && past),
      stand := state = .stopping || (homing && phase = .none),
      ovr := if homing then some (if phase = .search || phase = .reversed then (b.aw a 0x28).toNat else (b.aw a 0x2C).toNat) else none,
      spAt := if a < 10 then 0 else b.lastApply a c, n := 1, runI := true,
      dirPin := neg != bitOf (b.aw a 0) 27 }
  if a < 10 && x.busy then
    let e := b.axisEff a x
    let x := { x with beyond := e.ve * e.ve + qPerStep * x.dce * x.dist < x.q0 }
    let k := x.calc (b.axisEff a x) x.q0 (x.dist - 1)
    (b.setAxis a { x with q1 := k.q, last1 := k.last }).axisCompute a c
  else b.setAxis a x

def recipeStateOf : Nat → RecipeState
  | 1 => .armed | 2 => .running | 3 => .paused | 4 => .held | 5 => .ended | 6 => .aborted | _ => .idle

/-- Run-state words 0x00 to 0x1C read back; step content comes from this bench's own step store (R483). -/
def Bench.putRecipe (n : Fin 16) (l : List Word) (b : Bench) : Bench :=
  let w (o : Nat) : Word := l.getD (o / 4) 0
  let st := recipeStateOf (fld (w 0) 31 28)
  let step := fld (w 0) 16 0
  let abort := fld (w 4) 16 0
  let r : Recipe :=
    { state := st, rail := fld (w 0) 27 25, stepEvt := bitOf (w 0) 24, late := bitOf (w 0) 23, condBad := bitOf (w 0) 22,
      resync := bitOf (w 0) 21, step := step, abortStep := abort, start := cat64 (w 8) (w 0xC), sb := cat64 (w 0x10) (w 0x14),
      elapsed := (w 0x18).toNat, steps := w 0x1C }
  let ab : List Cand := if abort = noStep then [] else [{ role := .abort, step := abort, words := b.stepAt abort }]
  if st = .armed then b.setRecipe n { r with cands := { role := .first, step := step, words := b.stepAt step } :: ab }
  else if r.active then
    let cur := b.stepAt step
    b.setRecipe n { r with cur := cur, cands := b.prepare cur ab }
  else b.setRecipe n r

/-- A station's state word and DELAY read back (R480, R493). -/
def Bench.putStation (s : Nat) (l : List Word) (b : Bench) : Bench :=
  let w := l.getD 0 0
  let st : StationState := match fld w 31 28 with
    | 1 => .init | 2 => .operational | 3 => .lost | 4 => .disabled | _ => .unused
  b.setStation s { b.station s with
    state := st, guarded := bitOf w 27, rej := bitOf w 26, missRun := fld w 19 16, seq := fld w 15 0,
    delay := (l.getD 1 0).toNat, waiting := false }

/-! ### Assembly on the active (R480 to R482) -/

/-- The engine part at copy point C = now; `all`: every sourced point, as in a full copy. -/
def Bench.enginePart (all : Bool) (b : Bench) : EnginePart :=
  { seq := (b.nl.seq + 1).toNat, time := b.rail.now,
    points := (b.points.filter fun e => if all then e.2.source ≠ 0 else bitOf e.2.flags 9).map fun e => (e.1, e.2.words),
    loops := b.usedLoops.map fun n => (n, (List.range 5).map fun i => b.loopStateWord n (0x2C + 4 * i)),
    axes := (allAxes.filter b.axisUsed).map fun a =>
      (a, ((List.range 14).map fun i => b.axisStateWord a (0x80 + 4 * i)) ++ [b.aw a 8, b.aw a 0x10, b.aw a 0x14]),
    recipes := (List.finRange 16).map fun n => (n.val, (List.range 8).map fun i => b.runStateWord n (4 * i)),
    stations := b.stations.map fun s => (s, [b.stationStateWord s, BitVec.ofNat 32 (b.station s).delay]) }

/-- Bytes of an engine part (R480). -/
def partBytes (p : EnginePart) : Nat :=
  64 + 20 * p.points.length + 24 * p.loops.length + 72 * p.axes.length + 36 * p.recipes.length + 8 * p.stations.length

/-- A page of instance SRAM as its bytes that are not 0. -/
def pageOf (m : Tbl Byte) (p : Nat) : Nat × List (Nat × Byte) :=
  (p, (m.filter fun e => e.1 / 4096 = p).map fun e => (e.1 % 4096, e.2))

/-- A page put in place of what stood there. -/
def putPage (m : Tbl Byte) (p : Nat × List (Nat × Byte)) : Tbl Byte :=
  p.2.foldl (fun m e => Tbl.set 0 m (4096 * p.1 + e.1 % 4096) e.2) (m.filter fun e => e.1 / 4096 ≠ p.1)

/-- Pages of a task's instances. -/
def Bench.taskPages (b : Bench) (k : Fin 16) : List Nat :=
  match b.pe.cur with
  | none => []
  | some i =>
    ((i.slots.filter fun x => x.task = k).flatMap fun x =>
      match i.handlers[x.handler]? with
      | some h => (List.range ((h.ip + h.size - 1) / 4096 + 1 - h.ip / 4096)).map fun j => h.ip / 4096 + j
      | none => []).eraseDups

/-- Flags of the error task's slot. -/
def Bench.errFlags (b : Bench) : Word :=
  match b.pe.cur.bind (·.err) with | some e => (Tbl.get ({} : SlotState) b.sc.slots e.startSlot.val).flags | none => 0

/-- Task sets that wait go onto the lane, in order, each once the item before it is through (R482). -/
def drainSets (now : Nat) : List (Nat × NalryMsg) → Nalry → Nalry
  | [], x => { x with waiting := [] }
  | e :: r, x =>
    if x.busyUntil ≤ now then drainSets now r { x with sent := x.sent ++ [e.2], busyUntil := x.busyUntil + laneTime e.1 }
    else { x with waiting := e :: r }
def Nalry.drain (now : Nat) (x : Nalry) : Nalry := drainSets now x.waiting x
/-- Copy data is on the lane or waits for it. -/
def Nalry.sending (now : Nat) (x : Nalry) : Bool := now < x.busyUntil || !x.waiting.isEmpty

/-- A copy item goes onto the lane behind the one that is on it. -/
def Bench.sendItem (bytes : Nat) (m : NalryMsg) (b : Bench) : Bench :=
  b.setNl fun x => { x with sent := x.sent ++ [m], busyUntil := max b.rail.now x.busyUntil + laneTime bytes }
/-- A task set waits behind those staged earlier; an engine part goes ahead of it (R482). -/
def Bench.stageItem (bytes : Nat) (m : NalryMsg) (b : Bench) : Bench :=
  if b.nl.sending b.rail.now then b.setNl fun x => { x with waiting := x.waiting ++ [(bytes, m)] } else b.sendItem bytes m

/-- The engine part of a copy point: sent, sequence advanced, CHANGED cleared (R31, R480). -/
def Bench.sendPart (b : Bench) : Bench :=
  let p := b.enginePart false
  let b := b.sendItem (partBytes p) (.copy (.engine p))
  let b := b.setNl fun x => { x with seq := x.seq + 1, copyAt := b.rail.now }
  { b with points := Tbl.mapAll {} (fun _ e => { e with flags := putBit e.flags 9 false }) b.points }

/-- The task set of task k: pages of its instances written since they were last staged (R481). -/
def Bench.sendSet (k : Fin 16) (b : Bench) : Bench :=
  let own := b.taskPages k
  let pages := b.nl.pages.filter own.contains
  let s : TaskSet := { task := k, pages := pages.map (pageOf b.inst), flags := if k = 0 then b.errFlags else 0 }
  let b := b.setNl fun x => { x with pages := x.pages.filter fun p => !own.contains p }
  b.stageItem (4100 * pages.length + 16) (.copy (.set s))

/-- What a paired active does at an end of logic (R480 to R482). -/
def Bench.copyPoint (k : Fin 16) (b : Bench) : Bench :=
  if !(b.paired && b.nl.laneUp && b.bn.mode = .run) then b
  else
    let lead := k.val = b.lead && k ≠ 0
    let b := b.setNl (Nalry.drain b.rail.now)
    let behind := lead && b.nl.sending b.rail.now
    let b := if behind then (b.setNl fun x => { x with cnt := upd x.cnt 4 inc }).raise 16 10 0 0 0 else b
    (if lead then b.sendPart else b).sendSet k

/-- END_OF_LOGIC (R145, R149, R480, R481). -/
def execEndOfLogic (bn : BenchIx) (t : Nat) (task : Fin 16) (s : State) : Host.Outcome State Fault Refusal :=
  s.onBench bn fun b =>
    let b := b.tick t
    let was := b.pe.runs[task].active
    let b := b.endOfLogic task
    if was && !b.pe.runs[task].active then b.copyPoint task else b

/-! ### Commit on the shadow (R482 to R484, R496) -/

/-- Preload of an output point: newest first; nothing older than the newest value stamped up to now is kept. -/
def Bench.preload (p : Nat) (e : Point) (b : Bench) : Bench :=
  let old := Tbl.get [] b.nl.preload p
  let l := (e.stamp, e.value) :: old.filter fun x => x.1 ≠ e.stamp
  let later := l.filter fun x => b.rail.now < x.1
  let past := (l.filter fun x => x.1 ≤ b.rail.now).take 1
  b.setNl fun x => { x with preload := Tbl.set [] x.preload p (later ++ past) }

/-- An engine part committed as a whole (R482). -/
def Bench.commitPart (p : EnginePart) (b : Bench) : Bench :=
  let b := p.points.foldl (fun b i =>
    let e := pointOf i.2
    let b := b.setPoint i.1 { e with flags := putBit e.flags 9 false }
    if e.output then b.preload i.1 e else b) b
  let b := p.loops.foldl (fun b i => let l := b.loop i.1; b.setLoop i.1 { l with st := loopOf i.2 l.st, upd := none }) b
  let b := p.axes.foldl (fun b i => b.putAxis i.1 p.time i.2) b
  let b := p.recipes.foldl (fun b i =>
    let n : Fin 16 := mkIx 15 i.1
    if p.time < b.nl.recAt[n] then b else b.putRecipe n i.2) b
  let b := p.stations.foldl (fun b i => b.putStation i.1 i.2) b
  b.setNl fun x => { x with seq := BitVec.ofNat 32 p.seq, copyAt := p.time }

/-- A task set committed as a whole; the error task's flags with it (R482, R492). -/
def Bench.commitSet (s : TaskSet) (b : Bench) : Bench :=
  let b : Bench := { b with inst := s.pages.foldl putPage b.inst }
  if s.task ≠ 0 then b
  else match b.pe.cur.bind (·.err) with
    | some e => { b with sc := { b.sc with slots := Tbl.modify ({} : SlotState) b.sc.slots e.startSlot.val fun x => { x with flags := s.flags } } }
    | none => b

/-- The converted instance data takes the new area, and sets that waited are committed (R496). -/
def Bench.migrationDone (m : Migration) (b : Bench) : Bench :=
  match b.pe.cur with
  | none => b.setNl fun x => { x with migr := none }
  | some new =>
    let b : Bench := { b with inst := replaceArea new.instBase new.instSize m.newInst b.inst }
    m.waiting.foldl (fun b s => b.commitSet s) (b.setNl fun x => { x with migr := none })

/-- The shadow's mover converts one page of its committed instance data (R496). -/
def Bench.migratePage (b : Bench) : Bench :=
  match b.nl.migr, b.pe.cur with
  | some m, some new =>
    let m := match m.todo with
      | [] => m
      | p :: r =>
        { m with todo := r, newInst := new.mig.foldl (fun d e => if e.conv = 6 then d else copyEntry m.old new e (some p) b.inst d) m.newInst }
    if m.todo.isEmpty then b.migrationDone m else b.setNl fun x => { x with migr := some m }
  | _, _ => b

/-- MOVER_PAGE_COPY (R175, R496). -/
def execMoverPageCopy (bn : BenchIx) (t : Nat) (s : State) : Host.Outcome State Fault Refusal :=
  s.onBench bn fun b => ((b.tick t).moverPage).migratePage

/-- This bench became STALE as a shadow (R479). -/
def Bench.becomeStale (b : Bench) : Bench :=
  if b.bn.mode ≠ .shadow || b.nl.stale then b
  else (b.setNl fun x => { x with stale := true, full := false, resync := false }).raise 16 3 0 0 0

/-- A switch notice at the shadow (R496); not eligible, or without the same image in the free slot, it becomes STALE. -/
def Bench.switched (id : BitVec 64) (b : Bench) : Bench :=
  match b.pe.cur, b.pe.freeImg with
  | some old, some new =>
    if !b.eligible || new.id ≠ id then b.becomeStale
    else
      let zero := new.mig.foldl (fun d m => if m.conv = 6 then copyEntry old new m none b.inst d else d) (initialData new)
      let flags := b.errFlags
      let b := b.swapSlots
      let slots := Tbl.mapAll {} (fun _ x => { x with flags := 0 }) b.sc.slots
      let slots := match new.err with
        | some e => Tbl.modify ({} : SlotState) slots e.startSlot.val fun x => { x with flags := flags }
        | none => slots
      let b : Bench := { b with pe := { b.pe with tasks := imageTasks new }, sc := { b.sc with slots := slots } }
      let m : Migration := { old := old, newInst := zero, todo := readPages new.mig }
      if m.todo.isEmpty then b.migrationDone m else b.setNl fun x => { x with migr := some m }
  | _, _ => b.becomeStale

end Sys2Proof.Machine
end

