-- ==== Sys2Proof/Machine/Redun.lean ====
section
/-!
DEFINITION. Redundant pairs: heartbeats, tally, custody, the decision of a shadow, takeover, planned hand-over
(R473 to R501).
-/
namespace Sys2Proof.Machine

/-! ### Custody and tokens (R474, R476) -/

/-- Bnn_CUST_O: the latest confirmation of the face is no more than 2 µs old and shows its outputs enabled (R476). -/
def Bench.custOut (b : Bench) : Bool := b.outEn && b.fc.linkOk && b.rail.now ≤ b.fc.confAt + 2000

/-- The pulse unit issues tokens: the last one is at most 1 µs old (R474). -/
def Bench.pulsing (b : Bench) : Bool := match b.nl.tokenAt with | some a => b.rail.now ≤ a + 1000 | none => false

/-! ### The decision of a shadow (R487, R488) -/

/-- Row 2 and row 7: CUST_FAULT and ISOLATED rise, or fall with their conditions. -/
def Bench.alarms (b : Bench) : Bench :=
  let mism := b.nl.nalryOk && !b.nl.custIn && b.partnerCustody
  let b := b.setNl fun x => { x with mismatchAt := if mism then (match x.mismatchAt with | some a => some a | none => some b.rail.now) else none }
  let fault : Bool := match b.nl.mismatchAt with | some a => a + 6000 ≤ b.rail.now | none => false
  let iso := !b.nl.nalryOk && !b.nl.tallyOk && b.nl.custIn
  let f0 := b.nl.custFault
  let i0 := b.nl.isolated
  let b := b.setNl fun x => { x with custFault := fault, isolated := iso }
  let b := if fault && !f0 then b.raise 16 8 0 0 0 else b
  if iso && !i0 then b.raise 16 7 0 0 0 else b

/-- The partner's program fault reaches this bench as a HOLD trigger (R487, R488). -/
def Bench.partnerFault (b : Bench) : Bool :=
  b.nl.nalryOk && !b.nl.custIn && !b.nl.custFault && b.partnerClass = 1 && b.nl.wasEligible && !b.nl.stale

/-- A shadow decides by its paths, first matching row (R488); TAKEOVER is a step of its own (R489). A bench that has gone
from SHADOW to HOLD adds the cause of a partner's fault that reaches it there (R85). -/
def Bench.decide (b : Bench) : Bench :=
  if b.bn.mode = .hold && b.bn.prev = .shadow && b.partnerFault then b.enterHold 8 0
  else if b.bn.mode ≠ .shadow then b
  else
    let b := b.alarms
    if b.nl.nalryOk then
      if b.nl.custIn || b.nl.custFault then b
      else if b.partnerClass = 1 then
        if b.partnerFault then b.enterHold 8 0 else b
      else if b.partnerClass = 2 then b.becomeStale
      else b
    else if b.nl.tallyOk then b.becomeStale
    else b

/-- A takeover row of R488 holds. -/
def Bench.takeoverRow (b : Bench) : Bool :=
  !b.nl.custIn && ((b.nl.nalryOk && b.partnerClass = 3 && !b.nl.custFault) || (!b.nl.nalryOk && !b.nl.tallyOk))

/-! ### Heartbeats and tally (R475, R479) -/

/-- HEARTBEAT_TX (R475). -/
def execHeartbeatTx (bn : BenchIx) (t : Nat) (s : State) : Host.Outcome State Fault Refusal :=
  s.onBench bn fun b =>
    let b := b.tick t
    let b := b.setNl (Nalry.drain b.rail.now)
    if b.paired && b.nl.laneUp && b.bn.mode ≠ .wake && b.rail.now % 1000 = 0 && b.pulsing then
      let h : Heartbeat :=
        { mode := mkIx 4 b.bn.mode.code, custody := b.custOut, cls := b.nl.cls, eligible := b.eligible, stale := b.nl.stale,
          freeId := b.pe.freeImg.map (·.id), seq := b.nl.seq.toNat }
      b.setNl fun x => { x with sent := x.sent ++ [.heartbeat h] }
    else b

/-- The active sees its shadow become STALE, or current again (R479). -/
def Bench.shadowSeen (old : Option Heartbeat) (h : Heartbeat) (b : Bench) : Bench :=
  let was : Bool := match old with | some o => o.stale | none => false
  let b := if h.mode = 3 && h.stale && !was then (b.raise 16 3 0 0 0).errorCause 15 0 else b
  if h.eligible then b.setNl fun x => { x with resync := false } else b

/-- A shadow asks for a full copy (R479). -/
def Bench.askFull (b : Bench) : Bench :=
  if b.partnerRun && b.nl.laneUp && (b.nl.stale || !b.nl.full) && !b.nl.resync then
    b.setNl fun x => { x with resync := true, sent := x.sent ++ [.fullRequest] }
  else b

/-- The shadow's side of a heartbeat (R478, R479, R487). A program or hardware class decides under R488, so it leaves
the eligibility of the last heartbeat without one. -/
def Bench.shadowHears (old : Option Heartbeat) (h : Heartbeat) (b : Bench) : Bench :=
  let fault := h.cls = 1 || h.cls = 3
  let was : Bool := match old with | some o => o.cls = 1 | none => false
  let b := if h.cls = 1 && !was then b.raise 16 5 0 0 0 else b
  let left := h.mode = 1 || h.mode = 4
  let b := if left && !(fault && b.nl.wasEligible) then b.becomeStale else b
  let b := b.askFull
  let b := if fault then b else b.setNl fun x => { x with wasEligible := b.eligible }
  b.decide

/-- A valid heartbeat arrives (R475). -/
def Bench.heartbeat (h : Heartbeat) (same : Bool) (b : Bench) : Bench :=
  if !b.paired then b
  else
    let old := b.nl.hb
    let b := b.setNl fun x => { x with hb := some h, hbAt := b.rail.now, nalryOk := true, lostAt := none, same := same }
    match b.bn.mode with
    | .run => b.shadowSeen old h
    | .shadow => b.shadowHears old h
    | _ => b.decide

/-- HEARTBEAT_RX (R475, R478, R479, R487, R488); `same`: images and Quoin configurations agree (R473). -/
def execHeartbeatRx (bn : BenchIx) (t : Nat) (hb : Heartbeat) (same : Bool) (s : State) : Host.Outcome State Fault Refusal :=
  s.onBench bn fun b => (b.tick t).heartbeat hb same

/-- TALLY_TOGGLE (R473 to R475): `own`, this bench's Bnn_TALLY_O; otherwise a toggle of Bnn_TALLY_I, which makes a shadow
without Nalry STALE (R479). -/
def execTallyToggle (bn : BenchIx) (t : Nat) (own : Bool) (s : State) : Host.Outcome State Fault Refusal :=
  s.onBench bn fun b =>
    let b := b.tick t
    if own then (if b.pulsing then b.setNl fun x => { x with tallyOut := !x.tallyOut } else b)
    else
      let b := b.setNl fun x => { x with tallyOk := true, tallyAt := b.rail.now, lostAt := none }
      if b.bn.mode = .shadow && !b.nl.nalryOk then b.alarms.becomeStale else b

/-- Since when both paths are lost (R477). -/
def Bench.bothLost (b : Bench) : Bench :=
  if b.nl.nalryOk || b.nl.tallyOk then b
  else b.setNl fun x => { x with lostAt := match x.lostAt with | some a => some a | none => some b.rail.up }

/-- No valid heartbeat for 6 µs (R475, R479, R488). -/
def Bench.nalryLost (b : Bench) : Bench :=
  if !b.nl.nalryOk || b.rail.now < b.nl.hbAt + 6000 then b
  else
    let b := (b.setNl fun x => { x with nalryOk := false }).bothLost
    let shadow : Bool := match b.nl.hb with | some h => h.mode = 3 | none => false
    if b.bn.mode = .run then (if shadow then (b.raise 16 6 0 0 0).errorCause 15 0 else b) else b.decide

/-- NALRY_LOST (R475). -/
def execNalryLost (bn : BenchIx) (t : Nat) (s : State) : Host.Outcome State Fault Refusal :=
  s.onBench bn fun b => (b.tick t).nalryLost

/-- No toggle for 5 µs (R475, R488). -/
def Bench.tallyLost (b : Bench) : Bench :=
  if !b.nl.tallyOk || b.rail.now < b.nl.tallyAt + 5000 then b
  else
    let b := (b.setNl fun x => { x with tallyOk := false, cnt := upd x.cnt 3 inc }).bothLost
    (((b.health 20).raise 16 9 0 0 0)).decide

/-- TALLY_LOST (R475). -/
def execTallyLost (bn : BenchIx) (t : Nat) (s : State) : Host.Outcome State Fault Refusal :=
  s.onBench bn fun b => (b.tick t).tallyLost

/-- NALRY_LANE_UP (R475). -/
def execNalryLaneUp (bn : BenchIx) (t : Nat) (s : State) : Host.Outcome State Fault Refusal :=
  s.onBench bn fun b => (b.tick t).setNl fun x => { x with laneUp := true }

/-- NALRY_LANE_DOWN (R475): a full copy in progress ends with the lane. -/
def execNalryLaneDown (bn : BenchIx) (t : Nat) (s : State) : Host.Outcome State Fault Refusal :=
  s.onBench bn fun b => (b.tick t).setNl fun x => { x with laneUp := false, resync := false }

/-! ### Custody (R476, R488, R494) -/

/-- A rail value rounded up to a whole microsecond. -/
def wholeUs (t : Nat) : Nat := firstMul 1000 t

/-- Nothing that a shadow knows forbids it to drive (R477, R488). -/
def Bench.mayDrive (b : Bench) : Bool :=
  !b.nl.custIn && !b.nl.stale && !(b.nl.nalryOk && (b.partnerClass = 1 || b.partnerClass = 2))

/-- Bnn_CUST_I has a new level. A release at or after X is the planned one; one before it is judged by R488 (R494, R495). -/
def Bench.custody' (level : Bool) (b : Bench) : Bench :=
  if b.nl.custIn = level then b
  else
    let b := (b.setNl fun x => { x with custIn := level, custAt := b.rail.now }).custody
    let b := b.decide
    match b.nl.hoX with
    | some (x, true) =>
      if x ≤ b.rail.now && b.mayDrive && !(b.nl.nalryOk && b.partnerClass = 3) && b.bn.mode = .shadow then
        b.setNl fun n => { n with hoX := none, drive := some (max (x + 2000) (wholeUs b.rail.now), true) }
      else b
    | _ => b

/-- CUSTODY_CHANGE (R476, R488, R494). -/
def execCustodyChange (bn : BenchIx) (t : Nat) (level : Bool) (s : State) : Host.Outcome State Fault Refusal :=
  s.onBench bn fun b => (b.tick t).custody' level

/-! ### Takeover (R489 to R493) -/

/-- The decision: eligible at the last heartbeat, custody released for 2 µs, a takeover row (R489, R490). -/
def Bench.takeover (b : Bench) : Bench :=
  if b.bn.mode = .shadow && b.nl.wasEligible && !b.nl.stale && b.nl.drive.isNone && b.takeoverRow &&
      b.nl.custAt + 2000 ≤ b.rail.now then
    b.setNl fun x => { x with drive := some (wholeUs (b.rail.now + 2000), false), hoX := none }
  else b

/-- TAKEOVER (R489). -/
def execTakeover (bn : BenchIx) (t : Nat) (s : State) : Host.Outcome State Fault Refusal :=
  s.onBench bn fun b => (b.tick t).takeover

/-- The newest preloaded value of a point stamped at or before x (R484). -/
def Bench.preloaded (b : Bench) (p x : Nat) : Option (Time × Word) := (Tbl.get [] b.nl.preload p).find? fun e => e.1 ≤ x

/-- What is driven for a point at x: its force, or its preloaded value (R484). -/
def Bench.drivenAt (b : Bench) (x p : Nat) : Option Word :=
  match b.forceOn p with | some f => some f | none => (b.preloaded p x).map (·.2)

/-- The value that the bench drives for a loop's output at x: what an AO took of it, after its guard and clip (R243, R492). -/
def Bench.drivenOut (b : Bench) (x p : Nat) : Option Int :=
  (b.drivenAt x p).map fun v =>
    match b.outChannel p with
    | some c => if 8 ≤ c then b.fc.ao[(mkIx 1 (c - 8) : Fin 2)].u else s16 v
    | none => s16 v

/-- The preload drives: values up to x now, later ones at their own instants (R484, R490). -/
def Bench.drivePreload (x : Nat) (b : Bench) : Bench :=
  b.nl.preload.foldl (fun b e =>
    let b := b.settleForces e.1 x
    let later : List Staged := (e.2.filter fun v => x < v.1).map fun v => { point := e.1, value := v.2, due := v.1 }
    let b : Bench := { b with pe := { b.pe with staged := b.pe.staged ++ later.reverse } }
    match b.drivenAt x e.1 with
    | some v => b.faceDrive e.1 v (match b.preloaded e.1 x with | some q => q.1 | none => x)
    | none => b) b

/-- Flags and queues start empty, the error task's flags as committed (R122, R492). -/
def Bench.emptyForRun (b : Bench) : Bench :=
  let flags := b.errFlags
  let b := b.schedStop
  match b.pe.cur.bind (·.err) with
  | some e => { b with sc := { b.sc with slots := Tbl.modify ({} : SlotState) b.sc.slots e.startSlot.val fun x => { x with flags := flags } } }
  | none => b

/-- An axis copied as ARMED has no motion among its words: it stands IDLE (R492, R306). -/
def Bench.disarmAxes (b : Bench) : Bench :=
  { b with mx := { b.mx with axes := Tbl.mapAll {} (fun _ x => if x.state = .armed then { x with state := .idle } else x) b.mx.axes } }

/-- Entry into RUN from SHADOW at the drive moment x (R490 to R493); `ho`: of a planned hand-over. -/
def Bench.driveFrom (x : Nat) (ho : Bool) (b : Bench) : Bench :=
  let from_ := if ho then x else x + 4000
  let start := (b.pe.nextInput from_).getD from_
  let b := (b.emptyForRun).runFrom start
  let b := b.setNl fun n => { n with lastX := x, cnt := upd n.cnt (if ho then 1 else 0) inc }
  let b := b.faceEnter.drivePreload x
  let b := b.loopsResume fun n => some ((b.drivenOut x (b.loopOutp n)).getD (b.loop n).st.u)
  let b := (b.disarmAxes.motionTakeover x).recipesTakeover x
  let b : Bench := { b with ha := { b.ha with stations := Tbl.mapAll {} (fun _ z => { z with missRun := 0, samples := [], first := none, copied := true, waiting := false }) b.ha.stations } }
  let b := (((b.canFromShadow).leaveShadow).custody).quoinEnter
  ((b.health (if ho then 18 else 17)).raise 16 (if ho then 1 else 0) 0 0 0).modeEvent

/-- The drive moment; with custody held again, or a shadow made STALE or told of an order, nothing is driven (R477, R488). -/
def Bench.driveMoment (b : Bench) : Bench :=
  match b.nl.drive with
  | some (x, ho) =>
    if b.bn.mode ≠ .shadow || b.rail.now < x then b
    else if !b.mayDrive then b.setNl fun n => { n with drive := none }
    else b.driveFrom x ho
  | none => b

/-- DRIVE_MOMENT (R490). -/
def execDriveMoment (bn : BenchIx) (t : Nat) (s : State) : Host.Outcome State Fault Refusal :=
  s.onBench bn fun b => (b.tick t).driveMoment

/-! ### The copy at the shadow (R479, R482, R483) -/

/-- The final engine part of a hand-over is committed: acknowledged by X − 1 µs (R494). -/
def Bench.handoverAck (b : Bench) : Bench :=
  match b.nl.hoX with
  | some (x, false) =>
    if b.rail.now + 1000 ≤ x then b.setNl fun n => { n with hoX := some (x, true), sent := n.sent ++ [.notice .ack] } else b
  | _ => b

/-- COPY_COMMIT (R482). -/
def execCopyCommit (bn : BenchIx) (t : Nat) (item : CopyItem) (s : State) : Host.Outcome State Fault Refusal :=
  s.onBench bn fun b =>
    let b := b.tick t
    if b.bn.mode ≠ .shadow then b
    else match item with
      | .engine p => (b.commitPart p).handoverAck
      | .set x =>
        match b.nl.migr with
        | some m => b.setNl fun n => { n with migr := some { m with waiting := m.waiting ++ [x] } }
        | none => b.commitSet x

/-- A full copy commits as one whole: STALE clears, RESYNCED sets (R479). -/
def Bench.commitFull (f : FullCopy) (b : Bench) : Bench :=
  let b := b.commitPart f.part
  let b : Bench := { b with inst := f.pages.foldl putPage b.inst,
                            pe := { b.pe with forces := Tbl.mapAll {} (fun _ x => { seq := x.seq }) b.pe.forces } }
  let b := f.forces.foldl (fun b e => b.commitForce e.1 (bitOf e.2.1 31) (fld e.2.1 13 0) e.2.2) b
  (b.setNl fun x => { x with full := true, stale := false, resync := false }).raise 16 4 0 0 0

/-- FULL_COPY_COMMIT (R479). -/
def execFullCopyCommit (bn : BenchIx) (t : Nat) (full : FullCopy) (s : State) : Host.Outcome State Fault Refusal :=
  s.onBench bn fun b =>
    let b := b.tick t
    if b.bn.mode = .shadow then b.commitFull full else b

/-- A code or CRC error on the lane (R466, R500). -/
def Bench.laneError (b : Bench) : Bench := (b.setNl fun x => { x with cnt := upd x.cnt 2 inc }).health 19

/-- COPY_BLOCK (R479, R482, R500): a first CRC failure is tried again, a second makes the shadow STALE, and it asks for a
full copy anew; an error of another frame is counted. -/
def execCopyBlock (bn : BenchIx) (t : Nat) (rx : LaneRx) (s : State) : Host.Outcome State Fault Refusal :=
  s.onBench bn fun b =>
    let b := b.tick t
    match rx with
    | .good => if b.bn.mode = .shadow then b.setNl fun x => { x with retry := false } else b
    | .otherError => b.laneError
    | .badCrc =>
      let again := b.nl.retry
      let b := b.laneError
      if b.bn.mode ≠ .shadow then b
      else
        let b := b.setNl fun x => { x with retry := !again }
        if again then ((b.becomeStale).setNl fun x => { x with full := false, resync := false }).askFull else b

/-- FULL_COPY_REQUEST (R479): the active sends every page, point, loop, axis, recipe and station and the whole force table;
a request while it sends one begins another. -/
def execFullCopyRequest (bn : BenchIx) (t : Nat) (s : State) : Host.Outcome State Fault Refusal :=
  s.onBench bn fun b =>
    let b := b.tick t
    if !(b.paired && b.nl.laneUp && b.bn.mode = .run) then b
    else
      let pages := ((List.finRange 16).flatMap b.taskPages).eraseDups
      let f : FullCopy :=
        { part := b.enginePart true, pages := pages.map (pageOf b.inst),
          forces := b.pe.forces.map fun e => (e.1, at32 (b2n e.2.en) 31 ||| at32 (e.2.point % 16384) 0, e.2.value) }
      b.setNl fun x => { x with resync := true, sent := x.sent ++ [.full f] }

/-- REDUN_RESYNC (R479, R499). -/
def execRedunResync (c : Cmd) (s : State) : Host.Outcome State Fault Refusal :=
  s.onBench c.bench (Bench.accept (.redunResync c) c (fun m => m = .shadow) fun b =>
    if b.nl.resync then b.refuse c .busy
    else (b.setNl fun x => { x with resync := true, sent := x.sent ++ [.fullRequest] }).complete c .ok 0)

/-! ### Planned hand-over (R494, R495, R499) -/

/-- REDUN_HANDOVER (R494, R499). -/
def execRedunHandover (c : Cmd) (lo hi maxDefer : Word) (s : State) : Host.Outcome State Fault Refusal :=
  s.onBench c.bench (Bench.accept (.redunHandover c lo hi maxDefer) c modesRun fun b =>
    let h := cat64 lo hi
    if h % 10 ≠ 0 || maxDefer = 0 || 65535 < maxDefer.toNat then b.refuse c .badParam
    else if !b.shadowEligible then b.refuse c .notEligible
    else if b.nl.ho.isSome || b.pe.chg.isSome then b.refuse c .busy
    else
      let x : Handover := { tag := c.tag, noirq := c.noirq, start := h, maxDefer := maxDefer.toNat }
      b.setNl fun n => { n with ho := some x })

/-- A gap defers (R178, R179, R494): DEFERRED at the first, HO_FAILED at the last. Its RESULT is open. -/
def Bench.handoverDefer (h : Handover) (b : Bench) : Bench :=
  let h' : Handover := { h with gaps := h.gaps + 1, told := true, gapAt := none }
  let b := b.setNl fun n => { n with ho := some h' }
  let b := if h.told then b else let r := b.fresh; r.2.completeTag h.tag h.noirq .deferred r.1
  if h'.gaps = h.maxDefer then b.endHandover .timeout else b

/-- Every local axis is IDLE. -/
def Bench.localIdle (b : Bench) : Bool := (List.range 10).all fun a => (b.axis a).state = .idle

/-- The gap that began at g holds a hand-over of this length (R176, R494). -/
def Bench.handoverFits (g time : Nat) (b : Bench) : Bool :=
  match b.pe.nextInput (g + 1) with | some i => g + 2000 + time ≤ i | none => true

/-- The start of the switch gap under test; with no cyclic task every moment begins one (R176). -/
def Bench.handoverGap (h : Handover) (b : Bench) : Option Time :=
  match h.gapAt with
  | some g => some g
  | none => if b.pe.shortest.isNone && h.start ≤ b.rail.now then some b.rail.now else none

/-- The test of a switch gap for a hand-over (R494). -/
def Bench.handoverTest (b : Bench) : Bench :=
  match b.nl.ho with
  | none => b
  | some h =>
    match (if h.x.isSome || b.bn.mode ≠ .run || !b.noLogic || b.switching || b.nl.sending b.rail.now then none
           else b.handoverGap h) with
    | none => b
    | some g =>
      let time := 6000 + laneTime (partBytes (b.enginePart false))
      if b.localIdle && b.handoverFits g time then
        let x := wholeUs (g + time)
        let h' : Handover := { h with x := some x, gapAt := none }
        (b.sendPart.notify (.handover x)).setNl fun n => { n with ho := some h' }
      else b.handoverDefer h

/-- HANDOVER_GAP_TEST (R494). -/
def execHandoverGapTest (bn : BenchIx) (t : Nat) (s : State) : Host.Outcome State Fault Refusal :=
  s.onBench bn fun b =>
    let b := b.tick t
    (b.setNl (Nalry.drain b.rail.now)).handoverTest

/-- HANDOVER_ACK_TIMEOUT (R495): custody is kept. -/
def execHandoverAckTimeout (bn : BenchIx) (t : Nat) (s : State) : Host.Outcome State Fault Refusal :=
  s.onBench bn fun b =>
    let b := b.tick t
    match b.nl.ho with
    | some h =>
      match h.x with
      | some x => if !h.acked && x ≤ b.rail.now + 1000 then b.endHandover .timeout else b
      | none => b
    | none => b

/-- The old active enters SHADOW at X (R494). -/
def Bench.handOver (h : Handover) (x : Nat) (b : Bench) : Bench :=
  let b := b.setNl fun n => { n with ho := none, lastX := x, cnt := upd n.cnt 1 inc }
  let b := b.leaveRun.enterShadow
  let b := (b.health 18).raise 16 1 0 0 0
  if h.told then b else b.completeTag h.tag h.noirq .ok x

/-- HANDOVER_RELEASE (R494). -/
def execHandoverRelease (bn : BenchIx) (t : Nat) (s : State) : Host.Outcome State Fault Refusal :=
  s.onBench bn fun b =>
    let b := b.tick t
    match b.nl.ho with
    | some h =>
      match h.x with
      | some x => if b.bn.mode = .run && h.acked && x ≤ b.rail.now then b.handOver h x else b
      | none => b
    | none => b

/-- HANDOVER_RELEASE_TIMEOUT (R495): no custody release by X + 10 µs. -/
def execHandoverReleaseTimeout (bn : BenchIx) (t : Nat) (s : State) : Host.Outcome State Fault Refusal :=
  s.onBench bn fun b =>
    let b := b.tick t
    match b.nl.hoX with
    | some (x, _) => if b.nl.custIn && x + 10000 ≤ b.rail.now then b.setNl fun n => { n with hoX := none } else b
    | none => b

/-! ### Notices (R483) -/

/-- The acknowledgement reaches the active in time (R494, R495). -/
def Bench.ackSeen (b : Bench) : Bench :=
  match b.nl.ho with
  | some h =>
    match h.x with
    | some x => if b.rail.now + 1000 ≤ x then b.setNl fun n => { n with ho := some { h with acked := true } } else b
    | none => b
  | none => b

/-- A notice applied on arrival. -/
def Bench.notice (n : Notice) (b : Bench) : Bench :=
  match n with
  | .ack => b.ackSeen
  | .recipe slot time words =>
    if b.bn.mode ≠ .shadow then b else (b.putRecipe slot words).setNl fun x => { x with recAt := x.recAt.set slot time }
  | .force i w v => if b.bn.mode ≠ .shadow then b else b.commitForce i.val (bitOf w 31) (fld w 13 0) v
  | .faultClass cls =>
    let was := b.partnerClass = 1
    let b := b.setNl fun x => { x with hb := x.hb.map fun h => { h with cls := cls } }
    (if b.bn.mode = .shadow && cls = 1 && !was then b.raise 16 5 0 0 0 else b).decide
  | .switched id => if b.bn.mode ≠ .shadow then b else b.switched id
  | .handover x => if b.bn.mode ≠ .shadow then b else b.setNl fun n => { n with hoX := some (x, false) }

/-- NOTICE (R483). -/
def execNotice (bn : BenchIx) (t : Nat) (n : Notice) (s : State) : Host.Outcome State Fault Refusal :=
  s.onBench bn fun b => (b.tick t).notice n

/-! ### Registers and lands (R498, R500, R501) -/

/-- NL_CNT_CLR (R500). -/
def execNlCntClr (bn : BenchIx) (v : Word) (s : State) : Host.Outcome State Fault Refusal :=
  s.onBench bn fun b => b.setNl fun x => { x with cnt := x.cnt.mapFinIdx fun i c _ => if bitOf v i then 0 else c }

/-- A write to NL_CFG: CONFIGURE only (R473, R501). -/
def Bench.writeNlCfg (v : Word) (b : Bench) : Bench :=
  if b.bn.mode = .configure then b.setNl fun x => { x with cfg := v &&& 0xCF000000 } else b.windowRej

/-- NL_STATUS (R501). -/
def Bench.nlStatus (b : Bench) : Word :=
  let n := b.nl
  let pm := match n.hb with | some h => h.mode.val | none => 0
  at32 pm 24 ||| at32 b.partnerClass 22 ||| at32 (b2n n.pairConflict) 11 ||| at32 (b2n n.custFault) 10 |||
  at32 (b2n n.isolated) 9 ||| at32 (b2n n.migr.isSome) 8 ||| at32 (b2n n.resync) 7 ||| at32 (b2n n.stale) 6 |||
  at32 (b2n b.eligible) 5 ||| at32 (b2n b.custOut) 4 ||| at32 (b2n n.custIn) 3 ||| at32 (b2n n.tallyOk) 2 |||
  at32 (b2n n.nalryOk) 1 ||| at32 (b2n n.laneUp) 0

/-- An NL_ register as it reads (R500). -/
def Bench.nlWord (b : Bench) (o : Nat) : Word :=
  match o with
  | 0x000 => b.nlStatus
  | 0x004 => b.ev[(16 : Fin 18)]
  | 0x008 => b.nl.cfg
  | 0x00C => b.nl.copyLoad
  | 0x010 => lo32 b.nl.lastX
  | 0x014 => hi32 b.nl.lastX
  | 0x018 => b.nl.seq
  | 0x01C => if b.nl.copyAt = 0 then 0 else BitVec.ofNat 32 (min 0xFFFFFFFF ((b.rail.now - b.nl.copyAt) / 1000))
  | 0x020 => b.nl.cnt[0] | 0x024 => b.nl.cnt[1] | 0x028 => b.nl.cnt[2] | 0x02C => b.nl.cnt[3] | 0x030 => b.nl.cnt[4]
  | _ => 0

/-- The step, direction, AXEN and phase-drive lands are high-impedance (R498). -/
def Bench.motionHighZ (b : Bench) : Bool := bitOf b.nl.cfg 30 && !b.custOut

end Sys2Proof.Machine
end

