-- ==== Sys2Proof/Machine/Supply.lean ====
section
/-!
DEFINITION. Module supply, MRST_N, backup domain, resets of PCI Express functions, test port
(R88 to R90, R504, R505, R555, R559, R568 to R573).
-/
namespace Sys2Proof.Machine

/-! ### Function resets (R504, R505, R545) -/

/-- QC_ registers, doorbells, MSI-X table: as after reset, queues disabled; commands taken run on, their completions
are discarded; digest parts that wait meet R462, FIFO packets stay (R504, R514). -/
def Bench.fnReset (b : Bench) : Bench :=
  let q := b.qc
  { b with fn := {},
           qc := { accAt := q.accAt, evtSeq := q.evtSeq, gap := q.gap, rseq := q.rseq, sent := q.sent, ready := q.ready,
                   inflight := q.inflight.map fun f => { f with orphan := true } } }

/-- Function 0: its MSI-X table, the guard session, a mailbox completion still to be written (R505). -/
def State.fn0Reset (s : State) : State :=
  let s := s.closeSession 4 1
  { s with hub := { s.hub with fn := {}, mboxBusy := false, bdLost := bitOf s.hub.bdCmd 31 } }

/-- All seventeen functions (R504, R570). -/
def State.fnResetAll (s : State) : State := s.fn0Reset.mapBenches Bench.fnReset

/-- FUNCTION_LEVEL_RESET (R504, R505): `d3`, by entering D3hot. -/
def execFunctionLevelReset (fn : FnIx) (d3 : Bool) (s : State) : Host.Outcome State Fault Refusal :=
  if fn = 0 then
    let s := s.fn0Reset
    .next { s with hub := { s.hub with fn := { s.hub.fn with d3 := d3 } } }
  else
    s.onBench (mkIx 15 (fn.val - 1)) fun b =>
      let b := b.fnReset
      { b with fn := { b.fn with d3 := d3 } }

/-- HOT_RESET: a hot reset, a link-down or PERST_N (R504, R570). -/
def execHotReset (s : State) : Host.Outcome State Fault Refusal := .next s.fnResetAll

/-- The hub die's own registers after its reset; supply, calendar, straps and the test port stay. -/
def Hub.restart (h : Hub) : Hub :=
  { mref := h.mref, up := h.up, vinGood := h.vinGood, vinAOk := h.vinAOk, vinBOk := h.vinBOk, vbatLow := h.vbatLow,
    calValid := h.calValid, lossValid := h.lossValid, calendar := h.calendar, calAt := h.calAt, lossTime := h.lossTime,
    inReset := h.inReset, supplyStart := h.supplyStart, mid := h.mid, pairStrap := h.pairStrap,
    tap := h.tap, tdr := h.tdr, sent := h.sent, free := h.free }

/-- HUB_RESET: the hub die restarts, the benches keep control (R504, Coincidences of chapter 16). It delivers no
reference edges meanwhile: each bench loses both and free-runs its rail (R22). -/
def execHubReset (s : State) : Host.Outcome State Fault Refusal :=
  let mode := s.hub.refMode
  let s := s.fnResetAll.mapBenches fun b => (b.refLost mode false).refLost mode true
  .next { s with hub := s.hub.restart }

/-! ### Supply (R88, R89, R555, R559) -/

/-- Every bench is stopped into WAKE without an answer to the host; its function restarts with the hub. -/
def Bench.moduleReset (start : Nat) (b : Bench) : Bench :=
  let b := (b.wake start).fnReset
  { b with qc := { b.qc with inflight := [], ready := [] }, mx := {}, bn := { b.bn with prev := .wake } }

/-- With epoch source 0 the module reference rail takes the calendar when WAKE begins (R48, EPOCH_SRC). -/
def Hub.wakeRef (h : Hub) : Hub := if h.vinGood && !h.inReset && h.epochSrc = 0 then { h with mref := h.calNs } else h

/-- SUPPLY_GOOD (R88, R90): WAKE counts from here if MRST_N is released; `vinA`, `vinB`: the inputs that are good. -/
def execSupplyGood (t : Nat) (vinA vinB : Bool) (s : State) : Host.Outcome State Fault Refusal :=
  let s := { s with hub := s.hub.tick t }
  let first := !s.hub.vinGood
  let s := { s with hub := { s.hub with vinGood := true, vinAOk := vinA, vinBOk := vinB } }
  let s := if first then { s with hub := { s.hub.wakeRef with supplyStart := s.hub.supplyStart && s.hub.inReset } } else s
  .next (if first then s.mapBenches fun b => if b.bn.mode = .wake then b.setRail fun r => { r with wakeAt := r.up } else b else s)

/-- SUPPLY_LOST (R88): power-loss time latched, every bench stops and its face drops its outputs to safe values (R43);
no snapshot is written, and one of a bench in RUN or SHADOW no longer serves. Nothing more where the supply is lost
already. DESIGN CHOICE (log 54): LOSS_VALID sets also while CAL_VALID is 0. -/
def execSupplyLost (t : Nat) (s : State) : Host.Outcome State Fault Refusal :=
  let s := { s with hub := s.hub.tick t }
  let h := s.hub
  if !h.vinGood then .next s
  else
    let s := (s.fn0Reset).mapBenches fun b =>
      let b : Bench := if b.bn.mode = .run || b.bn.mode = .shadow then { b with snapOk := false } else b
      b.faceDark.moduleReset 0
    let h' := { s.hub.restart with lossTime := h.calNow, lossValid := true, vinGood := false, vinAOk := false, vinBOk := false,
                                   vbatLow := false, supplyStart := true }
    .next { s with hub := h' }

/-- VIN_INPUT_LOST (R555): with the ORed supply still good, nothing but its bits. -/
def execVinInputLost (t : Nat) (inputB : Bool) (s : State) : Host.Outcome State Fault Refusal :=
  let h := s.hub.tick t
  let was := if inputB then h.vinBOk else h.vinAOk
  let h := if inputB then { h with vinBOk := false } else { h with vinAOk := false }
  .next { s with hub := if was && h.vinGood then h.mgEvent (if inputB then 1 else 0) else h }

/-- VIN_INPUT_GOOD (R555). -/
def execVinInputGood (t : Nat) (inputB : Bool) (s : State) : Host.Outcome State Fault Refusal :=
  let h := s.hub.tick t
  .next { s with hub := if inputB then { h with vinBOk := true } else { h with vinAOk := true } }

/-- VBAT_LOW (R559). -/
def execVbatLow (t : Nat) (s : State) : Host.Outcome State Fault Refusal :=
  let h := s.hub.tick t
  .next { s with hub := if h.vinGood && !h.vbatLow then Hub.mgEvent 2 { h with vbatLow := true } else h }

/-- VBAT_CALENDAR_LOSS (R89): in DORMANT; calendar and power-loss time are open from here on. -/
def execVbatCalendarLoss (t : Nat) (s : State) : Host.Outcome State Fault Refusal :=
  let h := s.hub.tick t
  if h.vinGood then .next { s with hub := h }
  else .next { s with hub := { h with
    calValid := false, lossValid := false, calendar := Config.freeValue 16 h.free, lossTime := Config.freeValue 16 (h.free + 1),
    calAt := h.up, free := h.free + 2 } }

/-! ### MRST_N (R47, R90, R93, R568, R569) -/

/-- MRST_N_ASSERT: a low of 1 µs or longer; each face sets its outputs to safe values under R43 (R568). -/
def execMrstNAssert (t : Nat) (s : State) : Host.Outcome State Fault Refusal :=
  let s := { s with hub := s.hub.tick t }
  let s := (s.fn0Reset).mapBenches fun b => b.faceDark.moduleReset 1
  .next { s with hub := { s.hub.restart with inReset := true } }

/-- MRST_N_RELEASE: straps sampled, WAKE begins; START is 0 after a supply loss (R47, R90, R101, R569). -/
def execMrstNRelease (t : Nat) (mid : BitVec 6) (pair : Bool) (s : State) : Host.Outcome State Fault Refusal :=
  let s := { s with hub := s.hub.tick t }
  if !s.hub.inReset then .next s
  else
    let start := if s.hub.supplyStart then 0 else 1
    let s := s.mapBenches fun b =>
      (b.setBn fun n => { n with mid := mid, pair := pair, start := start }).setRail fun r => { r with wakeAt := r.up }
    .next { s with hub := Hub.wakeRef { s.hub with inReset := false, supplyStart := s.hub.supplyStart && !s.hub.vinGood, mid := mid, pairStrap := pair } }

/-! ### Test port (R571 to R573) -/

/-- An instruction that takes the lands; BYPASS unless MRST_N is low (R572). -/
def State.tapLands (i : TapIr) (s : State) : State :=
  { s with hub := if s.hub.inReset then { s.hub with tap := i } else { s.hub with tap := .bypass, tdr := 0 } }

/-- The test port holds the lands of the core field (R571, R572). -/
def Hub.landsTaken (h : Hub) : Bool := h.inReset && (h.tap = .extest || h.tap = .clamp || h.tap = .highz)

/-- BYPASS (R571). -/
def execTapBypass (s : State) : Host.Outcome State Fault Refusal := .next { s with hub := { s.hub with tap := .bypass, tdr := 0 } }
/-- IDCODE (R571): IDCODE reads 0x1161_6B3B. -/
def execTapIdcode (s : State) : Host.Outcome State Fault Refusal :=
  .next { s with hub := { s.hub with tap := .idcode, tdr := 0x11616B3B } }
/-- SAMPLE_PRELOAD (R571): SAMPLE/PRELOAD. -/
def execTapSamplePreload (s : State) : Host.Outcome State Fault Refusal :=
  .next { s with hub := { s.hub with tap := .samplePreload } }
/-- EXTEST (R572): EXTEST, which takes the lands only while MRST_N is low. -/
def execTapExtest (s : State) : Host.Outcome State Fault Refusal := .next (s.tapLands .extest)
/-- CLAMP (R572): CLAMP, which takes the lands only while MRST_N is low. -/
def execTapClamp (s : State) : Host.Outcome State Fault Refusal := .next (s.tapLands .clamp)
/-- HIGHZ (R572): HIGHZ, which takes the lands only while MRST_N is low. -/
def execTapHighz (s : State) : Host.Outcome State Fault Refusal := .next (s.tapLands .highz)
/-- DEBUG: only while a guard session has opened a bench's debug port (R546, R573). -/
def execTapDebug (s : State) : Host.Outcome State Fault Refusal :=
  .next { s with hub := if s.hub.debugBench.isSome then { s.hub with tap := .debug } else { s.hub with tap := .bypass, tdr := 0 } }

end Sys2Proof.Machine
end

