-- ==== Sys2Proof/Machine/Registers.lean ====
section
/-!
DEFINITION. Every register as the host reads it (R3, R6, R16, R35, R506), by function and BAR0 offset.
-/
namespace Sys2Proof.Machine

/-! ### BN_ and TM_ (R44, R46, R47, R74, R75, R100) -/

def Bench.bnWord (b : Bench) (o : Nat) : Word :=
  match o with
  | 0x000 => 0x1616A100#32 ||| at32 (b.ix.val / 4) 6 ||| at32 b.ix.val 0
  | 0x004 => at32 (b2n b.bn.pair) 8 ||| at32 b.bn.mid.toNat 0
  | 0x010 => b.bn.dramCapture
  | 0x014 => BitVec.ofNat 32 (896 - b.bn.dramCapture.toNat)
  | 0x020 => b.bn.windowRej | 0x024 => b.bn.producerConflict | 0x028 => b.bn.outLate
  | 0x040 => b.modeWord | 0x044 => b.bn.holdCause | 0x048 => b.bn.modeCfg | 0x04C => b.bn.hostTmo
  | 0x050 => b.bn.selftest | 0x054 => b.bn.pageFail | 0x058 => b.bn.pageRest
  | 0x05C => b.bn.life.powerCycles | 0x060 => b.bn.life.starts | 0x064 => b.bn.life.opHours
  | _ => 0

/-- TM_STATUS (R75). -/
def Bench.tmStatus (h : Hub) (b : Bench) : Word :=
  let r := b.rail
  at32 r.state.code 8 ||| at32 (b2n r.onB) 7 ||| at32 (b2n r.refBGood) 6 ||| at32 (b2n r.refAGood) 5 |||
  at32 (b2n r.epochOk) 4 ||| at32 (b2n h.syncOk) 3 ||| at32 (b2n h.ptmOk) 2 ||| at32 (b2n r.slewing) 1 |||
  at32 (b2n r.paceLow) 0

/-- The TM_ block (R74). DESIGN CHOICE (log 54): an offset beyond INT32 shows its low 32 bits. -/
def Bench.tmWord (h : Hub) (b : Bench) (o : Nat) : Word :=
  let r := b.rail
  match o with
  | 0x000 => lo32 r.now | 0x004 => hi32 r.now
  | 0x008 => b.tmStatus h
  | 0x00C => b.ev[(2 : Fin 18)]
  | 0x010 => ofS r.offset | 0x014 => ofS r.freqAdj
  | 0x018 => r.paceLim | 0x01C => r.paceRest | 0x020 => BitVec.ofNat 32 r.paceMv
  | 0x024 => ofS r.slack | 0x028 => BitVec.ofNat 32 r.paceRate | 0x02C => ofS r.tj
  | 0x030 => r.raiseCnt | 0x034 => r.lowerCnt | 0x038 => r.ceilCnt | 0x03C => r.refLossCnt
  | _ => 0

/-! ### SC_ and FQ_ (R135 to R138) -/

def Bench.scBusy (b : Bench) : Word :=
  let run : Word := (List.finRange 4).foldl (fun w i => putBit w i.val (b.cores[i].run ≠ .idle)) 0
  putBit run 4 (512 ≤ b.sc.results.length)

/-- Words of an event-flag slot (R111, R135). -/
def Bench.slotWord (b : Bench) (n : Fin 64) (k : Nat) : Word :=
  let st := Tbl.get {} b.sc.slots n.val
  match k with
  | 0x0 => st.flags
  | 0xC => st.runs
  | _ =>
    match b.pe.slotImg n with
    | none => 0
    | some x => if k = 4 then x.mask else at32 (b2n x.all) 31 ||| at32 (b.slotPri x) 16 ||| at32 (x.handler % 256) 0

def Bench.scWord (b : Bench) (o : Nat) : Word :=
  if o = 0x000 then b.sc.ctrl
  else if o = 0x004 then b.scBusy
  else if 0x010 ≤ o && o < 0x030 then b.sc.qcfg[(mkIx 7 ((o - 0x10) / 4) : Fin 8)]
  else if 0x030 ≤ o && o < 0x050 then BitVec.ofNat 32 (b.depthOf (mkIx 7 ((o - 0x30) / 4)))
  else if o = 0x050 then BitVec.ofNat 32 b.poolFree
  else if 0x060 ≤ o && o < 0x088 then b.sc.cnt.toList.getD ((o - 0x60) / 4) 0
  else if o = 0x08C then b.ev[(3 : Fin 18)]
  else if 0x400 ≤ o && o < 0x800 then (b.flow ((o - 0x400) / 4)).cfg
  else if 0x800 ≤ o && o < 0xC00 then
    let f := b.flow ((o - 0x800) / 4)
    at32 (f.next % 65536) 16 ||| at32 (f.release % 65536) 0
  else if 0x1000 ≤ o && o < 0x1400 then b.slotWord (mkIx 63 ((o - 0x1000) / 16)) (o % 16)
  else 0

/-- FQ_STAT (R138). -/
def Fifo.statWord (f : Fifo) : Word :=
  at32 (b2n f.dropping) 7 ||| at32 (b2n f.rdOpen) 6 ||| at32 (b2n f.wrOpen) 5 |||
  (match f.wrCore with | some k => if f.wrOpen && f.prod = 0 then at32 k.val 2 else 0 | none => 0) |||
  at32 (b2n (0 < f.midN)) 1 ||| at32 (b2n f.full) 0

def Bench.fqWord (b : Bench) (o : Nat) : Word :=
  if o = 0x004 then at32 b.fq.cmdStat 0
  else if o = 0x00C then b.fq.hostWord
  else if o = 0x010 then at32 (b2n b.fq.hostValid) 1 ||| at32 (b2n b.fq.hostEop) 0
  else if o = 0x014 then BitVec.ofNat 32 b.spillUsed
  else if 0x100 ≤ o && o < 0x500 then
    let f := b.fifo (mkIx 31 ((o - 0x100) / 0x20))
    match o % 0x20 with
    | 0x00 => f.cfg | 0x04 => f.spill
    | 0x08 => at32 (f.words.length % 2 ^ 24) 0 | 0x0C => at32 (f.pkts % 2 ^ 24) 0
    | 0x10 => f.statWord | 0x14 => f.spoil
    | _ => 0
  else 0

/-! ### PE_ (R165, R184, R185, R211, R212) -/

/-- PE_STATUS.CHG (R185): LOADING from the taking of a PROG_LOAD until it completes. -/
def Bench.chgCode (b : Bench) : Nat :=
  match b.pe.chg with
  | some c => if c.switching then 4 else if c.told then 3 else 2
  | none => b2n (b.qc.inflight.any fun f => f.opcode = 0x0201)

def Bench.peStatus (b : Bench) : Word :=
  at32 b.chgCode 16 ||| at32 (b2n (0 < b.forceCount)) 8 ||| at32 (b2n (b.pe.cur.bind (·.err)).isSome) 3 |||
  at32 (b2n b.pe.cur.isSome) 2 ||| at32 (b2n b.pe.freeImg.isSome) 1 ||| at32 (b2n b.pe.slot) 0

def Bench.taskWord (b : Bench) (k : Fin 16) (o : Nat) : Word :=
  let c := b.pe.tasks[k]
  let r := b.pe.runs[k]
  match o with
  | 0x00 => at32 (b2n c.en) 31 ||| at32 (c.pri % 16) 16 ||| at32 c.startSlot.val 0
  | 0x04 => at32 (c.p % 2 ^ 21) 0 | 0x08 => at32 (c.ph % 2 ^ 21) 0 | 0x0C => at32 (c.off % 2 ^ 21) 0
  | 0x10 => at32 (c.g % 128) 24 ||| at32 (c.d % 2 ^ 21) 0
  | 0x14 => r.last | 0x18 => r.max | _ => r.cycles

def Bench.peWord (b : Bench) (o : Nat) : Word :=
  let p := b.pe
  if 0x060 ≤ o && o < 0x0A0 then p.sticky.toList.getD ((o - 0x60) / 4) 0
  else if 0x100 ≤ o && o < 0x300 then b.taskWord (mkIx 15 ((o - 0x100) / 0x20)) (o % 0x20)
  else match o with
  | 0x000 => b.peStatus
  | 0x004 => match p.cur with | some i => i.id.setWidth 32 | none => 0
  | 0x008 => match p.freeImg with | some i => i.id.setWidth 32 | none => 0
  | 0x00C => b.ev[(4 : Fin 18)]
  | 0x010 => BitVec.ofNat 32 b.forceCount
  | 0x014 => if (p.cur.bind (·.err)).isSome then b.errFlags else p.errPend
  | 0x018 => match p.wdTask with | some k => at32 1 31 ||| at32 k.val 0 | none => 0
  | 0x01C => lo32 p.wdRail | 0x020 => hi32 p.wdRail
  | 0x024 => match p.chg with | some c => BitVec.ofNat 32 c.dirty.length | none => 0
  | 0x028 => p.deferCnt | 0x02C => p.forceRej | 0x030 => p.errDrop
  | 0x040 => p.faultInfo | 0x044 => p.faultPc | 0x048 => p.faultAddr | 0x04C => p.faultCnt
  | 0x050 => p.stickyWi
  | _ => 0

/-- Words of a force entry (R165). -/
def Bench.forceWord (b : Bench) (i o : Nat) : Word :=
  let f := b.forceEntry i
  match o with
  | 0x0 => at32 (b2n f.en) 31 ||| at32 (f.point % 16384) 0
  | 0x4 => f.staged
  | 0x8 => f.live
  | _ => at32 (b2n f.active) 31 ||| at32 (b2n f.rej) 30 ||| at32 f.seq.toNat 0

/-! ### LE_, MX_, RS_ (R245, R249 to R251, R273, R275, R307, R310) -/

def Bench.leWord (b : Bench) (o : Nat) : Word :=
  match o with
  | 0x000 => at32 b.usedLoops.length 16 ||| at32 (b2n (b.bn.mode = .run)) 0
  | 0x004 => b.le.rate
  | 0x008 => b.ev[(5 : Fin 18)]
  | 0x00C => b.le.missLast
  | 0x010 => b.le.missCnt | 0x014 => b.le.pvbadCnt | 0x01C => b.le.slackMin
  | _ => if 0x2000 ≤ o && o < 0x4000 then b.cfg (0x8000 + o) else 0

def Bench.loopWord (b : Bench) (n o : Nat) : Word := if o < 0x2C then b.lw n o else b.loopStateWord n o

def Bench.mxWord (b : Bench) (o : Nat) : Word :=
  match o with
  | 0x000 => at32 (allAxes.filter b.axisUsed).length 16 ||| at32 (b2n (b.bn.mode = .run)) 0
  | 0x004 => b.ev[(6 : Fin 18)]
  | 0x008 => b.mx.rate
  | 0x00C => at32 (b.mx.vbr % 65536) 0
  | 0x010 => b.mx.lateCnt | 0x014 => b.mx.chatterCnt | 0x018 => b.mx.skipCnt
  | _ => 0

def Bench.axisWord (b : Bench) (a o : Nat) : Word := if o ≤ 0x40 then b.aw a o else b.axisStateWord a o

def Bench.rsWord (b : Bench) (o : Nat) : Word :=
  match o with
  | 0x000 => b.recipesActive
  | 0x004 => b.ev[(7 : Fin 18)]
  | 0x008 => b.rs.cfg
  | 0x010 => b.rs.lateCnt | 0x014 => b.rs.conflictCnt
  | _ => 0

/-! ### HA_, GD_, QC_ (R412, R414, R513, R552) -/

def Bench.haWord (b : Bench) (o : Nat) : Word :=
  let h := b.ha
  if 0x1000 ≤ o && o < 0x1800 then
    let s := (o - 0x1000) / 0x20
    match o % 0x20 with
    | 0x18 => b.stationStateWord s
    | 0x1C => at32 ((b.station s).delay % 65536) 0
    | k => b.sw s k
  else match o with
  | 0x000 => b.haulStatus
  | 0x004 => b.ev[(13 : Fin 18)]
  | 0x00C => h.etype
  | 0x030 => b.stationBits .lost 0 | 0x034 => b.stationBits .lost 32
  | 0x038 => b.stationBits .operational 0 | 0x03C => b.stationBits .operational 32
  | 0x040 => h.missCnt | 0x044 => h.rxDrop | 0x048 => h.outLate | 0x04C => h.guardCnt | 0x050 => h.svcDrop
  | 0x060 => h.mdioCmd | 0x064 => h.mdioData | 0x070 => h.txload | 0x074 => h.rxload
  | _ => if o < 0x02C then b.cfg (haulAt o) else 0

def Bench.gdWord (h : Hub) (b : Bench) (o : Nat) : Word :=
  match o with
  | 0x000 => at32 (b2n h.session.isSome) 31 ||| at32 (b2n b.gd.debug) 30 |||
             at32 (b2n b.gd.gbad) 1 ||| at32 (b2n b.gd.logFail) 0
  | 0x004 => b.gd.seq
  | 0x008 => b.gd.clip | 0x00C => b.gd.delay | 0x010 => b.gd.deny
  | _ => if (guardMask o).isSome then b.guardReg o else 0

/-- QC_HEAD to QC_STAT of a queue. -/
def Queue.word (x : Queue) (o : Nat) : Word :=
  match o with
  | 0x00 => x.baseLo | 0x04 => x.baseHi | 0x08 => x.size | 0x0C => x.ctrl
  | 0x10 => BitVec.ofNat 32 x.head | 0x14 => BitVec.ofNat 32 x.tail
  | 0x18 => at32 (b2n x.error) 2 ||| at32 (b2n (x.en && x.room = 0)) 1 ||| at32 (b2n x.phase) 0
  | _ => 0

def Bench.qcWord (b : Bench) (o : Nat) : Word :=
  if o < 0x080 then (b.qc.q[(mkIx 3 (o / 0x20) : Fin 4)]).word (o % 0x20)
  else match o with
  | 0x100 => b.qc.err
  | 0x104 => at32 (b.qc.inflight.length % 128) 0
  | 0x108 => b.qc.evtDrop | 0x10C => b.qc.dbBad | 0x110 => b.qc.cplDisc
  | _ => 0

/-! ### Bench BAR0 (R16, R35) -/

/-- Words of a point entry (R28). -/
def Point.wordAt (e : Point) (o : Nat) : Word :=
  match o with
  | 0x0 => e.value
  | 0x4 => at32 e.quality.toNat 0 ||| at32 e.flags.toNat 16
  | 0x8 => lo32 e.stamp
  | _ => hi32 e.stamp

/-- The live content of a register or window word of a bench. -/
def Bench.word (h : Hub) (b : Bench) (off : Nat) : Word :=
  if off % 4 ≠ 0 then BitVec.allOnes 32
  else if off < 0x01000 then b.bnWord off
  else if off < 0x02000 then b.tmWord h (off - 0x01000)
  else if off < 0x04000 then b.scWord (off - 0x02000)
  else if off < 0x08000 then b.peWord (off - 0x04000)
  else if off < 0x0C000 then b.leWord (off - 0x08000)
  else if off < 0x10000 then b.mxWord (off - 0x0C000)
  else if off < 0x12000 then b.rsWord (off - 0x10000)
  else if off < 0x14000 then b.faceWord (off - 0x12000)
  else if off < 0x16000 then b.quoinWord (off - 0x14000)
  else if off < 0x18000 then b.kerfWord (off - 0x16000)
  else if off < 0x19000 then b.digestWord (off - 0x18000)
  else if off < 0x1A000 then b.healthWord (off - 0x19000)
  else if off < 0x1C000 then b.haWord (off - 0x1A000)
  else if off < 0x1D000 then b.canWord 0 (off - 0x1C000)
  else if off < 0x1E000 then b.canWord 1 (off - 0x1D000)
  else if off < 0x20000 then b.nlWord (off - 0x1E000)
  else if off < 0x22000 then b.gdWord h (off - 0x20000)
  else if off < 0x30000 then b.fqWord (off - 0x22000)
  else if off < 0x40000 then b.qcWord (off - 0x30000)
  else if off < 0x80000 then (b.point ((off - 0x40000) / 16)).wordAt (off % 16)
  else if off < 0x88000 then b.loopWord ((off - 0x80000) / 64) (off % 64)
  else if off < 0x8C000 then b.axisWord ((off - 0x88000) / 256) (off % 256)
  else if off < 0x90000 then b.forceWord ((off - 0x8C000) / 16) (off % 16)
  else if off < 0x91000 then b.runStateWord (mkIx 15 ((off - 0x90000) / 256)) (off % 256)
  else 0

/-! ### BAR0 of function 0 (R78, R104, R506, R507, R536, R547, R554) -/

/-- MG_MOD_STATE (R104). -/
def State.modState (s : State) : Word :=
  let h := s.hub
  at32 (b2n h.vbatLow) 5 ||| at32 (b2n h.vinBOk) 4 ||| at32 (b2n h.vinAOk) 3 ||| at32 (b2n h.lossValid) 2 |||
  at32 (b2n h.calValid) 1 ||| at32 (b2n s.allAwake) 0

/-- MG_FORCED (R171). -/
def State.forcedMask (s : State) : Word :=
  let w : Word := (List.finRange 16).foldl (fun w n => putBit w n.val (0 < (s.bench n).forceCount)) 0
  putBit w 16 (w ≠ 0)

/-- MG_MODES: four bits a bench, eight benches from n. -/
def State.modesWord (s : State) (n : Nat) : Word :=
  (List.range 8).foldl (fun w i => w ||| at32 (s.bench (mkIx 15 (n + i))).bn.mode.code (4 * i)) 0

/-- GS_STATUS (R554). -/
def Hub.gsStatus (h : Hub) : Word :=
  at32 (b2n h.session.isSome) 31 |||
  (match h.debugBench with | some n => at32 1 30 ||| at32 n.val 16 | none => 0) |||
  (match h.session with | some x => x.oper.setWidth 32 | none => 0)

def State.mgWord (s : State) (off : Nat) : Word :=
  let h := s.hub
  if 0x100 ≤ off && off < 0x140 then h.mbox.toList.getD ((off - 0x100) / 4) 0
  else if 0x140 ≤ off && off < 0x150 then h.mboxCpl.toList.getD ((off - 0x140) / 4) 0
  else if 0x4100 ≤ off && off < 0x4200 then h.bdBuf.toList.getD ((off - 0x4100) / 4) 0
  else if 0xA000 ≤ off && off < 0xC000 then (s.bench (mkIx 15 (fld h.gsSel 3 0))).gdWord h (off - 0xA000)
  else match off with
  | 0x0000 => 0x1616A100 | 0x0004 => h.mgLink | 0x0008 => s.forcedMask
  | 0x000C => h.mgEvents | 0x0010 => h.mgErr
  | 0x0018 => s.modesWord 0 | 0x001C => s.modesWord 8
  | 0x0150 => at32 (b2n h.mboxBusy) 0
  | 0x1000 => h.timeCtrl | 0x1004 => h.syncComp | 0x1008 => h.orderWin
  | 0x1100 => s.modState
  | 0x1108 => lo32 h.calNow | 0x110C => hi32 h.calNow
  | 0x1110 => lo32 h.lossTime | 0x1114 => hi32 h.lossTime
  | 0x4000 => h.bdCmd | 0x4004 => h.bdSlot | 0x4008 => h.bdStat
  | 0x8000 => h.gsStatus | 0x8004 => h.gsEvents | 0x8008 => h.gsSel
  | 0x800C => h.gsDenied | 0x8010 => h.gsRej
  | _ => 0

/-- The live content at an offset of BAR0 of a function. -/
def State.word (s : State) (fn : FnIx) (off : Nat) : Word :=
  if off % 4 ≠ 0 then BitVec.allOnes 32
  else if fn = 0 then s.mgWord off else (s.bench (mkIx 15 (fn.val - 1))).word s.hub off

/-! ### Held copies (R7, R36, R273) -/

/-- The function's own record of what it holds. -/
def State.fnOf (s : State) (fn : FnIx) : Fn := if fn = 0 then s.hub.fn else (s.bench (mkIx 15 (fn.val - 1))).fn

/-- Low words of 64-bit quantities (R7): in function 0, and in a bench. -/
def mgLow (off : Nat) : Bool := off = 0x1108 || off = 0x1110
def benchLow (off : Nat) : Bool :=
  off = 0x01000 || off = 0x0401C || off = 0x1E010 || off = 0x1C024 || off = 0x1D024 ||
  (0x30000 ≤ off && off < 0x30080 && off % 0x20 = 0) ||
  (0x40000 ≤ off && off < 0x80000 && off % 16 = 8) ||
  (0x88000 ≤ off && off < 0x8C000 && (off % 256 = 0x88 || off % 256 = 0x94)) ||
  (0x90000 ≤ off && off < 0x91000 && (off % 256 = 0x08 || off % 256 = 0x10))
def lowWord (fn : FnIx) (off : Nat) : Bool := if fn = 0 then mgLow off else benchLow off

/-- The word held for one offset of an entry: the group's number, then its words from offset 4 on. -/
def heldAt (h : Option (Nat × List (Option Word))) (n o : Nat) : Option Word :=
  match h with
  | some (k, l) => if k = n then l.getD (o / 4 - 1) none else none
  | none => none

/-- One word of a held copy has been read. -/
def heldDrop (h : Option (Nat × List (Option Word))) (n o : Nat) : Option (Nat × List (Option Word)) :=
  h.map fun e => if e.1 = n then (e.1, e.2.set (o / 4 - 1) none) else e

/-- The point entry, and the recipe run state, whose words after the first lie at an offset of a bench. -/
def pointPart (off : Nat) : Option Nat :=
  if 0x40000 ≤ off && off < 0x80000 && off % 16 ≠ 0 then some ((off - 0x40000) / 16) else none
def runPart (off : Nat) : Option Nat :=
  if 0x90000 ≤ off && off < 0x91000 && 0 < off % 256 && off % 256 < 0x20 then some ((off - 0x90000) / 256) else none

/-- The copy that a function holds for an offset, if any: after a value-word read of the same entry (R36), after a
read of word 0x00 of the same run state (R273), after a low-word read (R7). -/
def Fn.heldWord (f : Fn) (bench : Bool) (off : Nat) : Option Word :=
  let entry : Option Word :=
    match (if bench then pointPart off else none), (if bench then runPart off else none) with
    | some p, _ => heldAt f.heldPoint p (off % 16)
    | _, some n => heldAt f.heldRun n (off % 256)
    | _, _ => none
  entry.or (f.held.bind fun e => if off = e.1 + 4 then some e.2 else none)

/-- A held word serves the next read of its offset and no later one. -/
def Fn.consumed (f : Fn) (bench : Bool) (off : Nat) : Fn :=
  { f with
    held := f.held.filter fun e => e.1 + 4 ≠ off
    heldPoint := match (if bench then pointPart off else none) with | some p => heldDrop f.heldPoint p (off % 16) | none => f.heldPoint
    heldRun := match (if bench then runPart off else none) with | some n => heldDrop f.heldRun n (off % 256) | none => f.heldRun }

/-- What the function reads: the held word, else the live content; all-ones at an offset that is not aligned (R2). -/
def State.readWord (s : State) (fn : FnIx) (off : Nat) : Word :=
  if off % 4 ≠ 0 then BitVec.allOnes 32
  else ((s.fnOf fn).heldWord (fn ≠ 0) off).getD (s.word fn off)

end Sys2Proof.Machine
end

