-- ==== Sys2Proof/Machine/HostWrite.lean ====
section
/-!
DEFINITION. Host writes of registers, queue registers, doorbells, mailbox doorbell, MSI-X, unsupported requests, and the
reads that hold copies (R2 to R8, R36, R37, R273, R512 to R515, R530, R533).
-/
namespace Sys2Proof.Machine

/-! ### Configuration words held by BAR0 offset (R245, R250, R307, R346, R412, R414, R442) -/

/-- A write of a configuration word: in CONFIGURE only. Of a table only the values are written (R250). -/
def Bench.confWrite (off : Nat) (mask v : Word) (b : Bench) : Bench :=
  if b.bn.mode ≠ .configure || mask = 0 then b.windowRej
  else if faceReserved off v then b
  else
    let b := b.setCfg off (v &&& mask)
    if off = 0x120F0 || (0x12104 ≤ off && off < 0x1210C) then b.faceSafe
    else if 0x12000 ≤ off && off < 0x14000 then b.faceConf
    else if off = 0x1C008 || off = 0x1D008 then b.canStart else b

/-! ### Points, forces (R8, R31 to R33, R37, R166, R170) -/

/-- The low word that a function has written since the quantity was last stored (R8). -/
def Fn.low (f : Fn) (off : Nat) (stored : Word) : Word := (Tbl.get none f.lows off).getD stored
def Bench.setLow (off : Nat) (v : Option Word) (b : Bench) : Bench :=
  { b with fn := { b.fn with lows := Tbl.set none b.fn.lows off v } }

/-- A write of a word of a point entry: in CONFIGURE only; SAFETY, CHANGED and reserved bits stay. -/
def Bench.pointWrite (off : Nat) (v : Word) (b : Bench) : Bench :=
  let p := (off - 0x40000) / 16
  let e := b.point p
  if b.bn.mode ≠ .configure then b.windowRej
  else match off % 16 with
  | 0x0 => (b.cover p none).setPoint p { e with value := fmtWord e.format v }
  | 0x4 =>
    let fl := (e.flags &&& 0x0B0F#16) ||| (BitVec.ofNat 16 (fld v 31 16) &&& 0xF4F0#16)
    let e' := { e with quality := qNorm (BitVec.ofNat 16 (fld v 11 0)), flags := fl }
    b.setPoint p { e' with value := fmtWord e'.format e.value }
  | 0x8 => b.setLow off (some v)
  | _ => (b.setPoint p { e with stamp := cat64 (b.fn.low (off - 4) (lo32 e.stamp)) v }).setLow (off - 4) none

/-- A write of a word of a force entry (R166, R170): word 0x0 commits, word 0x4 is staged. -/
def Bench.forceWrite (off : Nat) (v : Word) (b : Bench) : Bench :=
  let i := (off - 0x8C000) / 16
  let f := b.forceEntry i
  if !modesCfgRunHold b.bn.mode then b.windowRej
  else match off % 16 with
  | 0x0 => b.forceCommit i (bitOf v 31) (fld v 13 0) f.staged
  | 0x4 => b.setForce i { f with staged := v }
  | _ => b

/-! ### Queue registers (R513, R514) -/

/-- EN set: refused with CFG_BAD for a bad ring, else head and tail at 0 and phase 1. -/
def Bench.enableQueue (q : Fin 4) (v : Word) (b : Bench) : Bench :=
  let x := b.qc.q[q]
  let bad := x.depth < 2 || 4096 < x.depth || (q = 2 && x.depth * x.esz < 131072)
  if bad then b.qcError 4
  else b.setQueue q fun x => { x with ctrl := v &&& 0xC0FFFFFF, head := 0, tail := 0, phase := true }

/-- EN cleared: the queue stops with the outcomes of its kind; ERROR ends (R515). -/
def Bench.disableQueue (q : Fin 4) (v : Word) (b : Bench) : Bench :=
  b.setQueue q fun x => { x with ctrl := v &&& 0x40FFFFFF, error := false, counted := 0 }

/-- A write to QC_CTRL. -/
def Bench.writeQcCtrl (q : Fin 4) (v : Word) (b : Bench) : Bench :=
  let en := (b.qc.q[q]).en
  if bitOf v 31 && !en then b.enableQueue q v
  else if !bitOf v 31 && en then b.disableQueue q v
  else b.setQueue q fun x => { x with ctrl := v &&& 0xC0FFFFFF }

/-- A write to a QC_ register: BASE, a 64-bit quantity (R8), and SIZE only while EN is 0. -/
def Bench.queueWrite (o : Nat) (v : Word) (b : Bench) : Bench :=
  let q : Fin 4 := mkIx 3 (o / 0x20)
  let x := b.qc.q[q]
  match o % 0x20 with
  | 0x00 => if x.en then b else b.setLow (0x30000 + o) (some v)
  | 0x04 =>
    if x.en then b
    else
      let lo := b.fn.low (0x30000 + o - 4) x.baseLo
      (b.setQueue q fun x => { x with baseLo := lo &&& 0xFFFFF000, baseHi := v }).setLow (0x30000 + o - 4) none
  | 0x08 => if x.en then b else b.setQueue q fun x => { x with size := v &&& (if q = 2 then 0x31FFF else 0x1FFF) }
  | 0x0C => b.writeQcCtrl q v
  | _ => b

/-- QUEUE_ENABLE (R513, R514): a QC_CTRL write with EN. -/
def execQueueEnable (bn : BenchIx) (q : Fin 4) (v : Word) (s : State) : Host.Outcome State Fault Refusal :=
  s.onBench bn (Bench.writeQcCtrl q (putBit v 31 true))

/-- QUEUE_DISABLE (R514): a QC_CTRL write without EN. -/
def execQueueDisable (bn : BenchIx) (q : Fin 4) (v : Word) (s : State) : Host.Outcome State Fault Refusal :=
  s.onBench bn (Bench.writeQcCtrl q (putBit v 31 false))

/-- QC_CNT_CLR (R513). -/
def execQcCntClr (bn : BenchIx) (v : Word) (s : State) : Host.Outcome State Fault Refusal :=
  s.onBench bn fun b => { b with qc := { b.qc with
    evtDrop := if bitOf v 0 then 0 else b.qc.evtDrop, dbBad := if bitOf v 1 then 0 else b.qc.dbBad,
    cplDisc := if bitOf v 2 then 0 else b.qc.cplDisc } }

/-- BN_CNT_CLR (R44). -/
def execBnCntClr (bn : BenchIx) (v : Word) (s : State) : Host.Outcome State Fault Refusal :=
  s.onBench bn fun b => b.setBn fun n => { n with
    windowRej := if bitOf v 0 then 0 else n.windowRej,
    producerConflict := if bitOf v 1 then 0 else n.producerConflict, outLate := if bitOf v 2 then 0 else n.outLate }

/-! ### Registers without a row of their own (R3, R4, R6) -/

/-- The block whose EVENTS register lies at an offset (R525). -/
def eventsAt (off : Nat) : Option (Fin 18) :=
  match off with
  | 0x0100C => some 2 | 0x0208C => some 3 | 0x0400C => some 4 | 0x08008 => some 5 | 0x0C004 => some 6
  | 0x10004 => some 7 | 0x12004 => some 8 | 0x14004 => some 9 | 0x16008 => some 10 | 0x18008 => some 11
  | 0x1900C => some 12 | 0x1A004 => some 13 | 0x1C004 => some 14 | 0x1D004 => some 15 | 0x1E004 => some 16
  | _ => none

/-- A register writable only in CONFIGURE; elsewhere discarded and counted. -/
def Bench.inConfigure (f : Bench → Bench) (b : Bench) : Bench := if b.bn.mode = .configure then f b else b.windowRej

/-- A BN_ register (R100, R103): beyond 60,000 ms a silence limit is discarded. -/
def Bench.bnWrite (off : Nat) (v : Word) (b : Bench) : Bench :=
  match off with
  | 0x048 => b.inConfigure fun b => b.setBn fun n => { n with modeCfg := v &&& 3 }
  | 0x04C => b.inConfigure fun b => if 60000 < v.toNat then b else b.setBn fun n => { n with hostTmo := v }
  | 0x010 => b.writeDramCapture v
  | _ => b

/-- A DG_ or HL_ register (R472). -/
def Bench.digestWrite (o : Nat) (v : Word) (b : Bench) : Bench :=
  if o = 0 then b.inConfigure fun b => b.setDigest fun d => { d with cfg := v &&& 0xCF07FFFF }
  else if 0x108 ≤ o && o < 0x300 then
    let p := (o - 0x100) / 8
    b.inConfigure fun b => b.setDigest fun d =>
      if o % 8 = 0 then { d with lo := Tbl.set 0 d.lo p v } else { d with step := Tbl.set 1 d.step p v }
  else b

/-- PE_STICKY_WI and PE_STICKY, W1C (R211). -/
def Bench.stickyWrite (o : Nat) (v : Word) (b : Bench) : Bench :=
  if o = 0x50 then { b with pe := { b.pe with stickyWi := w1c b.pe.stickyWi v } }
  else { b with pe := { b.pe with sticky := upd b.pe.sticky (mkIx 15 ((o - 0x60) / 4)) fun w => w1c w v } }

/-- A write of a register of a bench. -/
def Bench.write (off : Nat) (v : Word) (b : Bench) : Bench :=
  match eventsAt off with
  | some k => { b with ev := upd b.ev k fun w => w1c w v }
  | none =>
    match confMask off with
    | some m => b.confWrite off m v
    | none =>
      if off < 0x01000 then b.bnWrite off v
      else if off = 0x01018 then b.writePaceLim v
      else if off = 0x0101C then b.writePaceRest v
      else if off = 0x02000 then b.writeScCtrl v
      else if 0x02010 ≤ off && off < 0x02030 then b.writeScQcfg (mkIx 7 ((off - 0x02010) / 4)) v
      else if 0x02400 ≤ off && off < 0x02800 then b.writeScFlow ((off - 0x02400) / 4) v
      else if off = 0x04050 || (0x04060 ≤ off && off < 0x040A0) then b.stickyWrite (off - 0x04000) v
      else if off = 0x10008 then
        if b.bn.mode = .configure then { b with rs := { b.rs with cfg := v &&& 1 } } else b
      else if 0x14100 ≤ off && off < 0x14160 then b.quoinWrite (off - 0x14000) v
      else if 0x16000 ≤ off && off < 0x18000 then b.kerfWrite (off - 0x16000) v
      else if 0x18000 ≤ off && off < 0x19000 then b.digestWrite (off - 0x18000) v
      else if off = 0x19000 then b.inConfigure fun b => b.setHealth fun h => { h with cfg := v &&& 0x7FF }
      else if off = 0x1A00C then b.inConfigure fun b => { b with ha := { b.ha with etype := v &&& 0xFFFF } }
      else if off = 0x1C030 then b.setCan 0 fun c => { c with addr := fld v 13 2 * 4 }
      else if off = 0x1D030 then b.setCan 1 fun c => { c with addr := fld v 13 2 * 4 }
      else if off = 0x1E008 then b.writeNlCfg v
      else if 0x22100 ≤ off && off < 0x22500 && off % 0x20 = 0x00 then b.writeFqCfg (mkIx 31 ((off - 0x22100) / 0x20)) v
      else if 0x22100 ≤ off && off < 0x22500 && off % 0x20 = 0x04 then b.writeFqSpill (mkIx 31 ((off - 0x22100) / 0x20)) v
      else if 0x30000 ≤ off && off < 0x30080 then b.queueWrite (off - 0x30000) v
      else if off = 0x30100 then { b with qc := { b.qc with err := w1c b.qc.err v } }
      else if 0x40000 ≤ off && off < 0x80000 then b.pointWrite off v
      else if 0x8C000 ≤ off && off < 0x90000 then b.forceWrite off v
      else b

/-- Writes that have a row of their own and act through it: counters, FIFO ports, MDIO, message RAM. -/
def State.rowWrite (s : State) (n : BenchIx) (off : Nat) (v : Word) : Option (Host.Outcome State Fault Refusal) :=
  match off with
  | 0x0002C => some (execBnCntClr n v s) | 0x01040 => some (execTmCntClr n v s) | 0x02088 => some (execScCntClr n v s)
  | 0x04034 => some (execPeCntClr n v s) | 0x08018 => some (execLeCntClr n v s) | 0x0C01C => some (execMxCntClr n v s)
  | 0x10018 => some (execRsCntClr n v s) | 0x12138 => some (execFcCntClr n v s) | 0x1404C => some (execQnCntClr n v s)
  | 0x16018 => some (execKfCntClr n v s) | 0x18014 => some (execDgCntClr n v s) | 0x19018 => some (execHlCntClr n v s)
  | 0x1A054 => some (execHaCntClr n v s) | 0x1A060 => some (execMdioCmd n v s)
  | 0x1C034 => some (execMrDataAccess n 0 (some v) s) | 0x1D034 => some (execMrDataAccess n 1 (some v) s)
  | 0x1C070 => some (execCnCntClr n 0 v s) | 0x1D070 => some (execCnCntClr n 1 v s)
  | 0x1E034 => some (execNlCntClr n v s) | 0x30114 => some (execQcCntClr n v s)
  | 0x22000 =>
    if fld v 31 28 = 1 then some (execDropRemainder n (mkIx 31 (fld v 4 0)) s)
    else if fld v 31 28 = 2 then some (execFlush n (mkIx 31 (fld v 4 0)) s) else none
  | 0x22008 => some (execFqHostPop n (mkIx 31 (fld v 4 0)) s)
  | _ =>
    if 0x22100 ≤ off && off < 0x22500 && off % 0x20 = 0x18 then some (execFqWr n (mkIx 31 ((off - 0x22100) / 0x20)) v s)
    else if 0x22100 ≤ off && off < 0x22500 && off % 0x20 = 0x1C then some (execFqWrEop n (mkIx 31 ((off - 0x22100) / 0x20)) v s)
    else none

/-! ### Registers of function 0 (R78, R79, R104, R507, R530, R536, R554) -/

/-- Every bench is in CONFIGURE or in WAKE. -/
def State.quiet (s : State) : Bool := s.benches.toList.all fun b => b.bn.mode = .configure || b.bn.mode = .wake

/-- A calendar write (R8, R104): stored with the high word. -/
def State.calendarWrite (v : Word) (s : State) : State :=
  if !s.quiet then s
  else
    let h := s.hub
    let lo := h.fn.low 0x1108 (lo32 h.calNow)
    let fn := { h.fn with lows := Tbl.set none h.fn.lows 0x1108 none }
    { s with hub := { h with calendar := cat64 lo v, calAt := h.up, calValid := true, fn := fn } }

/-- MG_TIME_CTRL takes a value (R78, R79). DESIGN CHOICE (log 55): a REF_MODE that permits an already good reference, or no
longer permits the one selected, leaves each rail's state and selected reference until an edge of a reference is next
decided. A module that becomes a member waits for its first marker from here (R62),
and one that is no member receives none (R75). -/
def Hub.timeCtrlWrite (v : Word) (h : Hub) : Hub :=
  let was := h.syncRole
  let h := { h with timeCtrl := v }
  if h.syncRole ≠ 1 then { h with syncOk := false, syncDown := false }
  else if was ≠ 1 then { h with syncOk := false, syncDown := false, syncAt := h.up }
  else h

/-- OP of a command word, and its target: a mask for OP 2, 3 and 5, else a bench (R535). -/
def bedrockTarget (v : Word) : Nat × Nat :=
  let op := fld v 26 24
  (op, if op = 2 || op = 3 || op = 5 then fld v 15 0 else fld v 19 16)

/-- A write of BD_CMD (R3, R5, R535, R536): it stores OP, BENCH and MASK; with GO it starts the operation named, unless
one is in progress; a target that names no bench, or OP 0, ends at once with RESULT 2 (R537). The row of the operation
brings about its effect. -/
def Hub.bedrockWrite (v : Word) (h : Hub) : Hub :=
  let cmd := v &&& 0x070FFFFF#32
  if bitOf h.bdCmd 31 then { h with bdCmd := cmd ||| at32 1 31 }
  else if !bitOf v 31 then { h with bdCmd := cmd }
  else
    let op := fld cmd 26 24
    if op = 0 || ((op = 2 || op = 3 || op = 5) && fld cmd 15 0 = 0) then
      Hub.vector 1 { h with bdCmd := cmd, bdStat := at32 1 30 ||| at32 2 16 }
    else { h with bdCmd := cmd ||| at32 1 31, bdOp := some (bedrockTarget cmd), bdStat := at32 1 31 }

/-- A write of a register of function 0; offsets of the guard window have a row of their own. -/
def State.mgWrite (off : Nat) (v : Word) (s : State) : State :=
  let h := s.hub
  if 0x100 ≤ off && off < 0x140 then
    if h.mboxBusy then { s with hub := h.mgError 0 }
    else { s with hub := { h with mbox := h.mbox.set! ((off - 0x100) / 4) v } }
  else match off with
  | 0x000C => { s with hub := { h with mgEvents := w1c h.mgEvents v } }
  | 0x0010 => { s with hub := { h with mgErr := w1c h.mgErr v } }
  | 0x1000 =>
    if s.quiet && fld v 5 4 ≠ 3 && fld v 2 0 < 4 then { s with hub := h.timeCtrlWrite (v &&& 0xF37) } else s
  | 0x1004 => { s with hub := { h with syncComp := v &&& 0xFFFF } }
  | 0x1008 => if 8 ≤ v.toNat && v.toNat ≤ 1000 then { s with hub := { h with orderWin := v } } else s
  | 0x1108 => if s.quiet then { s with hub := { h with fn := { h.fn with lows := Tbl.set none h.fn.lows 0x1108 (some v) } } } else s
  | 0x110C => s.calendarWrite v
  | 0x4000 => { s with hub := h.bedrockWrite v }
  | 0x4004 => { s with hub := { h with bdSlot := v &&& 0x3FFF } }
  | 0x8004 => { s with hub := { h with gsEvents := w1c h.gsEvents v } }
  | 0x8008 => { s with hub := { h with gsSel := v &&& 0xF } }
  | _ => s

/-! ### Accesses (R2) -/

/-- A function's part changed. -/
def State.onFn (fn : FnIx) (f : Fn → Fn) (s : State) : State :=
  if fn = 0 then { s with hub := { s.hub with fn := f s.hub.fn } }
  else
    let n : BenchIx := mkIx 15 (fn.val - 1)
    let b := s.bench n
    s.putBench n { b with fn := f b.fn }

/-- An unsupported request: AER, vector 4 of function 0; a read returns all-ones. -/
def State.unsupported (fn : FnIx) (write : Bool) (s : State) : State :=
  let s := s.onFn fn fun f => { f with aer := true, lastRead := if write then f.lastRead else BitVec.allOnes 32 }
  { s with hub := s.hub.vector 4 }

/-- UNSUPPORTED_REQUEST (R2). -/
def execUnsupportedRequest (fn : FnIx) (write : Bool) (s : State) : Host.Outcome State Fault Refusal :=
  .next (s.unsupported fn write)

/-- REGISTER_WRITE (R2 to R6, R8): a write at an offset of BAR0 of a function. -/
def execRegisterWrite (fn : FnIx) (off : Nat) (v : Word) (s : State) : Host.Outcome State Fault Refusal :=
  if off % 4 ≠ 0 then .next (s.unsupported fn true)
  else if fn = 0 then
    if off = 0x8014 then execGsCntClr v s else .next (s.mgWrite off v)
  else
    let n : BenchIx := mkIx 15 (fn.val - 1)
    match s.rowWrite n off v with
    | some r => r
    | none => s.onBench n (Bench.write off v)

/-- A read of the value word of a point entry: the other three words are copied for the function (R36). -/
def Bench.holdPoint (p : Nat) (b : Bench) : Bench :=
  let e := b.point p
  { b with fn := { b.fn with heldPoint := some (p, [some (e.wordAt 4), some (e.wordAt 8), some (e.wordAt 12)]), lastRead := e.value } }

/-- A read of word 0x00 of a run state: words 0x04 to 0x1C are copied for the function (R273). -/
def Bench.holdRun (slot : Fin 16) (b : Bench) : Bench :=
  let l := (List.range 7).map fun i => some (b.runStateWord slot (4 * i + 4))
  { b with fn := { b.fn with heldRun := some (slot.val, l), lastRead := b.runStateWord slot 0 } }

/-- A read of one register by a function (R2, R7, R36, R273): a held word is given once; a low-word read holds the
high word. DESIGN CHOICE (log 9): the one holding register is marked with the low word that filled it, so a low-word read
of another quantity replaces the copy, and the high word of the first then reads live. -/
def State.hostRead (fn : FnIx) (off : Nat) (s : State) : State :=
  if off % 4 ≠ 0 then s.unsupported fn false
  else
    let n : BenchIx := mkIx 15 (fn.val - 1)
    if fn ≠ 0 && 0x40000 ≤ off && off < 0x80000 && off % 16 = 0 then
      s.putBench n ((s.bench n).holdPoint ((off - 0x40000) / 16))
    else if fn ≠ 0 && 0x90000 ≤ off && off < 0x91000 && off % 256 = 0 then
      s.putBench n ((s.bench n).holdRun (mkIx 15 ((off - 0x90000) / 256)))
    else
      let v := s.readWord fn off
      let hi := s.word fn (off + 4)
      s.onFn fn fun f =>
        let f := { f.consumed (fn ≠ 0) off with lastRead := v }
        if lowWord fn off then { f with held := some (off, hi) } else f

/-- LOW_WORD_READ (R7): a read of a low word copies the high word for the function. At the offset of the high word,
or of another word held, it is the read that follows, which takes the copy. -/
def execLowWordRead (fn : FnIx) (off : Nat) (s : State) : Host.Outcome State Fault Refusal := .next (s.hostRead fn off)

/-- POINT_VALUE_READ (R36). -/
def execPointValueRead (bn : BenchIx) (p : Fin 16384) (s : State) : Host.Outcome State Fault Refusal :=
  s.onBench bn (Bench.holdPoint p.val)

/-- RUN_STATE_READ (R273). -/
def execRunStateRead (bn : BenchIx) (slot : Fin 16) (s : State) : Host.Outcome State Fault Refusal :=
  s.onBench bn (Bench.holdRun slot)

/-! ### MSI-X (R533) -/

/-- An entry is unmasked: the vector is sent if it is pending. -/
def Fn.unmask (v : Nat) (f : Fn) : Fn × Bool :=
  ({ f with mask := putBit f.mask v false, pend := putBit f.pend v false }, bitOf f.pend v)

/-- MSIX_UNMASK (R533). -/
def execMsixUnmask (fn : FnIx) (v : Fin 6) (s : State) : Host.Outcome State Fault Refusal :=
  if fn = 0 then
    let r := s.hub.fn.unmask v.val
    .next { s with hub := { s.hub with fn := r.1, sent := if r.2 then s.hub.sent ++ [.vector v.val] else s.hub.sent } }
  else
    s.onBench (mkIx 15 (fn.val - 1)) fun b =>
      if 4 < v.val then b
      else
        let r := b.fn.unmask v.val
        { b with fn := r.1, qc := { b.qc with sent := if r.2 then b.qc.sent ++ [.vector v.val] else b.qc.sent } }

end Sys2Proof.Machine
end

