-- ==== Sys2Proof/Machine/Bedrock.lean ====
section
/-!
DEFINITION. Bedrock commands (R487, R535 to R538): each runs to its end in one step, and DONE sets.
-/
namespace Sys2Proof.Machine

/-- A bench answers its bedrock unit unless its core rail is down or the operand names it as silent (R537). -/
def State.answers (s : State) (noResp : BitVec 16) (n : BenchIx) : Bool := (s.bench n).bn.coreOk && !bitOf noResp n.val

/-- No other operation is in progress: a second GO has no effect (R5). -/
def Hub.bedrockTakes (h : Hub) (op target : Nat) : Bool :=
  match h.bdOp with | some x => x = (op, target) | none => true

/-- The operation ends: BD_CMD as written, GO fallen back (R5); BD_STAT with DONE; BD_NORESP for a bench that did not
answer; vector 1. After a reset of function 0 the result is lost (R505). -/
def Hub.bedrockDone (cmd : Word) (result : Nat) (silent : Word) (h : Hub) : Hub :=
  let cmd := if bitOf h.bdCmd 31 then h.bdCmd &&& 0x7FFFFFFF#32 else cmd
  let h := { h with bdOp := none }
  if h.bdLost then { h with bdCmd := cmd, bdStat := 0, bdLost := false, bdBuf := Vector.replicate 64 0 }
  else
    let h := if silent = 0 then h else h.mgError 1
    Hub.vector 1 { h with bdCmd := cmd, bdStat := at32 1 30 ||| at32 result 16 ||| silent }

/-- The benches of a mask, and those among them that do not answer. -/
def maskList (mask : BitVec 16) : List BenchIx := (List.finRange 16).filter fun n => bitOf mask n.val
def State.silentOf (s : State) (noResp : BitVec 16) (l : List BenchIx) : Word :=
  (l.filter fun n => !s.answers noResp n).foldl (fun w n => putBit w n.val true) 0

/-- An operation on a mask of benches (OP 2, 3, 5): from the write of GO to its end, or the end of the one in
progress. -/
def State.bedrockMask (op : Nat) (mask noResp : BitVec 16) (f : Bench → Bench) (s : State) : State :=
  let cmd := at32 op 24 ||| at32 mask.toNat 0
  if !s.hub.bedrockTakes op mask.toNat then s
  else if mask = 0 then { s with hub := s.hub.bedrockDone cmd 2 0 }
  else
    let l := maskList mask
    let silent := s.silentOf noResp l
    let s := (l.filter fun n => s.answers noResp n).foldl (fun s n => s.putBench n (f (s.bench n))) s
    { s with hub := s.hub.bedrockDone cmd (if silent = 0 then 0 else 1) silent }

/-- An operation on one bench (OP 1, 4, 6, 7); `f` gives the state with its results, and RESULT. -/
def State.bedrockOne (op : Nat) (n : BenchIx) (noResp : BitVec 16) (f : State → State × Nat) (s : State) : State :=
  let cmd := at32 op 24 ||| at32 n.val 16
  if !s.hub.bedrockTakes op n.val then s
  else if s.answers noResp n then
    let r := f s
    { r.1 with hub := r.1.hub.bedrockDone cmd r.2 0 }
  else { s with hub := s.hub.bedrockDone cmd 1 (putBit 0 n.val true) }

/-- Words put into BD_BUF from its start. -/
def Hub.bedrockBuf (l : List Word) (h : Hub) : Hub :=
  { h with bdBuf := (l.zipIdx).foldl (fun v e => v.set! e.2 e.1) h.bdBuf }

/-- READ_STATUS (R535). -/
def execReadStatus (bn : BenchIx) (noResp : BitVec 16) (s : State) : Host.Outcome State Fault Refusal :=
  .next (s.bedrockOne 1 bn noResp fun s =>
    let b := s.bench bn
    ({ s with hub := s.hub.bedrockBuf [b.modeWord, b.bn.holdCause, b.tmStatus s.hub, b.peStatus, b.faceStatus, b.quoinStatus,
      b.nlStatus, b.bn.selftest] }, 0))

/-- A bedrock HOLD trigger: during a transition out of CONFIGURE it waits for its end (Coincidences of chapter 03). -/
def Bench.bedrockHold (cls : Fin 4) (off : Bool) (b : Bench) : Bench :=
  if b.bn.mode = .configure && b.bn.trans.isSome then
    b.setBn fun n => { n with holdWait := n.holdWait ||| 2, holdCls := if n.holdCls < cls then cls else n.holdCls, holdOff := n.holdOff || off }
  else if b.bn.mode = .run || b.bn.mode = .shadow || b.bn.mode = .hold then
    let b := b.enterHold 2 cls
    if off then b.holdDefaults else b
  else b

/-- BEDROCK_HOLD (R535). -/
def execBedrockHold (mask noResp : BitVec 16) (s : State) : Host.Outcome State Fault Refusal :=
  .next (s.bedrockMask 2 mask noResp (Bench.bedrockHold 2 false))

/-- OUTPUTS_OFF (R535): the face holds the hardware defaults of R80 until the bench leaves HOLD. -/
def execOutputsOff (mask noResp : BitVec 16) (s : State) : Host.Outcome State Fault Refusal :=
  .next (s.bedrockMask 3 mask noResp (Bench.bedrockHold 2 true))

/-- BEDROCK_RESET (R83, R535): as a bench reset; fault class hardware. -/
def execBedrockReset (bn : BenchIx) (noResp : BitVec 16) (s : State) : Host.Outcome State Fault Refusal :=
  .next (s.bedrockOne 4 bn noResp fun s => (s.putBench bn ((s.bench bn).resetTo 2), 0))

/-- RELEASE_CUSTODY (R487, R535): outputs disabled, custody released, HOLD; fault class hardware. -/
def execReleaseCustody (mask noResp : BitVec 16) (s : State) : Host.Outcome State Fault Refusal :=
  .next (s.bedrockMask 5 mask noResp (Bench.bedrockHold 3 false))

/-- READ_RECORD (R535, R538): the slot of BD_SLOT; a slot never written holds open words and fails its check. -/
def execReadRecord (bn : BenchIx) (noResp : BitVec 16) (s : State) : Host.Outcome State Fault Refusal :=
  .next (s.bedrockOne 6 bn noResp fun s =>
    match Tbl.get none (s.bench bn).hl.slots (fld s.hub.bdSlot 13 0) with
    | some r => ({ s with hub := s.hub.bedrockBuf (r.take 64) }, if recordOk r then 0 else 3)
    | none =>
      let l := (List.range 64).map fun i => BitVec.ofNat 32 (Config.freeValue 16 (s.hub.free + i))
      ({ s with hub := { s.hub.bedrockBuf l with free := s.hub.free + 64 } }, 3))

/-- READ_TIME (R535). -/
def execReadTime (bn : BenchIx) (noResp : BitVec 16) (s : State) : Host.Outcome State Fault Refusal :=
  .next (s.bedrockOne 7 bn noResp fun s =>
    let b := s.bench bn
    ({ s with hub := s.hub.bedrockBuf [lo32 s.hub.mref, hi32 s.hub.mref, lo32 b.rail.now, hi32 b.rail.now, b.tmStatus s.hub] }, 0))

end Sys2Proof.Machine
end

