-- ==== Sys2Proof/Machine/Operands.lean ====
section
/-!
DEFINITION. Operands of Coith instructions: registers and pairs, instance addresses with their checks,
and the way on to the next instruction (R187, R194 to R197).
-/
namespace Sys2Proof.Machine

/-- W0 reads 0; the others as they stand. -/
def Core.reg (c : Core) (r : Reg) : Word := if r = 0 then 0 else c.w[r]
/-- A write to W0 is discarded. -/
def Core.setReg (r : Reg) (v : Word) (c : Core) : Core := if r = 0 then c else { c with w := c.w.set r v }
/-- The second register of a pair (R187). -/
def pairHi (r : Reg) : Reg := mkIx 31 (r.val + 1)
/-- A pair as a 64-bit number, low word in the first register. -/
def Core.pair (c : Core) (r : Reg) : Nat := cat64 (c.reg r) (c.reg (pairHi r))
def Core.setPair (r : Reg) (v : Nat) (c : Core) : Core := (c.setReg r (lo32 v)).setReg (pairHi r) (hi32 v)
def Core.pairInt (c : Core) (r : Reg) : Int := sext 64 (c.pair r)
/-- Sticky flags set in CS at once (R204). -/
def Core.flag (f : Sticky) (c : Core) : Core := { c with sticky := c.sticky ||| f }

/-- The way on to address `next` (R196): at the end of a body the loop runs again or ends. -/
def goOn (next : Nat) : List LoopFrame → Core → Core
  | [], c => { c with pc := next, loops := [] }
  | f :: r, c =>
    if next = f.after then
      if f.j + 1 < f.count then
        Core.setReg f.reg (BitVec.ofNat 32 (f.j + 1)) { c with pc := f.first, loops := { f with j := f.j + 1 } :: r }
      else goOn next r c
    else { c with pc := next, loops := f :: r }

/-- On to the next instruction word. -/
def Core.step4 (c : Core) : Core := goOn (c.pc + 4) c.loops c

/-- A branch taken: loops whose body does not hold the target end (R196). -/
def Core.branch (target : Nat) (c : Core) : Core :=
  { c with pc := target, loops := c.loops.dropWhile fun f => target < f.first || f.after ≤ target }

/-- LOOP (R196): iteration 0 begins. -/
def Core.beginLoop (d : Reg) (count len : Nat) (c : Core) : Core :=
  Core.setReg d 0 { c with
    pc := c.pc + 4,
    loops := { first := c.pc + 4, after := c.pc + 4 + 4 * len, j := 0, count := count, reg := d } :: c.loops }

/-- CALL (R197). -/
def Core.call (entry ip size : Nat) (c : Core) : Core :=
  { c with pc := entry, ip := ip, size := size, loops := [],
           calls := { pc := c.pc + 4, ip := c.ip, size := c.size, loops := c.loops } :: c.calls }

/-- RET (R197). -/
def Core.ret (c : Core) : Core :=
  match c.calls with
  | [] => c
  | f :: r => goOn f.pc f.loops { c with ip := f.ip, size := f.size, calls := r }

/-- Condition of BR on Wa (R195). -/
def brHolds (c : BrCond) (a : Word) : Bool :=
  match c with
  | .always => true | .zero => a = 0 | .nonzero => a ≠ 0 | .neg => s32 a < 0
  | .nonneg => 0 ≤ s32 a | .pos => 0 < s32 a | .nonpos => s32 a ≤ 0

/-- What a run-time check of an address finds (R194, R205). -/
inductive Access where
  | good (addr : Nat)
  | bounds (addr : Nat)
  | align (addr : Nat)
  deriving DecidableEq, Repr

/-- An access of n bytes at an address, inside [lo, lo + len) and naturally aligned; BOUNDS comes first. -/
def checkAccess (lo len addr n : Nat) : Access :=
  if addr < lo || lo + len < addr + n then .bounds addr
  else if addr % n ≠ 0 then .align addr
  else .good addr

/-- The image's instance area. -/
def Prog.area (p : Prog) : Nat × Nat := match p.cur with | some i => (i.instBase, i.instSize) | none => (0, 0)

/-- M format: BASE 0 is the current instance, any other the instance area (R194). -/
def Bench.addrM (b : Bench) (c : Core) (base : Reg) (off : BitVec 16) (n : Nat) : Access :=
  if base = 0 then checkAccess c.ip c.size (c.ip + off.toNat) n
  else checkAccess b.pe.area.1 b.pe.area.2 ((c.reg base).toNat + off.toNat) n

/-- LDX and STX (R194). -/
def Bench.addrX (b : Bench) (c : Core) (a i : Reg) (scale n : Nat) : Access :=
  let o := (c.reg i).toNat * 2 ^ scale
  if a = 0 then checkAccess c.ip c.size (c.ip + o) n
  else checkAccess b.pe.area.1 b.pe.area.2 ((c.reg a).toNat + o) n

/-- Bytes of an element by FUNC [1:0]: word, halfword, pair. -/
def elemSize (f : Fin 3) : Nat := match f with | 0 => 4 | 1 => 2 | 2 => 8

/-- An element loaded: a word, a sign-extended halfword, or a pair. -/
def Core.loadElem (f : Fin 3) (d : Reg) (v : Nat) (c : Core) : Core :=
  match f with
  | 0 => c.setReg d (BitVec.ofNat 32 v)
  | 1 => c.setReg d (ofS (sext 16 v))
  | 2 => c.setPair d v

/-- The element a store takes from Wd or pair Wd. -/
def Core.storeElem (f : Fin 3) (d : Reg) (c : Core) : Nat :=
  match f with
  | 0 => (c.reg d).toNat
  | 1 => (c.reg d).toNat % 65536
  | 2 => c.pair d

/-- CS as CSR reads it (R203). -/
def Core.cs (k : Fin 4) (c : Core) : Word :=
  let top := match c.run with | .segment t _ => at32 t.val 28 | .item _ => at32 1 27 | .idle => 0
  top ||| at32 k.val 24 ||| c.sticky.setWidth 32

end Sys2Proof.Machine
end

