-- ==== Sys2Proof/Machine/Coith.lean ====
section
/-!
DEFINITION. The Coith instructions (R186 to R205). A row is one instruction executed by one core: it acts
if the core runs a segment or a handler, with the core's PC, registers and instance as they stand.
-/
namespace Sys2Proof.Machine

/-- The core runs something. -/
def Core.busy (c : Core) : Bool := c.run ≠ .idle

/-! ### Core faults (R205, R212) -/

def causeBounds : Nat := 1
def causeAlign : Nat := 2
def causeCheck : Nat := 3
def causeMemory : Nat := 4
def causeOpenPacket : Nat := 5

/-- The fault registers and CORE_FAULT (R205, R211, R212); the address of a fault that has none is open. -/
def Bench.recordFault (k : Fin 4) (cause code addr : Nat) (b : Bench) : Bench :=
  let c := b.cores[k]
  let cs := c.cs k
  let info := at32 1 31 ||| at32 (fld cs 31 28) 24 ||| at32 (fld cs 27 27) 23 ||| at32 k.val 20 ||| at32 code 8 ||| at32 cause 0
  let a := if cause = causeBounds || cause = causeAlign || cause = causeMemory then (addr, b) else b.fresh
  let b := a.2.health 4
  Bench.raise 4 5 0 0 0 { b with pe := { b.pe with
    faultInfo := info, faultPc := at32 (c.pc % 2 ^ 20) 0, faultCnt := inc b.pe.faultCnt,
    faultAddr := at32 (a.1 % 2 ^ 22) 0 } }

/-- The held results of an ordered item are discarded; its slot stands until its position is released, empty
(R119, R121, R205). -/
def Bench.dropResult (i : Item) (b : Bench) : Bench :=
  { b with sc := { b.sc with results := b.sc.results.map fun r =>
      if r.flow = i.flow && r.seq = i.seq then { r with done := true, effects := [] } else r } }

/-- A core fault ends the running segment or handler (R205): a segment trips its task's watchdog, the command of a handler of
source 0 completes with CHECK_FAILED. -/
def Bench.coreFault (k : Fin 4) (cause code addr : Nat) (b : Bench) : Bench :=
  let c := b.cores[k]
  let b := (b.recordFault k cause code addr).faultStop k
  match c.run with
  | .segment t _ => b.watchdogTrip t
  | .item i => (if i.ord then b.dropResult i else b).endHostItem .checkFailed i
  | .idle => b

/-! ### Execution (R186, R187) -/

/-- The word at a core's PC in the current code slot, if the image has one there (R187). -/
def Bench.codeWord (b : Bench) (c : Core) : Option Word :=
  match b.pe.cur with | some i => if c.pc % 4 = 0 then i.code[c.pc / 4]? else none | none => none

/-- The core runs, and the word at its PC spells the instruction (R187). DESIGN CHOICE (log 6): where the image gives no
word there, the row itself names the instruction. -/
def Bench.spells (b : Bench) (k : CoreRef) (i : Instr) : Bool :=
  let c := b.cores[k.core]
  c.busy && (match b.codeWord c with | some w => coithDecode k w = some i | none => true)

/-- The outcome of an instruction of a core: f of the bench and the core, if the core runs it; a MEMORY fault where one of
its reads fails (R205). -/
def State.onCore (k : CoreRef) (i : Instr) (f : Core → Bench → Bench) (s : State) : Host.Outcome State Fault Refusal :=
  s.onBench k.bench fun b =>
    if b.spells k i then
      match k.memory with
      | some a => b.coreFault k.core causeMemory 0 a
      | none => f b.cores[k.core] b
    else b

/-- An instruction that changes its own core only, then goes on. -/
def State.coreOp (k : CoreRef) (i : Instr) (f : Core → Core) (s : State) : Host.Outcome State Fault Refusal :=
  s.onCore k i fun c b => b.setCore k.core (f c).step4

/-- Result and sticky flags of an operation written to Wd. -/
def Core.put (d : Reg) (r : Word × Sticky) (c : Core) : Core := (c.setReg d r.1).flag r.2
/-- Result and sticky flags of an operation on the accumulator. -/
def Core.putA (r : BitVec 40 × Sticky) (c : Core) : Core := Core.flag r.2 { c with a := r.1 }

/-! ### Integer and logic -/

/-- NOP (R189): opcode 0x00 does nothing. -/
def execCoithNop (k : CoreRef) (s : State) : Host.Outcome State Fault Refusal := s.coreOp k (.coithNop k) fun c => c
/-- ADD (R190): opcode 0x01 adds, with optional halfword and saturation. -/
def execCoithAdd (k : CoreRef) (d a b : Reg) (h sat : Bool) (s : State) : Host.Outcome State Fault Refusal :=
  s.coreOp k (.coithAdd k d a b h sat) fun c => c.put d (aluAdd false h sat (c.reg a) (c.reg b))
/-- SUB (R190): opcode 0x02 subtracts, with optional halfword and saturation. -/
def execCoithSub (k : CoreRef) (d a b : Reg) (h sat : Bool) (s : State) : Host.Outcome State Fault Refusal :=
  s.coreOp k (.coithSub k d a b h sat) fun c => c.put d (aluAdd true h sat (c.reg a) (c.reg b))
/-- ADDI (R189): opcode 0x03 adds a sign-extended immediate, wrapping. -/
def execCoithAddi (k : CoreRef) (d a : Reg) (imm : BitVec 16) (s : State) : Host.Outcome State Fault Refusal :=
  s.coreOp k (.coithAddi k d a imm) fun c => c.setReg d (c.reg a + imm.signExtend 32)
/-- MUL (R190): opcode 0x04 multiplies. -/
def execCoithMul (k : CoreRef) (d a b : Reg) (h sat : Bool) (s : State) : Host.Outcome State Fault Refusal :=
  s.coreOp k (.coithMul k d a b h sat) fun c => c.put d (aluMul h sat (c.reg a) (c.reg b))
/-- DIV (R190): opcode 0x05 divides signed, with the division-by-zero rules. -/
def execCoithDiv (k : CoreRef) (d a b : Reg) (s : State) : Host.Outcome State Fault Refusal :=
  s.coreOp k (.coithDiv k d a b) fun c => c.put d (aluDiv (c.reg a) (c.reg b))
/-- REM (R190): opcode 0x06 gives the signed remainder. -/
def execCoithRem (k : CoreRef) (d a b : Reg) (s : State) : Host.Outcome State Fault Refusal :=
  s.coreOp k (.coithRem k d a b) fun c => c.put d (aluRem (c.reg a) (c.reg b))
/-- ABS (R190): opcode 0x07 gives the absolute value or the negation. -/
def execCoithAbs (k : CoreRef) (d a : Reg) (neg h sat : Bool) (s : State) : Host.Outcome State Fault Refusal :=
  s.coreOp k (.coithAbs k d a neg h sat) fun c => c.put d (aluAbs neg h sat (c.reg a))
/-- AND (R189): opcode 0x08 gives the bitwise and. -/
def execCoithAnd (k : CoreRef) (d a b : Reg) (s : State) : Host.Outcome State Fault Refusal :=
  s.coreOp k (.coithAnd k d a b) fun c => c.setReg d (c.reg a &&& c.reg b)
/-- OR (R189): opcode 0x09 gives the bitwise or. -/
def execCoithOr (k : CoreRef) (d a b : Reg) (s : State) : Host.Outcome State Fault Refusal :=
  s.coreOp k (.coithOr k d a b) fun c => c.setReg d (c.reg a ||| c.reg b)
/-- XOR (R189): opcode 0x0A gives the bitwise xor. -/
def execCoithXor (k : CoreRef) (d a b : Reg) (s : State) : Host.Outcome State Fault Refusal :=
  s.coreOp k (.coithXor k d a b) fun c => c.setReg d (c.reg a ^^^ c.reg b)
/-- ANDI (R189): opcode 0x0B ands with a zero-extended immediate. -/
def execCoithAndi (k : CoreRef) (d a : Reg) (imm : BitVec 16) (s : State) : Host.Outcome State Fault Refusal :=
  s.coreOp k (.coithAndi k d a imm) fun c => c.setReg d (c.reg a &&& imm.setWidth 32)
/-- ORI (R189): opcode 0x0C ors with a zero-extended immediate. -/
def execCoithOri (k : CoreRef) (d a : Reg) (imm : BitVec 16) (s : State) : Host.Outcome State Fault Refusal :=
  s.coreOp k (.coithOri k d a imm) fun c => c.setReg d (c.reg a ||| imm.setWidth 32)
/-- XORI (R189): opcode 0x0D xors with a zero-extended immediate. -/
def execCoithXori (k : CoreRef) (d a : Reg) (imm : BitVec 16) (s : State) : Host.Outcome State Fault Refusal :=
  s.coreOp k (.coithXori k d a imm) fun c => c.setReg d (c.reg a ^^^ imm.setWidth 32)
/-- LUI (R189): opcode 0x0E loads an immediate into the upper half. -/
def execCoithLui (k : CoreRef) (d : Reg) (imm : BitVec 16) (s : State) : Host.Outcome State Fault Refusal :=
  s.coreOp k (.coithLui k d imm) fun c => c.setReg d (imm.setWidth 32 <<< (16 : Nat))
/-- SHF (R189): opcode 0x0F shifts or rotates. -/
def execCoithShf (k : CoreRef) (d a b : Reg) (op : Fin 4) (byReg : Bool) (amt : Fin 32) (s : State) :
    Host.Outcome State Fault Refusal :=
  s.coreOp k (.coithShf k d a b op byReg amt) fun c => c.setReg d (aluShift op (c.reg a) (if byReg then (c.reg b).toNat % 32 else amt.val))
/-- BIT (R189): opcode 0x10 extracts or inserts a bit field. -/
def execCoithBit (k : CoreRef) (d a : Reg) (ins : Bool) (pos width1 : Fin 32) (s : State) :
    Host.Outcome State Fault Refusal :=
  s.coreOp k (.coithBit k d a ins pos width1) fun c => c.setReg d (if ins then aluInsert (c.reg d) (c.reg a) pos.val (width1.val + 1)
                                  else aluExtract (c.reg a) pos.val (width1.val + 1))
/-- MINMAX (R189): opcode 0x11 gives the signed minimum or maximum. -/
def execCoithMinmax (k : CoreRef) (d a b : Reg) (max h : Bool) (s : State) : Host.Outcome State Fault Refusal :=
  s.coreOp k (.coithMinmax k d a b max h) fun c =>
    let x := operand h (c.reg a)
    let y := operand h (c.reg b)
    c.setReg d (ofS (if max then (if x < y then y else x) else (if y < x then y else x)))
/-- CMP (R189): opcode 0x12 compares two registers into a BOOL. -/
def execCoithCmp (k : CoreRef) (d a b : Reg) (cond : Cond) (s : State) : Host.Outcome State Fault Refusal :=
  s.coreOp k (.coithCmp k d a b cond) fun c => c.setReg d (boolWord (condHolds cond (c.reg a) (c.reg b)))
/-- CMPI (R189): opcode 0x13 compares a register with an immediate into a BOOL. -/
def execCoithCmpi (k : CoreRef) (d a : Reg) (cond : Cond) (imm : BitVec 13) (s : State) :
    Host.Outcome State Fault Refusal :=
  s.coreOp k (.coithCmpi k d a cond imm) fun c => c.setReg d (boolWord (condHolds cond (c.reg a) (imm.signExtend 32)))
/-- SEL (R189): opcode 0x14 selects one of two registers on a condition. -/
def execCoithSel (k : CoreRef) (d a b c : Reg) (s : State) : Host.Outcome State Fault Refusal :=
  s.coreOp k (.coithSel k d a b c) fun x => x.setReg d (if x.reg c ≠ 0 then x.reg a else x.reg b)
/-- LIM (R190): opcode 0x15 limits a value to a register-pair range. -/
def execCoithLim (k : CoreRef) (d a b : Reg) (h : Bool) (s : State) : Host.Outcome State Fault Refusal :=
  s.coreOp k (.coithLim k d a b h) fun c =>
    let x := operand h (c.reg a)
    let lo := operand h (c.reg b)
    let hi := operand h (c.reg (pairHi b))
    let m := if hi < x then hi else x
    c.setReg d (ofS (if m < lo then lo else m))

/-! ### Fixed point (R191) -/

/-- QMUL (R191): opcode 0x16 forms a rounded Q15 product. -/
def execCoithQmul (k : CoreRef) (d a b : Reg) (s : State) : Host.Outcome State Fault Refusal :=
  s.coreOp k (.coithQmul k d a b) fun c => c.put d (aluQmul (c.reg a) (c.reg b))
/-- MPY (R191): opcode 0x17 loads the accumulator with a Q30 product. -/
def execCoithMpy (k : CoreRef) (a b : Reg) (neg : Bool) (s : State) : Host.Outcome State Fault Refusal :=
  s.coreOp k (.coithMpy k a b neg) fun c =>
    let p := prodQ30 (c.reg a) (c.reg b)
    c.putA (accClip (if neg then -p else p))
/-- MAC (R191): opcode 0x18 adds or subtracts a product to the accumulator with clipping. -/
def execCoithMac (k : CoreRef) (a b : Reg) (sub : Bool) (s : State) : Host.Outcome State Fault Refusal :=
  s.coreOp k (.coithMac k a b sub) fun c =>
    let p := prodQ30 (c.reg a) (c.reg b)
    c.putA (accClip (if sub then accInt c.a - p else accInt c.a + p))
/-- LDA (R191): opcode 0x19 loads or clears the accumulator. -/
def execCoithLda (k : CoreRef) (a : Reg) (f : Fin 4) (s : State) : Host.Outcome State Fault Refusal :=
  s.coreOp k (.coithLda k a f) fun c =>
    match f with
    | 0 => c.putA (accClip (c.pairInt a))
    | 1 => c.putA (accClip (s16 (c.reg a) * 2 ^ 15))
    | 2 => c.putA (accClip (s32 (c.reg a)))
    | 3 => c.putA (0, 0)
/-- SAC (R191): opcode 0x1A stores the scaled and rounded accumulator to a register. -/
def execCoithSac (k : CoreRef) (d : Reg) (q30 : Bool) (sh : BitVec 5) (s : State) : Host.Outcome State Fault Refusal :=
  s.coreOp k (.coithSac k d q30 sh) fun c => c.put d (aluSac q30 sh.toInt c.a)
/-- STA (R189): opcode 0x1B stores the sign-extended accumulator to a register pair. -/
def execCoithSta (k : CoreRef) (d : Reg) (s : State) : Host.Outcome State Fault Refusal :=
  s.coreOp k (.coithSta k d) fun c => c.setPair d (c.a.signExtend 64).toNat
/-- ASH (R191): opcode 0x1C shifts the accumulator with rounding or clipping. -/
def execCoithAsh (k : CoreRef) (sh : BitVec 6) (s : State) : Host.Outcome State Fault Refusal :=
  s.coreOp k (.coithAsh k sh) fun c => c.putA (aluAsh sh.toInt c.a)
/-- CLS (R189): opcode 0x1D counts redundant sign bits. -/
def execCoithCls (k : CoreRef) (d a : Reg) (ofReg : Bool) (s : State) : Host.Outcome State Fault Refusal :=
  s.coreOp k (.coithCls k d a ofReg) fun c => c.setReg d (BitVec.ofNat 32 (if ofReg then signBits (c.reg a) 31 else signBits c.a 39))
/-- MAC2 (R191): opcode 0x3C adds a dual halfword product to the accumulator. -/
def execCoithMac2 (k : CoreRef) (a b : Reg) (s : State) : Host.Outcome State Fault Refusal :=
  s.coreOp k (.coithMac2 k a b) fun c =>
    let x := c.reg a
    let y := c.reg b
    c.putA (accClip (accInt c.a + (s16 x * s16 y + sext 16 (fld x 31 16) * sext 16 (fld y 31 16))))

/-! ### binary32 (R192) and TIME64 (R193) -/

/-- FADD (R192): opcode 0x1E adds or subtracts binary32 values. -/
def execCoithFadd (k : CoreRef) (d a b : Reg) (sub : Bool) (s : State) : Host.Outcome State Fault Refusal :=
  s.coreOp k (.coithFadd k d a b sub) fun c => c.put d (fltAdd sub (c.reg a) (c.reg b))
/-- FMUL (R192): opcode 0x1F multiplies binary32 values. -/
def execCoithFmul (k : CoreRef) (d a b : Reg) (s : State) : Host.Outcome State Fault Refusal :=
  s.coreOp k (.coithFmul k d a b) fun c => c.put d (fltMul (c.reg a) (c.reg b))
/-- FDIV (R192): opcode 0x20 divides binary32 values. -/
def execCoithFdiv (k : CoreRef) (d a b : Reg) (s : State) : Host.Outcome State Fault Refusal :=
  s.coreOp k (.coithFdiv k d a b) fun c => c.put d (fltDiv (c.reg a) (c.reg b))
/-- FSQRT (R192): opcode 0x21 gives a binary32 square root. -/
def execCoithFsqrt (k : CoreRef) (d a : Reg) (s : State) : Host.Outcome State Fault Refusal :=
  s.coreOp k (.coithFsqrt k d a) fun c => c.put d (fltSqrt (c.reg a))
/-- FCMP (R192): opcode 0x22 compares binary32 values quietly. -/
def execCoithFcmp (k : CoreRef) (d a b : Reg) (op : Fin 4) (s : State) : Host.Outcome State Fault Refusal :=
  s.coreOp k (.coithFcmp k d a b op) fun c => c.setReg d (boolWord (fltCmp op (c.reg a) (c.reg b)))
/-- FCVT (R192): opcode 0x23 converts between binary32 and INT32 or Q15. -/
def execCoithFcvt (k : CoreRef) (d a : Reg) (op : Fin 4) (s : State) : Host.Outcome State Fault Refusal :=
  s.coreOp k (.coithFcvt k d a op) fun c => c.put d (fltCvt op (c.reg a))
/-- FMISC (R192): opcode 0x24 gives binary32 abs, negate, min or max. -/
def execCoithFmisc (k : CoreRef) (d a b : Reg) (op : Fin 4) (s : State) : Host.Outcome State Fault Refusal :=
  s.coreOp k (.coithFmisc k d a b op) fun c => c.setReg d (fltMisc op (c.reg a) (c.reg b))
/-- TADD (R193): opcode 0x25 adds or subtracts TIME64 values with clipping. -/
def execCoithTadd (k : CoreRef) (d a b : Reg) (sub : Bool) (s : State) : Host.Outcome State Fault Refusal :=
  s.coreOp k (.coithTadd k d a b sub) fun c =>
    let r := timeAdd sub (c.pairInt a) (c.pairInt b)
    (c.setPair d (BitVec.ofInt 64 r.1).toNat).flag r.2
/-- TCMP (R193): opcode 0x26 compares TIME64 values. -/
def execCoithTcmp (k : CoreRef) (d a b : Reg) (op : Fin 4) (s : State) : Host.Outcome State Fault Refusal :=
  s.coreOp k (.coithTcmp k d a b op) fun c => c.setReg d (boolWord (timeCmp op (c.pairInt a) (c.pairInt b)))

/-- The value RDT reads (R193): rail now, I(k), O(k), dispatch stamp; I(k) and O(k) are 0 outside a cyclic task.
DESIGN CHOICE (log 55): the dispatch stamp is the STAMP that dispatch loads into W5 and W6 (R107), not the rail value of the
dispatch. -/
def Bench.rdt (b : Bench) (c : Core) (op : Fin 4) : Nat :=
  match op, c.run with
  | 0, _ => b.rail.now
  | 1, .segment t _ => if t = 0 then 0 else b.pe.runs[t].ik
  | 2, .segment t _ => if t = 0 then 0 else b.pe.runs[t].ok
  | 3, _ => c.stamp
  | _, _ => 0
/-- RDT (R193): opcode 0x27 reads the rail now, I(k), O(k) or the dispatch stamp. -/
def execCoithRdt (k : CoreRef) (d : Reg) (op : Fin 4) (s : State) : Host.Outcome State Fault Refusal :=
  s.onCore k (.coithRdt k d op) fun c b => b.setCore k.core (c.setPair d (b.rdt c op)).step4

/-! ### Memory (R194) -/

/-- A load or store whose address has been checked: done, or a core fault without a transfer (R194). -/
def Bench.access (k : Fin 4) (x : Access) (f : Nat → Bench) (b : Bench) : Bench :=
  match x with
  | .good a => f a
  | .bounds a => b.coreFault k causeBounds 0 a
  | .align a => b.coreFault k causeAlign 0 a

/-- A load of one element. -/
def Bench.loadAt (k : Fin 4) (c : Core) (f : Fin 3) (d : Reg) (x : Access) (b : Bench) : Bench :=
  b.access k x fun a => b.setCore k (c.loadElem f d (b.load a (elemSize f))).step4

/-- A store of one element. -/
def Bench.storeAt (k : Fin 4) (c : Core) (f : Fin 3) (d : Reg) (x : Access) (b : Bench) : Bench :=
  b.access k x fun a => (b.store a (elemSize f) (c.storeElem f d)).setCore k c.step4

/-- LDW (R194): opcode 0x28 loads a word from instance memory. -/
def execCoithLdw (k : CoreRef) (d base : Reg) (off : BitVec 16) (s : State) : Host.Outcome State Fault Refusal :=
  s.onCore k (.coithLdw k d base off) fun c b => b.loadAt k.core c 0 d (b.addrM c base off 4)
/-- LDH (R194): opcode 0x29 loads a sign-extended halfword. -/
def execCoithLdh (k : CoreRef) (d base : Reg) (off : BitVec 16) (s : State) : Host.Outcome State Fault Refusal :=
  s.onCore k (.coithLdh k d base off) fun c b => b.loadAt k.core c 1 d (b.addrM c base off 2)
/-- LDD (R194): opcode 0x2A loads a doubleword indivisibly. -/
def execCoithLdd (k : CoreRef) (d base : Reg) (off : BitVec 16) (s : State) : Host.Outcome State Fault Refusal :=
  s.onCore k (.coithLdd k d base off) fun c b => b.loadAt k.core c 2 d (b.addrM c base off 8)
/-- STW (R194): opcode 0x2B stores a word. -/
def execCoithStw (k : CoreRef) (d base : Reg) (off : BitVec 16) (s : State) : Host.Outcome State Fault Refusal :=
  s.onCore k (.coithStw k d base off) fun c b => b.storeAt k.core c 0 d (b.addrM c base off 4)
/-- STH (R194): opcode 0x2C stores a halfword. -/
def execCoithSth (k : CoreRef) (d base : Reg) (off : BitVec 16) (s : State) : Host.Outcome State Fault Refusal :=
  s.onCore k (.coithSth k d base off) fun c b => b.storeAt k.core c 1 d (b.addrM c base off 2)
/-- STD (R194): opcode 0x2D stores a doubleword indivisibly. -/
def execCoithStd (k : CoreRef) (d base : Reg) (off : BitVec 16) (s : State) : Host.Outcome State Fault Refusal :=
  s.onCore k (.coithStd k d base off) fun c b => b.storeAt k.core c 2 d (b.addrM c base off 8)
/-- LDX (R194): opcode 0x2E loads an indexed element. -/
def execCoithLdx (k : CoreRef) (d a b : Reg) (f : Fin 3) (scale : Fin 4) (s : State) :
    Host.Outcome State Fault Refusal :=
  s.onCore k (.coithLdx k d a b f scale) fun c x => x.loadAt k.core c f d (x.addrX c a b scale.val (elemSize f))
/-- STX (R194): opcode 0x2F stores an indexed element. -/
def execCoithStx (k : CoreRef) (d a b : Reg) (f : Fin 3) (scale : Fin 4) (s : State) :
    Host.Outcome State Fault Refusal :=
  s.onCore k (.coithStx k d a b f scale) fun c x => x.storeAt k.core c f d (x.addrX c a b scale.val (elemSize f))

/-! ### Control flow (R195 to R198) -/

/-- BR (R195): opcode 0x30 branches forward on a condition. -/
def execCoithBr (k : CoreRef) (a : Reg) (cond : BrCond) (off : BitVec 18) (s : State) : Host.Outcome State Fault Refusal :=
  s.onCore k (.coithBr k a cond off) fun c b => b.setCore k.core (if brHolds cond (c.reg a) then c.branch (c.pc + 4 * off.toNat) else c.step4)
/-- LOOP (R196): opcode 0x31 runs a counted loop body. -/
def execCoithLoop (k : CoreRef) (d : Reg) (count1 : Fin 4096) (len : Fin 512) (s : State) :
    Host.Outcome State Fault Refusal :=
  s.onCore k (.coithLoop k d count1 len) fun c b => b.setCore k.core (c.beginLoop d (count1.val + 1) len.val)

/-- The function-block entry of the current image. -/
def Prog.fb (p : Prog) (n : Nat) : Option FbImg := match p.cur with | some i => i.fbs[n]? | none => none
/-- CALL (R197): opcode 0x32 calls a function block, pushing a frame. -/
def execCoithCall (k : CoreRef) (fb : Fin 1024) (ioff : BitVec 16) (s : State) : Host.Outcome State Fault Refusal :=
  s.onCore k (.coithCall k fb ioff) fun c b =>
    match b.pe.fb fb.val with
    | some x => b.setCore k.core (c.call x.entry (c.ip + 16 * ioff.toNat) x.size)
    | none => b
/-- RET (R197): opcode 0x33 returns from a function block. -/
def execCoithRet (k : CoreRef) (s : State) : Host.Outcome State Fault Refusal :=
  s.onCore k (.coithRet k) fun c b => b.setCore k.core c.ret

/-- The effects that the ordered item of a core holds. -/
def Bench.held (b : Bench) (i : Item) : List Effect :=
  match b.sc.results.find? (fun r => r.flow = i.flow && r.seq = i.seq) with
  | some r => r.effects
  | none => []

/-- A FIFO packet is open on this core (R205). -/
def Bench.packetOpen (b : Bench) (k : Fin 4) (c : Core) : Bool :=
  b.fq.f.toList.any (fun f => f.wrOpen && f.wrCore = some k) ||
  match c.run with
  | .item i => i.ord && (List.finRange 32).any fun n => heldOpen n (b.held i)
  | _ => false

/-- A slot whose flags were set while it ran is ready from its completion (R111). -/
def Bench.slotDone (n : Fin 64) (b : Bench) : Bench :=
  match b.pe.slotImg n with
  | some x =>
    let st := Tbl.get {} b.sc.slots n.val
    if slotReady x st.flags then
      { b with sc := { b.sc with slots := Tbl.set {} b.sc.slots n.val { st with readyAt := b.rail.now } } }
    else b
  | none => b

/-- END (R198, R204, R121). -/
def Bench.endRun (k : Fin 4) (c : Core) (b : Bench) : Bench :=
  if b.packetOpen k c then b.coreFault k causeOpenPacket 0 0
  else
    let b := (b.mergeSticky c).setCore k { c with run := .idle, loops := [], calls := [] }
    match c.run with
    | .segment _ n => b.slotDone n
    | .item i =>
      if i.ord then
        { b with sc := { b.sc with results := b.sc.results.map fun r =>
            if r.flow = i.flow && r.seq = i.seq then { r with done := true } else r } }
      else b
    | .idle => b
/-- END (R198): opcode 0x34 ends a segment or handler and merges its sticky flags. -/
def execCoithEnd (k : CoreRef) (s : State) : Host.Outcome State Fault Refusal :=
  s.onCore k (.coithEnd k) fun c b => b.endRun k.core c

/-! ### Communication (R199 to R202) -/

def rcDone : Word := 0
def rcFull : Word := 1
def rcDenied : Word := 2
def rcSlotOvf : Word := 3
def rcLocked : Word := 4
def rcMode : Word := 5

/-- The result code goes to Wd and the core goes on. -/
def Bench.result (k : Fin 4) (d : Reg) (rc : Word) (b : Bench) : Bench :=
  b.setCore k (b.cores[k].setReg d rc).step4

/-- A slot's task is enabled (R200). -/
def Bench.taskEnabled (b : Bench) (t : Fin 16) : Bool :=
  if t = 0 then (b.pe.cur.bind (·.err)).isSome else b.pe.tasks[t].en

/-- SETF may name this slot (R145, R200). -/
def Bench.maySetf (b : Bench) (c : Core) (n : Fin 64) : Bool :=
  match b.pe.slotImg n, c.run with
  | some x, .segment t _ => x.task = t && b.taskEnabled x.task
  | some x, .item _ => x.task ≠ 0 && b.taskEnabled x.task
  | _, _ => false
/-- SETF (R200): opcode 0x35 sets flags in an event-flag slot. -/
def execCoithSetf (k : CoreRef) (d a : Reg) (slot : Fin 64) (s : State) : Host.Outcome State Fault Refusal :=
  s.onCore k (.coithSetf k d a slot) fun c b =>
    if b.maySetf c slot then (b.setFlags slot (c.reg a)).result k.core d rcDone else b.result k.core d rcDenied

/-- Room that an effect list takes in a result slot (R120). -/
def effectBytes : List Effect → Nat
  | [] => 0
  | .point _ _ _ _ :: r => 16 + effectBytes r
  | .fifo _ _ _ :: r => 4 + effectBytes r
  | .post _ :: r => 32 + effectBytes r

/-- The whole content of a result slot: each FIFO written takes 4 bytes once (R120). -/
def slotBytes (l : List Effect) : Nat :=
  effectBytes l + 4 * ((List.finRange 32).filter fun n => !(heldWords n l).isEmpty).length

/-- An effect of an ordered item is held, or refused beyond 256 bytes (R120). -/
def Bench.hold (k : Fin 4) (d : Reg) (i : Item) (e : Effect) (b : Bench) : Bench :=
  if 256 < slotBytes (b.held i ++ [e]) then (b.count 8).result k d rcSlotOvf
  else
    let results := b.sc.results.map fun r =>
      if r.flow = i.flow && r.seq = i.seq then { r with effects := r.effects ++ [e] } else r
    Bench.result k d rcDone { b with sc := { b.sc with results := results } }

/-- The ordered item that a core runs. -/
def Core.ordered (c : Core) : Option Item := match c.run with | .item i => if i.ord then some i else none | _ => none

/-- The item that POST takes from Wa to Wa+5 (R105). -/
def Core.itemOf (c : Core) (a : Reg) : Item :=
  let w (n : Nat) : Word := c.reg (mkIx 31 (a.val + n))
  { queue := mkIx 7 (fld (w 0) 31 29), ord := bitOf (w 0) 28, flow := fld (w 0) 27 20, src := 1,
    fref := bitOf (w 1) 31, fifo := fld (w 1) 28 24, handler := fld (w 1) 7 0,
    arg0 := w 2, arg1 := w 3, arg2 := w 4, arg3 := w 5 }

/-- Result code of a post (R199). -/
def postCode : PostResult → Word
  | .accepted => rcDone | .full => rcFull | .denied => rcDenied | .mode => rcMode
/-- POST (R106): opcode 0x36 posts a work item, or holds it for an ordered item. -/
def execCoithPost (k : CoreRef) (d a : Reg) (s : State) : Host.Outcome State Fault Refusal :=
  s.onCore k (.coithPost k d a) fun c b =>
    let i := c.itemOf a
    match c.ordered with
    | some o =>
      if bitOf b.sc.ctrl 1 && (!i.ord || (b.flow i.flow).en) then b.hold k.core d o (.post i)
      else (b.cancelItems 1).result k.core d rcDenied
    | none => let (r, b') := b.post i; b'.result k.core d (postCode r)

/-- FWR (R120, R128, R130, R132, R202). DESIGN CHOICE (log 55): a FIFO both full and locked to another core answers LOCKED;
a first word that must wait behind a waiting release (R121) answers LOCKED too. -/
def Bench.fwr (k : Fin 4) (c : Core) (d : Reg) (n : Fin 32) (w : Word) (eop : Bool) (b : Bench) : Bench :=
  let f := b.fifo n
  if f.prod ≠ 0 then b.result k d rcDenied
  else if !f.en then b.result k d rcFull
  else match c.ordered with
    | some o => b.hold k d o (.fifo n w eop)
    | none =>
      if (f.wrOpen && f.wrCore ≠ some k) || (!f.wrOpen && b.releaseWaits n) then b.result k d rcLocked
      else if f.full && !f.dropping then b.result k d rcFull
      else
        let b := b.fifoPush n w eop
        (b.setFifo n fun f => if f.wrOpen then { f with wrCore := some k } else f).result k d rcDone
/-- FWR (R202): opcode 0x37 writes a word to a FIFO. -/
def execCoithFwr (k : CoreRef) (d a : Reg) (n : Fin 32) (eop : Bool) (s : State) : Host.Outcome State Fault Refusal :=
  s.onCore k (.coithFwr k d a n eop) fun c b => b.fwr k.core c d n (c.reg a) eop

/-- FRD (R131, R202): the word to Wd when there is one, the status to Wa. -/
def Bench.frd (k : Fin 4) (c : Core) (d a : Reg) (n : Fin 32) (b : Bench) : Bench :=
  let f := b.fifo n
  if f.cons ≠ 0 then b.result k a rcDenied
  else if !f.en then b.result k a rcFull
  else match f.words with
    | [] => b.result k a rcFull
    | (w, e) :: _ =>
      if f.headLocked && f.wrCore ≠ some k then b.result k a rcLocked
      else ((b.setFifo n Fifo.pop).setCore k (c.setReg d w)).result k a (rcDone ||| at32 (b2n e) 4)
/-- FRD (R202): opcode 0x38 reads the head word of a FIFO. -/
def execCoithFrd (k : CoreRef) (d a : Reg) (n : Fin 32) (s : State) : Host.Outcome State Fault Refusal :=
  s.onCore k (.coithFrd k d a n) fun c b => b.frd k.core c d a n

/-- PTR (R189, R205). -/
def execCoithPtr (k : CoreRef) (d a : Reg) (s : State) : Host.Outcome State Fault Refusal :=
  s.onCore k (.coithPtr k d a) fun c b =>
    let p := (c.reg a).toNat
    if 16383 < p then b.coreFault k.core causeBounds 0 p
    else
      let e := b.point p
      b.setCore k.core (((c.setReg d e.value).setReg (pairHi d) (e.flags ++ e.quality)).step4)

/-- The producer as which a handler may write points: Haul for SRC 4, CAN for SRC 5 and 6 (R201). -/
def Core.ptwSource (c : Core) : Option Source :=
  match c.run with
  | .item i => if i.src = 4 then some .haul else if i.src = 5 || i.src = 6 then some .can else none
  | _ => none

/-- PTW (R150, R201). -/
def Bench.ptw (k : Fin 4) (c : Core) (d : Reg) (v : Word) (p : Nat) (own : Bool) (b : Bench) : Bench :=
  if 16383 < p then b.result k d rcDenied
  else match c.ptwSource with
    | some src =>
      if (b.point p).source = src.code then
        let st := if own then c.pair 5 else b.rail.now
        match c.ordered with
        | some o => b.hold k d o (.point p v st src)
        | none => (b.writePoint src p v qLive st).result k d rcDone
      else (b.conflict p).result k d rcDenied
    | none => (b.conflict p).result k d rcDenied
/-- PTW (R201): opcode 0x3A writes a point from a Haul or CAN handler. -/
def execCoithPtw (k : CoreRef) (d a b : Reg) (own : Bool) (s : State) : Host.Outcome State Fault Refusal :=
  s.onCore k (.coithPtw k d a b own) fun c x => x.ptw k.core c d (c.reg a) (c.reg b).toNat own

/-- The lasting sticky copy loses bits (R204). -/
def Bench.clearSticky (c : Core) (m : Word) (b : Bench) : Bench :=
  match c.run with
  | .segment t _ => { b with pe := { b.pe with sticky := upd b.pe.sticky t fun w => w &&& ~~~ m } }
  | .item _ => { b with pe := { b.pe with stickyWi := b.pe.stickyWi &&& ~~~ m } }
  | .idle => b
/-- CSR (R204): opcode 0x3B reads CS or clears sticky flags. -/
def execCoithCsr (k : CoreRef) (d a : Reg) (clear : Bool) (s : State) : Host.Outcome State Fault Refusal :=
  s.onCore k (.coithCsr k d a clear) fun c b =>
    if clear then
      let m := (c.reg a).setWidth 6
      let c' := { c with sticky := c.sticky &&& ~~~ m }
      (b.clearSticky c (m.setWidth 32)).setCore k.core (c'.setReg d (c'.cs k.core)).step4
    else b.setCore k.core (c.setReg d (c.cs k.core)).step4
/-- CHK (R205): opcode 0x3D raises a core fault when its register is 0. -/
def execCoithChk (k : CoreRef) (a : Reg) (code : BitVec 8) (s : State) : Host.Outcome State Fault Refusal :=
  s.onCore k (.coithChk k a code) fun c b =>
    if c.reg a = 0 then b.coreFault k.core causeCheck code.toNat 0 else b.setCore k.core c.step4
/-- PACK (R189): opcode 0x3E packs two halfwords into one word. -/
def execCoithPack (k : CoreRef) (d a b : Reg) (s : State) : Host.Outcome State Fault Refusal :=
  s.coreOp k (.coithPack k d a b) fun c => c.setReg d ((c.reg b).setWidth 16 ++ (c.reg a).setWidth 16)
/-- CRC (R189): opcode 0x3F advances a CRC-32C over a word. -/
def execCoithCrc (k : CoreRef) (d a : Reg) (s : State) : Host.Outcome State Fault Refusal :=
  s.coreOp k (.coithCrc k d a) fun c => c.setReg d (crcWord (c.reg d) (c.reg a))

end Sys2Proof.Machine
end

