-- ==== Sys2Proof/Machine/Host.lean ====
section
/-!
DEFINITION. The queue engine: doorbells, taking and checking commands, stream records, coalesced vectors, read errors,
the mailbox doorbell, firmware commands (R509 to R534).
-/
namespace Sys2Proof.Machine

/-! ### Doorbells (R99, R509, R512) -/

/-- A doorbell write is host activity, whatever its value. -/
def Bench.doorbellSeen (b : Bench) : Bench := b.setBn fun n => { n with hostAt := b.rail.up, hostSilent := false }

/-- A value that a doorbell may not take: not below the depth, or a head past the bench's write position. -/
def Queue.badBell (head : Bool) (v : Nat) (x : Queue) : Bool :=
  x.depth ≤ v || (head && x.used < (v + x.depth - x.head) % x.depth)

/-- A doorbell write: discarded and counted if it is bad, the queue enabled or not; on a disabled queue a good one changes
nothing (R512, R514). -/
def Bench.doorbell (q : Fin 4) (v : Word) (b : Bench) : Bench :=
  let b := b.doorbellSeen
  let x := b.qc.q[q]
  let head := q ≠ 0
  if x.badBell head v.toNat then Bench.qcError 0 { b with qc := { b.qc with dbBad := inc b.qc.dbBad } }
  else if !x.en then b
  else b.setQueue q fun x => if head then { x with head := v.toNat } else { x with tail := v.toNat }

/-- DB_CMD_TAIL (R512). -/
def execDbCmdTail (bn : BenchIx) (v : Word) (s : State) : Host.Outcome State Fault Refusal := s.onBench bn (Bench.doorbell 0 v)
/-- DB_CPL_HEAD (R512). -/
def execDbCplHead (bn : BenchIx) (v : Word) (s : State) : Host.Outcome State Fault Refusal := s.onBench bn (Bench.doorbell 1 v)
/-- DB_STR_HEAD (R512). -/
def execDbStrHead (bn : BenchIx) (v : Word) (s : State) : Host.Outcome State Fault Refusal := s.onBench bn (Bench.doorbell 2 v)
/-- DB_EVT_HEAD (R512). -/
def execDbEvtHead (bn : BenchIx) (v : Word) (s : State) : Host.Outcome State Fault Refusal := s.onBench bn (Bench.doorbell 3 v)

/-! ### Taking (R519, R520) -/

/-- Completion entries reserved for commands in progress; those of before a function reset hold none (R504). -/
def Qc.reserved (q : Qc) : Nat := (q.inflight.filter fun f => !f.orphan).length

/-- The conditions under which an entry is taken (R106, R514, R515, R519, R522). -/
def Bench.canTake (p : Packet) (b : Bench) : Bool :=
  let c := b.qc.q[(0 : Fin 4)]
  let k := b.qc.q[(1 : Fin 4)]
  b.bn.mode ≠ .wake && b.sc.hostItem.isNone && c.en && !c.error && 0 < c.used && k.en && b.qc.reserved < k.room &&
  b.qc.inflight.length < 64 && (!(pktFence p) || b.qc.inflight.isEmpty)

/-- Steps 1 and 2 of R520: the refusal of a taken command, if any. -/
def Bench.takeRefusal (p : Packet) (b : Bench) : Option Status :=
  if (pktOpcode p) / 256 = 0x0E then some .guardDenied
  else match opcodeNeeds (pktOpcode p) with
    | none => some .badOpcode
    | some need => if pktHeaderOk p b.ix.val need && (b.qc.findTag (pktTag p)).isNone then none else some .badParam

/-- A packet as it stands while its command is in progress. -/
def InFlight.of (p : Packet) : InFlight :=
  { tag := pktTag p, opcode := pktOpcode p, noirq := pktNoirq p, params := pktParams p,
    bytes := if pktList p then pktBytes p else none }

/-- The entry at the head is taken: vector 0 if the queue was full; refused, or in progress from here on. -/
def Bench.take (p : Packet) (b : Bench) : Bench :=
  if !b.canTake p then b
  else
    let c := b.qc.q[(0 : Fin 4)]
    let b := if c.room = 0 && c.ien then b.vector 0 else b
    let b := b.setQueue 0 fun c => { c with head := (c.head + 1) % c.depth }
    match b.takeRefusal p with
    | some st => b.postCompletion (pktTag p) (pktNoirq p) st 0
    | none => { b with qc := { b.qc with inflight := b.qc.inflight ++ [InFlight.of p] } }

/-- COMMAND_TAKE (R519, R520). -/
def execCommandTake (bn : BenchIx) (p : Packet) (s : State) : Host.Outcome State Fault Refusal := s.onBench bn (Bench.take p)

/-! ### The management mailbox (R507, R530) -/

/-- The packet in MG_MBOX, with the descriptors at its LISTADDR. -/
def mboxPacket (list : List Descriptor) (h : Hub) : Packet :=
  { w0 := h.mbox[0], w1 := h.mbox[1], addr := cat64 h.mbox[2] h.mbox[3], params := h.mbox.toList.drop 4, list := list }

/-- MBOX_DOORBELL (R530): BUSY sets, and a packet with a bad opcode or header is answered at once (R520, R521). -/
def execMboxDoorbell (v : MailBell) (s : State) : Host.Outcome State Fault Refusal :=
  if s.hub.mboxBusy then .next { s with hub := s.hub.mgError 0 }
  else
    let p := mboxPacket v.list s.hub
    let s := if v.ecc then { s with hub := s.hub.mgError 2 } else s
    let s := { s with hub := { s.hub with mboxBusy := true, mboxBytes := (pktBytes p).getD 0 } }
    match mailboxNeeds (pktOpcode p) with
    | none => .next (s.mboxDone (pktTag p) .badOpcode 0)
    | some need => .next (if pktHeaderOk p (pktBench p) need then s else s.mboxDone (pktTag p) .badParam 0)

/-! ### Read errors (R515) -/

/-- HOST_READ_ERROR (R515): of queue q, or of the host buffer list of the command with a tag. -/
def execHostReadError (bn : BenchIx) (q : Fin 4) (list : Option (BitVec 16)) (s : State) : Host.Outcome State Fault Refusal :=
  s.onBench bn fun b =>
    match list with
    | none => (b.setQueue q fun x => { x with error := true }).qcError 1
    | some tag =>
      match b.qc.findTag tag with
      | some f => b.completeTag f.tag f.noirq .checkFailed 0
      | none => b

/-! ### Stream records (R527, R528) -/

/-- Bytes of a record with a body of `len` bytes, frame included. -/
def recordBytes (len : Nat) : Nat := 16 + ceilDiv len 8 * 8 + 8

/-- Words of the body of a ready record. -/
def Bench.readyBody (b : Bench) (r : StreamReady) : List Word :=
  match r with
  | .digest body => body
  | .fifo n => (b.fifo (mkIx 31 n)).firstPacket

/-- A ready record that can still be taken: an enabled FIFO with a whole packet, or a digest part. -/
def Bench.readyLive (b : Bench) (r : StreamReady) : Bool :=
  match r with
  | .digest _ => true
  | .fifo n => let f := b.fifo (mkIx 31 n); f.en && f.cons = 5 && 0 < f.pkts

/-- A ready record leaves the list, and its packet its FIFO. -/
def Bench.dropReady (r : StreamReady) (b : Bench) : Bench :=
  let b : Bench := { b with qc := { b.qc with ready := b.qc.ready.erase r } }
  match r with
  | .digest _ => b
  | .fifo n => b.setFifo (mkIx 31 n) Fifo.dropPacket

/-- A pad record that fills the units up to the ring's end; its RSEQ and CRC are open. -/
def Bench.writePad (units : Nat) (b : Bench) : Bench :=
  let (r, b) := b.fresh
  let (c, b) := b.fresh
  let x := b.qc.q[(2 : Fin 4)]
  let m := HostMsg.stream 0 0 (units * x.esz - 24) (r % 2 ^ 32) units x.phase [] (BitVec.ofNat 32 c)
  ({ b with qc := { b.qc with sent := b.qc.sent ++ [m] } } : Bench).setQueue 2 (Queue.advance units)

/-- A record written at the ring's tail. -/
def Bench.writeRecord (r : StreamReady) (body : List Word) (units : Nat) (b : Bench) : Bench :=
  let x := b.qc.q[(2 : Fin 4)]
  let len := 4 * body.length
  let typ := match r with | .digest _ => 1 | .fifo _ => 2
  let src := match r with | .digest _ => 0 | .fifo n => n
  let crc := crc32c ([BitVec.ofNat 32 len, b.qc.rseq, BitVec.ofNat 32 units] ++ body)
  let m := HostMsg.stream typ src len b.qc.rseq.toNat units x.phase body crc
  let b : Bench := { b with qc := { b.qc with sent := b.qc.sent ++ [m], rseq := b.qc.rseq + 1 } }
  let b := (b.dropReady r).setQueue 2 (Queue.advance units)
  if x.ien then b.vector 2 else b

/-- The next ready record is written once the ring has room; a packet too large for a record is spoiled. -/
def Bench.streamWrite (b : Bench) : Bench :=
  match b.qc.ready.find? b.readyLive with
  | none => b
  | some r =>
    let body := b.readyBody r
    let bytes := recordBytes (4 * body.length)
    let fifo : Option (Fin 32) := match r with | .digest _ => none | .fifo n => some (mkIx 31 n)
    match (if 65536 < bytes then fifo else none) with
    | some n => (b.dropReady r).setFifo n Fifo.spoiled
    | none =>
      let x := b.qc.q[(2 : Fin 4)]
      if !x.en || x.error then b
      else
        let units := ceilDiv bytes x.esz
        let left := x.depth - x.tail
        let b := if left < units && left ≤ x.room then b.writePad left else b
        let x := b.qc.q[(2 : Fin 4)]
        if units ≤ x.room && units ≤ x.depth - x.tail then b.writeRecord r body units else b

/-- STREAM_RECORD_WRITE (R528). -/
def execStreamRecordWrite (bn : BenchIx) (t : Nat) (s : State) : Host.Outcome State Fault Refusal :=
  s.onBench bn fun b => (b.tick t).streamWrite

/-! ### Coalescing (R534) -/

/-- ITIME has passed since the first counted entry. -/
def Bench.coalesced (q : Fin 4) (v : Nat) (b : Bench) : Bench :=
  let x := b.qc.q[q]
  if x.ien && 0 < x.counted && x.firstAt + x.itime * 1000 ≤ b.rail.up then
    (b.setQueue q fun x => { x with counted := 0 }).vector v
  else b

/-- INTERRUPT_COALESCE_TIMEOUT (R534): of the completion queue, or of the event queue. -/
def execInterruptCoalesceTimeout (bn : BenchIx) (t : Nat) (events : Bool) (s : State) : Host.Outcome State Fault Refusal :=
  s.onBench bn fun b => if events then (b.tick t).coalesced 3 3 else (b.tick t).coalesced 1 1

/-! ### Firmware (R92, R520, R532) -/

/-- A FW_LOAD ends: the alternate slot takes an image that passes its check. -/
def Bench.fwLoaded (c : Cmd) (version : Word) (good : Bool) (b : Bench) : Bench :=
  let b := b.setBn fun n => { n with fwRun := none }
  if !good then b.refuse c .checkFailed
  else (b.setBn fun n => { n with fwAlt := some version, fwAltBad := false }).complete c .ok version.toNat

/-- FW_LOAD (R532): it begins, unless another runs, or ends; `version` and check of the image in the host buffers. -/
def execFwLoad (c : Cmd) (version : Word) (fate : FwFate) (s : State) : Host.Outcome State Fault Refusal :=
  s.onBench c.bench fun b =>
    let start (k : Bench → Bench) : Bench → Bench :=
      Bench.acceptFw (.fwLoad c version fate) c fun b => if b.bn.fwRun.isSome then b.refuse c .busy else k b
    match fate with
    | .begins => start (fun b => b.setBn fun n => { n with fwRun := some c.tag }) b
    | .ends good => if b.bn.fwRun = some c.tag then b.fwLoaded c version good else start (Bench.fwLoaded c version good) b

/-- FW_SELECT (R532): the slots swap roles from the next bench start. -/
def execFwSelect (c : Cmd) (s : State) : Host.Outcome State Fault Refusal :=
  s.onBench c.bench (Bench.acceptFw (.fwSelect c) c fun b =>
    match b.bn.fwAlt with
    | none => b.refuse c .checkFailed
    | some v => if b.bn.fwAltBad then b.refuse c .checkFailed else (b.setBn fun n => { n with fwSwap := true }).complete c .ok v.toNat)

/-- FW_INFO (R532). -/
def execFwInfo (c : Cmd) (s : State) : Host.Outcome State Fault Refusal :=
  s.onBench c.bench (Bench.acceptFw (.fwInfo c) c fun b =>
    b.complete c .ok (cat64 (b.bn.fwCur.getD 0) (b.bn.fwAlt.getD 0)))

end Sys2Proof.Machine
end

