-- ==== Sys2Proof/Machine/Dispatch.lean ====
section
/-!
DEFINITION. One arm per row of the operations and events table: a direct call of the row's meaning.
-/
namespace Sys2Proof.Machine

/-- The effect of a command or event on everything but the queue. -/
def exec (i : Instr) (s : State) : Host.Outcome State Fault Refusal :=
  match i with
  | .benchRun c => Sys2Proof.Machine.execBenchRun c s
  | .benchShadow c => Sys2Proof.Machine.execBenchShadow c s
  | .benchHold c => Sys2Proof.Machine.execBenchHold c s
  | .benchWarmRestart c target => Sys2Proof.Machine.execBenchWarmRestart c target s
  | .benchColdStart c => Sys2Proof.Machine.execBenchColdStart c s
  | .benchStop c => Sys2Proof.Machine.execBenchStop c s
  | .benchReset c => Sys2Proof.Machine.execBenchReset c s
  | .hostKeepalive c => Sys2Proof.Machine.execHostKeepalive c s
  | .progLoad c img => Sys2Proof.Machine.execProgLoad c img s
  | .progActivate c => Sys2Proof.Machine.execProgActivate c s
  | .progChange c ack maxDefer => Sys2Proof.Machine.execProgChange c ack maxDefer s
  | .progChangeAbort c => Sys2Proof.Machine.execProgChangeAbort c s
  | .progSetTiming c task p ph off d g => Sys2Proof.Machine.execProgSetTiming c task p ph off d g s
  | .forceSet c point value => Sys2Proof.Machine.execForceSet c point value s
  | .forceClear c point => Sys2Proof.Machine.execForceClear c point s
  | .loopSetMode c w => Sys2Proof.Machine.execLoopSetMode c w s
  | .loopSetSp c w sp => Sys2Proof.Machine.execLoopSetSp c w sp s
  | .loopSetOut c w out => Sys2Proof.Machine.execLoopSetOut c w out s
  | .loopTune c w v0 v1 v2 v3 v4 v5 v6 => Sys2Proof.Machine.execLoopTune c w v0 v1 v2 v3 v4 v5 v6 s
  | .loopSetTable c w data => Sys2Proof.Machine.execLoopSetTable c w data s
  | .loopClear c w => Sys2Proof.Machine.execLoopClear c w s
  | .rcpLoadSteps c first count entries => Sys2Proof.Machine.execRcpLoadSteps c first count entries s
  | .rcpStart c slot first abort lo hi flags => Sys2Proof.Machine.execRcpStart c slot first abort lo hi flags s
  | .rcpPause c slot lo hi late => Sys2Proof.Machine.execRcpPause c slot lo hi late s
  | .rcpResume c slot lo hi late => Sys2Proof.Machine.execRcpResume c slot lo hi late s
  | .rcpSkip c slot step lo hi late => Sys2Proof.Machine.execRcpSkip c slot step lo hi late s
  | .rcpAbort c slot lo hi late => Sys2Proof.Machine.execRcpAbort c slot lo hi late s
  | .mxMove c w target lo hi => Sys2Proof.Machine.execMxMove c w target lo hi s
  | .mxJog c w lo hi => Sys2Proof.Machine.execMxJog c w lo hi s
  | .mxSetDyn c w vmax acc dec => Sys2Proof.Machine.execMxSetDyn c w vmax acc dec s
  | .mxStop c w => Sys2Proof.Machine.execMxStop c w s
  | .mxHome c w lo hi => Sys2Proof.Machine.execMxHome c w lo hi s
  | .mxSetPos c w p => Sys2Proof.Machine.execMxSetPos c w p s
  | .mxClear c w => Sys2Proof.Machine.execMxClear c w s
  | .faceFaultClear c => Sys2Proof.Machine.execFaceFaultClear c s
  | .faceEncSet c w count lo hi => Sys2Proof.Machine.execFaceEncSet c w count lo hi s
  | .qnUnlock c pw oper => Sys2Proof.Machine.execQnUnlock c pw oper s
  | .qnLock c => Sys2Proof.Machine.execQnLock c s
  | .qnCommit c crc oper => Sys2Proof.Machine.execQnCommit c crc oper s
  | .qnSetPassword c old new oper => Sys2Proof.Machine.execQnSetPassword c old new oper s
  | .qnFaultClear c oper sources back => Sys2Proof.Machine.execQnFaultClear c oper sources back s
  | .qnSetRef c w pos lo hi => Sys2Proof.Machine.execQnSetRef c w pos lo hi s
  | .qnLogRead c first count => Sys2Proof.Machine.execQnLogRead c first count s
  | .kfArm c w pre post => Sys2Proof.Machine.execKfArm c w pre post s
  | .kfDisarm c w => Sys2Proof.Machine.execKfDisarm c w s
  | .kfTrigger c w => Sys2Proof.Machine.execKfTrigger c w s
  | .kfRead c w => Sys2Proof.Machine.execKfRead c w s
  | .dgSetProfiles c profs => Sys2Proof.Machine.execDgSetProfiles c profs s
  | .dgCloseNow c => Sys2Proof.Machine.execDgCloseNow c s
  | .hlRead c first count => Sys2Proof.Machine.execHlRead c first count s
  | .hlCloseNow c => Sys2Proof.Machine.execHlCloseNow c s
  | .haulStationSet c w => Sys2Proof.Machine.execHaulStationSet c w s
  | .canRecover c w => Sys2Proof.Machine.execCanRecover c w s
  | .canObjSet c w => Sys2Proof.Machine.execCanObjSet c w s
  | .redunHandover c lo hi maxDefer => Sys2Proof.Machine.execRedunHandover c lo hi maxDefer s
  | .redunResync c => Sys2Proof.Machine.execRedunResync c s
  | .timeSet c lo hi => Sys2Proof.Machine.execTimeSet c lo hi s
  | .timeRead c => Sys2Proof.Machine.execTimeRead c s
  | .guardOpen c oper => Sys2Proof.Machine.execGuardOpen c oper s
  | .guardClose c => Sys2Proof.Machine.execGuardClose c s
  | .guardLogRead c first count => Sys2Proof.Machine.execGuardLogRead c first count s
  | .qnPasswordReplace c pw => Sys2Proof.Machine.execQnPasswordReplace c pw s
  | .debugOpen c => Sys2Proof.Machine.execDebugOpen c s
  | .fwLoad c version fate => Sys2Proof.Machine.execFwLoad c version fate s
  | .fwSelect c => Sys2Proof.Machine.execFwSelect c s
  | .fwInfo c => Sys2Proof.Machine.execFwInfo c s
  | .readStatus b noResp => Sys2Proof.Machine.execReadStatus b noResp s
  | .bedrockHold mask noResp => Sys2Proof.Machine.execBedrockHold mask noResp s
  | .outputsOff mask noResp => Sys2Proof.Machine.execOutputsOff mask noResp s
  | .bedrockReset b noResp => Sys2Proof.Machine.execBedrockReset b noResp s
  | .releaseCustody mask noResp => Sys2Proof.Machine.execReleaseCustody mask noResp s
  | .readRecord b noResp => Sys2Proof.Machine.execReadRecord b noResp s
  | .readTime b noResp => Sys2Proof.Machine.execReadTime b noResp s
  | .coithNop k => Sys2Proof.Machine.execCoithNop k s
  | .coithAdd k d a b h sat => Sys2Proof.Machine.execCoithAdd k d a b h sat s
  | .coithSub k d a b h sat => Sys2Proof.Machine.execCoithSub k d a b h sat s
  | .coithAddi k d a imm => Sys2Proof.Machine.execCoithAddi k d a imm s
  | .coithMul k d a b h sat => Sys2Proof.Machine.execCoithMul k d a b h sat s
  | .coithDiv k d a b => Sys2Proof.Machine.execCoithDiv k d a b s
  | .coithRem k d a b => Sys2Proof.Machine.execCoithRem k d a b s
  | .coithAbs k d a neg h sat => Sys2Proof.Machine.execCoithAbs k d a neg h sat s
  | .coithAnd k d a b => Sys2Proof.Machine.execCoithAnd k d a b s
  | .coithOr k d a b => Sys2Proof.Machine.execCoithOr k d a b s
  | .coithXor k d a b => Sys2Proof.Machine.execCoithXor k d a b s
  | .coithAndi k d a imm => Sys2Proof.Machine.execCoithAndi k d a imm s
  | .coithOri k d a imm => Sys2Proof.Machine.execCoithOri k d a imm s
  | .coithXori k d a imm => Sys2Proof.Machine.execCoithXori k d a imm s
  | .coithLui k d imm => Sys2Proof.Machine.execCoithLui k d imm s
  | .coithShf k d a b op byReg amt => Sys2Proof.Machine.execCoithShf k d a b op byReg amt s
  | .coithBit k d a ins pos width1 => Sys2Proof.Machine.execCoithBit k d a ins pos width1 s
  | .coithMinmax k d a b max h => Sys2Proof.Machine.execCoithMinmax k d a b max h s
  | .coithCmp k d a b cond => Sys2Proof.Machine.execCoithCmp k d a b cond s
  | .coithCmpi k d a cond imm => Sys2Proof.Machine.execCoithCmpi k d a cond imm s
  | .coithSel k d a b c => Sys2Proof.Machine.execCoithSel k d a b c s
  | .coithLim k d a b h => Sys2Proof.Machine.execCoithLim k d a b h s
  | .coithQmul k d a b => Sys2Proof.Machine.execCoithQmul k d a b s
  | .coithMpy k a b neg => Sys2Proof.Machine.execCoithMpy k a b neg s
  | .coithMac k a b sub => Sys2Proof.Machine.execCoithMac k a b sub s
  | .coithLda k a f => Sys2Proof.Machine.execCoithLda k a f s
  | .coithSac k d q30 sh => Sys2Proof.Machine.execCoithSac k d q30 sh s
  | .coithSta k d => Sys2Proof.Machine.execCoithSta k d s
  | .coithAsh k sh => Sys2Proof.Machine.execCoithAsh k sh s
  | .coithCls k d a ofReg => Sys2Proof.Machine.execCoithCls k d a ofReg s
  | .coithFadd k d a b sub => Sys2Proof.Machine.execCoithFadd k d a b sub s
  | .coithFmul k d a b => Sys2Proof.Machine.execCoithFmul k d a b s
  | .coithFdiv k d a b => Sys2Proof.Machine.execCoithFdiv k d a b s
  | .coithFsqrt k d a => Sys2Proof.Machine.execCoithFsqrt k d a s
  | .coithFcmp k d a b op => Sys2Proof.Machine.execCoithFcmp k d a b op s
  | .coithFcvt k d a op => Sys2Proof.Machine.execCoithFcvt k d a op s
  | .coithFmisc k d a b op => Sys2Proof.Machine.execCoithFmisc k d a b op s
  | .coithTadd k d a b sub => Sys2Proof.Machine.execCoithTadd k d a b sub s
  | .coithTcmp k d a b op => Sys2Proof.Machine.execCoithTcmp k d a b op s
  | .coithRdt k d op => Sys2Proof.Machine.execCoithRdt k d op s
  | .coithLdw k d base off => Sys2Proof.Machine.execCoithLdw k d base off s
  | .coithLdh k d base off => Sys2Proof.Machine.execCoithLdh k d base off s
  | .coithLdd k d base off => Sys2Proof.Machine.execCoithLdd k d base off s
  | .coithStw k d base off => Sys2Proof.Machine.execCoithStw k d base off s
  | .coithSth k d base off => Sys2Proof.Machine.execCoithSth k d base off s
  | .coithStd k d base off => Sys2Proof.Machine.execCoithStd k d base off s
  | .coithLdx k d a b f scale => Sys2Proof.Machine.execCoithLdx k d a b f scale s
  | .coithStx k d a b f scale => Sys2Proof.Machine.execCoithStx k d a b f scale s
  | .coithBr k a cond off => Sys2Proof.Machine.execCoithBr k a cond off s
  | .coithLoop k d count1 len => Sys2Proof.Machine.execCoithLoop k d count1 len s
  | .coithCall k fb ioff => Sys2Proof.Machine.execCoithCall k fb ioff s
  | .coithRet k => Sys2Proof.Machine.execCoithRet k s
  | .coithEnd k => Sys2Proof.Machine.execCoithEnd k s
  | .coithSetf k d a slot => Sys2Proof.Machine.execCoithSetf k d a slot s
  | .coithPost k d a => Sys2Proof.Machine.execCoithPost k d a s
  | .coithFwr k d a n eop => Sys2Proof.Machine.execCoithFwr k d a n eop s
  | .coithFrd k d a n => Sys2Proof.Machine.execCoithFrd k d a n s
  | .coithPtr k d a => Sys2Proof.Machine.execCoithPtr k d a s
  | .coithPtw k d a b own => Sys2Proof.Machine.execCoithPtw k d a b own s
  | .coithCsr k d a clear => Sys2Proof.Machine.execCoithCsr k d a clear s
  | .coithMac2 k a b => Sys2Proof.Machine.execCoithMac2 k a b s
  | .coithChk k a code => Sys2Proof.Machine.execCoithChk k a code s
  | .coithPack k d a b => Sys2Proof.Machine.execCoithPack k d a b s
  | .coithCrc k d a => Sys2Proof.Machine.execCoithCrc k d a s
  | .tapBypass => Sys2Proof.Machine.execTapBypass s
  | .tapIdcode => Sys2Proof.Machine.execTapIdcode s
  | .tapSamplePreload => Sys2Proof.Machine.execTapSamplePreload s
  | .tapExtest => Sys2Proof.Machine.execTapExtest s
  | .tapClamp => Sys2Proof.Machine.execTapClamp s
  | .tapHighz => Sys2Proof.Machine.execTapHighz s
  | .tapDebug => Sys2Proof.Machine.execTapDebug s
  | .registerWrite fn off v => Sys2Proof.Machine.execRegisterWrite fn off v s
  | .unsupportedRequest fn write => Sys2Proof.Machine.execUnsupportedRequest fn write s
  | .lowWordRead fn off => Sys2Proof.Machine.execLowWordRead fn off s
  | .pointValueRead b p => Sys2Proof.Machine.execPointValueRead b p s
  | .runStateRead b slot => Sys2Proof.Machine.execRunStateRead b slot s
  | .forceCommit b j w => Sys2Proof.Machine.execForceCommit b j w s
  | .dbCmdTail b v => Sys2Proof.Machine.execDbCmdTail b v s
  | .dbCplHead b v => Sys2Proof.Machine.execDbCplHead b v s
  | .dbStrHead b v => Sys2Proof.Machine.execDbStrHead b v s
  | .dbEvtHead b v => Sys2Proof.Machine.execDbEvtHead b v s
  | .mboxDoorbell v => Sys2Proof.Machine.execMboxDoorbell v s
  | .queueEnable b q v => Sys2Proof.Machine.execQueueEnable b q v s
  | .queueDisable b q v => Sys2Proof.Machine.execQueueDisable b q v s
  | .msixUnmask fn v => Sys2Proof.Machine.execMsixUnmask fn v s
  | .dropRemainder b n => Sys2Proof.Machine.execDropRemainder b n s
  | .flush b n => Sys2Proof.Machine.execFlush b n s
  | .fqHostPop b n => Sys2Proof.Machine.execFqHostPop b n s
  | .fqWr b n w => Sys2Proof.Machine.execFqWr b n w s
  | .fqWrEop b n w => Sys2Proof.Machine.execFqWrEop b n w s
  | .scCtrlWrite b v => Sys2Proof.Machine.execScCtrlWrite b v s
  | .scFlowWrite b f v => Sys2Proof.Machine.execScFlowWrite b f v s
  | .scQcfgWrite b q v => Sys2Proof.Machine.execScQcfgWrite b q v s
  | .fqCfgWrite b n v => Sys2Proof.Machine.execFqCfgWrite b n v s
  | .fqSpillWrite b n v => Sys2Proof.Machine.execFqSpillWrite b n v s
  | .bnDramCaptureWrite b v => Sys2Proof.Machine.execBnDramCaptureWrite b v s
  | .tmPaceLimWrite b v => Sys2Proof.Machine.execTmPaceLimWrite b v s
  | .tmPaceRestWrite b v => Sys2Proof.Machine.execTmPaceRestWrite b v s
  | .mdioCmd b v => Sys2Proof.Machine.execMdioCmd b v s
  | .mrDataAccess b k write => Sys2Proof.Machine.execMrDataAccess b k write s
  | .rxBufferLockRead b k buf => Sys2Proof.Machine.execRxBufferLockRead b k buf s
  | .rxBufferReleaseRead b k buf => Sys2Proof.Machine.execRxBufferReleaseRead b k buf s
  | .guardWrite off v g mram => Sys2Proof.Machine.execGuardWrite off v g mram s
  | .guardEffect b t => Sys2Proof.Machine.execGuardEffect b t s
  | .bnCntClr b v => Sys2Proof.Machine.execBnCntClr b v s
  | .tmCntClr b v => Sys2Proof.Machine.execTmCntClr b v s
  | .scCntClr b v => Sys2Proof.Machine.execScCntClr b v s
  | .peCntClr b v => Sys2Proof.Machine.execPeCntClr b v s
  | .leCntClr b v => Sys2Proof.Machine.execLeCntClr b v s
  | .rsCntClr b v => Sys2Proof.Machine.execRsCntClr b v s
  | .mxCntClr b v => Sys2Proof.Machine.execMxCntClr b v s
  | .fcCntClr b v => Sys2Proof.Machine.execFcCntClr b v s
  | .qnCntClr b v => Sys2Proof.Machine.execQnCntClr b v s
  | .kfCntClr b v => Sys2Proof.Machine.execKfCntClr b v s
  | .dgCntClr b v => Sys2Proof.Machine.execDgCntClr b v s
  | .hlCntClr b v => Sys2Proof.Machine.execHlCntClr b v s
  | .haCntClr b v => Sys2Proof.Machine.execHaCntClr b v s
  | .cnCntClr b k v => Sys2Proof.Machine.execCnCntClr b k v s
  | .nlCntClr b v => Sys2Proof.Machine.execNlCntClr b v s
  | .qcCntClr b v => Sys2Proof.Machine.execQcCntClr b v s
  | .gsCntClr v => Sys2Proof.Machine.execGsCntClr v s
  | .functionLevelReset fn d3 => Sys2Proof.Machine.execFunctionLevelReset fn d3 s
  | .hotReset => Sys2Proof.Machine.execHotReset s
  | .hubReset => Sys2Proof.Machine.execHubReset s
  | .hostReadError b q list => Sys2Proof.Machine.execHostReadError b q list s
  | .commandTake b p => Sys2Proof.Machine.execCommandTake b p s
  | .streamRecordWrite b t => Sys2Proof.Machine.execStreamRecordWrite b t s
  | .interruptCoalesceTimeout b t events => Sys2Proof.Machine.execInterruptCoalesceTimeout b t events s
  | .supplyGood t vinA vinB => Sys2Proof.Machine.execSupplyGood t vinA vinB s
  | .supplyLost t => Sys2Proof.Machine.execSupplyLost t s
  | .vinInputLost t inputB => Sys2Proof.Machine.execVinInputLost t inputB s
  | .vbatLow t => Sys2Proof.Machine.execVbatLow t s
  | .mrstNAssert t => Sys2Proof.Machine.execMrstNAssert t s
  | .mrstNRelease t mid pair => Sys2Proof.Machine.execMrstNRelease t mid pair s
  | .benchStartComplete b t selftest fwCurOk fwAltOk imgOk headerOk guardA guardB quoinA quoinB => Sys2Proof.Machine.execBenchStartComplete b t selftest fwCurOk fwAltOk imgOk headerOk guardA guardB quoinA quoinB s
  | .coreRailLow b t => Sys2Proof.Machine.execCoreRailLow b t s
  | .refLost b t refB => Sys2Proof.Machine.execRefLost b t refB s
  | .refGood b t refB => Sys2Proof.Machine.execRefGood b t refB s
  | .timeLockTimeout b t checks => Sys2Proof.Machine.execTimeLockTimeout b t checks s
  | .freeEntered b t => Sys2Proof.Machine.execFreeEntered b t s
  | .relockComplete b t => Sys2Proof.Machine.execRelockComplete b t s
  | .epochMarker b t m checks => Sys2Proof.Machine.execEpochMarker b t m checks s
  | .syncMarker t m => Sys2Proof.Machine.execSyncMarker t m s
  | .syncLost t => Sys2Proof.Machine.execSyncLost t s
  | .ptmDialogue t m => Sys2Proof.Machine.execPtmDialogue t m s
  | .paceLow b t rate => Sys2Proof.Machine.execPaceLow b t rate s
  | .paceFault b t => Sys2Proof.Machine.execPaceFault b t s
  | .tjHigh b t tj => Sys2Proof.Machine.execTjHigh b t tj s
  | .tjRecovered b t tj => Sys2Proof.Machine.execTjRecovered b t tj s
  | .raiseDemand b t task => Sys2Proof.Machine.execRaiseDemand b t task s
  | .barrierFrame b t toFace si => Sys2Proof.Machine.execBarrierFrame b t toFace si s
  | .barrierLinkLoss b t => Sys2Proof.Machine.execBarrierLinkLoss b t s
  | .faceLinkLoss b t => Sys2Proof.Machine.execFaceLinkLoss b t s
  | .livenessToken b t pulse => Sys2Proof.Machine.execLivenessToken b t pulse s
  | .livenessLoss b t => Sys2Proof.Machine.execLivenessLoss b t s
  | .facePowerLoss b t => Sys2Proof.Machine.execFacePowerLoss b t s
  | .diSample b t raw low rb lplus => Sys2Proof.Machine.execDiSample b t raw low rb lplus s
  | .diChangeAccepted b t ch => Sys2Proof.Machine.execDiChangeAccepted b t ch s
  | .diWireBreak b t ch => Sys2Proof.Machine.execDiWireBreak b t ch s
  | .fieldWarn b t => Sys2Proof.Machine.execFieldWarn b t s
  | .fieldWarnClear b t => Sys2Proof.Machine.execFieldWarnClear b t s
  | .lockout b t => Sys2Proof.Machine.execLockout b t s
  | .reenabled b t => Sys2Proof.Machine.execReenabled b t s
  | .latchOff b t ch => Sys2Proof.Machine.execLatchOff b t ch s
  | .readBackMismatch b t ch => Sys2Proof.Machine.execReadBackMismatch b t ch s
  | .aiSample b t k x => Sys2Proof.Machine.execAiSample b t k x s
  | .aiSampleWrite b t k => Sys2Proof.Machine.execAiSampleWrite b t k s
  | .aoSample b t m x => Sys2Proof.Machine.execAoSample b t m x s
  | .encoderSample b t e ra rb rz => Sys2Proof.Machine.execEncoderSample b t e ra rb rz s
  | .encoderUpdate b t e => Sys2Proof.Machine.execEncoderUpdate b t e s
  | .zCapture b t e => Sys2Proof.Machine.execZCapture b t e s
  | .inputInstant b t task => Sys2Proof.Machine.execInputInstant b t task s
  | .imageCopyDone b t task => Sys2Proof.Machine.execImageCopyDone b t task s
  | .dispatch b t core => Sys2Proof.Machine.execDispatch b t core s
  | .endOfLogic b t task => Sys2Proof.Machine.execEndOfLogic b t task s
  | .outputInstant b t => Sys2Proof.Machine.execOutputInstant b t s
  | .watchdogTrip b t task => Sys2Proof.Machine.execWatchdogTrip b t task s
  | .snapshotComplete b t => Sys2Proof.Machine.execSnapshotComplete b t s
  | .restartCheckDone b t fail rest => Sys2Proof.Machine.execRestartCheckDone b t fail rest s
  | .hostSilence b t => Sys2Proof.Machine.execHostSilence b t s
  | .opHoursTick b t => Sys2Proof.Machine.execOpHoursTick b t s
  | .itemOverrun b t core => Sys2Proof.Machine.execItemOverrun b t core s
  | .reorderRelease b t flow => Sys2Proof.Machine.execReorderRelease b t flow s
  | .fifoNotify b t n => Sys2Proof.Machine.execFifoNotify b t n s
  | .moverPageCopy b t => Sys2Proof.Machine.execMoverPageCopy b t s
  | .switchGapTest b t => Sys2Proof.Machine.execSwitchGapTest b t s
  | .switch b t => Sys2Proof.Machine.execSwitch b t s
  | .loopRead b t n => Sys2Proof.Machine.execLoopRead b t n s
  | .loopRelease b t n margin => Sys2Proof.Machine.execLoopRelease b t n margin s
  | .conditionCheck b t slot => Sys2Proof.Machine.execConditionCheck b t slot s
  | .stepBoundary b t slot => Sys2Proof.Machine.execStepBoundary b t slot s
  | .candidatePrepared b t slot step => Sys2Proof.Machine.execCandidatePrepared b t slot step s
  | .commitMoment b t slot => Sys2Proof.Machine.execCommitMoment b t slot s
  | .recipeStartInstant b t slot => Sys2Proof.Machine.execRecipeStartInstant b t slot s
  | .pauseInstant b t slot => Sys2Proof.Machine.execPauseInstant b t slot s
  | .resumeInstant b t slot => Sys2Proof.Machine.execResumeInstant b t slot s
  | .skipInstant b t slot => Sys2Proof.Machine.execSkipInstant b t slot s
  | .abortInstant b t slot => Sys2Proof.Machine.execAbortInstant b t slot s
  | .moveStart b t a => Sys2Proof.Machine.execMoveStart b t a s
  | .stepEdge b t a => Sys2Proof.Machine.execStepEdge b t a s
  | .lateEdge b t a => Sys2Proof.Machine.execLateEdge b t a s
  | .limitChange b t a inp level edge reverted => Sys2Proof.Machine.execLimitChange b t a inp level edge reverted s
  | .pwmPeriod b t vbr => Sys2Proof.Machine.execPwmPeriod b t vbr s
  | .holdCurrentDelay b t a => Sys2Proof.Machine.execHoldCurrentDelay b t a s
  | .remoteEvaluation b t a apply => Sys2Proof.Machine.execRemoteEvaluation b t a apply s
  | .positionPointUpdate b t a => Sys2Proof.Machine.execPositionPointUpdate b t a s
  | .laneBSample b t si => Sys2Proof.Machine.execLaneBSample b t si s
  | .laneExchange b t okA okB => Sys2Proof.Machine.execLaneExchange b t okA okB s
  | .laneLost b t laneB => Sys2Proof.Machine.execLaneLost b t laneB s
  | .laneX b t => Sys2Proof.Machine.execLaneX b t s
  | .switchDriveTimeout b t laneB => Sys2Proof.Machine.execSwitchDriveTimeout b t laneB s
  | .testPulse b t t2 mv => Sys2Proof.Machine.execTestPulse b t t2 mv s
  | .channelChange b t laneB ch => Sys2Proof.Machine.execChannelChange b t laneB ch s
  | .disc b t j => Sys2Proof.Machine.execDisc b t j s
  | .ossdTest b t o => Sys2Proof.Machine.execOssdTest b t o s
  | .ossdReadback b t mvA mvB => Sys2Proof.Machine.execOssdReadback b t mvA mvB s
  | .ss1Timeout b t laneB => Sys2Proof.Machine.execSs1Timeout b t laneB s
  | .speedEvaluation b t => Sys2Proof.Machine.execSpeedEvaluation b t s
  | .posX b t q => Sys2Proof.Machine.execPosX b t q s
  | .resetEdge b t => Sys2Proof.Machine.execResetEdge b t s
  | .qnSessionTimeout b t => Sys2Proof.Machine.execQnSessionTimeout b t s
  | .passwordWaitExpiry b t => Sys2Proof.Machine.execPasswordWaitExpiry b t s
  | .haulCut b t txs => Sys2Proof.Machine.execHaulCut b t txs s
  | .upFrame b t f => Sys2Proof.Machine.execUpFrame b t f s
  | .arrivalDeadline b t => Sys2Proof.Machine.execArrivalDeadline b t s
  | .linkDown b t => Sys2Proof.Machine.execLinkDown b t s
  | .canFrameRx b t k h0 h1 data sof => Sys2Proof.Machine.execCanFrameRx b t k h0 h1 data sof s
  | .objectCut b t k n begun => Sys2Proof.Machine.execObjectCut b t k n begun s
  | .fifoTxOffer b t k n => Sys2Proof.Machine.execFifoTxOffer b t k n s
  | .arbitrationLost b t k => Sys2Proof.Machine.execArbitrationLost b t k s
  | .txComplete b t k sof delay => Sys2Proof.Machine.execTxComplete b t k sof delay s
  | .canError b t k f phase own late site delay => Sys2Proof.Machine.execCanError b t k f phase own late site delay s
  | .busBack b t k => Sys2Proof.Machine.execBusBack b t k s
  | .lockTimeout b t k buf => Sys2Proof.Machine.execLockTimeout b t k buf s
  | .referenceMessage b t k => Sys2Proof.Machine.execReferenceMessage b t k s
  | .refLate b t k begun => Sys2Proof.Machine.execRefLate b t k begun s
  | .triggerSample b t src => Sys2Proof.Machine.execTriggerSample b t src s
  | .rearmDone b t ch => Sys2Proof.Machine.execRearmDone b t ch s
  | .digestUpdate b t => Sys2Proof.Machine.execDigestUpdate b t s
  | .intervalEnd b t => Sys2Proof.Machine.execIntervalEnd b t s
  | .gaugeSample b x => Sys2Proof.Machine.execGaugeSample b x s
  | .periodEnd b t => Sys2Proof.Machine.execPeriodEnd b t s
  | .heartbeatTx b t => Sys2Proof.Machine.execHeartbeatTx b t s
  | .heartbeatRx b t hb same => Sys2Proof.Machine.execHeartbeatRx b t hb same s
  | .tallyToggle b t own => Sys2Proof.Machine.execTallyToggle b t own s
  | .nalryLost b t => Sys2Proof.Machine.execNalryLost b t s
  | .tallyLost b t => Sys2Proof.Machine.execTallyLost b t s
  | .custodyChange b t level => Sys2Proof.Machine.execCustodyChange b t level s
  | .runClaimDone b t claim => Sys2Proof.Machine.execRunClaimDone b t claim s
  | .takeover b t => Sys2Proof.Machine.execTakeover b t s
  | .driveMoment b t => Sys2Proof.Machine.execDriveMoment b t s
  | .copyCommit b t item => Sys2Proof.Machine.execCopyCommit b t item s
  | .notice b t n => Sys2Proof.Machine.execNotice b t n s
  | .fullCopyCommit b t full => Sys2Proof.Machine.execFullCopyCommit b t full s
  | .handoverGapTest b t => Sys2Proof.Machine.execHandoverGapTest b t s
  | .handoverAckTimeout b t => Sys2Proof.Machine.execHandoverAckTimeout b t s
  | .handoverReleaseTimeout b t => Sys2Proof.Machine.execHandoverReleaseTimeout b t s
  | .guardSessionTimeout t => Sys2Proof.Machine.execGuardSessionTimeout t s
  | .paceRecovered b t rate => Sys2Proof.Machine.execPaceRecovered b t rate s
  | .facePowerReturn b t => Sys2Proof.Machine.execFacePowerReturn b t s
  | .vinInputGood t inputB => Sys2Proof.Machine.execVinInputGood t inputB s
  | .vbatCalendarLoss t => Sys2Proof.Machine.execVbatCalendarLoss t s
  | .nalryLaneUp b t => Sys2Proof.Machine.execNalryLaneUp b t s
  | .nalryLaneDown b t => Sys2Proof.Machine.execNalryLaneDown b t s
  | .haulLinkUp b t => Sys2Proof.Machine.execHaulLinkUp b t s
  | .canIntegrated b t k => Sys2Proof.Machine.execCanIntegrated b t k s
  | .mdioComplete b t data => Sys2Proof.Machine.execMdioComplete b t data s
  | .handoverRelease b t => Sys2Proof.Machine.execHandoverRelease b t s
  | .fullCopyRequest b t => Sys2Proof.Machine.execFullCopyRequest b t s
  | .copyBlock b t rx => Sys2Proof.Machine.execCopyBlock b t rx s

end Sys2Proof.Machine
end

