-- ==== Sys2Proof/Machine/Step.lean ====
section
/-!
DEFINITION. One step: the command or event at the front of the queue takes effect.
-/
namespace Sys2Proof.Machine

/-- One step. The command at the front leaves the queue and has its effect; on an empty queue the module idles. -/
def step (s : State) : Host.Outcome State Fault Refusal :=
  match s.pending with
  | [] => .next s
  | c :: r => exec c { s with pending := r }

/-- The state with the command that a word spells put in front of the queue. -/
def State.withFetchWord (s : State) (nbits w : Nat) : State :=
  match decodeTableWord nbits w with
  | some c => { s with pending := c :: s.pending }
  | none => s

end Sys2Proof.Machine
end

