-- ==== Sys2Proof/Safety.lean ====
section
/-!
DEFINITION. What counts as a safe run, and the words in which the statements about the model are put.
-/
namespace Sys2Proof.Machine

/-! ### Memory -/

/-- Instance SRAM, and every other addressed memory of the module, as the state holds it. -/
abbrev Memory := Tbl Byte
/-- The canonical form: addresses strictly rising, no byte listed that reads as an unlisted one does. -/
def Memory.wf (m : Memory) : Bool := Tbl.wf 0 m
/-- The instance SRAM of every bench is in canonical form. -/
abbrev State.memoryWf (s : State) : Prop := ∀ n, Memory.wf (s.bench n).inst = true

/-! ### What a step may touch -/

/-- The bench that a command or an event names; none for those of the module. -/
def benchOf (i : Instr) : Option BenchIx :=
  match i with
  | .benchRun c => some c.bench
  | .benchShadow c => some c.bench
  | .benchHold c => some c.bench
  | .benchWarmRestart c _ => some c.bench
  | .benchColdStart c => some c.bench
  | .benchStop c => some c.bench
  | .benchReset c => some c.bench
  | .hostKeepalive c => some c.bench
  | .progLoad c _ => some c.bench
  | .progActivate c => some c.bench
  | .progChange c _ _ => some c.bench
  | .progChangeAbort c => some c.bench
  | .progSetTiming c _ _ _ _ _ _ => some c.bench
  | .forceSet c _ _ => some c.bench
  | .forceClear c _ => some c.bench
  | .loopSetMode c _ => some c.bench
  | .loopSetSp c _ _ => some c.bench
  | .loopSetOut c _ _ => some c.bench
  | .loopTune c _ _ _ _ _ _ _ _ => some c.bench
  | .loopSetTable c _ _ => some c.bench
  | .loopClear c _ => some c.bench
  | .rcpLoadSteps c _ _ _ => some c.bench
  | .rcpStart c _ _ _ _ _ _ => some c.bench
  | .rcpPause c _ _ _ _ => some c.bench
  | .rcpResume c _ _ _ _ => some c.bench
  | .rcpSkip c _ _ _ _ _ => some c.bench
  | .rcpAbort c _ _ _ _ => some c.bench
  | .mxMove c _ _ _ _ => some c.bench
  | .mxJog c _ _ _ => some c.bench
  | .mxSetDyn c _ _ _ _ => some c.bench
  | .mxStop c _ => some c.bench
  | .mxHome c _ _ _ => some c.bench
  | .mxSetPos c _ _ => some c.bench
  | .mxClear c _ => some c.bench
  | .faceFaultClear c => some c.bench
  | .faceEncSet c _ _ _ _ => some c.bench
  | .qnUnlock c _ _ => some c.bench
  | .qnLock c => some c.bench
  | .qnCommit c _ _ => some c.bench
  | .qnSetPassword c _ _ _ => some c.bench
  | .qnFaultClear c _ _ _ => some c.bench
  | .qnSetRef c _ _ _ _ => some c.bench
  | .qnLogRead c _ _ => some c.bench
  | .kfArm c _ _ _ => some c.bench
  | .kfDisarm c _ => some c.bench
  | .kfTrigger c _ => some c.bench
  | .kfRead c _ => some c.bench
  | .dgSetProfiles c _ => some c.bench
  | .dgCloseNow c => some c.bench
  | .hlRead c _ _ => some c.bench
  | .hlCloseNow c => some c.bench
  | .haulStationSet c _ => some c.bench
  | .canRecover c _ => some c.bench
  | .canObjSet c _ => some c.bench
  | .redunHandover c _ _ _ => some c.bench
  | .redunResync c => some c.bench
  | .timeSet c _ _ => some c.bench
  | .timeRead c => some c.bench
  | .guardOpen _ _ => none
  | .guardClose _ => none
  | .guardLogRead _ _ _ => none
  | .qnPasswordReplace _ _ => none
  | .debugOpen _ => none
  | .fwLoad c _ _ => some c.bench
  | .fwSelect c => some c.bench
  | .fwInfo c => some c.bench
  | .readStatus b _ => some b
  | .bedrockHold _ _ => none
  | .outputsOff _ _ => none
  | .bedrockReset b _ => some b
  | .releaseCustody _ _ => none
  | .readRecord b _ => some b
  | .readTime b _ => some b
  | .coithNop k => some k.bench
  | .coithAdd k _ _ _ _ _ => some k.bench
  | .coithSub k _ _ _ _ _ => some k.bench
  | .coithAddi k _ _ _ => some k.bench
  | .coithMul k _ _ _ _ _ => some k.bench
  | .coithDiv k _ _ _ => some k.bench
  | .coithRem k _ _ _ => some k.bench
  | .coithAbs k _ _ _ _ _ => some k.bench
  | .coithAnd k _ _ _ => some k.bench
  | .coithOr k _ _ _ => some k.bench
  | .coithXor k _ _ _ => some k.bench
  | .coithAndi k _ _ _ => some k.bench
  | .coithOri k _ _ _ => some k.bench
  | .coithXori k _ _ _ => some k.bench
  | .coithLui k _ _ => some k.bench
  | .coithShf k _ _ _ _ _ _ => some k.bench
  | .coithBit k _ _ _ _ _ => some k.bench
  | .coithMinmax k _ _ _ _ _ => some k.bench
  | .coithCmp k _ _ _ _ => some k.bench
  | .coithCmpi k _ _ _ _ => some k.bench
  | .coithSel k _ _ _ _ => some k.bench
  | .coithLim k _ _ _ _ => some k.bench
  | .coithQmul k _ _ _ => some k.bench
  | .coithMpy k _ _ _ => some k.bench
  | .coithMac k _ _ _ => some k.bench
  | .coithLda k _ _ => some k.bench
  | .coithSac k _ _ _ => some k.bench
  | .coithSta k _ => some k.bench
  | .coithAsh k _ => some k.bench
  | .coithCls k _ _ _ => some k.bench
  | .coithFadd k _ _ _ _ => some k.bench
  | .coithFmul k _ _ _ => some k.bench
  | .coithFdiv k _ _ _ => some k.bench
  | .coithFsqrt k _ _ => some k.bench
  | .coithFcmp k _ _ _ _ => some k.bench
  | .coithFcvt k _ _ _ => some k.bench
  | .coithFmisc k _ _ _ _ => some k.bench
  | .coithTadd k _ _ _ _ => some k.bench
  | .coithTcmp k _ _ _ _ => some k.bench
  | .coithRdt k _ _ => some k.bench
  | .coithLdw k _ _ _ => some k.bench
  | .coithLdh k _ _ _ => some k.bench
  | .coithLdd k _ _ _ => some k.bench
  | .coithStw k _ _ _ => some k.bench
  | .coithSth k _ _ _ => some k.bench
  | .coithStd k _ _ _ => some k.bench
  | .coithLdx k _ _ _ _ _ => some k.bench
  | .coithStx k _ _ _ _ _ => some k.bench
  | .coithBr k _ _ _ => some k.bench
  | .coithLoop k _ _ _ => some k.bench
  | .coithCall k _ _ => some k.bench
  | .coithRet k => some k.bench
  | .coithEnd k => some k.bench
  | .coithSetf k _ _ _ => some k.bench
  | .coithPost k _ _ => some k.bench
  | .coithFwr k _ _ _ _ => some k.bench
  | .coithFrd k _ _ _ => some k.bench
  | .coithPtr k _ _ => some k.bench
  | .coithPtw k _ _ _ _ => some k.bench
  | .coithCsr k _ _ _ => some k.bench
  | .coithMac2 k _ _ => some k.bench
  | .coithChk k _ _ => some k.bench
  | .coithPack k _ _ _ => some k.bench
  | .coithCrc k _ _ => some k.bench
  | .tapBypass => none
  | .tapIdcode => none
  | .tapSamplePreload => none
  | .tapExtest => none
  | .tapClamp => none
  | .tapHighz => none
  | .tapDebug => none
  | .registerWrite _ _ _ => none
  | .unsupportedRequest _ _ => none
  | .lowWordRead _ _ => none
  | .pointValueRead b _ => some b
  | .runStateRead b _ => some b
  | .forceCommit b _ _ => some b
  | .dbCmdTail b _ => some b
  | .dbCplHead b _ => some b
  | .dbStrHead b _ => some b
  | .dbEvtHead b _ => some b
  | .mboxDoorbell _ => none
  | .queueEnable b _ _ => some b
  | .queueDisable b _ _ => some b
  | .msixUnmask _ _ => none
  | .dropRemainder b _ => some b
  | .flush b _ => some b
  | .fqHostPop b _ => some b
  | .fqWr b _ _ => some b
  | .fqWrEop b _ _ => some b
  | .scCtrlWrite b _ => some b
  | .scFlowWrite b _ _ => some b
  | .scQcfgWrite b _ _ => some b
  | .fqCfgWrite b _ _ => some b
  | .fqSpillWrite b _ _ => some b
  | .bnDramCaptureWrite b _ => some b
  | .tmPaceLimWrite b _ => some b
  | .tmPaceRestWrite b _ => some b
  | .mdioCmd b _ => some b
  | .mrDataAccess b _ _ => some b
  | .rxBufferLockRead b _ _ => some b
  | .rxBufferReleaseRead b _ _ => some b
  | .guardWrite _ _ _ _ => none
  | .guardEffect b _ => some b
  | .bnCntClr b _ => some b
  | .tmCntClr b _ => some b
  | .scCntClr b _ => some b
  | .peCntClr b _ => some b
  | .leCntClr b _ => some b
  | .rsCntClr b _ => some b
  | .mxCntClr b _ => some b
  | .fcCntClr b _ => some b
  | .qnCntClr b _ => some b
  | .kfCntClr b _ => some b
  | .dgCntClr b _ => some b
  | .hlCntClr b _ => some b
  | .haCntClr b _ => some b
  | .cnCntClr b _ _ => some b
  | .nlCntClr b _ => some b
  | .qcCntClr b _ => some b
  | .gsCntClr _ => none
  | .functionLevelReset _ _ => none
  | .hotReset => none
  | .hubReset => none
  | .hostReadError b _ _ => some b
  | .commandTake b _ => some b
  | .streamRecordWrite b _ => some b
  | .interruptCoalesceTimeout b _ _ => some b
  | .supplyGood _ _ _ => none
  | .supplyLost _ => none
  | .vinInputLost _ _ => none
  | .vbatLow _ => none
  | .mrstNAssert _ => none
  | .mrstNRelease _ _ _ => none
  | .benchStartComplete b _ _ _ _ _ _ _ _ _ _ => some b
  | .coreRailLow b _ => some b
  | .refLost b _ _ => some b
  | .refGood b _ _ => some b
  | .timeLockTimeout b _ _ => some b
  | .freeEntered b _ => some b
  | .relockComplete b _ => some b
  | .epochMarker b _ _ _ => some b
  | .syncMarker _ _ => none
  | .syncLost _ => none
  | .ptmDialogue _ _ => none
  | .paceLow b _ _ => some b
  | .paceFault b _ => some b
  | .tjHigh b _ _ => some b
  | .tjRecovered b _ _ => some b
  | .raiseDemand b _ _ => some b
  | .barrierFrame b _ _ _ => some b
  | .barrierLinkLoss b _ => some b
  | .faceLinkLoss b _ => some b
  | .livenessToken b _ _ => some b
  | .livenessLoss b _ => some b
  | .facePowerLoss b _ => some b
  | .diSample b _ _ _ _ _ => some b
  | .diChangeAccepted b _ _ => some b
  | .diWireBreak b _ _ => some b
  | .fieldWarn b _ => some b
  | .fieldWarnClear b _ => some b
  | .lockout b _ => some b
  | .reenabled b _ => some b
  | .latchOff b _ _ => some b
  | .readBackMismatch b _ _ => some b
  | .aiSample b _ _ _ => some b
  | .aiSampleWrite b _ _ => some b
  | .aoSample b _ _ _ => some b
  | .encoderSample b _ _ _ _ _ => some b
  | .encoderUpdate b _ _ => some b
  | .zCapture b _ _ => some b
  | .inputInstant b _ _ => some b
  | .imageCopyDone b _ _ => some b
  | .dispatch b _ _ => some b
  | .endOfLogic b _ _ => some b
  | .outputInstant b _ => some b
  | .watchdogTrip b _ _ => some b
  | .snapshotComplete b _ => some b
  | .restartCheckDone b _ _ _ => some b
  | .hostSilence b _ => some b
  | .opHoursTick b _ => some b
  | .itemOverrun b _ _ => some b
  | .reorderRelease b _ _ => some b
  | .fifoNotify b _ _ => some b
  | .moverPageCopy b _ => some b
  | .switchGapTest b _ => some b
  | .switch b _ => some b
  | .loopRead b _ _ => some b
  | .loopRelease b _ _ _ => some b
  | .conditionCheck b _ _ => some b
  | .stepBoundary b _ _ => some b
  | .candidatePrepared b _ _ _ => some b
  | .commitMoment b _ _ => some b
  | .recipeStartInstant b _ _ => some b
  | .pauseInstant b _ _ => some b
  | .resumeInstant b _ _ => some b
  | .skipInstant b _ _ => some b
  | .abortInstant b _ _ => some b
  | .moveStart b _ _ => some b
  | .stepEdge b _ _ => some b
  | .lateEdge b _ _ => some b
  | .limitChange b _ _ _ _ _ _ => some b
  | .pwmPeriod b _ _ => some b
  | .holdCurrentDelay b _ _ => some b
  | .remoteEvaluation b _ _ _ => some b
  | .positionPointUpdate b _ _ => some b
  | .laneBSample b _ _ => some b
  | .laneExchange b _ _ _ => some b
  | .laneLost b _ _ => some b
  | .laneX b _ => some b
  | .switchDriveTimeout b _ _ => some b
  | .testPulse b _ _ _ => some b
  | .channelChange b _ _ _ => some b
  | .disc b _ _ => some b
  | .ossdTest b _ _ => some b
  | .ossdReadback b _ _ _ => some b
  | .ss1Timeout b _ _ => some b
  | .speedEvaluation b _ => some b
  | .posX b _ _ => some b
  | .resetEdge b _ => some b
  | .qnSessionTimeout b _ => some b
  | .passwordWaitExpiry b _ => some b
  | .haulCut b _ _ => some b
  | .upFrame b _ _ => some b
  | .arrivalDeadline b _ => some b
  | .linkDown b _ => some b
  | .canFrameRx b _ _ _ _ _ _ => some b
  | .objectCut b _ _ _ _ => some b
  | .fifoTxOffer b _ _ _ => some b
  | .arbitrationLost b _ _ => some b
  | .txComplete b _ _ _ _ => some b
  | .canError b _ _ _ _ _ _ _ _ => some b
  | .busBack b _ _ => some b
  | .lockTimeout b _ _ _ => some b
  | .referenceMessage b _ _ => some b
  | .refLate b _ _ _ => some b
  | .triggerSample b _ _ => some b
  | .rearmDone b _ _ => some b
  | .digestUpdate b _ => some b
  | .intervalEnd b _ => some b
  | .gaugeSample b _ => some b
  | .periodEnd b _ => some b
  | .heartbeatTx b _ => some b
  | .heartbeatRx b _ _ _ => some b
  | .tallyToggle b _ _ => some b
  | .nalryLost b _ => some b
  | .tallyLost b _ => some b
  | .custodyChange b _ _ => some b
  | .runClaimDone b _ _ => some b
  | .takeover b _ => some b
  | .driveMoment b _ => some b
  | .copyCommit b _ _ => some b
  | .notice b _ _ => some b
  | .fullCopyCommit b _ _ => some b
  | .handoverGapTest b _ => some b
  | .handoverAckTimeout b _ => some b
  | .handoverReleaseTimeout b _ => some b
  | .guardSessionTimeout _ => none
  | .paceRecovered b _ _ => some b
  | .facePowerReturn b _ => some b
  | .vinInputGood _ _ => none
  | .vbatCalendarLoss _ => none
  | .nalryLaneUp b _ => some b
  | .nalryLaneDown b _ => some b
  | .haulLinkUp b _ => some b
  | .canIntegrated b _ _ => some b
  | .mdioComplete b _ _ => some b
  | .handoverRelease b _ => some b
  | .fullCopyRequest b _ => some b
  | .copyBlock b _ _ => some b

/-- Nothing of the state but one bench, and what the module shows of it, differs. -/
def OnlyBench (n : BenchIx) (s t : State) : Prop := (∀ m, m ≠ n → t.bench m = s.bench m) ∧ t.pending = s.pending

/-- A command or event on one bench answers a next state in which the other benches and the queue are as they were and
the bench satisfies P. -/
def Gives (i : Instr) (n : BenchIx) (s : State) (P : Bench → Prop) : Prop :=
  ∃ u, exec i s = .next u ∧ OnlyBench n s u ∧ P (u.bench n)

/-- The state with one bench replaced and nothing else changed. -/
def State.withBench (n : BenchIx) (b : Bench) (s : State) : State := { s with benches := s.benches.set n b }

/-- A block core, and the state with it replaced. -/
def State.core (s : State) (k : CoreRef) : Core := (s.bench k.bench).cores[k.core]
def State.withCore (k : CoreRef) (c : Core) (s : State) : State := s.withBench k.bench ((s.bench k.bench).setCore k.core c)
/-- A core has written a result and its flags, and goes on to the next instruction; nothing else has changed. -/
def State.wrote (k : CoreRef) (d : Reg) (v : Word) (f : Sticky) (s : State) : State :=
  s.withCore k (((s.core k).setReg d v).flag f).step4
/-- The same for the accumulator. -/
def State.wroteA (k : CoreRef) (a : BitVec 40) (f : Sticky) (s : State) : State :=
  s.withCore k (Core.flag f { s.core k with a := a }).step4

/-! ### Accesses and loops of Coith code -/

/-- R194: where an access may go. BASE 0, or a = 0 of LDX and STX, is the current instance; any other register adds to
the image's instance area. -/
abbrev MayAccess (s : State) (k : CoreRef) (base : Reg) (offset addr n : Nat) : Prop :=
  let c := s.core k
  let area := (s.bench k.bench).pe.area
  addr = (if base = 0 then c.ip else (c.reg base).toNat) + offset ∧
  (if base = 0 then c.ip else area.1) ≤ addr ∧
  addr + n ≤ (if base = 0 then c.ip + c.size else area.1 + area.2) ∧ addr % n = 0

/-- The access is refused: it does not lie inside its limit, or is not aligned. -/
def MayNotAccess (s : State) (k : CoreRef) (base : Reg) (offset n : Nat) : Prop := ¬∃ addr, MayAccess s k base offset addr n

/-- NOPs of a core run one after another. -/
def nops (k : CoreRef) : Nat → State → State
  | 0, s => s
  | n + 1, s => match exec (.coithNop k) s with | .next t => nops k n t | _ => s

/-! ### Safe runs -/

/-- Outside CONFIGURE no Quoin session stands open (R381). -/
abbrev State.SessionsClosed (s : State) : Prop := ∀ n, (s.bench n).bn.mode ≠ .configure → (s.bench n).qn.session = none

/-- A bench on which Coith code runs: a core has work, no read of the instruction fails, and the bench is as every step
leaves it. -/
abbrev State.CoreRuns (k : CoreRef) (s : State) : Prop := (s.core k).run ≠ .idle ∧ k.memory = none ∧ s.SessionsClosed

/-- Where the word at the PC of a core spells an instruction (R187), the core runs it and the next state is t. -/
def Runs (k : CoreRef) (i : Instr) (s t : State) : Prop := (s.bench k.bench).spells k i = true → exec i s = .next t
/-- The same, with what the next state satisfies. -/
def RunsSo (k : CoreRef) (i : Instr) (s : State) (P : State → Prop) : Prop :=
  (s.bench k.bench).spells k i = true → ∃ t, exec i s = .next t ∧ P t

/-- A step is safe when it answers a next state that keeps the sessions closed. -/
def StepSafe (s : State) : Prop := ∃ t, step s = .next t ∧ t.SessionsClosed

/-! ### Commands and their completions (R519 to R523) -/

/-- The completion of a command will be written: the completion queue is enabled, and no reset of the function has
come between (R504, R521). -/
abbrev Bench.Answers (c : Cmd) (b : Bench) : Prop :=
  (b.qc.q[(1 : Fin 4)]).en = true ∧ ∀ f ∈ b.qc.inflight, f.tag = c.tag → f.orphan = false

/-- The completion of a command with a status and a result stands among what the bench has sent since. -/
def Completed (c : Cmd) (st : Status) (r : Nat) (b b' : Bench) : Prop :=
  ∃ l ph hd l', b'.qc.sent = b.qc.sent ++ l ++ HostMsg.completion r st c.tag ph hd :: l'

/-- The bench takes commands, in one of a set of modes (R520). -/
abbrev Bench.Takes (modes : Mode → Bool) (b : Bench) : Prop :=
  b.bn.bootRom = false ∧ b.bn.mode ≠ .wake ∧ modes b.bn.mode = true

/-- What a command row gives where it is the acceptance of its command (R516, R517, R520): the packet is in progress, has
the row's opcode and parameters, and is the next to be accepted. -/
def Serves (i : Instr) (c : Cmd) (s : State) (P : Bench → Prop) : Prop :=
  (s.bench c.bench).issued i = true → Gives i c.bench s P

/-! ### What a bench must meet to enter RUN or SHADOW -/

/-- The copy load of a pair fits, and LEAD names a task (R485, R501). -/
abbrev Bench.CopyFits (b : Bench) : Prop :=
  b.paired = true → b.lead ≠ 0 ∧ copyOver (copyLoad b.copyBytes b.lead b.copyTasks) = false

/-- Every point has a known format, and no safety point is an output (R34). -/
abbrev Bench.PointsSound (b : Bench) : Prop :=
  ∀ e ∈ b.points, e.2.format < 6 ∧ (e.2.safety = true → e.2.output = false)

/-- BN_SELFTEST reports no failure of bits 4 to 0 and the guard registers were restored (R91, R550). -/
abbrev Bench.SelftestPassed (b : Bench) : Prop := fld b.bn.selftest 4 0 = 0 ∧ b.gd.gbad = false

/-- The conditions of entry into RUN: R83 with R91 and R550, R34, R246, R308, R318, R414, R442, R449, R73 and R434 with
R485 and R501, and custody held by no other bench (R477). -/
abbrev Bench.MayRun (b : Bench) : Prop :=
  b.SelftestPassed ∧ b.PointsSound ∧
  (∀ n ∈ b.usedLoops, b.loopOk n = true) ∧ (∀ a ∈ allAxes, b.axisUsed a = true → b.axisOk a = true) ∧
  b.faceOk = true ∧ b.haulOk = true ∧ b.canOk = true ∧ b.kerfOk = true ∧
  (∀ i ∈ b.pe.cur, tasksFit i b.pe.tasks = true) ∧ loopRateOk b.conf = true ∧ b.stepRate ≤ 25000000 ∧
  b.haulFits = true ∧ b.canFits = true ∧ b.CopyFits ∧ b.nl.custIn = false

/-- The conditions of entry into SHADOW (R83): a pair with its Nalry lane up, and R34, R91, R485, R501, R550. -/
abbrev Bench.MayShadow (b : Bench) : Prop :=
  b.SelftestPassed ∧ b.paired = true ∧ b.nl.laneUp = true ∧ b.PointsSound ∧ b.CopyFits

/-! ### binary32 as numbers (R192) -/

/-- The number that a binary32 word stands for, a subnormal as zero (R192). An infinity stands beyond every finite value,
so that the order is the order of the words; a NaN stands for no number, and no statement asks for its one. -/
def fltNum (w : Word) : Rat :=
  let m : Rat := if fld w 30 23 = 0 then 0 else if fld w 30 23 = 255 then 2 ^ 200 else
    ((2 ^ 23 + fld w 22 0 : Nat) : Rat) * (2 : Rat) ^ ((fld w 30 23 : Int) - 150)
  if w.msb then -m else m

/-- A result with its flags is a number other than zero rounded to nearest, ties to even (R192): q units of 2^u, u the unit
of its magnitude and no smaller than 2^-149. Below the least normal number it is a zero of its sign with FUF, from 2^128 on
an infinity of its sign with FOF. -/
def RoundsTo (z : Rat) (r : Word × Sticky) : Prop :=
  ∃ (u : Int) (q : Nat),
    let unit : Rat := (2 : Rat) ^ u
    let sign : Word := if z < 0 then 0x80000000 else 0
    abs z < 2 ^ 24 * unit ∧ -149 ≤ u ∧ (2 ^ 23 * unit ≤ abs z ∨ u = -149) ∧
    abs (q * unit - abs z) ≤ unit / 2 ∧ (abs (q * unit - abs z) = unit / 2 → q % 2 = 0) ∧
    (q < 2 ^ 23 → r = (sign, fFuf)) ∧
    (2 ^ 23 ≤ q → 2 ^ 128 ≤ q * unit → r = (sign ||| 0x7F800000, fFof)) ∧
    (2 ^ 23 ≤ q → q * unit < 2 ^ 128 → r.2 = 0 ∧ fld r.1 30 23 ≠ 255 ∧ fltNum r.1 = if z < 0 then -(q * unit) else q * unit)

/-- n is the integer nearest to z, the even one of two. -/
def NearestInt (z : Rat) (n : Int) : Prop := abs ((n : Rat) - z) ≤ 1 / 2 ∧ (abs ((n : Rat) - z) = 1 / 2 → n % 2 = 0)

end Sys2Proof.Machine
end

