-- ==== Sys2Proof/Certificates/Slice0/Obligations.lean ====
section
/-!
DEFINITION. What is to be proved of the model: one definition per statement.
-/
open Sys2Proof Sys2Proof.Machine

/-! ### Counters of every block (R9) -/

/-- R44, R74, R135, R184, R211, R249, R275, R310, R346, R388, R412, R442, R471, R472, R500, R513, R554: a write to a
CNT_CLR register returns to 0 the counters whose bits are 1 and leaves the others as they are. -/
def Obligations.CountersClearByTheirBits : Prop :=
  ∀ (s : State) (n : BenchIx) (v : Word) (k : Fin 2) (task : Fin 16),
    let b := s.bench n
    let frame (b' : Bench) : Prop := b'.points = b.points ∧ b'.inst = b.inst ∧ b'.conf = b.conf ∧ b'.ev = b.ev ∧
      b'.bn.mode = b.bn.mode
    let clears (i : Instr) (word : Bench → Nat → Word) (base count : Nat) : Prop :=
      Gives i n s fun b' => frame b' ∧
        ∀ j, j < count → word b' (base + 4 * j) = if bitOf v j then 0 else word b (base + 4 * j)
    clears (.bnCntClr n v) Bench.bnWord 0x20 3 ∧
    clears (.tmCntClr n v) (Bench.tmWord s.hub) 0x30 4 ∧
    clears (.scCntClr n v) Bench.scWord 0x60 10 ∧
    clears (.peCntClr n v) Bench.peWord 0x28 3 ∧
    (Gives (.peCntClr n v) n s fun b' => b'.peWord 0x4C = (if bitOf v 17 then 0 else b.peWord 0x4C) ∧
      b'.taskWord task 0x18 = (if bitOf v 16 then 0 else b.taskWord task 0x18) ∧
      b'.taskWord task 0x14 = b.taskWord task 0x14 ∧ b'.taskWord task 0x1C = b.taskWord task 0x1C) ∧
    clears (.leCntClr n v) Bench.leWord 0x10 2 ∧
    (Gives (.leCntClr n v) n s fun b' => b'.leWord 0x1C = if bitOf v 16 then BitVec.allOnes 32 else b.leWord 0x1C) ∧
    clears (.rsCntClr n v) Bench.rsWord 0x10 2 ∧
    clears (.mxCntClr n v) Bench.mxWord 0x10 3 ∧
    clears (.fcCntClr n v) Bench.faceWord 0x120 6 ∧
    clears (.qnCntClr n v) Bench.quoinWord 0x40 3 ∧
    clears (.kfCntClr n v) Bench.kerfWord 0x10 2 ∧
    clears (.dgCntClr n v) Bench.digestWord 0x10 1 ∧
    clears (.hlCntClr n v) Bench.healthWord 0x10 2 ∧
    clears (.haCntClr n v) Bench.haWord 0x40 5 ∧
    clears (.cnCntClr n k v) (fun b => b.canWord k) 0x40 12 ∧
    clears (.nlCntClr n v) Bench.nlWord 0x20 5 ∧
    clears (.qcCntClr n v) Bench.qcWord 0x108 3 ∧
    ∃ u, exec (.gsCntClr v) s = .next u ∧ u.benches = s.benches ∧ u.pending = s.pending ∧
      ∀ j, j < 2 → u.mgWord (0x800C + 4 * j) = if bitOf v j then 0 else s.mgWord (0x800C + 4 * j)


/-! ### Time rail and pace (chapter 02) -/

/-- R50, R55 to R57, R64, R90: a bench that loses the reference in use goes on to the other one while that is good and
permitted, and into HOLDOVER otherwise; an input may become good 10 ms after its loss and after WAKE began, and a good permitted
reference starts RELOCK; 10 ms near the reference rail lock it
again; 1 s of HOLDOVER without a reference is FREE. The first epoch marker with a good reference sets the rail to the
reference rail; later markers steer it by at most 200 ppm; 100 ms of WAKE without a reference set it from the epoch source or
the calendar.
The model's own choices in it: assumption log 2, 3, 12, 54. -/
def Obligations.RailFollowsItsReferences : Prop :=
  (∀ (s : State) (n : BenchIx) (t : Nat) (refB : Bool),
    let b := (s.bench n).tick t
    let mode := s.hub.refMode
    let lost := (if refB then b.rail.lossBAt else b.rail.lossAAt).getD 0
    (b.rail.good refB = true → ∃ u, exec (.refLost n t refB) s = .next u ∧ OnlyBench n s u ∧
      (u.bench n).rail.good refB = false ∧ (u.bench n).rail.refLossCnt = inc b.rail.refLossCnt ∧
      (u.bench n).points = b.points ∧
      (b.rail.state = .locked → b.rail.onB = refB → b.rail.good (!refB) = true → mode < 2 →
        (u.bench n).rail.state = .locked ∧ (u.bench n).rail.onB = !refB) ∧
      (b.rail.state = .locked → b.rail.onB = refB → b.rail.good (!refB) = false ∨ ¬ mode < 2 →
        (u.bench n).rail.state = .holdover)) ∧
    (b.rail.good refB = false → b.rail.wakeAt + 10000000 ≤ b.rail.up → lost + 10000000 ≤ b.rail.up →
      ∃ u, exec (.refGood n t refB) s = .next u ∧ OnlyBench n s u ∧ (u.bench n).rail.good refB = true ∧
        (permitted mode refB = true → b.rail.state = .holdover ∨ b.rail.state = .free → (u.bench n).rail.state = .relock) ∧
        (u.bench n).inst = b.inst ∧ (u.bench n).points = b.points) ∧
    (b.rail.up < b.rail.wakeAt + 10000000 ∨ b.rail.up < lost + 10000000 → ∃ u, exec (.refGood n t refB) s = .next u ∧
      OnlyBench n s u ∧ (u.bench n).rail = b.rail ∧ (u.bench n).points = b.points) ∧
    (b.rail.state = .relock → ∀ a, b.rail.nearAt = some a → a + 10000000 ≤ b.rail.up →
      ∃ u, exec (.relockComplete n t) s = .next u ∧ OnlyBench n s u ∧
        (u.bench n).rail = { b.rail with state := .locked, epochOk := true }) ∧
    (b.rail.state = .holdover → b.rail.holdAt + 1000000000 ≤ b.rail.up → b.rail.anyPermitted mode = false →
      ∃ u, exec (.freeEntered n t) s = .next u ∧ OnlyBench n s u ∧
        (u.bench n).rail = { b.rail with state := .free } ∧ ((u.bench n).ev[(2 : Fin 18)]).getLsbD 2 = true)) ∧
  ∀ (s : State) (n : BenchIx) (t m : Nat) (ok : Bool) (life : BitVec 2),
    let b := (s.bench n).tick t
    let mode := s.hub.refMode
    (b.rail.state = .unlocked → b.rail.anyPermitted mode = true → ∃ u, exec (.epochMarker n t m ⟨ok, life⟩) s = .next u ∧
      OnlyBench n s u ∧ (u.bench n).rail.state = .locked ∧ (u.bench n).rail.now = m ∧ (u.bench n).rail.epochOk = true) ∧
    (b.rail.state = .locked → b.rail.takeNext = false → ∃ u, exec (.epochMarker n t m ⟨ok, life⟩) s = .next u ∧
      OnlyBench n s u ∧ (u.bench n).rail.now = b.rail.now ∧ (u.bench n).rail.offset = (b.rail.now : Int) - m ∧
      -200000 ≤ (u.bench n).rail.freqAdj ∧ (u.bench n).rail.freqAdj ≤ 200000 ∧
      ((u.bench n).rail.epochOk = true ↔ ((b.rail.now : Int) - m).natAbs ≤ 2)) ∧
    (b.bn.mode = .wake → b.rail.state = .unlocked → b.rail.wakeAt + 100000000 ≤ b.rail.up →
      b.rail.anyPermitted mode = false → ∃ u, exec (.timeLockTimeout n t ⟨ok, life⟩) s = .next u ∧ OnlyBench n s u ∧
        (u.bench n).rail.state = .free ∧
        (u.bench n).rail.now = if s.hub.epochSrc = 0 then s.hub.calNs else s.hub.mref)

/-- R59 to R63, R531, R93: markers and PTM dialogues set the module reference rail where they are its source, a lost
marker clears SYNC_OK on the module and raises SYNC_LOST on every bench, TIME_SET sets the rail of the bench and marks the
other benches in CONFIGURE, TIME_READ answers the rail, and operating hours count while VIN is good.
The model's own choices in it: assumption log 2 to 4, 12. -/
def Obligations.ModuleTimeAndTimeCommands : Prop :=
  ∀ (s : State) (t m : Nat) (c : Cmd) (lo hi : Word) (n : BenchIx),
    let h := s.hub.tick t
    let b := s.bench c.bench
    (h.syncRole = 1 → ∃ u, exec (.syncMarker t m) s = .next u ∧ u.benches = s.benches ∧ u.hub.syncOk = true ∧
      u.hub.mref = if h.epochSrc = 1 then m + h.syncComp.toNat / 100 else h.mref) ∧
    (h.syncRole = 1 → h.syncDown = false → h.syncAt + 5000000 ≤ h.up → ∃ u, exec (.syncLost t) s = .next u ∧
      u.hub.syncOk = false ∧ ∀ k, ((u.bench k).ev[(2 : Fin 18)]).getLsbD 3 = true ∧ (u.bench k).inst = (s.bench k).inst) ∧
    (∃ u, exec (.ptmDialogue t m) s = .next u ∧ u.benches = s.benches ∧ u.hub.ptmAt = some h.up ∧
      u.hub.mref = if h.byPtm then m else h.mref) ∧
    (b.bn.bootRom = false → b.bn.mode = .configure → s.hub.timeSettable = true → b.Answers c →
      (∀ k, (s.bench k).ix = k) → b.issued (.timeSet c lo hi) = true → ∃ u, exec (.timeSet c lo hi) s = .next u ∧ u.hub.mref = cat64 lo hi ∧
        (u.bench c.bench).rail.now = cat64 lo hi ∧ Completed c .ok (cat64 lo hi) b (u.bench c.bench) ∧
        ∀ k, k ≠ c.bench → (s.bench k).bn.mode = .configure → (u.bench k).rail = { (s.bench k).rail with takeNext := true }) ∧
    (b.Takes modesAny → b.Answers c → b.issued (.timeRead c) = true → ∃ u, exec (.timeRead c) s = .next u ∧ OnlyBench c.bench s u ∧
      Completed c .ok b.rail.now b (u.bench c.bench) ∧ (u.bench c.bench).rail = b.rail) ∧
    (s.hub.vinGood = true → ∃ u, exec (.opHoursTick n t) s = .next u ∧ OnlyBench n s u ∧
      (u.bench n).bn.life.opHours = inc (s.bench n).bn.lifeRead.opHours ∧
      (u.bench n).bn.life.powerCycles = (s.bench n).bn.lifeRead.powerCycles ∧
      (u.bench n).bn.life.starts = (s.bench n).bn.lifeRead.starts)

/-- R68 to R72, R77: the pace governor moves the supply only inside the limits of TM_PACE_LIM; a pace below the minimum
goes to the ceiling unless the junction is hot, and after 1 ms is an error; a hot junction withholds raises until it has
cooled; a demand raises by 30 mV.
The model's own choices in it: assumption log 2, 3, 54. -/
def Obligations.PaceGovernor : Prop :=
  ∀ (s : State) (n : BenchIx) (t rate : Nat) (tj : Int) (task : Fin 16) (v : Word),
    let b := (s.bench n).tick t
    let w := v &&& 0x0FFF0FFF#32
    (rate < 100 → ∃ u, exec (.paceLow n t rate) s = .next u ∧ OnlyBench n s u ∧ (u.bench n).rail.paceLow = true ∧
      (u.bench n).rail.paceRate = rate ∧
      (u.bench n).rail.paceMv = if b.rail.noRaise || b.rail.ceil ≤ b.rail.paceMv then b.rail.paceMv else b.rail.ceil) ∧
    (b.rail.paceLow = true → b.rail.paceFaulted = false → b.rail.paceLowAt + 1000000 ≤ b.rail.up →
      ∃ u, exec (.paceFault n t) s = .next u ∧ OnlyBench n s u ∧ (u.bench n).rail.paceFaulted = true ∧
        (u.bench n).rail.paceMv = b.rail.paceMv) ∧
    (100 ≤ rate → ∃ u, exec (.paceRecovered n t rate) s = .next u ∧ OnlyBench n s u ∧
      (u.bench n).rail.paceLow = false ∧ (u.bench n).rail.paceFaulted = false ∧
      (b.bn.mode ≠ .run → (u.bench n).rail.paceMv = b.rail.clip (fld b.rail.paceRest 11 0))) ∧
    (1100 < tj → ∃ u, exec (.tjHigh n t tj) s = .next u ∧ OnlyBench n s u ∧ (u.bench n).rail.noRaise = true ∧
      (u.bench n).rail.paceMv = b.rail.paceMv) ∧
    (tj < 1050 → b.rail.paceLow = false → ∃ u, exec (.tjRecovered n t tj) s = .next u ∧ OnlyBench n s u ∧
      (u.bench n).rail = { b.rail with tj := tj, noRaise := false }) ∧
    (b.bn.mode = .run → task ≠ 0 → b.pe.runs[task].active = true → b.pe.runs[task].demandAt = none →
      4 * b.pe.tasks[task].window ≤ 5 * (b.rail.now - b.pe.runs[task].ik) → b.rail.noRaise = false →
      b.rail.paceMv < b.rail.ceil → ∃ u, exec (.raiseDemand n t task) s = .next u ∧ OnlyBench n s u ∧
        (u.bench n).rail.paceMv = min (b.rail.paceMv + 30) b.rail.ceil ∧
        (u.bench n).rail.raiseCnt = inc b.rail.raiseCnt ∧
        (u.bench n).pe.runs[task].demandAt = some b.rail.now) ∧
    (660 ≤ fld w 27 16 → fld w 27 16 ≤ fld w 11 0 → fld w 11 0 ≤ 900 → ∃ u, exec (.tmPaceLimWrite n v) s = .next u ∧
      OnlyBench n s u ∧ (u.bench n).rail.paceLim = w ∧
      fld w 27 16 ≤ (u.bench n).rail.paceMv ∧ (u.bench n).rail.paceMv ≤ fld w 11 0) ∧
    (660 ≤ fld v 11 0 → fld v 11 0 ≤ 900 → ∃ u, exec (.tmPaceRestWrite n v) s = .next u ∧ OnlyBench n s u ∧
      (u.bench n).rail.paceRest = BitVec.ofNat 32 (fld v 11 0) ∧
      ((s.bench n).bn.mode ≠ .run → (s.bench n).rail.paceLow = false →
        (u.bench n).rail.paceMv = (s.bench n).rail.clip (fld v 11 0)))

/-! ### Modes and start-up (chapter 03) -/

/-- R81, R83 to R87, R95, R97, R99, R23, R43, R151, R152: commands and events that take a bench out of a mode. HOLD keeps
the point table and instance data where it stands and collects causes; CONFIGURE by a cold start loads the image's
initial instance data; a reset leads to WAKE with the snapshot kept and nothing in progress.
The model's own choices in it: assumption log 2 to 4, 24 to 27, 54. -/
def Obligations.BenchLeavesItsMode : Prop :=
  ∀ (s : State) (c : Cmd) (n : BenchIx) (t : Nat) (task : Fin 16),
    let b := s.bench c.bench
    let x := (s.bench n).tick t
    (b.bn.bootRom = false → b.bn.mode = .run ∨ b.bn.mode = .shadow → Serves (.benchHold c) c s fun b' =>
      b'.bn.mode = .hold ∧ b'.bn.prev = b.bn.mode ∧ b'.bn.holdCause.getLsbD 0 = true ∧ b'.bn.snapBusy = true) ∧
    (b.bn.bootRom = false → b.bn.mode = .hold → Serves (.benchHold c) c s fun b' => b'.bn.mode = .hold ∧
      b'.bn.holdCause = b.bn.holdCause ||| 1 ∧ b'.inst = b.inst ∧ b'.points = b.points ∧ b'.snap = b.snap) ∧
    (b.bn.bootRom = false → b.bn.mode = .run ∨ b.bn.mode = .shadow → Serves (.benchStop c) c s fun b' =>
      b'.bn.mode = .configure ∧ b'.bn.prev = b.bn.mode) ∧
    (b.bn.bootRom = false → b.bn.mode = .hold → b.bn.trans = none → Serves (.benchColdStart c) c s fun b' =>
      b'.bn.mode = .configure ∧ b'.bn.prev = .hold ∧ b'.bn.holdCause = 0 ∧ b'.snapOk = false ∧
      ∀ i, b.pe.cur = some i → b'.inst = initialData i) ∧
    (b.Takes modesAny → Serves (.benchReset c) c s fun b' => b'.bn.mode = .wake ∧ b'.bn.prev = b.bn.mode ∧
      b'.bn.start = 2 ∧ b'.qc.inflight = [] ∧ b'.points = [] ∧ b'.pe.forces = [] ∧ b'.snap = b.snap) ∧
    Gives (.coreRailLow n t) n s (fun b' => b'.bn.mode = .wake ∧ b'.bn.start = 3 ∧ b'.bn.coreOk = false ∧
      b'.qc.inflight = []) ∧
    (b.Takes modesAny → b.Answers c → Serves (.hostKeepalive c) c s fun b' =>
      b'.bn = { b.bn with hostAt := b.rail.up } ∧ Completed c .ok 0 b b') ∧
    (x.bn.mode ≠ .wake → x.bn.hostSilent = false → x.bn.hostTmo ≠ 0 →
      x.bn.hostAt + x.bn.hostTmo.toNat * 1000000 < x.rail.up → Gives (.hostSilence n t) n s fun b' =>
        b'.bn.hostSilent = true ∧
        (x.bn.mode = .run → x.bn.modeCfg.getLsbD 1 = true → b'.bn.mode = .hold ∧ b'.bn.holdCause.getLsbD 5 = true) ∧
        (x.bn.mode ≠ .run ∨ x.bn.modeCfg.getLsbD 1 = false → b'.bn.mode = x.bn.mode)) ∧
    (x.bn.snapBusy = true → Gives (.snapshotComplete n t) n s fun b' =>
      b'.bn = { x.bn with snapBusy := false } ∧ b'.snapOk = x.snap.isSome ∧ b'.snap = x.snap ∧ b'.inst = x.inst) ∧
    (x.bn.mode = .run → x.pe.runs[task].active = true → x.watchdogAt task ≤ x.rail.now →
      Gives (.watchdogTrip n t task) n s fun b' => b'.bn.mode = .hold ∧ b'.bn.holdCause.getLsbD 2 = true ∧
        b'.pe.wdTask = some task ∧ b'.pe.wdRail = x.rail.now) ∧
    (x.fc.linkOk = true → Gives (.barrierLinkLoss n t) n s fun b' => b'.fc.linkOk = false ∧
      (x.bn.mode = .run → b'.bn.mode = .hold ∧ b'.bn.holdCause.getLsbD 4 = true) ∧
      (x.bn.mode ≠ .run → b'.bn.mode = x.bn.mode ∧ b'.points = x.points))

/-- R83, R84, R90 to R92, R97, R98, R477: a bench start ends in CONFIGURE or, over a usable snapshot, in HOLD; BENCH_RUN
and BENCH_SHADOW enter their mode under the conditions that the rules of `Bench.MayRun` and `Bench.MayShadow` name; a warm
restart checks pages first, then the conditions of its target, and then resumes; a bench of a pair sends its run claim
first and decides by the claims of 4 µs.
The model's own choices in it: assumption log 2 to 4, 24 to 27, 54. -/
def Obligations.BenchEntersItsMode : Prop :=
  ∀ (s : State) (c : Cmd) (n : BenchIx) (t fail rest : Nat) (self : BitVec 5) (f1 f2 i h g1 g2 q1 q2 : Bool)
    (claim : Option Bool) (tag : BitVec 16) (noirq warm : Bool) (since : Nat),
    let b := s.bench c.bench
    let x := (s.bench n).tick t
    (x.bn.mode = .wake → x.rail.state ≠ .unlocked → s.hub.vinGood = true → s.hub.inReset = false →
      Gives (.benchStartComplete n t self f1 f2 i h g1 g2 q1 q2) n s fun b' =>
        (b'.bn.mode = .configure ∨ b'.bn.mode = .hold) ∧ (x.snap = none → b'.bn.mode = .configure) ∧
        (x.bn.fwSwap = false → b'.bn.bootRom = (!(f1 && x.bn.fwCur.isSome) && !(f2 && x.bn.fwAlt.isSome)))) ∧
    (b.bn.bootRom = false → b.bn.mode = .configure → b.bn.trans = none → b.MayRun →
      (b.paired = false → b.bn.holdWait = 0 → Serves (.benchRun c) c s fun b' =>
        b'.bn.mode = .run ∧ b'.bn.prev = .configure ∧ b'.bn.trans = none) ∧
      (b.paired = true → Serves (.benchRun c) c s fun b' => b'.bn.mode = .configure ∧
        b'.bn.trans = some (.runClaim c.tag c.noirq b.rail.now false) ∧ b'.points = b.points)) ∧
    (b.bn.bootRom = false → b.bn.mode = .configure → b.bn.trans = none → b.MayShadow →
      Serves (.benchShadow c) c s fun b' => b'.bn.mode = .shadow ∧ b'.bn.prev = .configure) ∧
    (b.bn.bootRom = false → b.bn.mode = .hold → b.bn.snapBusy = false → b.bn.trans = none →
      Serves (.benchWarmRestart c 0) c s fun b' =>
        b'.bn = { b.bn with trans := some (.pageCheck c.tag c.noirq false b.rail.now) } ∧
        b'.inst = b.inst ∧ b'.points = b.points) ∧
    (b.bn.bootRom = false → b.bn.mode = .hold → b.bn.snapBusy = false → b.bn.trans = none →
      Serves (.benchWarmRestart c 1) c s fun b' =>
        b'.bn = { b.bn with trans := some (.pageCheck c.tag c.noirq true b.rail.now) }) ∧
    (x.bn.trans = some (.pageCheck tag noirq false since) → Gives (.restartCheckDone n t fail rest) n s fun b' =>
      (fail ≠ 0 → b'.bn.mode = x.bn.mode ∧ b'.bn.trans = none ∧ b'.bn.pageFail = BitVec.ofNat 32 fail) ∧
      (fail = 0 → x.MayRun → x.paired = false → x.bn.holdWait = 0 → b'.bn.mode = .run ∧ b'.bn.resumed = true ∧
        b'.bn.pageRest = BitVec.ofNat 32 rest) ∧
      (fail = 0 → x.MayRun → x.paired = true → b'.bn.mode = x.bn.mode ∧
        b'.bn.trans = some (.runClaim tag noirq x.rail.now true)) ∧
      (fail = 0 → ¬x.MayRun → b'.bn.mode = x.bn.mode ∧ b'.bn.trans = none)) ∧
    (x.bn.trans = some (.pageCheck tag noirq true since) → Gives (.restartCheckDone n t fail rest) n s fun b' =>
      (fail = 0 → x.MayShadow → b'.bn.mode = .shadow ∧ b'.bn.trans = none) ∧
      (fail = 0 → ¬x.MayShadow → b'.bn.mode = x.bn.mode ∧ b'.bn.trans = none)) ∧
    (x.bn.trans = some (.runClaim tag noirq since warm) → since + 4000 ≤ x.rail.now →
      Gives (.runClaimDone n t claim) n s fun b' => b'.bn.trans = none ∧
        (x.claimFails claim = true → b'.bn.mode = x.bn.mode) ∧
        (x.claimFails claim = false → x.bn.holdWait = 0 → b'.bn.mode = .run))

/-! ### Scheduler and FIFOs (chapter 04) -/

/-- R109 to R113, R115, R118 to R121, R123, R124, R134, R186: a free core takes the ready slot that is next, its flags
cleared in the same step, or an item; overrun is noted once; results are released in order; a FIFO's notification is
posted; writes of SC_CTRL, SC_FLOW and SC_QCFG act.
The model's own choices in it: assumption log 2, 3, 30, 54. -/
def Obligations.SchedulerMovesWork : Prop :=
  ∀ (s : State) (n : BenchIx) (t : Nat) (k : Fin 4) (fl : Fin 256) (f : Fin 32) (q : Fin 8) (v : Word),
    let b := s.bench n
    let x := b.tick t
    (x.cores[k].run = .idle → x.switching = false → x.bn.mode = .run → ∀ y h, x.nextSlot = some y → y.task ≠ 0 →
      x.pe.handler y.handler = some h → Gives (.dispatch n t k) n s fun b' =>
        b'.cores[k].run = .segment y.task y.slot ∧ b'.cores[k].pc = h.entry ∧ b'.cores[k].ip = h.ip ∧
        b'.cores[k].w[1] = (Tbl.get {} x.sc.slots y.slot.val).flags &&& y.mask ∧
        (Tbl.get {} b'.sc.slots y.slot.val).flags = (Tbl.get {} x.sc.slots y.slot.val).flags &&& ~~~ y.mask ∧
        b'.inst = x.inst ∧ b'.points = x.points) ∧
    (x.cores[k].run = .idle → x.switching = false → x.nextSlot = none ∨ x.bn.mode ≠ .run → ∀ i h,
      x.nextItem = some (q, i) → x.pe.handler i.handler = some h → Gives (.dispatch n t k) n s fun b' =>
        b'.cores[k].run = .item i ∧ b'.cores[k].pc = h.entry ∧ b'.cores[k].w[1] = i.arg0 ∧
        b'.sc.queues = x.sc.queues.set q (x.sc.queues[q].erase i) ∧ b'.inst = x.inst ∧ b'.points = x.points) ∧
    (∀ i, x.cores[k].run = .item i → x.cores[k].dispatchedAt + 32768 ≤ x.rail.now → x.cores[k].overrun = false →
      Gives (.itemOverrun n t k) n s fun b' => b'.cores[k] = { x.cores[k] with overrun := true } ∧
        b'.sc.cnt = x.sc.cnt.set 9 (inc x.sc.cnt[9])) ∧
    (∀ r, x.sc.empties.contains (fl.val, (x.flow fl.val).release) = false →
      x.sc.results.find? (fun r => r.flow = fl.val && r.seq = (x.flow fl.val).release) = some r → r.done = true →
      r.effects = [] → Gives (.reorderRelease n t fl) n s fun b' =>
        (b'.flow fl.val).release = ((x.flow fl.val).release + 1) % 65536 ∧ b'.sc.results = x.sc.results.erase r) ∧
    (∀ r p w st src, x.sc.empties.contains (fl.val, (x.flow fl.val).release) = false →
      x.sc.results.find? (fun r => r.flow = fl.val && r.seq = (x.flow fl.val).release) = some r → r.done = true →
      r.effects = [.point p w st src] → x.bn.mode = .run → (x.point p).source = src.code →
      Gives (.reorderRelease n t fl) n s fun b' => (b'.point p).stamp = st ∧
        (b'.flow fl.val).release = ((x.flow fl.val).release + 1) % 65536) ∧
    (∀ len r, (x.fifo f).notify = len :: r → x.bn.mode = .run → x.sc.ctrl.getLsbD 3 = true →
      x.hasRoom (mkIx 7 (x.fifo f).nq) = true → Gives (.fifoNotify n t f) n s fun b' => (b'.fifo f).notify = r ∧
        b'.sc.queues = x.sc.queues.set (mkIx 7 (x.fifo f).nq) (x.sc.queues[mkIx 7 (x.fifo f).nq] ++
          [{ queue := mkIx 7 (x.fifo f).nq, src := 3, fref := true, fifo := f.val, handler := (x.fifo f).nhandler,
             arg0 := BitVec.ofNat 32 len, stamp := x.rail.now }])) ∧
    Gives (.scCtrlWrite n v) n s (fun b' => b'.sc.ctrl = v &&& 0xFF ∧ ∀ (p : Fin 8) i, i ∈ b'.sc.queues[p] ↔
      i ∈ b.sc.queues[p] ∧ ¬(i.src < 8 ∧ b.sc.ctrl.getLsbD i.src = true ∧ v.getLsbD i.src = false)) ∧
    ((b.flow fl.val).en = false → (b.flow fl.val).next = (b.flow fl.val).release → v.getLsbD 31 = true →
      1 ≤ fld v 5 0 → fld v 5 0 ≤ 32 → Gives (.scFlowWrite n fl v) n s fun b' =>
        b'.flow fl.val = { cfg := v &&& 0x8007003F, next := 0, release := 0 } ∧ b'.sc.queues = b.sc.queues) ∧
    ((b.flow fl.val).en = true → v.getLsbD 31 = false → 1 ≤ fld v 5 0 → fld v 5 0 ≤ 32 →
      Gives (.scFlowWrite n fl v) n s fun b' => (b'.flow fl.val).en = false ∧
        (b'.flow fl.val).release = (b.flow fl.val).release ∧
        ∀ (p : Fin 8) i, i ∈ b'.sc.queues[p] ↔ i ∈ b.sc.queues[p] ∧ ¬(i.ord = true ∧ i.flow = fl.val)) ∧
    (b.bn.mode = .configure → 0 < fld v 12 0 → fld v 12 0 ≤ 4096 → fld v 28 16 ≤ fld v 12 0 →
      reserveSum (b.sc.qcfg.set q (v &&& 0x9FFF1FFF)) ≤ 4096 → Gives (.scQcfgWrite n q v) n s fun b' =>
        b'.sc.qcfg = b.sc.qcfg.set q (v &&& 0x9FFF1FFF))

/-- R45, R126 to R128, R130 to R133, R137 to R139: the host writes words and ends packets, pops the head word, drops the
rest of a packet, flushes a FIFO that is off, and configures FIFOs and the two shares of DRAM.
The model's own choices in it: assumption log 2, 3, 30, 55. -/
def Obligations.FifosKeepTheirPackets : Prop :=
  ∀ (s : State) (n : BenchIx) (f : Fin 32) (w v : Word) (e : Bool) (r : List (Word × Bool)),
    let b := s.bench n
    let x := b.fifo f
    (x.en = true → x.prod = 1 → x.full = false → x.dropping = false →
      Gives (.fqWr n f w) n s (fun b' => (b'.fifo f).words = x.words ++ [(w, false)] ∧ (b'.fifo f).wrOpen = true ∧
        ∀ m, m ≠ f → b'.fifo m = b.fifo m) ∧
      Gives (.fqWrEop n f w) n s (fun b' => (b'.fifo f).words = x.words ++ [(w, true)] ∧ (b'.fifo f).wrOpen = false ∧
        (x.notifies = true → (b'.fifo f).notify = x.notify ++ [x.wrLen + 1]) ∧ ∀ m, m ≠ f → b'.fifo m = b.fifo m)) ∧
    (x.full = true ∨ x.prod ≠ 1 ∨ x.en = false →
      Gives (.fqWr n f w) n s (fun b' => (b'.fifo f).words = x.words ∧ (b'.fifo f).spoil = inc x.spoil)) ∧
    (x.words = (w, e) :: r → x.cons = 1 → x.en = true → x.headLocked = false → Gives (.fqHostPop n f) n s fun b' =>
      (b'.fifo f).words = r ∧ b'.fq.hostWord = w ∧ b'.fq.hostValid = true ∧ b'.fq.hostEop = e) ∧
    (x.words = [] → Gives (.fqHostPop n f) n s fun b' => b'.fq.hostValid = false ∧ b'.fq.f = b.fq.f) ∧
    (x.en = true → x.rdOpen = true → 0 < x.pkts → Gives (.dropRemainder n f) n s fun b' =>
      (b'.fifo f).words = (x.words.dropWhile fun y => !y.2).drop 1 ∧ (b'.fifo f).rdOpen = false ∧ b'.fq.cmdStat = 0) ∧
    (x.en = true → x.rdOpen = true → x.pkts = 0 → Gives (.dropRemainder n f) n s fun b' =>
      (b'.fifo f).words = [] ∧ (b'.fifo f).dropping = true ∧ b'.fq.cmdStat = 2) ∧
    (x.en = true → x.rdOpen = false → Gives (.dropRemainder n f) n s fun b' => b'.fq = { b.fq with cmdStat := 1 }) ∧
    (x.en = false → Gives (.flush n f) n s fun b' => (b'.fifo f).words = [] ∧ (b'.fifo f).dropping = false ∧
      (b'.fifo f).cfg = x.cfg ∧ b'.fq.cmdStat = 0) ∧
    (x.en = true → Gives (.flush n f) n s fun b' => b'.fq = { b.fq with cmdStat := 3 }) ∧
    (fld v 26 24 ≤ 5 → fld v 22 20 ≤ 5 → v.getLsbD 31 = false → x.en = false → x.words = [] →
      Gives (.fqCfgWrite n f v) n s fun b' => (b'.fifo f).cfg = v &&& 0x877F00FF ∧ (b'.fifo f).words = []) ∧
    (fld v 26 24 ≤ 5 → fld v 22 20 ≤ 5 → v.getLsbD 31 = true → x.words = [] → x.en = false →
      b.boundTo f 26 24 (fld v 26 24) < 8 → b.boundTo f 22 20 (fld v 22 20) < 8 →
      Gives (.fqCfgWrite n f v) n s fun b' => (b'.fifo f).en = true ∧ (b'.fifo f).prod = fld v 26 24 ∧
        (b'.fifo f).cons = fld v 22 20) ∧
    (fld v 6 0 ≤ 64 → b.spillUsed - x.spillMib + fld v 6 0 + b.bn.dramCapture.toNat ≤ 896 → x.en = false → x.words = [] →
      Gives (.fqSpillWrite n f v) n s fun b' => (b'.fifo f).spillMib = fld v 6 0 ∧ (b'.fifo f).cfg = x.cfg) ∧
    (b.bn.mode = .configure → v.toNat ≤ 512 → v.toNat + b.spillUsed ≤ 896 → Gives (.bnDramCaptureWrite n v) n s fun b' =>
      b'.bn = { b.bn with dramCapture := v } ∧ b'.fq = b.fq)

/-! ### Program engine (chapter 05) -/

/-- R29, R30, R98, R141 to R149, R183, R206, R209: an image that passes its checks goes into the free slot, and one that
does not empties it; activation makes the free slot current; a cycle latches its inputs, copies them to instance SRAM,
ends with its span, and its outputs are applied at their instant or count as late.
The model's own choices in it: assumption log 2 to 5, 31, 33, 55. -/
def Obligations.CyclesRunFromTheImage : Prop :=
  ∀ (s : State) (c : Cmd) (img : Image) (task p ph off d g : Word) (n : BenchIx) (t : Nat) (k : Fin 16),
    let b := s.bench c.bench
    let x := (s.bench n).tick t
    let m : Fin 16 := mkIx 15 task.toNat
    (b.Takes modesAny → b.Answers c → b.pe.chg = none → b.nl.migr = none → b.paired = false →
      imageCheck (b.pe.cur.map (·.instSize)) img = true → imageTiming img = true → b.mapsOk img = true →
      imageBudget img = true → loopRateOk (imageConf img) = true → (b.underConf img).stepRate ≤ 25000000 →
      Serves (.progLoad c img) c s fun b' => b'.pe.freeImg = some img ∧ b'.pe.cur = b.pe.cur ∧
        b'.inst = b.inst ∧ Completed c .ok img.id.toNat b b') ∧
    (b.Takes modesAny → b.Answers c → b.pe.chg = none → b.nl.migr = none →
      imageCheck (b.pe.cur.map (·.instSize)) img = false → Serves (.progLoad c img) c s fun b' =>
        b'.pe.freeImg = none ∧ b'.pe.cur = b.pe.cur ∧ Completed c .checkFailed 0 b b') ∧
    (b.bn.bootRom = false → b.bn.mode = .configure → b.bn.trans = none → ∀ i, b.pe.freeImg = some i →
      Serves (.progActivate c) c s fun b' => b'.pe.cur = some i ∧ b'.pe.freeImg = b.pe.cur ∧
        b'.pe.tasks = imageTasks i ∧ b'.inst = initialData i ∧ b'.snapOk = false ∧ b'.bn.mode = .configure) ∧
    (b.bn.bootRom = false → b.bn.mode = .configure → b.Answers c → 1 ≤ task.toNat → task.toNat ≤ 15 →
      timingOk p.toNat ph.toNat off.toNat d.toNat g.toNat = true → ∀ i, b.pe.cur = some i →
      i.tasks.any (fun y => y.task = m) = true →
      tasksFit i (b.pe.tasks.set m { b.pe.tasks[m] with
        p := p.toNat, ph := ph.toNat, off := off.toNat, d := d.toNat, g := g.toNat }) = true →
      Serves (.progSetTiming c task p ph off d g) c s fun b' => Completed c .ok 0 b b' ∧
        b'.pe.tasks[m] = { b.pe.tasks[m] with
          p := p.toNat, ph := ph.toNat, off := off.toNat, d := d.toNat, g := g.toNat } ∧
        ∀ j : Fin 16, j ≠ m → b'.pe.tasks[j] = b.pe.tasks[j]) ∧
    (x.bn.mode = .run → k ≠ 0 → x.pe.tasks[k].en = true → x.pe.tasks[k].isInstant x.rail.now = true →
      x.pe.startAt ≤ x.rail.now → x.pe.runs[k].active = false → Gives (.inputInstant n t k) n s fun b' =>
        b'.pe.runs[k].active = true ∧ b'.pe.runs[k].copied = false ∧ b'.pe.runs[k].ik = x.rail.now ∧
        b'.pe.runs[k].ok = x.rail.now + x.pe.tasks[k].off * 1000 ∧ b'.inst = x.inst) ∧
    (x.bn.mode = .run → k ≠ 0 → x.pe.runs[k].active = true → x.pe.runs[k].copied = false →
      Gives (.imageCopyDone n t k) n s fun b' => b'.pe.runs[k].copied = true ∧ b'.points = x.points ∧
        (∀ y, x.pe.slotImg x.pe.tasks[k].startSlot = some y →
          (Tbl.get {} b'.sc.slots x.pe.tasks[k].startSlot.val).flags =
            (Tbl.get {} x.sc.slots x.pe.tasks[k].startSlot.val).flags ||| lowBit y.mask) ∧
        ∀ q e, x.pe.runs[k].frozen = [(q, e)] → b'.load (x.topInstance k) 4 = e.value.toNat ∧
          b'.load (x.topInstance k + 4) 2 = e.quality.toNat) ∧
    (x.bn.mode = .run → k ≠ 0 → x.pe.runs[k].active = true → x.pe.runs[k].dispatched = true →
      x.slotsPending k = false → Gives (.endOfLogic n t k) n s fun b' =>
        b'.pe.runs[k].active = false ∧ b'.pe.runs[k].cycles = inc x.pe.runs[k].cycles ∧
        b'.pe.runs[k].last = BitVec.ofNat 32 (x.rail.now - x.pe.runs[k].ik) ∧
        ∀ y q, x.pe.taskImg k = some y → y.outputs = [q] → (x.point q).source = 4 →
          (b'.point q).stamp = x.pe.runs[k].ok) ∧
    (x.bn.mode = .run → ∀ y, x.pe.staged = [y] → y.due ≤ x.rail.now → y.late = false → x.outChannel y.point = none →
      (x.settleForces y.point y.due).forceOn y.point = none → Gives (.outputInstant n t) n s fun b' =>
        Tbl.get (0, 0) b'.ha.out y.point = (y.value, y.due) ∧ (b'.point y.point).quality.getLsbD 4 = false ∧
        b'.pe.staged = []) ∧
    (x.bn.mode = .run → ∀ y, x.pe.staged = [y] → y.due ≤ x.rail.now → y.late = true → y.period ≠ 0 →
      Gives (.outputInstant n t) n s fun b' => b'.bn.outLate = inc x.bn.outLate ∧
        (b'.point y.point).quality.getLsbD 11 = true ∧ (b'.point y.point).value = (x.point y.point).value ∧
        b'.pe.staged = [{ y with due := y.due + y.period, late := false }])

/-- R166, R169, R170, R173 to R180, R182: forces are committed, set and cleared; an online change copies pages in gaps,
tests each gap once, waits for one that fits, gives up after its limit, and switches the image as one; an abort leaves the old image.
The model's own choices in it: assumption log 2 to 5, 31, 33, 55. -/
def Obligations.ForcesAndOnlineChange : Prop :=
  ∀ (s : State) (c : Cmd) (point value ack md w : Word) (n : BenchIx) (t : Nat) (i : Fin 1024),
    let b := s.bench c.bench
    let y := s.bench n
    let x := (s.bench n).tick t
    (b.bn.bootRom = false → modesCfgRunHold b.bn.mode = true → b.pe.chg = none → point.toNat ≤ 16383 →
      (b.point point.toNat).forceable = true → ∀ j, b.entryFor point.toNat = some j →
      Serves (.forceSet c point value) c s fun b' => (b'.forceEntry j).en = true ∧
        (b'.forceEntry j).point = point.toNat ∧ (b'.forceEntry j).value = value ∧
        (b'.forceEntry j).seq = (b.forceEntry j).seq + 1) ∧
    (b.bn.bootRom = false → modesCfgRunHold b.bn.mode = true → b.pe.chg = none → point.toNat ≤ 16383 →
      Serves (.forceClear c point) c s fun b' => ∀ j, (b'.forceEntry j).en = true ↔
        (b.forceEntry j).en = true ∧ (b.forceEntry j).point ≠ point.toNat) ∧
    (b.bn.bootRom = false → modesCfgRunHold b.bn.mode = true → b.pe.chg = none →
      Serves (.forceClear c 0xFFFF) c s fun b' => ∀ j, (b'.forceEntry j).en = false) ∧
    (modesCfgRunHold y.bn.mode = true → y.pe.chg = none → Gives (.forceCommit n i w) n s fun b' =>
      (b'.forceEntry i.val).en = w.getLsbD 31 ∧ (b'.forceEntry i.val).point = fld w 13 0 ∧
      (b'.forceEntry i.val).value = (y.forceEntry i.val).staged ∧
      (b'.forceEntry i.val).seq = (y.forceEntry i.val).seq + 1) ∧
    (b.bn.bootRom = false → b.bn.mode = .run → ∀ old new, b.pe.cur = some old → b.pe.freeImg = some new →
      b.changeRefusal ack md old new = none → Serves (.progChange c ack md) c s fun b' =>
        (∃ ch, b'.pe.chg = some ch ∧ ch.tag = c.tag ∧ ch.maxDefer = md.toNat ∧ ch.todo = readPages new.mig ∧
          ch.told = false ∧ ch.switching = false) ∧
        b'.pe.cur = some old ∧ b'.pe.deferCnt = 0 ∧ b'.inst = b.inst) ∧
    (b.Takes modesAny → ∀ ch, b.pe.chg = some ch → ch.switching = false → Serves (.progChangeAbort c) c s fun b' =>
      b'.pe.chg = none ∧ b'.pe.cur = b.pe.cur ∧ b'.pe.freeImg = b.pe.freeImg) ∧
    (∀ ch old new p r, x.pe.chg = some ch → x.pe.cur = some old → x.pe.freeImg = some new → ch.switching = false →
      x.noLogic = true → ch.todo = p :: r → Gives (.moverPageCopy n t) n s fun b' => b'.inst = x.inst ∧
        ∃ ch', b'.pe.chg = some ch' ∧ ch'.todo = r ∧ p ∈ ch'.done ∧ ch'.dirty = ch.dirty.erase p) ∧
    (∀ ch, x.pe.chg = some ch → ch.gapAt = none → Gives (.switchGapTest n t) n s fun b' => b'.pe = x.pe) ∧
    (∀ ch g, x.pe.chg = some ch → ch.switching = false → x.noLogic = true → x.bn.mode = .run → ch.gapAt = some g →
      (x.gapFits ch g = true → Gives (.switchGapTest n t) n s fun b' =>
        b'.pe.chg = some { ch with switching := true, gapAt := none }) ∧
      (x.gapFits ch g = false → ch.gaps + 1 ≠ ch.maxDefer → Gives (.switchGapTest n t) n s fun b' =>
        b'.pe.chg = some { ch with gaps := ch.gaps + 1, told := true, gapAt := none } ∧ b'.pe.deferCnt = inc x.pe.deferCnt) ∧
      (x.gapFits ch g = false → ch.gaps + 1 = ch.maxDefer → Gives (.switchGapTest n t) n s fun b' =>
        b'.pe.chg = none ∧ b'.pe.cur = x.pe.cur ∧ b'.pe.freeImg = x.pe.freeImg)) ∧
    (∀ ch old new, x.pe.chg = some ch → x.pe.cur = some old → x.pe.freeImg = some new → ch.switching = true →
      (∀ k : Fin 4, x.cores[k].run = .idle) → Gives (.switch n t) n s fun b' => b'.pe.chg = none ∧
        b'.pe.cur = some new ∧ b'.pe.freeImg = some old ∧ b'.pe.tasks = imageTasks new ∧ b'.snapOk = false)

/-! ### Coith instructions (chapter 06) -/

/-- R189, R190: without S, and with H only for MUL, integer results wrap and set no flag, and logic works on the words as
they are; with H the operands are the low halves, sign-extended, and the result wraps to 16 bits without S; with S it is the
nearest limit of INT32, or of INT16 with H, and SAT sets exactly when it was beyond; DIV rounds toward zero and REM has the
sign of the dividend, a zero divisor sets DVZ, and −2³¹ by −1 sets SAT in DIV and gives remainder 0.
The model's own choices in it: assumption log 6. -/
def Obligations.CoithIntegerArithmetic : Prop :=
  (∀ (s : State) (k : CoreRef) (d a b : Reg) (imm : BitVec 16) (sat : Bool), s.CoreRuns k →
    let x := (s.core k).reg a
    let y := (s.core k).reg b
    Runs k (.coithNop k) s (s.withCore k (s.core k).step4) ∧
    Runs k (.coithAdd k d a b false false) s (s.wrote k d (x + y) 0) ∧
    Runs k (.coithSub k d a b false false) s (s.wrote k d (x - y) 0) ∧
    Runs k (.coithAddi k d a imm) s (s.wrote k d (x + imm.signExtend 32) 0) ∧
    Runs k (.coithMul k d a b false false) s (s.wrote k d (x * y) 0) ∧
    Runs k (.coithMul k d a b true sat) s (s.wrote k d ((x.setWidth 16).signExtend 32 * (y.setWidth 16).signExtend 32) 0) ∧
    Runs k (.coithAbs k d a false false false) s (s.wrote k d x.abs 0) ∧
    Runs k (.coithAbs k d a true false false) s (s.wrote k d (-x) 0) ∧
    Runs k (.coithAnd k d a b) s (s.wrote k d (x &&& y) 0) ∧
    Runs k (.coithOr k d a b) s (s.wrote k d (x ||| y) 0) ∧
    Runs k (.coithXor k d a b) s (s.wrote k d (x ^^^ y) 0) ∧
    Runs k (.coithAndi k d a imm) s (s.wrote k d (x &&& (0#16 ++ imm)) 0) ∧
    Runs k (.coithOri k d a imm) s (s.wrote k d (x ||| (0#16 ++ imm)) 0) ∧
    Runs k (.coithXori k d a imm) s (s.wrote k d (x ^^^ (0#16 ++ imm)) 0) ∧
    Runs k (.coithLui k d imm) s (s.wrote k d (imm ++ 0#16) 0)) ∧
  (∀ (s : State) (k : CoreRef) (d a b : Reg) (h : Bool), s.CoreRuns k →
    let val (r : Reg) : Int := if h then ((s.core k).reg r).setWidth 16 |>.toInt else ((s.core k).reg r).toInt
    let lo : Int := if h then -32768 else -2147483648
    let hi : Int := if h then 32767 else 2147483647
    let wraps (i : Instr) (z : Int) : Prop :=
      Runs k i s (s.wrote k d ((BitVec.ofInt 16 z).signExtend 32) 0)
    let clips (i : Instr) (lo hi z : Int) : Prop :=
      Runs k i s (s.wrote k d (BitVec.ofInt 32 (max lo (min hi z))) (if lo ≤ z ∧ z ≤ hi then 0 else fSat))
    (h = true → wraps (.coithAdd k d a b true false) (val a + val b)) ∧
    (h = true → wraps (.coithSub k d a b true false) (val a - val b)) ∧
    (h = true → wraps (.coithAbs k d a false true false) ((val a).natAbs : Int)) ∧
    (h = true → wraps (.coithAbs k d a true true false) (-val a)) ∧
    clips (.coithAdd k d a b h true) lo hi (val a + val b) ∧
    clips (.coithSub k d a b h true) lo hi (val a - val b) ∧
    clips (.coithAbs k d a false h true) lo hi ((val a).natAbs : Int) ∧
    clips (.coithAbs k d a true h true) lo hi (-val a) ∧
    clips (.coithMul k d a b false true) (-2147483648) 2147483647
      (((s.core k).reg a).toInt * ((s.core k).reg b).toInt)) ∧
  ∀ (s : State) (k : CoreRef) (d a b : Reg), s.CoreRuns k →
    let x := ((s.core k).reg a).toInt
    let y := ((s.core k).reg b).toInt
    (y = 0 → Runs k (.coithDiv k d a b) s (s.wrote k d (if 0 ≤ x then 0x7FFFFFFF#32 else 0x80000000#32) fDvz) ∧
      Runs k (.coithRem k d a b) s (s.wrote k d ((s.core k).reg a) fDvz)) ∧
    (x = -2147483648 → y = -1 →
      Runs k (.coithDiv k d a b) s (s.wrote k d 0x7FFFFFFF#32 fSat) ∧
      Runs k (.coithRem k d a b) s (s.wrote k d 0 0)) ∧
    (y ≠ 0 → ¬ (x = -2147483648 ∧ y = -1) → ∃ q r : Word,
      Runs k (.coithDiv k d a b) s (s.wrote k d q 0) ∧
      Runs k (.coithRem k d a b) s (s.wrote k d r 0) ∧
      x = y * q.toInt + r.toInt ∧ r.toInt.natAbs < y.natAbs ∧ (r.toInt ≠ 0 → (r.toInt < 0 ↔ x < 0)))

/-- R189, R190: shifts, bit fields, comparisons, selections and limits, each result a word the rules describe, no flag
set.
The model's own choices in it: assumption log 6. -/
def Obligations.CoithBitsAndChoices : Prop :=
  ∀ (s : State) (k : CoreRef) (d a b c : Reg) (amt pos width1 : Fin 32) (byReg h : Bool) (imm : BitVec 13) (cond : Cond),
    s.CoreRuns k →
    let x := (s.core k).reg a
    let y := (s.core k).reg b
    let n := if byReg then y.toNat % 32 else amt.val
    let val (r : Reg) : Int := if h then ((s.core k).reg r).setWidth 16 |>.toInt else ((s.core k).reg r).toInt
    let bool (p : Prop) (i : Instr) : Prop := (p → Runs k i s (s.wrote k d 1 0)) ∧ (¬p → Runs k i s (s.wrote k d 0 0))
    let holds (u v : Word) : Prop := match cond with
      | .eq => u = v | .ne => u ≠ v | .lt => u.toInt < v.toInt | .le => u.toInt ≤ v.toInt
      | .ltu => u.toNat < v.toNat | .leu => u.toNat ≤ v.toNat
    Runs k (.coithShf k d a b 0 byReg amt) s (s.wrote k d (x <<< n) 0) ∧
    Runs k (.coithShf k d a b 1 byReg amt) s (s.wrote k d (x >>> n) 0) ∧
    Runs k (.coithShf k d a b 2 byReg amt) s (s.wrote k d (x.sshiftRight n) 0) ∧
    Runs k (.coithShf k d a b 3 byReg amt) s (s.wrote k d (x.rotateLeft n) 0) ∧
    (∃ v, Runs k (.coithBit k d a false pos width1) s (s.wrote k d v 0) ∧
      ∀ i, i < 32 → v.getLsbD i = (decide (i ≤ width1.val) && x.getLsbD (pos.val + i))) ∧
    (pos.val + width1.val < 32 → ∃ v, Runs k (.coithBit k d a true pos width1) s (s.wrote k d v 0) ∧
      ∀ i, i < 32 → v.getLsbD i =
        if pos.val ≤ i ∧ i ≤ pos.val + width1.val then x.getLsbD (i - pos.val) else ((s.core k).reg d).getLsbD i) ∧
    Runs k (.coithMinmax k d a b false h) s (s.wrote k d (BitVec.ofInt 32 (min (val a) (val b))) 0) ∧
    Runs k (.coithMinmax k d a b true h) s (s.wrote k d (BitVec.ofInt 32 (max (val a) (val b))) 0) ∧
    bool (holds x y) (.coithCmp k d a b cond) ∧
    bool (holds x (imm.signExtend 32)) (.coithCmpi k d a cond imm) ∧
    Runs k (.coithSel k d a b c) s (s.wrote k d (if (s.core k).reg c = 0 then y else x) 0) ∧
    Runs k (.coithLim k d a b h) s (s.wrote k d (BitVec.ofInt 32 (max (val b) (min (val a) (val (pairHi b))))) 0) ∧
    Runs k (.coithPack k d a b) s (s.wrote k d (y.setWidth 16 ++ x.setWidth 16) 0) ∧
    Runs k (.coithCrc k d a) s (s.wrote k d (crcWord ((s.core k).reg d) x) 0)

/-- R191: products of Q15 operands go into the accumulator exactly and it is clipped once; scaling rounds convergently;
SAT sets exactly on clipping.
The model's own choices in it: assumption log 6. -/
def Obligations.CoithFixedPoint : Prop :=
  ∀ (s : State) (k : CoreRef) (d a b : Reg) (neg : Bool) (sh : BitVec 5) (sh6 : BitVec 6), s.CoreRuns k →
    let q (r : Reg) : Int := (((s.core k).reg r).setWidth 16).toInt
    let hiq (r : Reg) : Int := (((s.core k).reg r).extractLsb 31 16).toInt
    let acc : Int := (s.core k).a.toInt
    let flagged (lo hi z : Int) : Sticky := if lo ≤ z ∧ z ≤ hi then 0 else fSat
    let toA (i : Instr) (z : Int) : Prop :=
      Runs k i s (s.wroteA k (BitVec.ofInt 40 (max (-549755813888) (min 549755813887 z)))
        (flagged (-549755813888) 549755813887 z))
    let sac (q30 : Bool) (lo hi z : Int) : Prop :=
      Runs k (.coithSac k d q30 sh) s (s.wrote k d (BitVec.ofInt 32 (max lo (min hi z))) (flagged lo hi z))
    let p := q a * q b
    Runs k (.coithQmul k d a b) s (s.wrote k d (BitVec.ofInt 32 (min 32767 (roundDiv p 32768)))
      (if q a = -32768 ∧ q b = -32768 then fSat else 0)) ∧
    toA (.coithMpy k a b neg) (if neg then -p else p) ∧
    toA (.coithMac k a b neg) (if neg then acc - p else acc + p) ∧
    toA (.coithMac2 k a b) (acc + (p + hiq a * hiq b)) ∧
    toA (.coithLda k a 0) (((s.core k).reg (pairHi a) ++ (s.core k).reg a).toInt) ∧
    Runs k (.coithLda k a 1) s (s.wroteA k (BitVec.ofInt 40 (q a * 32768)) 0) ∧
    Runs k (.coithLda k a 2) s (s.wroteA k (((s.core k).reg a).signExtend 40) 0) ∧
    Runs k (.coithLda k a 3) s (s.wroteA k 0 0) ∧
    (0 ≤ sh.toInt → sac false (-32768) 32767 (roundDiv (acc * 2 ^ sh.toInt.toNat) 32768) ∧
      sac true (-2147483648) 2147483647 (acc * 2 ^ sh.toInt.toNat)) ∧
    (sh.toInt < 0 → sac false (-32768) 32767 (roundDiv acc (2 ^ (15 + (-sh.toInt).toNat))) ∧
      sac true (-2147483648) 2147483647 (roundDiv acc (2 ^ (-sh.toInt).toNat))) ∧
    (0 ≤ sh6.toInt → toA (.coithAsh k sh6) (acc * 2 ^ sh6.toInt.toNat)) ∧
    (sh6.toInt < 0 → toA (.coithAsh k sh6) (roundDiv acc (2 ^ (-sh6.toInt).toNat))) ∧
    Runs k (.coithSta k d) s (s.withCore k
      (((s.core k).setReg d ((s.core k).a.setWidth 32)).setReg (pairHi d) (((s.core k).a.signExtend 64).extractLsb 63 32)).step4) ∧
    (∃ n ≤ 39, Runs k (.coithCls k d a false) s (s.wrote k d (BitVec.ofNat 32 n) 0) ∧
      (∀ i < n, (s.core k).a.getLsbD (38 - i) = (s.core k).a.msb) ∧
      (n < 39 → (s.core k).a.getLsbD (38 - n) ≠ (s.core k).a.msb)) ∧
    (∃ n ≤ 31, Runs k (.coithCls k d a true) s (s.wrote k d (BitVec.ofNat 32 n) 0) ∧
      (∀ i < n, ((s.core k).reg a).getLsbD (30 - i) = ((s.core k).reg a).msb) ∧
      (n < 31 → ((s.core k).reg a).getLsbD (30 - n) ≠ ((s.core k).reg a).msb))

/-- R192: binary32 results are the exact sum, product, quotient or root rounded to nearest, ties to even, but for the listed
differences: a subnormal operand counts as zero, every NaN result is the one NaN, with FIV unless an operand was a NaN, a
zero divisor gives an infinity, with FDZ for a finite dividend; comparisons with a NaN are false but for unordered;
conversions round, clip and set SAT; minimum and maximum order −0 below +0 and prefer a number to a NaN.
The model's own choices in it: assumption log 6. -/
def Obligations.CoithBinary32 : Prop :=
  ∀ (s : State) (k : CoreRef) (d a b : Reg) (sub : Bool) (op : Fin 4), s.CoreRuns k →
    let x := (s.core k).reg a
    let y := (s.core k).reg b
    let nan (w : Word) : Prop := fld w 30 23 = 255 ∧ fld w 22 0 ≠ 0
    let inf (w : Word) : Prop := fld w 30 23 = 255 ∧ fld w 22 0 = 0
    let zero (w : Word) : Prop := fld w 30 23 = 0
    let fin (w : Word) : Prop := fld w 30 23 ≠ 255
    let runs (i : Instr) (r : Word × Sticky) : Prop := Runs k i s (s.wrote k d r.1 r.2)
    let rounds (i : Instr) (z : Rat) : Prop := ∃ r, RoundsTo z r ∧ runs i r
    let converts (i : Instr) (z : Rat) (lo hi : Int) : Prop := ∃ n, NearestInt z n ∧
      runs i (BitVec.ofInt 32 (max lo (min hi n)), if lo ≤ n ∧ n ≤ hi then 0 else fSat)
    let bool (p : Prop) (i : Instr) : Prop := (p → runs i (1, 0)) ∧ (¬p → runs i (0, 0))
    let qnan : Word := 0x7FC00000
    let pinf : Word := 0x7F800000
    let msb (w : Word) : Word := w &&& 0x80000000
    let sign : Word := msb (x ^^^ y)
    let y' : Word := if sub then y ^^^ 0x80000000 else y
    let num := fltNum x
    let den := fltNum y
    let z := num + fltNum y'
    let q (w : Word) : Int := (w.setWidth 16).toInt
    (nan x ∨ nan y → runs (.coithFadd k d a b sub) (qnan, 0) ∧ runs (.coithFmul k d a b) (qnan, 0) ∧
      runs (.coithFdiv k d a b) (qnan, 0) ∧ runs (.coithFcmp k d a b op) (if op = 3 then 1 else 0, 0)) ∧
    (¬nan x → ¬nan y → bool (num = den) (.coithFcmp k d a b 0) ∧ bool (num < den) (.coithFcmp k d a b 1) ∧
      bool (num ≤ den) (.coithFcmp k d a b 2) ∧ runs (.coithFcmp k d a b 3) (0, 0)) ∧
    (fin x → fin y → (z ≠ 0 → rounds (.coithFadd k d a b sub) z) ∧
      (z = 0 → runs (.coithFadd k d a b sub) (if zero x ∧ zero y ∧ x.msb = true ∧ y'.msb = true then 0x80000000 else 0, 0))) ∧
    (inf x → ¬nan y → runs (.coithFadd k d a b sub) (if inf y ∧ y' ≠ x then (qnan, fFiv) else (x, 0))) ∧
    (inf y → fin x → runs (.coithFadd k d a b sub) (y', 0)) ∧
    (fin x → fin y → (num * den ≠ 0 → rounds (.coithFmul k d a b) (num * den)) ∧
      (num * den = 0 → runs (.coithFmul k d a b) (sign, 0))) ∧
    (¬nan x → ¬nan y → inf x ∨ inf y → runs (.coithFmul k d a b) (if zero x ∨ zero y then (qnan, fFiv) else (sign ||| pinf, 0))) ∧
    (fin x → fin y → ¬zero x → ¬zero y → rounds (.coithFdiv k d a b) (num / den)) ∧
    (fin x → ¬zero x → zero y → runs (.coithFdiv k d a b) (sign ||| pinf, fFdz)) ∧
    (zero x → zero y → runs (.coithFdiv k d a b) (qnan, fFiv)) ∧
    (zero x → ¬zero y → ¬nan y → runs (.coithFdiv k d a b) (sign, 0)) ∧
    (inf x → ¬nan y → runs (.coithFdiv k d a b) (if inf y then (qnan, fFiv) else (sign ||| pinf, 0))) ∧
    (fin x → inf y → runs (.coithFdiv k d a b) (sign, 0)) ∧
    (nan x → runs (.coithFsqrt k d a) (qnan, 0) ∧ runs (.coithFcvt k d a 1) (0, fFiv) ∧ runs (.coithFcvt k d a 3) (0, fFiv)) ∧
    (x.msb = true → ¬nan x → ¬zero x → runs (.coithFsqrt k d a) (qnan, fFiv)) ∧
    (zero x → runs (.coithFsqrt k d a) (msb x, 0)) ∧
    (inf x → x.msb = false → runs (.coithFsqrt k d a) (x, 0)) ∧
    (fin x → ¬zero x → x.msb = false → ∃ r : Word, runs (.coithFsqrt k d a) (r, 0) ∧ r.msb = false ∧ fin r ∧ ¬zero r ∧
      let half : Rat := (2 : Rat) ^ ((fld r 30 23 : Int) - 151)
      (fltNum r - half) ^ 2 < num ∧ num < (fltNum r + half) ^ 2) ∧
    (x ≠ 0 → rounds (.coithFcvt k d a 0) x.toInt) ∧ (x = 0 → runs (.coithFcvt k d a 0) (0, 0)) ∧
    (q x ≠ 0 → rounds (.coithFcvt k d a 2) ((q x : Rat) / 32768)) ∧ (q x = 0 → runs (.coithFcvt k d a 2) (0, 0)) ∧
    (fin x → converts (.coithFcvt k d a 1) num (-2147483648) 2147483647 ∧
      converts (.coithFcvt k d a 3) (num * 32768) (-32768) 32767) ∧
    (inf x → runs (.coithFcvt k d a 1) (if x.msb then 0x80000000 else 0x7FFFFFFF, fSat) ∧
      runs (.coithFcvt k d a 3) (if x.msb then 0xFFFF8000 else 0x7FFF, fSat)) ∧
    (¬nan x → ¬zero x → runs (.coithFmisc k d a b 0) (x &&& 0x7FFFFFFF, 0) ∧
      runs (.coithFmisc k d a b 1) (x ^^^ 0x80000000, 0)) ∧
    (zero x → runs (.coithFmisc k d a b 0) (0, 0) ∧ runs (.coithFmisc k d a b 1) (msb x ^^^ 0x80000000, 0)) ∧
    (nan x → runs (.coithFmisc k d a b 0) (qnan, 0) ∧ runs (.coithFmisc k d a b 1) (qnan, 0)) ∧
    (nan x → nan y → runs (.coithFmisc k d a b 2) (qnan, 0) ∧ runs (.coithFmisc k d a b 3) (qnan, 0)) ∧
    (¬nan x → ¬nan y → ¬zero x → ¬zero y →
      runs (.coithFmisc k d a b 2) (if den < num then y else x, 0) ∧
      runs (.coithFmisc k d a b 3) (if num < den then y else x, 0)) ∧
    (zero x → zero y → runs (.coithFmisc k d a b 2) (msb (x ||| y), 0) ∧ runs (.coithFmisc k d a b 3) (msb (x &&& y), 0)) ∧
    (nan y → ¬nan x → ¬zero x → runs (.coithFmisc k d a b 2) (x, 0) ∧ runs (.coithFmisc k d a b 3) (x, 0)) ∧
    (nan x → ¬nan y → ¬zero y → runs (.coithFmisc k d a b 2) (y, 0) ∧ runs (.coithFmisc k d a b 3) (y, 0)) ∧
    (zero x → ¬zero y → ¬nan y → runs (.coithFmisc k d a b 2) (if y.msb then y else msb x, 0) ∧
      runs (.coithFmisc k d a b 3) (if y.msb then msb x else y, 0)) ∧
    (zero y → ¬zero x → ¬nan x → runs (.coithFmisc k d a b 2) (if x.msb then x else msb y, 0) ∧
      runs (.coithFmisc k d a b 3) (if x.msb then msb y else x, 0)) ∧
    (zero x → nan y → runs (.coithFmisc k d a b 2) (msb x, 0) ∧ runs (.coithFmisc k d a b 3) (msb x, 0)) ∧
    (nan x → zero y → runs (.coithFmisc k d a b 2) (msb y, 0) ∧ runs (.coithFmisc k d a b 3) (msb y, 0))

/-- R193: TADD clips to the TIME64 range and sets SAT when it clips; TCMP compares signed 64-bit values; RDT reads the
rail, the instants of the task's present cycle, or the dispatch stamp.
The model's own choices in it: assumption log 6, 55. -/
def Obligations.CoithTimes : Prop :=
  ∀ (s : State) (k : CoreRef) (d a b : Reg) (sub : Bool), s.CoreRuns k →
    let c := s.core k
    let pair (r : Reg) : Int := (c.reg (pairHi r) ++ c.reg r).toInt
    let z := if sub then pair a - pair b else pair a + pair b
    let v : BitVec 64 := BitVec.ofInt 64 (max (-9223372036854775808) (min 9223372036854775807 z))
    let putPair (v : BitVec 64) (f : Sticky) : State :=
      s.withCore k (((c.setReg d (v.setWidth 32)).setReg (pairHi d) (v.extractLsb 63 32)).flag f).step4
    let bool (p : Prop) (op : Fin 4) : Prop := (p → Runs k (.coithTcmp k d a b op) s (s.wrote k d 1 0)) ∧
      (¬p → Runs k (.coithTcmp k d a b op) s (s.wrote k d 0 0))
    let reads (op : Fin 4) (n : Nat) : Prop := Runs k (.coithRdt k d op) s (putPair (BitVec.ofNat 64 n) 0)
    Runs k (.coithTadd k d a b sub) s (putPair v (if -9223372036854775808 ≤ z ∧ z ≤ 9223372036854775807 then 0 else fSat)) ∧
    bool (pair a = pair b) 0 ∧ bool (pair a ≠ pair b) 1 ∧ bool (pair a < pair b) 2 ∧ bool (pair a ≤ pair b) 3 ∧
    reads 0 (s.bench k.bench).rail.now ∧ reads 3 c.stamp ∧
    (∀ t m, c.run = .segment t m → t ≠ 0 → reads 1 (s.bench k.bench).pe.runs[t].ik ∧ reads 2 (s.bench k.bench).pe.runs[t].ok) ∧
    (∀ m, c.run = .segment 0 m → reads 1 0 ∧ reads 2 0) ∧
    (∀ i, c.run = .item i → reads 1 0 ∧ reads 2 0)

/-- R189, R194: a permitted load reads the bytes of its element, least significant first, into its register or pair, and
changes no byte of memory; a permitted store writes the bytes of its element, leaves every other byte of every bench, every
register of the core and every point as they were, and keeps memory in canonical form.
The model's own choices in it: assumption log 6. -/
def Obligations.CoithMemoryAccesses : Prop :=
  (∀ (s : State) (k : CoreRef) (d base i : Reg) (off : BitVec 16) (scale : Fin 4) (addr : Nat), s.CoreRuns k →
    let c := s.core k
    let by' (j : Nat) : Byte := (s.bench k.bench).byte (addr + j)
    let word : Word := by' 3 ++ by' 2 ++ by' 1 ++ by' 0
    let high : Word := by' 7 ++ by' 6 ++ by' 5 ++ by' 4
    let asWord : State := s.withCore k (c.setReg d word).step4
    let asHalf : State := s.withCore k (c.setReg d ((by' 1 ++ by' 0).signExtend 32)).step4
    let asPair : State := s.withCore k ((c.setReg d word).setReg (pairHi d) high).step4
    let index := (c.reg i).toNat * 2 ^ scale.val
    (MayAccess s k base off.toNat addr 4 → Runs k (.coithLdw k d base off) s asWord) ∧
    (MayAccess s k base off.toNat addr 2 → Runs k (.coithLdh k d base off) s asHalf) ∧
    (MayAccess s k base off.toNat addr 8 → Runs k (.coithLdd k d base off) s asPair) ∧
    (MayAccess s k base index addr 4 → Runs k (.coithLdx k d base i 0 scale) s asWord) ∧
    (MayAccess s k base index addr 2 → Runs k (.coithLdx k d base i 1 scale) s asHalf) ∧
    (MayAccess s k base index addr 8 → Runs k (.coithLdx k d base i 2 scale) s asPair)) ∧
  ∀ (s : State) (k : CoreRef) (d base i : Reg) (off : BitVec 16) (scale : Fin 4) (addr : Nat), s.CoreRuns k →
    s.memoryWf →
    let c := s.core k
    let index := (c.reg i).toNat * 2 ^ scale.val
    let stores (x : Instr) (v : BitVec 64) (n : Nat) : Prop :=
      RunsSo k x s fun t => OnlyBench k.bench s t ∧ t.hub = s.hub ∧ t.memoryWf ∧
        (t.bench k.bench).cores = (s.bench k.bench).cores.set k.core c.step4 ∧
        (t.bench k.bench).points = (s.bench k.bench).points ∧
        (∀ j < n, (t.bench k.bench).byte (addr + j) = v.extractLsb' (8 * j) 8) ∧
        ∀ j, j < addr ∨ addr + n ≤ j → (t.bench k.bench).byte j = (s.bench k.bench).byte j
    (MayAccess s k base off.toNat addr 4 → stores (.coithStw k d base off) ((c.reg d).setWidth 64) 4) ∧
    (MayAccess s k base off.toNat addr 2 → stores (.coithSth k d base off) ((c.reg d).setWidth 64) 2) ∧
    (MayAccess s k base off.toNat addr 8 → stores (.coithStd k d base off) (c.reg (pairHi d) ++ c.reg d) 8) ∧
    (MayAccess s k base index addr 4 → stores (.coithStx k d base i 0 scale) ((c.reg d).setWidth 64) 4) ∧
    (MayAccess s k base index addr 2 → stores (.coithStx k d base i 1 scale) ((c.reg d).setWidth 64) 2) ∧
    (MayAccess s k base index addr 8 → stores (.coithStx k d base i 2 scale) (c.reg (pairHi d) ++ c.reg d) 8)

/-- R194, R205, R212: an access that is not permitted, a CHK of zero, a PTR beyond the point table and a read of code or
instance memory that fails (MEMORY) are core faults: no data moves, the fault registers say so, a handler ends, and a
segment trips its task's watchdog, so the bench leaves RUN.
The model's own choices in it: assumption log 6. -/
def Obligations.CoithCoreFaults : Prop :=
  ∀ (s : State) (k : CoreRef) (d base i : Reg) (off : BitVec 16) (scale : Fin 4) (code : BitVec 8), s.CoreRuns k →
    let b := s.bench k.bench
    let c := s.core k
    let index := (c.reg i).toNat * 2 ^ scale.val
    let faults (x : Instr) : Prop := RunsSo k x s fun t =>
      OnlyBench k.bench s t ∧
      (∀ j, c.run = .item j → j.ord = false →
        (t.core k).run = .idle ∧ (t.core k).w = c.w ∧ (t.bench k.bench).inst = b.inst ∧ (t.bench k.bench).bn = b.bn ∧
        (t.bench k.bench).pe.faultCnt = inc b.pe.faultCnt ∧
        (t.bench k.bench).pe.faultPc = BitVec.ofNat 32 (c.pc % 2 ^ 20) ∧
        ((t.bench k.bench).ev[(4 : Fin 18)]).getLsbD 5 = true) ∧
      (∀ n m, c.run = .segment n m → b.bn.mode = .run → (t.bench k.bench).bn.mode = .hold)
    (MayNotAccess s k base off.toNat 4 → faults (.coithLdw k d base off) ∧ faults (.coithStw k d base off)) ∧
    (MayNotAccess s k base off.toNat 2 → faults (.coithLdh k d base off) ∧ faults (.coithSth k d base off)) ∧
    (MayNotAccess s k base off.toNat 8 → faults (.coithLdd k d base off) ∧ faults (.coithStd k d base off)) ∧
    (MayNotAccess s k base index 4 → faults (.coithLdx k d base i 0 scale) ∧ faults (.coithStx k d base i 0 scale)) ∧
    (MayNotAccess s k base index 2 → faults (.coithLdx k d base i 1 scale) ∧ faults (.coithStx k d base i 1 scale)) ∧
    (MayNotAccess s k base index 8 → faults (.coithLdx k d base i 2 scale) ∧ faults (.coithStx k d base i 2 scale)) ∧
    (c.reg base = 0 → faults (.coithChk k base code)) ∧
    (16383 < (c.reg base).toNat → faults (.coithPtr k d base)) ∧
    (∀ addr < 0x400000, let m : CoreRef := { k with memory := some addr }
      let memory (x : Instr) : Prop := RunsSo m x s fun t => OnlyBench k.bench s t ∧
        (∀ j, c.run = .item j → j.ord = false →
          (t.core k).run = .idle ∧ (t.core k).w = c.w ∧ (t.bench k.bench).inst = b.inst ∧ (t.bench k.bench).bn = b.bn ∧
          (t.bench k.bench).pe.faultCnt = inc b.pe.faultCnt ∧ fld (t.bench k.bench).pe.faultInfo 7 0 = 4 ∧
          (t.bench k.bench).pe.faultAddr = BitVec.ofNat 32 addr ∧
          ((t.bench k.bench).ev[(4 : Fin 18)]).getLsbD 5 = true) ∧
        (∀ n q, c.run = .segment n q → b.bn.mode = .run → (t.bench k.bench).bn.mode = .hold)
      memory (.coithNop m) ∧ memory (.coithLdw m d base off) ∧ memory (.coithLdh m d base off) ∧
      memory (.coithLdd m d base off) ∧ memory (.coithLdx m d base i 0 scale) ∧ memory (.coithPtr m d base))

/-- R195 to R198: a branch goes forward by OFF words when its condition holds, and ends the loops whose body it leaves;
LOOP begins iteration 0; CALL and RET push and pop the frame; END gives the core up, its sticky flags merged into the
lasting copy of its task.
The model's own choices in it: assumption log 6. -/
def Obligations.CoithControlFlow : Prop :=
  ∀ (s : State) (k : CoreRef) (d a : Reg) (cond : BrCond) (off : BitVec 18) (count1 : Fin 4096) (len : Fin 512)
    (fb : Fin 1024) (ioff : BitVec 16), s.CoreRuns k →
    let b := s.bench k.bench
    let c := s.core k
    let x := (c.reg a).toInt
    let dst := c.pc + 4 * off.toNat
    let holds : Prop := match cond with
      | .always => True | .zero => x = 0 | .nonzero => x ≠ 0 | .neg => x < 0 | .nonneg => 0 ≤ x | .pos => 0 < x | .nonpos => x ≤ 0
    (holds → Runs k (.coithBr k a cond off) s (s.withCore k { c with
      pc := dst, loops := c.loops.dropWhile fun f => !(decide (f.first ≤ dst) && decide (dst < f.after)) })) ∧
    (¬holds → Runs k (.coithBr k a cond off) s (s.withCore k c.step4)) ∧
    Runs k (.coithLoop k d count1 len) s (s.withCore k (({ c with
      pc := c.pc + 4, loops := ⟨c.pc + 4, c.pc + 4 + 4 * len.val, 0, count1.val + 1, d⟩ :: c.loops } : Core).setReg d 0)) ∧
    (∀ e, b.pe.fb fb.val = some e → Runs k (.coithCall k fb ioff) s (s.withCore k { c with
      pc := e.entry, ip := c.ip + 16 * ioff.toNat, size := e.size, loops := [],
      calls := ⟨c.pc + 4, c.ip, c.size, c.loops⟩ :: c.calls })) ∧
    (∀ f r, c.calls = f :: r → (∀ l ∈ f.loops, f.pc ≠ l.after) → Runs k (.coithRet k) s (s.withCore k { c with
      pc := f.pc, ip := f.ip, size := f.size, loops := f.loops, calls := r })) ∧
    (∀ n m, c.run = .segment n m → b.packetOpen k.core c = false → RunsSo k (.coithEnd k) s fun t =>
      OnlyBench k.bench s t ∧ (t.core k).run = .idle ∧ (t.bench k.bench).inst = b.inst ∧
      (t.bench k.bench).points = b.points ∧ (t.bench k.bench).pe.sticky[n] = b.pe.sticky[n] ||| c.sticky.setWidth 32) ∧
    (∀ i, c.run = .item i → b.packetOpen k.core c = false → RunsSo k (.coithEnd k) s fun t =>
      OnlyBench k.bench s t ∧ (t.core k).run = .idle ∧ (t.bench k.bench).inst = b.inst ∧
      (t.bench k.bench).points = b.points ∧ (t.bench k.bench).pe.stickyWi = b.pe.stickyWi ||| c.sticky.setWidth 32)

/-- R196: LOOP runs the LEN instructions that follow it COUNT times and leaves the loop behind: with a body of NOPs, after
j + 1 whole passes Wd holds the iteration j + 1, and after the last pass the core stands behind the body.
The model's own choices in it: assumption log 6. -/
def Obligations.CoithLoopRunsItsBody : Prop :=
  ∀ (s : State) (k : CoreRef) (d : Reg) (count1 : Fin 4096) (len : Fin 512), s.CoreRuns k → len ≠ 0 → d ≠ 0 →
    (∀ f ∈ (s.core k).loops, (s.core k).pc + 4 + 4 * len.val ≠ f.after) →
    (∀ j < len.val, ((s.bench k.bench).setCore k.core { s.core k with pc := (s.core k).pc + 4 + 4 * j }).spells k (.coithNop k) = true) →
    RunsSo k (.coithLoop k d count1 len) s fun t =>
      (∀ j < count1.val, ((nops k ((j + 1) * len.val) t).core k).pc = (s.core k).pc + 4 ∧
        ((nops k ((j + 1) * len.val) t).core k).reg d = BitVec.ofNat 32 (j + 1)) ∧
      ((nops k ((count1.val + 1) * len.val) t).core k).pc = (s.core k).pc + 4 + 4 * len.val ∧
      ((nops k ((count1.val + 1) * len.val) t).core k).loops = (s.core k).loops

/-- R199 to R204: flags reach a slot that the code may name and no other; a post, a FIFO word and a point are accepted or
answered with their result code; CSR reads and clears sticky flags; PTR reads a point; CHK of a word other than zero goes
on.
The model's own choices in it: assumption log 6, 55. -/
def Obligations.CoithCommunication : Prop :=
  ∀ (s : State) (k : CoreRef) (d a b : Reg) (slot : Fin 64) (n : Fin 32) (eop own : Bool) (code : BitVec 8),
    s.CoreRuns k →
    let x := s.bench k.bench
    let c := s.core k
    let denied (i : Instr) : Prop := Runs k i s (s.withCore k (c.setReg d 2).step4)
    (x.maySetf c slot = true → RunsSo k (.coithSetf k d a slot) s fun t => OnlyBench k.bench s t ∧
      t.core k = (c.setReg d 0).step4 ∧
      (Tbl.get {} (t.bench k.bench).sc.slots slot.val).flags = (Tbl.get {} x.sc.slots slot.val).flags ||| c.reg a) ∧
    (x.maySetf c slot = false → denied (.coithSetf k d a slot)) ∧
    (c.ordered = none → x.bn.mode = .run → (x.sc.ctrl).getLsbD 1 = true → (c.itemOf a).ord = false →
      x.hasRoom (c.itemOf a).queue = true → RunsSo k (.coithPost k d a) s fun t => OnlyBench k.bench s t ∧
        t.core k = (c.setReg d 0).step4 ∧
        (t.bench k.bench).sc.queues = x.sc.queues.set (c.itemOf a).queue
          (x.sc.queues[(c.itemOf a).queue] ++ [{ c.itemOf a with stamp := x.rail.now }])) ∧
    ((x.fifo n).prod ≠ 0 → denied (.coithFwr k d a n eop)) ∧
    ((x.fifo n).prod = 0 → (x.fifo n).en = true → c.ordered = none → (x.fifo n).wrOpen = false →
      (x.fifo n).dropping = false → (x.fifo n).full = false → RunsSo k (.coithFwr k d a n eop) s fun t =>
        OnlyBench k.bench s t ∧ t.core k = (c.setReg d 0).step4 ∧
        ((t.bench k.bench).fifo n).words = (x.fifo n).words ++ [(c.reg a, eop)]) ∧
    (∀ w e r, (x.fifo n).cons = 0 → (x.fifo n).en = true → (x.fifo n).words = (w, e) :: r → (x.fifo n).wrCore = none →
      RunsSo k (.coithFrd k d a n) s fun t => OnlyBench k.bench s t ∧
        t.core k = ((c.setReg d w).setReg a (if e then 16 else 0)).step4 ∧ ((t.bench k.bench).fifo n).words = r) ∧
    ((c.reg a).toNat ≤ 16383 → Runs k (.coithPtr k d a) s (s.withCore k
      ((c.setReg d (x.point (c.reg a).toNat).value).setReg (pairHi d)
        ((x.point (c.reg a).toNat).flags ++ (x.point (c.reg a).toNat).quality)).step4)) ∧
    (∀ i, c.run = .item i → i.src = 4 → i.ord = false → x.bn.mode = .run → (c.reg b).toNat ≤ 16383 →
      (x.point (c.reg b).toNat).source = 2 → (x.point (c.reg b).toNat).output = false → 
      RunsSo k (.coithPtw k d a b false) s fun t => OnlyBench k.bench s t ∧
        t.core k = (c.setReg d 0).step4 ∧
        (t.bench k.bench).point (c.reg b).toNat =
          (x.settleForces (c.reg b).toNat x.rail.now).pointEntry (c.reg b).toNat (c.reg a) qLive x.rail.now) ∧
    (16383 < (c.reg b).toNat → denied (.coithPtw k d a b own)) ∧
    Runs k (.coithCsr k d a false) s (s.withCore k (c.setReg d (c.cs k.core)).step4) ∧
    (∀ m, c.run = .segment m slot → RunsSo k (.coithCsr k d a true) s fun t => OnlyBench k.bench s t ∧
      (t.core k).sticky = c.sticky &&& ~~~((c.reg a).setWidth 6) ∧
      (t.bench k.bench).pe.sticky[m] = x.pe.sticky[m] &&& ~~~(((c.reg a).setWidth 6).setWidth 32)) ∧
    (c.reg a ≠ 0 → Runs k (.coithChk k a code) s (s.withCore k c.step4))

/-! ### Loop engine (chapter 07) -/

/-- R228, R236, R247, R248, R250: a loop command of RUN that names a used loop is held for the loop's next update and
answers that update's instant, which lies at most 4 µs before the rail; descriptors and points stay; a table is stored.
The model's own choices in it: assumption log 2 to 4, 52, 54. -/
def Obligations.LoopCommandsWaitForTheUpdate : Prop :=
  ∀ (s : State) (c : Cmd) (w x v0 v1 v2 v3 v4 v5 v6 : Word) (data : List Word),
    let b := s.bench c.bench
    let n := fld w 8 0
    let m := fld w 18 16
    let ws := tuneWords (fld w 22 16) [v0, v1, v2, v3, v4, v5, v6]
    let waits (k : Nat) (d : LoopCmd) (b' : Bench) : Prop := (b'.loop k).st = (b.loop k).st ∧
      (b'.loop k).upd = (b.loop k).upd ∧ (b'.loop k).cmds = (b.loop k).cmds ++ [(b.rail.now, d)]
    let keeps (d : LoopCmd) (b' : Bench) : Prop := b'.conf = b.conf ∧ b'.points = b.points ∧ waits n d b' ∧
      Completed c .ok (b.firstUpdate n) b b'
    b.bn.bootRom = false → b.bn.mode = .run → b.Answers c →
    (b.loopPeriod n ≠ 0 → b.loopInstant n (b.firstUpdate n) = true ∧ b.rail.now < b.firstUpdate n + 4000 ∧
      (m ≤ 4 → (m = 3 → b.loopCass n ≠ 0x3FFF) → (m = 4 → b.loopTrkp n ≠ 0x3FFF) →
        Serves (.loopSetMode c w) c s (keeps (.mode (modeOf m)))) ∧
      Serves (.loopSetSp c w x) c s (keeps (.sp (s16 x))) ∧
      Serves (.loopSetOut c w x) c s (keeps (.out (s16 x))) ∧
      (Bench.tuneOk (fun o => match ws.find? (fun e => e.1 == o) with | some e => e.2 | none => b.lw n o) = true →
        Serves (.loopTune c w v0 v1 v2 v3 v4 v5 v6) c s (keeps (.tune ws (w.getLsbD 31)))) ∧
      (w ≠ 0xFFFF → Serves (.loopClear c w) c s (keeps .clear))) ∧
    (data.length = 32 → Serves (.loopSetTable c w data) c s fun b' => Completed c .ok 0 b b' ∧
      (∀ i < 16, b'.cfg (tableAt (fld w 5 0) + 4 * i) = data.getD i 0) ∧
      b'.cfg (tableAt (fld w 5 0) + 64) = data.getD 16 0 &&& 0x1FFFF ∧ b'.points = b.points ∧ b'.le = b.le) ∧
    Serves (.loopClear c 0xFFFF) c s (fun b' => Completed c .ok 0 b b' ∧ b'.conf = b.conf ∧
      ∀ k ∈ b.usedLoops, waits k .clear b')

/-- R214 to R218: a used loop reads at 4 µs after its instant and shows nothing of the result until its release; the
release takes the state over and writes the output point at the next instant, and an update not complete by then is
missed: counted, marked, its output point refreshed with MISS.
The model's own choices in it: assumption log 2 to 4, 52, 54. -/
def Obligations.LoopUpdatesReadThenRelease : Prop :=
  ∀ (s : State) (n : BenchIx) (t : Nat) (k : Fin 512) (margin : Nat) (u : LoopUpdate),
    let x := (s.bench n).tick t
    let p := x.loopOutp k.val
    (x.bn.mode = .run → x.loopPeriod k.val ≠ 0 → 4000 ≤ x.rail.now → x.loopInstant k.val (x.rail.now - 4000) = true →
      x.pe.startAt ≤ x.rail.now - 4000 → (x.loop k.val).upd = none → Gives (.loopRead n t k) n s fun b' =>
        (∃ v, (b'.loop k.val).upd = some v ∧ v.due = x.rail.now - 4000 + b'.loopPeriod k.val * 10000) ∧
        (b'.loop k.val).st = (x.loop k.val).st ∧ (b'.loop k.val).req = {} ∧ b'.points = x.points ∧ b'.inst = x.inst) ∧
    (x.bn.mode = .run → (x.loop k.val).upd = some u → u.due ≤ x.rail.now + 2000 →
      Gives (.loopRelease n t k (some margin)) n s (fun b' => (b'.loop k.val).upd = none ∧
        (b'.loop k.val).st.mode = u.state.mode ∧ (b'.loop k.val).st.u = u.state.u ∧ (b'.loop k.val).st.i = u.state.i ∧
        (b'.le.slackMin.toNat ≤ margin % 2 ^ 32 ∨ b'.le.slackMin = x.le.slackMin) ∧
        (∀ z, u.out = some z → (x.point p).source = 5 → (b'.point p).stamp = u.due)) ∧
      Gives (.loopRelease n t k none) n s (fun b' => (b'.loop k.val).upd = none ∧ (b'.loop k.val).st.miss = true ∧
        (b'.loop k.val).st.u = (x.loop k.val).st.u ∧ b'.le.missCnt = inc x.le.missCnt ∧
        b'.le.missLast = at32 1 31 ||| at32 k.val 0 ∧
        ((x.loop k.val).st.mode ≠ .off → (x.point p).source = 5 → (b'.point p).stamp = u.due ∧
          (b'.point p).quality.getLsbD 11 = true)))

/-- R231, R232: where the limits of a loop lie apart from its guard, the guard's nearer end is the only output left; else the
law leaves its output between the limits; its integrator stays within 40 bits and its derivative within 32. -/
def Obligations.LoopLawStaysInItsLimits : Prop :=
  ∀ (b : Bench) (n : Nat) (st : LoopState) (c : LoopIn),
    let lim := b.loopLimits n
    (lim.2.2 = none → lim.1 ≤ lim.2.1) ∧
    (∀ v, lim.2.2 = some v → lim.2.1 < lim.1 ∧ (v = (b.loopClamp n).1 ∨ v = (b.loopClamp n).2)) ∧
    (∀ v, c.apart = some v → (b.law n st c).u = v) ∧
    (c.apart = none → c.ulo ≤ c.uhi → c.ulo ≤ (b.law n st c).u ∧ (b.law n st c).u ≤ c.uhi) ∧
    (-(2 ^ 39) ≤ (b.law n st c).i ∧ (b.law n st c).i ≤ 2 ^ 39 - 1) ∧
    (-(2 ^ 31) ≤ (b.law n st c).d ∧ (b.law n st c).d ≤ 2 ^ 31 - 1) ∧
    ((b.law n st c).hi = true → (b.law n st c).u = c.uhi ∨ c.apart ≠ none)

/-! ### Recipe sequencer (chapter 08) -/

/-- R253, R254, R262 to R267, R274: sound entries are stored; a recipe command on a slot in a listed state takes effect at
its instant, which it answers; a start arms the slot with the steps it names; an abort may name every slot.
The model's own choices in it: assumption log 2 to 4, 35. -/
def Obligations.RecipeCommandsNameTheirInstant : Prop :=
  ∀ (s : State) (c : Cmd) (slot first abort step lo hi w : Word) (entries : List (List Word)) (z : Nat),
    let b := s.bench c.bench
    let n : Fin 16 := mkIx 15 slot.toNat
    let at' := cat64 lo hi
    let ok (b' : Bench) : Prop := Completed c .ok z b b' ∧ (∀ m, m ≠ n → b'.recipe m = b.recipe m) ∧
      b'.points = b.points
    b.Answers c →
    (b.Takes modesAny → 1 ≤ lo.toNat → lo.toNat ≤ 4096 → first.toNat + lo.toNat ≤ 65536 → entries.length = lo.toNat →
      (∀ e ∈ entries, stepOk e = true) → (∀ k ∈ b.stepsInUse, ¬(first.toNat ≤ k ∧ k < first.toNat + lo.toNat)) →
      Serves (.rcpLoadSteps c first lo entries) c s fun b' => Completed c .ok lo.toNat b b' ∧
        (∀ i < lo.toNat, b'.stepAt (first.toNat + i) = entries.getD i []) ∧ b'.rs.slots = b.rs.slots) ∧
    (b.bn.bootRom = false → b.bn.mode = .run → at' % 10000 = 0 → b.instantFor 50000 at' (w.getLsbD 0) = some z →
      (slot.toNat ≤ 15 →
        ((b.recipe n).state = .idle ∨ (b.recipe n).state = .ended ∨ (b.recipe n).state = .aborted → first.toNat < 65536 →
          abort.toNat < 65536 ∨ abort.toNat = noStep → Serves (.rcpStart c slot first abort lo hi w) c s fun b' =>
            ok b' ∧ (b'.recipe n).state = .armed ∧ (b'.recipe n).start = z ∧ (b'.recipe n).step = first.toNat ∧
            (b'.recipe n).abortStep = abort.toNat ∧ (b'.recipe n).late = decide (at' ≠ 0 ∧ z ≠ at')) ∧
        ((b.recipe n).state = .running → Serves (.rcpPause c slot lo hi w) c s fun b' => ok b' ∧
          (b'.recipe n).state = .running ∧ (b'.recipe n).pauseAt = some z) ∧
        ((b.recipe n).state = .paused → Serves (.rcpResume c slot lo hi w) c s fun b' => ok b' ∧
          (b'.recipe n).state = .paused ∧ (b'.recipe n).resumeAt = some z) ∧
        ((b.recipe n).state = .running ∨ (b.recipe n).state = .paused → step.toNat < 65536 ∨ step.toNat = noStep →
          Serves (.rcpSkip c slot step lo hi w) c s fun b' => ok b' ∧
            (b'.recipe n).state = (b.recipe n).state ∧ (b'.recipe n).skipAt = some (z, step.toNat)) ∧
        (abortable (b.recipe n).state = true → Serves (.rcpAbort c slot lo hi w) c s fun b' => ok b' ∧
          (b'.recipe n).state = (b.recipe n).state ∧ (b'.recipe n).abortAt = some z)) ∧
      Serves (.rcpAbort c 0xFF lo hi w) c s (fun b' => Completed c .ok z b b' ∧ ∀ m,
        (b'.recipe m).state = (b.recipe m).state ∧
        (abortable (b.recipe m).state = true → (b'.recipe m).abortAt = some z) ∧
        (abortable (b.recipe m).state = false → b'.recipe m = b.recipe m)))

/-- R255 to R267, R269: a recipe starts at its instant, checks its condition on the grid, commits the targets of what begins
3 µs before, those of a candidate prepared late at the next grid instant's commit moment, takes its boundaries, and pauses,
resumes, skips and aborts at the instants given; a held recipe goes on at the instant of a warm restart.
The model's own choices in it: assumption log 2 to 4, 35. -/
def Obligations.RecipesRunStepByStep : Prop :=
  ∀ (s : State) (n : BenchIx) (t : Nat) (k : Fin 16) (z m : Nat) (cd : Cand) (role : CandRole),
    let x := (s.bench n).tick t
    let r := x.recipe k
    x.bn.mode = .run →
    (r.state = .armed → r.cand .first = some cd → r.start ≤ x.rail.now → Gives (.recipeStartInstant n t k) n s fun b' =>
      (b'.recipe k).state = .running ∧ (b'.recipe k).step = cd.step ∧ (b'.recipe k).sb = r.start ∧
      (b'.recipe k).rail = x.rail.state.code) ∧
    (r.state = .running → stepEnd r.cur = 1 → x.rail.now % 10000 = 0 → r.checkFrom ≤ x.rail.now → r.found = none →
      r.pauseAt = none → r.lateSets = [] → stepChold r.cur = 0 → Gives (.conditionCheck n t k) n s fun b' =>
        (stepHolds r.cur (x.point (stepCpoint r.cur)) = true → (b'.recipe k).found = some (x.rail.now + 20000)) ∧
        (stepHolds r.cur (x.point (stepCpoint r.cur)) = false → (b'.recipe k).found = none ∧ (b'.recipe k).held = 0) ∧
        b'.points = x.points) ∧
    (r.lateSets = [] → r.restartAt = none → r.upcoming = some (x.rail.now + 3000, some cd) → r.committed ≠ some (x.rail.now + 3000) →
      (cd.ready = true → Gives (.commitMoment n t k) n s fun b' =>
        (b'.recipe k).committed = some (x.rail.now + 3000) ∧
        ∀ p v, stepTargets cd.words = [(2, p, v)] → x.rs.claims = [] → (x.point p).source = 7 →
          (b'.point p).stamp = x.rail.now + 3000) ∧
      (cd.ready = false → Gives (.commitMoment n t k) n s fun b' =>
        b'.rs.lateCnt = inc x.rs.lateCnt ∧ (b'.recipe k).lateSets = [{ boundary := x.rail.now + 3000, cand := cd }])) ∧
    (∀ e, r.lateSets = [e] → e.due = none → e.cand.ready = true → (x.rail.now + 3000) % 10000 = 0 → r.restartAt = none →
      r.upcoming = none → Gives (.commitMoment n t k) n s fun b' =>
        (b'.recipe k).lateSets = [{ e with due := some (x.rail.now + 3000) }] ∧
        ∀ p v, stepTargets e.cand.words = [(2, p, v)] → x.rs.claims = [] → (x.point p).source = 7 →
          (b'.point p).stamp = x.rail.now + 3000) ∧
    Gives (.candidatePrepared n t k m) n s (fun b' => (b'.recipe k).state = r.state ∧
      (b'.recipe k).cands = r.cands.map fun y => if y.step = m then { y with ready := true } else y) ∧
    (r.state = .running → r.natural = some (z, role) → (∃ y, r.upcoming = some (z, y)) → z ≤ x.rail.now →
      r.skipAt.map (·.1) ≠ some z → r.abortAt ≠ some z →
      (r.cand role = some cd → Gives (.stepBoundary n t k) n s fun b' => (b'.recipe k).state = .running ∧
        (b'.recipe k).step = cd.step ∧ (b'.recipe k).sb = z ∧ (b'.recipe k).steps = inc r.steps) ∧
      (r.cand role = none → Gives (.stepBoundary n t k) n s fun b' => (b'.recipe k).state = .ended ∧
        (b'.recipe k).step = r.step ∧ (b'.recipe k).cands = [])) ∧
    (r.state = .running → r.pauseAt = some z → z ≤ x.rail.now → r.natural = none → Gives (.pauseInstant n t k) n s fun b' =>
      (b'.recipe k).state = .paused ∧ (b'.recipe k).elapsed = (z - r.sb) / 10000 ∧ (b'.recipe k).step = r.step ∧
      b'.points = x.points) ∧
    (r.state = .paused → r.resumeAt = some z → z ≤ x.rail.now → Gives (.resumeInstant n t k) n s fun b' =>
      (b'.recipe k).state = .running ∧ (b'.recipe k).sb = z - r.elapsed * 10000 ∧ (b'.recipe k).resumeAt = none ∧
      b'.points = x.points) ∧
    (r.state = .held → r.restartAt = some z → z ≤ x.rail.now → Gives (.resumeInstant n t k) n s fun b' =>
      (b'.recipe k).state = (if x.rs.cfg.getLsbD 0 then .paused else .running) ∧ (b'.recipe k).restartAt = none ∧
      (b'.recipe k).step = r.step) ∧
    (r.state = .running ∨ r.state = .paused → r.skipAt = some (z, m) → z ≤ x.rail.now → r.skipCand m = some cd →
      Gives (.skipInstant n t k) n s fun b' => (b'.recipe k).state = r.state ∧ (b'.recipe k).step = cd.step ∧
        (b'.recipe k).sb = z ∧ (b'.recipe k).skipAt = none) ∧
    (abortable r.state = true → r.abortAt = some z → z ≤ x.rail.now → Gives (.abortInstant n t k) n s fun b' =>
      (b'.recipe k).state = .aborted ∧ (b'.recipe k).abortAt = none ∧ (b'.recipe k).cands = [] ∧
      (b'.recipe k).step = r.step)

/-! ### Motion engine (chapter 09) -/

/-- R285, R286, R289, R292 to R294, R309: motion commands in RUN on a used axis arm a move, a jog or a homing run at its
instant, change the limits of a standing axis at once, stop an axis, set its position and clear its flags.
The model's own choices in it: assumption log 2 to 4, 36. -/
def Obligations.MotionCommandsActOnTheirAxis : Prop :=
  ∀ (s : State) (c : Cmd) (w p lo hi vmax acc dec : Word) (m : Nat),
    let b := s.bench c.bench
    let a := fld w 5 0
    let y := b.axis a
    let at' := cat64 lo hi
    let g : Int := if w.getLsbD 8 then y.pos + s32 p else s32 p
    let pick (i : Nat) (v : Word) (o : Nat) : Nat := if w.getLsbD i then v.toNat else (b.aw a o).toNat
    let armed (i : Instr) (k : Motion) (evt : Bool) : Prop := Serves i c s fun b' => Completed c .ok m b b' ∧
      b'.axis a = { y with state := .armed, armed := some (m, k), doneEvt := evt } ∧ b'.points = b.points ∧
      ∀ j, j ≠ a → b'.axis j = b.axis j
    b.bn.bootRom = false → b.bn.mode = .run → b.Answers c → b.axisUsed a = true →
    (y.state = .idle → at' % 10 = 0 → b.instantFor 20000 at' (w.getLsbD 9) = some m →
      (-(2 ^ 31) ≤ g → g < 2 ^ 31 → b.guardPmin a ≤ g → g ≤ b.guardPmax a →
        (g ≠ y.pos → b.limitOn a (decide (g < y.pos)) = false) → armed (.mxMove c w p lo hi) (.move g) (w.getLsbD 10)) ∧
      (b.limitOn a (w.getLsbD 8) = false → armed (.mxJog c w lo hi) (.jog (w.getLsbD 8)) false) ∧
      (b.homeBlocked a = false → armed (.mxHome c w lo hi) .home false)) ∧
    (y.busy = false → y.state ≠ .fault → (w.getLsbD 16 = true → b.stepRate ≤ 25000000) → b.dynOk a (pick 16 vmax 8) (pick 17 acc 0x10) (pick 18 dec 0x14) = true →
      Serves (.mxSetDyn c w vmax acc dec) c s fun b' => Completed c .ok 0 b b' ∧
        (b'.aw a 8).toNat = pick 16 vmax 8 ∧ (b'.aw a 0x10).toNat = pick 17 acc 0x10 ∧
        (b'.aw a 0x14).toNat = pick 18 dec 0x14 ∧ b'.axis a = y ∧ b'.points = b.points) ∧
    (fld w 7 0 ≠ 0xFF → b.mx.stops = [] → y.dyn = [] →
      (y.state = .armed → Serves (.mxStop c w) c s fun b' => (b'.axis a).state = .idle ∧
        (b'.axis a).pos = y.pos ∧ Completed c .ok b.rail.now b b') ∧
      (y.state = .moving → w.getLsbD 8 = true → Serves (.mxStop c w) c s fun b' => (b'.axis a).state = .idle ∧
        (b'.axis a).pos = y.pos) ∧
      (y.state = .moving → w.getLsbD 8 = false → Serves (.mxStop c w) c s fun b' =>
        (b'.axis a).state = .stopping ∧ (b'.axis a).stand = true ∧ (b'.axis a).pos = y.pos)) ∧
    (y.state = .idle → Serves (.mxSetPos c w p) c s fun b' => Completed c .ok 0 b b' ∧
      b'.axis a = { y with pos := s32 p, pfrac := 0, posDoubt := false }) ∧
    (fld w 7 0 ≠ 0xFF → b.axisClearable a = true → Serves (.mxClear c w) c s fun b' => Completed c .ok 0 b b' ∧
      (b'.axis a).state = (if y.state = .fault then .idle else y.state) ∧ (b'.axis a).pos = y.pos ∧
      (b'.axis a).guardLimited = false ∧ (b'.axis a).homeFail = false ∧ (b'.axis a).stepLate = false ∧
      b'.points = b.points)

/-- R280 to R284, R290, R291, R294, R297 to R301, R303: an armed move starts at its instant, each edge moves the position
by one, a late edge is issued and counted, a limit input stops an axis that moves toward it, bridge undervoltage in two
periods faults the phase-drive axes, remote axes are evaluated, and position points are written on their grid.
The model's own choices in it: assumption log 2 to 4, 36. -/
def Obligations.AxesMoveStepByStep : Prop :=
  ∀ (s : State) (n : BenchIx) (t m : Nat) (i : Fin 64) (l : Fin 10) (g : Int) (vbr edge apply : Nat) (inp : Fin 3) (raw : Word)
    (reverted : Bool),
    let x := (s.bench n).tick t
    let a := i.val
    let y := x.axis a
    let z := x.axis l.val
    let moved (b' : Bench) : Prop := (b'.axis a).pos = (if y.neg then y.pos - 1 else y.pos + 1) ∧
      (b'.axis a).pulseAt = x.rail.now ∧ b'.points = x.points
    (x.bn.mode = .run → y.state = .armed → y.armed = some (m, .move g) → m ≤ x.rail.now → g ≠ y.pos →
      x.guardPmin a ≤ g → g ≤ x.guardPmax a → Gives (.moveStart n t i) n s fun b' => (b'.axis a).state = .moving ∧
        (b'.axis a).target = g ∧ (b'.axis a).neg = decide (g < y.pos) ∧ (b'.axis a).pos = y.pos ∧
        (b'.axis a).armed = none ∧ b'.points = x.points) ∧
    (x.bn.mode = .run → y.state = .armed → y.armed = some (m, .home) → m ≤ x.rail.now → x.axisHmode a = 3 →
      Gives (.moveStart n t i) n s fun b' => (b'.axis a).state = .idle ∧ (b'.axis a).homed = true ∧
        (b'.axis a).pos = s32 (x.aw a 0x30)) ∧
    (x.edgeDue a = true → Gives (.stepEdge n t i) n s moved) ∧
    (x.edgeDue a = true → y.e1 / 256 < x.rail.now → Gives (.lateEdge n t i) n s fun b' => moved b' ∧
      (b'.axis a).stepLate = true ∧ b'.mx.lateCnt = inc x.mx.lateCnt) ∧
    (x.axisChan l.val inp < 16 → (z.inp[inp]).newAt = some edge → bitOf raw (x.axisChan l.val inp) = (z.inp[inp]).level →
      x.rail.now < edge + x.axisLdb l.val * 1000 →
      ((x.limitSample raw l.val inp).axis l.val).chatter = inc z.chatter ∧
      (x.limitSample raw l.val inp).mx.chatterCnt = inc x.mx.chatterCnt ∧
      (((x.limitSample raw l.val inp).axis l.val).inp[inp]) = { level := (z.inp[inp]).level } ∧
      ((x.limitSample raw l.val inp).axis l.val).state = z.state) ∧
    (x.axisUsed l.val = true → x.axisChan l.val inp < 16 → (z.inp[inp]).newAt = some edge →
      (x.rail.now < edge + x.axisLdb l.val * 1000 ∨ reverted = true →
        Gives (.limitChange n t l inp (!(z.inp[inp]).level) edge reverted) n s fun b' => b'.mx = x.mx) ∧
      (edge + x.axisLdb l.val * 1000 ≤ x.rail.now →
        Gives (.limitChange n t l inp (!(z.inp[inp]).level) edge false) n s fun b' =>
        ((b'.axis l.val).inp[inp]) = { level := !(z.inp[inp]).level } ∧
        (x.bn.mode = .run → z.state = .moving → z.neg = decide (inp = 1) → inp ≠ 2 → x.axisIn l.val inp = false →
          (b'.axis l.val).state = if x.axisLstop l.val then .stopping else .idle))) ∧
    (x.rail.now % 25000 = 12500 → Gives (.pwmPeriod n t vbr) n s fun b' => b'.mx.vbr = min vbr 6000 ∧
      b'.points = x.points ∧
      (x.bn.mode = .run → x.vbrLow (min vbr 6000) = true → 1 ≤ x.mx.lowVbr → (x.axis 8).state ≠ .fault →
        (b'.axis 8).state = .fault ∧ (b'.axis 8).bridgeUv = true ∧ (b'.axis 9).state = .fault)) ∧
    (y.busy = false → y.lastEdge + fld (x.aw a 0x34) 15 0 * 1000000 ≤ x.rail.now →
      Gives (.holdCurrentDelay n t i) n s fun b' => b'.axis a = { y with runI := false }) ∧
    (x.bn.mode = .run → x.axisKind a = 3 → x.haulAof ≤ apply → y.spAt < apply → x.rail.now ≤ apply →
      (∀ st, x.axisStation a = some st → apply ≤ x.rail.now + x.stationMult st * x.haulBase) →
      (∀ st, x.axisStation a = some st → x.servedAt st (apply - x.haulAof) = true) → (∃ st, x.axisStation a = some st) →
      Gives (.remoteEvaluation n t i apply) n s fun b' => (b'.axis a).spAt = apply ∧ b'.points = x.points ∧
        (y.state = .idle ∨ y.state = .fault → y.armed = none → (b'.axis a).pos = y.pos ∧ (b'.axis a).state = y.state)) ∧
    (x.bn.mode = .run → x.axisUsed a = true → fld (x.aw a 0x24) 15 0 ≠ 0 →
      x.rail.now % (fld (x.aw a 0x24) 15 0 * 10000) = 0 → (x.point (x.axisPosp a)).source = 6 → x.axisSpdp a = 0x3FFF →
      Gives (.positionPointUpdate n t i) n s fun b' => (b'.point (x.axisPosp a)).stamp = x.rail.now ∧
        (a < 10 → (x.point (x.axisPosp a)).output = false → (x.point (x.axisPosp a)).format = 0 →
          (x.settleForces (x.axisPosp a) x.rail.now).forceOn (x.axisPosp a) = none →
          (b'.point (x.axisPosp a)).value = ofS y.pos))

/-- R279, R280, R287: one advance of the profile never passes the guard's speed, and an axis that can stop before its end
can still do so after the step.
The model's own choices in it: assumption log 36. -/
def Obligations.AxisCanAlwaysStop : Prop :=
  ∀ (x : Axis) (e : AxisEff) (q left : Nat),
    (x.calc e q left).q ≤ x.gvmax * x.gvmax ∧
    (q ≤ e.ve * e.ve + qPerStep * x.dce * (left + 1) → (x.calc e q left).q ≤ e.ve * e.ve + qPerStep * x.dce * left) ∧
    (e.vm ≤ x.gvmax → q ≤ e.vm * e.vm → x.stand = false → x.jog = false → (x.calc e q left).q ≤ e.vm * e.vm)

/-! ### Face (chapter 10) -/

/-- R317, R321 to R323, R325, R327, R336 to R338, R342, R343, R345: the samples of the face's inputs, the changes it
accepts, and what it writes to the points they are mapped to: value, quality, and the stamp that each input has.
The model's own choices in it: assumption log 2 to 4, 23, 37, 55. -/
def Obligations.FaceInputsReachTheirPoints : Prop :=
  ∀ (s : State) (n : BenchIx) (t a : Nat) (i : Fin 16) (raw low : BitVec 16) (rb : BitVec 8) (lplus : Nat) (k : Fin 4) (y : Int)
    (e : Fin 2) (ra br rz : Bool) (d m : Int),
    let x := (s.bench n).tick t
    let now := x.faceNow
    let z := x.fc.di[i]
    let g := x.fc.ai[k]
    let f := x.fc.enc[e]
    let shows (b' : Bench) (ch : Nat) (v : Word) (q : Half) (st : Nat) : Prop :=
      (∀ p, x.facePoint ch = some p → x.fc.linkOk = true → x.bn.mode = .run → (x.point p).source = 1 → (x.point p).output = false →
        (b'.point p).stamp = st ∧ ((x.settleForces p st).forceOn p = none → (b'.point p).value = fmtWord (x.point p).format v ∧
          (b'.point p).quality = putBit (qNorm q) qForced false)) ∧
      ∀ p, x.facePoint ch ≠ some p → b'.point p = x.point p
    (now % 1000 = 0 → x.fc.powered = true → lplus < 14000 → Gives (.diSample n t raw low rb lplus) n s fun b' =>
      b'.fc.powered = false ∧ b'.outEn = false) ∧
    (now % 1000 = 0 → x.fc.powered = true → 14000 ≤ lplus → Gives (.diSample n t raw low rb lplus) n s fun b' =>
      (b'.fc.di[i]).raw = raw.getLsbD i ∧ (b'.fc.di[i]).low = low.getLsbD i ∧ (b'.fc.di[i]).level = z.level ∧
      (raw.getLsbD i = z.level → (b'.fc.di[i]).newAt = none) ∧
      (raw.getLsbD i ≠ z.level → z.newAt = none → (b'.fc.di[i]).newAt = some now) ∧
      (raw.getLsbD i ≠ z.level → raw.getLsbD i = z.raw → z.newAt = some a → (b'.fc.di[i]).newAt = some a) ∧
      b'.fc.lplus = lplus ∧ (∀ j : Fin 8, (b'.fc.do_[j]).readback = rb.getLsbD j) ∧
      (x.forcePoints = [] → ∀ p, x.facePoint 34 ≠ some p → b'.point p = x.point p)) ∧
    (x.fc.powered = true → z.newAt = some a → a + (x.diDb i - 1) * 1000 ≤ now → Gives (.diChangeAccepted n t i) n s fun b' =>
      (b'.fc.di[i]).level = z.raw ∧ (b'.fc.di[i]).newAt = none ∧
      (z.wire = false → shows b' i (if z.raw then 1 else 0) qLive (a + (x.diDb i - 1) * 1000)) ∧
      (z.wire = true → b'.points = x.points)) ∧
    (x.fc.powered = true → z.wireAt = some a → x.diWben i = true → x.fc.fieldWarn = false → a + 10000000 ≤ now →
      Gives (.diWireBreak n t i) n s fun b' => (b'.fc.di[i]).wire = (!z.wire) ∧
        (z.wire = false → b'.fc.wbCnt = inc x.fc.wbCnt ∧ shows b' i 0 (putBit 0 qWireBreak true) (a + 10000000)) ∧
        (z.wire = true → b'.fc.wbCnt = x.fc.wbCnt ∧ shows b' i (if z.level then 1 else 0) qLive (a + 10000000))) ∧
    (x.fc.fieldWarn = true → Gives (.diWireBreak n t i) n s fun b' => b'.fc = x.fc ∧ b'.points = x.points) ∧
    (x.fc.powered = true → fld (x.aiCfg k) 29 28 ≠ 0 → fld (x.aiCfg k) 26 24 * 10000 ≤ now →
      (now - fld (x.aiCfg k) 26 24 * 10000) % 50000 = 0 → Gives (.aiSample n t k y) n s fun b' =>
        (b'.fc.ai[k]).time = now ∧ (b'.fc.ai[k]).due = true ∧ b'.points = x.points ∧
        (fld (x.aiCfg k) 29 28 = 1 → 0 ≤ y → y ≤ 22000000 →
          (b'.fc.ai[k]).value = roundDiv (1750 * (y - 4000000)) 1000000) ∧
        (fld (x.aiCfg k) 29 28 = 2 → 0 ≤ y → y ≤ 22000000 → (b'.fc.ai[k]).value = roundDiv (1400 * y) 1000000) ∧
        (fld (x.aiCfg k) 29 28 = 1 → fld (x.aiCfg k) 23 16 = 0 → y < 1000000 →
          bitOf (b'.fc.ai[k]).quality qWireBreak = true ∧ bitOf (b'.fc.ai[k]).quality qValid = false)) ∧
    (x.fc.powered = true → g.due = true → now = g.time + 4000 → Gives (.aiSampleWrite n t k) n s fun b' => (b'.fc.ai[k]).due = false ∧
      shows b' (24 + k.val) (ofS g.value) g.quality g.time) ∧
    (x.fc.powered = true → (∀ w ∈ f.load, now < w.1) → Gives (.encoderSample n t e ra br rz) n s fun b' =>
      let u := b'.fc.enc[e]
      let step := encStep (fld (x.encCfg e) 31 30) f.a.level f.b.level u.a.level u.b.level
      (f.a.cand = ra → f.a.since + fld (x.encCfg e) 23 16 * 40 ≤ now → u.a.level = ra) ∧
      (f.a.cand ≠ ra → 0 < fld (x.encCfg e) 23 16 → u.a.level = f.a.level) ∧
      (step = some d → u.count = wrap32 (f.count + if bitOf (x.encCfg e) 28 then -d else d) ∧
        b'.fc.encErrCnt = x.fc.encErrCnt) ∧
      (step = none → u.count = wrap32 f.count ∧ (x.fc.linkOk = true → b'.fc.encErrCnt = inc x.fc.encErrCnt) ∧
        (x.fc.linkOk = false → b'.fc.news = x.fc.news ++ [.encErr])) ∧ b'.points = x.points) ∧
    (x.fc.powered = true → f.load = [(a, m)] → a ≤ now → Gives (.encoderUpdate n t e) n s fun b' =>
      (b'.fc.enc[e]).count = m ∧ (b'.fc.enc[e]).load = [] ∧ (b'.fc.enc[e]).laneB = f.laneB) ∧
    (x.fc.powered = true → (∀ w ∈ f.load, now < w.1) → fld (x.encCfg e) 15 0 ≠ 0 → now % (fld (x.encCfg e) 15 0 * 10000) = 0 →
      Gives (.encoderUpdate n t e) n s fun b' => shows b' (30 + e.val) (ofS f.count) qLive now ∧
        b'.fc.enc = x.fc.enc) ∧
    (x.fc.powered = true → f.zEdge = some (a, m) → bitOf (x.encCfg e) 29 = true → Gives (.zCapture n t e) n s fun b' =>
      shows b' (32 + e.val) (ofS m) qLive a ∧ (b'.fc.enc[e]).zEdge = none ∧ (b'.fc.enc[e]).count = f.count) ∧
    ∀ (c : Cmd) (count lo hi : Word),
      let b := s.bench c.bench
      let at' := cat64 lo hi
      b.Takes modesCfgRunHold → b.Answers c → at' % 10 = 0 →
      (at' = 0 ∨ b.acceptance ≤ at' →
        let u := if at' = 0 then firstMul 10000 (b.acceptance + 20000) else at'
        Serves (.faceEncSet c (BitVec.ofNat 32 e) count lo hi) c s fun b' => Completed c .ok u b b' ∧
          (b.fc.faceLink = true → ∀ w, w ∈ (b'.fc.enc[e]).load ↔ w = (u, s32 count) ∨ w ∈ (b.fc.enc[e]).load) ∧
          (b.fc.faceLink = false → b'.fc.enc = b.fc.enc ∧ b'.fc.orders = b.fc.orders ++ [.encSet e u (s32 count)]) ∧
          (b'.fc.enc[e]).laneB = (b.fc.enc[e]).laneB ∧ b'.points = b.points) ∧
      (at' ≠ 0 → at' < b.acceptance → Serves (.faceEncSet c (BitVec.ofNat 32 e) count lo hi) c s fun b' =>
        Completed c .timeout 0 b b' ∧ b'.fc = b.fc ∧ b'.points = b.points)

/-- R327, R329 to R334, R340, R341, R345: the field-supply warning and lockout, latched-off outputs, the common output
fault, and the compliance of analog outputs; during lockout every digital output is off and the OSSDs are open.
The model's own choices in it: assumption log 2 to 4, 23, 37. -/
def Obligations.FaceOutputsFollowTheSupply : Prop :=
  ∀ (s : State) (n : BenchIx) (t a : Nat) (i : Fin 8) (m : Fin 2) (y u : Int) (p : Nat) (c : Cmd),
    let x := (s.bench n).tick t
    let now := x.faceNow
    let told (b' : Bench) (k : FaceNews) (P : Prop) : Prop :=
      (x.fc.linkOk = true → P) ∧ (x.fc.linkOk = false → b'.fc.news = x.fc.news ++ [k])
    let z := x.fc.do_[i]
    let o := x.fc.ao[m]
    let h := s.bench c.bench
    let others (b' : Bench) : Prop := ∀ j : Fin 8, j ≠ i → b'.fc.do_[j] = x.fc.do_[j]
    (x.fc.powered = true → x.fc.warnLow = some a → a + 9000 ≤ now → x.fc.fieldWarn = false →
      Gives (.fieldWarn n t) n s fun b' => b'.fc.fieldWarn = true ∧ b'.points = x.points ∧
        told b' .warn (b'.fc.sagCnt = inc x.fc.sagCnt ∧ bitOf b'.ev[(8 : Fin 18)] 0 = true)) ∧
    (x.fc.powered = true → x.fc.warnHigh = some a → a + 9999000 ≤ now → x.fc.fieldWarn = true → Gives (.fieldWarnClear n t) n s fun b' =>
      b'.fc.fieldWarn = false ∧ b'.points = x.points ∧ ∀ j : Fin 16,
        (b'.fc.di[j]).wire = (x.fc.di[j]).wire ∧ (b'.fc.di[j]).wireAt = (x.fc.di[j]).wireAt.map fun _ => now) ∧
    (x.fc.powered = true → x.fc.lockLow = some a → a + 4000 ≤ now → x.fc.lockout = false → Gives (.lockout n t) n s fun b' =>
      b'.fc.lockout = true ∧ told b' .lockout (b'.fc.lockCnt = inc x.fc.lockCnt ∧ bitOf b'.ev[(8 : Fin 18)] 1 = true) ∧
      b'.qn.ossdOn = false ∧ ∀ j : Fin 8, b'.doLand j = false ∧ (b'.fc.do_[j]).applied = (x.fc.do_[j]).applied) ∧
    (x.fc.powered = true → x.fc.lockHigh = some a → a + 9999000 ≤ now → x.fc.lockout = true → Gives (.reenabled n t) n s fun b' =>
      b'.fc.lockout = false ∧ told b' .reenabled (bitOf b'.ev[(8 : Fin 18)] 2 = true) ∧ b'.points = x.points ∧
      ∀ j : Fin 8, (b'.fc.do_[j]).applied = (x.fc.do_[j]).applied ∧ (b'.fc.do_[j]).changedAt = x.rail.now) ∧
    (x.fc.powered = true → z.applied = true → x.fc.lockout = false → Gives (.latchOff n t i) n s fun b' =>
      (b'.fc.do_[i]).latched = true ∧ (b'.fc.do_[i]).applied = true ∧ b'.fc.outFault = true ∧ others b' ∧
      b'.points = x.points ∧ (x.bn.mode = .run → x.fc.faceLink = true → b'.doLand i = false) ∧
      (x.fc.linkOk = true → b'.fc.faultCnt = if x.fc.outFault then x.fc.faultCnt else inc x.fc.faultCnt)) ∧
    (x.fc.powered = true → x.doRben i = true → z.readback ≠ z.applied → z.changedAt + fld (x.ffw 0x1C) 7 0 * 100000 ≤ x.rail.now → Gives (.readBackMismatch n t i) n s fun b' =>
        (b'.fc.do_[i]).mismatch = true ∧ b'.fc.outFault = true ∧ others b' ∧ b'.points = x.points ∧
        (x.fc.linkOk = true → b'.fc.faultCnt = if x.fc.outFault then x.fc.faultCnt else inc x.fc.faultCnt)) ∧
    (x.fc.powered = true → now % 50000 = 0 → x.aoLand m = some u → o.compl = false → o.nLow = 1 →
      7 * y < 28000000 + 4000 * u - 350000 → Gives (.aoSample n t m y) n s fun b' => (b'.fc.ao[m]).compl = true ∧
        told b' .compliance (b'.fc.cplCnt = inc x.fc.cplCnt) ∧
        (x.facePoint (28 + m.val) = some p → x.fc.linkOk = true → x.bn.mode = .run → bitOf (b'.point p).quality qCompliance = true ∧
          (b'.point p).value = (x.point p).value ∧ (b'.point p).stamp = (x.point p).stamp) ∧
        (x.facePoint (28 + m.val) ≠ some p → b'.point p = x.point p)) ∧
    (x.fc.powered = true → now % 50000 = 0 → x.aoLand m = none → Gives (.aoSample n t m y) n s fun b' =>
      (b'.fc.ao[m]).compl = o.compl ∧ (b'.fc.ao[m]).wire = o.wire ∧ b'.points = x.points) ∧
    (h.Takes modesCfgRunHold → h.Answers c → Serves (.faceFaultClear c) c s fun b' => Completed c .ok 0 h b' ∧
      (h.fc.faceLink = true → (∀ j : Fin 8, (b'.fc.do_[j]).latched = false ∧ (b'.fc.do_[j]).mismatch = (h.fc.do_[j]).mismatch ∧
        (b'.fc.do_[j]).applied = (h.fc.do_[j]).applied) ∧ b'.fc.outFault = h.fc.do_.toList.any (·.mismatch)) ∧
      (h.fc.faceLink = false → b'.fc = { h.fc with orders := h.fc.orders ++ [.clear] }) ∧ b'.points = h.points)

/-- R42, R43, R314, R344, R349, R350, R360, R476: frames of the barrier link, liveness tokens and the face's supply.
Without any one of them the outputs are not enabled and the OSSDs are open.
The model's own choices in it: assumption log 2, 3, 23, 37. -/
def Obligations.FaceLinkAndPower : Prop :=
  ∀ (s : State) (n : BenchIx) (t : Nat) (si : BitVec 5),
    let x := (s.bench n).tick t
    let now := x.rail.now
    let still (b' : Bench) : Prop := ∀ p, some p ∉ x.mirrorPoints → b'.point p = x.point p
    let off (b' : Bench) : Prop := b'.outEn = false ∧ b'.qn.ossdOn = false ∧ still b'
    (x.fc.powered = true → x.bn.coreOk = true → Gives (.barrierFrame n t true si) n s fun b' => b'.fc.faceLink = true ∧
      b'.fc.follower = now ∧ b'.qn.a.toggleAt = now ∧ b'.qn.a.driveLost = false ∧ still b') ∧
    (x.fc.powered = true → x.bn.coreOk = true → Gives (.barrierFrame n t false si) n s fun b' => b'.fc.linkOk = true ∧
      still b' ∧ (∀ i : Fin 16, b'.fc.seen.raw.getLsbD i = (x.fc.di[i]).raw) ∧ ∀ ch : Fin 5, (b'.qn.a.ch[ch]).raw = si.getLsbD ch) ∧
    (x.fc.powered = false ∨ x.bn.coreOk = false → ∀ w, Gives (.barrierFrame n t w si) n s fun b' => b'.fc = x.fc ∧ b'.points = x.points) ∧
    (Gives (.faceLinkLoss n t) n s fun b' => b'.fc.faceLink = false ∧ off b') ∧
    (x.bn.coreOk = true → Gives (.livenessToken n t { probe := true, rail := true }) n s fun b' => b'.nl.tokenAt = some now ∧
      b'.points = x.points ∧
      (x.fc.powered = true → x.fc.faceLink = true → b'.fc.tokenOk = true ∧ b'.fc.tokenAt = now)) ∧
    (∀ q : Pulse, q.probe = false ∨ q.rail = false → Gives (.livenessToken n t q) n s fun b' => b'.nl = x.nl ∧ b'.fc = x.fc ∧
      b'.points = x.points) ∧
    (x.fc.tokenAt + 6000 ≤ now → Gives (.livenessLoss n t) n s fun b' => b'.fc.tokenOk = false ∧ off b' ∧
      ∀ j, b'.doLand j = false) ∧
    (Gives (.facePowerLoss n t) n s fun b' => b'.fc.powered = false ∧ off b' ∧ ∀ j, b'.doLand j = false) ∧
    (Gives (.facePowerReturn n t) n s fun b' => b'.fc.powered = true ∧ b'.fc.linkOk = true ∧ b'.fc.faceLink = true ∧
      b'.fc.tokenOk = x.fc.tokenOk ∧ b'.points = x.points)


/-! ### Quoin (chapter 11) -/

/-- R380, R381, R383, R384, R387: the session, the password and its wait, the commit and the change log of the safety
configuration.
The model's own choices in it: assumption log 2 to 4, 38, 39. -/
def Obligations.QuoinSessionsGuardTheConfiguration : Prop :=
  ∀ (s : State) (c : Cmd) (pw new : List Byte) (oper : BitVec 16) (first count : Word) (n : BenchIx) (t : Nat) (y : QSession)
    (a : Nat),
    let b := s.bench c.bench
    let q := b.qn
    let x := (s.bench n).tick t
    let gives (i : Instr) (st : Status) (r : Nat) (P : Quoin → Prop) : Prop :=
      Serves i c s fun b' => Completed c st r b b' ∧ P b'.qn
    (b.Takes modesCfg → b.Answers c →
      (q.waitAt = none → passwordOk pw = true → q.password = some pw →
        gives (.qnUnlock c pw oper) .ok 0 fun q' => q'.session = some { oper := oper, last := b.rail.up } ∧
          q'.failures = 0 ∧ q'.logSeq = q.logSeq + 1 ∧ q'.cfg = q.cfg) ∧
      (q.waitAt = none → passwordOk pw = true → q.password ≠ none → q.password ≠ some pw →
        gives (.qnUnlock c pw oper) .password 0 fun q' => q'.session.isSome = q.session.isSome ∧
          q'.password = q.password ∧ q'.logSeq = q.logSeq + 1 ∧
          (q.failures < 2 → q'.failures = q.failures + 1 ∧ q'.waitAt = none) ∧
          (2 ≤ q.failures → q'.waitAt = some b.rail.up)) ∧
      (q.waitAt ≠ none → gives (.qnUnlock c pw oper) .busy 0 fun q' => q'.session.isSome = q.session.isSome ∧
        q'.waitAt = q.waitAt) ∧
      (gives (.qnLock c) .ok 0 fun q' => q'.session = none ∧ q'.cfg = q.cfg ∧
        (q.session ≠ none → q'.staged = q.cfg.getD (Vector.replicate 24 0))) ∧
      (q.waitAt = none → passwordOk pw = true → passwordOk new = true → q.password = some pw →
        gives (.qnSetPassword c pw new oper) .ok 0 fun q' => q'.password = some new ∧ q'.failures = 0) ∧
      (q.waitAt = none → passwordOk new = true → q.password = none →
        gives (.qnSetPassword c [] new oper) .ok 0 fun q' => q'.password = some new) ∧
      (q.session ≠ none → b.quoinCfgOk q.staged = true →
        gives (.qnCommit c (crc32c q.staged.toList) oper) .ok (crc32c q.staged.toList).toNat fun q' =>
          q'.cfg = some q.staged ∧ q'.copyA = some q.staged ∧ q'.copyB = some q.staged ∧ q'.session = none ∧
          q'.logSeq = q.logSeq + 1) ∧
      (q.session ≠ none → b.quoinCfgOk q.staged = true → first ≠ crc32c q.staged.toList →
        gives (.qnCommit c first oper) .checkFailed 0 fun q' => q'.cfg = q.cfg ∧ q'.session.isSome = true) ∧
      (q.session = none → gives (.qnCommit c first oper) .badState 0 fun q' => q'.cfg = q.cfg ∧ q'.session = none)) ∧
    (b.Takes modesAny → b.Answers c → count ≠ 0 → count.toNat ≤ 256 →
      let found := logRead q.log first.toNat count.toNat
      let full := decide (found.1.flatten.length ≤ c.buf / 4)
      gives (.qnLogRead c first count) (if full then .ok else .partialDone) (if full then found.2 else c.buf / 4 * 4) fun q' => q'.log = q.log ∨
        (b.bn.mode ≠ .configure ∧ q.session ≠ none)) ∧
    ((x.bn.mode = .configure → x.qn.session = some y → y.last + 600000000000 ≤ x.rail.up →
      Gives (.qnSessionTimeout n t) n s fun b' => b'.qn.session = none ∧ b'.qn.cfg = x.qn.cfg ∧
        b'.qn.staged = x.qn.cfg.getD (Vector.replicate 24 0) ∧ b'.points = x.points) ∧
    (x.bn.mode = .configure → x.qn.session = some y → x.rail.up < y.last + 600000000000 →
      Gives (.qnSessionTimeout n t) n s fun b' => b'.qn = x.qn) ∧
    (x.qn.waitAt = some a → a + 60000000000 ≤ x.rail.up → Gives (.passwordWaitExpiry n t) n s fun b' =>
      b'.qn.waitAt = none ∧ b'.qn.failures = 0 ∧ b'.qn.password = x.qn.password) ∧
    (x.qn.waitAt = some a → x.rail.up < a + 60000000000 → Gives (.passwordWaitExpiry n t) n s fun b' =>
      b'.qn.waitAt = some a))

/-- R358, R364, R368, R370, R373, R376: clearing the faults whose cause has gone, and setting the reference of a
monitored axis.
The model's own choices in it: assumption log 2 to 4, 38, 39. -/
def Obligations.QuoinFaultsClearAndReferencesSet : Prop :=
  ∀ (s : State) (c : Cmd) (oper : BitVec 16) (t1 t2 : Nat) (back : PulseBack) (q : Fin 2) (pos lo hi : Word),
    let b := s.bench c.bench
    let sourcesOk := decide (t1 < 3000 ∧ t2 < 3000)
    let ossdsOk := decide (back.ossdA < 5000 ∧ back.ossdB < 5000)
    let z := (b.pulsesSeen false back.offA).pulsesSeen true back.offB
    let found : Word := (if sourcesOk then 0 else 0x10) ||| (if ossdsOk then 0 else 0x20)
    let stays (l : Lane) : Word := (l.fault ||| found) &&& ~~~ z.faultsGone l (sourcesOk && ossdsOk)
    let left := stays z.qn.a ||| stays z.qn.b
    let at' := cat64 lo hi
    b.Answers c →
    (b.Takes modesAny → left = 0 → Serves (.qnFaultClear c oper (t1, t2) back) c s fun b' =>
      Completed c .ok b.qn.fault.toNat b b' ∧ b'.qn.fault = 0 ∧ b'.qn.rstReq = true ∧ b'.qn.a.state ≠ .fault ∧
      b'.qn.b.state ≠ .fault) ∧
    (b.Takes modesAny → left ≠ 0 → Serves (.qnFaultClear c oper (t1, t2) back) c s fun b' =>
      Completed c .badState 0 b b' ∧ b'.qn.fault = left) ∧
    (b.Takes modesRun → b.qAxisEn q = true → (b.axis (b.qAxis q)).state = .idle → at' % 10 = 0 →
      (at' = 0 ∨ b.acceptance ≤ at' →
        let z := if at' = 0 then firstMul 10000 (b.acceptance + 20000) else at'
        Serves (.qnSetRef c (BitVec.ofNat 32 q) pos lo hi) c s fun b' => Completed c .ok z b b' ∧
          b'.qn.setRef = b.qn.setRef ++ [(q.val, z, s32 pos)] ∧ b'.qn.ref = b.qn.ref ∧ b'.points = b.points) ∧
      (at' ≠ 0 → at' < b.acceptance → Serves (.qnSetRef c (BitVec.ofNat 32 q) pos lo hi) c s fun b' =>
        Completed c .timeout 0 b b' ∧ b'.qn.setRef = b.qn.setRef)) ∧
    (b.Takes modesRun → b.qAxisEn q = true → (b.axis (b.qAxis q)).state ≠ .idle → at' % 10 = 0 →
      Serves (.qnSetRef c (BitVec.ofNat 32 q) pos lo hi) c s fun b' => Completed c .badState 0 b b' ∧
        b'.qn.setRef = b.qn.setRef)

/-- R349 to R351, R355, R357, R359 to R362, R366, R368, R369, R372, R374, R375: what the lanes sample and exchange, the
faults they decide, the tests of sources and OSSDs, the stop time, the speed evaluation and the reset input. A fault of
the unit takes both lanes to FAULT and opens the OSSDs.
The model's own choices in it: assumption log 2 to 4, 38, 39. -/
def Obligations.QuoinLanesDecide : Prop :=
  ∀ (s : State) (n : BenchIx) (t a p : Nat) (si : BitVec 5) (okA okB laneB t2 : Bool) (ch : Fin 5) (i : Fin 2)
    (mv mvA mvB : Nat),
    let x := (s.bench n).tick t
    let now := x.rail.now
    let l := x.lane laneB
    let o := x.qn.ossd[i]
    let still (b' : Bench) : Prop := ∀ r, some r ∉ x.mirrorPoints → b'.point r = x.point r
    let gives (e : Instr) (P : Bench → Prop) : Prop := Gives e n s fun b' => P b' ∧ still b'
    let fault (bit : Nat) (b' : Bench) : Prop := bitOf b'.qn.fault bit = true ∧ b'.qn.b.state = .fault ∧
      b'.qn.ossdOn = false ∧ (x.bn.mode ≠ .wake → b'.qn.a.state = .fault)
    (x.fc.powered = true → now % 10000 = 0 → gives (.laneBSample n t si) fun b' => b'.qn.b.driveLost = false ∧
      ∀ k : Fin 5, (b'.qn.b.ch[k]).raw = si.getLsbD k) ∧
    (gives (.laneExchange n t okA okB) fun b' => b'.qn.a.exchAt = (if okA then now else x.qn.a.exchAt) ∧
      b'.qn.b.exchAt = (if okB then now else x.qn.b.exchAt) ∧ b'.qn.fault = x.qn.fault) ∧
    (l.exchAt + 5000 ≤ now → gives (.laneLost n t laneB) (fault 6)) ∧
    (now < l.exchAt + 5000 → gives (.laneLost n t laneB) fun b' => b'.qn.fault = x.qn.fault) ∧
    (x.qn.laneDiff = some a → a + 2000000 ≤ now → gives (.laneX n t) (fault 9)) ∧
    (l.toggleAt + 5000 ≤ now → gives (.switchDriveTimeout n t laneB) fun b' => (b'.lane laneB).driveLost = true ∧
      (b'.lane laneB).closed = false ∧ b'.qn.ossdOn = false) ∧
    (now < l.toggleAt + 5000 → gives (.switchDriveTimeout n t laneB) fun b' => b'.qn = x.qn) ∧
    (x.qTpp ≠ 0 → now % x.qTpp = (if t2 then x.qTpp / 2 else 0) → x.fc.powered = true →
      gives (.testPulse n t t2 mv) fun b' => (x.fedFrom t2 ch = true → ((b'.lane laneB).ch[ch]).win = some now ∧
        ((b'.lane laneB).ch[ch]).verify = (l.ch[ch]).raw) ∧ (mv + 3000 ≤ x.fc.lplus → fault 4 b')) ∧
    (x.qTpp ≠ 0 → x.pulsePhase t2 = x.qTpw → x.qTpw ≠ 0 → x.fc.powered = true → gives (.testPulse n t t2 mv) fun b' =>
      (3000 ≤ mv → fault 4 b') ∧ (mv < 3000 → b'.qn.fault = x.qn.fault)) ∧
    ((l.ch[ch]).raw ≠ (l.ch[ch]).filt → x.qIfilt ch ≤ (l.ch[ch]).acc → x.inWindow (l.ch[ch]).win now = false →
      gives (.channelChange n t laneB ch) fun b' => ((b'.lane laneB).ch[ch]).filt = (l.ch[ch]).raw ∧
        ((b'.lane laneB).ch[ch]).acc = 0) ∧
    (((l.ch[ch]).raw = (l.ch[ch]).filt ∨ (l.ch[ch]).acc < x.qIfilt ch) →
      gives (.channelChange n t laneB ch) fun b' => b'.lane laneB = l) ∧
    (l.discAt[i] = some a → a + x.qDisc i ≤ now → gives (.disc n t i) fun b' => bitOf b'.qn.fault (2 + i.val) = true) ∧
    (x.qOpp ≠ 0 → now % x.qOpp = (if i = 0 then 0 else x.qOpp / 2) → x.qn.ossdOn = true →
      gives (.ossdTest n t i) fun b' => (b'.qn.ossd[i]).offUntil = now + x.qOpw ∧
        (b'.qn.ossd[i]).nextB = (!o.nextB) ∧ b'.qn.ossdOn = true) ∧
    (x.fc.powered = true → now % 10000 = 0 → gives (.ossdReadback n t mvA mvB) fun b' =>
      (b'.qn.ossd[(0 : Fin 2)]).readback = decide (5000 < mvA) ∧
      (b'.qn.ossd[(1 : Fin 2)]).readback = decide (5000 < mvB) ∧
      (x.ossdBad 0 mvA = true ∨ x.ossdBad 1 mvB = true → fault 5 b') ∧
      (x.ossdBad 0 mvA = false → x.ossdBad 1 mvB = false → b'.qn.fault = x.qn.fault)) ∧
    (l.state = .stopping → l.stopAt + x.qSs1 ≤ now → gives (.ss1Timeout n t laneB) fun b' =>
      (b'.lane laneB).state ≠ .stopping) ∧
    (now % 100000 = 0 → x.qAxisEn i = true → x.qn.setRef = [] → gives (.speedEvaluation n t) fun b' =>
      (x.bn.mode ≠ .wake → b'.qn.a.pos[i] = x.quoinPosA i) ∧ b'.qn.b.pos[i] = x.quoinPosB i ∧
      (x.bn.mode ≠ .wake → x.activeNow = x.qn.active → bitOf x.qn.active (5 + i.val) = true →
        (x.slpBad i (x.quoinPosA i) || x.slpBad i (x.quoinPosB i)) = true →
        bitOf (b'.quoinWord 0x00C) (5 + i.val) = true) ∧
      (x.bn.mode ≠ .wake → x.qPtol i < (x.quoinPosA i - x.quoinPosB i).natAbs → b'.qn.posDiff[i] ≠ none)) ∧
    (x.qAxisEn i = true → x.qn.posDiff[i] = some a → a + 10000000 ≤ now → gives (.posX n t i) (fault (7 + i.val))) ∧
    (x.qAxisEn i = false → gives (.posX n t i) fun b' => b'.qn.fault = x.qn.fault) ∧
    (x.bn.mode ≠ .wake → x.qn.pressAt = some p → x.qn.fellAt = some a → p + 50000000 ≤ a → a ≤ p + 3000000000 → x.qn.pressReady = true →
      x.qn.a.demand = x.laneDemand x.qn.a → x.qn.b.demand = x.laneDemand x.qn.b → x.outFell = false →
      x.qn.stPend = false → x.qn.fault = 0 → x.qn.setRef = [] → x.activeNow = x.qn.active →
      x.qn.a.state = .ready → x.qn.b.state = .ready →
      (∀ k, k = 1 ∨ k = 2 → x.withAction k (x.laneDemand x.qn.a) = false ∧ x.withAction k (x.laneDemand x.qn.b) = false) →
      gives (.resetEdge n t) fun b' => b'.qn.a.state = .on ∧ b'.qn.b.state = .on ∧ b'.qn.rstReq = false ∧
        b'.qn.rstRejCnt = x.qn.rstRejCnt) ∧
    (x.qn.pressAt = some p → x.qn.fellAt = some a → a < p + 50000000 ∨ p + 3000000000 < a →
      gives (.resetEdge n t) fun b' => b'.qn.rstRejCnt = inc x.qn.rstRejCnt ∧ b'.qn.rstReq = x.qn.rstReq ∧
        bitOf b'.ev[(9 : Fin 18)] 2 = true)


/-! ### Haul (chapter 12) -/

/-- R391 to R393, R395, R396, R400 to R405, R411, R412: a cut sends one down frame to each served station; a valid up frame
counts toward a station's return or writes its group with the latch instant as stamp; a missed frame marks the inputs STALE,
and the station is LOST, its inputs substituted, at MISSLIM misses in a row. HAUL_STATION_SET brings a station into INIT or
disables it, its inputs substituted; the link and the management interface.
The model's own choices in it: assumption log 2 to 4, 34, 40. -/
def Obligations.HaulServesItsStations : Prop :=
  (∀ (s : State) (n : BenchIx) (t p : Nat) (txs : List Nat) (j : Fin 64) (f : UpFrame) (v : Word),
    let x := (s.bench n).tick t
    let now := x.rail.now
    let z := x.station j
    let apply := now + x.haulLead
    let start := apply - x.haulAof
    let latch := now - x.haulRxwin
    let seq := (z.seq + 1) % 65536
    let next := if now < start then start else start + x.haulBase * x.stationMult j
    let cycle := x.bn.mode = .run ∨ x.bn.mode = .hold
    let cut (P : Bench → Prop) : Prop := Gives (.haulCut n t txs) n s fun b' => P b' ∧
      ∀ q, (b'.point q).value = (x.point q).value ∧ (b'.point q).stamp = (x.point q).stamp
    let valid := f.typ = 1 ∧ x.frameOk f = true ∧ f.station = j.val ∧ x.stationEn j = true ∧ z.state ≠ .disabled ∧
      x.latchAt j now = some f.latch ∧ now ≤ f.latch + x.haulRxwin ∧ f.holds (x.stationIn j).length = true ∧
      f.lateLatch = false ∧ z.latch ≠ some f.latch
    let input (q : Nat) : Prop := q ∈ x.stationIn j ∧ (x.point q).source = 2 ∧ (x.point q).output = false
    let own (q : Nat) : Prop := ∀ o ∈ x.stations, o ≠ j.val → q ∉ x.stationIn o
    x.haulEn = true →
    (x.haulBase ≠ 0 → x.haulAof + x.haulPhase ≤ apply → (start - x.haulPhase) % x.haulBase = 0 → cycle →
      x.stationEn j = true → x.servedAt j start = true → z.state ≠ .disabled →
      cut fun b' => b'.ha.cycling = true ∧ (b'.station j).seq = seq ∧ (b'.station j).state = z.state ∧
        (x.ha.link = true → x.bn.mode = .hold ∨ z.state ≠ .operational →
          ∃ init arr, x.haulTo j (.down j seq true init arr apply next []) ∈ b'.ha.tx) ∧
        (x.ha.link = true → x.bn.mode = .run → z.state = .operational → z.waiting = false →
          bitOf (x.guard (0x160 + 4 * (j.val / 32))) (j.val % 32) = true → ∃ arr slots,
            x.haulTo j (.down j seq false false arr apply next slots) ∈ b'.ha.tx ∧
            slots.length = (x.stationOut j).length + 2 * (x.stationAxes j).length)) ∧
    (x.ha.link = false → cut fun b' => b'.ha.tx = x.ha.tx) ∧
    (x.frameOk f = false → Gives (.upFrame n t f) n s fun b' =>
      b'.ha.rxDrop = inc x.ha.rxDrop ∧ b'.points = x.points ∧ b'.ha.stations = x.ha.stations) ∧
    (cycle → valid → z.state = .init ∨ z.state = .lost → z.good + 1 < x.haulRcnt → Gives (.upFrame n t f) n s fun b' =>
      (b'.station j).good = z.good + 1 ∧ (b'.station j).state = z.state ∧ b'.points = x.points) ∧
    (cycle → valid → z.state = .init ∨ z.state = .lost → x.haulRcnt ≤ z.good + 1 → Gives (.upFrame n t f) n s fun b' =>
      (b'.station j).state = .operational ∧ (b'.station j).waiting = true ∧ (b'.station j).latch = some f.latch ∧
      bitOf b'.ev[(13 : Fin 18)] 2 = true) ∧
    (x.bn.mode = .run → valid → z.state = .operational → (p, v) ∈ (x.stationIn j).zip (f.slots (x.stationIn j).length) → input p →
      Gives (.upFrame n t f) n s fun b' => (b'.point p).stamp = f.latch ∧ (b'.station j).group = some f.latch ∧
        ((x.settleForces p f.latch).forceOn p = none → (b'.point p).value = fmtWord (x.point p).format v ∧
          bitOf (b'.point p).quality qValid = true) ∧
        ∀ q, q ∉ x.stationIn j → b'.point q = x.point q) ∧
    (cycle → x.haulRxwin ≤ now → x.stationEn j = true → x.servedAt j latch = true → z.state = .operational →
      z.latch ≠ some latch →
      (z.missRun + 1 < x.haulMisslim → Gives (.arrivalDeadline n t) n s fun b' => (b'.station j).state = .operational ∧
        (b'.station j).missRun = z.missRun + 1 ∧ (x.bn.mode = .run → input p → own p →
          bitOf (b'.point p).quality qStale = true ∧ bitOf (b'.point p).quality qValid = false ∧
          (b'.point p).value = (x.point p).value)) ∧
      (x.haulMisslim ≤ z.missRun + 1 → Gives (.arrivalDeadline n t) n s fun b' => (b'.station j).state = .lost ∧
        bitOf b'.ev[(13 : Fin 18)] 1 = true ∧ (x.bn.mode = .run → input p → own p →
          bitOf (b'.point p).quality qSubst = true ∧ bitOf (b'.point p).quality qValid = false ∧
          (b'.point p).stamp = latch)))) ∧
  ∀ (s : State) (n : BenchIx) (t p : Nat) (c : Cmd) (w v : Word) (data : BitVec 16),
    let x := (s.bench n).tick t
    let b := s.bench c.bench
    let j := fld w 5 0
    let set (P : Bench → Prop) : Prop := Serves (.haulStationSet c w) c s fun b' =>
      Completed c .ok (b.nextCut j) b b' ∧ P b' ∧ (∀ o, o ≠ j → b'.station o = b.station o) ∧
      (∀ q, q ∉ b.stationIn j → b'.point q = b.point q) ∧
      (b.bn.mode = .run → p ∈ b.stationIn j → (b.point p).source = 2 → (b.point p).output = false →
        bitOf (b'.point p).quality qSubst = true ∧ bitOf (b'.point p).quality qValid = false ∧
        (b'.point p).stamp = b.rail.now)
    (b.Takes (fun m => m = .run || m = .hold) → b.Answers c →
      (b.stationEn j = true → bitOf w 8 = true → set fun b' => (b'.station j).state = .init ∧ (b'.station j).good = 0) ∧
      (b.stationEn j = true → bitOf w 8 = false → set fun b' => (b'.station j).state = .disabled) ∧
      (b.stationEn j = false → Serves (.haulStationSet c w) c s fun b' => Completed c .badParam 0 b b' ∧
        b'.ha = b.ha ∧ b'.points = b.points)) ∧
    (x.ha.link = true → Gives (.linkDown n t) n s fun b' => b'.ha.link = false ∧ b'.points = x.points ∧
      bitOf b'.ev[(13 : Fin 18)] 0 = true ∧ b'.ha.stations = x.ha.stations) ∧
    (Gives (.haulLinkUp n t) n s fun b' => b'.ha.link = true ∧ b'.points = x.points ∧ b'.ha.stations = x.ha.stations) ∧
    (bitOf (s.bench n).ha.mdioCmd 31 = false → Gives (.mdioCmd n v) n s fun b' => b'.ha.mdioCmd = v &&& 0xFFF0FFFF#32 ∧
      b'.ha.mdioRead = bitOf v 30 ∧
      b'.ha.mdioData = (s.bench n).ha.mdioData ∧ b'.points = (s.bench n).points) ∧
    (bitOf (s.bench n).ha.mdioCmd 31 = true → Gives (.mdioCmd n v) n s fun b' => b'.points = (s.bench n).points ∧
      b'.ha = { (s.bench n).ha with mdioCmd := (v &&& 0x7FF0FFFF#32) ||| 0x80000000#32 }) ∧
    (bitOf x.ha.mdioCmd 31 = true → Gives (.mdioComplete n t data) n s fun b' => bitOf b'.ha.mdioCmd 31 = false ∧
      b'.ha.mdioData = (if x.ha.mdioRead then data.setWidth 32 else x.ha.mdioData) ∧ b'.points = x.points)

/-! ### CAN FD (chapter 13) -/

/-- R419, R423 to R427, R437: message RAM through its window, receive buffers with their locks, and the frames that an
entry accepts into a buffer or a FIFO.
The model's own choices in it: assumption log 2 to 4, 41. -/
def Obligations.CanReceivesIntoBuffers : Prop :=
  ∀ (s : State) (n : BenchIx) (t a o m : Nat) (k : Fin 2) (v h0 h1 : Word) (data : List Word) (sof : Nat) (buf : Fin 64)
    (e : Nat × Nat) (h : CanHold),
    let b := s.bench n
    let c := b.can[k]
    let x := b.tick t
    let z := x.can[k]
    let f : CanFrame := { h0 := putBit h0 31 false, h1 := h1, data := data }
    let entry := z.word (filterAt e.1 e.2 + 12)
    let fifo : Fin 32 := mkIx 31 (fld entry 12 8)
    (c.addr = m → m < 0x1400 ∨ (0x2800 ≤ m ∧ m < 0x3700) → b.bn.mode = .configure →
      Gives (.mrDataAccess n k (some v)) n s fun b' => (b'.can[k]).word m = v &&& mrMask m ∧ (b'.can[k]).addr = (m + 4) % 0x4000 ∧
        (∀ q, q ≠ m → (b'.can[k]).word q = c.word q) ∧ b'.points = b.points) ∧
    (c.addr = m → b.bn.mode ≠ .configure → Gives (.mrDataAccess n k (some v)) n s fun b' =>
      (b'.can[k]).ram = c.ram ∧ (b'.can[k]).addr = (m + 4) % 0x4000 ∧ b'.bn.windowRej = inc b.bn.windowRej) ∧
    (c.addr = m → m < 0x1400 → Gives (.mrDataAccess n k none) n s fun b' => b'.fn.lastRead = c.word m ∧
      (b'.can[k]).addr = m + 4 ∧ (b'.can[k]).ram = c.ram ∧ (b'.can[k]).locks = c.locks ∧ b'.points = b.points) ∧
    (Gives (.rxBufferLockRead n k buf) n s fun b' => b'.fn.lastRead = c.word (bufAt buf) ∧ (b'.can[k]).ram = c.ram ∧
      (b'.can[k]).locked buf = true ∧ ∀ j, j ≠ buf.val → (b'.can[k]).locked j = c.locked j) ∧
    (Gives (.rxBufferReleaseRead n k buf) n s fun b' => b'.fn.lastRead = c.word (bufAt buf + 76) ∧
      (b'.can[k]).locked buf = false ∧
      (c.holds.find? (fun x => x.buf = buf.val) = none → (b'.can[k]).bufNew buf = false ∧
        ∀ q, q ≠ bufAt buf + 12 → (b'.can[k]).word q = c.word q) ∧
      (c.holds.find? (fun x => x.buf = buf.val) = some h → (b'.can[k]).bufNew buf = true ∧
        (b'.can[k]).word (bufAt buf) = c.word (holdAt h.slot))) ∧
    (z.locks.find? (fun l => l.1 = buf.val) = some (o, a) →
      (a + 100000 ≤ x.rail.now → Gives (.lockTimeout n t k buf) n s fun b' => (b'.can[k]).locked buf = false ∧
        (b'.can[k]).cnt[(4 : Fin 12)] = inc z.cnt[(4 : Fin 12)] ∧ b'.points = x.points) ∧
      (x.rail.now < a + 100000 → Gives (.lockTimeout n t k buf) n s fun b' => b'.can = x.can)) ∧
    (x.canEn k = true → z.state.normal = true ∨ z.state = .monitoring → x.bn.mode ≠ .wake →
      (z.decide f = some e → bitOf entry 28 = true → fld entry 21 16 = m → z.locked m = false →
        Gives (.canFrameRx n t k h0 h1 data sof) n s fun b' => (b'.can[k]).bufNew m = true ∧
          (b'.can[k]).word (bufAt m) = f.h0 ∧ (b'.can[k]).word (bufAt m + 8) = lo32 sof ∧ b'.points = x.points) ∧
      (z.decide f = some e → bitOf entry 28 = false → bitOf entry 29 = true → x.bn.mode ≠ .shadow →
        (x.fifo fifo).en = true → (x.fifo fifo).prod = 3 + k.val → (x.fifo fifo).dropping = false →
        3 + (frameWords f.bytes data).length ≤ (x.fifo fifo).free → Gives (.canFrameRx n t k h0 h1 data sof) n s fun b' =>
          (b'.fifo fifo).pkts = (x.fifo fifo).pkts + 1 ∧ (b'.can[k]).ram = z.ram ∧ b'.points = x.points) ∧
      (z.decide f = none → bitOf (x.cw k 8) 27 = false → Gives (.canFrameRx n t k h0 h1 data sof) n s fun b' =>
        b'.fq = x.fq ∧ (b'.can[k]).ram = z.ram ∧ b'.points = x.points) ∧
      (x.canOwnId k f = true → Gives (.canFrameRx n t k h0 h1 data sof) n s fun b' =>
        (b'.can[k]).cnt[(2 : Fin 12)] = inc z.cnt[(2 : Fin 12)] ∧
        (b'.can[k]).coll = putBit (f.h0 &&& 0x7FFFFFFF#32) 31 true))

/-- R417, R428, R430 to R433, R439 to R441: object frames join the pending frames at their cut, FIFO packets are offered,
the frame that has been sent leaves them, denied frames are dropped, and the reference message is sent and withdrawn.
The model's own choices in it: assumption log 2 to 4, 41. -/
def Obligations.CanSendsPendingFrames : Prop :=
  ∀ (s : State) (n : BenchIx) (t sof : Nat) (k : Fin 2) (i : Fin 48) (j : Fin 32) (begun : Bool) (delay : Option Nat)
    (p : CanPending) (fr : CanFrame) (c : Cmd) (w : Word),
    let x := (s.bench n).canTick t
    let now := x.rail.now
    let z := x.can[k]
    let f := x.fifo j
    let per := x.refPeriod k
    let late (q : CanPending) : Bool := q.src = .reference && q.dead.isNone && q.time + per / 2 ≤ now
    let old := z.pending.any fun q => q.src = .object i && q.dead.isNone
    let h := s.bench c.bench
    let hk : Fin 2 := mkIx 1 (fld w 0 0)
    let at' := objAt (fld w 13 8) + 8
    let offers := !(z.pending.any (fun q => q.src = .fifo j) ||
      (match z.urgent with | some u => u.src = .fifo j | none => false))
    let bare (l : List CanPending) : List CanPending := l.map fun q => { q with passed := false }
    let ref : CanFrame := { h0 := x.cw k 0x1C &&& 0x3FFFFFFF#32, h1 := 1, data := [at32 z.cycle 0] }
    ((∀ q ∈ z.pending, x.canAllowed k q.frame = true) → (∀ u, z.urgent = some u → x.canAllowed k u.frame = true) →
      (x.canEn k = true → x.objEn k i = true → x.objInstant k i (now + 1000) = true →
        x.canAllowed k (x.objFrame k i) = true → x.bn.mode = .run ∨ x.bn.mode = .hold → z.state ≠ .off → z.state ≠ .monitoring → z.state ≠ .busOff →
        (∀ u, z.urgent = some u → u.src ≠ .object i) →
        Gives (.objectCut n t k i begun) n s fun b' => (∃ ws vals, (b'.can[k]).pending =
          (if begun || !old then z.pending else z.pending.filter fun q => q.src ≠ .object i) ++
            [{ src := .object i, frame := { x.objFrame k i with data := ws }, time := now + 1000, vals := vals }] ∧
          (x.bn.mode = .hold → ws = frameWords (x.objFrame k i).bytes (x.objPayload k i))) ∧
          (old = true → begun = false → (b'.can[k]).cnt[(6 : Fin 12)] = inc z.cnt[(6 : Fin 12)])) ∧
      (x.canEn k = true → z.state.normal = true → x.bn.mode = .configure ∨ x.bn.mode = .run ∨ x.bn.mode = .hold →
        f.en = true → f.cons = 3 + k.val → f.pkts ≠ 0 → offers = true →
        (x.packetFrame k f.firstPacket = some fr → x.canAllowed k fr = true → Gives (.fifoTxOffer n t k j) n s fun b' =>
          bare (b'.can[k]).pending = bare z.pending ++ [{ src := .fifo j, frame := fr, time := now }] ∧ b'.points = x.points) ∧
        (x.packetFrame k f.firstPacket = none → Gives (.fifoTxOffer n t k j) n s fun b' =>
          (b'.can[k]).cnt[(11 : Fin 12)] = inc z.cnt[(11 : Fin 12)] ∧ (b'.fifo j).pkts + 1 = f.pkts ∧
          (b'.can[k]).pending = z.pending)) ∧
      (Gives (.arbitrationLost n t k) n s fun b' => bare (b'.can[k]).pending = bare (z.pending.filter (·.dead.isNone)) ∧
        b'.points = x.points) ∧
      (z.state.normal = true → z.offer sof = some p → Gives (.txComplete n t k sof delay) n s fun b' =>
        (b'.can[k]).sent = z.sent ++ [p.frame] ∧ (b'.can[k]).txErr = z.txErr - 1 ∧
        bare (b'.can[k]).pending = bare ((z.pending.erase p).filter (·.dead.isNone)) ∧ b'.points = x.points ∧
        (p.src = .reference → (b'.can[k]).refSof = sof)) ∧
      (x.refActive k = true → per ≠ 0 → now % per = 0 → x.canAllowed k ref = true →
        Gives (.referenceMessage n t k) n s fun b' => (b'.can[k]).cycle = (z.cycle + 1) % 64 ∧ b'.points = x.points ∧
        (z.state.normal = true → ∃ q ∈ (b'.can[k]).pending, q.src = .reference ∧ q.time = now ∧
          q.frame = ref))) ∧
    (z.state.normal = true → z.purge.offer now = some p → x.canAllowed k p.frame = false →
      Gives (.arbitrationLost n t k) n s fun b' => p ∉ (b'.can[k]).pending ∧ b'.points = x.points ∧
        bitOf b'.ev[(if k = 0 then 14 else 15 : Fin 18)] 7 = true) ∧
    (z.pending.any late = true → Gives (.refLate n t k false) n s fun b' => (b'.can[k]).pending.any late = false ∧
      (b'.can[k]).cnt[(9 : Fin 12)] = inc z.cnt[(9 : Fin 12)] ∧ b'.points = x.points) ∧
    (Gives (.refLate n t k true) n s fun b' => b'.can = x.can) ∧
    (h.Takes (fun m => m = .run || m = .hold) → h.Answers c → w &&& 0xFFFEC0FE#32 = 0 → fld w 13 8 < 48 →
      (bitOf w 16 = false ∨ (h.objOk hk (fld w 13 8) = true ∧ loadOk (h.canLoad hk (some (fld w 13 8))) = true) →
        Serves (.canObjSet c w) c s fun b' => Completed c .ok (h.nextApply hk (fld w 13 8)) h b' ∧
          (b'.can[hk]).word at' = putBit ((h.can[hk]).word at') 31 (bitOf w 16) ∧
          (∀ q, q ≠ at' → (b'.can[hk]).word q = (h.can[hk]).word q) ∧ b'.points = h.points) ∧
      (bitOf w 16 = true → h.objOk hk (fld w 13 8) = false → Serves (.canObjSet c w) c s fun b' =>
        Completed c .badParam 0 h b' ∧ b'.can = h.can))

/-- R416, R435 to R438, R440, R441: errors raise the error counts, which take the controller to error passive and to
bus-off; recovery, and the integration that precedes taking part in the bus.
The model's own choices in it: assumption log 2 to 4, 41. -/
def Obligations.CanErrorsAndRecovery : Prop :=
  ∀ (s : State) (n : BenchIx) (t : Nat) (k : Fin 2) (typ : Fin 8) (phase late : Bool) (own : Option Nat) (site : CanSite)
    (delay : Option Nat) (c : Cmd),
    let x := (s.bench n).canTick t
    let z := x.can[k]
    let mine := own.bind z.offer
    let steps : Nat × Nat := match site with
      | .frame noFlag _ =>
        if mine = none then (0, 1)
        else if noFlag = true ∧ (typ = 3 ∨ (typ = 4 ∧ z.state = .passive)) then (0, 0) else (8, 0)
      | _ => if mine = none then (0, 8) else (8, 0)
    let tec := z.txErr + steps.1
    let rc := min 255 (z.rxErr + steps.2)
    let h := s.bench c.bench
    let ev (b' : Bench) : Word := b'.ev[(if k = 0 then 14 else 15 : Fin 18)]
    (x.canEn k = true → z.state.normal = true → (∀ p, mine = some p → x.canErrs k p.frame typ.val phase site = true) →
      Gives (.canError n t k (.error typ) phase own late site delay) n s fun b' =>
      (b'.can[k]).cnt[(0 : Fin 12)] = inc z.cnt[(0 : Fin 12)] ∧ (b'.can[k]).errType = typ.val ∧
      (b'.can[k]).txErr = tec ∧ (b'.can[k]).rxErr = rc ∧ b'.points = x.points ∧
      (255 < tec → (b'.can[k]).state = .busOff ∧ (∀ p ∈ (b'.can[k]).pending, p.src = .reference) ∧ bitOf (ev b') 1 = true ∧
        (b'.can[k]).cnt[(1 : Fin 12)] = inc z.cnt[(1 : Fin 12)] ∧ (b'.can[k]).recovering = x.canBorAuto k) ∧
      (tec ≤ 255 → z.state = .active → 127 < tec ∨ 127 < rc → (b'.can[k]).state = .passive ∧ bitOf (ev b') 0 = true) ∧
      (tec ≤ 127 → rc ≤ 127 → (b'.can[k]).state = z.state)) ∧
    (x.canEn k = true → z.state.normal = true → x.canFd k = true →
      (x.canResAct k = false → Gives (.canError n t k .resBit phase own late site delay) n s fun b' =>
        (b'.can[k]).state = .integrating ∧ (b'.can[k]).cnt[(10 : Fin 12)] = inc z.cnt[(10 : Fin 12)] ∧
        (b'.can[k]).txErr = z.txErr ∧ bitOf (ev b') 5 = true ∧ b'.points = x.points) ∧
      (mine = none → Gives (.canError n t k .fdFrame phase own late site delay) n s fun b' => b'.can = x.can ∧ b'.points = x.points)) ∧
    (z.state = .busOff → z.recovering = true ∨ x.canBorAuto k = true → Gives (.busBack n t k) n s fun b' => (b'.can[k]).state = .active ∧
      (b'.can[k]).txErr = 0 ∧ (b'.can[k]).rxErr = 0 ∧ bitOf (ev b') 2 = true ∧ b'.points = x.points) ∧
    (z.recovering = false → x.canBorAuto k = false → Gives (.busBack n t k) n s fun b' => b'.can = x.can ∧ b'.points = x.points) ∧
    (z.state = .integrating → Gives (.canIntegrated n t k) n s fun b' => b'.points = x.points ∧
      (b'.can[k]).state = if x.bn.mode = .shadow then .monitoring
        else if 127 < z.txErr || 127 < z.rxErr then .passive else .active) ∧
    (h.Takes modesCfgRunHold → h.Answers c →
      ((h.can[k]).state = .busOff → h.canBorAuto k = false → Serves (.canRecover c (BitVec.ofNat 32 k)) c s fun b' =>
        Completed c .ok h.acceptance h b' ∧ (b'.can[k]).recovering = true ∧ (b'.can[k]).state = .busOff ∧
        b'.points = h.points) ∧
      ((h.can[k]).state ≠ .busOff → Serves (.canRecover c (BitVec.ofNat 32 k)) c s fun b' =>
        Completed c .badState 0 h b' ∧ b'.can = h.can))


/-! ### Kerf, digest and health recorder (chapter 14) -/

/-- R444 to R448, R450 to R452, R454, R470: arming, disarming, firing and reading; a ready unit fires at the first sample
past its level; an armed channel keeps the samples before the trigger and a capturing one those from it on.
The model's own choices in it: assumption log 2 to 4, 42. -/
def Obligations.KerfCapturesAroundTheTrigger : Prop :=
  ∀ (s : State) (c : Cmd) (n : BenchIx) (t : Nat) (ch : Fin 32) (u : Fin 8) (w pre post : Word) (r : KfRecord),
    let b := s.bench c.bench
    let d := b.kerfDrain b.kfTaps.length
    let x := d.kf.chans[ch]
    let y := d.kf.units[u]
    let at' := b.acceptance / 10 * 10
    let z := (s.bench n).tick t
    let raw : Point := { value := z.fc.seen.raw, quality := qLive, flags := 0, stamp := z.rail.now / 1000 * 1000 }
    let k := z.kf.chans[ch]
    let v := z.kf.units[u]
    let l := b.kf.chans[(mkIx 31 (fld w 4 0) : Fin 32)]
    let seg := fld w 15 8
    (b.Takes modesRun → b.Answers c →
      (post ≠ 0 → pre.toNat < x.cap → x.state = .idle → x.en = true →
        (pre.toNat + post.toNat ≤ x.cap → Serves (.kfArm c (BitVec.ofNat 32 ch) pre post) c s fun b' =>
          Completed c .ok 0 b b' ∧ (b'.kf.chans[ch]).pre = pre.toNat ∧ (b'.kf.chans[ch]).post = post.toNat ∧
          (b'.kf.chans[ch]).state = (if x.blocked then .full else .armed) ∧ (b'.kf.chans[ch]).before = []) ∧
        (x.cap < pre.toNat + post.toNat → Serves (.kfArm c (BitVec.ofNat 32 ch) pre post) c s fun b' =>
          Completed c .postExceeds (x.cap - pre.toNat) b b' ∧ b'.kf = d.kf)) ∧
      (x.cap ≤ pre.toNat → Serves (.kfArm c (BitVec.ofNat 32 ch) pre post) c s fun b' =>
        Completed c .badParam 0 b b' ∧ b'.kf = d.kf) ∧
      (x.state = .capturing → Serves (.kfDisarm c (BitVec.ofNat 32 ch)) c s fun b' => Completed c .ok 1 b b' ∧
        (b'.kf.chans[ch]).state = .idle ∧ ∃ r, Tbl.get none (b'.kf.chans[ch]).records x.next = some r ∧
          fld (r.header.headD 0) 31 28 = 2 ∧ r.unread = true) ∧
      (x.state ≠ .capturing → Serves (.kfDisarm c (BitVec.ofNat 32 ch)) c s fun b' => Completed c .ok 0 b b' ∧
        (b'.kf.chans[ch]).state = .idle ∧ (b'.kf.chans[ch]).records = x.records) ∧
      (Serves (.kfDisarm c 0xFF) c s fun b' =>
        Completed c .ok ((List.finRange 32).filter fun j => (d.kf.chans[j]).state = .capturing).length b b' ∧
        ∀ j : Fin 32, (b'.kf.chans[j]).state = .idle) ∧
      (y.hmode = false → y.until_ = none → Serves (.kfTrigger c (BitVec.ofNat 32 u)) c s fun b' =>
        Completed c .ok at' b b' ∧ (b'.kf.units[u]).count = inc y.count ∧ (b'.kf.units[u]).up = false ∧
        (b'.kf.units[u]).down = false ∧
        (b'.kf.units[u]).until_ = some (at' + y.hold.toNat * 1000)) ∧
      (∀ e, y.hmode = false → y.until_ = some e → at' < e → Serves (.kfTrigger c (BitVec.ofNat 32 u)) c s fun b' =>
        Completed c .ok at' b b' ∧ (b'.kf.units[u]).miss = inc y.miss ∧ (b'.kf.units[u]).count = y.count ∧
        b'.kf.missed = inc d.kf.missed ∧ b'.kf.chans = d.kf.chans)) ∧
    (b.Takes modesAny → b.Answers c → w &&& 0xFFFE00E0#32 = 0 →
      (Tbl.get none l.records seg = some r → r.words.length ≤ c.buf / 4 → Serves (.kfRead c w) c s fun b' =>
        Completed c .ok (4 * r.words.length) b b' ∧ .buffer c.tag r.words ∈ b'.qc.sent ∧ b'.points = b.points ∧
        (bitOf w 16 = true → l.state ≠ .full →
          Tbl.get none (b'.kf.chans[(mkIx 31 (fld w 4 0) : Fin 32)]).records seg = some { r with unread := false })) ∧
      (Tbl.get none l.records seg = some r → c.buf / 4 < r.words.length → l.state ≠ .full → Serves (.kfRead c w) c s fun b' =>
        Completed c .partialDone (c.buf / 4 * 4) b b' ∧ .buffer c.tag (r.words.take (c.buf / 4)) ∈ b'.qc.sent ∧
        b'.kf = b.kf ∧ b'.points = b.points) ∧
      (Tbl.get none l.records seg = none → Serves (.kfRead c w) c s fun b' => Completed c .badState 0 b b' ∧
        b'.kf = b.kf)) ∧
    (z.bn.mode ≠ .run → ∀ src, Gives (.triggerSample n t src) n s fun b' => b'.kf = z.kf ∧ b'.points = z.points) ∧
    (z.bn.mode = .run →
      (v.stype = 2 → v.source < 16 → bitOf (z.fc.seen.raw) v.source = true → v.up = true → v.hmode = false →
        v.until_ = none → Gives (.triggerSample n t .digital) n s fun b' => (b'.kf.units[u]).count = inc v.count ∧
          (b'.kf.units[u]).up = false ∧ b'.points = z.points) ∧
      ((∀ j : Fin 8, (z.kf.units[j]).stype ≠ 2) → k.en = true → k.ctype = 2 → z.kf.busy ≤ z.rail.now →
        (k.state = .armed → Gives (.triggerSample n t .digital) n s fun b' =>
          (b'.kf.chans[ch]).before = (raw :: k.before).take k.cap ∧ (b'.kf.chans[ch]).state = .armed) ∧
        (k.state = .capturing → k.time ≤ raw.stamp → k.after.length + 1 < k.post →
          Gives (.triggerSample n t .digital) n s fun b' => (b'.kf.chans[ch]).after = k.after ++ [raw] ∧
            (b'.kf.chans[ch]).state = .capturing))) ∧
    (k.state = .rearm → Gives (.rearmDone n t ch) n s fun b' => b'.points = z.points ∧
      (b'.kf.chans[ch]).state = if k.blocked then .full else .armed)

/-- R457 to R459, R463, R470: every update enters the reduction of its point, good values alone its count, sum and last
value; at the end of an interval the reductions close and start anew; and the assignment of profiles.
The model's own choices in it: assumption log 2 to 4, 42. -/
def Obligations.DigestReducesEveryUpdate : Prop :=
  ∀ (s : State) (n : BenchIx) (t : Nat) (e : Tap) (rest : List Tap) (c : Cmd) (profs : List Byte) (o : Nat × Nat),
    let x := (s.bench n).tick t
    let now := x.rail.now
    let old := Tbl.get {} x.dg.red e.point
    let h := s.bench c.bench
    let per := fld x.dg.cfg 18 0 * 10000000
    let d (b : Bench) (e : Nat) : Bench := b.digestDrain e b.dgTaps.length
    (x.dgTaps = e :: rest → Gives (.digestUpdate n t) n s fun b' =>
      let r := Tbl.get {} b'.dg.red e.point
      b'.dgTaps = rest ∧ b'.points = x.points ∧ r.qor = old.qor ||| fld e.entry.quality 11 0 ∧
      (∀ q, q ≠ e.point → Tbl.get {} b'.dg.red q = Tbl.get {} x.dg.red q) ∧
      (badQuality e.entry.quality = true → r.count = old.count ∧ r.sum = old.sum ∧ r.last = old.last) ∧
      (badQuality e.entry.quality = false → e.entry.format = 0 → old.count ≠ BitVec.allOnes 32 →
        r.count = old.count + 1 ∧ r.sum = old.sum + s32 e.entry.value ∧ r.last = e.entry.value ∧
        (old.count ≠ 0 → s32 r.min = min (s32 e.entry.value) (s32 old.min) ∧
          s32 r.max = max (s32 e.entry.value) (s32 old.max)))) ∧
    (x.dgTaps = [] → Gives (.digestUpdate n t) n s fun b' => b'.dg = x.dg ∧ b'.points = x.points) ∧
    (x.bn.mode = .run → bitOf x.dg.cfg 31 = true → x.dgMode = false → per ≠ 0 →
      (now % per = 0 → (d x now).dg.open_ = some o → Gives (.intervalEnd n t) n s fun b' =>
        b'.dg.iseq = x.dg.iseq + 1 ∧ b'.dg.red = [] ∧ b'.dg.open_ = some (now, 0) ∧ b'.points = x.points) ∧
      (now % per ≠ 0 → Gives (.intervalEnd n t) n s fun b' => b'.dg = x.dg)) ∧
    (h.Answers c →
      (h.Takes modesCfg → profs.length = 16384 → Serves (.dgSetProfiles c profs) c s fun b' =>
        Completed c .ok 0 h b' ∧ b'.points = h.points ∧ ∀ p, Tbl.get 0 b'.dg.prof p = fld (profs.getD p 0) 5 0) ∧
      (h.Takes modesCfg → profs.length ≠ 16384 → Serves (.dgSetProfiles c profs) c s fun b' =>
        Completed c .badParam 0 h b' ∧ b'.dg = h.dg) ∧
      (h.Takes modesRun → (d h h.acceptance).dg.open_ = some o → Serves (.dgCloseNow c) c s fun b' =>
        Completed c .ok h.acceptance h b' ∧ b'.dg.iseq = h.dg.iseq + 1 ∧ b'.dg.red = [] ∧
        b'.dg.open_ = some (h.acceptance, o.2) ∧ b'.points = h.points))

/-- R464, R465, R467, R468, R470: gauges are sampled; a closed period leaves three records of rising sequence and starts
the next with empty gauges and counts; reading the slots.
The model's own choices in it: assumption log 2 to 4, 42. -/
def Obligations.HealthPeriodsAreRecorded : Prop :=
  ∀ (s : State) (n : BenchIx) (t m : Nat) (i : Fin 4) (c : Cmd) (first count : Word) (es ed em : Nat),
    let x := (s.bench n).tick t
    let g := x.hl.gauges[i]
    let y := x.gaugeNow i
    let b := s.bench c.bench
    let recs := ((List.range count.toNat).map (first.toNat + ·)).filterMap fun k => Tbl.get none b.hl.slots k
    let closed (o b' : Bench) : Prop := b'.hl.seq = o.hl.seq + 3 ∧ b'.hl.drop = o.hl.drop ∧ b'.hl.running = true ∧
      b'.hl.counts = Vector.replicate 25 0 ∧ b'.hl.gauges = Vector.replicate 4 {} ∧ b'.hl.sev = 0 ∧
      b'.hl.rail = o.rail.now ∧ b'.points = o.points ∧ b'.ev = o.ev
    (x.hl.running = true → x.bn.mode ≠ .wake → Gives (.gaugeSample n ⟨t, es, ed, em⟩) n s fun b' =>
      (b'.hl.gauges[i]).count = g.count + 1 ∧ (b'.hl.gauges[i]).sum = g.sum + y ∧
      (∀ j : Fin 25, b'.hl.counts[j] = incBy x.hl.counts[j] (if j = 21 then es else if j = 22 then ed else if j = 23 then em else 0)) ∧
      b'.points = x.points ∧ (g.count ≠ 0 → (b'.hl.gauges[i]).max = max g.max y ∧ (b'.hl.gauges[i]).min = min g.min y)) ∧
    (x.hl.running = true → x.hl.up + fld x.hl.cfg 10 0 * 60000000000 ≤ x.rail.up → x.hl.slotFor x.hl.sev = some m →
      Gives (.periodEnd n t) n s (closed x)) ∧
    (x.rail.up < x.hl.up + fld x.hl.cfg 10 0 * 60000000000 → Gives (.periodEnd n t) n s fun b' => b'.hl = x.hl) ∧
    (b.Takes modesAny → b.Answers c →
      (b.hl.slotFor b.hl.sev = some m → Serves (.hlCloseNow c) c s fun b' =>
        Completed c .ok (b.hl.seq + 3).toNat b b' ∧ b'.hl.seq = b.hl.seq + 3 ∧ b'.hl.running = true ∧
        b'.hl.counts = Vector.replicate 25 0 ∧ b'.points = b.points) ∧
      (count ≠ 0 → count.toNat ≤ 64 → first.toNat + count.toNat ≤ 16384 → recs.flatten.length ≤ c.buf / 4 →
        Serves (.hlRead c first count) c s fun b' =>
        Completed c .ok (recs.length + 65536 * (recs.filter fun r => !recordOk r).length) b b' ∧
        .buffer c.tag recs.flatten ∈ b'.qc.sent ∧ b'.hl.slots = b.hl.slots ∧ b'.points = b.points) ∧
      (count ≠ 0 → count.toNat ≤ 64 → first.toNat + count.toNat ≤ 16384 → c.buf / 4 < recs.flatten.length →
        Serves (.hlRead c first count) c s fun b' => Completed c .partialDone (c.buf / 4 * 4) b b' ∧
        .buffer c.tag (recs.flatten.take (c.buf / 4)) ∈ b'.qc.sent ∧ b'.hl.slots = b.hl.slots ∧ b'.points = b.points) ∧
      (64 < count.toNat → Serves (.hlRead c first count) c s fun b' => Completed c .badParam 0 b b' ∧ b'.hl = b.hl))


/-! ### Redundant pairs (chapter 15) -/

/-- R473 to R476, R479, R487, R488: heartbeats, the tally, the lane and custody. The active sees its shadow go STALE; a
shadow without a heartbeat but with a tally is STALE; one that was eligible holds on a program fault of the active; and
custody held by the partner takes the outputs away.
The model's own choices in it: assumption log 2 to 5, 43, 44. -/
def Obligations.PairPathsAreWatched : Prop :=
  ∀ (s : State) (n : BenchIx) (t m : Nat) (hb : Heartbeat) (same level : Bool),
    let x := (s.bench n).tick t
    let now := x.rail.now
    let event (b' : Bench) (i : Nat) : Prop := bitOf b'.ev[(16 : Fin 18)] i = true
    (x.paired = true → x.nl.laneUp = true → x.bn.mode ≠ .wake → now % 1000 = 0 → x.pulsing = true →
      Gives (.heartbeatTx n t) n s fun b' => b'.points = x.points ∧ ∃ h, b'.nl.sent = x.nl.sent ++ [.heartbeat h] ∧
        h.mode.val = x.bn.mode.code ∧ h.custody = x.custOut ∧ h.cls = x.nl.cls ∧ h.stale = x.nl.stale ∧
        h.eligible = x.eligible) ∧
    (x.pulsing = false → Gives (.heartbeatTx n t) n s fun b' => b'.nl = x.nl ∧ b'.points = x.points) ∧
    (x.paired = false → Gives (.heartbeatRx n t hb same) n s fun b' => b'.nl = x.nl ∧ b'.bn = x.bn) ∧
    (x.paired = true →
      (x.bn.mode ≠ .shadow → Gives (.heartbeatRx n t hb same) n s fun b' => b'.nl.hb = some hb ∧ b'.nl.hbAt = now ∧
        b'.nl.nalryOk = true ∧ b'.nl.lostAt = none ∧ b'.bn = x.bn ∧ b'.points = x.points ∧
        (x.bn.mode = .run → x.nl.hb = none → hb.mode = 3 → hb.stale = true → event b' 3)) ∧
      (x.bn.mode = .shadow → x.nl.wasEligible = true → x.nl.stale = false → x.nl.custIn = false → hb.cls = 1 →
        hb.custody = false → Gives (.heartbeatRx n t hb same) n s fun b' => b'.bn.mode = .hold ∧ b'.bn.holdCause = 8) ∧
      (x.bn.mode = .shadow → x.nl.custIn = false → hb.cls = 2 → hb.custody = false →
        Gives (.heartbeatRx n t hb same) n s fun b' => b'.bn.mode = .shadow ∧ b'.nl.stale = true)) ∧
    (x.pulsing = true → Gives (.tallyToggle n t true) n s fun b' => b'.nl.tallyOut = (!x.nl.tallyOut) ∧
      b'.nl.tallyOk = x.nl.tallyOk ∧ b'.points = x.points) ∧
    (Gives (.tallyToggle n t false) n s fun b' => b'.nl.tallyOk = true ∧ b'.nl.tallyAt = now ∧ b'.nl.lostAt = none ∧
      b'.points = x.points) ∧
    (x.nl.nalryOk = true → x.nl.hbAt + 6000 ≤ now →
      (x.bn.mode = .run → Gives (.nalryLost n t) n s fun b' => b'.nl.nalryOk = false ∧ b'.bn = x.bn ∧
        b'.points = x.points ∧ (∀ h, x.nl.hb = some h → h.mode = 3 → event b' 6)) ∧
      (x.bn.mode = .shadow → x.nl.tallyOk = true → Gives (.nalryLost n t) n s fun b' => b'.nl.nalryOk = false ∧
        b'.nl.stale = true ∧ b'.bn = x.bn ∧ b'.points = x.points)) ∧
    (now < x.nl.hbAt + 6000 → Gives (.nalryLost n t) n s fun b' => b'.nl = x.nl) ∧
    (x.nl.tallyOk = true → x.nl.tallyAt + 5000 ≤ now → x.bn.mode ≠ .shadow ∨ x.nl.nalryOk = false →
      Gives (.tallyLost n t) n s fun b' => b'.nl.tallyOk = false ∧ event b' 9 ∧ b'.bn = x.bn ∧
        b'.nl.cnt[(3 : Fin 5)] = inc x.nl.cnt[(3 : Fin 5)] ∧ b'.points = x.points) ∧
    (now < x.nl.tallyAt + 5000 → Gives (.tallyLost n t) n s fun b' => b'.nl = x.nl) ∧
    (x.nl.custIn ≠ level → x.bn.mode = .run → Gives (.custodyChange n t level) n s fun b' => b'.nl.custIn = level ∧
      b'.nl.custAt = now ∧ b'.fc.enable = (!level) ∧ b'.bn.mode = .run ∧
      (level = true → b'.outEn = false ∧ b'.qn.ossdOn = false)) ∧
    (x.nl.custIn = true → x.bn.mode = .shadow → x.nl.nalryOk = true → x.partnerClass = 0 → x.nl.hoX = some (m, true) →
      (m ≤ now → x.nl.stale = false → Gives (.custodyChange n t false) n s fun b' => b'.nl.custIn = false ∧
        b'.bn.mode = .shadow ∧ b'.nl.drive = some (max (m + 2000) (firstMul 1000 now), true)) ∧
      (now < m → Gives (.custodyChange n t false) n s fun b' => b'.nl.custIn = false ∧ b'.bn.mode = .shadow ∧
        b'.nl.hoX = some (m, true) ∧ b'.nl.drive = x.nl.drive)) ∧
    (x.nl.custIn = level → Gives (.custodyChange n t level) n s fun b' => b'.nl = x.nl ∧ b'.fc = x.fc) ∧
    (Gives (.nalryLaneUp n t) n s fun b' => b'.nl.laneUp = true ∧ b'.bn = x.bn ∧ b'.points = x.points) ∧
    (Gives (.nalryLaneDown n t) n s fun b' => b'.nl.laneUp = false ∧ b'.nl.resync = false ∧ b'.bn = x.bn ∧
      b'.points = x.points)

/-- R477, R489 to R491, R493: a shadow that was eligible takes over 2 µs after custody has been released, at a whole
microsecond; at the drive moment it is in RUN with its outputs enabled, unless custody is held again.
The model's own choices in it: assumption log 2 to 5, 43, 44. -/
def Obligations.ShadowTakesOver : Prop :=
  ∀ (s : State) (n : BenchIx) (t m : Nat) (ho : Bool),
    let x := (s.bench n).tick t
    let now := x.rail.now
    (x.bn.mode = .shadow → x.nl.wasEligible = true → x.nl.stale = false → x.nl.drive = none → x.takeoverRow = true →
      x.nl.custAt + 2000 ≤ now → Gives (.takeover n t) n s fun b' =>
        b'.nl.drive = some (firstMul 1000 (now + 2000), false) ∧ b'.bn = x.bn ∧ b'.points = x.points) ∧
    (x.nl.wasEligible = false ∨ x.nl.custIn = true ∨ x.bn.mode ≠ .shadow → Gives (.takeover n t) n s fun b' =>
      b'.nl = x.nl ∧ b'.bn = x.bn ∧ b'.points = x.points) ∧
    (x.bn.mode = .shadow → x.nl.drive = some (m, ho) → m ≤ now →
      (x.nl.custIn = false → Gives (.driveMoment n t) n s fun b' => b'.bn.mode = .run ∧ b'.bn.prev = .shadow ∧
        b'.fc.enable = true ∧ b'.nl.lastX = m ∧ b'.nl.drive = none ∧
        b'.nl.cnt[(if ho then 1 else 0 : Fin 5)] = inc x.nl.cnt[(if ho then 1 else 0 : Fin 5)] ∧
        bitOf b'.ev[(16 : Fin 18)] (if ho then 1 else 0) = true) ∧
      (x.nl.custIn = true → Gives (.driveMoment n t) n s fun b' => b'.nl.drive = none ∧ b'.bn = x.bn ∧
        b'.fc = x.fc ∧ b'.points = x.points))

/-- R479, R482, R483, R494, R495, R499: what a shadow commits, block by block and whole; notices applied on arrival; and
the request for a full copy.
The model's own choices in it: assumption log 2 to 5, 43, 44. -/
def Obligations.StateCopyReachesTheShadow : Prop :=
  ∀ (s : State) (n : BenchIx) (t m : Nat) (p : EnginePart) (d : TaskSet) (f : FullCopy) (item : CopyItem)
    (q : Nat) (l : List Word) (h : Handover) (c : Cmd) (slot : Fin 16) (at' : Nat) (i : Fin 1024) (w v : Word)
    (words : List Word),
    let x := (s.bench n).tick t
    let now := x.rail.now
    let b := s.bench c.bench
    let shadow := x.bn.mode = .shadow
    (¬shadow → Gives (.copyCommit n t item) n s fun b' => b'.points = x.points ∧ b'.inst = x.inst ∧ b'.nl = x.nl) ∧
    (shadow → (p.points.map (·.1)).Nodup → Gives (.copyCommit n t (.engine p)) n s fun b' =>
      b'.nl.seq = BitVec.ofNat 32 p.seq ∧ b'.nl.copyAt = p.time ∧ b'.inst = x.inst ∧ b'.bn = x.bn ∧
      ((q, l) ∈ p.points → (b'.point q).value = l.getD 0 0 ∧ (b'.point q).stamp = cat64 (l.getD 2 0) (l.getD 3 0)) ∧
      (q ∉ p.points.map (·.1) → b'.point q = x.point q) ∧
      (x.nl.hoX = some (m, false) → now + 1000 ≤ m → b'.nl.hoX = some (m, true) ∧ .notice .ack ∈ b'.nl.sent)) ∧
    (shadow → x.nl.migr = none → Gives (.copyCommit n t (.set d)) n s fun b' => b'.points = x.points ∧ b'.bn = x.bn ∧
      ∀ a, a / 4096 ∉ d.pages.map (·.1) → b'.byte a = x.byte a) ∧
    (shadow → Gives (.copyBlock n t .good) n s fun b' => b'.nl = { x.nl with retry := false } ∧ b'.points = x.points) ∧
    (shadow → x.nl.retry = false → Gives (.copyBlock n t .badCrc) n s fun b' => b'.nl.retry = true ∧
      b'.nl.stale = x.nl.stale ∧ b'.nl.cnt[(2 : Fin 5)] = inc x.nl.cnt[(2 : Fin 5)] ∧ b'.points = x.points) ∧
    (shadow → x.nl.retry = true → Gives (.copyBlock n t .badCrc) n s fun b' => b'.nl.retry = false ∧
      b'.nl.stale = true ∧ b'.nl.cnt[(2 : Fin 5)] = inc x.nl.cnt[(2 : Fin 5)] ∧ b'.points = x.points ∧
      (x.partnerRun = true → x.nl.laneUp = true → b'.nl.resync = true ∧ b'.nl.sent = x.nl.sent ++ [.fullRequest])) ∧
    (Gives (.copyBlock n t .otherError) n s fun b' => b'.nl = { x.nl with cnt := upd x.nl.cnt 2 inc } ∧ b'.points = x.points) ∧
    (shadow → Gives (.fullCopyCommit n t f) n s fun b' => b'.nl.full = true ∧ b'.nl.stale = false ∧
      b'.nl.resync = false ∧ bitOf b'.ev[(16 : Fin 18)] 4 = true ∧ b'.bn = x.bn) ∧
    (x.paired = true → x.nl.laneUp = true → x.bn.mode = .run →
      Gives (.fullCopyRequest n t) n s fun b' => b'.nl.resync = true ∧ b'.points = x.points ∧
        ∃ g, b'.nl.sent = x.nl.sent ++ [.full g]) ∧
    (b.Takes (fun m => m = .shadow) → b.Answers c →
      (b.nl.resync = false → Serves (.redunResync c) c s fun b' => Completed c .ok 0 b b' ∧ b'.nl.resync = true ∧
        b'.nl.sent = b.nl.sent ++ [.fullRequest] ∧ b'.points = b.points) ∧
      (b.nl.resync = true → Serves (.redunResync c) c s fun b' => Completed c .busy 0 b b' ∧ b'.nl = b.nl)) ∧
    (shadow → Gives (.notice n t (.handover m)) n s fun b' => b'.nl.hoX = some (m, false) ∧ b'.points = x.points) ∧
    (shadow → Gives (.notice n t (.recipe slot at' words)) n s fun b' => b'.nl.recAt[slot] = at' ∧
      b'.points = x.points ∧ ∀ k, k ≠ slot → b'.rs.slots[k] = x.rs.slots[k]) ∧
    (shadow → Gives (.notice n t (.force i w v)) n s fun b' => (b'.forceEntry i).en = bitOf w 31 ∧
      (b'.forceEntry i).point = fld w 13 0 ∧ (b'.forceEntry i).value = v ∧ b'.points = x.points) ∧
    (x.nl.ho = some h → h.x = some m → now + 1000 ≤ m → Gives (.notice n t .ack) n s fun b' =>
      b'.nl.ho = some { h with acked := true } ∧ b'.points = x.points)

/-- R494, R495, R499: a planned hand-over is taken while the shadow is eligible, tested at each gap, given up without an
acknowledgement in time, and made at X, when the old active becomes the shadow.
The model's own choices in it: assumption log 2 to 5, 43, 44. -/
def Obligations.PlannedHandoverRuns : Prop :=
  ∀ (s : State) (n : BenchIx) (t m g : Nat) (y : Bool) (h : Handover) (c : Cmd) (lo hi k : Word),
    let x := (s.bench n).tick t
    let now := x.rail.now
    let b := s.bench c.bench
    let time := 6000 + laneTime (partBytes (x.enginePart false))
    let event (b' : Bench) (i : Nat) : Prop := bitOf b'.ev[(16 : Fin 18)] i = true
    (b.Takes modesRun → cat64 lo hi % 10 = 0 → k ≠ 0 → k.toNat ≤ 65535 →
      (b.shadowEligible = true → b.nl.ho = none → b.pe.chg = none → Serves (.redunHandover c lo hi k) c s fun b' =>
        b'.nl.ho = some { tag := c.tag, noirq := c.noirq, start := cat64 lo hi, maxDefer := k.toNat } ∧
        b'.qc.sent = b.qc.sent ∧ b'.points = b.points) ∧
      (b.Answers c → b.shadowEligible = false → Serves (.redunHandover c lo hi k) c s fun b' =>
        Completed c .notEligible 0 b b' ∧ b'.nl = b.nl)) ∧
    (x.nl.ho = some h → h.x = none → x.bn.mode = .run → x.handoverGap h = some g → x.noLogic = true → x.switching = false →
      x.nl.busyUntil ≤ now →
      (x.localIdle = true → x.handoverFits g time = true → Gives (.handoverGapTest n t) n s fun b' =>
        b'.nl.ho = some { h with x := some (firstMul 1000 (g + time)), gapAt := none } ∧ b'.bn = x.bn) ∧
      (x.localIdle = false ∨ x.handoverFits g time = false → h.gaps + 1 ≠ h.maxDefer →
        Gives (.handoverGapTest n t) n s fun b' => b'.nl.ho = some { h with gaps := h.gaps + 1, told := true, gapAt := none } ∧
          b'.bn = x.bn ∧ b'.points = x.points) ∧
      (x.localIdle = false ∨ x.handoverFits g time = false → h.gaps + 1 = h.maxDefer →
        Gives (.handoverGapTest n t) n s fun b' => b'.nl.ho = none ∧ event b' 2 ∧ b'.bn = x.bn ∧
          b'.points = x.points)) ∧
    (x.nl.ho = some h → h.x = some m →
      (h.acked = false → m ≤ now + 1000 → Gives (.handoverAckTimeout n t) n s fun b' => b'.nl.ho = none ∧ event b' 2 ∧
        b'.bn = x.bn ∧ b'.points = x.points) ∧
      (now + 1000 < m → Gives (.handoverAckTimeout n t) n s fun b' => b'.nl = x.nl) ∧
      (h.acked = true → x.bn.mode = .run → m ≤ now → Gives (.handoverRelease n t) n s fun b' => b'.bn.mode = .shadow ∧
        b'.bn.prev = .run ∧ b'.nl.ho = none ∧ b'.nl.lastX = m ∧ b'.fc.enable = false ∧ event b' 1) ∧
      (h.acked = false → Gives (.handoverRelease n t) n s fun b' => b'.nl = x.nl ∧ b'.bn = x.bn)) ∧
    (x.nl.hoX = some (m, y) → x.nl.custIn = true → m + 10000 ≤ now → Gives (.handoverReleaseTimeout n t) n s fun b' =>
      b'.nl.hoX = none ∧ b'.bn = x.bn ∧ b'.points = x.points)


/-! ### The host port (chapter 16 and R2 to R8) -/

/-- R2, R7, R36, R273, R533: a read of the low word of a 64-bit quantity, of the value word of a point or of word 0 of a
run state holds the other words for its function, and a held high word serves one read; an access that is not an aligned
word is an unsupported request; an
unmasked vector that was pending is sent.
The model's own choices in it: assumption log 9, 15. -/
def Obligations.ReadsHoldTheirCopies : Prop :=
  ∀ (s : State) (n : BenchIx) (fn : FnIx) (off : Nat) (v : Word) (p : Fin 16384) (slot : Fin 16) (write : Bool)
    (vec : Fin 5) (vec0 : Fin 6),
    let b := s.bench n
    let me : FnIx := n.succ
    let frame (u : State) : Prop := u.pending = s.pending ∧
      ∀ m, (u.bench m).points = (s.bench m).points ∧ (u.bench m).bn = (s.bench m).bn
    (lowWord fn off = true → off < 0x40000 → ∃ u, exec (.lowWordRead fn off) s = .next u ∧ frame u ∧
      (u.fnOf fn).lastRead = s.readWord fn off ∧
      ∀ later : State, (later.fnOf fn).held = (u.fnOf fn).held → later.readWord fn (off + 4) = s.word fn (off + 4)) ∧
    (lowWord fn off = false → off % 4 = 0 → off < 0x40000 → ∃ u, exec (.lowWordRead fn off) s = .next u ∧ frame u ∧
      (∀ lo w, (s.fnOf fn).held = some (lo, w) → off = lo + 4 → (u.fnOf fn).lastRead = w ∧ (u.fnOf fn).held = none) ∧
      ((s.fnOf fn).held = none → (u.fnOf fn).lastRead = s.word fn off ∧ (u.fnOf fn).held = none)) ∧
    (off % 4 ≠ 0 → exec (.lowWordRead fn off) s = exec (.unsupportedRequest fn false) s) ∧
    (∃ u, exec (.pointValueRead n p) s = .next u ∧ frame u ∧ OnlyBench n s u ∧ (u.fnOf me).lastRead = (b.point p).value ∧
      ∀ later : State, (later.fnOf me).heldPoint = (u.fnOf me).heldPoint → ∀ k : Fin 3,
        later.readWord me (0x40000 + 16 * p.val + 4 * (k.val + 1)) = (b.point p).wordAt (4 * (k.val + 1))) ∧
    (∃ u, exec (.runStateRead n slot) s = .next u ∧ frame u ∧ OnlyBench n s u ∧
      (u.fnOf me).lastRead = b.runStateWord slot 0 ∧
      ∀ later : State, (later.fnOf me).heldRun = (u.fnOf me).heldRun → ∀ k : Fin 7,
        later.readWord me (0x90000 + 256 * slot.val + 4 * (k.val + 1)) = b.runStateWord slot (4 * (k.val + 1))) ∧
    (∃ u, exec (.unsupportedRequest fn write) s = .next u ∧ frame u ∧ (u.fnOf fn).aer = true ∧
      (u.fnOf fn).lastRead = (if write then (s.fnOf fn).lastRead else BitVec.allOnes 32) ∧
      (bitOf s.hub.fn.mask 4 = true → bitOf u.hub.fn.pend 4 = true) ∧
      (bitOf s.hub.fn.mask 4 = false → u.hub.sent = s.hub.sent ++ [.vector 4])) ∧
    (off % 4 ≠ 0 → exec (.registerWrite fn off v) s = exec (.unsupportedRequest fn true) s) ∧
    (Gives (.msixUnmask me vec.castSucc) n s fun b' => bitOf b'.fn.mask vec = false ∧ bitOf b'.fn.pend vec = false ∧
      b'.qc.sent = (if bitOf b.fn.pend vec then b.qc.sent ++ [.vector vec] else b.qc.sent) ∧ b'.qc.q = b.qc.q ∧
      b'.points = b.points ∧ b'.bn = b.bn) ∧
    (∃ u, exec (.msixUnmask 0 vec0) s = .next u ∧ u.benches = s.benches ∧ u.pending = s.pending ∧
      bitOf u.hub.fn.mask vec0 = false ∧ bitOf u.hub.fn.pend vec0 = false ∧
      u.hub.sent = if bitOf s.hub.fn.pend vec0 then s.hub.sent ++ [.vector vec0] else s.hub.sent)

/-- R3, R4, R8, R31, R37, R45, R104: what a host write does to a register that has no row of its own: it clears events,
configures in CONFIGURE and is counted elsewhere, puts a word of a point, stages the low word of a 64-bit quantity and
stores both words with the high one.
The model's own choices in it: assumption log 10, 11, 22. -/
def Obligations.WritesFollowTheirAccessCode : Prop :=
  ∀ (s : State) (n : BenchIx) (off : Nat) (v mask : Word) (k : Fin 18) (p : Fin 16384) (w : Fin 4) (i : Fin 16),
    let b := s.bench n
    let me : FnIx := n.succ
    let writes (o : Nat) : Instr := .registerWrite me o v
    let value := 0x40000 + 16 * p.val
    (off % 4 = 0 → eventsAt off = some k → Gives (writes off) n s fun b' => b'.ev[k] = b.ev[k] &&& ~~~ v ∧
      (∀ j : Fin 18, j ≠ k → b'.ev[j] = b.ev[j]) ∧ b'.points = b.points ∧ b'.conf = b.conf ∧ b'.bn = b.bn) ∧
    (confMask off = some mask →
      (b.bn.mode = .configure → faceReserved off v = false → Gives (writes off) n s fun b' =>
        b'.cfg off = v &&& mask ∧ (∀ o, o ≠ off → b'.cfg o = b.cfg o) ∧ b'.points = b.points ∧ b'.bn = b.bn) ∧
      (b.bn.mode ≠ .configure → Gives (writes off) n s fun b' => b'.conf = b.conf ∧
        b'.bn = { b.bn with windowRej := inc b.bn.windowRej } ∧ b'.points = b.points)) ∧
    (b.bn.mode ≠ .configure → Gives (writes (value + 4 * w.val)) n s fun b' => b'.points = b.points ∧
      b'.bn = { b.bn with windowRej := inc b.bn.windowRej }) ∧
    (b.bn.mode = .configure →
      (Gives (writes value) n s fun b' => b'.point p = { b.point p with value := fmtWord (b.point p).format v } ∧
        (∀ q, q ≠ p.val → b'.point q = b.point q) ∧ b'.bn = b.bn) ∧
      (Gives (writes (value + 8)) n s fun b' => b'.points = b.points ∧ b'.fn.low (value + 8) 0 = v ∧ b'.bn = b.bn) ∧
      (Gives (writes (value + 12)) n s fun b' => b'.bn = b.bn ∧ (∀ q, q ≠ p.val → b'.point q = b.point q) ∧
        b'.point p = { b.point p with stamp := cat64 (b.fn.low (value + 8) (lo32 (b.point p).stamp)) v })) ∧
    (∃ u, exec (.registerWrite 0 0xC v) s = .next u ∧ u.benches = s.benches ∧ u.pending = s.pending ∧
      u.hub = { s.hub with mgEvents := s.hub.mgEvents &&& ~~~ v }) ∧
    (s.hub.mboxBusy = false → ∃ u, exec (.registerWrite 0 (0x100 + 4 * i.val) v) s = .next u ∧ u.benches = s.benches ∧
      u.pending = s.pending ∧ u.hub.mbox[i] = v ∧ ∀ j : Fin 16, j ≠ i → u.hub.mbox[j] = s.hub.mbox[j]) ∧
    (s.hub.mboxBusy = true → ∃ u, exec (.registerWrite 0 (0x100 + 4 * i.val) v) s = .next u ∧ u.benches = s.benches ∧
      u.pending = s.pending ∧ u.hub.mbox = s.hub.mbox ∧ bitOf u.hub.mgErr 0 = true) ∧
    (s.quiet = true → ∃ u, exec (.registerWrite 0 0x110C v) s = .next u ∧ u.benches = s.benches ∧
      u.pending = s.pending ∧ u.hub.calNow = cat64 (s.hub.fn.low 0x1108 (lo32 s.hub.calNow)) v ∧
      u.hub.calValid = true) ∧
    (s.quiet = false → exec (.registerWrite 0 0x110C v) s = .next s)

/-- R99, R509, R510, R512 to R515, R533, R534: doorbells move a head or a tail or are counted as bad, and are always host
activity; a queue starts empty with phase 1, and a bad ring does not start; a read error stops it; a coalesced vector is
sent once its time has passed.
The model's own choices in it: assumption log 2, 3, 29, 45. -/
def Obligations.QueuesFollowTheirDoorbells : Prop :=
  ∀ (s : State) (n : BenchIx) (t : Nat) (v : Word) (q : Fin 4) (bell : Instr) (tag : BitVec 16) (f : InFlight)
    (events : Bool),
    let b := s.bench n
    let x := b.qc.q[q]
    let y := (s.bench n).tick t
    let e : Fin 4 := if events then 3 else 1
    let others (b' : Bench) (r : Fin 4) : Prop := (∀ j : Fin 4, j ≠ r → b'.qc.q[j] = b.qc.q[j]) ∧ b'.points = b.points ∧
      b'.bn.mode = b.bn.mode
    (bell = (#v[.dbCmdTail n v, .dbCplHead n v, .dbStrHead n v, .dbEvtHead n v] : Vector Instr 4)[q] →
      (x.en = true → v.toNat < x.depth → (q ≠ 0 → (v.toNat + x.depth - x.head) % x.depth ≤ x.used) →
        Gives bell n s fun b' => others b' q ∧ b'.bn.hostAt = b.rail.up ∧ b'.bn.hostSilent = false ∧
          b'.qc.q[q] = if q = 0 then { x with tail := v.toNat } else { x with head := v.toNat }) ∧
      ((x.depth ≤ v.toNat ∨ (q ≠ 0 ∧ x.used < (v.toNat + x.depth - x.head) % x.depth)) →
        Gives bell n s fun b' => b'.qc.q = b.qc.q ∧ b'.qc.dbBad = inc b.qc.dbBad ∧ bitOf b'.qc.err 0 = true ∧
          b'.bn.hostAt = b.rail.up ∧ b'.points = b.points) ∧
      (x.en = false → v.toNat < x.depth → (q ≠ 0 → (v.toNat + x.depth - x.head) % x.depth ≤ x.used) →
        Gives bell n s fun b' => b'.qc = b.qc ∧ b'.bn.hostAt = b.rail.up ∧ b'.points = b.points)) ∧
    (x.en = false → 2 ≤ x.depth → x.depth ≤ 4096 → (q = 2 → 131072 ≤ x.depth * x.esz) →
      Gives (.queueEnable n q v) n s fun b' => others b' q ∧ b'.qc.q[q].en = true ∧ b'.qc.q[q].head = 0 ∧
        b'.qc.q[q].tail = 0 ∧ b'.qc.q[q].phase = true ∧ b'.qc.q[q].size = x.size ∧ b'.bn = b.bn) ∧
    (x.en = false → (x.depth < 2 ∨ 4096 < x.depth ∨ (q = 2 ∧ x.depth * x.esz < 131072)) →
      Gives (.queueEnable n q v) n s fun b' => b'.qc.q = b.qc.q ∧ bitOf b'.qc.err 4 = true ∧ b'.bn = b.bn) ∧
    (x.en = true → Gives (.queueDisable n q v) n s fun b' => others b' q ∧ b'.qc.q[q].en = false ∧
      b'.qc.q[q].error = false ∧ b'.qc.inflight = b.qc.inflight ∧ b'.qc.ready = b.qc.ready ∧ b'.fq = b.fq ∧
      b'.bn = b.bn) ∧
    (Gives (.hostReadError n q none) n s fun b' => others b' q ∧ b'.qc.q[q] = { x with error := true } ∧
      bitOf b'.qc.err 1 = true ∧ b'.qc.inflight = b.qc.inflight ∧ b'.bn = b.bn) ∧
    (b.qc.findTag tag = some f → b.Answers { bench := n, tag := tag } → Gives (.hostReadError n q (some tag)) n s
      fun b' => Completed { bench := n, tag := tag } .checkFailed 0 b b' ∧ b'.qc.inflight.length + 1 = b.qc.inflight.length ∧
        b'.points = b.points ∧ b'.bn = b.bn) ∧
    (b.qc.findTag tag = none → Gives (.hostReadError n q (some tag)) n s fun b' => b'.qc = b.qc ∧ b'.bn = b.bn) ∧
    (y.qc.q[e].ien = true → 0 < y.qc.q[e].counted → y.qc.q[e].firstAt + y.qc.q[e].itime * 1000 ≤ y.rail.up →
      Gives (.interruptCoalesceTimeout n t events) n s fun b' => b'.qc.q[e] = { y.qc.q[e] with counted := 0 } ∧
        (bitOf y.fn.mask e = false → b'.qc.sent = y.qc.sent ++ [.vector e]) ∧
        (bitOf y.fn.mask e = true → bitOf b'.fn.pend e = true ∧ b'.qc.sent = y.qc.sent) ∧ b'.points = y.points) ∧
    (y.qc.q[e].ien = false ∨ y.qc.q[e].counted = 0 ∨ y.rail.up < y.qc.q[e].firstAt + y.qc.q[e].itime * 1000 →
      Gives (.interruptCoalesceTimeout n t events) n s fun b' => b'.qc = y.qc ∧ b'.fn = y.fn ∧ b'.points = y.points)

/-- R519, R520, R523, R527, R528: a command entry is taken when completion room, the in-flight count and its fence allow,
and is refused at once for its opcode or header; a stream record is written when the ring has room for its units.
The model's own choices in it: assumption log 4, 45. -/
def Obligations.CommandsAreTakenAndRecordsWritten : Prop :=
  ∀ (s : State) (n : BenchIx) (t : Nat) (p : Packet) (need : Nat × Bool) (body : List Word) (r : List StreamReady)
    (k : Fin 32),
    let b := s.bench n
    let c : Cmd := { bench := n, tag := pktTag p }
    let q := b.qc.q[(0 : Fin 4)]
    let cpl := b.qc.q[(1 : Fin 4)]
    let ok := b.ix = n ∧ b.bn.mode ≠ .wake ∧ q.en = true ∧ q.error = false ∧ 0 < q.used ∧ cpl.en = true ∧
      b.qc.reserved < cpl.room ∧ b.qc.inflight.length < 64 ∧ (pktFence p = true → b.qc.inflight = [])
    let taken (b' : Bench) : Prop := b'.qc.q[(0 : Fin 4)] = { q with head := (q.head + 1) % q.depth } ∧
      b'.points = b.points ∧ b'.bn = b.bn
    let x := (s.bench n).tick t
    let ring := x.qc.q[(2 : Fin 4)]
    let units := ceilDiv (recordBytes (4 * body.length)) ring.esz
    (ok → opcodeNeeds (pktOpcode p) = some need → pktOpcode p / 256 ≠ 14 → pktHeaderOk p n need = true →
      b.qc.findTag (pktTag p) = none → Gives (.commandTake n p) n s fun b' => taken b' ∧
        ∃ f, b'.qc.inflight = b.qc.inflight ++ [f] ∧ f.tag = pktTag p ∧ f.opcode = pktOpcode p ∧ f.noirq = pktNoirq p ∧
          f.params = pktParams p ∧ f.accepted = false ∧ f.orphan = false ∧ (pktList p = true → f.bytes = pktBytes p)) ∧
    (ok → pktOpcode p / 256 = 14 → Gives (.commandTake n p) n s fun b' => taken b' ∧ Completed c .guardDenied 0 b b' ∧
      b'.qc.inflight = b.qc.inflight) ∧
    (ok → pktOpcode p / 256 ≠ 14 → opcodeNeeds (pktOpcode p) = none → Gives (.commandTake n p) n s fun b' => taken b' ∧
      Completed c .badOpcode 0 b b' ∧ b'.qc.inflight = b.qc.inflight) ∧
    (ok → pktOpcode p / 256 ≠ 14 → opcodeNeeds (pktOpcode p) = some need →
      (pktHeaderOk p n need = false ∨ b.qc.findTag (pktTag p) ≠ none) → Gives (.commandTake n p) n s fun b' =>
        taken b' ∧ Completed c .badParam 0 b b' ∧ b'.qc.inflight = b.qc.inflight) ∧
    (b.ix = n → ¬ok → Gives (.commandTake n p) n s fun b' => b'.qc = b.qc ∧ b'.points = b.points ∧ b'.bn = b.bn) ∧
    (x.qc.ready = [] → Gives (.streamRecordWrite n t) n s fun b' => b'.qc = x.qc ∧ b'.fq = x.fq ∧ b'.points = x.points) ∧
    (x.qc.ready = .digest body :: r → ring.en = true → ring.error = false → units ≤ ring.room →
      units ≤ ring.depth - ring.tail → Gives (.streamRecordWrite n t) n s fun b' =>
        b'.qc.ready = r ∧ b'.qc.rseq = x.qc.rseq + 1 ∧ b'.qc.q[(2 : Fin 4)] = ring.advance units ∧
        (∃ l, b'.qc.sent = x.qc.sent ++ HostMsg.stream 1 0 (4 * body.length) x.qc.rseq.toNat units ring.phase body
          (crc32c ([BitVec.ofNat 32 (4 * body.length), x.qc.rseq, BitVec.ofNat 32 units] ++ body)) :: l) ∧
        b'.points = x.points ∧ b'.bn = x.bn) ∧
    (x.qc.ready = .fifo k :: r → (x.fifo k).en = true → (x.fifo k).cons = 5 → 0 < (x.fifo k).pkts →
      65536 < recordBytes (4 * (x.fifo k).firstPacket.length) → Gives (.streamRecordWrite n t) n s fun b' =>
        b'.qc.ready = r ∧ b'.qc.sent = x.qc.sent ∧ b'.qc.q = x.qc.q ∧ (b'.fifo k).spoil = inc (x.fifo k).spoil ∧
        b'.points = x.points)

/-- R22, R92, R504, R505, R530, R532: the mailbox takes one command at a time; firmware commands; and resets of functions, which
empty the queues, close the guard session and leave control as it is, but that a hub reset takes both references away.
The model's own choices in it: assumption log 4, 15, 28, 46. -/
def Obligations.MailboxFirmwareAndFunctionResets : Prop :=
  ∀ (s : State) (n m : BenchIx) (c : Cmd) (v : MailBell) (version : Word) (need : Nat × Bool) (d3 : Bool),
    let b := s.bench c.bench
    let x := s.bench n
    let p := mboxPacket v.list s.hub
    let kept (b b' : Bench) : Prop := b'.bn = b.bn ∧ b'.points = b.points ∧ b'.inst = b.inst ∧ b'.pe = b.pe ∧ b'.le = b.le ∧
      b'.mx = b.mx ∧ b'.rs = b.rs ∧ b'.cores = b.cores
    let emptied (b b' : Bench) : Prop := b'.qc.q = Vector.replicate 4 {} ∧ b'.qc.sent = b.qc.sent ∧
      b'.qc.inflight = b.qc.inflight.map (fun f => { f with orphan := true }) ∧ kept b b'
    (s.hub.mboxBusy = true → ∃ u, exec (.mboxDoorbell v) s = .next u ∧ u.benches = s.benches ∧ u.pending = s.pending ∧
      u.hub.mboxBusy = true ∧ u.hub.mboxCpl = s.hub.mboxCpl ∧ bitOf u.hub.mgErr 0 = true) ∧
    (s.hub.mboxBusy = false → mailboxNeeds (pktOpcode p) = some need → pktHeaderOk p (pktBench p) need = true →
      ∃ u, exec (.mboxDoorbell v) s = .next u ∧ u.benches = s.benches ∧ u.pending = s.pending ∧ u.hub.mboxBusy = true ∧
        u.hub.mboxBytes = (pktBytes p).getD 0 ∧ u.hub.mbox = s.hub.mbox ∧ u.hub.mboxCpl = s.hub.mboxCpl ∧
        (v.ecc = true → bitOf u.hub.mgErr 2 = true)) ∧
    (s.hub.mboxBusy = false → mailboxNeeds (pktOpcode p) = none → ∃ u, exec (.mboxDoorbell v) s = .next u ∧
      u.benches = s.benches ∧ u.pending = s.pending ∧ u.hub.mboxBusy = false ∧ u.hub.mboxPhase = (!s.hub.mboxPhase) ∧
      u.hub.mboxCpl = #v[0, 0, at32 0x100 16 ||| at32 (pktTag p).toNat 0, at32 (b2n (!s.hub.mboxPhase)) 31]) ∧
    (b.bn.mode ≠ .wake → b.Answers c →
      (b.bn.fwRun = none → Serves (.fwLoad c version (.ends true)) c s fun b' => Completed c .ok version.toNat b b' ∧
        b'.bn = { b.bn with fwAlt := some version, fwAltBad := false } ∧ b'.points = b.points) ∧
      (b.bn.fwRun = none → Serves (.fwLoad c version (.ends false)) c s fun b' => Completed c .checkFailed 0 b b' ∧ b'.bn = b.bn) ∧
      (b.bn.fwRun = none → Serves (.fwLoad c version .begins) c s fun b' => b'.bn = { b.bn with fwRun := some c.tag } ∧
        b'.qc.sent = b.qc.sent ∧ b'.points = b.points) ∧
      (∀ other, b.bn.fwRun = some other → other ≠ c.tag → Serves (.fwLoad c version .begins) c s fun b' =>
        Completed c .busy 0 b b' ∧ b'.bn = b.bn) ∧
      (b.bn.fwRun = some c.tag → Gives (.fwLoad c version (.ends true)) c.bench s fun b' => Completed c .ok version.toNat b b' ∧
        b'.bn = { b.bn with fwRun := none, fwAlt := some version, fwAltBad := false } ∧ b'.points = b.points) ∧
      (b.bn.fwAlt = some version → b.bn.fwAltBad = true → Serves (.fwSelect c) c s fun b' =>
        Completed c .checkFailed 0 b b' ∧ b'.bn = b.bn) ∧
      (b.bn.fwAlt = some version → b.bn.fwAltBad = false → Serves (.fwSelect c) c s fun b' => Completed c .ok version.toNat b b' ∧
        b'.bn = { b.bn with fwSwap := true } ∧ b'.points = b.points) ∧
      (b.bn.fwAlt = none → Serves (.fwSelect c) c s fun b' => Completed c .checkFailed 0 b b' ∧ b'.bn = b.bn) ∧
      (Serves (.fwInfo c) c s fun b' => b'.bn = b.bn ∧ b'.points = b.points ∧
        Completed c .ok ((b.bn.fwCur.getD 0).toNat + 2 ^ 32 * (b.bn.fwAlt.getD 0).toNat) b b')) ∧
    (Gives (.functionLevelReset n.succ d3) n s fun b' => emptied x b' ∧ b'.fn = { d3 := d3 }) ∧
    (∃ u, exec (.functionLevelReset 0 d3) s = .next u ∧ u.pending = s.pending ∧ u.hub.session = none ∧
      (s.hub.session.isSome → u.hub.debugBench = none) ∧ u.hub.mboxBusy = false ∧ u.hub.fn.d3 = d3 ∧ kept (s.bench m) (u.bench m) ∧
      (u.bench m).qc = (s.bench m).qc) ∧
    (∃ u, exec .hotReset s = .next u ∧ u.pending = s.pending ∧ u.hub.session = none ∧ emptied (s.bench m) (u.bench m)) ∧
    (∃ u, exec .hubReset s = .next u ∧ u.pending = s.pending ∧ u.hub.session = none ∧ u.hub.mbox = Vector.replicate 16 0 ∧
      u.hub.mref = s.hub.mref ∧ u.hub.calNow = s.hub.calNow ∧ (u.bench m).rail.refAGood = false ∧ (u.bench m).rail.refBGood = false ∧
      ((s.bench m).rail.state ≠ .locked → emptied (s.bench m) (u.bench m)))

/-! ### Guards, trust and the bedrock engine (chapter 17, R535 to R538) -/

/-- R381, R384, R530, R545, R546, R551: one guard session at a time; each opening and closing is logged by every bench in
its chained log; the commands of a session, and what they answer without one.
The model's own choices in it: assumption log 2, 3, 39, 46, 47. -/
def Obligations.GuardSessionsAreLogged : Prop :=
  ∀ (s : State) (m : BenchIx) (c : Cmd) (t : Nat) (oper first count : Word) (pw : List Byte) (x : GuardSession),
    let h := s.hub.tick t
    let answer (u : State) (st : Status) (r : Nat) : Prop := u.hub.mboxBusy = false ∧
      u.hub.mboxPhase = (!s.hub.mboxPhase) ∧ bitOf u.hub.mboxCpl[3] 31 = (!s.hub.mboxPhase) ∧ u.hub.mboxCpl[0] = lo32 r ∧
      u.hub.mboxCpl[1] = hi32 r ∧ u.hub.mboxCpl[2] = (at32 st.code 16 ||| at32 c.tag.toNat 0)
    let frame (u : State) : Prop := u.pending = s.pending ∧ (u.bench m).bn = (s.bench m).bn ∧
      (u.bench m).points = (s.bench m).points ∧ (u.bench m).gd.reg = (s.bench m).gd.reg ∧
      (u.bench m).gd.eff = (s.bench m).gd.eff
    let logged (b b' : Bench) (kind : Nat) (id : BitVec 16) : Prop := b'.gd.seq = b.gd.seq + 1 ∧
      ∃ e, b'.gd.log = (b.gd.log ++ [e]).drop (b.gd.log.length + 1 - 4096) ∧ e.length = 16 ∧ e.getD 0 0 = b.gd.seq + 1 ∧
        e.getD 1 0 = (at32 kind 0 ||| at32 id.toNat 16) ∧
        e.getD 15 0 = crc32c (e.take 15 ++ [(b.gd.log.getLast?.getD []).getD 15 0])
    let did (i : Instr) (P : State → Prop) : Prop := ∃ u, exec i s = .next u ∧ frame u ∧ P u
    let tell (i : Instr) (P : State → Prop) : Prop := s.hub.mailed i = true → did i P
    let found := logRead (s.bench c.bench).gd.log first.toNat count.toNat
    (∀ i ∈ [Instr.guardOpen c oper, .guardClose c, .guardLogRead c first count, .qnPasswordReplace c pw, .debugOpen c],
      s.hub.mailed i = false → exec i s = .next s) ∧
    (s.hub.session = none →
      (tell (.guardOpen c oper) fun u => answer u .ok (s.bench c.bench).rail.now ∧ bitOf u.hub.gsEvents 0 = true ∧
        u.hub.session = some { oper := oper.setWidth 16, last := s.hub.up } ∧
        logged (s.bench m) (u.bench m) 3 (oper.setWidth 16)) ∧
      (tell (.guardClose c) fun u => answer u .badState 0 ∧ u.benches = s.benches ∧ u.hub.session = none) ∧
      (tell (.qnPasswordReplace c pw) fun u => answer u .badState 0 ∧ u.benches = s.benches) ∧
      (tell (.debugOpen c) fun u => answer u .badState 0 ∧ u.benches = s.benches ∧ u.hub.debugBench = s.hub.debugBench) ∧
      (did (.guardSessionTimeout t) fun u => u.benches = s.benches ∧ u.hub = h)) ∧
    (s.hub.session = some x →
      (tell (.guardOpen c oper) fun u => answer u .busy 0 ∧ u.benches = s.benches ∧
        u.hub.session = some { x with last := s.hub.up }) ∧
      (tell (.guardClose c) fun u => answer u .ok 0 ∧ u.hub.session = none ∧ u.hub.debugBench = none ∧
        (u.bench m).gd.debug = false ∧ bitOf u.hub.gsEvents 1 = true ∧ logged (s.bench m) (u.bench m) 4 x.oper) ∧
      (passwordOk pw = true → tell (.qnPasswordReplace c pw) fun u => answer u .ok 0 ∧
        (u.bench c.bench).qn.password = some pw ∧ (u.bench c.bench).qn.failures = 0 ∧
        logged (s.bench c.bench) (u.bench c.bench) 7 x.oper ∧ (m ≠ c.bench → u.bench m = s.bench m)) ∧
      (passwordOk pw = false → tell (.qnPasswordReplace c pw) fun u => answer u .badParam 0 ∧ u.benches = s.benches) ∧
      (tell (.debugOpen c) fun u => answer u .ok 0 ∧ u.hub.debugBench = some c.bench ∧ (u.bench c.bench).gd.debug = true ∧
        logged (s.bench c.bench) (u.bench c.bench) 6 x.oper ∧ (m ≠ c.bench → u.bench m = s.bench m)) ∧
      (x.last + 600000000000 ≤ h.up → did (.guardSessionTimeout t) fun u => u.hub.session = none ∧
        u.hub.debugBench = none ∧ bitOf u.hub.gsEvents 2 = true ∧ logged (s.bench m) (u.bench m) 5 x.oper) ∧
      (h.up < x.last + 600000000000 → did (.guardSessionTimeout t) fun u => u.benches = s.benches ∧ u.hub = h)) ∧
    (count ≠ 0 → count.toNat ≤ 4096 → tell (.guardLogRead c first count) fun u => u.benches = s.benches ∧
      (found.1.flatten.length ≤ c.buf / 4 → answer u .ok found.2) ∧
      (c.buf / 4 < found.1.flatten.length → answer u .partialDone (c.buf / 4 * 4)) ∧
      ∃ l, u.hub.sent = s.hub.sent ++ .buffer c.tag (found.1.flatten.take (c.buf / 4)) :: l) ∧
    (count = 0 ∨ 4096 < count.toNat → tell (.guardLogRead c first count) fun u => u.benches = s.benches ∧
      answer u .badParam 0)

/-- R544, R545, R547 to R549, R554: a guard register changes only inside a guard session, after its check and with its log
entry; the blocks use the new value from its effect moment; a write to a bench in WAKE is held.
The model's own choices in it: assumption log 2, 3, 47. -/
def Obligations.GuardsChangeOnlyInASession : Prop :=
  ∀ (s : State) (n : BenchIx) (t g off : Nat) (v mask : Word) (mram : MramTry) (x : GuardSession),
    let dst : BenchIx := mkIx 15 (fld s.hub.gsSel 3 0)
    let b := s.bench dst
    let soon := max b.rail.now (min g (b.rail.now + 20000))
    let at' := match b.gd.pend.getLast? with | some e => max soon e.1 | none => soon
    let y := (s.bench n).tick t
    let tell (P : State → Prop) : Prop := ∃ u, exec (.guardWrite off v g mram) s = .next u ∧ OnlyBench dst s u ∧ P u
    (s.hub.session = none → guardMask off = some mask → tell fun u => u.benches = s.benches ∧
      u.hub = { s.hub with gsDenied := inc s.hub.gsDenied }) ∧
    (s.hub.session = some x → b.bn.mode = .wake → guardMask off = some mask → tell fun u =>
      { off := off, value := v, oper := x.oper, mram := mram, mode := b.modeWord } ∈ (u.bench dst).gd.held ∧
      (u.bench dst).gd.reg = b.gd.reg ∧ (u.bench dst).gd.eff = b.gd.eff) ∧
    (s.hub.session = some x → b.bn.mode ≠ .wake → guardMask off = some mask →
      (b.guardOk off mask v = false → tell fun u => u.hub.gsRej = inc s.hub.gsRej ∧ bitOf u.hub.gsEvents 3 = true ∧
        (u.bench dst).gd.reg = b.gd.reg ∧ (u.bench dst).gd.eff = b.gd.eff ∧ (u.bench dst).gd.seq = b.gd.seq + 1) ∧
      (b.guardOk off mask v = true → guardLow off = false → mram ≠ .ok → tell fun u => bitOf u.hub.gsEvents 4 = true ∧
        (u.bench dst).gd.logFail = true ∧ (u.bench dst).gd.reg = b.gd.reg ∧ (u.bench dst).gd.eff = b.gd.eff ∧
        (u.bench dst).gd.pend = b.gd.pend ∧ (mram = .noLog → (u.bench dst).gd.log = b.gd.log) ∧
        (guardHigh off = false → ∀ one two, mram = .noSet one two → (u.bench dst).gd.seq = b.gd.seq + 1 ∧
          (u.bench dst).gd.copyA = (if one then some (Tbl.set none b.gd.reg off (some v)) else b.gd.copyA) ∧
          (u.bench dst).gd.copyB = (if two then some (Tbl.set none b.gd.reg off (some v)) else b.gd.copyB))) ∧
      (b.guardOk off mask v = true → guardLow off = true → tell fun u => (u.bench dst).gd.reg = b.gd.reg ∧
        (u.bench dst).gd.eff = b.gd.eff ∧ Tbl.get none (u.bench dst).gd.low off = some v) ∧
      (b.guardOk off mask v = true → guardLow off = false → guardHigh off = false → mram = .ok → tell fun u =>
        (u.bench dst).guardReg off = v ∧ (∀ o, o ≠ off → (u.bench dst).guardReg o = b.guardReg o) ∧
        (u.bench dst).gd.copyA = some (u.bench dst).gd.reg ∧ (u.bench dst).gd.copyB = some (u.bench dst).gd.reg ∧
        (u.bench dst).gd.pend = b.gd.pend ++ [(at', off, v)] ∧ (u.bench dst).gd.eff = b.gd.eff ∧
        (u.bench dst).gd.seq = b.gd.seq + 1 ∧ (u.bench dst).gd.gbad = false ∧ (u.bench dst).points = b.points) ∧
      (b.guardOk off mask v = true → guardHigh off = true → mram = .ok → ∀ w, Tbl.get none b.gd.low (off - 4) = some w →
        tell fun u => (u.bench dst).guardReg off = v ∧ (u.bench dst).guardReg (off - 4) = w ∧
          (u.bench dst).gd.pend = b.gd.pend ++ [(at', off - 4, w), (at', off, v)] ∧ (u.bench dst).gd.eff = b.gd.eff)) ∧
    (guardMask off = none → tell fun u => u = s) ∧
    (y.gd.pend = [(g, off, v)] → g ≤ y.rail.now → Gives (.guardEffect n t) n s fun b' => b'.guard off = v ∧
      (∀ o, o ≠ off → b'.guard o = y.guard o) ∧ b'.gd.pend = [] ∧ b'.gd.reg = y.gd.reg ∧ b'.points = y.points ∧
      b'.bn = y.bn) ∧
    ((∀ e ∈ y.gd.pend, y.rail.now < e.1) → (∀ k : Fin 2, (y.can[k]).pending = []) → Gives (.guardEffect n t) n s fun b' => b'.gd = y.gd ∧ b'.mx = y.mx)

/-- R5, R83, R85, R487, R505, R535, R537, R538: the bedrock operations act on every named bench whose unit answers, whatever
its firmware does, leave the others untouched and report those that gave no response; while one is in progress no other
has an effect, and at its end GO falls.
The model's own choices in it: assumption log 48. -/
def Obligations.BedrockActsOnTheBenchesThatAnswer : Prop :=
  ∀ (s : State) (n m : BenchIx) (mask silent : BitVec 16) (i : Fin 5) (j : Fin 8) (one two : Instr) (r : List Word) (v : Word),
    let b := s.bench n
    let asked := bitOf mask m = true ∧ s.answers silent m = true
    let before := s.bench m
    let done (u : State) (cmd : Word) (result : Nat) : Prop := u.pending = s.pending ∧ u.hub.bdCmd = cmd ∧
      bitOf u.hub.bdStat 30 = true ∧ bitOf u.hub.bdStat 31 = false ∧ fld u.hub.bdStat 18 16 = result
    let tell (i : Instr) (P : State → Prop) : Prop := ∃ u, exec i s = .next u ∧ P u
    let oneCmd (op : Nat) : Word := at32 op 24 ||| at32 n.val 16
    let maskCmd (op : Nat) : Word := at32 op 24 ||| at32 mask.toNat 0
    let free := s.hub.bdOp = none ∧ bitOf s.hub.bdCmd 31 = false ∧ s.hub.bdLost = false
    let going (op target : Nat) := s.hub.bdOp = some (op, target) ∧ bitOf s.hub.bdCmd 31 = true
    (∀ x, s.hub.bdOp = some x →
      (x ≠ (1, n.val) → exec (.readStatus n silent) s = .next s) ∧ (x ≠ (4, n.val) → exec (.bedrockReset n silent) s = .next s) ∧
      (x ≠ (6, n.val) → exec (.readRecord n silent) s = .next s) ∧ (x ≠ (7, n.val) → exec (.readTime n silent) s = .next s) ∧
      (x ≠ (2, mask.toNat) → exec (.bedrockHold mask silent) s = .next s) ∧
      (x ≠ (3, mask.toNat) → exec (.outputsOff mask silent) s = .next s) ∧
      (x ≠ (5, mask.toNat) → exec (.releaseCustody mask silent) s = .next s)) ∧
    (bitOf s.hub.bdCmd 31 = true → tell (.registerWrite 0 0x4000 v) fun u => u.benches = s.benches ∧
      u.hub.bdOp = s.hub.bdOp ∧ u.hub.bdStat = s.hub.bdStat ∧ bitOf u.hub.bdCmd 31 = true ∧ fld u.hub.bdCmd 26 24 = fld v 26 24 ∧
      fld u.hub.bdCmd 19 16 = fld v 19 16 ∧ fld u.hub.bdCmd 15 0 = fld v 15 0) ∧
    (going 1 n → tell (.readStatus n silent) fun u => u.hub.bdCmd = s.hub.bdCmd &&& 0x7FFFFFFF#32 ∧ u.benches = s.benches ∧
      (s.hub.bdLost = false → bitOf u.hub.bdStat 30 = true) ∧
      (s.hub.bdLost = true → u.hub.bdStat = 0 ∧ u.hub.bdLost = false)) ∧
    (free → s.answers silent n = true →
      (tell (.readStatus n silent) fun u => done u (oneCmd 1) 0 ∧ u.benches = s.benches ∧ u.hub.bdBuf[j] =
        (#v[b.modeWord, b.bn.holdCause, b.tmStatus s.hub, b.peStatus, b.faceStatus, b.quoinStatus, b.nlStatus,
          b.bn.selftest] : Vector Word 8)[j]) ∧
      (tell (.readTime n silent) fun u => done u (oneCmd 7) 0 ∧ u.benches = s.benches ∧ u.hub.bdBuf[i] =
        (#v[lo32 s.hub.mref, hi32 s.hub.mref, lo32 b.rail.now, hi32 b.rail.now, b.tmStatus s.hub] : Vector Word 5)[i]) ∧
      (tell (.bedrockReset n silent) fun u => done u (oneCmd 4) 0 ∧ OnlyBench n s u ∧ (u.bench n).bn.mode = .wake ∧
        (u.bench n).bn.start = 2 ∧ (u.bench n).qc.inflight = [] ∧ (u.bench n).snap = b.snap) ∧
      (Tbl.get none b.hl.slots (fld s.hub.bdSlot 13 0) = some r → r.length = 64 → tell (.readRecord n silent) fun u =>
        done u (oneCmd 6) (if recordOk r then 0 else 3) ∧ u.benches = s.benches ∧ u.hub.bdBuf.toList = r) ∧
      (Tbl.get none b.hl.slots (fld s.hub.bdSlot 13 0) = none → tell (.readRecord n silent) fun u =>
        done u (oneCmd 6) 3 ∧ u.benches = s.benches)) ∧
    (free → s.answers silent n = false →
      one ∈ [Instr.readStatus n silent, .readTime n silent, .bedrockReset n silent, .readRecord n silent] →
      tell one fun u => u.benches = s.benches ∧ u.pending = s.pending ∧ fld u.hub.bdStat 18 16 = 1 ∧
        bitOf u.hub.mgErr 1 = true ∧ bitOf u.hub.bdStat n = true) ∧
    (free → two ∈ [Instr.bedrockHold mask silent, .outputsOff mask silent, .releaseCustody mask silent] → tell two fun u =>
      u.pending = s.pending ∧ (¬asked → u.bench m = before) ∧ (mask = 0 → fld u.hub.bdStat 18 16 = 2) ∧
      (mask ≠ 0 → fld u.hub.bdStat 18 16 = (if ∃ k : BenchIx, bitOf mask k = true ∧ s.answers silent k = false then 1 else 0) ∧
        (bitOf u.hub.bdStat m = true ↔ bitOf mask m = true ∧ s.answers silent m = false)) ∧
      (asked → before.bn.mode = .run ∨ before.bn.mode = .shadow → (u.bench m).bn.mode = .hold ∧
        (u.bench m).bn.prev = before.bn.mode ∧ bitOf (u.bench m).bn.holdCause 1 = true ∧ (u.bench m).outEn = false) ∧
      (asked → before.bn.mode = .hold → (u.bench m).bn.mode = .hold ∧
        (u.bench m).bn.holdCause = before.bn.holdCause ||| 2 ∧ (u.bench m).points = before.points) ∧
      (asked → before.bn.mode = .wake ∨ (before.bn.mode = .configure ∧ before.bn.trans = none) →
        (u.bench m).bn = before.bn ∧ (u.bench m).points = before.points)) ∧
    (free → tell (.bedrockHold mask silent) fun u => mask ≠ 0 → u.hub.bdCmd = maskCmd 2) ∧
    (free → tell (.outputsOff mask silent) fun u => (mask ≠ 0 → u.hub.bdCmd = maskCmd 3) ∧
      (asked → before.bn.mode = .run ∨ before.bn.mode = .shadow ∨ before.bn.mode = .hold →
        (u.bench m).bn.defaultsHeld = true)) ∧
    (free → tell (.releaseCustody mask silent) fun u => (mask ≠ 0 → u.hub.bdCmd = maskCmd 5) ∧
      (asked → before.bn.mode = .run → (u.bench m).custOut = false ∧ (u.bench m).nl.cls = 3))

/-! ### Supply, reset lands and test port (chapters 03 and 18) -/

/-- R47, R88 to R90, R101, R555, R559, R568, R569: the supply, its two inputs, the backup domain and MRST_N.
The model's own choices in it: assumption log 2, 3, 18, 27, 54. -/
def Obligations.SupplyAndModuleReset : Prop :=
  ∀ (s : State) (m : BenchIx) (t : Nat) (goodA goodB inputB pair : Bool) (mid : BitVec 6),
    let h := s.hub.tick t
    let before := s.bench m
    let tell (i : Instr) (P : State → Prop) : Prop := ∃ u, exec i s = .next u ∧ u.pending = s.pending ∧ P u
    let asleep (u : State) : Prop := (u.bench m).bn.mode = .wake ∧ (u.bench m).qc.inflight = [] ∧
      (u.bench m).points = [] ∧ (u.bench m).qc.q = Vector.replicate 4 {} ∧ (u.bench m).snap = before.snap
    (tell (.supplyGood t goodA goodB) fun u => u.hub.vinGood = true ∧ u.hub.vinAOk = goodA ∧ u.hub.vinBOk = goodB ∧
      (u.bench m).bn = before.bn ∧ (u.bench m).points = before.points ∧
      (s.hub.vinGood = false → before.bn.mode = .wake → (u.bench m).rail.wakeAt = before.rail.up)) ∧
    (s.hub.vinGood = true → tell (.supplyLost t) fun u => u.hub.vinGood = false ∧ u.hub.lossValid = true ∧ u.hub.lossTime = h.calNow ∧
      u.hub.session = none ∧ asleep u ∧
      (before.bn.mode = .run ∨ before.bn.mode = .shadow → (u.bench m).snapOk = false)) ∧
    (s.hub.vinGood = false → tell (.supplyLost t) fun u => u.benches = s.benches ∧ u.hub = h) ∧
    (tell (.vinInputLost t inputB) fun u => u.benches = s.benches ∧
      (if inputB then u.hub.vinBOk = false ∧ u.hub.vinAOk = s.hub.vinAOk else u.hub.vinAOk = false ∧ u.hub.vinBOk = s.hub.vinBOk) ∧
      (s.hub.vinGood = true → (if inputB then s.hub.vinBOk else s.hub.vinAOk) = true →
        bitOf u.hub.mgEvents (if inputB then 1 else 0) = true)) ∧
    (tell (.vinInputGood t inputB) fun u => u.benches = s.benches ∧ u.hub.mgEvents = s.hub.mgEvents ∧
      if inputB then u.hub.vinBOk = true ∧ u.hub.vinAOk = s.hub.vinAOk else u.hub.vinAOk = true ∧ u.hub.vinBOk = s.hub.vinBOk) ∧
    (s.hub.vinGood = true → s.hub.vbatLow = false → tell (.vbatLow t) fun u => u.benches = s.benches ∧
      u.hub.vbatLow = true ∧ bitOf u.hub.mgEvents 2 = true) ∧
    (s.hub.vinGood = false → tell (.vbatLow t) fun u => u.benches = s.benches ∧ u.hub = h) ∧
    (s.hub.vinGood = false → tell (.vbatCalendarLoss t) fun u => u.benches = s.benches ∧ u.hub.calValid = false ∧
      u.hub.lossValid = false) ∧
    (s.hub.vinGood = true → tell (.vbatCalendarLoss t) fun u => u.benches = s.benches ∧ u.hub = h) ∧
    (tell (.mrstNAssert t) fun u => u.hub.inReset = true ∧ u.hub.session = none ∧ u.hub.vinGood = s.hub.vinGood ∧ asleep u) ∧
    (s.hub.inReset = true → tell (.mrstNRelease t mid pair) fun u => u.hub.inReset = false ∧ u.hub.mid = mid ∧
      u.hub.pairStrap = pair ∧ (u.bench m).points = before.points ∧ (u.bench m).rail.wakeAt = before.rail.up ∧
      (u.bench m).bn = { before.bn with mid := mid, pair := pair, start := if s.hub.supplyStart then 0 else 1 }) ∧
    (s.hub.inReset = false → tell (.mrstNRelease t mid pair) fun u => u.benches = s.benches ∧ u.hub = h)

/-- R571 to R573: EXTEST, CLAMP and HIGHZ take the lands only while MRST_N is low, DEBUG is selected only while a guard
session has opened a debug port, and at any other time each selects BYPASS.
The model's own choices in it: assumption log 17, 49. -/
def Obligations.TestPortSelects : Prop :=
  ∀ (s : State) (i : Instr) (ir : TapIr),
    let tell (i : Instr) (P : State → Prop) : Prop := ∃ u, exec i s = .next u ∧ u.benches = s.benches ∧
      u.pending = s.pending ∧ { u.hub with tap := s.hub.tap, tdr := s.hub.tdr } = s.hub ∧ P u
    (tell .tapBypass fun u => u.hub.tap = .bypass ∧ u.hub.landsTaken = false) ∧
    (tell .tapIdcode fun u => u.hub.tap = .idcode ∧ u.hub.tdr = 0x11616B3B ∧ u.hub.landsTaken = false) ∧
    (tell .tapSamplePreload fun u => u.hub.tap = .samplePreload ∧ u.hub.landsTaken = false) ∧
    ((i, ir) ∈ [(Instr.tapExtest, TapIr.extest), (.tapClamp, .clamp), (.tapHighz, .highz)] → tell i fun u =>
      u.hub.tap = (if s.hub.inReset then ir else .bypass) ∧ u.hub.landsTaken = s.hub.inReset) ∧
    (tell .tapDebug fun u => u.hub.tap = (if s.hub.debugBench.isSome then .debug else .bypass) ∧
      u.hub.landsTaken = false)

/-! ### The whole machine -/

/-- A step runs the command or event at the front of the queue on the state with the rest of the queue; on an empty queue,
by the model's choice, it leaves the state as it is.
The model's own choices in it: assumption log 1. -/
def Obligations.StepRunsTheFront : Prop :=
  ∀ (s : State) (c : Instr) (rest : List Instr),
    (s.pending = c :: rest → step s = exec c { s with pending := rest }) ∧ (s.pending = [] → step s = .next s)

/-- R18, R21, R24: every command and event of the table is answered with a next state, in every state; none but the host
puts anything into the queue; and one that names a bench leaves every other bench as it was, but for TIME_SET, which
tells the others.
The model's own choices in it: assumption log 3, 4, 6, 50. -/
def Obligations.EveryCommandIsAnsweredInItsBench : Prop :=
  ∀ (i : Instr) (s : State), ∃ u, exec i s = .next u ∧ u.pending = s.pending ∧
    ∀ n m, benchOf i = some n → m ≠ n → (∀ c lo hi, i ≠ .timeSet c lo hi) → u.bench m = s.bench m

/-- R381 and the layout of State: outside CONFIGURE no Quoin session stands open, and every bench knows its own index,
after every step from every state in which that holds. -/
def Obligations.StepKeepsSessionsClosedAndIndices : Prop :=
  ∀ s t : State, s.SessionsClosed → (∀ n, (s.bench n).ix = n) → step s = .next t →
    t.SessionsClosed ∧ ∀ n, (t.bench n).ix = n

/-- R6, R46, R101, R507, R513, R536, R554: what the module is right after reset: every bench is in WAKE, no session
is open, no point forced, the queues are disabled, memory is in canonical form, and the registers of function 0 and of
each bench read what the spec gives.
The model's own choices in it: assumption log 13, 14, 18 to 20. -/
def Obligations.ResetLeavesTheModuleInWake : Prop :=
  let s := State.reset
  s.SessionsClosed ∧ s.memoryWf ∧ s.pending = [] ∧ s.hub.session = none ∧
  s.mgWord 0x0 = 0x1616A100 ∧ s.mgWord 0xC = 0 ∧ s.mgWord 0x10 = 0 ∧ s.mgWord 0x18 = 0 ∧ s.mgWord 0x1C = 0 ∧
  s.mgWord 0x8 = 0 ∧ s.mgWord 0x150 = 0 ∧ s.mgWord 0x4000 = 0 ∧ s.mgWord 0x4008 = 0 ∧ s.mgWord 0x8000 = 0 ∧
  s.mgWord 0x800C = 0 ∧
  ∀ n : BenchIx, (s.bench n).ix = n ∧ (s.bench n).bn.mode = .wake ∧ (s.bench n).inst = [] ∧ (s.bench n).points = [] ∧
    (s.bench n).forceCount = 0 ∧ (s.bench n).bnWord 0x0 = 0x1616A100#32 ||| at32 (n.val / 4) 6 ||| at32 n.val 0 ∧
    ∀ q : Fin 4, (s.bench n).qc.q[q].en = false ∧ (s.bench n).qcWord (8 + 0x20 * q.val) = 2

/-- R26: a point has one producer, named by SOURCE. In RUN a write by any other block is discarded and counted, whatever
the point; a write by the producer replaces value, quality and stamp, with VALID 0 whenever SUBST, STALE, SAFE or WIRE_BREAK
is 1; no other point changes; and outside RUN nothing is written. -/
def Obligations.PointsHaveOneProducer : Prop :=
  ∀ (b : Bench) (src : Source) (p r : Nat) (v : Word) (q : Half) (at' : Nat),
    let b' := b.writePoint src p v q at'
    let e := b'.point p
    (b.bn.mode = .run → (b.point p).source ≠ src.code →
      b'.points = b.points ∧ b'.bn = { b.bn with producerConflict := inc b.bn.producerConflict }) ∧
    (b.bn.mode = .run → (b.point p).source = src.code → b'.bn = b.bn ∧ (r ≠ p → b'.point r = b.point r) ∧
      e.stamp = at' ∧ e.flags = putBit (b.point p).flags 9 true ∧
      ((b.point p).output = true → e.value = fmtWord (b.point p).format v) ∧
      ((b.point p).output = false → (b.settleForces p at').forceOn p = none →
        e.value = fmtWord (b.point p).format v ∧ e.quality = putBit (qNorm q) qForced false) ∧
      (∀ f, (b.point p).output = false → (b.settleForces p at').forceOn p = some f →
        e.value = fmtWord (b.point p).format f ∧ e.quality = putBit (qNorm q) qForced true) ∧
      (bitOf e.quality qSubst = true ∨ bitOf e.quality qStale = true ∨ bitOf e.quality qSafe = true ∨
        bitOf e.quality qWireBreak = true → bitOf e.quality qValid = false)) ∧
    (b.bn.mode ≠ .run → b' = b)
end

