-- ==== Sys2Proof/Laws/Arith.lean ====
section
/-!
SUPPORT. Laws of the Coith arithmetic: wrapping, clipping, halves.
-/
namespace Sys2Proof.Machine

/-- Wrapped integer results are the bit vector operations. -/
@[simp] theorem ofS_add (x y : Word) : ofS (s32 x + s32 y) = x + y := by simp [ofS, s32, BitVec.ofInt_add]
@[simp] theorem ofS_sub (x y : Word) : ofS (s32 x - s32 y) = x - y := by
  simp [ofS, s32, Int.sub_eq_add_neg, BitVec.ofInt_add, BitVec.ofInt_neg, BitVec.sub_eq_add_neg]
@[simp] theorem ofS_mul (x y : Word) : ofS (s32 x * s32 y) = x * y := by simp [ofS, s32, BitVec.ofInt_mul]
@[simp] theorem ofS_neg (x : Word) : ofS (-s32 x) = -x := by simp [ofS, s32, BitVec.ofInt_neg]
@[simp] theorem ofS_s32 (x : Word) : ofS (s32 x) = x := by simp [ofS, s32]

/-- A number read from the low n bits is the signed value of those bits. -/
theorem sext_eq (n v : Nat) (h : 0 < n) : sext n v = (BitVec.ofNat n v).toInt := by
  unfold sext
  rw [BitVec.toInt_eq_toNat_cond]
  simp only [BitVec.toNat_ofNat]
  have e : 2 ^ n = 2 * 2 ^ (n - 1) := by rw [← Nat.pow_succ']; congr 1; omega
  split <;> split <;> first | rfl | omega

/-- The low half as a signed number. -/
theorem s16_eq (x : Word) : s16 x = (x.setWidth 16).toInt := by
  rw [s16, sext_eq _ _ (by decide)]
  congr 1

/-- Clipping gives the nearest limit, and SAT exactly beyond a limit. -/
theorem clipSat_eq {lo hi : Int} (h : lo ≤ hi) (z : Int) :
    clipSat lo hi z = (max lo (min hi z), if lo ≤ z ∧ z ≤ hi then 0 else fSat) := by
  unfold clipSat
  split
  · rw [if_neg (by omega)]; congr 1; omega
  · split
    · rw [if_neg (by omega)]; congr 1; omega
    · rw [if_pos (by omega)]; congr 1; omega

end Sys2Proof.Machine
end

