-- ==== Sys2Proof/Laws/State.lean ====
section
/-!
SUPPORT. What each update of a bench leaves as it was, field by field, and what it writes: one lemma per field per
update, so that no proof unfolds a record update.
-/
namespace Sys2Proof.Machine

section tick
variable (b : Bench) (t : Time)
@[simp] theorem Bench.tick_ix : (b.tick t).ix = b.ix := rfl
@[simp] theorem Bench.tick_bn : (b.tick t).bn = b.bn := rfl
@[simp] theorem Bench.tick_fn : (b.tick t).fn = b.fn := rfl
@[simp] theorem Bench.tick_qc : (b.tick t).qc = b.qc := rfl
@[simp] theorem Bench.tick_ev : (b.tick t).ev = b.ev := rfl
@[simp] theorem Bench.tick_points : (b.tick t).points = b.points := rfl
@[simp] theorem Bench.tick_conf : (b.tick t).conf = b.conf := rfl
@[simp] theorem Bench.tick_inst : (b.tick t).inst = b.inst := rfl
@[simp] theorem Bench.tick_sc : (b.tick t).sc = b.sc := rfl
@[simp] theorem Bench.tick_fq : (b.tick t).fq = b.fq := rfl
@[simp] theorem Bench.tick_cores : (b.tick t).cores = b.cores := rfl
@[simp] theorem Bench.tick_pe : (b.tick t).pe = b.pe := rfl
@[simp] theorem Bench.tick_le : (b.tick t).le = b.le := rfl
@[simp] theorem Bench.tick_gd : (b.tick t).gd = b.gd := rfl
@[simp] theorem Bench.tick_mx : (b.tick t).mx = b.mx := rfl
@[simp] theorem Bench.tick_rs : (b.tick t).rs = b.rs := rfl
@[simp] theorem Bench.tick_ha : (b.tick t).ha = b.ha := rfl
@[simp] theorem Bench.tick_fc : (b.tick t).fc = b.fc := rfl
@[simp] theorem Bench.tick_qn : (b.tick t).qn = b.qn := rfl
@[simp] theorem Bench.tick_can : (b.tick t).can = b.can := rfl
@[simp] theorem Bench.tick_kf : (b.tick t).kf = b.kf := rfl
@[simp] theorem Bench.tick_dg : (b.tick t).dg = b.dg := rfl
@[simp] theorem Bench.tick_hl : (b.tick t).hl = b.hl := rfl
@[simp] theorem Bench.tick_nl : (b.tick t).nl = b.nl := rfl
@[simp] theorem Bench.tick_snap : (b.tick t).snap = b.snap := rfl
@[simp] theorem Bench.tick_snapOk : (b.tick t).snapOk = b.snapOk := rfl
@[simp] theorem Bench.tick_dgTaps : (b.tick t).dgTaps = b.dgTaps := rfl
@[simp] theorem Bench.tick_kfTaps : (b.tick t).kfTaps = b.kfTaps := rfl
@[simp] theorem Bench.tick_free : (b.tick t).free = b.free := rfl
end tick

section setQueue
variable (b : Bench) (q : Fin 4) (f : Queue → Queue)
@[simp] theorem Bench.setQueue_ix : (b.setQueue q f).ix = b.ix := rfl
@[simp] theorem Bench.setQueue_bn : (b.setQueue q f).bn = b.bn := rfl
@[simp] theorem Bench.setQueue_rail : (b.setQueue q f).rail = b.rail := rfl
@[simp] theorem Bench.setQueue_fn : (b.setQueue q f).fn = b.fn := rfl
@[simp] theorem Bench.setQueue_ev : (b.setQueue q f).ev = b.ev := rfl
@[simp] theorem Bench.setQueue_points : (b.setQueue q f).points = b.points := rfl
@[simp] theorem Bench.setQueue_conf : (b.setQueue q f).conf = b.conf := rfl
@[simp] theorem Bench.setQueue_inst : (b.setQueue q f).inst = b.inst := rfl
@[simp] theorem Bench.setQueue_sc : (b.setQueue q f).sc = b.sc := rfl
@[simp] theorem Bench.setQueue_fq : (b.setQueue q f).fq = b.fq := rfl
@[simp] theorem Bench.setQueue_cores : (b.setQueue q f).cores = b.cores := rfl
@[simp] theorem Bench.setQueue_pe : (b.setQueue q f).pe = b.pe := rfl
@[simp] theorem Bench.setQueue_le : (b.setQueue q f).le = b.le := rfl
@[simp] theorem Bench.setQueue_gd : (b.setQueue q f).gd = b.gd := rfl
@[simp] theorem Bench.setQueue_mx : (b.setQueue q f).mx = b.mx := rfl
@[simp] theorem Bench.setQueue_rs : (b.setQueue q f).rs = b.rs := rfl
@[simp] theorem Bench.setQueue_ha : (b.setQueue q f).ha = b.ha := rfl
@[simp] theorem Bench.setQueue_fc : (b.setQueue q f).fc = b.fc := rfl
@[simp] theorem Bench.setQueue_qn : (b.setQueue q f).qn = b.qn := rfl
@[simp] theorem Bench.setQueue_can : (b.setQueue q f).can = b.can := rfl
@[simp] theorem Bench.setQueue_kf : (b.setQueue q f).kf = b.kf := rfl
@[simp] theorem Bench.setQueue_dg : (b.setQueue q f).dg = b.dg := rfl
@[simp] theorem Bench.setQueue_hl : (b.setQueue q f).hl = b.hl := rfl
@[simp] theorem Bench.setQueue_nl : (b.setQueue q f).nl = b.nl := rfl
@[simp] theorem Bench.setQueue_snap : (b.setQueue q f).snap = b.snap := rfl
@[simp] theorem Bench.setQueue_snapOk : (b.setQueue q f).snapOk = b.snapOk := rfl
@[simp] theorem Bench.setQueue_dgTaps : (b.setQueue q f).dgTaps = b.dgTaps := rfl
@[simp] theorem Bench.setQueue_kfTaps : (b.setQueue q f).kfTaps = b.kfTaps := rfl
@[simp] theorem Bench.setQueue_free : (b.setQueue q f).free = b.free := rfl
@[simp] theorem Bench.setQueue_qc : (b.setQueue q f).qc = { b.qc with q := upd b.qc.q q f } := rfl
end setQueue

section dropTag
variable (b : Bench) (tag : BitVec 16)
@[simp] theorem Bench.dropTag_ix : (b.dropTag tag).ix = b.ix := rfl
@[simp] theorem Bench.dropTag_bn : (b.dropTag tag).bn = b.bn := rfl
@[simp] theorem Bench.dropTag_rail : (b.dropTag tag).rail = b.rail := rfl
@[simp] theorem Bench.dropTag_fn : (b.dropTag tag).fn = b.fn := rfl
@[simp] theorem Bench.dropTag_ev : (b.dropTag tag).ev = b.ev := rfl
@[simp] theorem Bench.dropTag_points : (b.dropTag tag).points = b.points := rfl
@[simp] theorem Bench.dropTag_conf : (b.dropTag tag).conf = b.conf := rfl
@[simp] theorem Bench.dropTag_inst : (b.dropTag tag).inst = b.inst := rfl
@[simp] theorem Bench.dropTag_sc : (b.dropTag tag).sc = b.sc := rfl
@[simp] theorem Bench.dropTag_fq : (b.dropTag tag).fq = b.fq := rfl
@[simp] theorem Bench.dropTag_cores : (b.dropTag tag).cores = b.cores := rfl
@[simp] theorem Bench.dropTag_pe : (b.dropTag tag).pe = b.pe := rfl
@[simp] theorem Bench.dropTag_le : (b.dropTag tag).le = b.le := rfl
@[simp] theorem Bench.dropTag_gd : (b.dropTag tag).gd = b.gd := rfl
@[simp] theorem Bench.dropTag_mx : (b.dropTag tag).mx = b.mx := rfl
@[simp] theorem Bench.dropTag_rs : (b.dropTag tag).rs = b.rs := rfl
@[simp] theorem Bench.dropTag_ha : (b.dropTag tag).ha = b.ha := rfl
@[simp] theorem Bench.dropTag_fc : (b.dropTag tag).fc = b.fc := rfl
@[simp] theorem Bench.dropTag_qn : (b.dropTag tag).qn = b.qn := rfl
@[simp] theorem Bench.dropTag_can : (b.dropTag tag).can = b.can := rfl
@[simp] theorem Bench.dropTag_kf : (b.dropTag tag).kf = b.kf := rfl
@[simp] theorem Bench.dropTag_dg : (b.dropTag tag).dg = b.dg := rfl
@[simp] theorem Bench.dropTag_hl : (b.dropTag tag).hl = b.hl := rfl
@[simp] theorem Bench.dropTag_nl : (b.dropTag tag).nl = b.nl := rfl
@[simp] theorem Bench.dropTag_snap : (b.dropTag tag).snap = b.snap := rfl
@[simp] theorem Bench.dropTag_snapOk : (b.dropTag tag).snapOk = b.snapOk := rfl
@[simp] theorem Bench.dropTag_dgTaps : (b.dropTag tag).dgTaps = b.dgTaps := rfl
@[simp] theorem Bench.dropTag_kfTaps : (b.dropTag tag).kfTaps = b.kfTaps := rfl
@[simp] theorem Bench.dropTag_free : (b.dropTag tag).free = b.free := rfl
end dropTag

section setCfg
variable (b : Bench) (o : Nat) (v : Word)
@[simp] theorem Bench.setCfg_ix : (b.setCfg o v).ix = b.ix := rfl
@[simp] theorem Bench.setCfg_bn : (b.setCfg o v).bn = b.bn := rfl
@[simp] theorem Bench.setCfg_rail : (b.setCfg o v).rail = b.rail := rfl
@[simp] theorem Bench.setCfg_fn : (b.setCfg o v).fn = b.fn := rfl
@[simp] theorem Bench.setCfg_qc : (b.setCfg o v).qc = b.qc := rfl
@[simp] theorem Bench.setCfg_ev : (b.setCfg o v).ev = b.ev := rfl
@[simp] theorem Bench.setCfg_points : (b.setCfg o v).points = b.points := rfl
@[simp] theorem Bench.setCfg_inst : (b.setCfg o v).inst = b.inst := rfl
@[simp] theorem Bench.setCfg_sc : (b.setCfg o v).sc = b.sc := rfl
@[simp] theorem Bench.setCfg_fq : (b.setCfg o v).fq = b.fq := rfl
@[simp] theorem Bench.setCfg_cores : (b.setCfg o v).cores = b.cores := rfl
@[simp] theorem Bench.setCfg_pe : (b.setCfg o v).pe = b.pe := rfl
@[simp] theorem Bench.setCfg_le : (b.setCfg o v).le = b.le := rfl
@[simp] theorem Bench.setCfg_gd : (b.setCfg o v).gd = b.gd := rfl
@[simp] theorem Bench.setCfg_mx : (b.setCfg o v).mx = b.mx := rfl
@[simp] theorem Bench.setCfg_rs : (b.setCfg o v).rs = b.rs := rfl
@[simp] theorem Bench.setCfg_ha : (b.setCfg o v).ha = b.ha := rfl
@[simp] theorem Bench.setCfg_fc : (b.setCfg o v).fc = b.fc := rfl
@[simp] theorem Bench.setCfg_qn : (b.setCfg o v).qn = b.qn := rfl
@[simp] theorem Bench.setCfg_can : (b.setCfg o v).can = b.can := rfl
@[simp] theorem Bench.setCfg_kf : (b.setCfg o v).kf = b.kf := rfl
@[simp] theorem Bench.setCfg_dg : (b.setCfg o v).dg = b.dg := rfl
@[simp] theorem Bench.setCfg_hl : (b.setCfg o v).hl = b.hl := rfl
@[simp] theorem Bench.setCfg_nl : (b.setCfg o v).nl = b.nl := rfl
@[simp] theorem Bench.setCfg_snap : (b.setCfg o v).snap = b.snap := rfl
@[simp] theorem Bench.setCfg_snapOk : (b.setCfg o v).snapOk = b.snapOk := rfl
@[simp] theorem Bench.setCfg_dgTaps : (b.setCfg o v).dgTaps = b.dgTaps := rfl
@[simp] theorem Bench.setCfg_kfTaps : (b.setCfg o v).kfTaps = b.kfTaps := rfl
@[simp] theorem Bench.setCfg_free : (b.setCfg o v).free = b.free := rfl
@[simp] theorem Bench.setCfg_conf : (b.setCfg o v).conf = Tbl.set 0 b.conf o v := rfl
end setCfg

section store
variable (b : Bench) (a n v : Nat)
@[simp] theorem Bench.store_ix : (b.store a n v).ix = b.ix := rfl
@[simp] theorem Bench.store_bn : (b.store a n v).bn = b.bn := rfl
@[simp] theorem Bench.store_rail : (b.store a n v).rail = b.rail := rfl
@[simp] theorem Bench.store_fn : (b.store a n v).fn = b.fn := rfl
@[simp] theorem Bench.store_qc : (b.store a n v).qc = b.qc := rfl
@[simp] theorem Bench.store_ev : (b.store a n v).ev = b.ev := rfl
@[simp] theorem Bench.store_points : (b.store a n v).points = b.points := rfl
@[simp] theorem Bench.store_conf : (b.store a n v).conf = b.conf := rfl
@[simp] theorem Bench.store_sc : (b.store a n v).sc = b.sc := rfl
@[simp] theorem Bench.store_fq : (b.store a n v).fq = b.fq := rfl
@[simp] theorem Bench.store_cores : (b.store a n v).cores = b.cores := rfl
@[simp] theorem Bench.store_le : (b.store a n v).le = b.le := rfl
@[simp] theorem Bench.store_gd : (b.store a n v).gd = b.gd := rfl
@[simp] theorem Bench.store_mx : (b.store a n v).mx = b.mx := rfl
@[simp] theorem Bench.store_rs : (b.store a n v).rs = b.rs := rfl
@[simp] theorem Bench.store_ha : (b.store a n v).ha = b.ha := rfl
@[simp] theorem Bench.store_fc : (b.store a n v).fc = b.fc := rfl
@[simp] theorem Bench.store_qn : (b.store a n v).qn = b.qn := rfl
@[simp] theorem Bench.store_can : (b.store a n v).can = b.can := rfl
@[simp] theorem Bench.store_kf : (b.store a n v).kf = b.kf := rfl
@[simp] theorem Bench.store_dg : (b.store a n v).dg = b.dg := rfl
@[simp] theorem Bench.store_hl : (b.store a n v).hl = b.hl := rfl
@[simp] theorem Bench.store_snap : (b.store a n v).snap = b.snap := rfl
@[simp] theorem Bench.store_snapOk : (b.store a n v).snapOk = b.snapOk := rfl
@[simp] theorem Bench.store_dgTaps : (b.store a n v).dgTaps = b.dgTaps := rfl
@[simp] theorem Bench.store_kfTaps : (b.store a n v).kfTaps = b.kfTaps := rfl
@[simp] theorem Bench.store_free : (b.store a n v).free = b.free := rfl
@[simp] theorem Bench.store_inst : (b.store a n v).inst = writeLe b.inst a v n := rfl
end store

section setNl
variable (b : Bench) (f : Nalry → Nalry)
@[simp] theorem Bench.setNl_ix : (b.setNl f).ix = b.ix := rfl
@[simp] theorem Bench.setNl_bn : (b.setNl f).bn = b.bn := rfl
@[simp] theorem Bench.setNl_rail : (b.setNl f).rail = b.rail := rfl
@[simp] theorem Bench.setNl_fn : (b.setNl f).fn = b.fn := rfl
@[simp] theorem Bench.setNl_qc : (b.setNl f).qc = b.qc := rfl
@[simp] theorem Bench.setNl_ev : (b.setNl f).ev = b.ev := rfl
@[simp] theorem Bench.setNl_points : (b.setNl f).points = b.points := rfl
@[simp] theorem Bench.setNl_conf : (b.setNl f).conf = b.conf := rfl
@[simp] theorem Bench.setNl_inst : (b.setNl f).inst = b.inst := rfl
@[simp] theorem Bench.setNl_sc : (b.setNl f).sc = b.sc := rfl
@[simp] theorem Bench.setNl_fq : (b.setNl f).fq = b.fq := rfl
@[simp] theorem Bench.setNl_cores : (b.setNl f).cores = b.cores := rfl
@[simp] theorem Bench.setNl_pe : (b.setNl f).pe = b.pe := rfl
@[simp] theorem Bench.setNl_le : (b.setNl f).le = b.le := rfl
@[simp] theorem Bench.setNl_gd : (b.setNl f).gd = b.gd := rfl
@[simp] theorem Bench.setNl_mx : (b.setNl f).mx = b.mx := rfl
@[simp] theorem Bench.setNl_rs : (b.setNl f).rs = b.rs := rfl
@[simp] theorem Bench.setNl_ha : (b.setNl f).ha = b.ha := rfl
@[simp] theorem Bench.setNl_fc : (b.setNl f).fc = b.fc := rfl
@[simp] theorem Bench.setNl_qn : (b.setNl f).qn = b.qn := rfl
@[simp] theorem Bench.setNl_can : (b.setNl f).can = b.can := rfl
@[simp] theorem Bench.setNl_kf : (b.setNl f).kf = b.kf := rfl
@[simp] theorem Bench.setNl_dg : (b.setNl f).dg = b.dg := rfl
@[simp] theorem Bench.setNl_hl : (b.setNl f).hl = b.hl := rfl
@[simp] theorem Bench.setNl_snap : (b.setNl f).snap = b.snap := rfl
@[simp] theorem Bench.setNl_snapOk : (b.setNl f).snapOk = b.snapOk := rfl
@[simp] theorem Bench.setNl_dgTaps : (b.setNl f).dgTaps = b.dgTaps := rfl
@[simp] theorem Bench.setNl_kfTaps : (b.setNl f).kfTaps = b.kfTaps := rfl
@[simp] theorem Bench.setNl_free : (b.setNl f).free = b.free := rfl
@[simp] theorem Bench.setNl_nl : (b.setNl f).nl = f b.nl := rfl
end setNl

section setPoint
variable (b : Bench) (p : Nat) (e : Point)
@[simp] theorem Bench.setPoint_ix : (b.setPoint p e).ix = b.ix := rfl
@[simp] theorem Bench.setPoint_bn : (b.setPoint p e).bn = b.bn := rfl
@[simp] theorem Bench.setPoint_rail : (b.setPoint p e).rail = b.rail := rfl
@[simp] theorem Bench.setPoint_fn : (b.setPoint p e).fn = b.fn := rfl
@[simp] theorem Bench.setPoint_qc : (b.setPoint p e).qc = b.qc := rfl
@[simp] theorem Bench.setPoint_ev : (b.setPoint p e).ev = b.ev := rfl
@[simp] theorem Bench.setPoint_conf : (b.setPoint p e).conf = b.conf := rfl
@[simp] theorem Bench.setPoint_inst : (b.setPoint p e).inst = b.inst := rfl
@[simp] theorem Bench.setPoint_sc : (b.setPoint p e).sc = b.sc := rfl
@[simp] theorem Bench.setPoint_fq : (b.setPoint p e).fq = b.fq := rfl
@[simp] theorem Bench.setPoint_cores : (b.setPoint p e).cores = b.cores := rfl
@[simp] theorem Bench.setPoint_pe : (b.setPoint p e).pe = b.pe := rfl
@[simp] theorem Bench.setPoint_le : (b.setPoint p e).le = b.le := rfl
@[simp] theorem Bench.setPoint_gd : (b.setPoint p e).gd = b.gd := rfl
@[simp] theorem Bench.setPoint_mx : (b.setPoint p e).mx = b.mx := rfl
@[simp] theorem Bench.setPoint_rs : (b.setPoint p e).rs = b.rs := rfl
@[simp] theorem Bench.setPoint_ha : (b.setPoint p e).ha = b.ha := rfl
@[simp] theorem Bench.setPoint_fc : (b.setPoint p e).fc = b.fc := rfl
@[simp] theorem Bench.setPoint_qn : (b.setPoint p e).qn = b.qn := rfl
@[simp] theorem Bench.setPoint_can : (b.setPoint p e).can = b.can := rfl
@[simp] theorem Bench.setPoint_kf : (b.setPoint p e).kf = b.kf := rfl
@[simp] theorem Bench.setPoint_dg : (b.setPoint p e).dg = b.dg := rfl
@[simp] theorem Bench.setPoint_hl : (b.setPoint p e).hl = b.hl := rfl
@[simp] theorem Bench.setPoint_nl : (b.setPoint p e).nl = b.nl := rfl
@[simp] theorem Bench.setPoint_snap : (b.setPoint p e).snap = b.snap := rfl
@[simp] theorem Bench.setPoint_snapOk : (b.setPoint p e).snapOk = b.snapOk := rfl
@[simp] theorem Bench.setPoint_dgTaps : (b.setPoint p e).dgTaps = b.dgTaps := rfl
@[simp] theorem Bench.setPoint_kfTaps : (b.setPoint p e).kfTaps = b.kfTaps := rfl
@[simp] theorem Bench.setPoint_free : (b.setPoint p e).free = b.free := rfl
@[simp] theorem Bench.setPoint_points : (b.setPoint p e).points = Tbl.set {} b.points p e := rfl
end setPoint

section setFlags
variable (b : Bench) (n : Fin 64) (f : Word)
@[simp] theorem Bench.setFlags_ix : (b.setFlags n f).ix = b.ix := rfl
@[simp] theorem Bench.setFlags_bn : (b.setFlags n f).bn = b.bn := rfl
@[simp] theorem Bench.setFlags_rail : (b.setFlags n f).rail = b.rail := rfl
@[simp] theorem Bench.setFlags_fn : (b.setFlags n f).fn = b.fn := rfl
@[simp] theorem Bench.setFlags_qc : (b.setFlags n f).qc = b.qc := rfl
@[simp] theorem Bench.setFlags_ev : (b.setFlags n f).ev = b.ev := rfl
@[simp] theorem Bench.setFlags_points : (b.setFlags n f).points = b.points := rfl
@[simp] theorem Bench.setFlags_conf : (b.setFlags n f).conf = b.conf := rfl
@[simp] theorem Bench.setFlags_inst : (b.setFlags n f).inst = b.inst := rfl
@[simp] theorem Bench.setFlags_fq : (b.setFlags n f).fq = b.fq := rfl
@[simp] theorem Bench.setFlags_cores : (b.setFlags n f).cores = b.cores := rfl
@[simp] theorem Bench.setFlags_pe : (b.setFlags n f).pe = b.pe := rfl
@[simp] theorem Bench.setFlags_le : (b.setFlags n f).le = b.le := rfl
@[simp] theorem Bench.setFlags_gd : (b.setFlags n f).gd = b.gd := rfl
@[simp] theorem Bench.setFlags_mx : (b.setFlags n f).mx = b.mx := rfl
@[simp] theorem Bench.setFlags_rs : (b.setFlags n f).rs = b.rs := rfl
@[simp] theorem Bench.setFlags_ha : (b.setFlags n f).ha = b.ha := rfl
@[simp] theorem Bench.setFlags_fc : (b.setFlags n f).fc = b.fc := rfl
@[simp] theorem Bench.setFlags_qn : (b.setFlags n f).qn = b.qn := rfl
@[simp] theorem Bench.setFlags_can : (b.setFlags n f).can = b.can := rfl
@[simp] theorem Bench.setFlags_kf : (b.setFlags n f).kf = b.kf := rfl
@[simp] theorem Bench.setFlags_dg : (b.setFlags n f).dg = b.dg := rfl
@[simp] theorem Bench.setFlags_hl : (b.setFlags n f).hl = b.hl := rfl
@[simp] theorem Bench.setFlags_nl : (b.setFlags n f).nl = b.nl := rfl
@[simp] theorem Bench.setFlags_snap : (b.setFlags n f).snap = b.snap := rfl
@[simp] theorem Bench.setFlags_snapOk : (b.setFlags n f).snapOk = b.snapOk := rfl
@[simp] theorem Bench.setFlags_dgTaps : (b.setFlags n f).dgTaps = b.dgTaps := rfl
@[simp] theorem Bench.setFlags_kfTaps : (b.setFlags n f).kfTaps = b.kfTaps := rfl
@[simp] theorem Bench.setFlags_free : (b.setFlags n f).free = b.free := rfl
end setFlags

section setLive
variable (b : Bench) (p : Nat) (v : Word)
@[simp] theorem Bench.setLive_ix : (b.setLive p v).ix = b.ix := rfl
@[simp] theorem Bench.setLive_bn : (b.setLive p v).bn = b.bn := rfl
@[simp] theorem Bench.setLive_rail : (b.setLive p v).rail = b.rail := rfl
@[simp] theorem Bench.setLive_fn : (b.setLive p v).fn = b.fn := rfl
@[simp] theorem Bench.setLive_qc : (b.setLive p v).qc = b.qc := rfl
@[simp] theorem Bench.setLive_ev : (b.setLive p v).ev = b.ev := rfl
@[simp] theorem Bench.setLive_points : (b.setLive p v).points = b.points := rfl
@[simp] theorem Bench.setLive_conf : (b.setLive p v).conf = b.conf := rfl
@[simp] theorem Bench.setLive_inst : (b.setLive p v).inst = b.inst := rfl
@[simp] theorem Bench.setLive_sc : (b.setLive p v).sc = b.sc := rfl
@[simp] theorem Bench.setLive_fq : (b.setLive p v).fq = b.fq := rfl
@[simp] theorem Bench.setLive_cores : (b.setLive p v).cores = b.cores := rfl
@[simp] theorem Bench.setLive_le : (b.setLive p v).le = b.le := rfl
@[simp] theorem Bench.setLive_gd : (b.setLive p v).gd = b.gd := rfl
@[simp] theorem Bench.setLive_mx : (b.setLive p v).mx = b.mx := rfl
@[simp] theorem Bench.setLive_rs : (b.setLive p v).rs = b.rs := rfl
@[simp] theorem Bench.setLive_ha : (b.setLive p v).ha = b.ha := rfl
@[simp] theorem Bench.setLive_fc : (b.setLive p v).fc = b.fc := rfl
@[simp] theorem Bench.setLive_qn : (b.setLive p v).qn = b.qn := rfl
@[simp] theorem Bench.setLive_can : (b.setLive p v).can = b.can := rfl
@[simp] theorem Bench.setLive_kf : (b.setLive p v).kf = b.kf := rfl
@[simp] theorem Bench.setLive_dg : (b.setLive p v).dg = b.dg := rfl
@[simp] theorem Bench.setLive_hl : (b.setLive p v).hl = b.hl := rfl
@[simp] theorem Bench.setLive_nl : (b.setLive p v).nl = b.nl := rfl
@[simp] theorem Bench.setLive_snap : (b.setLive p v).snap = b.snap := rfl
@[simp] theorem Bench.setLive_snapOk : (b.setLive p v).snapOk = b.snapOk := rfl
@[simp] theorem Bench.setLive_dgTaps : (b.setLive p v).dgTaps = b.dgTaps := rfl
@[simp] theorem Bench.setLive_kfTaps : (b.setLive p v).kfTaps = b.kfTaps := rfl
@[simp] theorem Bench.setLive_free : (b.setLive p v).free = b.free := rfl
end setLive

section settleForces
variable (b : Bench) (p inst : Nat)
@[simp] theorem Bench.settleForces_ix : (b.settleForces p inst).ix = b.ix := rfl
@[simp] theorem Bench.settleForces_bn : (b.settleForces p inst).bn = b.bn := rfl
@[simp] theorem Bench.settleForces_rail : (b.settleForces p inst).rail = b.rail := rfl
@[simp] theorem Bench.settleForces_fn : (b.settleForces p inst).fn = b.fn := rfl
@[simp] theorem Bench.settleForces_qc : (b.settleForces p inst).qc = b.qc := rfl
@[simp] theorem Bench.settleForces_ev : (b.settleForces p inst).ev = b.ev := rfl
@[simp] theorem Bench.settleForces_points : (b.settleForces p inst).points = b.points := rfl
@[simp] theorem Bench.settleForces_conf : (b.settleForces p inst).conf = b.conf := rfl
@[simp] theorem Bench.settleForces_inst : (b.settleForces p inst).inst = b.inst := rfl
@[simp] theorem Bench.settleForces_sc : (b.settleForces p inst).sc = b.sc := rfl
@[simp] theorem Bench.settleForces_fq : (b.settleForces p inst).fq = b.fq := rfl
@[simp] theorem Bench.settleForces_cores : (b.settleForces p inst).cores = b.cores := rfl
@[simp] theorem Bench.settleForces_le : (b.settleForces p inst).le = b.le := rfl
@[simp] theorem Bench.settleForces_gd : (b.settleForces p inst).gd = b.gd := rfl
@[simp] theorem Bench.settleForces_mx : (b.settleForces p inst).mx = b.mx := rfl
@[simp] theorem Bench.settleForces_rs : (b.settleForces p inst).rs = b.rs := rfl
@[simp] theorem Bench.settleForces_ha : (b.settleForces p inst).ha = b.ha := rfl
@[simp] theorem Bench.settleForces_fc : (b.settleForces p inst).fc = b.fc := rfl
@[simp] theorem Bench.settleForces_qn : (b.settleForces p inst).qn = b.qn := rfl
@[simp] theorem Bench.settleForces_can : (b.settleForces p inst).can = b.can := rfl
@[simp] theorem Bench.settleForces_kf : (b.settleForces p inst).kf = b.kf := rfl
@[simp] theorem Bench.settleForces_dg : (b.settleForces p inst).dg = b.dg := rfl
@[simp] theorem Bench.settleForces_hl : (b.settleForces p inst).hl = b.hl := rfl
@[simp] theorem Bench.settleForces_nl : (b.settleForces p inst).nl = b.nl := rfl
@[simp] theorem Bench.settleForces_snap : (b.settleForces p inst).snap = b.snap := rfl
@[simp] theorem Bench.settleForces_snapOk : (b.settleForces p inst).snapOk = b.snapOk := rfl
@[simp] theorem Bench.settleForces_dgTaps : (b.settleForces p inst).dgTaps = b.dgTaps := rfl
@[simp] theorem Bench.settleForces_kfTaps : (b.settleForces p inst).kfTaps = b.kfTaps := rfl
@[simp] theorem Bench.settleForces_free : (b.settleForces p inst).free = b.free := rfl
end settleForces

section setBn
variable (b : Bench) (f : Bn → Bn)
@[simp] theorem Bench.setBn_ix : (b.setBn f).ix = b.ix := rfl
@[simp] theorem Bench.setBn_rail : (b.setBn f).rail = b.rail := rfl
@[simp] theorem Bench.setBn_fn : (b.setBn f).fn = b.fn := rfl
@[simp] theorem Bench.setBn_qc : (b.setBn f).qc = b.qc := rfl
@[simp] theorem Bench.setBn_ev : (b.setBn f).ev = b.ev := rfl
@[simp] theorem Bench.setBn_points : (b.setBn f).points = b.points := rfl
@[simp] theorem Bench.setBn_conf : (b.setBn f).conf = b.conf := rfl
@[simp] theorem Bench.setBn_inst : (b.setBn f).inst = b.inst := rfl
@[simp] theorem Bench.setBn_sc : (b.setBn f).sc = b.sc := rfl
@[simp] theorem Bench.setBn_fq : (b.setBn f).fq = b.fq := rfl
@[simp] theorem Bench.setBn_cores : (b.setBn f).cores = b.cores := rfl
@[simp] theorem Bench.setBn_pe : (b.setBn f).pe = b.pe := rfl
@[simp] theorem Bench.setBn_le : (b.setBn f).le = b.le := rfl
@[simp] theorem Bench.setBn_gd : (b.setBn f).gd = b.gd := rfl
@[simp] theorem Bench.setBn_mx : (b.setBn f).mx = b.mx := rfl
@[simp] theorem Bench.setBn_rs : (b.setBn f).rs = b.rs := rfl
@[simp] theorem Bench.setBn_ha : (b.setBn f).ha = b.ha := rfl
@[simp] theorem Bench.setBn_fc : (b.setBn f).fc = b.fc := rfl
@[simp] theorem Bench.setBn_qn : (b.setBn f).qn = b.qn := rfl
@[simp] theorem Bench.setBn_can : (b.setBn f).can = b.can := rfl
@[simp] theorem Bench.setBn_kf : (b.setBn f).kf = b.kf := rfl
@[simp] theorem Bench.setBn_dg : (b.setBn f).dg = b.dg := rfl
@[simp] theorem Bench.setBn_hl : (b.setBn f).hl = b.hl := rfl
@[simp] theorem Bench.setBn_nl : (b.setBn f).nl = b.nl := rfl
@[simp] theorem Bench.setBn_snap : (b.setBn f).snap = b.snap := rfl
@[simp] theorem Bench.setBn_snapOk : (b.setBn f).snapOk = b.snapOk := rfl
@[simp] theorem Bench.setBn_dgTaps : (b.setBn f).dgTaps = b.dgTaps := rfl
@[simp] theorem Bench.setBn_kfTaps : (b.setBn f).kfTaps = b.kfTaps := rfl
@[simp] theorem Bench.setBn_free : (b.setBn f).free = b.free := rfl
@[simp] theorem Bench.setBn_bn : (b.setBn f).bn = f b.bn := rfl
end setBn

section setRail
variable (b : Bench) (f : Rail → Rail)
@[simp] theorem Bench.setRail_ix : (b.setRail f).ix = b.ix := rfl
@[simp] theorem Bench.setRail_bn : (b.setRail f).bn = b.bn := rfl
@[simp] theorem Bench.setRail_fn : (b.setRail f).fn = b.fn := rfl
@[simp] theorem Bench.setRail_qc : (b.setRail f).qc = b.qc := rfl
@[simp] theorem Bench.setRail_ev : (b.setRail f).ev = b.ev := rfl
@[simp] theorem Bench.setRail_points : (b.setRail f).points = b.points := rfl
@[simp] theorem Bench.setRail_conf : (b.setRail f).conf = b.conf := rfl
@[simp] theorem Bench.setRail_inst : (b.setRail f).inst = b.inst := rfl
@[simp] theorem Bench.setRail_sc : (b.setRail f).sc = b.sc := rfl
@[simp] theorem Bench.setRail_fq : (b.setRail f).fq = b.fq := rfl
@[simp] theorem Bench.setRail_cores : (b.setRail f).cores = b.cores := rfl
@[simp] theorem Bench.setRail_pe : (b.setRail f).pe = b.pe := rfl
@[simp] theorem Bench.setRail_le : (b.setRail f).le = b.le := rfl
@[simp] theorem Bench.setRail_gd : (b.setRail f).gd = b.gd := rfl
@[simp] theorem Bench.setRail_mx : (b.setRail f).mx = b.mx := rfl
@[simp] theorem Bench.setRail_rs : (b.setRail f).rs = b.rs := rfl
@[simp] theorem Bench.setRail_ha : (b.setRail f).ha = b.ha := rfl
@[simp] theorem Bench.setRail_fc : (b.setRail f).fc = b.fc := rfl
@[simp] theorem Bench.setRail_qn : (b.setRail f).qn = b.qn := rfl
@[simp] theorem Bench.setRail_can : (b.setRail f).can = b.can := rfl
@[simp] theorem Bench.setRail_kf : (b.setRail f).kf = b.kf := rfl
@[simp] theorem Bench.setRail_dg : (b.setRail f).dg = b.dg := rfl
@[simp] theorem Bench.setRail_hl : (b.setRail f).hl = b.hl := rfl
@[simp] theorem Bench.setRail_nl : (b.setRail f).nl = b.nl := rfl
@[simp] theorem Bench.setRail_snap : (b.setRail f).snap = b.snap := rfl
@[simp] theorem Bench.setRail_snapOk : (b.setRail f).snapOk = b.snapOk := rfl
@[simp] theorem Bench.setRail_dgTaps : (b.setRail f).dgTaps = b.dgTaps := rfl
@[simp] theorem Bench.setRail_kfTaps : (b.setRail f).kfTaps = b.kfTaps := rfl
@[simp] theorem Bench.setRail_free : (b.setRail f).free = b.free := rfl
@[simp] theorem Bench.setRail_rail : (b.setRail f).rail = f b.rail := rfl
end setRail

section setFace
variable (b : Bench) (f : Face → Face)
@[simp] theorem Bench.setFace_ix : (b.setFace f).ix = b.ix := rfl
@[simp] theorem Bench.setFace_bn : (b.setFace f).bn = b.bn := rfl
@[simp] theorem Bench.setFace_rail : (b.setFace f).rail = b.rail := rfl
@[simp] theorem Bench.setFace_fn : (b.setFace f).fn = b.fn := rfl
@[simp] theorem Bench.setFace_qc : (b.setFace f).qc = b.qc := rfl
@[simp] theorem Bench.setFace_ev : (b.setFace f).ev = b.ev := rfl
@[simp] theorem Bench.setFace_points : (b.setFace f).points = b.points := rfl
@[simp] theorem Bench.setFace_conf : (b.setFace f).conf = b.conf := rfl
@[simp] theorem Bench.setFace_inst : (b.setFace f).inst = b.inst := rfl
@[simp] theorem Bench.setFace_sc : (b.setFace f).sc = b.sc := rfl
@[simp] theorem Bench.setFace_fq : (b.setFace f).fq = b.fq := rfl
@[simp] theorem Bench.setFace_cores : (b.setFace f).cores = b.cores := rfl
@[simp] theorem Bench.setFace_pe : (b.setFace f).pe = b.pe := rfl
@[simp] theorem Bench.setFace_le : (b.setFace f).le = b.le := rfl
@[simp] theorem Bench.setFace_gd : (b.setFace f).gd = b.gd := rfl
@[simp] theorem Bench.setFace_mx : (b.setFace f).mx = b.mx := rfl
@[simp] theorem Bench.setFace_rs : (b.setFace f).rs = b.rs := rfl
@[simp] theorem Bench.setFace_ha : (b.setFace f).ha = b.ha := rfl
@[simp] theorem Bench.setFace_qn : (b.setFace f).qn = b.qn := rfl
@[simp] theorem Bench.setFace_can : (b.setFace f).can = b.can := rfl
@[simp] theorem Bench.setFace_kf : (b.setFace f).kf = b.kf := rfl
@[simp] theorem Bench.setFace_dg : (b.setFace f).dg = b.dg := rfl
@[simp] theorem Bench.setFace_hl : (b.setFace f).hl = b.hl := rfl
@[simp] theorem Bench.setFace_nl : (b.setFace f).nl = b.nl := rfl
@[simp] theorem Bench.setFace_snap : (b.setFace f).snap = b.snap := rfl
@[simp] theorem Bench.setFace_snapOk : (b.setFace f).snapOk = b.snapOk := rfl
@[simp] theorem Bench.setFace_dgTaps : (b.setFace f).dgTaps = b.dgTaps := rfl
@[simp] theorem Bench.setFace_kfTaps : (b.setFace f).kfTaps = b.kfTaps := rfl
@[simp] theorem Bench.setFace_free : (b.setFace f).free = b.free := rfl
@[simp] theorem Bench.setFace_fc : (b.setFace f).fc = f b.fc := rfl
end setFace

section setCore
variable (b : Bench) (k : Fin 4) (c : Core)
@[simp] theorem Bench.setCore_ix : (b.setCore k c).ix = b.ix := rfl
@[simp] theorem Bench.setCore_bn : (b.setCore k c).bn = b.bn := rfl
@[simp] theorem Bench.setCore_rail : (b.setCore k c).rail = b.rail := rfl
@[simp] theorem Bench.setCore_fn : (b.setCore k c).fn = b.fn := rfl
@[simp] theorem Bench.setCore_qc : (b.setCore k c).qc = b.qc := rfl
@[simp] theorem Bench.setCore_ev : (b.setCore k c).ev = b.ev := rfl
@[simp] theorem Bench.setCore_points : (b.setCore k c).points = b.points := rfl
@[simp] theorem Bench.setCore_conf : (b.setCore k c).conf = b.conf := rfl
@[simp] theorem Bench.setCore_inst : (b.setCore k c).inst = b.inst := rfl
@[simp] theorem Bench.setCore_sc : (b.setCore k c).sc = b.sc := rfl
@[simp] theorem Bench.setCore_fq : (b.setCore k c).fq = b.fq := rfl
@[simp] theorem Bench.setCore_pe : (b.setCore k c).pe = b.pe := rfl
@[simp] theorem Bench.setCore_le : (b.setCore k c).le = b.le := rfl
@[simp] theorem Bench.setCore_gd : (b.setCore k c).gd = b.gd := rfl
@[simp] theorem Bench.setCore_mx : (b.setCore k c).mx = b.mx := rfl
@[simp] theorem Bench.setCore_rs : (b.setCore k c).rs = b.rs := rfl
@[simp] theorem Bench.setCore_ha : (b.setCore k c).ha = b.ha := rfl
@[simp] theorem Bench.setCore_fc : (b.setCore k c).fc = b.fc := rfl
@[simp] theorem Bench.setCore_qn : (b.setCore k c).qn = b.qn := rfl
@[simp] theorem Bench.setCore_can : (b.setCore k c).can = b.can := rfl
@[simp] theorem Bench.setCore_kf : (b.setCore k c).kf = b.kf := rfl
@[simp] theorem Bench.setCore_dg : (b.setCore k c).dg = b.dg := rfl
@[simp] theorem Bench.setCore_hl : (b.setCore k c).hl = b.hl := rfl
@[simp] theorem Bench.setCore_nl : (b.setCore k c).nl = b.nl := rfl
@[simp] theorem Bench.setCore_snap : (b.setCore k c).snap = b.snap := rfl
@[simp] theorem Bench.setCore_snapOk : (b.setCore k c).snapOk = b.snapOk := rfl
@[simp] theorem Bench.setCore_dgTaps : (b.setCore k c).dgTaps = b.dgTaps := rfl
@[simp] theorem Bench.setCore_kfTaps : (b.setCore k c).kfTaps = b.kfTaps := rfl
@[simp] theorem Bench.setCore_free : (b.setCore k c).free = b.free := rfl
@[simp] theorem Bench.setCore_cores : (b.setCore k c).cores = b.cores.set k c := rfl
end setCore

section setFifo
variable (b : Bench) (n : Fin 32) (f : Fifo → Fifo)
@[simp] theorem Bench.setFifo_ix : (b.setFifo n f).ix = b.ix := rfl
@[simp] theorem Bench.setFifo_bn : (b.setFifo n f).bn = b.bn := rfl
@[simp] theorem Bench.setFifo_rail : (b.setFifo n f).rail = b.rail := rfl
@[simp] theorem Bench.setFifo_fn : (b.setFifo n f).fn = b.fn := rfl
@[simp] theorem Bench.setFifo_qc : (b.setFifo n f).qc = b.qc := rfl
@[simp] theorem Bench.setFifo_ev : (b.setFifo n f).ev = b.ev := rfl
@[simp] theorem Bench.setFifo_points : (b.setFifo n f).points = b.points := rfl
@[simp] theorem Bench.setFifo_conf : (b.setFifo n f).conf = b.conf := rfl
@[simp] theorem Bench.setFifo_inst : (b.setFifo n f).inst = b.inst := rfl
@[simp] theorem Bench.setFifo_sc : (b.setFifo n f).sc = b.sc := rfl
@[simp] theorem Bench.setFifo_cores : (b.setFifo n f).cores = b.cores := rfl
@[simp] theorem Bench.setFifo_pe : (b.setFifo n f).pe = b.pe := rfl
@[simp] theorem Bench.setFifo_le : (b.setFifo n f).le = b.le := rfl
@[simp] theorem Bench.setFifo_gd : (b.setFifo n f).gd = b.gd := rfl
@[simp] theorem Bench.setFifo_mx : (b.setFifo n f).mx = b.mx := rfl
@[simp] theorem Bench.setFifo_rs : (b.setFifo n f).rs = b.rs := rfl
@[simp] theorem Bench.setFifo_ha : (b.setFifo n f).ha = b.ha := rfl
@[simp] theorem Bench.setFifo_fc : (b.setFifo n f).fc = b.fc := rfl
@[simp] theorem Bench.setFifo_qn : (b.setFifo n f).qn = b.qn := rfl
@[simp] theorem Bench.setFifo_can : (b.setFifo n f).can = b.can := rfl
@[simp] theorem Bench.setFifo_kf : (b.setFifo n f).kf = b.kf := rfl
@[simp] theorem Bench.setFifo_dg : (b.setFifo n f).dg = b.dg := rfl
@[simp] theorem Bench.setFifo_hl : (b.setFifo n f).hl = b.hl := rfl
@[simp] theorem Bench.setFifo_nl : (b.setFifo n f).nl = b.nl := rfl
@[simp] theorem Bench.setFifo_snap : (b.setFifo n f).snap = b.snap := rfl
@[simp] theorem Bench.setFifo_snapOk : (b.setFifo n f).snapOk = b.snapOk := rfl
@[simp] theorem Bench.setFifo_dgTaps : (b.setFifo n f).dgTaps = b.dgTaps := rfl
@[simp] theorem Bench.setFifo_kfTaps : (b.setFifo n f).kfTaps = b.kfTaps := rfl
@[simp] theorem Bench.setFifo_free : (b.setFifo n f).free = b.free := rfl
end setFifo

section setFlow
variable (b : Bench) (n : Nat) (f : Flow)
@[simp] theorem Bench.setFlow_ix : (b.setFlow n f).ix = b.ix := rfl
@[simp] theorem Bench.setFlow_bn : (b.setFlow n f).bn = b.bn := rfl
@[simp] theorem Bench.setFlow_rail : (b.setFlow n f).rail = b.rail := rfl
@[simp] theorem Bench.setFlow_fn : (b.setFlow n f).fn = b.fn := rfl
@[simp] theorem Bench.setFlow_qc : (b.setFlow n f).qc = b.qc := rfl
@[simp] theorem Bench.setFlow_ev : (b.setFlow n f).ev = b.ev := rfl
@[simp] theorem Bench.setFlow_points : (b.setFlow n f).points = b.points := rfl
@[simp] theorem Bench.setFlow_conf : (b.setFlow n f).conf = b.conf := rfl
@[simp] theorem Bench.setFlow_inst : (b.setFlow n f).inst = b.inst := rfl
@[simp] theorem Bench.setFlow_fq : (b.setFlow n f).fq = b.fq := rfl
@[simp] theorem Bench.setFlow_cores : (b.setFlow n f).cores = b.cores := rfl
@[simp] theorem Bench.setFlow_pe : (b.setFlow n f).pe = b.pe := rfl
@[simp] theorem Bench.setFlow_le : (b.setFlow n f).le = b.le := rfl
@[simp] theorem Bench.setFlow_gd : (b.setFlow n f).gd = b.gd := rfl
@[simp] theorem Bench.setFlow_mx : (b.setFlow n f).mx = b.mx := rfl
@[simp] theorem Bench.setFlow_rs : (b.setFlow n f).rs = b.rs := rfl
@[simp] theorem Bench.setFlow_ha : (b.setFlow n f).ha = b.ha := rfl
@[simp] theorem Bench.setFlow_fc : (b.setFlow n f).fc = b.fc := rfl
@[simp] theorem Bench.setFlow_qn : (b.setFlow n f).qn = b.qn := rfl
@[simp] theorem Bench.setFlow_can : (b.setFlow n f).can = b.can := rfl
@[simp] theorem Bench.setFlow_kf : (b.setFlow n f).kf = b.kf := rfl
@[simp] theorem Bench.setFlow_dg : (b.setFlow n f).dg = b.dg := rfl
@[simp] theorem Bench.setFlow_hl : (b.setFlow n f).hl = b.hl := rfl
@[simp] theorem Bench.setFlow_nl : (b.setFlow n f).nl = b.nl := rfl
@[simp] theorem Bench.setFlow_snap : (b.setFlow n f).snap = b.snap := rfl
@[simp] theorem Bench.setFlow_snapOk : (b.setFlow n f).snapOk = b.snapOk := rfl
@[simp] theorem Bench.setFlow_dgTaps : (b.setFlow n f).dgTaps = b.dgTaps := rfl
@[simp] theorem Bench.setFlow_kfTaps : (b.setFlow n f).kfTaps = b.kfTaps := rfl
@[simp] theorem Bench.setFlow_free : (b.setFlow n f).free = b.free := rfl
end setFlow

section setForce
variable (b : Bench) (n : Nat) (f : Force)
@[simp] theorem Bench.setForce_ix : (b.setForce n f).ix = b.ix := rfl
@[simp] theorem Bench.setForce_bn : (b.setForce n f).bn = b.bn := rfl
@[simp] theorem Bench.setForce_rail : (b.setForce n f).rail = b.rail := rfl
@[simp] theorem Bench.setForce_fn : (b.setForce n f).fn = b.fn := rfl
@[simp] theorem Bench.setForce_qc : (b.setForce n f).qc = b.qc := rfl
@[simp] theorem Bench.setForce_ev : (b.setForce n f).ev = b.ev := rfl
@[simp] theorem Bench.setForce_points : (b.setForce n f).points = b.points := rfl
@[simp] theorem Bench.setForce_conf : (b.setForce n f).conf = b.conf := rfl
@[simp] theorem Bench.setForce_inst : (b.setForce n f).inst = b.inst := rfl
@[simp] theorem Bench.setForce_sc : (b.setForce n f).sc = b.sc := rfl
@[simp] theorem Bench.setForce_fq : (b.setForce n f).fq = b.fq := rfl
@[simp] theorem Bench.setForce_cores : (b.setForce n f).cores = b.cores := rfl
@[simp] theorem Bench.setForce_le : (b.setForce n f).le = b.le := rfl
@[simp] theorem Bench.setForce_gd : (b.setForce n f).gd = b.gd := rfl
@[simp] theorem Bench.setForce_mx : (b.setForce n f).mx = b.mx := rfl
@[simp] theorem Bench.setForce_rs : (b.setForce n f).rs = b.rs := rfl
@[simp] theorem Bench.setForce_ha : (b.setForce n f).ha = b.ha := rfl
@[simp] theorem Bench.setForce_fc : (b.setForce n f).fc = b.fc := rfl
@[simp] theorem Bench.setForce_qn : (b.setForce n f).qn = b.qn := rfl
@[simp] theorem Bench.setForce_can : (b.setForce n f).can = b.can := rfl
@[simp] theorem Bench.setForce_kf : (b.setForce n f).kf = b.kf := rfl
@[simp] theorem Bench.setForce_dg : (b.setForce n f).dg = b.dg := rfl
@[simp] theorem Bench.setForce_hl : (b.setForce n f).hl = b.hl := rfl
@[simp] theorem Bench.setForce_nl : (b.setForce n f).nl = b.nl := rfl
@[simp] theorem Bench.setForce_snap : (b.setForce n f).snap = b.snap := rfl
@[simp] theorem Bench.setForce_snapOk : (b.setForce n f).snapOk = b.snapOk := rfl
@[simp] theorem Bench.setForce_dgTaps : (b.setForce n f).dgTaps = b.dgTaps := rfl
@[simp] theorem Bench.setForce_kfTaps : (b.setForce n f).kfTaps = b.kfTaps := rfl
@[simp] theorem Bench.setForce_free : (b.setForce n f).free = b.free := rfl
end setForce

section setLoop
variable (b : Bench) (n : Nat) (l : Loop)
@[simp] theorem Bench.setLoop_ix : (b.setLoop n l).ix = b.ix := rfl
@[simp] theorem Bench.setLoop_bn : (b.setLoop n l).bn = b.bn := rfl
@[simp] theorem Bench.setLoop_rail : (b.setLoop n l).rail = b.rail := rfl
@[simp] theorem Bench.setLoop_fn : (b.setLoop n l).fn = b.fn := rfl
@[simp] theorem Bench.setLoop_qc : (b.setLoop n l).qc = b.qc := rfl
@[simp] theorem Bench.setLoop_ev : (b.setLoop n l).ev = b.ev := rfl
@[simp] theorem Bench.setLoop_points : (b.setLoop n l).points = b.points := rfl
@[simp] theorem Bench.setLoop_conf : (b.setLoop n l).conf = b.conf := rfl
@[simp] theorem Bench.setLoop_inst : (b.setLoop n l).inst = b.inst := rfl
@[simp] theorem Bench.setLoop_sc : (b.setLoop n l).sc = b.sc := rfl
@[simp] theorem Bench.setLoop_fq : (b.setLoop n l).fq = b.fq := rfl
@[simp] theorem Bench.setLoop_cores : (b.setLoop n l).cores = b.cores := rfl
@[simp] theorem Bench.setLoop_pe : (b.setLoop n l).pe = b.pe := rfl
@[simp] theorem Bench.setLoop_gd : (b.setLoop n l).gd = b.gd := rfl
@[simp] theorem Bench.setLoop_mx : (b.setLoop n l).mx = b.mx := rfl
@[simp] theorem Bench.setLoop_rs : (b.setLoop n l).rs = b.rs := rfl
@[simp] theorem Bench.setLoop_ha : (b.setLoop n l).ha = b.ha := rfl
@[simp] theorem Bench.setLoop_fc : (b.setLoop n l).fc = b.fc := rfl
@[simp] theorem Bench.setLoop_qn : (b.setLoop n l).qn = b.qn := rfl
@[simp] theorem Bench.setLoop_can : (b.setLoop n l).can = b.can := rfl
@[simp] theorem Bench.setLoop_kf : (b.setLoop n l).kf = b.kf := rfl
@[simp] theorem Bench.setLoop_dg : (b.setLoop n l).dg = b.dg := rfl
@[simp] theorem Bench.setLoop_hl : (b.setLoop n l).hl = b.hl := rfl
@[simp] theorem Bench.setLoop_nl : (b.setLoop n l).nl = b.nl := rfl
@[simp] theorem Bench.setLoop_snap : (b.setLoop n l).snap = b.snap := rfl
@[simp] theorem Bench.setLoop_snapOk : (b.setLoop n l).snapOk = b.snapOk := rfl
@[simp] theorem Bench.setLoop_dgTaps : (b.setLoop n l).dgTaps = b.dgTaps := rfl
@[simp] theorem Bench.setLoop_kfTaps : (b.setLoop n l).kfTaps = b.kfTaps := rfl
@[simp] theorem Bench.setLoop_free : (b.setLoop n l).free = b.free := rfl
end setLoop

section setAxis
variable (b : Bench) (a : Nat) (x : Axis)
@[simp] theorem Bench.setAxis_ix : (b.setAxis a x).ix = b.ix := rfl
@[simp] theorem Bench.setAxis_bn : (b.setAxis a x).bn = b.bn := rfl
@[simp] theorem Bench.setAxis_rail : (b.setAxis a x).rail = b.rail := rfl
@[simp] theorem Bench.setAxis_fn : (b.setAxis a x).fn = b.fn := rfl
@[simp] theorem Bench.setAxis_qc : (b.setAxis a x).qc = b.qc := rfl
@[simp] theorem Bench.setAxis_ev : (b.setAxis a x).ev = b.ev := rfl
@[simp] theorem Bench.setAxis_points : (b.setAxis a x).points = b.points := rfl
@[simp] theorem Bench.setAxis_conf : (b.setAxis a x).conf = b.conf := rfl
@[simp] theorem Bench.setAxis_inst : (b.setAxis a x).inst = b.inst := rfl
@[simp] theorem Bench.setAxis_sc : (b.setAxis a x).sc = b.sc := rfl
@[simp] theorem Bench.setAxis_fq : (b.setAxis a x).fq = b.fq := rfl
@[simp] theorem Bench.setAxis_cores : (b.setAxis a x).cores = b.cores := rfl
@[simp] theorem Bench.setAxis_pe : (b.setAxis a x).pe = b.pe := rfl
@[simp] theorem Bench.setAxis_le : (b.setAxis a x).le = b.le := rfl
@[simp] theorem Bench.setAxis_gd : (b.setAxis a x).gd = b.gd := rfl
@[simp] theorem Bench.setAxis_rs : (b.setAxis a x).rs = b.rs := rfl
@[simp] theorem Bench.setAxis_ha : (b.setAxis a x).ha = b.ha := rfl
@[simp] theorem Bench.setAxis_fc : (b.setAxis a x).fc = b.fc := rfl
@[simp] theorem Bench.setAxis_qn : (b.setAxis a x).qn = b.qn := rfl
@[simp] theorem Bench.setAxis_can : (b.setAxis a x).can = b.can := rfl
@[simp] theorem Bench.setAxis_kf : (b.setAxis a x).kf = b.kf := rfl
@[simp] theorem Bench.setAxis_dg : (b.setAxis a x).dg = b.dg := rfl
@[simp] theorem Bench.setAxis_hl : (b.setAxis a x).hl = b.hl := rfl
@[simp] theorem Bench.setAxis_nl : (b.setAxis a x).nl = b.nl := rfl
@[simp] theorem Bench.setAxis_snap : (b.setAxis a x).snap = b.snap := rfl
@[simp] theorem Bench.setAxis_snapOk : (b.setAxis a x).snapOk = b.snapOk := rfl
@[simp] theorem Bench.setAxis_dgTaps : (b.setAxis a x).dgTaps = b.dgTaps := rfl
@[simp] theorem Bench.setAxis_kfTaps : (b.setAxis a x).kfTaps = b.kfTaps := rfl
@[simp] theorem Bench.setAxis_free : (b.setAxis a x).free = b.free := rfl
end setAxis

section setRecipe
variable (b : Bench) (n : Fin 16) (r : Recipe)
@[simp] theorem Bench.setRecipe_ix : (b.setRecipe n r).ix = b.ix := rfl
@[simp] theorem Bench.setRecipe_bn : (b.setRecipe n r).bn = b.bn := rfl
@[simp] theorem Bench.setRecipe_rail : (b.setRecipe n r).rail = b.rail := rfl
@[simp] theorem Bench.setRecipe_fn : (b.setRecipe n r).fn = b.fn := rfl
@[simp] theorem Bench.setRecipe_qc : (b.setRecipe n r).qc = b.qc := rfl
@[simp] theorem Bench.setRecipe_ev : (b.setRecipe n r).ev = b.ev := rfl
@[simp] theorem Bench.setRecipe_points : (b.setRecipe n r).points = b.points := rfl
@[simp] theorem Bench.setRecipe_conf : (b.setRecipe n r).conf = b.conf := rfl
@[simp] theorem Bench.setRecipe_inst : (b.setRecipe n r).inst = b.inst := rfl
@[simp] theorem Bench.setRecipe_sc : (b.setRecipe n r).sc = b.sc := rfl
@[simp] theorem Bench.setRecipe_fq : (b.setRecipe n r).fq = b.fq := rfl
@[simp] theorem Bench.setRecipe_cores : (b.setRecipe n r).cores = b.cores := rfl
@[simp] theorem Bench.setRecipe_pe : (b.setRecipe n r).pe = b.pe := rfl
@[simp] theorem Bench.setRecipe_le : (b.setRecipe n r).le = b.le := rfl
@[simp] theorem Bench.setRecipe_gd : (b.setRecipe n r).gd = b.gd := rfl
@[simp] theorem Bench.setRecipe_mx : (b.setRecipe n r).mx = b.mx := rfl
@[simp] theorem Bench.setRecipe_ha : (b.setRecipe n r).ha = b.ha := rfl
@[simp] theorem Bench.setRecipe_fc : (b.setRecipe n r).fc = b.fc := rfl
@[simp] theorem Bench.setRecipe_qn : (b.setRecipe n r).qn = b.qn := rfl
@[simp] theorem Bench.setRecipe_can : (b.setRecipe n r).can = b.can := rfl
@[simp] theorem Bench.setRecipe_kf : (b.setRecipe n r).kf = b.kf := rfl
@[simp] theorem Bench.setRecipe_dg : (b.setRecipe n r).dg = b.dg := rfl
@[simp] theorem Bench.setRecipe_hl : (b.setRecipe n r).hl = b.hl := rfl
@[simp] theorem Bench.setRecipe_nl : (b.setRecipe n r).nl = b.nl := rfl
@[simp] theorem Bench.setRecipe_snap : (b.setRecipe n r).snap = b.snap := rfl
@[simp] theorem Bench.setRecipe_snapOk : (b.setRecipe n r).snapOk = b.snapOk := rfl
@[simp] theorem Bench.setRecipe_dgTaps : (b.setRecipe n r).dgTaps = b.dgTaps := rfl
@[simp] theorem Bench.setRecipe_kfTaps : (b.setRecipe n r).kfTaps = b.kfTaps := rfl
@[simp] theorem Bench.setRecipe_free : (b.setRecipe n r).free = b.free := rfl
end setRecipe

section setStation
variable (b : Bench) (n : Nat) (x : Station)
@[simp] theorem Bench.setStation_ix : (b.setStation n x).ix = b.ix := rfl
@[simp] theorem Bench.setStation_bn : (b.setStation n x).bn = b.bn := rfl
@[simp] theorem Bench.setStation_rail : (b.setStation n x).rail = b.rail := rfl
@[simp] theorem Bench.setStation_fn : (b.setStation n x).fn = b.fn := rfl
@[simp] theorem Bench.setStation_qc : (b.setStation n x).qc = b.qc := rfl
@[simp] theorem Bench.setStation_ev : (b.setStation n x).ev = b.ev := rfl
@[simp] theorem Bench.setStation_points : (b.setStation n x).points = b.points := rfl
@[simp] theorem Bench.setStation_conf : (b.setStation n x).conf = b.conf := rfl
@[simp] theorem Bench.setStation_inst : (b.setStation n x).inst = b.inst := rfl
@[simp] theorem Bench.setStation_sc : (b.setStation n x).sc = b.sc := rfl
@[simp] theorem Bench.setStation_fq : (b.setStation n x).fq = b.fq := rfl
@[simp] theorem Bench.setStation_cores : (b.setStation n x).cores = b.cores := rfl
@[simp] theorem Bench.setStation_pe : (b.setStation n x).pe = b.pe := rfl
@[simp] theorem Bench.setStation_le : (b.setStation n x).le = b.le := rfl
@[simp] theorem Bench.setStation_gd : (b.setStation n x).gd = b.gd := rfl
@[simp] theorem Bench.setStation_mx : (b.setStation n x).mx = b.mx := rfl
@[simp] theorem Bench.setStation_rs : (b.setStation n x).rs = b.rs := rfl
@[simp] theorem Bench.setStation_fc : (b.setStation n x).fc = b.fc := rfl
@[simp] theorem Bench.setStation_qn : (b.setStation n x).qn = b.qn := rfl
@[simp] theorem Bench.setStation_can : (b.setStation n x).can = b.can := rfl
@[simp] theorem Bench.setStation_kf : (b.setStation n x).kf = b.kf := rfl
@[simp] theorem Bench.setStation_dg : (b.setStation n x).dg = b.dg := rfl
@[simp] theorem Bench.setStation_hl : (b.setStation n x).hl = b.hl := rfl
@[simp] theorem Bench.setStation_nl : (b.setStation n x).nl = b.nl := rfl
@[simp] theorem Bench.setStation_snap : (b.setStation n x).snap = b.snap := rfl
@[simp] theorem Bench.setStation_snapOk : (b.setStation n x).snapOk = b.snapOk := rfl
@[simp] theorem Bench.setStation_dgTaps : (b.setStation n x).dgTaps = b.dgTaps := rfl
@[simp] theorem Bench.setStation_kfTaps : (b.setStation n x).kfTaps = b.kfTaps := rfl
@[simp] theorem Bench.setStation_free : (b.setStation n x).free = b.free := rfl
end setStation

section setCan
variable (b : Bench) (k : Fin 2) (f : Can → Can)
@[simp] theorem Bench.setCan_ix : (b.setCan k f).ix = b.ix := rfl
@[simp] theorem Bench.setCan_bn : (b.setCan k f).bn = b.bn := rfl
@[simp] theorem Bench.setCan_rail : (b.setCan k f).rail = b.rail := rfl
@[simp] theorem Bench.setCan_fn : (b.setCan k f).fn = b.fn := rfl
@[simp] theorem Bench.setCan_qc : (b.setCan k f).qc = b.qc := rfl
@[simp] theorem Bench.setCan_ev : (b.setCan k f).ev = b.ev := rfl
@[simp] theorem Bench.setCan_points : (b.setCan k f).points = b.points := rfl
@[simp] theorem Bench.setCan_conf : (b.setCan k f).conf = b.conf := rfl
@[simp] theorem Bench.setCan_inst : (b.setCan k f).inst = b.inst := rfl
@[simp] theorem Bench.setCan_sc : (b.setCan k f).sc = b.sc := rfl
@[simp] theorem Bench.setCan_fq : (b.setCan k f).fq = b.fq := rfl
@[simp] theorem Bench.setCan_cores : (b.setCan k f).cores = b.cores := rfl
@[simp] theorem Bench.setCan_pe : (b.setCan k f).pe = b.pe := rfl
@[simp] theorem Bench.setCan_le : (b.setCan k f).le = b.le := rfl
@[simp] theorem Bench.setCan_gd : (b.setCan k f).gd = b.gd := rfl
@[simp] theorem Bench.setCan_mx : (b.setCan k f).mx = b.mx := rfl
@[simp] theorem Bench.setCan_rs : (b.setCan k f).rs = b.rs := rfl
@[simp] theorem Bench.setCan_ha : (b.setCan k f).ha = b.ha := rfl
@[simp] theorem Bench.setCan_fc : (b.setCan k f).fc = b.fc := rfl
@[simp] theorem Bench.setCan_qn : (b.setCan k f).qn = b.qn := rfl
@[simp] theorem Bench.setCan_kf : (b.setCan k f).kf = b.kf := rfl
@[simp] theorem Bench.setCan_dg : (b.setCan k f).dg = b.dg := rfl
@[simp] theorem Bench.setCan_hl : (b.setCan k f).hl = b.hl := rfl
@[simp] theorem Bench.setCan_nl : (b.setCan k f).nl = b.nl := rfl
@[simp] theorem Bench.setCan_snap : (b.setCan k f).snap = b.snap := rfl
@[simp] theorem Bench.setCan_snapOk : (b.setCan k f).snapOk = b.snapOk := rfl
@[simp] theorem Bench.setCan_dgTaps : (b.setCan k f).dgTaps = b.dgTaps := rfl
@[simp] theorem Bench.setCan_kfTaps : (b.setCan k f).kfTaps = b.kfTaps := rfl
@[simp] theorem Bench.setCan_free : (b.setCan k f).free = b.free := rfl
@[simp] theorem Bench.setCan_can : (b.setCan k f).can = upd b.can k f := rfl
end setCan

section setQuoin
variable (b : Bench) (f : Quoin → Quoin)
@[simp] theorem Bench.setQuoin_ix : (b.setQuoin f).ix = b.ix := rfl
@[simp] theorem Bench.setQuoin_bn : (b.setQuoin f).bn = b.bn := rfl
@[simp] theorem Bench.setQuoin_rail : (b.setQuoin f).rail = b.rail := rfl
@[simp] theorem Bench.setQuoin_fn : (b.setQuoin f).fn = b.fn := rfl
@[simp] theorem Bench.setQuoin_qc : (b.setQuoin f).qc = b.qc := rfl
@[simp] theorem Bench.setQuoin_ev : (b.setQuoin f).ev = b.ev := rfl
@[simp] theorem Bench.setQuoin_points : (b.setQuoin f).points = b.points := rfl
@[simp] theorem Bench.setQuoin_conf : (b.setQuoin f).conf = b.conf := rfl
@[simp] theorem Bench.setQuoin_inst : (b.setQuoin f).inst = b.inst := rfl
@[simp] theorem Bench.setQuoin_sc : (b.setQuoin f).sc = b.sc := rfl
@[simp] theorem Bench.setQuoin_fq : (b.setQuoin f).fq = b.fq := rfl
@[simp] theorem Bench.setQuoin_cores : (b.setQuoin f).cores = b.cores := rfl
@[simp] theorem Bench.setQuoin_pe : (b.setQuoin f).pe = b.pe := rfl
@[simp] theorem Bench.setQuoin_le : (b.setQuoin f).le = b.le := rfl
@[simp] theorem Bench.setQuoin_gd : (b.setQuoin f).gd = b.gd := rfl
@[simp] theorem Bench.setQuoin_mx : (b.setQuoin f).mx = b.mx := rfl
@[simp] theorem Bench.setQuoin_rs : (b.setQuoin f).rs = b.rs := rfl
@[simp] theorem Bench.setQuoin_ha : (b.setQuoin f).ha = b.ha := rfl
@[simp] theorem Bench.setQuoin_fc : (b.setQuoin f).fc = b.fc := rfl
@[simp] theorem Bench.setQuoin_can : (b.setQuoin f).can = b.can := rfl
@[simp] theorem Bench.setQuoin_kf : (b.setQuoin f).kf = b.kf := rfl
@[simp] theorem Bench.setQuoin_dg : (b.setQuoin f).dg = b.dg := rfl
@[simp] theorem Bench.setQuoin_hl : (b.setQuoin f).hl = b.hl := rfl
@[simp] theorem Bench.setQuoin_nl : (b.setQuoin f).nl = b.nl := rfl
@[simp] theorem Bench.setQuoin_snap : (b.setQuoin f).snap = b.snap := rfl
@[simp] theorem Bench.setQuoin_snapOk : (b.setQuoin f).snapOk = b.snapOk := rfl
@[simp] theorem Bench.setQuoin_dgTaps : (b.setQuoin f).dgTaps = b.dgTaps := rfl
@[simp] theorem Bench.setQuoin_kfTaps : (b.setQuoin f).kfTaps = b.kfTaps := rfl
@[simp] theorem Bench.setQuoin_free : (b.setQuoin f).free = b.free := rfl
@[simp] theorem Bench.setQuoin_qn : (b.setQuoin f).qn = f b.qn := rfl
end setQuoin

section setKerf
variable (b : Bench) (f : Kerf → Kerf)
@[simp] theorem Bench.setKerf_ix : (b.setKerf f).ix = b.ix := rfl
@[simp] theorem Bench.setKerf_bn : (b.setKerf f).bn = b.bn := rfl
@[simp] theorem Bench.setKerf_rail : (b.setKerf f).rail = b.rail := rfl
@[simp] theorem Bench.setKerf_fn : (b.setKerf f).fn = b.fn := rfl
@[simp] theorem Bench.setKerf_qc : (b.setKerf f).qc = b.qc := rfl
@[simp] theorem Bench.setKerf_ev : (b.setKerf f).ev = b.ev := rfl
@[simp] theorem Bench.setKerf_points : (b.setKerf f).points = b.points := rfl
@[simp] theorem Bench.setKerf_conf : (b.setKerf f).conf = b.conf := rfl
@[simp] theorem Bench.setKerf_inst : (b.setKerf f).inst = b.inst := rfl
@[simp] theorem Bench.setKerf_sc : (b.setKerf f).sc = b.sc := rfl
@[simp] theorem Bench.setKerf_fq : (b.setKerf f).fq = b.fq := rfl
@[simp] theorem Bench.setKerf_cores : (b.setKerf f).cores = b.cores := rfl
@[simp] theorem Bench.setKerf_pe : (b.setKerf f).pe = b.pe := rfl
@[simp] theorem Bench.setKerf_le : (b.setKerf f).le = b.le := rfl
@[simp] theorem Bench.setKerf_gd : (b.setKerf f).gd = b.gd := rfl
@[simp] theorem Bench.setKerf_mx : (b.setKerf f).mx = b.mx := rfl
@[simp] theorem Bench.setKerf_rs : (b.setKerf f).rs = b.rs := rfl
@[simp] theorem Bench.setKerf_ha : (b.setKerf f).ha = b.ha := rfl
@[simp] theorem Bench.setKerf_fc : (b.setKerf f).fc = b.fc := rfl
@[simp] theorem Bench.setKerf_qn : (b.setKerf f).qn = b.qn := rfl
@[simp] theorem Bench.setKerf_can : (b.setKerf f).can = b.can := rfl
@[simp] theorem Bench.setKerf_dg : (b.setKerf f).dg = b.dg := rfl
@[simp] theorem Bench.setKerf_hl : (b.setKerf f).hl = b.hl := rfl
@[simp] theorem Bench.setKerf_nl : (b.setKerf f).nl = b.nl := rfl
@[simp] theorem Bench.setKerf_snap : (b.setKerf f).snap = b.snap := rfl
@[simp] theorem Bench.setKerf_snapOk : (b.setKerf f).snapOk = b.snapOk := rfl
@[simp] theorem Bench.setKerf_dgTaps : (b.setKerf f).dgTaps = b.dgTaps := rfl
@[simp] theorem Bench.setKerf_kfTaps : (b.setKerf f).kfTaps = b.kfTaps := rfl
@[simp] theorem Bench.setKerf_free : (b.setKerf f).free = b.free := rfl
@[simp] theorem Bench.setKerf_kf : (b.setKerf f).kf = f b.kf := rfl
end setKerf

section setDigest
variable (b : Bench) (f : Digest → Digest)
@[simp] theorem Bench.setDigest_ix : (b.setDigest f).ix = b.ix := rfl
@[simp] theorem Bench.setDigest_bn : (b.setDigest f).bn = b.bn := rfl
@[simp] theorem Bench.setDigest_rail : (b.setDigest f).rail = b.rail := rfl
@[simp] theorem Bench.setDigest_fn : (b.setDigest f).fn = b.fn := rfl
@[simp] theorem Bench.setDigest_qc : (b.setDigest f).qc = b.qc := rfl
@[simp] theorem Bench.setDigest_ev : (b.setDigest f).ev = b.ev := rfl
@[simp] theorem Bench.setDigest_points : (b.setDigest f).points = b.points := rfl
@[simp] theorem Bench.setDigest_conf : (b.setDigest f).conf = b.conf := rfl
@[simp] theorem Bench.setDigest_inst : (b.setDigest f).inst = b.inst := rfl
@[simp] theorem Bench.setDigest_sc : (b.setDigest f).sc = b.sc := rfl
@[simp] theorem Bench.setDigest_fq : (b.setDigest f).fq = b.fq := rfl
@[simp] theorem Bench.setDigest_cores : (b.setDigest f).cores = b.cores := rfl
@[simp] theorem Bench.setDigest_pe : (b.setDigest f).pe = b.pe := rfl
@[simp] theorem Bench.setDigest_le : (b.setDigest f).le = b.le := rfl
@[simp] theorem Bench.setDigest_gd : (b.setDigest f).gd = b.gd := rfl
@[simp] theorem Bench.setDigest_mx : (b.setDigest f).mx = b.mx := rfl
@[simp] theorem Bench.setDigest_rs : (b.setDigest f).rs = b.rs := rfl
@[simp] theorem Bench.setDigest_ha : (b.setDigest f).ha = b.ha := rfl
@[simp] theorem Bench.setDigest_fc : (b.setDigest f).fc = b.fc := rfl
@[simp] theorem Bench.setDigest_qn : (b.setDigest f).qn = b.qn := rfl
@[simp] theorem Bench.setDigest_can : (b.setDigest f).can = b.can := rfl
@[simp] theorem Bench.setDigest_kf : (b.setDigest f).kf = b.kf := rfl
@[simp] theorem Bench.setDigest_hl : (b.setDigest f).hl = b.hl := rfl
@[simp] theorem Bench.setDigest_nl : (b.setDigest f).nl = b.nl := rfl
@[simp] theorem Bench.setDigest_snap : (b.setDigest f).snap = b.snap := rfl
@[simp] theorem Bench.setDigest_snapOk : (b.setDigest f).snapOk = b.snapOk := rfl
@[simp] theorem Bench.setDigest_dgTaps : (b.setDigest f).dgTaps = b.dgTaps := rfl
@[simp] theorem Bench.setDigest_kfTaps : (b.setDigest f).kfTaps = b.kfTaps := rfl
@[simp] theorem Bench.setDigest_free : (b.setDigest f).free = b.free := rfl
@[simp] theorem Bench.setDigest_dg : (b.setDigest f).dg = f b.dg := rfl
end setDigest

section setHealth
variable (b : Bench) (f : Health → Health)
@[simp] theorem Bench.setHealth_ix : (b.setHealth f).ix = b.ix := rfl
@[simp] theorem Bench.setHealth_bn : (b.setHealth f).bn = b.bn := rfl
@[simp] theorem Bench.setHealth_rail : (b.setHealth f).rail = b.rail := rfl
@[simp] theorem Bench.setHealth_fn : (b.setHealth f).fn = b.fn := rfl
@[simp] theorem Bench.setHealth_qc : (b.setHealth f).qc = b.qc := rfl
@[simp] theorem Bench.setHealth_ev : (b.setHealth f).ev = b.ev := rfl
@[simp] theorem Bench.setHealth_points : (b.setHealth f).points = b.points := rfl
@[simp] theorem Bench.setHealth_conf : (b.setHealth f).conf = b.conf := rfl
@[simp] theorem Bench.setHealth_inst : (b.setHealth f).inst = b.inst := rfl
@[simp] theorem Bench.setHealth_sc : (b.setHealth f).sc = b.sc := rfl
@[simp] theorem Bench.setHealth_fq : (b.setHealth f).fq = b.fq := rfl
@[simp] theorem Bench.setHealth_cores : (b.setHealth f).cores = b.cores := rfl
@[simp] theorem Bench.setHealth_pe : (b.setHealth f).pe = b.pe := rfl
@[simp] theorem Bench.setHealth_le : (b.setHealth f).le = b.le := rfl
@[simp] theorem Bench.setHealth_gd : (b.setHealth f).gd = b.gd := rfl
@[simp] theorem Bench.setHealth_mx : (b.setHealth f).mx = b.mx := rfl
@[simp] theorem Bench.setHealth_rs : (b.setHealth f).rs = b.rs := rfl
@[simp] theorem Bench.setHealth_ha : (b.setHealth f).ha = b.ha := rfl
@[simp] theorem Bench.setHealth_fc : (b.setHealth f).fc = b.fc := rfl
@[simp] theorem Bench.setHealth_qn : (b.setHealth f).qn = b.qn := rfl
@[simp] theorem Bench.setHealth_can : (b.setHealth f).can = b.can := rfl
@[simp] theorem Bench.setHealth_kf : (b.setHealth f).kf = b.kf := rfl
@[simp] theorem Bench.setHealth_dg : (b.setHealth f).dg = b.dg := rfl
@[simp] theorem Bench.setHealth_nl : (b.setHealth f).nl = b.nl := rfl
@[simp] theorem Bench.setHealth_snap : (b.setHealth f).snap = b.snap := rfl
@[simp] theorem Bench.setHealth_snapOk : (b.setHealth f).snapOk = b.snapOk := rfl
@[simp] theorem Bench.setHealth_dgTaps : (b.setHealth f).dgTaps = b.dgTaps := rfl
@[simp] theorem Bench.setHealth_kfTaps : (b.setHealth f).kfTaps = b.kfTaps := rfl
@[simp] theorem Bench.setHealth_free : (b.setHealth f).free = b.free := rfl
@[simp] theorem Bench.setHealth_hl : (b.setHealth f).hl = f b.hl := rfl
end setHealth

section setDi
variable (b : Bench) (i : Fin 16) (x : DigIn)
@[simp] theorem Bench.setDi_ix : (b.setDi i x).ix = b.ix := rfl
@[simp] theorem Bench.setDi_bn : (b.setDi i x).bn = b.bn := rfl
@[simp] theorem Bench.setDi_rail : (b.setDi i x).rail = b.rail := rfl
@[simp] theorem Bench.setDi_fn : (b.setDi i x).fn = b.fn := rfl
@[simp] theorem Bench.setDi_qc : (b.setDi i x).qc = b.qc := rfl
@[simp] theorem Bench.setDi_ev : (b.setDi i x).ev = b.ev := rfl
@[simp] theorem Bench.setDi_points : (b.setDi i x).points = b.points := rfl
@[simp] theorem Bench.setDi_conf : (b.setDi i x).conf = b.conf := rfl
@[simp] theorem Bench.setDi_inst : (b.setDi i x).inst = b.inst := rfl
@[simp] theorem Bench.setDi_sc : (b.setDi i x).sc = b.sc := rfl
@[simp] theorem Bench.setDi_fq : (b.setDi i x).fq = b.fq := rfl
@[simp] theorem Bench.setDi_cores : (b.setDi i x).cores = b.cores := rfl
@[simp] theorem Bench.setDi_pe : (b.setDi i x).pe = b.pe := rfl
@[simp] theorem Bench.setDi_le : (b.setDi i x).le = b.le := rfl
@[simp] theorem Bench.setDi_gd : (b.setDi i x).gd = b.gd := rfl
@[simp] theorem Bench.setDi_mx : (b.setDi i x).mx = b.mx := rfl
@[simp] theorem Bench.setDi_rs : (b.setDi i x).rs = b.rs := rfl
@[simp] theorem Bench.setDi_ha : (b.setDi i x).ha = b.ha := rfl
@[simp] theorem Bench.setDi_qn : (b.setDi i x).qn = b.qn := rfl
@[simp] theorem Bench.setDi_can : (b.setDi i x).can = b.can := rfl
@[simp] theorem Bench.setDi_kf : (b.setDi i x).kf = b.kf := rfl
@[simp] theorem Bench.setDi_dg : (b.setDi i x).dg = b.dg := rfl
@[simp] theorem Bench.setDi_hl : (b.setDi i x).hl = b.hl := rfl
@[simp] theorem Bench.setDi_nl : (b.setDi i x).nl = b.nl := rfl
@[simp] theorem Bench.setDi_snap : (b.setDi i x).snap = b.snap := rfl
@[simp] theorem Bench.setDi_snapOk : (b.setDi i x).snapOk = b.snapOk := rfl
@[simp] theorem Bench.setDi_dgTaps : (b.setDi i x).dgTaps = b.dgTaps := rfl
@[simp] theorem Bench.setDi_kfTaps : (b.setDi i x).kfTaps = b.kfTaps := rfl
@[simp] theorem Bench.setDi_free : (b.setDi i x).free = b.free := rfl
end setDi

section setDo
variable (b : Bench) (i : Fin 8) (x : DigOut)
@[simp] theorem Bench.setDo_ix : (b.setDo i x).ix = b.ix := rfl
@[simp] theorem Bench.setDo_bn : (b.setDo i x).bn = b.bn := rfl
@[simp] theorem Bench.setDo_rail : (b.setDo i x).rail = b.rail := rfl
@[simp] theorem Bench.setDo_fn : (b.setDo i x).fn = b.fn := rfl
@[simp] theorem Bench.setDo_qc : (b.setDo i x).qc = b.qc := rfl
@[simp] theorem Bench.setDo_ev : (b.setDo i x).ev = b.ev := rfl
@[simp] theorem Bench.setDo_points : (b.setDo i x).points = b.points := rfl
@[simp] theorem Bench.setDo_conf : (b.setDo i x).conf = b.conf := rfl
@[simp] theorem Bench.setDo_inst : (b.setDo i x).inst = b.inst := rfl
@[simp] theorem Bench.setDo_sc : (b.setDo i x).sc = b.sc := rfl
@[simp] theorem Bench.setDo_fq : (b.setDo i x).fq = b.fq := rfl
@[simp] theorem Bench.setDo_cores : (b.setDo i x).cores = b.cores := rfl
@[simp] theorem Bench.setDo_pe : (b.setDo i x).pe = b.pe := rfl
@[simp] theorem Bench.setDo_le : (b.setDo i x).le = b.le := rfl
@[simp] theorem Bench.setDo_gd : (b.setDo i x).gd = b.gd := rfl
@[simp] theorem Bench.setDo_mx : (b.setDo i x).mx = b.mx := rfl
@[simp] theorem Bench.setDo_rs : (b.setDo i x).rs = b.rs := rfl
@[simp] theorem Bench.setDo_ha : (b.setDo i x).ha = b.ha := rfl
@[simp] theorem Bench.setDo_qn : (b.setDo i x).qn = b.qn := rfl
@[simp] theorem Bench.setDo_can : (b.setDo i x).can = b.can := rfl
@[simp] theorem Bench.setDo_kf : (b.setDo i x).kf = b.kf := rfl
@[simp] theorem Bench.setDo_dg : (b.setDo i x).dg = b.dg := rfl
@[simp] theorem Bench.setDo_hl : (b.setDo i x).hl = b.hl := rfl
@[simp] theorem Bench.setDo_nl : (b.setDo i x).nl = b.nl := rfl
@[simp] theorem Bench.setDo_snap : (b.setDo i x).snap = b.snap := rfl
@[simp] theorem Bench.setDo_snapOk : (b.setDo i x).snapOk = b.snapOk := rfl
@[simp] theorem Bench.setDo_dgTaps : (b.setDo i x).dgTaps = b.dgTaps := rfl
@[simp] theorem Bench.setDo_kfTaps : (b.setDo i x).kfTaps = b.kfTaps := rfl
@[simp] theorem Bench.setDo_free : (b.setDo i x).free = b.free := rfl
end setDo

section setAi
variable (b : Bench) (i : Fin 4) (x : AnaIn)
@[simp] theorem Bench.setAi_ix : (b.setAi i x).ix = b.ix := rfl
@[simp] theorem Bench.setAi_bn : (b.setAi i x).bn = b.bn := rfl
@[simp] theorem Bench.setAi_rail : (b.setAi i x).rail = b.rail := rfl
@[simp] theorem Bench.setAi_fn : (b.setAi i x).fn = b.fn := rfl
@[simp] theorem Bench.setAi_qc : (b.setAi i x).qc = b.qc := rfl
@[simp] theorem Bench.setAi_ev : (b.setAi i x).ev = b.ev := rfl
@[simp] theorem Bench.setAi_points : (b.setAi i x).points = b.points := rfl
@[simp] theorem Bench.setAi_conf : (b.setAi i x).conf = b.conf := rfl
@[simp] theorem Bench.setAi_inst : (b.setAi i x).inst = b.inst := rfl
@[simp] theorem Bench.setAi_sc : (b.setAi i x).sc = b.sc := rfl
@[simp] theorem Bench.setAi_fq : (b.setAi i x).fq = b.fq := rfl
@[simp] theorem Bench.setAi_cores : (b.setAi i x).cores = b.cores := rfl
@[simp] theorem Bench.setAi_pe : (b.setAi i x).pe = b.pe := rfl
@[simp] theorem Bench.setAi_le : (b.setAi i x).le = b.le := rfl
@[simp] theorem Bench.setAi_gd : (b.setAi i x).gd = b.gd := rfl
@[simp] theorem Bench.setAi_mx : (b.setAi i x).mx = b.mx := rfl
@[simp] theorem Bench.setAi_rs : (b.setAi i x).rs = b.rs := rfl
@[simp] theorem Bench.setAi_ha : (b.setAi i x).ha = b.ha := rfl
@[simp] theorem Bench.setAi_qn : (b.setAi i x).qn = b.qn := rfl
@[simp] theorem Bench.setAi_can : (b.setAi i x).can = b.can := rfl
@[simp] theorem Bench.setAi_kf : (b.setAi i x).kf = b.kf := rfl
@[simp] theorem Bench.setAi_dg : (b.setAi i x).dg = b.dg := rfl
@[simp] theorem Bench.setAi_hl : (b.setAi i x).hl = b.hl := rfl
@[simp] theorem Bench.setAi_nl : (b.setAi i x).nl = b.nl := rfl
@[simp] theorem Bench.setAi_snap : (b.setAi i x).snap = b.snap := rfl
@[simp] theorem Bench.setAi_snapOk : (b.setAi i x).snapOk = b.snapOk := rfl
@[simp] theorem Bench.setAi_dgTaps : (b.setAi i x).dgTaps = b.dgTaps := rfl
@[simp] theorem Bench.setAi_kfTaps : (b.setAi i x).kfTaps = b.kfTaps := rfl
@[simp] theorem Bench.setAi_free : (b.setAi i x).free = b.free := rfl
end setAi

section setAo
variable (b : Bench) (i : Fin 2) (x : AnaOut)
@[simp] theorem Bench.setAo_ix : (b.setAo i x).ix = b.ix := rfl
@[simp] theorem Bench.setAo_bn : (b.setAo i x).bn = b.bn := rfl
@[simp] theorem Bench.setAo_rail : (b.setAo i x).rail = b.rail := rfl
@[simp] theorem Bench.setAo_fn : (b.setAo i x).fn = b.fn := rfl
@[simp] theorem Bench.setAo_qc : (b.setAo i x).qc = b.qc := rfl
@[simp] theorem Bench.setAo_ev : (b.setAo i x).ev = b.ev := rfl
@[simp] theorem Bench.setAo_points : (b.setAo i x).points = b.points := rfl
@[simp] theorem Bench.setAo_conf : (b.setAo i x).conf = b.conf := rfl
@[simp] theorem Bench.setAo_inst : (b.setAo i x).inst = b.inst := rfl
@[simp] theorem Bench.setAo_sc : (b.setAo i x).sc = b.sc := rfl
@[simp] theorem Bench.setAo_fq : (b.setAo i x).fq = b.fq := rfl
@[simp] theorem Bench.setAo_cores : (b.setAo i x).cores = b.cores := rfl
@[simp] theorem Bench.setAo_pe : (b.setAo i x).pe = b.pe := rfl
@[simp] theorem Bench.setAo_le : (b.setAo i x).le = b.le := rfl
@[simp] theorem Bench.setAo_gd : (b.setAo i x).gd = b.gd := rfl
@[simp] theorem Bench.setAo_mx : (b.setAo i x).mx = b.mx := rfl
@[simp] theorem Bench.setAo_rs : (b.setAo i x).rs = b.rs := rfl
@[simp] theorem Bench.setAo_ha : (b.setAo i x).ha = b.ha := rfl
@[simp] theorem Bench.setAo_qn : (b.setAo i x).qn = b.qn := rfl
@[simp] theorem Bench.setAo_can : (b.setAo i x).can = b.can := rfl
@[simp] theorem Bench.setAo_kf : (b.setAo i x).kf = b.kf := rfl
@[simp] theorem Bench.setAo_dg : (b.setAo i x).dg = b.dg := rfl
@[simp] theorem Bench.setAo_hl : (b.setAo i x).hl = b.hl := rfl
@[simp] theorem Bench.setAo_nl : (b.setAo i x).nl = b.nl := rfl
@[simp] theorem Bench.setAo_snap : (b.setAo i x).snap = b.snap := rfl
@[simp] theorem Bench.setAo_snapOk : (b.setAo i x).snapOk = b.snapOk := rfl
@[simp] theorem Bench.setAo_dgTaps : (b.setAo i x).dgTaps = b.dgTaps := rfl
@[simp] theorem Bench.setAo_kfTaps : (b.setAo i x).kfTaps = b.kfTaps := rfl
@[simp] theorem Bench.setAo_free : (b.setAo i x).free = b.free := rfl
end setAo

section setEnc
variable (b : Bench) (i : Fin 2) (x : Encoder)
@[simp] theorem Bench.setEnc_ix : (b.setEnc i x).ix = b.ix := rfl
@[simp] theorem Bench.setEnc_bn : (b.setEnc i x).bn = b.bn := rfl
@[simp] theorem Bench.setEnc_rail : (b.setEnc i x).rail = b.rail := rfl
@[simp] theorem Bench.setEnc_fn : (b.setEnc i x).fn = b.fn := rfl
@[simp] theorem Bench.setEnc_qc : (b.setEnc i x).qc = b.qc := rfl
@[simp] theorem Bench.setEnc_ev : (b.setEnc i x).ev = b.ev := rfl
@[simp] theorem Bench.setEnc_points : (b.setEnc i x).points = b.points := rfl
@[simp] theorem Bench.setEnc_conf : (b.setEnc i x).conf = b.conf := rfl
@[simp] theorem Bench.setEnc_inst : (b.setEnc i x).inst = b.inst := rfl
@[simp] theorem Bench.setEnc_sc : (b.setEnc i x).sc = b.sc := rfl
@[simp] theorem Bench.setEnc_fq : (b.setEnc i x).fq = b.fq := rfl
@[simp] theorem Bench.setEnc_cores : (b.setEnc i x).cores = b.cores := rfl
@[simp] theorem Bench.setEnc_pe : (b.setEnc i x).pe = b.pe := rfl
@[simp] theorem Bench.setEnc_le : (b.setEnc i x).le = b.le := rfl
@[simp] theorem Bench.setEnc_gd : (b.setEnc i x).gd = b.gd := rfl
@[simp] theorem Bench.setEnc_mx : (b.setEnc i x).mx = b.mx := rfl
@[simp] theorem Bench.setEnc_rs : (b.setEnc i x).rs = b.rs := rfl
@[simp] theorem Bench.setEnc_ha : (b.setEnc i x).ha = b.ha := rfl
@[simp] theorem Bench.setEnc_qn : (b.setEnc i x).qn = b.qn := rfl
@[simp] theorem Bench.setEnc_can : (b.setEnc i x).can = b.can := rfl
@[simp] theorem Bench.setEnc_kf : (b.setEnc i x).kf = b.kf := rfl
@[simp] theorem Bench.setEnc_dg : (b.setEnc i x).dg = b.dg := rfl
@[simp] theorem Bench.setEnc_hl : (b.setEnc i x).hl = b.hl := rfl
@[simp] theorem Bench.setEnc_nl : (b.setEnc i x).nl = b.nl := rfl
@[simp] theorem Bench.setEnc_snap : (b.setEnc i x).snap = b.snap := rfl
@[simp] theorem Bench.setEnc_snapOk : (b.setEnc i x).snapOk = b.snapOk := rfl
@[simp] theorem Bench.setEnc_dgTaps : (b.setEnc i x).dgTaps = b.dgTaps := rfl
@[simp] theorem Bench.setEnc_kfTaps : (b.setEnc i x).kfTaps = b.kfTaps := rfl
@[simp] theorem Bench.setEnc_free : (b.setEnc i x).free = b.free := rfl
end setEnc

section setIn
variable (b : Bench) (a : Nat) (k : Fin 3) (l : LimitIn)
@[simp] theorem Bench.setIn_ix : (b.setIn a k l).ix = b.ix := rfl
@[simp] theorem Bench.setIn_bn : (b.setIn a k l).bn = b.bn := rfl
@[simp] theorem Bench.setIn_rail : (b.setIn a k l).rail = b.rail := rfl
@[simp] theorem Bench.setIn_fn : (b.setIn a k l).fn = b.fn := rfl
@[simp] theorem Bench.setIn_qc : (b.setIn a k l).qc = b.qc := rfl
@[simp] theorem Bench.setIn_ev : (b.setIn a k l).ev = b.ev := rfl
@[simp] theorem Bench.setIn_points : (b.setIn a k l).points = b.points := rfl
@[simp] theorem Bench.setIn_conf : (b.setIn a k l).conf = b.conf := rfl
@[simp] theorem Bench.setIn_inst : (b.setIn a k l).inst = b.inst := rfl
@[simp] theorem Bench.setIn_sc : (b.setIn a k l).sc = b.sc := rfl
@[simp] theorem Bench.setIn_fq : (b.setIn a k l).fq = b.fq := rfl
@[simp] theorem Bench.setIn_cores : (b.setIn a k l).cores = b.cores := rfl
@[simp] theorem Bench.setIn_pe : (b.setIn a k l).pe = b.pe := rfl
@[simp] theorem Bench.setIn_le : (b.setIn a k l).le = b.le := rfl
@[simp] theorem Bench.setIn_gd : (b.setIn a k l).gd = b.gd := rfl
@[simp] theorem Bench.setIn_rs : (b.setIn a k l).rs = b.rs := rfl
@[simp] theorem Bench.setIn_ha : (b.setIn a k l).ha = b.ha := rfl
@[simp] theorem Bench.setIn_fc : (b.setIn a k l).fc = b.fc := rfl
@[simp] theorem Bench.setIn_qn : (b.setIn a k l).qn = b.qn := rfl
@[simp] theorem Bench.setIn_can : (b.setIn a k l).can = b.can := rfl
@[simp] theorem Bench.setIn_kf : (b.setIn a k l).kf = b.kf := rfl
@[simp] theorem Bench.setIn_dg : (b.setIn a k l).dg = b.dg := rfl
@[simp] theorem Bench.setIn_hl : (b.setIn a k l).hl = b.hl := rfl
@[simp] theorem Bench.setIn_nl : (b.setIn a k l).nl = b.nl := rfl
@[simp] theorem Bench.setIn_snap : (b.setIn a k l).snap = b.snap := rfl
@[simp] theorem Bench.setIn_snapOk : (b.setIn a k l).snapOk = b.snapOk := rfl
@[simp] theorem Bench.setIn_dgTaps : (b.setIn a k l).dgTaps = b.dgTaps := rfl
@[simp] theorem Bench.setIn_kfTaps : (b.setIn a k l).kfTaps = b.kfTaps := rfl
@[simp] theorem Bench.setIn_free : (b.setIn a k l).free = b.free := rfl
end setIn

section cover
variable (b : Bench) (p : Nat) (v : Option Word)
@[simp] theorem Bench.cover_ix : (b.cover p v).ix = b.ix := rfl
@[simp] theorem Bench.cover_bn : (b.cover p v).bn = b.bn := rfl
@[simp] theorem Bench.cover_rail : (b.cover p v).rail = b.rail := rfl
@[simp] theorem Bench.cover_fn : (b.cover p v).fn = b.fn := rfl
@[simp] theorem Bench.cover_qc : (b.cover p v).qc = b.qc := rfl
@[simp] theorem Bench.cover_ev : (b.cover p v).ev = b.ev := rfl
@[simp] theorem Bench.cover_points : (b.cover p v).points = b.points := rfl
@[simp] theorem Bench.cover_conf : (b.cover p v).conf = b.conf := rfl
@[simp] theorem Bench.cover_inst : (b.cover p v).inst = b.inst := rfl
@[simp] theorem Bench.cover_sc : (b.cover p v).sc = b.sc := rfl
@[simp] theorem Bench.cover_fq : (b.cover p v).fq = b.fq := rfl
@[simp] theorem Bench.cover_cores : (b.cover p v).cores = b.cores := rfl
@[simp] theorem Bench.cover_le : (b.cover p v).le = b.le := rfl
@[simp] theorem Bench.cover_gd : (b.cover p v).gd = b.gd := rfl
@[simp] theorem Bench.cover_mx : (b.cover p v).mx = b.mx := rfl
@[simp] theorem Bench.cover_rs : (b.cover p v).rs = b.rs := rfl
@[simp] theorem Bench.cover_ha : (b.cover p v).ha = b.ha := rfl
@[simp] theorem Bench.cover_fc : (b.cover p v).fc = b.fc := rfl
@[simp] theorem Bench.cover_qn : (b.cover p v).qn = b.qn := rfl
@[simp] theorem Bench.cover_can : (b.cover p v).can = b.can := rfl
@[simp] theorem Bench.cover_kf : (b.cover p v).kf = b.kf := rfl
@[simp] theorem Bench.cover_dg : (b.cover p v).dg = b.dg := rfl
@[simp] theorem Bench.cover_hl : (b.cover p v).hl = b.hl := rfl
@[simp] theorem Bench.cover_nl : (b.cover p v).nl = b.nl := rfl
@[simp] theorem Bench.cover_snap : (b.cover p v).snap = b.snap := rfl
@[simp] theorem Bench.cover_snapOk : (b.cover p v).snapOk = b.snapOk := rfl
@[simp] theorem Bench.cover_dgTaps : (b.cover p v).dgTaps = b.dgTaps := rfl
@[simp] theorem Bench.cover_kfTaps : (b.cover p v).kfTaps = b.kfTaps := rfl
@[simp] theorem Bench.cover_free : (b.cover p v).free = b.free := rfl
end cover

end Sys2Proof.Machine
end

