-- ==== Sys2Proof/Laws/Frame.lean ====
section
/-!
SUPPORT. The frame of each shared operation: one lemma that says which fields it may touch, and from it one lemma for
each field that it never touches.
-/
namespace Sys2Proof.Machine

section vector
variable (b : Bench) (v : Nat)
theorem Bench.vector_only : ∃ fn qc, b.vector v = { b with fn := fn, qc := qc } := by
  unfold Bench.vector
  split
  · exact ⟨_, _, rfl⟩
  · exact ⟨_, _, rfl⟩
@[simp] theorem Bench.vector_ix : (b.vector v).ix = b.ix := by
  obtain ⟨fn, qc, h⟩ := b.vector_only v
  rw [h]
@[simp] theorem Bench.vector_bn : (b.vector v).bn = b.bn := by
  obtain ⟨fn, qc, h⟩ := b.vector_only v
  rw [h]
@[simp] theorem Bench.vector_rail : (b.vector v).rail = b.rail := by
  obtain ⟨fn, qc, h⟩ := b.vector_only v
  rw [h]
@[simp] theorem Bench.vector_ev : (b.vector v).ev = b.ev := by
  obtain ⟨fn, qc, h⟩ := b.vector_only v
  rw [h]
@[simp] theorem Bench.vector_points : (b.vector v).points = b.points := by
  obtain ⟨fn, qc, h⟩ := b.vector_only v
  rw [h]
@[simp] theorem Bench.vector_conf : (b.vector v).conf = b.conf := by
  obtain ⟨fn, qc, h⟩ := b.vector_only v
  rw [h]
@[simp] theorem Bench.vector_inst : (b.vector v).inst = b.inst := by
  obtain ⟨fn, qc, h⟩ := b.vector_only v
  rw [h]
@[simp] theorem Bench.vector_sc : (b.vector v).sc = b.sc := by
  obtain ⟨fn, qc, h⟩ := b.vector_only v
  rw [h]
@[simp] theorem Bench.vector_fq : (b.vector v).fq = b.fq := by
  obtain ⟨fn, qc, h⟩ := b.vector_only v
  rw [h]
@[simp] theorem Bench.vector_cores : (b.vector v).cores = b.cores := by
  obtain ⟨fn, qc, h⟩ := b.vector_only v
  rw [h]
@[simp] theorem Bench.vector_pe : (b.vector v).pe = b.pe := by
  obtain ⟨fn, qc, h⟩ := b.vector_only v
  rw [h]
@[simp] theorem Bench.vector_le : (b.vector v).le = b.le := by
  obtain ⟨fn, qc, h⟩ := b.vector_only v
  rw [h]
@[simp] theorem Bench.vector_gd : (b.vector v).gd = b.gd := by
  obtain ⟨fn, qc, h⟩ := b.vector_only v
  rw [h]
@[simp] theorem Bench.vector_mx : (b.vector v).mx = b.mx := by
  obtain ⟨fn, qc, h⟩ := b.vector_only v
  rw [h]
@[simp] theorem Bench.vector_rs : (b.vector v).rs = b.rs := by
  obtain ⟨fn, qc, h⟩ := b.vector_only v
  rw [h]
@[simp] theorem Bench.vector_ha : (b.vector v).ha = b.ha := by
  obtain ⟨fn, qc, h⟩ := b.vector_only v
  rw [h]
@[simp] theorem Bench.vector_fc : (b.vector v).fc = b.fc := by
  obtain ⟨fn, qc, h⟩ := b.vector_only v
  rw [h]
@[simp] theorem Bench.vector_qn : (b.vector v).qn = b.qn := by
  obtain ⟨fn, qc, h⟩ := b.vector_only v
  rw [h]
@[simp] theorem Bench.vector_can : (b.vector v).can = b.can := by
  obtain ⟨fn, qc, h⟩ := b.vector_only v
  rw [h]
@[simp] theorem Bench.vector_kf : (b.vector v).kf = b.kf := by
  obtain ⟨fn, qc, h⟩ := b.vector_only v
  rw [h]
@[simp] theorem Bench.vector_dg : (b.vector v).dg = b.dg := by
  obtain ⟨fn, qc, h⟩ := b.vector_only v
  rw [h]
@[simp] theorem Bench.vector_hl : (b.vector v).hl = b.hl := by
  obtain ⟨fn, qc, h⟩ := b.vector_only v
  rw [h]
@[simp] theorem Bench.vector_nl : (b.vector v).nl = b.nl := by
  obtain ⟨fn, qc, h⟩ := b.vector_only v
  rw [h]
@[simp] theorem Bench.vector_snap : (b.vector v).snap = b.snap := by
  obtain ⟨fn, qc, h⟩ := b.vector_only v
  rw [h]
@[simp] theorem Bench.vector_snapOk : (b.vector v).snapOk = b.snapOk := by
  obtain ⟨fn, qc, h⟩ := b.vector_only v
  rw [h]
@[simp] theorem Bench.vector_dgTaps : (b.vector v).dgTaps = b.dgTaps := by
  obtain ⟨fn, qc, h⟩ := b.vector_only v
  rw [h]
@[simp] theorem Bench.vector_kfTaps : (b.vector v).kfTaps = b.kfTaps := by
  obtain ⟨fn, qc, h⟩ := b.vector_only v
  rw [h]
@[simp] theorem Bench.vector_free : (b.vector v).free = b.free := by
  obtain ⟨fn, qc, h⟩ := b.vector_only v
  rw [h]
end vector

section qcError
variable (b : Bench) (n : Nat)
theorem Bench.qcError_only : ∃ fn qc, b.qcError n = { b with fn := fn, qc := qc } := by
  exact Bench.vector_only _ _
@[simp] theorem Bench.qcError_ix : (b.qcError n).ix = b.ix := by
  obtain ⟨fn, qc, h⟩ := b.qcError_only n
  rw [h]
@[simp] theorem Bench.qcError_bn : (b.qcError n).bn = b.bn := by
  obtain ⟨fn, qc, h⟩ := b.qcError_only n
  rw [h]
@[simp] theorem Bench.qcError_rail : (b.qcError n).rail = b.rail := by
  obtain ⟨fn, qc, h⟩ := b.qcError_only n
  rw [h]
@[simp] theorem Bench.qcError_ev : (b.qcError n).ev = b.ev := by
  obtain ⟨fn, qc, h⟩ := b.qcError_only n
  rw [h]
@[simp] theorem Bench.qcError_points : (b.qcError n).points = b.points := by
  obtain ⟨fn, qc, h⟩ := b.qcError_only n
  rw [h]
@[simp] theorem Bench.qcError_conf : (b.qcError n).conf = b.conf := by
  obtain ⟨fn, qc, h⟩ := b.qcError_only n
  rw [h]
@[simp] theorem Bench.qcError_inst : (b.qcError n).inst = b.inst := by
  obtain ⟨fn, qc, h⟩ := b.qcError_only n
  rw [h]
@[simp] theorem Bench.qcError_sc : (b.qcError n).sc = b.sc := by
  obtain ⟨fn, qc, h⟩ := b.qcError_only n
  rw [h]
@[simp] theorem Bench.qcError_fq : (b.qcError n).fq = b.fq := by
  obtain ⟨fn, qc, h⟩ := b.qcError_only n
  rw [h]
@[simp] theorem Bench.qcError_cores : (b.qcError n).cores = b.cores := by
  obtain ⟨fn, qc, h⟩ := b.qcError_only n
  rw [h]
@[simp] theorem Bench.qcError_pe : (b.qcError n).pe = b.pe := by
  obtain ⟨fn, qc, h⟩ := b.qcError_only n
  rw [h]
@[simp] theorem Bench.qcError_le : (b.qcError n).le = b.le := by
  obtain ⟨fn, qc, h⟩ := b.qcError_only n
  rw [h]
@[simp] theorem Bench.qcError_gd : (b.qcError n).gd = b.gd := by
  obtain ⟨fn, qc, h⟩ := b.qcError_only n
  rw [h]
@[simp] theorem Bench.qcError_mx : (b.qcError n).mx = b.mx := by
  obtain ⟨fn, qc, h⟩ := b.qcError_only n
  rw [h]
@[simp] theorem Bench.qcError_rs : (b.qcError n).rs = b.rs := by
  obtain ⟨fn, qc, h⟩ := b.qcError_only n
  rw [h]
@[simp] theorem Bench.qcError_ha : (b.qcError n).ha = b.ha := by
  obtain ⟨fn, qc, h⟩ := b.qcError_only n
  rw [h]
@[simp] theorem Bench.qcError_fc : (b.qcError n).fc = b.fc := by
  obtain ⟨fn, qc, h⟩ := b.qcError_only n
  rw [h]
@[simp] theorem Bench.qcError_qn : (b.qcError n).qn = b.qn := by
  obtain ⟨fn, qc, h⟩ := b.qcError_only n
  rw [h]
@[simp] theorem Bench.qcError_can : (b.qcError n).can = b.can := by
  obtain ⟨fn, qc, h⟩ := b.qcError_only n
  rw [h]
@[simp] theorem Bench.qcError_kf : (b.qcError n).kf = b.kf := by
  obtain ⟨fn, qc, h⟩ := b.qcError_only n
  rw [h]
@[simp] theorem Bench.qcError_dg : (b.qcError n).dg = b.dg := by
  obtain ⟨fn, qc, h⟩ := b.qcError_only n
  rw [h]
@[simp] theorem Bench.qcError_hl : (b.qcError n).hl = b.hl := by
  obtain ⟨fn, qc, h⟩ := b.qcError_only n
  rw [h]
@[simp] theorem Bench.qcError_nl : (b.qcError n).nl = b.nl := by
  obtain ⟨fn, qc, h⟩ := b.qcError_only n
  rw [h]
@[simp] theorem Bench.qcError_snap : (b.qcError n).snap = b.snap := by
  obtain ⟨fn, qc, h⟩ := b.qcError_only n
  rw [h]
@[simp] theorem Bench.qcError_snapOk : (b.qcError n).snapOk = b.snapOk := by
  obtain ⟨fn, qc, h⟩ := b.qcError_only n
  rw [h]
@[simp] theorem Bench.qcError_dgTaps : (b.qcError n).dgTaps = b.dgTaps := by
  obtain ⟨fn, qc, h⟩ := b.qcError_only n
  rw [h]
@[simp] theorem Bench.qcError_kfTaps : (b.qcError n).kfTaps = b.kfTaps := by
  obtain ⟨fn, qc, h⟩ := b.qcError_only n
  rw [h]
@[simp] theorem Bench.qcError_free : (b.qcError n).free = b.free := by
  obtain ⟨fn, qc, h⟩ := b.qcError_only n
  rw [h]
end qcError

section counted
variable (b : Bench) (q : Fin 4) (v : Nat)
theorem Bench.counted_only : ∃ fn qc, b.counted q v = { b with fn := fn, qc := qc } := by
  unfold Bench.counted
  lift_lets
  intro x y
  split
  · obtain ⟨fn, qc, h⟩ := Bench.vector_only (b.setQueue q fun _ => { y with counted := 0 }) v
    exact ⟨fn, qc, h⟩
  · exact ⟨_, _, rfl⟩
@[simp] theorem Bench.counted_ix : (b.counted q v).ix = b.ix := by
  obtain ⟨fn, qc, h⟩ := b.counted_only q v
  rw [h]
@[simp] theorem Bench.counted_bn : (b.counted q v).bn = b.bn := by
  obtain ⟨fn, qc, h⟩ := b.counted_only q v
  rw [h]
@[simp] theorem Bench.counted_rail : (b.counted q v).rail = b.rail := by
  obtain ⟨fn, qc, h⟩ := b.counted_only q v
  rw [h]
@[simp] theorem Bench.counted_ev : (b.counted q v).ev = b.ev := by
  obtain ⟨fn, qc, h⟩ := b.counted_only q v
  rw [h]
@[simp] theorem Bench.counted_points : (b.counted q v).points = b.points := by
  obtain ⟨fn, qc, h⟩ := b.counted_only q v
  rw [h]
@[simp] theorem Bench.counted_conf : (b.counted q v).conf = b.conf := by
  obtain ⟨fn, qc, h⟩ := b.counted_only q v
  rw [h]
@[simp] theorem Bench.counted_inst : (b.counted q v).inst = b.inst := by
  obtain ⟨fn, qc, h⟩ := b.counted_only q v
  rw [h]
@[simp] theorem Bench.counted_sc : (b.counted q v).sc = b.sc := by
  obtain ⟨fn, qc, h⟩ := b.counted_only q v
  rw [h]
@[simp] theorem Bench.counted_fq : (b.counted q v).fq = b.fq := by
  obtain ⟨fn, qc, h⟩ := b.counted_only q v
  rw [h]
@[simp] theorem Bench.counted_cores : (b.counted q v).cores = b.cores := by
  obtain ⟨fn, qc, h⟩ := b.counted_only q v
  rw [h]
@[simp] theorem Bench.counted_pe : (b.counted q v).pe = b.pe := by
  obtain ⟨fn, qc, h⟩ := b.counted_only q v
  rw [h]
@[simp] theorem Bench.counted_le : (b.counted q v).le = b.le := by
  obtain ⟨fn, qc, h⟩ := b.counted_only q v
  rw [h]
@[simp] theorem Bench.counted_gd : (b.counted q v).gd = b.gd := by
  obtain ⟨fn, qc, h⟩ := b.counted_only q v
  rw [h]
@[simp] theorem Bench.counted_mx : (b.counted q v).mx = b.mx := by
  obtain ⟨fn, qc, h⟩ := b.counted_only q v
  rw [h]
@[simp] theorem Bench.counted_rs : (b.counted q v).rs = b.rs := by
  obtain ⟨fn, qc, h⟩ := b.counted_only q v
  rw [h]
@[simp] theorem Bench.counted_ha : (b.counted q v).ha = b.ha := by
  obtain ⟨fn, qc, h⟩ := b.counted_only q v
  rw [h]
@[simp] theorem Bench.counted_fc : (b.counted q v).fc = b.fc := by
  obtain ⟨fn, qc, h⟩ := b.counted_only q v
  rw [h]
@[simp] theorem Bench.counted_qn : (b.counted q v).qn = b.qn := by
  obtain ⟨fn, qc, h⟩ := b.counted_only q v
  rw [h]
@[simp] theorem Bench.counted_can : (b.counted q v).can = b.can := by
  obtain ⟨fn, qc, h⟩ := b.counted_only q v
  rw [h]
@[simp] theorem Bench.counted_kf : (b.counted q v).kf = b.kf := by
  obtain ⟨fn, qc, h⟩ := b.counted_only q v
  rw [h]
@[simp] theorem Bench.counted_dg : (b.counted q v).dg = b.dg := by
  obtain ⟨fn, qc, h⟩ := b.counted_only q v
  rw [h]
@[simp] theorem Bench.counted_hl : (b.counted q v).hl = b.hl := by
  obtain ⟨fn, qc, h⟩ := b.counted_only q v
  rw [h]
@[simp] theorem Bench.counted_nl : (b.counted q v).nl = b.nl := by
  obtain ⟨fn, qc, h⟩ := b.counted_only q v
  rw [h]
@[simp] theorem Bench.counted_snap : (b.counted q v).snap = b.snap := by
  obtain ⟨fn, qc, h⟩ := b.counted_only q v
  rw [h]
@[simp] theorem Bench.counted_snapOk : (b.counted q v).snapOk = b.snapOk := by
  obtain ⟨fn, qc, h⟩ := b.counted_only q v
  rw [h]
@[simp] theorem Bench.counted_dgTaps : (b.counted q v).dgTaps = b.dgTaps := by
  obtain ⟨fn, qc, h⟩ := b.counted_only q v
  rw [h]
@[simp] theorem Bench.counted_kfTaps : (b.counted q v).kfTaps = b.kfTaps := by
  obtain ⟨fn, qc, h⟩ := b.counted_only q v
  rw [h]
@[simp] theorem Bench.counted_free : (b.counted q v).free = b.free := by
  obtain ⟨fn, qc, h⟩ := b.counted_only q v
  rw [h]
end counted

section event
variable (b : Bench) (src : Nat) (d0 d1 d2 : Word)
theorem Bench.event_only : ∃ fn qc, b.event src d0 d1 d2 = { b with fn := fn, qc := qc } := by
  unfold Bench.event
  lift_lets
  intro q
  split
  · exact Bench.counted_only _ 3 3
  · exact Bench.qcError_only _ 2
@[simp] theorem Bench.event_ix : (b.event src d0 d1 d2).ix = b.ix := by
  obtain ⟨fn, qc, h⟩ := b.event_only src d0 d1 d2
  rw [h]
@[simp] theorem Bench.event_bn : (b.event src d0 d1 d2).bn = b.bn := by
  obtain ⟨fn, qc, h⟩ := b.event_only src d0 d1 d2
  rw [h]
@[simp] theorem Bench.event_rail : (b.event src d0 d1 d2).rail = b.rail := by
  obtain ⟨fn, qc, h⟩ := b.event_only src d0 d1 d2
  rw [h]
@[simp] theorem Bench.event_ev : (b.event src d0 d1 d2).ev = b.ev := by
  obtain ⟨fn, qc, h⟩ := b.event_only src d0 d1 d2
  rw [h]
@[simp] theorem Bench.event_points : (b.event src d0 d1 d2).points = b.points := by
  obtain ⟨fn, qc, h⟩ := b.event_only src d0 d1 d2
  rw [h]
@[simp] theorem Bench.event_conf : (b.event src d0 d1 d2).conf = b.conf := by
  obtain ⟨fn, qc, h⟩ := b.event_only src d0 d1 d2
  rw [h]
@[simp] theorem Bench.event_inst : (b.event src d0 d1 d2).inst = b.inst := by
  obtain ⟨fn, qc, h⟩ := b.event_only src d0 d1 d2
  rw [h]
@[simp] theorem Bench.event_sc : (b.event src d0 d1 d2).sc = b.sc := by
  obtain ⟨fn, qc, h⟩ := b.event_only src d0 d1 d2
  rw [h]
@[simp] theorem Bench.event_fq : (b.event src d0 d1 d2).fq = b.fq := by
  obtain ⟨fn, qc, h⟩ := b.event_only src d0 d1 d2
  rw [h]
@[simp] theorem Bench.event_cores : (b.event src d0 d1 d2).cores = b.cores := by
  obtain ⟨fn, qc, h⟩ := b.event_only src d0 d1 d2
  rw [h]
@[simp] theorem Bench.event_pe : (b.event src d0 d1 d2).pe = b.pe := by
  obtain ⟨fn, qc, h⟩ := b.event_only src d0 d1 d2
  rw [h]
@[simp] theorem Bench.event_le : (b.event src d0 d1 d2).le = b.le := by
  obtain ⟨fn, qc, h⟩ := b.event_only src d0 d1 d2
  rw [h]
@[simp] theorem Bench.event_gd : (b.event src d0 d1 d2).gd = b.gd := by
  obtain ⟨fn, qc, h⟩ := b.event_only src d0 d1 d2
  rw [h]
@[simp] theorem Bench.event_mx : (b.event src d0 d1 d2).mx = b.mx := by
  obtain ⟨fn, qc, h⟩ := b.event_only src d0 d1 d2
  rw [h]
@[simp] theorem Bench.event_rs : (b.event src d0 d1 d2).rs = b.rs := by
  obtain ⟨fn, qc, h⟩ := b.event_only src d0 d1 d2
  rw [h]
@[simp] theorem Bench.event_ha : (b.event src d0 d1 d2).ha = b.ha := by
  obtain ⟨fn, qc, h⟩ := b.event_only src d0 d1 d2
  rw [h]
@[simp] theorem Bench.event_fc : (b.event src d0 d1 d2).fc = b.fc := by
  obtain ⟨fn, qc, h⟩ := b.event_only src d0 d1 d2
  rw [h]
@[simp] theorem Bench.event_qn : (b.event src d0 d1 d2).qn = b.qn := by
  obtain ⟨fn, qc, h⟩ := b.event_only src d0 d1 d2
  rw [h]
@[simp] theorem Bench.event_can : (b.event src d0 d1 d2).can = b.can := by
  obtain ⟨fn, qc, h⟩ := b.event_only src d0 d1 d2
  rw [h]
@[simp] theorem Bench.event_kf : (b.event src d0 d1 d2).kf = b.kf := by
  obtain ⟨fn, qc, h⟩ := b.event_only src d0 d1 d2
  rw [h]
@[simp] theorem Bench.event_dg : (b.event src d0 d1 d2).dg = b.dg := by
  obtain ⟨fn, qc, h⟩ := b.event_only src d0 d1 d2
  rw [h]
@[simp] theorem Bench.event_hl : (b.event src d0 d1 d2).hl = b.hl := by
  obtain ⟨fn, qc, h⟩ := b.event_only src d0 d1 d2
  rw [h]
@[simp] theorem Bench.event_nl : (b.event src d0 d1 d2).nl = b.nl := by
  obtain ⟨fn, qc, h⟩ := b.event_only src d0 d1 d2
  rw [h]
@[simp] theorem Bench.event_snap : (b.event src d0 d1 d2).snap = b.snap := by
  obtain ⟨fn, qc, h⟩ := b.event_only src d0 d1 d2
  rw [h]
@[simp] theorem Bench.event_snapOk : (b.event src d0 d1 d2).snapOk = b.snapOk := by
  obtain ⟨fn, qc, h⟩ := b.event_only src d0 d1 d2
  rw [h]
@[simp] theorem Bench.event_dgTaps : (b.event src d0 d1 d2).dgTaps = b.dgTaps := by
  obtain ⟨fn, qc, h⟩ := b.event_only src d0 d1 d2
  rw [h]
@[simp] theorem Bench.event_kfTaps : (b.event src d0 d1 d2).kfTaps = b.kfTaps := by
  obtain ⟨fn, qc, h⟩ := b.event_only src d0 d1 d2
  rw [h]
@[simp] theorem Bench.event_free : (b.event src d0 d1 d2).free = b.free := by
  obtain ⟨fn, qc, h⟩ := b.event_only src d0 d1 d2
  rw [h]
end event

section raise
variable (b : Bench) (k : Fin 18) (n : Nat) (d0 d1 d2 : Word)
theorem Bench.raise_only : ∃ fn qc ev, b.raise k n d0 d1 d2 = { b with fn := fn, qc := qc, ev := ev } := by
  obtain ⟨fn, qc, h⟩ := Bench.event_only { b with ev := upd b.ev k fun w => putBit w n true } (256 * k.val + n) d0 d1 d2
  exact ⟨fn, qc, _, h⟩
@[simp] theorem Bench.raise_ix : (b.raise k n d0 d1 d2).ix = b.ix := by
  obtain ⟨fn, qc, ev, h⟩ := b.raise_only k n d0 d1 d2
  rw [h]
@[simp] theorem Bench.raise_bn : (b.raise k n d0 d1 d2).bn = b.bn := by
  obtain ⟨fn, qc, ev, h⟩ := b.raise_only k n d0 d1 d2
  rw [h]
@[simp] theorem Bench.raise_rail : (b.raise k n d0 d1 d2).rail = b.rail := by
  obtain ⟨fn, qc, ev, h⟩ := b.raise_only k n d0 d1 d2
  rw [h]
@[simp] theorem Bench.raise_points : (b.raise k n d0 d1 d2).points = b.points := by
  obtain ⟨fn, qc, ev, h⟩ := b.raise_only k n d0 d1 d2
  rw [h]
@[simp] theorem Bench.raise_conf : (b.raise k n d0 d1 d2).conf = b.conf := by
  obtain ⟨fn, qc, ev, h⟩ := b.raise_only k n d0 d1 d2
  rw [h]
@[simp] theorem Bench.raise_inst : (b.raise k n d0 d1 d2).inst = b.inst := by
  obtain ⟨fn, qc, ev, h⟩ := b.raise_only k n d0 d1 d2
  rw [h]
@[simp] theorem Bench.raise_sc : (b.raise k n d0 d1 d2).sc = b.sc := by
  obtain ⟨fn, qc, ev, h⟩ := b.raise_only k n d0 d1 d2
  rw [h]
@[simp] theorem Bench.raise_fq : (b.raise k n d0 d1 d2).fq = b.fq := by
  obtain ⟨fn, qc, ev, h⟩ := b.raise_only k n d0 d1 d2
  rw [h]
@[simp] theorem Bench.raise_cores : (b.raise k n d0 d1 d2).cores = b.cores := by
  obtain ⟨fn, qc, ev, h⟩ := b.raise_only k n d0 d1 d2
  rw [h]
@[simp] theorem Bench.raise_pe : (b.raise k n d0 d1 d2).pe = b.pe := by
  obtain ⟨fn, qc, ev, h⟩ := b.raise_only k n d0 d1 d2
  rw [h]
@[simp] theorem Bench.raise_le : (b.raise k n d0 d1 d2).le = b.le := by
  obtain ⟨fn, qc, ev, h⟩ := b.raise_only k n d0 d1 d2
  rw [h]
@[simp] theorem Bench.raise_gd : (b.raise k n d0 d1 d2).gd = b.gd := by
  obtain ⟨fn, qc, ev, h⟩ := b.raise_only k n d0 d1 d2
  rw [h]
@[simp] theorem Bench.raise_mx : (b.raise k n d0 d1 d2).mx = b.mx := by
  obtain ⟨fn, qc, ev, h⟩ := b.raise_only k n d0 d1 d2
  rw [h]
@[simp] theorem Bench.raise_rs : (b.raise k n d0 d1 d2).rs = b.rs := by
  obtain ⟨fn, qc, ev, h⟩ := b.raise_only k n d0 d1 d2
  rw [h]
@[simp] theorem Bench.raise_ha : (b.raise k n d0 d1 d2).ha = b.ha := by
  obtain ⟨fn, qc, ev, h⟩ := b.raise_only k n d0 d1 d2
  rw [h]
@[simp] theorem Bench.raise_fc : (b.raise k n d0 d1 d2).fc = b.fc := by
  obtain ⟨fn, qc, ev, h⟩ := b.raise_only k n d0 d1 d2
  rw [h]
@[simp] theorem Bench.raise_qn : (b.raise k n d0 d1 d2).qn = b.qn := by
  obtain ⟨fn, qc, ev, h⟩ := b.raise_only k n d0 d1 d2
  rw [h]
@[simp] theorem Bench.raise_can : (b.raise k n d0 d1 d2).can = b.can := by
  obtain ⟨fn, qc, ev, h⟩ := b.raise_only k n d0 d1 d2
  rw [h]
@[simp] theorem Bench.raise_kf : (b.raise k n d0 d1 d2).kf = b.kf := by
  obtain ⟨fn, qc, ev, h⟩ := b.raise_only k n d0 d1 d2
  rw [h]
@[simp] theorem Bench.raise_dg : (b.raise k n d0 d1 d2).dg = b.dg := by
  obtain ⟨fn, qc, ev, h⟩ := b.raise_only k n d0 d1 d2
  rw [h]
@[simp] theorem Bench.raise_hl : (b.raise k n d0 d1 d2).hl = b.hl := by
  obtain ⟨fn, qc, ev, h⟩ := b.raise_only k n d0 d1 d2
  rw [h]
@[simp] theorem Bench.raise_nl : (b.raise k n d0 d1 d2).nl = b.nl := by
  obtain ⟨fn, qc, ev, h⟩ := b.raise_only k n d0 d1 d2
  rw [h]
@[simp] theorem Bench.raise_snap : (b.raise k n d0 d1 d2).snap = b.snap := by
  obtain ⟨fn, qc, ev, h⟩ := b.raise_only k n d0 d1 d2
  rw [h]
@[simp] theorem Bench.raise_snapOk : (b.raise k n d0 d1 d2).snapOk = b.snapOk := by
  obtain ⟨fn, qc, ev, h⟩ := b.raise_only k n d0 d1 d2
  rw [h]
@[simp] theorem Bench.raise_dgTaps : (b.raise k n d0 d1 d2).dgTaps = b.dgTaps := by
  obtain ⟨fn, qc, ev, h⟩ := b.raise_only k n d0 d1 d2
  rw [h]
@[simp] theorem Bench.raise_kfTaps : (b.raise k n d0 d1 d2).kfTaps = b.kfTaps := by
  obtain ⟨fn, qc, ev, h⟩ := b.raise_only k n d0 d1 d2
  rw [h]
@[simp] theorem Bench.raise_free : (b.raise k n d0 d1 d2).free = b.free := by
  obtain ⟨fn, qc, ev, h⟩ := b.raise_only k n d0 d1 d2
  rw [h]
end raise

section postCompletion
variable (b : Bench) (tag : BitVec 16) (q : Bool) (st : Status) (r : Nat)
theorem Bench.postCompletion_only : ∃ fn qc, b.postCompletion tag q st r = { b with fn := fn, qc := qc } := by
  unfold Bench.postCompletion
  lift_lets
  intro c
  split
  · split
    · exact ⟨_, _, rfl⟩
    · exact Bench.counted_only _ 1 1
  · exact Bench.qcError_only _ 3
@[simp] theorem Bench.postCompletion_ix : (b.postCompletion tag q st r).ix = b.ix := by
  obtain ⟨fn, qc, h⟩ := b.postCompletion_only tag q st r
  rw [h]
@[simp] theorem Bench.postCompletion_bn : (b.postCompletion tag q st r).bn = b.bn := by
  obtain ⟨fn, qc, h⟩ := b.postCompletion_only tag q st r
  rw [h]
@[simp] theorem Bench.postCompletion_rail : (b.postCompletion tag q st r).rail = b.rail := by
  obtain ⟨fn, qc, h⟩ := b.postCompletion_only tag q st r
  rw [h]
@[simp] theorem Bench.postCompletion_ev : (b.postCompletion tag q st r).ev = b.ev := by
  obtain ⟨fn, qc, h⟩ := b.postCompletion_only tag q st r
  rw [h]
@[simp] theorem Bench.postCompletion_points : (b.postCompletion tag q st r).points = b.points := by
  obtain ⟨fn, qc, h⟩ := b.postCompletion_only tag q st r
  rw [h]
@[simp] theorem Bench.postCompletion_conf : (b.postCompletion tag q st r).conf = b.conf := by
  obtain ⟨fn, qc, h⟩ := b.postCompletion_only tag q st r
  rw [h]
@[simp] theorem Bench.postCompletion_inst : (b.postCompletion tag q st r).inst = b.inst := by
  obtain ⟨fn, qc, h⟩ := b.postCompletion_only tag q st r
  rw [h]
@[simp] theorem Bench.postCompletion_sc : (b.postCompletion tag q st r).sc = b.sc := by
  obtain ⟨fn, qc, h⟩ := b.postCompletion_only tag q st r
  rw [h]
@[simp] theorem Bench.postCompletion_fq : (b.postCompletion tag q st r).fq = b.fq := by
  obtain ⟨fn, qc, h⟩ := b.postCompletion_only tag q st r
  rw [h]
@[simp] theorem Bench.postCompletion_cores : (b.postCompletion tag q st r).cores = b.cores := by
  obtain ⟨fn, qc, h⟩ := b.postCompletion_only tag q st r
  rw [h]
@[simp] theorem Bench.postCompletion_pe : (b.postCompletion tag q st r).pe = b.pe := by
  obtain ⟨fn, qc, h⟩ := b.postCompletion_only tag q st r
  rw [h]
@[simp] theorem Bench.postCompletion_le : (b.postCompletion tag q st r).le = b.le := by
  obtain ⟨fn, qc, h⟩ := b.postCompletion_only tag q st r
  rw [h]
@[simp] theorem Bench.postCompletion_gd : (b.postCompletion tag q st r).gd = b.gd := by
  obtain ⟨fn, qc, h⟩ := b.postCompletion_only tag q st r
  rw [h]
@[simp] theorem Bench.postCompletion_mx : (b.postCompletion tag q st r).mx = b.mx := by
  obtain ⟨fn, qc, h⟩ := b.postCompletion_only tag q st r
  rw [h]
@[simp] theorem Bench.postCompletion_rs : (b.postCompletion tag q st r).rs = b.rs := by
  obtain ⟨fn, qc, h⟩ := b.postCompletion_only tag q st r
  rw [h]
@[simp] theorem Bench.postCompletion_ha : (b.postCompletion tag q st r).ha = b.ha := by
  obtain ⟨fn, qc, h⟩ := b.postCompletion_only tag q st r
  rw [h]
@[simp] theorem Bench.postCompletion_fc : (b.postCompletion tag q st r).fc = b.fc := by
  obtain ⟨fn, qc, h⟩ := b.postCompletion_only tag q st r
  rw [h]
@[simp] theorem Bench.postCompletion_qn : (b.postCompletion tag q st r).qn = b.qn := by
  obtain ⟨fn, qc, h⟩ := b.postCompletion_only tag q st r
  rw [h]
@[simp] theorem Bench.postCompletion_can : (b.postCompletion tag q st r).can = b.can := by
  obtain ⟨fn, qc, h⟩ := b.postCompletion_only tag q st r
  rw [h]
@[simp] theorem Bench.postCompletion_kf : (b.postCompletion tag q st r).kf = b.kf := by
  obtain ⟨fn, qc, h⟩ := b.postCompletion_only tag q st r
  rw [h]
@[simp] theorem Bench.postCompletion_dg : (b.postCompletion tag q st r).dg = b.dg := by
  obtain ⟨fn, qc, h⟩ := b.postCompletion_only tag q st r
  rw [h]
@[simp] theorem Bench.postCompletion_hl : (b.postCompletion tag q st r).hl = b.hl := by
  obtain ⟨fn, qc, h⟩ := b.postCompletion_only tag q st r
  rw [h]
@[simp] theorem Bench.postCompletion_nl : (b.postCompletion tag q st r).nl = b.nl := by
  obtain ⟨fn, qc, h⟩ := b.postCompletion_only tag q st r
  rw [h]
@[simp] theorem Bench.postCompletion_snap : (b.postCompletion tag q st r).snap = b.snap := by
  obtain ⟨fn, qc, h⟩ := b.postCompletion_only tag q st r
  rw [h]
@[simp] theorem Bench.postCompletion_snapOk : (b.postCompletion tag q st r).snapOk = b.snapOk := by
  obtain ⟨fn, qc, h⟩ := b.postCompletion_only tag q st r
  rw [h]
@[simp] theorem Bench.postCompletion_dgTaps : (b.postCompletion tag q st r).dgTaps = b.dgTaps := by
  obtain ⟨fn, qc, h⟩ := b.postCompletion_only tag q st r
  rw [h]
@[simp] theorem Bench.postCompletion_kfTaps : (b.postCompletion tag q st r).kfTaps = b.kfTaps := by
  obtain ⟨fn, qc, h⟩ := b.postCompletion_only tag q st r
  rw [h]
@[simp] theorem Bench.postCompletion_free : (b.postCompletion tag q st r).free = b.free := by
  obtain ⟨fn, qc, h⟩ := b.postCompletion_only tag q st r
  rw [h]
end postCompletion

section completeTag
variable (b : Bench) (tag : BitVec 16) (q : Bool) (st : Status) (r : Nat)
theorem Bench.completeTag_only : ∃ fn qc, b.completeTag tag q st r = { b with fn := fn, qc := qc } := by
  unfold Bench.completeTag
  split
  · split
    · exact ⟨_, _, rfl⟩
    · exact Bench.postCompletion_only (b.dropTag tag) tag q st r
  · exact Bench.postCompletion_only b tag q st r
@[simp] theorem Bench.completeTag_ix : (b.completeTag tag q st r).ix = b.ix := by
  obtain ⟨fn, qc, h⟩ := b.completeTag_only tag q st r
  rw [h]
@[simp] theorem Bench.completeTag_bn : (b.completeTag tag q st r).bn = b.bn := by
  obtain ⟨fn, qc, h⟩ := b.completeTag_only tag q st r
  rw [h]
@[simp] theorem Bench.completeTag_rail : (b.completeTag tag q st r).rail = b.rail := by
  obtain ⟨fn, qc, h⟩ := b.completeTag_only tag q st r
  rw [h]
@[simp] theorem Bench.completeTag_ev : (b.completeTag tag q st r).ev = b.ev := by
  obtain ⟨fn, qc, h⟩ := b.completeTag_only tag q st r
  rw [h]
@[simp] theorem Bench.completeTag_points : (b.completeTag tag q st r).points = b.points := by
  obtain ⟨fn, qc, h⟩ := b.completeTag_only tag q st r
  rw [h]
@[simp] theorem Bench.completeTag_conf : (b.completeTag tag q st r).conf = b.conf := by
  obtain ⟨fn, qc, h⟩ := b.completeTag_only tag q st r
  rw [h]
@[simp] theorem Bench.completeTag_inst : (b.completeTag tag q st r).inst = b.inst := by
  obtain ⟨fn, qc, h⟩ := b.completeTag_only tag q st r
  rw [h]
@[simp] theorem Bench.completeTag_sc : (b.completeTag tag q st r).sc = b.sc := by
  obtain ⟨fn, qc, h⟩ := b.completeTag_only tag q st r
  rw [h]
@[simp] theorem Bench.completeTag_fq : (b.completeTag tag q st r).fq = b.fq := by
  obtain ⟨fn, qc, h⟩ := b.completeTag_only tag q st r
  rw [h]
@[simp] theorem Bench.completeTag_cores : (b.completeTag tag q st r).cores = b.cores := by
  obtain ⟨fn, qc, h⟩ := b.completeTag_only tag q st r
  rw [h]
@[simp] theorem Bench.completeTag_pe : (b.completeTag tag q st r).pe = b.pe := by
  obtain ⟨fn, qc, h⟩ := b.completeTag_only tag q st r
  rw [h]
@[simp] theorem Bench.completeTag_le : (b.completeTag tag q st r).le = b.le := by
  obtain ⟨fn, qc, h⟩ := b.completeTag_only tag q st r
  rw [h]
@[simp] theorem Bench.completeTag_gd : (b.completeTag tag q st r).gd = b.gd := by
  obtain ⟨fn, qc, h⟩ := b.completeTag_only tag q st r
  rw [h]
@[simp] theorem Bench.completeTag_mx : (b.completeTag tag q st r).mx = b.mx := by
  obtain ⟨fn, qc, h⟩ := b.completeTag_only tag q st r
  rw [h]
@[simp] theorem Bench.completeTag_rs : (b.completeTag tag q st r).rs = b.rs := by
  obtain ⟨fn, qc, h⟩ := b.completeTag_only tag q st r
  rw [h]
@[simp] theorem Bench.completeTag_ha : (b.completeTag tag q st r).ha = b.ha := by
  obtain ⟨fn, qc, h⟩ := b.completeTag_only tag q st r
  rw [h]
@[simp] theorem Bench.completeTag_fc : (b.completeTag tag q st r).fc = b.fc := by
  obtain ⟨fn, qc, h⟩ := b.completeTag_only tag q st r
  rw [h]
@[simp] theorem Bench.completeTag_qn : (b.completeTag tag q st r).qn = b.qn := by
  obtain ⟨fn, qc, h⟩ := b.completeTag_only tag q st r
  rw [h]
@[simp] theorem Bench.completeTag_can : (b.completeTag tag q st r).can = b.can := by
  obtain ⟨fn, qc, h⟩ := b.completeTag_only tag q st r
  rw [h]
@[simp] theorem Bench.completeTag_kf : (b.completeTag tag q st r).kf = b.kf := by
  obtain ⟨fn, qc, h⟩ := b.completeTag_only tag q st r
  rw [h]
@[simp] theorem Bench.completeTag_dg : (b.completeTag tag q st r).dg = b.dg := by
  obtain ⟨fn, qc, h⟩ := b.completeTag_only tag q st r
  rw [h]
@[simp] theorem Bench.completeTag_hl : (b.completeTag tag q st r).hl = b.hl := by
  obtain ⟨fn, qc, h⟩ := b.completeTag_only tag q st r
  rw [h]
@[simp] theorem Bench.completeTag_nl : (b.completeTag tag q st r).nl = b.nl := by
  obtain ⟨fn, qc, h⟩ := b.completeTag_only tag q st r
  rw [h]
@[simp] theorem Bench.completeTag_snap : (b.completeTag tag q st r).snap = b.snap := by
  obtain ⟨fn, qc, h⟩ := b.completeTag_only tag q st r
  rw [h]
@[simp] theorem Bench.completeTag_snapOk : (b.completeTag tag q st r).snapOk = b.snapOk := by
  obtain ⟨fn, qc, h⟩ := b.completeTag_only tag q st r
  rw [h]
@[simp] theorem Bench.completeTag_dgTaps : (b.completeTag tag q st r).dgTaps = b.dgTaps := by
  obtain ⟨fn, qc, h⟩ := b.completeTag_only tag q st r
  rw [h]
@[simp] theorem Bench.completeTag_kfTaps : (b.completeTag tag q st r).kfTaps = b.kfTaps := by
  obtain ⟨fn, qc, h⟩ := b.completeTag_only tag q st r
  rw [h]
@[simp] theorem Bench.completeTag_free : (b.completeTag tag q st r).free = b.free := by
  obtain ⟨fn, qc, h⟩ := b.completeTag_only tag q st r
  rw [h]
end completeTag

section complete
variable (b : Bench) (c : Cmd) (st : Status) (r : Nat)
theorem Bench.complete_only : ∃ fn qc, b.complete c st r = { b with fn := fn, qc := qc } := by
  exact Bench.completeTag_only b c.tag c.noirq st r
@[simp] theorem Bench.complete_ix : (b.complete c st r).ix = b.ix := by
  obtain ⟨fn, qc, h⟩ := b.complete_only c st r
  rw [h]
@[simp] theorem Bench.complete_bn : (b.complete c st r).bn = b.bn := by
  obtain ⟨fn, qc, h⟩ := b.complete_only c st r
  rw [h]
@[simp] theorem Bench.complete_rail : (b.complete c st r).rail = b.rail := by
  obtain ⟨fn, qc, h⟩ := b.complete_only c st r
  rw [h]
@[simp] theorem Bench.complete_ev : (b.complete c st r).ev = b.ev := by
  obtain ⟨fn, qc, h⟩ := b.complete_only c st r
  rw [h]
@[simp] theorem Bench.complete_points : (b.complete c st r).points = b.points := by
  obtain ⟨fn, qc, h⟩ := b.complete_only c st r
  rw [h]
@[simp] theorem Bench.complete_conf : (b.complete c st r).conf = b.conf := by
  obtain ⟨fn, qc, h⟩ := b.complete_only c st r
  rw [h]
@[simp] theorem Bench.complete_inst : (b.complete c st r).inst = b.inst := by
  obtain ⟨fn, qc, h⟩ := b.complete_only c st r
  rw [h]
@[simp] theorem Bench.complete_sc : (b.complete c st r).sc = b.sc := by
  obtain ⟨fn, qc, h⟩ := b.complete_only c st r
  rw [h]
@[simp] theorem Bench.complete_fq : (b.complete c st r).fq = b.fq := by
  obtain ⟨fn, qc, h⟩ := b.complete_only c st r
  rw [h]
@[simp] theorem Bench.complete_cores : (b.complete c st r).cores = b.cores := by
  obtain ⟨fn, qc, h⟩ := b.complete_only c st r
  rw [h]
@[simp] theorem Bench.complete_pe : (b.complete c st r).pe = b.pe := by
  obtain ⟨fn, qc, h⟩ := b.complete_only c st r
  rw [h]
@[simp] theorem Bench.complete_le : (b.complete c st r).le = b.le := by
  obtain ⟨fn, qc, h⟩ := b.complete_only c st r
  rw [h]
@[simp] theorem Bench.complete_gd : (b.complete c st r).gd = b.gd := by
  obtain ⟨fn, qc, h⟩ := b.complete_only c st r
  rw [h]
@[simp] theorem Bench.complete_mx : (b.complete c st r).mx = b.mx := by
  obtain ⟨fn, qc, h⟩ := b.complete_only c st r
  rw [h]
@[simp] theorem Bench.complete_rs : (b.complete c st r).rs = b.rs := by
  obtain ⟨fn, qc, h⟩ := b.complete_only c st r
  rw [h]
@[simp] theorem Bench.complete_ha : (b.complete c st r).ha = b.ha := by
  obtain ⟨fn, qc, h⟩ := b.complete_only c st r
  rw [h]
@[simp] theorem Bench.complete_fc : (b.complete c st r).fc = b.fc := by
  obtain ⟨fn, qc, h⟩ := b.complete_only c st r
  rw [h]
@[simp] theorem Bench.complete_qn : (b.complete c st r).qn = b.qn := by
  obtain ⟨fn, qc, h⟩ := b.complete_only c st r
  rw [h]
@[simp] theorem Bench.complete_can : (b.complete c st r).can = b.can := by
  obtain ⟨fn, qc, h⟩ := b.complete_only c st r
  rw [h]
@[simp] theorem Bench.complete_kf : (b.complete c st r).kf = b.kf := by
  obtain ⟨fn, qc, h⟩ := b.complete_only c st r
  rw [h]
@[simp] theorem Bench.complete_dg : (b.complete c st r).dg = b.dg := by
  obtain ⟨fn, qc, h⟩ := b.complete_only c st r
  rw [h]
@[simp] theorem Bench.complete_hl : (b.complete c st r).hl = b.hl := by
  obtain ⟨fn, qc, h⟩ := b.complete_only c st r
  rw [h]
@[simp] theorem Bench.complete_nl : (b.complete c st r).nl = b.nl := by
  obtain ⟨fn, qc, h⟩ := b.complete_only c st r
  rw [h]
@[simp] theorem Bench.complete_snap : (b.complete c st r).snap = b.snap := by
  obtain ⟨fn, qc, h⟩ := b.complete_only c st r
  rw [h]
@[simp] theorem Bench.complete_snapOk : (b.complete c st r).snapOk = b.snapOk := by
  obtain ⟨fn, qc, h⟩ := b.complete_only c st r
  rw [h]
@[simp] theorem Bench.complete_dgTaps : (b.complete c st r).dgTaps = b.dgTaps := by
  obtain ⟨fn, qc, h⟩ := b.complete_only c st r
  rw [h]
@[simp] theorem Bench.complete_kfTaps : (b.complete c st r).kfTaps = b.kfTaps := by
  obtain ⟨fn, qc, h⟩ := b.complete_only c st r
  rw [h]
@[simp] theorem Bench.complete_free : (b.complete c st r).free = b.free := by
  obtain ⟨fn, qc, h⟩ := b.complete_only c st r
  rw [h]
end complete

section refuse
variable (b : Bench) (c : Cmd) (st : Status)
theorem Bench.refuse_only : ∃ fn qc, b.refuse c st = { b with fn := fn, qc := qc } := by
  exact Bench.completeTag_only b c.tag c.noirq st 0
@[simp] theorem Bench.refuse_ix : (b.refuse c st).ix = b.ix := by
  obtain ⟨fn, qc, h⟩ := b.refuse_only c st
  rw [h]
@[simp] theorem Bench.refuse_bn : (b.refuse c st).bn = b.bn := by
  obtain ⟨fn, qc, h⟩ := b.refuse_only c st
  rw [h]
@[simp] theorem Bench.refuse_rail : (b.refuse c st).rail = b.rail := by
  obtain ⟨fn, qc, h⟩ := b.refuse_only c st
  rw [h]
@[simp] theorem Bench.refuse_ev : (b.refuse c st).ev = b.ev := by
  obtain ⟨fn, qc, h⟩ := b.refuse_only c st
  rw [h]
@[simp] theorem Bench.refuse_points : (b.refuse c st).points = b.points := by
  obtain ⟨fn, qc, h⟩ := b.refuse_only c st
  rw [h]
@[simp] theorem Bench.refuse_conf : (b.refuse c st).conf = b.conf := by
  obtain ⟨fn, qc, h⟩ := b.refuse_only c st
  rw [h]
@[simp] theorem Bench.refuse_inst : (b.refuse c st).inst = b.inst := by
  obtain ⟨fn, qc, h⟩ := b.refuse_only c st
  rw [h]
@[simp] theorem Bench.refuse_sc : (b.refuse c st).sc = b.sc := by
  obtain ⟨fn, qc, h⟩ := b.refuse_only c st
  rw [h]
@[simp] theorem Bench.refuse_fq : (b.refuse c st).fq = b.fq := by
  obtain ⟨fn, qc, h⟩ := b.refuse_only c st
  rw [h]
@[simp] theorem Bench.refuse_cores : (b.refuse c st).cores = b.cores := by
  obtain ⟨fn, qc, h⟩ := b.refuse_only c st
  rw [h]
@[simp] theorem Bench.refuse_pe : (b.refuse c st).pe = b.pe := by
  obtain ⟨fn, qc, h⟩ := b.refuse_only c st
  rw [h]
@[simp] theorem Bench.refuse_le : (b.refuse c st).le = b.le := by
  obtain ⟨fn, qc, h⟩ := b.refuse_only c st
  rw [h]
@[simp] theorem Bench.refuse_gd : (b.refuse c st).gd = b.gd := by
  obtain ⟨fn, qc, h⟩ := b.refuse_only c st
  rw [h]
@[simp] theorem Bench.refuse_mx : (b.refuse c st).mx = b.mx := by
  obtain ⟨fn, qc, h⟩ := b.refuse_only c st
  rw [h]
@[simp] theorem Bench.refuse_rs : (b.refuse c st).rs = b.rs := by
  obtain ⟨fn, qc, h⟩ := b.refuse_only c st
  rw [h]
@[simp] theorem Bench.refuse_ha : (b.refuse c st).ha = b.ha := by
  obtain ⟨fn, qc, h⟩ := b.refuse_only c st
  rw [h]
@[simp] theorem Bench.refuse_fc : (b.refuse c st).fc = b.fc := by
  obtain ⟨fn, qc, h⟩ := b.refuse_only c st
  rw [h]
@[simp] theorem Bench.refuse_qn : (b.refuse c st).qn = b.qn := by
  obtain ⟨fn, qc, h⟩ := b.refuse_only c st
  rw [h]
@[simp] theorem Bench.refuse_can : (b.refuse c st).can = b.can := by
  obtain ⟨fn, qc, h⟩ := b.refuse_only c st
  rw [h]
@[simp] theorem Bench.refuse_kf : (b.refuse c st).kf = b.kf := by
  obtain ⟨fn, qc, h⟩ := b.refuse_only c st
  rw [h]
@[simp] theorem Bench.refuse_dg : (b.refuse c st).dg = b.dg := by
  obtain ⟨fn, qc, h⟩ := b.refuse_only c st
  rw [h]
@[simp] theorem Bench.refuse_hl : (b.refuse c st).hl = b.hl := by
  obtain ⟨fn, qc, h⟩ := b.refuse_only c st
  rw [h]
@[simp] theorem Bench.refuse_nl : (b.refuse c st).nl = b.nl := by
  obtain ⟨fn, qc, h⟩ := b.refuse_only c st
  rw [h]
@[simp] theorem Bench.refuse_snap : (b.refuse c st).snap = b.snap := by
  obtain ⟨fn, qc, h⟩ := b.refuse_only c st
  rw [h]
@[simp] theorem Bench.refuse_snapOk : (b.refuse c st).snapOk = b.snapOk := by
  obtain ⟨fn, qc, h⟩ := b.refuse_only c st
  rw [h]
@[simp] theorem Bench.refuse_dgTaps : (b.refuse c st).dgTaps = b.dgTaps := by
  obtain ⟨fn, qc, h⟩ := b.refuse_only c st
  rw [h]
@[simp] theorem Bench.refuse_kfTaps : (b.refuse c st).kfTaps = b.kfTaps := by
  obtain ⟨fn, qc, h⟩ := b.refuse_only c st
  rw [h]
@[simp] theorem Bench.refuse_free : (b.refuse c st).free = b.free := by
  obtain ⟨fn, qc, h⟩ := b.refuse_only c st
  rw [h]
end refuse

section health
variable (b : Bench) (i : Fin 25)
theorem Bench.health_only : ∃ hl, b.health i = { b with hl := hl } := by
  unfold Bench.health
  split
  · exact ⟨_, rfl⟩
  · exact ⟨_, rfl⟩
@[simp] theorem Bench.health_ix : (b.health i).ix = b.ix := by
  obtain ⟨hl, h⟩ := b.health_only i
  rw [h]
@[simp] theorem Bench.health_bn : (b.health i).bn = b.bn := by
  obtain ⟨hl, h⟩ := b.health_only i
  rw [h]
@[simp] theorem Bench.health_rail : (b.health i).rail = b.rail := by
  obtain ⟨hl, h⟩ := b.health_only i
  rw [h]
@[simp] theorem Bench.health_fn : (b.health i).fn = b.fn := by
  obtain ⟨hl, h⟩ := b.health_only i
  rw [h]
@[simp] theorem Bench.health_qc : (b.health i).qc = b.qc := by
  obtain ⟨hl, h⟩ := b.health_only i
  rw [h]
@[simp] theorem Bench.health_ev : (b.health i).ev = b.ev := by
  obtain ⟨hl, h⟩ := b.health_only i
  rw [h]
@[simp] theorem Bench.health_points : (b.health i).points = b.points := by
  obtain ⟨hl, h⟩ := b.health_only i
  rw [h]
@[simp] theorem Bench.health_conf : (b.health i).conf = b.conf := by
  obtain ⟨hl, h⟩ := b.health_only i
  rw [h]
@[simp] theorem Bench.health_inst : (b.health i).inst = b.inst := by
  obtain ⟨hl, h⟩ := b.health_only i
  rw [h]
@[simp] theorem Bench.health_sc : (b.health i).sc = b.sc := by
  obtain ⟨hl, h⟩ := b.health_only i
  rw [h]
@[simp] theorem Bench.health_fq : (b.health i).fq = b.fq := by
  obtain ⟨hl, h⟩ := b.health_only i
  rw [h]
@[simp] theorem Bench.health_cores : (b.health i).cores = b.cores := by
  obtain ⟨hl, h⟩ := b.health_only i
  rw [h]
@[simp] theorem Bench.health_pe : (b.health i).pe = b.pe := by
  obtain ⟨hl, h⟩ := b.health_only i
  rw [h]
@[simp] theorem Bench.health_le : (b.health i).le = b.le := by
  obtain ⟨hl, h⟩ := b.health_only i
  rw [h]
@[simp] theorem Bench.health_gd : (b.health i).gd = b.gd := by
  obtain ⟨hl, h⟩ := b.health_only i
  rw [h]
@[simp] theorem Bench.health_mx : (b.health i).mx = b.mx := by
  obtain ⟨hl, h⟩ := b.health_only i
  rw [h]
@[simp] theorem Bench.health_rs : (b.health i).rs = b.rs := by
  obtain ⟨hl, h⟩ := b.health_only i
  rw [h]
@[simp] theorem Bench.health_ha : (b.health i).ha = b.ha := by
  obtain ⟨hl, h⟩ := b.health_only i
  rw [h]
@[simp] theorem Bench.health_fc : (b.health i).fc = b.fc := by
  obtain ⟨hl, h⟩ := b.health_only i
  rw [h]
@[simp] theorem Bench.health_qn : (b.health i).qn = b.qn := by
  obtain ⟨hl, h⟩ := b.health_only i
  rw [h]
@[simp] theorem Bench.health_can : (b.health i).can = b.can := by
  obtain ⟨hl, h⟩ := b.health_only i
  rw [h]
@[simp] theorem Bench.health_kf : (b.health i).kf = b.kf := by
  obtain ⟨hl, h⟩ := b.health_only i
  rw [h]
@[simp] theorem Bench.health_dg : (b.health i).dg = b.dg := by
  obtain ⟨hl, h⟩ := b.health_only i
  rw [h]
@[simp] theorem Bench.health_nl : (b.health i).nl = b.nl := by
  obtain ⟨hl, h⟩ := b.health_only i
  rw [h]
@[simp] theorem Bench.health_snap : (b.health i).snap = b.snap := by
  obtain ⟨hl, h⟩ := b.health_only i
  rw [h]
@[simp] theorem Bench.health_snapOk : (b.health i).snapOk = b.snapOk := by
  obtain ⟨hl, h⟩ := b.health_only i
  rw [h]
@[simp] theorem Bench.health_dgTaps : (b.health i).dgTaps = b.dgTaps := by
  obtain ⟨hl, h⟩ := b.health_only i
  rw [h]
@[simp] theorem Bench.health_kfTaps : (b.health i).kfTaps = b.kfTaps := by
  obtain ⟨hl, h⟩ := b.health_only i
  rw [h]
@[simp] theorem Bench.health_free : (b.health i).free = b.free := by
  obtain ⟨hl, h⟩ := b.health_only i
  rw [h]
end health

section notify
variable (b : Bench) (n : Notice)
theorem Bench.notify_only : ∃ nl, b.notify n = { b with nl := nl } := by
  unfold Bench.notify
  split
  · exact ⟨_, rfl⟩
  · exact ⟨_, rfl⟩
@[simp] theorem Bench.notify_ix : (b.notify n).ix = b.ix := by
  obtain ⟨nl, h⟩ := b.notify_only n
  rw [h]
@[simp] theorem Bench.notify_bn : (b.notify n).bn = b.bn := by
  obtain ⟨nl, h⟩ := b.notify_only n
  rw [h]
@[simp] theorem Bench.notify_rail : (b.notify n).rail = b.rail := by
  obtain ⟨nl, h⟩ := b.notify_only n
  rw [h]
@[simp] theorem Bench.notify_fn : (b.notify n).fn = b.fn := by
  obtain ⟨nl, h⟩ := b.notify_only n
  rw [h]
@[simp] theorem Bench.notify_qc : (b.notify n).qc = b.qc := by
  obtain ⟨nl, h⟩ := b.notify_only n
  rw [h]
@[simp] theorem Bench.notify_ev : (b.notify n).ev = b.ev := by
  obtain ⟨nl, h⟩ := b.notify_only n
  rw [h]
@[simp] theorem Bench.notify_points : (b.notify n).points = b.points := by
  obtain ⟨nl, h⟩ := b.notify_only n
  rw [h]
@[simp] theorem Bench.notify_conf : (b.notify n).conf = b.conf := by
  obtain ⟨nl, h⟩ := b.notify_only n
  rw [h]
@[simp] theorem Bench.notify_inst : (b.notify n).inst = b.inst := by
  obtain ⟨nl, h⟩ := b.notify_only n
  rw [h]
@[simp] theorem Bench.notify_sc : (b.notify n).sc = b.sc := by
  obtain ⟨nl, h⟩ := b.notify_only n
  rw [h]
@[simp] theorem Bench.notify_fq : (b.notify n).fq = b.fq := by
  obtain ⟨nl, h⟩ := b.notify_only n
  rw [h]
@[simp] theorem Bench.notify_cores : (b.notify n).cores = b.cores := by
  obtain ⟨nl, h⟩ := b.notify_only n
  rw [h]
@[simp] theorem Bench.notify_pe : (b.notify n).pe = b.pe := by
  obtain ⟨nl, h⟩ := b.notify_only n
  rw [h]
@[simp] theorem Bench.notify_le : (b.notify n).le = b.le := by
  obtain ⟨nl, h⟩ := b.notify_only n
  rw [h]
@[simp] theorem Bench.notify_gd : (b.notify n).gd = b.gd := by
  obtain ⟨nl, h⟩ := b.notify_only n
  rw [h]
@[simp] theorem Bench.notify_mx : (b.notify n).mx = b.mx := by
  obtain ⟨nl, h⟩ := b.notify_only n
  rw [h]
@[simp] theorem Bench.notify_rs : (b.notify n).rs = b.rs := by
  obtain ⟨nl, h⟩ := b.notify_only n
  rw [h]
@[simp] theorem Bench.notify_ha : (b.notify n).ha = b.ha := by
  obtain ⟨nl, h⟩ := b.notify_only n
  rw [h]
@[simp] theorem Bench.notify_fc : (b.notify n).fc = b.fc := by
  obtain ⟨nl, h⟩ := b.notify_only n
  rw [h]
@[simp] theorem Bench.notify_qn : (b.notify n).qn = b.qn := by
  obtain ⟨nl, h⟩ := b.notify_only n
  rw [h]
@[simp] theorem Bench.notify_can : (b.notify n).can = b.can := by
  obtain ⟨nl, h⟩ := b.notify_only n
  rw [h]
@[simp] theorem Bench.notify_kf : (b.notify n).kf = b.kf := by
  obtain ⟨nl, h⟩ := b.notify_only n
  rw [h]
@[simp] theorem Bench.notify_dg : (b.notify n).dg = b.dg := by
  obtain ⟨nl, h⟩ := b.notify_only n
  rw [h]
@[simp] theorem Bench.notify_hl : (b.notify n).hl = b.hl := by
  obtain ⟨nl, h⟩ := b.notify_only n
  rw [h]
@[simp] theorem Bench.notify_snap : (b.notify n).snap = b.snap := by
  obtain ⟨nl, h⟩ := b.notify_only n
  rw [h]
@[simp] theorem Bench.notify_snapOk : (b.notify n).snapOk = b.snapOk := by
  obtain ⟨nl, h⟩ := b.notify_only n
  rw [h]
@[simp] theorem Bench.notify_dgTaps : (b.notify n).dgTaps = b.dgTaps := by
  obtain ⟨nl, h⟩ := b.notify_only n
  rw [h]
@[simp] theorem Bench.notify_kfTaps : (b.notify n).kfTaps = b.kfTaps := by
  obtain ⟨nl, h⟩ := b.notify_only n
  rw [h]
@[simp] theorem Bench.notify_free : (b.notify n).free = b.free := by
  obtain ⟨nl, h⟩ := b.notify_only n
  rw [h]
end notify

section errorCause
variable (b : Bench) (i : Nat) (d : Word)
theorem Bench.errorCause_only : ∃ pe inst nl sc fn qc ev, b.errorCause i d = { b with pe := pe, inst := inst, nl := nl, sc := sc, fn := fn, qc := qc, ev := ev } := by
  unfold Bench.errorCause
  split
  · exact ⟨b.pe, b.inst, b.nl, b.sc, b.fn, b.qc, b.ev, rfl⟩
  · split
    · exact ⟨_, b.inst, b.nl, b.sc, b.fn, b.qc, b.ev, rfl⟩
    · lift_lets
      intro mask ring
      split
      · exact ⟨_, b.inst, b.nl, b.sc, b.fn, b.qc, b.ev, rfl⟩
      · intro w r src c
        have full : ∃ pe inst nl fn qc ev, c = { b with pe := pe, inst := inst, nl := nl, fn := fn, qc := qc, ev := ev } := by
          by_cases h : (w + 1) % 32 = r
          · obtain ⟨fn, qc, ev, hr⟩ := Bench.raise_only { b with pe := { b.pe with errDrop := inc b.pe.errDrop } } 4 4 0 d 0
            exact ⟨{ b.pe with errDrop := inc b.pe.errDrop }, b.inst, b.nl, fn, qc, ev, (if_pos h).trans hr⟩
          · exact ⟨_, _, _, b.fn, b.qc, b.ev, if_neg h⟩
        obtain ⟨pe, inst, nl, fn, qc, ev, hx⟩ := full
        rw [hx]
        exact ⟨_, inst, nl, _, fn, qc, ev, rfl⟩
@[simp] theorem Bench.errorCause_ix : (b.errorCause i d).ix = b.ix := by
  obtain ⟨pe, inst, nl, sc, fn, qc, ev, h⟩ := b.errorCause_only i d
  rw [h]
@[simp] theorem Bench.errorCause_bn : (b.errorCause i d).bn = b.bn := by
  obtain ⟨pe, inst, nl, sc, fn, qc, ev, h⟩ := b.errorCause_only i d
  rw [h]
@[simp] theorem Bench.errorCause_rail : (b.errorCause i d).rail = b.rail := by
  obtain ⟨pe, inst, nl, sc, fn, qc, ev, h⟩ := b.errorCause_only i d
  rw [h]
@[simp] theorem Bench.errorCause_points : (b.errorCause i d).points = b.points := by
  obtain ⟨pe, inst, nl, sc, fn, qc, ev, h⟩ := b.errorCause_only i d
  rw [h]
@[simp] theorem Bench.errorCause_conf : (b.errorCause i d).conf = b.conf := by
  obtain ⟨pe, inst, nl, sc, fn, qc, ev, h⟩ := b.errorCause_only i d
  rw [h]
@[simp] theorem Bench.errorCause_fq : (b.errorCause i d).fq = b.fq := by
  obtain ⟨pe, inst, nl, sc, fn, qc, ev, h⟩ := b.errorCause_only i d
  rw [h]
@[simp] theorem Bench.errorCause_cores : (b.errorCause i d).cores = b.cores := by
  obtain ⟨pe, inst, nl, sc, fn, qc, ev, h⟩ := b.errorCause_only i d
  rw [h]
@[simp] theorem Bench.errorCause_le : (b.errorCause i d).le = b.le := by
  obtain ⟨pe, inst, nl, sc, fn, qc, ev, h⟩ := b.errorCause_only i d
  rw [h]
@[simp] theorem Bench.errorCause_gd : (b.errorCause i d).gd = b.gd := by
  obtain ⟨pe, inst, nl, sc, fn, qc, ev, h⟩ := b.errorCause_only i d
  rw [h]
@[simp] theorem Bench.errorCause_mx : (b.errorCause i d).mx = b.mx := by
  obtain ⟨pe, inst, nl, sc, fn, qc, ev, h⟩ := b.errorCause_only i d
  rw [h]
@[simp] theorem Bench.errorCause_rs : (b.errorCause i d).rs = b.rs := by
  obtain ⟨pe, inst, nl, sc, fn, qc, ev, h⟩ := b.errorCause_only i d
  rw [h]
@[simp] theorem Bench.errorCause_ha : (b.errorCause i d).ha = b.ha := by
  obtain ⟨pe, inst, nl, sc, fn, qc, ev, h⟩ := b.errorCause_only i d
  rw [h]
@[simp] theorem Bench.errorCause_fc : (b.errorCause i d).fc = b.fc := by
  obtain ⟨pe, inst, nl, sc, fn, qc, ev, h⟩ := b.errorCause_only i d
  rw [h]
@[simp] theorem Bench.errorCause_qn : (b.errorCause i d).qn = b.qn := by
  obtain ⟨pe, inst, nl, sc, fn, qc, ev, h⟩ := b.errorCause_only i d
  rw [h]
@[simp] theorem Bench.errorCause_can : (b.errorCause i d).can = b.can := by
  obtain ⟨pe, inst, nl, sc, fn, qc, ev, h⟩ := b.errorCause_only i d
  rw [h]
@[simp] theorem Bench.errorCause_kf : (b.errorCause i d).kf = b.kf := by
  obtain ⟨pe, inst, nl, sc, fn, qc, ev, h⟩ := b.errorCause_only i d
  rw [h]
@[simp] theorem Bench.errorCause_dg : (b.errorCause i d).dg = b.dg := by
  obtain ⟨pe, inst, nl, sc, fn, qc, ev, h⟩ := b.errorCause_only i d
  rw [h]
@[simp] theorem Bench.errorCause_hl : (b.errorCause i d).hl = b.hl := by
  obtain ⟨pe, inst, nl, sc, fn, qc, ev, h⟩ := b.errorCause_only i d
  rw [h]
@[simp] theorem Bench.errorCause_snap : (b.errorCause i d).snap = b.snap := by
  obtain ⟨pe, inst, nl, sc, fn, qc, ev, h⟩ := b.errorCause_only i d
  rw [h]
@[simp] theorem Bench.errorCause_snapOk : (b.errorCause i d).snapOk = b.snapOk := by
  obtain ⟨pe, inst, nl, sc, fn, qc, ev, h⟩ := b.errorCause_only i d
  rw [h]
@[simp] theorem Bench.errorCause_dgTaps : (b.errorCause i d).dgTaps = b.dgTaps := by
  obtain ⟨pe, inst, nl, sc, fn, qc, ev, h⟩ := b.errorCause_only i d
  rw [h]
@[simp] theorem Bench.errorCause_kfTaps : (b.errorCause i d).kfTaps = b.kfTaps := by
  obtain ⟨pe, inst, nl, sc, fn, qc, ev, h⟩ := b.errorCause_only i d
  rw [h]
@[simp] theorem Bench.errorCause_free : (b.errorCause i d).free = b.free := by
  obtain ⟨pe, inst, nl, sc, fn, qc, ev, h⟩ := b.errorCause_only i d
  rw [h]
end errorCause

section conflict
variable (b : Bench) (p : Nat)
theorem Bench.conflict_only : ∃ bn pe inst nl sc fn qc ev, b.conflict p = { b with bn := bn, pe := pe, inst := inst, nl := nl, sc := sc, fn := fn, qc := qc, ev := ev } := by
  obtain ⟨pe, inst, nl, sc, fn, qc, ev, h⟩ :=
    Bench.errorCause_only { b with bn := { b.bn with producerConflict := inc b.bn.producerConflict } } 13 (BitVec.ofNat 32 p)
  exact ⟨_, pe, inst, nl, sc, fn, qc, ev, h⟩
@[simp] theorem Bench.conflict_ix : (b.conflict p).ix = b.ix := by
  obtain ⟨bn, pe, inst, nl, sc, fn, qc, ev, h⟩ := b.conflict_only p
  rw [h]
@[simp] theorem Bench.conflict_rail : (b.conflict p).rail = b.rail := by
  obtain ⟨bn, pe, inst, nl, sc, fn, qc, ev, h⟩ := b.conflict_only p
  rw [h]
@[simp] theorem Bench.conflict_points : (b.conflict p).points = b.points := by
  obtain ⟨bn, pe, inst, nl, sc, fn, qc, ev, h⟩ := b.conflict_only p
  rw [h]
@[simp] theorem Bench.conflict_conf : (b.conflict p).conf = b.conf := by
  obtain ⟨bn, pe, inst, nl, sc, fn, qc, ev, h⟩ := b.conflict_only p
  rw [h]
@[simp] theorem Bench.conflict_fq : (b.conflict p).fq = b.fq := by
  obtain ⟨bn, pe, inst, nl, sc, fn, qc, ev, h⟩ := b.conflict_only p
  rw [h]
@[simp] theorem Bench.conflict_cores : (b.conflict p).cores = b.cores := by
  obtain ⟨bn, pe, inst, nl, sc, fn, qc, ev, h⟩ := b.conflict_only p
  rw [h]
@[simp] theorem Bench.conflict_le : (b.conflict p).le = b.le := by
  obtain ⟨bn, pe, inst, nl, sc, fn, qc, ev, h⟩ := b.conflict_only p
  rw [h]
@[simp] theorem Bench.conflict_gd : (b.conflict p).gd = b.gd := by
  obtain ⟨bn, pe, inst, nl, sc, fn, qc, ev, h⟩ := b.conflict_only p
  rw [h]
@[simp] theorem Bench.conflict_mx : (b.conflict p).mx = b.mx := by
  obtain ⟨bn, pe, inst, nl, sc, fn, qc, ev, h⟩ := b.conflict_only p
  rw [h]
@[simp] theorem Bench.conflict_rs : (b.conflict p).rs = b.rs := by
  obtain ⟨bn, pe, inst, nl, sc, fn, qc, ev, h⟩ := b.conflict_only p
  rw [h]
@[simp] theorem Bench.conflict_ha : (b.conflict p).ha = b.ha := by
  obtain ⟨bn, pe, inst, nl, sc, fn, qc, ev, h⟩ := b.conflict_only p
  rw [h]
@[simp] theorem Bench.conflict_fc : (b.conflict p).fc = b.fc := by
  obtain ⟨bn, pe, inst, nl, sc, fn, qc, ev, h⟩ := b.conflict_only p
  rw [h]
@[simp] theorem Bench.conflict_qn : (b.conflict p).qn = b.qn := by
  obtain ⟨bn, pe, inst, nl, sc, fn, qc, ev, h⟩ := b.conflict_only p
  rw [h]
@[simp] theorem Bench.conflict_can : (b.conflict p).can = b.can := by
  obtain ⟨bn, pe, inst, nl, sc, fn, qc, ev, h⟩ := b.conflict_only p
  rw [h]
@[simp] theorem Bench.conflict_kf : (b.conflict p).kf = b.kf := by
  obtain ⟨bn, pe, inst, nl, sc, fn, qc, ev, h⟩ := b.conflict_only p
  rw [h]
@[simp] theorem Bench.conflict_dg : (b.conflict p).dg = b.dg := by
  obtain ⟨bn, pe, inst, nl, sc, fn, qc, ev, h⟩ := b.conflict_only p
  rw [h]
@[simp] theorem Bench.conflict_hl : (b.conflict p).hl = b.hl := by
  obtain ⟨bn, pe, inst, nl, sc, fn, qc, ev, h⟩ := b.conflict_only p
  rw [h]
@[simp] theorem Bench.conflict_snap : (b.conflict p).snap = b.snap := by
  obtain ⟨bn, pe, inst, nl, sc, fn, qc, ev, h⟩ := b.conflict_only p
  rw [h]
@[simp] theorem Bench.conflict_snapOk : (b.conflict p).snapOk = b.snapOk := by
  obtain ⟨bn, pe, inst, nl, sc, fn, qc, ev, h⟩ := b.conflict_only p
  rw [h]
@[simp] theorem Bench.conflict_dgTaps : (b.conflict p).dgTaps = b.dgTaps := by
  obtain ⟨bn, pe, inst, nl, sc, fn, qc, ev, h⟩ := b.conflict_only p
  rw [h]
@[simp] theorem Bench.conflict_kfTaps : (b.conflict p).kfTaps = b.kfTaps := by
  obtain ⟨bn, pe, inst, nl, sc, fn, qc, ev, h⟩ := b.conflict_only p
  rw [h]
@[simp] theorem Bench.conflict_free : (b.conflict p).free = b.free := by
  obtain ⟨bn, pe, inst, nl, sc, fn, qc, ev, h⟩ := b.conflict_only p
  rw [h]
end conflict

section tap
variable (b : Bench) (p : Nat) (e : Point)
theorem Bench.tap_only : ∃ dgTaps kfTaps, b.tap p e = { b with dgTaps := dgTaps, kfTaps := kfTaps } := by
  unfold Bench.tap
  lift_lets
  intro c
  have digest : ∃ x, c = { b with dgTaps := x } := by
    by_cases h : (e.digest && bitOf b.dg.cfg 31 && b.dgTakes) = true
    · exact ⟨_, if_pos h⟩
    · exact ⟨_, if_neg h⟩
  obtain ⟨x, hx⟩ := digest
  rw [hx]
  split
  · exact ⟨_, _, rfl⟩
  · exact ⟨_, _, rfl⟩
@[simp] theorem Bench.tap_ix : (b.tap p e).ix = b.ix := by
  obtain ⟨dgTaps, kfTaps, h⟩ := b.tap_only p e
  rw [h]
@[simp] theorem Bench.tap_bn : (b.tap p e).bn = b.bn := by
  obtain ⟨dgTaps, kfTaps, h⟩ := b.tap_only p e
  rw [h]
@[simp] theorem Bench.tap_rail : (b.tap p e).rail = b.rail := by
  obtain ⟨dgTaps, kfTaps, h⟩ := b.tap_only p e
  rw [h]
@[simp] theorem Bench.tap_fn : (b.tap p e).fn = b.fn := by
  obtain ⟨dgTaps, kfTaps, h⟩ := b.tap_only p e
  rw [h]
@[simp] theorem Bench.tap_qc : (b.tap p e).qc = b.qc := by
  obtain ⟨dgTaps, kfTaps, h⟩ := b.tap_only p e
  rw [h]
@[simp] theorem Bench.tap_ev : (b.tap p e).ev = b.ev := by
  obtain ⟨dgTaps, kfTaps, h⟩ := b.tap_only p e
  rw [h]
@[simp] theorem Bench.tap_points : (b.tap p e).points = b.points := by
  obtain ⟨dgTaps, kfTaps, h⟩ := b.tap_only p e
  rw [h]
@[simp] theorem Bench.tap_conf : (b.tap p e).conf = b.conf := by
  obtain ⟨dgTaps, kfTaps, h⟩ := b.tap_only p e
  rw [h]
@[simp] theorem Bench.tap_inst : (b.tap p e).inst = b.inst := by
  obtain ⟨dgTaps, kfTaps, h⟩ := b.tap_only p e
  rw [h]
@[simp] theorem Bench.tap_sc : (b.tap p e).sc = b.sc := by
  obtain ⟨dgTaps, kfTaps, h⟩ := b.tap_only p e
  rw [h]
@[simp] theorem Bench.tap_fq : (b.tap p e).fq = b.fq := by
  obtain ⟨dgTaps, kfTaps, h⟩ := b.tap_only p e
  rw [h]
@[simp] theorem Bench.tap_cores : (b.tap p e).cores = b.cores := by
  obtain ⟨dgTaps, kfTaps, h⟩ := b.tap_only p e
  rw [h]
@[simp] theorem Bench.tap_pe : (b.tap p e).pe = b.pe := by
  obtain ⟨dgTaps, kfTaps, h⟩ := b.tap_only p e
  rw [h]
@[simp] theorem Bench.tap_le : (b.tap p e).le = b.le := by
  obtain ⟨dgTaps, kfTaps, h⟩ := b.tap_only p e
  rw [h]
@[simp] theorem Bench.tap_gd : (b.tap p e).gd = b.gd := by
  obtain ⟨dgTaps, kfTaps, h⟩ := b.tap_only p e
  rw [h]
@[simp] theorem Bench.tap_mx : (b.tap p e).mx = b.mx := by
  obtain ⟨dgTaps, kfTaps, h⟩ := b.tap_only p e
  rw [h]
@[simp] theorem Bench.tap_rs : (b.tap p e).rs = b.rs := by
  obtain ⟨dgTaps, kfTaps, h⟩ := b.tap_only p e
  rw [h]
@[simp] theorem Bench.tap_ha : (b.tap p e).ha = b.ha := by
  obtain ⟨dgTaps, kfTaps, h⟩ := b.tap_only p e
  rw [h]
@[simp] theorem Bench.tap_fc : (b.tap p e).fc = b.fc := by
  obtain ⟨dgTaps, kfTaps, h⟩ := b.tap_only p e
  rw [h]
@[simp] theorem Bench.tap_qn : (b.tap p e).qn = b.qn := by
  obtain ⟨dgTaps, kfTaps, h⟩ := b.tap_only p e
  rw [h]
@[simp] theorem Bench.tap_can : (b.tap p e).can = b.can := by
  obtain ⟨dgTaps, kfTaps, h⟩ := b.tap_only p e
  rw [h]
@[simp] theorem Bench.tap_kf : (b.tap p e).kf = b.kf := by
  obtain ⟨dgTaps, kfTaps, h⟩ := b.tap_only p e
  rw [h]
@[simp] theorem Bench.tap_dg : (b.tap p e).dg = b.dg := by
  obtain ⟨dgTaps, kfTaps, h⟩ := b.tap_only p e
  rw [h]
@[simp] theorem Bench.tap_hl : (b.tap p e).hl = b.hl := by
  obtain ⟨dgTaps, kfTaps, h⟩ := b.tap_only p e
  rw [h]
@[simp] theorem Bench.tap_nl : (b.tap p e).nl = b.nl := by
  obtain ⟨dgTaps, kfTaps, h⟩ := b.tap_only p e
  rw [h]
@[simp] theorem Bench.tap_snap : (b.tap p e).snap = b.snap := by
  obtain ⟨dgTaps, kfTaps, h⟩ := b.tap_only p e
  rw [h]
@[simp] theorem Bench.tap_snapOk : (b.tap p e).snapOk = b.snapOk := by
  obtain ⟨dgTaps, kfTaps, h⟩ := b.tap_only p e
  rw [h]
@[simp] theorem Bench.tap_free : (b.tap p e).free = b.free := by
  obtain ⟨dgTaps, kfTaps, h⟩ := b.tap_only p e
  rw [h]
end tap

section putPoint
variable (b : Bench) (p : Nat) (v : Word) (q : Half) (st : Time)
theorem Bench.putPoint_only : ∃ points pe dgTaps kfTaps, b.putPoint p v q st = { b with points := points, pe := pe, dgTaps := dgTaps, kfTaps := kfTaps } := by
  unfold Bench.putPoint
  lift_lets
  intro input c e live d
  have settled : ∃ pe, c = { b with pe := pe } := by
    by_cases h : input = true
    · exact ⟨_, if_pos h⟩
    · exact ⟨_, if_neg h⟩
  obtain ⟨pe, hx⟩ := settled
  obtain ⟨dg, kf, h⟩ := Bench.tap_only ((d.setLive p live).setPoint p e) p e
  rw [h]
  simp only [d, hx]
  exact ⟨_, _, dg, kf, rfl⟩
@[simp] theorem Bench.putPoint_ix : (b.putPoint p v q st).ix = b.ix := by
  obtain ⟨points, pe, dgTaps, kfTaps, h⟩ := b.putPoint_only p v q st
  rw [h]
@[simp] theorem Bench.putPoint_bn : (b.putPoint p v q st).bn = b.bn := by
  obtain ⟨points, pe, dgTaps, kfTaps, h⟩ := b.putPoint_only p v q st
  rw [h]
@[simp] theorem Bench.putPoint_rail : (b.putPoint p v q st).rail = b.rail := by
  obtain ⟨points, pe, dgTaps, kfTaps, h⟩ := b.putPoint_only p v q st
  rw [h]
@[simp] theorem Bench.putPoint_fn : (b.putPoint p v q st).fn = b.fn := by
  obtain ⟨points, pe, dgTaps, kfTaps, h⟩ := b.putPoint_only p v q st
  rw [h]
@[simp] theorem Bench.putPoint_qc : (b.putPoint p v q st).qc = b.qc := by
  obtain ⟨points, pe, dgTaps, kfTaps, h⟩ := b.putPoint_only p v q st
  rw [h]
@[simp] theorem Bench.putPoint_ev : (b.putPoint p v q st).ev = b.ev := by
  obtain ⟨points, pe, dgTaps, kfTaps, h⟩ := b.putPoint_only p v q st
  rw [h]
@[simp] theorem Bench.putPoint_conf : (b.putPoint p v q st).conf = b.conf := by
  obtain ⟨points, pe, dgTaps, kfTaps, h⟩ := b.putPoint_only p v q st
  rw [h]
@[simp] theorem Bench.putPoint_inst : (b.putPoint p v q st).inst = b.inst := by
  obtain ⟨points, pe, dgTaps, kfTaps, h⟩ := b.putPoint_only p v q st
  rw [h]
@[simp] theorem Bench.putPoint_sc : (b.putPoint p v q st).sc = b.sc := by
  obtain ⟨points, pe, dgTaps, kfTaps, h⟩ := b.putPoint_only p v q st
  rw [h]
@[simp] theorem Bench.putPoint_fq : (b.putPoint p v q st).fq = b.fq := by
  obtain ⟨points, pe, dgTaps, kfTaps, h⟩ := b.putPoint_only p v q st
  rw [h]
@[simp] theorem Bench.putPoint_cores : (b.putPoint p v q st).cores = b.cores := by
  obtain ⟨points, pe, dgTaps, kfTaps, h⟩ := b.putPoint_only p v q st
  rw [h]
@[simp] theorem Bench.putPoint_le : (b.putPoint p v q st).le = b.le := by
  obtain ⟨points, pe, dgTaps, kfTaps, h⟩ := b.putPoint_only p v q st
  rw [h]
@[simp] theorem Bench.putPoint_gd : (b.putPoint p v q st).gd = b.gd := by
  obtain ⟨points, pe, dgTaps, kfTaps, h⟩ := b.putPoint_only p v q st
  rw [h]
@[simp] theorem Bench.putPoint_mx : (b.putPoint p v q st).mx = b.mx := by
  obtain ⟨points, pe, dgTaps, kfTaps, h⟩ := b.putPoint_only p v q st
  rw [h]
@[simp] theorem Bench.putPoint_rs : (b.putPoint p v q st).rs = b.rs := by
  obtain ⟨points, pe, dgTaps, kfTaps, h⟩ := b.putPoint_only p v q st
  rw [h]
@[simp] theorem Bench.putPoint_ha : (b.putPoint p v q st).ha = b.ha := by
  obtain ⟨points, pe, dgTaps, kfTaps, h⟩ := b.putPoint_only p v q st
  rw [h]
@[simp] theorem Bench.putPoint_fc : (b.putPoint p v q st).fc = b.fc := by
  obtain ⟨points, pe, dgTaps, kfTaps, h⟩ := b.putPoint_only p v q st
  rw [h]
@[simp] theorem Bench.putPoint_qn : (b.putPoint p v q st).qn = b.qn := by
  obtain ⟨points, pe, dgTaps, kfTaps, h⟩ := b.putPoint_only p v q st
  rw [h]
@[simp] theorem Bench.putPoint_can : (b.putPoint p v q st).can = b.can := by
  obtain ⟨points, pe, dgTaps, kfTaps, h⟩ := b.putPoint_only p v q st
  rw [h]
@[simp] theorem Bench.putPoint_kf : (b.putPoint p v q st).kf = b.kf := by
  obtain ⟨points, pe, dgTaps, kfTaps, h⟩ := b.putPoint_only p v q st
  rw [h]
@[simp] theorem Bench.putPoint_dg : (b.putPoint p v q st).dg = b.dg := by
  obtain ⟨points, pe, dgTaps, kfTaps, h⟩ := b.putPoint_only p v q st
  rw [h]
@[simp] theorem Bench.putPoint_hl : (b.putPoint p v q st).hl = b.hl := by
  obtain ⟨points, pe, dgTaps, kfTaps, h⟩ := b.putPoint_only p v q st
  rw [h]
@[simp] theorem Bench.putPoint_nl : (b.putPoint p v q st).nl = b.nl := by
  obtain ⟨points, pe, dgTaps, kfTaps, h⟩ := b.putPoint_only p v q st
  rw [h]
@[simp] theorem Bench.putPoint_snap : (b.putPoint p v q st).snap = b.snap := by
  obtain ⟨points, pe, dgTaps, kfTaps, h⟩ := b.putPoint_only p v q st
  rw [h]
@[simp] theorem Bench.putPoint_snapOk : (b.putPoint p v q st).snapOk = b.snapOk := by
  obtain ⟨points, pe, dgTaps, kfTaps, h⟩ := b.putPoint_only p v q st
  rw [h]
@[simp] theorem Bench.putPoint_free : (b.putPoint p v q st).free = b.free := by
  obtain ⟨points, pe, dgTaps, kfTaps, h⟩ := b.putPoint_only p v q st
  rw [h]
end putPoint

section writePoint
variable (b : Bench) (src : Source) (p : Nat) (v : Word) (q : Half) (st : Time)
theorem Bench.writePoint_only : ∃ bn points pe dgTaps kfTaps inst nl sc fn qc ev, b.writePoint src p v q st = { b with bn := bn, points := points, pe := pe, dgTaps := dgTaps, kfTaps := kfTaps, inst := inst, nl := nl, sc := sc, fn := fn, qc := qc, ev := ev } := by
  unfold Bench.writePoint
  split
  · exact ⟨b.bn, b.points, b.pe, b.dgTaps, b.kfTaps, b.inst, b.nl, b.sc, b.fn, b.qc, b.ev, rfl⟩
  · split
    · obtain ⟨bn, pe, inst, nl, sc, fn, qc, ev, h⟩ := Bench.conflict_only b p
      exact ⟨bn, b.points, pe, b.dgTaps, b.kfTaps, inst, nl, sc, fn, qc, ev, h⟩
    · obtain ⟨points, pe, dg, kf, h⟩ := Bench.putPoint_only b p v q st
      exact ⟨b.bn, points, pe, dg, kf, b.inst, b.nl, b.sc, b.fn, b.qc, b.ev, h⟩
@[simp] theorem Bench.writePoint_ix : (b.writePoint src p v q st).ix = b.ix := by
  obtain ⟨bn, points, pe, dgTaps, kfTaps, inst, nl, sc, fn, qc, ev, h⟩ := b.writePoint_only src p v q st
  rw [h]
@[simp] theorem Bench.writePoint_rail : (b.writePoint src p v q st).rail = b.rail := by
  obtain ⟨bn, points, pe, dgTaps, kfTaps, inst, nl, sc, fn, qc, ev, h⟩ := b.writePoint_only src p v q st
  rw [h]
@[simp] theorem Bench.writePoint_conf : (b.writePoint src p v q st).conf = b.conf := by
  obtain ⟨bn, points, pe, dgTaps, kfTaps, inst, nl, sc, fn, qc, ev, h⟩ := b.writePoint_only src p v q st
  rw [h]
@[simp] theorem Bench.writePoint_fq : (b.writePoint src p v q st).fq = b.fq := by
  obtain ⟨bn, points, pe, dgTaps, kfTaps, inst, nl, sc, fn, qc, ev, h⟩ := b.writePoint_only src p v q st
  rw [h]
@[simp] theorem Bench.writePoint_cores : (b.writePoint src p v q st).cores = b.cores := by
  obtain ⟨bn, points, pe, dgTaps, kfTaps, inst, nl, sc, fn, qc, ev, h⟩ := b.writePoint_only src p v q st
  rw [h]
@[simp] theorem Bench.writePoint_le : (b.writePoint src p v q st).le = b.le := by
  obtain ⟨bn, points, pe, dgTaps, kfTaps, inst, nl, sc, fn, qc, ev, h⟩ := b.writePoint_only src p v q st
  rw [h]
@[simp] theorem Bench.writePoint_gd : (b.writePoint src p v q st).gd = b.gd := by
  obtain ⟨bn, points, pe, dgTaps, kfTaps, inst, nl, sc, fn, qc, ev, h⟩ := b.writePoint_only src p v q st
  rw [h]
@[simp] theorem Bench.writePoint_mx : (b.writePoint src p v q st).mx = b.mx := by
  obtain ⟨bn, points, pe, dgTaps, kfTaps, inst, nl, sc, fn, qc, ev, h⟩ := b.writePoint_only src p v q st
  rw [h]
@[simp] theorem Bench.writePoint_rs : (b.writePoint src p v q st).rs = b.rs := by
  obtain ⟨bn, points, pe, dgTaps, kfTaps, inst, nl, sc, fn, qc, ev, h⟩ := b.writePoint_only src p v q st
  rw [h]
@[simp] theorem Bench.writePoint_ha : (b.writePoint src p v q st).ha = b.ha := by
  obtain ⟨bn, points, pe, dgTaps, kfTaps, inst, nl, sc, fn, qc, ev, h⟩ := b.writePoint_only src p v q st
  rw [h]
@[simp] theorem Bench.writePoint_fc : (b.writePoint src p v q st).fc = b.fc := by
  obtain ⟨bn, points, pe, dgTaps, kfTaps, inst, nl, sc, fn, qc, ev, h⟩ := b.writePoint_only src p v q st
  rw [h]
@[simp] theorem Bench.writePoint_qn : (b.writePoint src p v q st).qn = b.qn := by
  obtain ⟨bn, points, pe, dgTaps, kfTaps, inst, nl, sc, fn, qc, ev, h⟩ := b.writePoint_only src p v q st
  rw [h]
@[simp] theorem Bench.writePoint_can : (b.writePoint src p v q st).can = b.can := by
  obtain ⟨bn, points, pe, dgTaps, kfTaps, inst, nl, sc, fn, qc, ev, h⟩ := b.writePoint_only src p v q st
  rw [h]
@[simp] theorem Bench.writePoint_kf : (b.writePoint src p v q st).kf = b.kf := by
  obtain ⟨bn, points, pe, dgTaps, kfTaps, inst, nl, sc, fn, qc, ev, h⟩ := b.writePoint_only src p v q st
  rw [h]
@[simp] theorem Bench.writePoint_dg : (b.writePoint src p v q st).dg = b.dg := by
  obtain ⟨bn, points, pe, dgTaps, kfTaps, inst, nl, sc, fn, qc, ev, h⟩ := b.writePoint_only src p v q st
  rw [h]
@[simp] theorem Bench.writePoint_hl : (b.writePoint src p v q st).hl = b.hl := by
  obtain ⟨bn, points, pe, dgTaps, kfTaps, inst, nl, sc, fn, qc, ev, h⟩ := b.writePoint_only src p v q st
  rw [h]
@[simp] theorem Bench.writePoint_snap : (b.writePoint src p v q st).snap = b.snap := by
  obtain ⟨bn, points, pe, dgTaps, kfTaps, inst, nl, sc, fn, qc, ev, h⟩ := b.writePoint_only src p v q st
  rw [h]
@[simp] theorem Bench.writePoint_snapOk : (b.writePoint src p v q st).snapOk = b.snapOk := by
  obtain ⟨bn, points, pe, dgTaps, kfTaps, inst, nl, sc, fn, qc, ev, h⟩ := b.writePoint_only src p v q st
  rw [h]
@[simp] theorem Bench.writePoint_free : (b.writePoint src p v q st).free = b.free := by
  obtain ⟨bn, points, pe, dgTaps, kfTaps, inst, nl, sc, fn, qc, ev, h⟩ := b.writePoint_only src p v q st
  rw [h]
end writePoint

section markPoint
variable (b : Bench) (p : Nat) (f : Half → Half)
theorem Bench.markPoint_only : ∃ points dgTaps kfTaps, b.markPoint p f = { b with points := points, dgTaps := dgTaps, kfTaps := kfTaps } := by
  unfold Bench.markPoint
  split
  · exact ⟨b.points, b.dgTaps, b.kfTaps, rfl⟩
  · lift_lets
    intro e e'
    obtain ⟨dg, kf, h⟩ := Bench.tap_only (b.setPoint p e') p e'
    exact ⟨_, dg, kf, h⟩
@[simp] theorem Bench.markPoint_ix : (b.markPoint p f).ix = b.ix := by
  obtain ⟨points, dgTaps, kfTaps, h⟩ := b.markPoint_only p f
  rw [h]
@[simp] theorem Bench.markPoint_bn : (b.markPoint p f).bn = b.bn := by
  obtain ⟨points, dgTaps, kfTaps, h⟩ := b.markPoint_only p f
  rw [h]
@[simp] theorem Bench.markPoint_rail : (b.markPoint p f).rail = b.rail := by
  obtain ⟨points, dgTaps, kfTaps, h⟩ := b.markPoint_only p f
  rw [h]
@[simp] theorem Bench.markPoint_fn : (b.markPoint p f).fn = b.fn := by
  obtain ⟨points, dgTaps, kfTaps, h⟩ := b.markPoint_only p f
  rw [h]
@[simp] theorem Bench.markPoint_qc : (b.markPoint p f).qc = b.qc := by
  obtain ⟨points, dgTaps, kfTaps, h⟩ := b.markPoint_only p f
  rw [h]
@[simp] theorem Bench.markPoint_ev : (b.markPoint p f).ev = b.ev := by
  obtain ⟨points, dgTaps, kfTaps, h⟩ := b.markPoint_only p f
  rw [h]
@[simp] theorem Bench.markPoint_conf : (b.markPoint p f).conf = b.conf := by
  obtain ⟨points, dgTaps, kfTaps, h⟩ := b.markPoint_only p f
  rw [h]
@[simp] theorem Bench.markPoint_inst : (b.markPoint p f).inst = b.inst := by
  obtain ⟨points, dgTaps, kfTaps, h⟩ := b.markPoint_only p f
  rw [h]
@[simp] theorem Bench.markPoint_sc : (b.markPoint p f).sc = b.sc := by
  obtain ⟨points, dgTaps, kfTaps, h⟩ := b.markPoint_only p f
  rw [h]
@[simp] theorem Bench.markPoint_fq : (b.markPoint p f).fq = b.fq := by
  obtain ⟨points, dgTaps, kfTaps, h⟩ := b.markPoint_only p f
  rw [h]
@[simp] theorem Bench.markPoint_cores : (b.markPoint p f).cores = b.cores := by
  obtain ⟨points, dgTaps, kfTaps, h⟩ := b.markPoint_only p f
  rw [h]
@[simp] theorem Bench.markPoint_pe : (b.markPoint p f).pe = b.pe := by
  obtain ⟨points, dgTaps, kfTaps, h⟩ := b.markPoint_only p f
  rw [h]
@[simp] theorem Bench.markPoint_le : (b.markPoint p f).le = b.le := by
  obtain ⟨points, dgTaps, kfTaps, h⟩ := b.markPoint_only p f
  rw [h]
@[simp] theorem Bench.markPoint_gd : (b.markPoint p f).gd = b.gd := by
  obtain ⟨points, dgTaps, kfTaps, h⟩ := b.markPoint_only p f
  rw [h]
@[simp] theorem Bench.markPoint_mx : (b.markPoint p f).mx = b.mx := by
  obtain ⟨points, dgTaps, kfTaps, h⟩ := b.markPoint_only p f
  rw [h]
@[simp] theorem Bench.markPoint_rs : (b.markPoint p f).rs = b.rs := by
  obtain ⟨points, dgTaps, kfTaps, h⟩ := b.markPoint_only p f
  rw [h]
@[simp] theorem Bench.markPoint_ha : (b.markPoint p f).ha = b.ha := by
  obtain ⟨points, dgTaps, kfTaps, h⟩ := b.markPoint_only p f
  rw [h]
@[simp] theorem Bench.markPoint_fc : (b.markPoint p f).fc = b.fc := by
  obtain ⟨points, dgTaps, kfTaps, h⟩ := b.markPoint_only p f
  rw [h]
@[simp] theorem Bench.markPoint_qn : (b.markPoint p f).qn = b.qn := by
  obtain ⟨points, dgTaps, kfTaps, h⟩ := b.markPoint_only p f
  rw [h]
@[simp] theorem Bench.markPoint_can : (b.markPoint p f).can = b.can := by
  obtain ⟨points, dgTaps, kfTaps, h⟩ := b.markPoint_only p f
  rw [h]
@[simp] theorem Bench.markPoint_kf : (b.markPoint p f).kf = b.kf := by
  obtain ⟨points, dgTaps, kfTaps, h⟩ := b.markPoint_only p f
  rw [h]
@[simp] theorem Bench.markPoint_dg : (b.markPoint p f).dg = b.dg := by
  obtain ⟨points, dgTaps, kfTaps, h⟩ := b.markPoint_only p f
  rw [h]
@[simp] theorem Bench.markPoint_hl : (b.markPoint p f).hl = b.hl := by
  obtain ⟨points, dgTaps, kfTaps, h⟩ := b.markPoint_only p f
  rw [h]
@[simp] theorem Bench.markPoint_nl : (b.markPoint p f).nl = b.nl := by
  obtain ⟨points, dgTaps, kfTaps, h⟩ := b.markPoint_only p f
  rw [h]
@[simp] theorem Bench.markPoint_snap : (b.markPoint p f).snap = b.snap := by
  obtain ⟨points, dgTaps, kfTaps, h⟩ := b.markPoint_only p f
  rw [h]
@[simp] theorem Bench.markPoint_snapOk : (b.markPoint p f).snapOk = b.snapOk := by
  obtain ⟨points, dgTaps, kfTaps, h⟩ := b.markPoint_only p f
  rw [h]
@[simp] theorem Bench.markPoint_free : (b.markPoint p f).free = b.free := by
  obtain ⟨points, dgTaps, kfTaps, h⟩ := b.markPoint_only p f
  rw [h]
end markPoint

section quoinClose
variable (b : Bench) (cal : Nat)
theorem Bench.quoinClose_only : ∃ qn, b.quoinClose cal = { b with qn := qn } := by
  unfold Bench.quoinClose
  split
  · exact ⟨_, rfl⟩
  · exact ⟨_, rfl⟩
@[simp] theorem Bench.quoinClose_ix : (b.quoinClose cal).ix = b.ix := by
  obtain ⟨qn, h⟩ := b.quoinClose_only cal
  rw [h]
@[simp] theorem Bench.quoinClose_bn : (b.quoinClose cal).bn = b.bn := by
  obtain ⟨qn, h⟩ := b.quoinClose_only cal
  rw [h]
@[simp] theorem Bench.quoinClose_rail : (b.quoinClose cal).rail = b.rail := by
  obtain ⟨qn, h⟩ := b.quoinClose_only cal
  rw [h]
@[simp] theorem Bench.quoinClose_fn : (b.quoinClose cal).fn = b.fn := by
  obtain ⟨qn, h⟩ := b.quoinClose_only cal
  rw [h]
@[simp] theorem Bench.quoinClose_qc : (b.quoinClose cal).qc = b.qc := by
  obtain ⟨qn, h⟩ := b.quoinClose_only cal
  rw [h]
@[simp] theorem Bench.quoinClose_ev : (b.quoinClose cal).ev = b.ev := by
  obtain ⟨qn, h⟩ := b.quoinClose_only cal
  rw [h]
@[simp] theorem Bench.quoinClose_points : (b.quoinClose cal).points = b.points := by
  obtain ⟨qn, h⟩ := b.quoinClose_only cal
  rw [h]
@[simp] theorem Bench.quoinClose_conf : (b.quoinClose cal).conf = b.conf := by
  obtain ⟨qn, h⟩ := b.quoinClose_only cal
  rw [h]
@[simp] theorem Bench.quoinClose_inst : (b.quoinClose cal).inst = b.inst := by
  obtain ⟨qn, h⟩ := b.quoinClose_only cal
  rw [h]
@[simp] theorem Bench.quoinClose_sc : (b.quoinClose cal).sc = b.sc := by
  obtain ⟨qn, h⟩ := b.quoinClose_only cal
  rw [h]
@[simp] theorem Bench.quoinClose_fq : (b.quoinClose cal).fq = b.fq := by
  obtain ⟨qn, h⟩ := b.quoinClose_only cal
  rw [h]
@[simp] theorem Bench.quoinClose_cores : (b.quoinClose cal).cores = b.cores := by
  obtain ⟨qn, h⟩ := b.quoinClose_only cal
  rw [h]
@[simp] theorem Bench.quoinClose_pe : (b.quoinClose cal).pe = b.pe := by
  obtain ⟨qn, h⟩ := b.quoinClose_only cal
  rw [h]
@[simp] theorem Bench.quoinClose_le : (b.quoinClose cal).le = b.le := by
  obtain ⟨qn, h⟩ := b.quoinClose_only cal
  rw [h]
@[simp] theorem Bench.quoinClose_gd : (b.quoinClose cal).gd = b.gd := by
  obtain ⟨qn, h⟩ := b.quoinClose_only cal
  rw [h]
@[simp] theorem Bench.quoinClose_mx : (b.quoinClose cal).mx = b.mx := by
  obtain ⟨qn, h⟩ := b.quoinClose_only cal
  rw [h]
@[simp] theorem Bench.quoinClose_rs : (b.quoinClose cal).rs = b.rs := by
  obtain ⟨qn, h⟩ := b.quoinClose_only cal
  rw [h]
@[simp] theorem Bench.quoinClose_ha : (b.quoinClose cal).ha = b.ha := by
  obtain ⟨qn, h⟩ := b.quoinClose_only cal
  rw [h]
@[simp] theorem Bench.quoinClose_fc : (b.quoinClose cal).fc = b.fc := by
  obtain ⟨qn, h⟩ := b.quoinClose_only cal
  rw [h]
@[simp] theorem Bench.quoinClose_can : (b.quoinClose cal).can = b.can := by
  obtain ⟨qn, h⟩ := b.quoinClose_only cal
  rw [h]
@[simp] theorem Bench.quoinClose_kf : (b.quoinClose cal).kf = b.kf := by
  obtain ⟨qn, h⟩ := b.quoinClose_only cal
  rw [h]
@[simp] theorem Bench.quoinClose_dg : (b.quoinClose cal).dg = b.dg := by
  obtain ⟨qn, h⟩ := b.quoinClose_only cal
  rw [h]
@[simp] theorem Bench.quoinClose_hl : (b.quoinClose cal).hl = b.hl := by
  obtain ⟨qn, h⟩ := b.quoinClose_only cal
  rw [h]
@[simp] theorem Bench.quoinClose_nl : (b.quoinClose cal).nl = b.nl := by
  obtain ⟨qn, h⟩ := b.quoinClose_only cal
  rw [h]
@[simp] theorem Bench.quoinClose_snap : (b.quoinClose cal).snap = b.snap := by
  obtain ⟨qn, h⟩ := b.quoinClose_only cal
  rw [h]
@[simp] theorem Bench.quoinClose_snapOk : (b.quoinClose cal).snapOk = b.snapOk := by
  obtain ⟨qn, h⟩ := b.quoinClose_only cal
  rw [h]
@[simp] theorem Bench.quoinClose_dgTaps : (b.quoinClose cal).dgTaps = b.dgTaps := by
  obtain ⟨qn, h⟩ := b.quoinClose_only cal
  rw [h]
@[simp] theorem Bench.quoinClose_kfTaps : (b.quoinClose cal).kfTaps = b.kfTaps := by
  obtain ⟨qn, h⟩ := b.quoinClose_only cal
  rw [h]
@[simp] theorem Bench.quoinClose_free : (b.quoinClose cal).free = b.free := by
  obtain ⟨qn, h⟩ := b.quoinClose_only cal
  rw [h]
end quoinClose

end Sys2Proof.Machine
end

