-- ==== Sys2Proof/Laws/Table.lean ====
section
/-!
SUPPORT. Laws of the sparse tables (memory among them): reading after writing, the frame of a write, and that every
operation keeps the canonical form.
-/
namespace Sys2Proof.Machine

variable {α : Type}

@[simp] theorem Tbl.get_nil (d : α) (k : Nat) : Tbl.get d [] k = d := rfl

/-- An index below all those listed reads as the unlisted value. -/
theorem Tbl.get_of_above (d : α) {k n : Nat} : ∀ {t : Tbl α}, Tbl.above n t = true → k ≤ n → Tbl.get d t k = d
  | [], _, _ => rfl
  | (i, v) :: r, h, hk => by
    simp only [Tbl.above, Bool.and_eq_true, decide_eq_true_eq] at h
    have hi : i ≠ k := by omega
    simp only [Tbl.get, hi, if_false]
    exact Tbl.get_of_above d h.2 hk

theorem Tbl.above_mono {n m : Nat} (h : m ≤ n) : ∀ {t : Tbl α}, Tbl.above n t = true → Tbl.above m t = true
  | [], _ => rfl
  | (i, v) :: r, ht => by
    simp only [Tbl.above, Bool.and_eq_true, decide_eq_true_eq] at ht ⊢
    exact ⟨by omega, Tbl.above_mono h ht.2⟩

@[simp] theorem Tbl.get_insert_self (d : α) (k : Nat) (v : α) : ∀ t : Tbl α, Tbl.get d (Tbl.insert k v t) k = v
  | [] => by simp [Tbl.insert, Tbl.get]
  | (i, u) :: r => by
    unfold Tbl.insert
    split
    · simp [Tbl.get]
    · split
      · simp [Tbl.get]
      · rename_i h
        simp only [Tbl.get, h, if_false]
        exact Tbl.get_insert_self d k v r

theorem Tbl.get_insert_other (d : α) {k j : Nat} (v : α) (h : j ≠ k) :
    ∀ t : Tbl α, Tbl.get d (Tbl.insert k v t) j = Tbl.get d t j
  | [] => by simp [Tbl.insert, Tbl.get, Ne.symm h]
  | (i, u) :: r => by
    unfold Tbl.insert
    split
    · simp [Tbl.get, Ne.symm h]
    · split
      · rename_i hi; subst hi; simp [Tbl.get, Ne.symm h]
      · simp only [Tbl.get]
        split
        · rfl
        · exact Tbl.get_insert_other d v h r

theorem Tbl.get_erase_other (d : α) {k j : Nat} (h : j ≠ k) : ∀ t : Tbl α, Tbl.get d (Tbl.erase k t) j = Tbl.get d t j
  | [] => rfl
  | (i, u) :: r => by
    unfold Tbl.erase
    split
    · rename_i hi; subst hi; rw [Tbl.get_erase_other d h r]; simp [Tbl.get, Ne.symm h]
    · simp only [Tbl.get]
      split
      · rfl
      · exact Tbl.get_erase_other d h r

theorem Tbl.above_insert {n k : Nat} {v : α} (hk : n < k) : ∀ {t : Tbl α}, Tbl.above n t = true → Tbl.above n (Tbl.insert k v t) = true
  | [], _ => by simp [Tbl.insert, Tbl.above, hk]
  | (i, u) :: r, h => by
    simp only [Tbl.above, Bool.and_eq_true, decide_eq_true_eq] at h
    unfold Tbl.insert
    split
    · simp [Tbl.above, hk, h.1, h.2]
    · split
      · simp [Tbl.above, hk, h.2]
      · simp [Tbl.above, h.1, Tbl.above_insert hk h.2]

theorem Tbl.above_erase {n k : Nat} : ∀ {t : Tbl α}, Tbl.above n t = true → Tbl.above n (Tbl.erase k t) = true
  | [], h => h
  | (i, u) :: r, h => by
    simp only [Tbl.above, Bool.and_eq_true, decide_eq_true_eq] at h
    unfold Tbl.erase
    split
    · exact Tbl.above_erase h.2
    · simp [Tbl.above, h.1, Tbl.above_erase h.2]

/-- An index whose entries are gone reads as the unlisted value. -/
theorem Tbl.get_erase_self {d : α} {k : Nat} : ∀ {t : Tbl α}, Tbl.get d (Tbl.erase k t) k = d
  | [] => rfl
  | (i, u) :: r => by
    unfold Tbl.erase
    split
    · exact Tbl.get_erase_self
    · rename_i hi; simp only [Tbl.get, hi, if_false]; exact Tbl.get_erase_self

section Wf
variable [DecidableEq α]

/-- Listed values of a canonical table. -/
theorem Tbl.wf_cons {d : α} {i : Nat} {v : α} {r : Tbl α} :
    Tbl.wf d ((i, v) :: r) = true ↔ v ≠ d ∧ Tbl.above i r = true ∧ Tbl.wf d r = true := by
  simp [Tbl.wf, and_assoc]

theorem Tbl.wf_insert {d : α} {k : Nat} {v : α} (hv : v ≠ d) :
    ∀ {t : Tbl α}, Tbl.wf d t = true → Tbl.wf d (Tbl.insert k v t) = true
  | [], _ => by simp [Tbl.insert, Tbl.wf, Tbl.above, hv]
  | (i, u) :: r, h => by
    have ⟨hu, ha, hr⟩ := Tbl.wf_cons.mp h
    unfold Tbl.insert
    split
    · rename_i hk
      exact Tbl.wf_cons.mpr ⟨hv, by simp [Tbl.above, hk, Tbl.above_mono (Nat.le_of_lt hk) ha], h⟩
    · split
      · rename_i hi; subst hi; exact Tbl.wf_cons.mpr ⟨hv, ha, hr⟩
      · exact Tbl.wf_cons.mpr ⟨hu, Tbl.above_insert (by omega) ha, Tbl.wf_insert hv hr⟩

theorem Tbl.wf_erase {d : α} {k : Nat} : ∀ {t : Tbl α}, Tbl.wf d t = true → Tbl.wf d (Tbl.erase k t) = true
  | [], h => h
  | (i, u) :: r, h => by
    have ⟨hu, ha, hr⟩ := Tbl.wf_cons.mp h
    unfold Tbl.erase
    split
    · exact Tbl.wf_erase hr
    · exact Tbl.wf_cons.mpr ⟨hu, Tbl.above_erase ha, Tbl.wf_erase hr⟩

/-- A write keeps the canonical form. -/
theorem Tbl.wf_set {d : α} {t : Tbl α} {k : Nat} {v : α} (h : Tbl.wf d t = true) : Tbl.wf d (Tbl.set d t k v) = true := by
  unfold Tbl.set
  split
  · exact Tbl.wf_erase h
  · exact Tbl.wf_insert ‹_› h

theorem Tbl.wf_modify {d : α} {t : Tbl α} {k : Nat} {f : α → α} (h : Tbl.wf d t = true) :
    Tbl.wf d (Tbl.modify d t k f) = true := Tbl.wf_set h

theorem Tbl.above_mapAll {d : α} {n : Nat} {f : Nat → α → α} :
    ∀ {t : Tbl α}, Tbl.above n t = true → Tbl.above n (Tbl.mapAll d f t) = true
  | [], h => h
  | (i, u) :: r, h => by
    simp only [Tbl.above, Bool.and_eq_true, decide_eq_true_eq] at h
    unfold Tbl.mapAll
    split
    · exact Tbl.above_erase (Tbl.above_mapAll h.2)
    · simp [Tbl.above, h.1, Tbl.above_mapAll h.2]

/-- Changing every entry keeps the canonical form. -/
theorem Tbl.wf_mapAll {d : α} {f : Nat → α → α} : ∀ {t : Tbl α}, Tbl.wf d t = true → Tbl.wf d (Tbl.mapAll d f t) = true
  | [], h => h
  | (i, u) :: r, h => by
    have ⟨_, ha, hr⟩ := Tbl.wf_cons.mp h
    unfold Tbl.mapAll
    split
    · exact Tbl.wf_erase (Tbl.wf_mapAll hr)
    · exact Tbl.wf_cons.mpr ⟨‹_›, Tbl.above_mapAll ha, Tbl.wf_mapAll hr⟩

/-- Reading what has been written. -/
@[simp] theorem Tbl.get_set_self {d : α} {t : Tbl α} {k : Nat} {v : α} : Tbl.get d (Tbl.set d t k v) k = v := by
  unfold Tbl.set
  split
  · rename_i hv; rw [hv]; exact Tbl.get_erase_self
  · exact Tbl.get_insert_self d k v t

/-- A write leaves every other index as it was. -/
theorem Tbl.get_set_other {d : α} {t : Tbl α} {k j : Nat} {v : α} (h : j ≠ k) :
    Tbl.get d (Tbl.set d t k v) j = Tbl.get d t j := by
  unfold Tbl.set
  split
  · exact Tbl.get_erase_other d h t
  · exact Tbl.get_insert_other d v h t

/-- Reading after every entry has been changed, for a change that leaves the unlisted value as it is. -/
theorem Tbl.get_mapAll {d : α} {f : Nat → α → α} {k : Nat} (h : f k d = d) :
    ∀ {t : Tbl α}, Tbl.get d (Tbl.mapAll d f t) k = f k (Tbl.get d t k)
  | [] => h.symm
  | (i, u) :: r => by
    unfold Tbl.mapAll
    by_cases hi : i = k
    · subst hi
      split
      · rename_i hv; simp [Tbl.get_erase_self, Tbl.get, hv]
      · simp [Tbl.get]
    · split
      · rw [Tbl.get_erase_other d (Ne.symm hi), Tbl.get_mapAll h]; simp [Tbl.get, hi]
      · simp [Tbl.get, hi, Tbl.get_mapAll h]

end Wf

/-! ### Instance memory -/

/-- A little-endian store keeps the canonical form. -/
theorem writeLe_wf : ∀ (n : Nat) {m : Tbl Byte} {a v : Nat}, Tbl.wf 0 m = true → Tbl.wf 0 (writeLe m a v n) = true
  | 0, _, _, _, h => h
  | n + 1, _, _, _, h => writeLe_wf n (Tbl.wf_set h)

/-- A store leaves every byte outside its own as it was. -/
theorem writeLe_other : ∀ (n : Nat) {m : Tbl Byte} {a v j : Nat}, (j < a ∨ a + n ≤ j) →
    Tbl.get 0 (writeLe m a v n) j = Tbl.get 0 m j
  | 0, _, _, _, _, _ => rfl
  | n + 1, m, a, v, j, h => by
    rw [writeLe, writeLe_other n (by omega), Tbl.get_set_other (by omega)]

/-- A load after a store at the same place gives the value stored, cut to its bytes. -/
theorem readLe_writeLe : ∀ (n : Nat) {m : Tbl Byte} {a v : Nat}, readLe (writeLe m a v n) a n = v % 2 ^ (8 * n)
  | 0, _, _, v => by simp [readLe, Nat.mod_one]
  | n + 1, m, a, v => by
    rw [writeLe, readLe, readLe_writeLe n, writeLe_other n (Or.inl (Nat.lt_succ_self a)), Tbl.get_set_self]
    have : 2 ^ (8 * (n + 1)) = 256 * 2 ^ (8 * n) := by rw [Nat.mul_add, Nat.pow_add]; omega
    rw [this, Nat.mod_mul]
    simp [BitVec.toNat_ofNat]

end Sys2Proof.Machine
end

