-- ==== Sys2Proof/Laws/Module.lean ====
section
/-!
SUPPORT. Laws of putting a bench back: what the module, the other benches and the bench itself read afterwards.
-/
namespace Sys2Proof.Machine

variable (s : State) (n : BenchIx) (b : Bench)

/-- Putting a bench back leaves the queue and the other benches as they were, and the bench is as given but for a
Quoin session that closes. -/
theorem State.putBench_spec : ∃ hub b', s.putBench n b = { s with benches := s.benches.set n b', hub := hub } ∧
    (b' = b ∨ b' = b.quoinClose s.hub.calNow) := by
  by_cases hc : b.bn.mode = .configure
  · by_cases hf : (0 < (s.bench n).forceCount) = (0 < b.forceCount)
    · simp only [State.putBench, hc, hf, if_true]
      split <;> exact ⟨_, _, rfl, .inl rfl⟩
    · simp only [State.putBench, hc, hf, if_true, if_false]
      split <;> exact ⟨_, _, rfl, .inl rfl⟩
  · by_cases hf : (0 < (s.bench n).forceCount) = (0 < (b.quoinClose s.hub.calNow).forceCount)
    · simp only [State.putBench, hc, hf, if_true, if_false]
      split <;> exact ⟨_, _, rfl, .inr rfl⟩
    · simp only [State.putBench, hc, hf, if_false]
      split <;> exact ⟨_, _, rfl, .inr rfl⟩

@[simp] theorem State.putBench_pending : (s.putBench n b).pending = s.pending := by
  obtain ⟨_, _, h, _⟩ := s.putBench_spec n b
  rw [h]

theorem State.putBench_other {m : BenchIx} (h : m ≠ n) : (s.putBench n b).bench m = s.bench m := by
  obtain ⟨_, _, e, _⟩ := s.putBench_spec n b
  have hv : n.val ≠ m.val := fun e => h (Fin.ext e.symm)
  rw [e]
  simp [State.bench, Vector.getElem_set_ne, hv]

theorem State.putBench_self : (s.putBench n b).bench n = b ∨ (s.putBench n b).bench n = b.quoinClose s.hub.calNow := by
  obtain ⟨_, b', e, h⟩ := s.putBench_spec n b
  rw [e]
  simpa [State.bench] using h

/-- Putting a bench back touches nothing beyond it. -/
theorem State.putBench_only : OnlyBench n s (s.putBench n b) :=
  ⟨fun _ h => s.putBench_other n b h, s.putBench_pending n b⟩

@[simp] theorem State.putBench_ix : ((s.putBench n b).bench n).ix = b.ix := by
  rcases s.putBench_self n b with h | h <;> simp [h]
@[simp] theorem State.putBench_bn : ((s.putBench n b).bench n).bn = b.bn := by
  rcases s.putBench_self n b with h | h <;> simp [h]
@[simp] theorem State.putBench_rail : ((s.putBench n b).bench n).rail = b.rail := by
  rcases s.putBench_self n b with h | h <;> simp [h]
@[simp] theorem State.putBench_fn : ((s.putBench n b).bench n).fn = b.fn := by
  rcases s.putBench_self n b with h | h <;> simp [h]
@[simp] theorem State.putBench_qc : ((s.putBench n b).bench n).qc = b.qc := by
  rcases s.putBench_self n b with h | h <;> simp [h]
@[simp] theorem State.putBench_ev : ((s.putBench n b).bench n).ev = b.ev := by
  rcases s.putBench_self n b with h | h <;> simp [h]
@[simp] theorem State.putBench_points : ((s.putBench n b).bench n).points = b.points := by
  rcases s.putBench_self n b with h | h <;> simp [h]
@[simp] theorem State.putBench_conf : ((s.putBench n b).bench n).conf = b.conf := by
  rcases s.putBench_self n b with h | h <;> simp [h]
@[simp] theorem State.putBench_inst : ((s.putBench n b).bench n).inst = b.inst := by
  rcases s.putBench_self n b with h | h <;> simp [h]
@[simp] theorem State.putBench_sc : ((s.putBench n b).bench n).sc = b.sc := by
  rcases s.putBench_self n b with h | h <;> simp [h]
@[simp] theorem State.putBench_fq : ((s.putBench n b).bench n).fq = b.fq := by
  rcases s.putBench_self n b with h | h <;> simp [h]
@[simp] theorem State.putBench_cores : ((s.putBench n b).bench n).cores = b.cores := by
  rcases s.putBench_self n b with h | h <;> simp [h]
@[simp] theorem State.putBench_pe : ((s.putBench n b).bench n).pe = b.pe := by
  rcases s.putBench_self n b with h | h <;> simp [h]
@[simp] theorem State.putBench_le : ((s.putBench n b).bench n).le = b.le := by
  rcases s.putBench_self n b with h | h <;> simp [h]
@[simp] theorem State.putBench_gd : ((s.putBench n b).bench n).gd = b.gd := by
  rcases s.putBench_self n b with h | h <;> simp [h]
@[simp] theorem State.putBench_mx : ((s.putBench n b).bench n).mx = b.mx := by
  rcases s.putBench_self n b with h | h <;> simp [h]
@[simp] theorem State.putBench_rs : ((s.putBench n b).bench n).rs = b.rs := by
  rcases s.putBench_self n b with h | h <;> simp [h]
@[simp] theorem State.putBench_ha : ((s.putBench n b).bench n).ha = b.ha := by
  rcases s.putBench_self n b with h | h <;> simp [h]
@[simp] theorem State.putBench_fc : ((s.putBench n b).bench n).fc = b.fc := by
  rcases s.putBench_self n b with h | h <;> simp [h]
@[simp] theorem State.putBench_can : ((s.putBench n b).bench n).can = b.can := by
  rcases s.putBench_self n b with h | h <;> simp [h]
@[simp] theorem State.putBench_kf : ((s.putBench n b).bench n).kf = b.kf := by
  rcases s.putBench_self n b with h | h <;> simp [h]
@[simp] theorem State.putBench_dg : ((s.putBench n b).bench n).dg = b.dg := by
  rcases s.putBench_self n b with h | h <;> simp [h]
@[simp] theorem State.putBench_hl : ((s.putBench n b).bench n).hl = b.hl := by
  rcases s.putBench_self n b with h | h <;> simp [h]
@[simp] theorem State.putBench_nl : ((s.putBench n b).bench n).nl = b.nl := by
  rcases s.putBench_self n b with h | h <;> simp [h]
@[simp] theorem State.putBench_snap : ((s.putBench n b).bench n).snap = b.snap := by
  rcases s.putBench_self n b with h | h <;> simp [h]
@[simp] theorem State.putBench_snapOk : ((s.putBench n b).bench n).snapOk = b.snapOk := by
  rcases s.putBench_self n b with h | h <;> simp [h]
@[simp] theorem State.putBench_dgTaps : ((s.putBench n b).bench n).dgTaps = b.dgTaps := by
  rcases s.putBench_self n b with h | h <;> simp [h]
@[simp] theorem State.putBench_kfTaps : ((s.putBench n b).bench n).kfTaps = b.kfTaps := by
  rcases s.putBench_self n b with h | h <;> simp [h]
@[simp] theorem State.putBench_free : ((s.putBench n b).bench n).free = b.free := by
  rcases s.putBench_self n b with h | h <;> simp [h]

/-- Quoin closes: nothing happens when no session is open. -/
theorem Bench.quoinClose_none (cal : Nat) (h : b.qn.session = none) : b.quoinClose cal = b := by
  unfold Bench.quoinClose
  rw [h]

/-- A closed session leaves none open. -/
theorem Bench.quoinClose_session (cal : Nat) : (b.quoinClose cal).qn.session = none := by
  unfold Bench.quoinClose
  split
  · assumption
  · rfl

/-- Outside CONFIGURE no session is left open (R381). -/
theorem State.putBench_closed (h : ((s.putBench n b).bench n).bn.mode ≠ .configure) :
    ((s.putBench n b).bench n).qn.session = none := by
  rw [State.putBench_bn] at h
  have hv : ∀ x : Bench, (s.benches.set n x)[n] = x := fun x => by simp
  have e : (s.putBench n b).bench n = b.quoinClose s.hub.calNow := by
    by_cases hf : (0 < (s.bench n).forceCount) = (0 < (b.quoinClose s.hub.calNow).forceCount)
    · simp only [State.putBench, h, hf, if_true, if_false]
      split <;> exact hv _
    · simp only [State.putBench, h, hf, if_false]
      split <;> exact hv _
  rw [e]
  exact Bench.quoinClose_session _ _

/-- Sessions stay closed when a bench is put back. -/
theorem State.putBench_sessions (h : s.SessionsClosed) : (s.putBench n b).SessionsClosed := by
  intro m hm
  by_cases e : m = n
  · subst e; exact s.putBench_closed m b hm
  · rw [s.putBench_other n b e] at hm ⊢
    exact h m hm

/-- A property of all benches that the new bench has exactly if the old one had it. -/
theorem State.all_set {P : Bench → Bool} (h : P b = P (s.bench n)) :
    (s.benches.set n b).toList.all P = s.benches.toList.all P := by
  rw [Bool.eq_iff_iff]
  simp only [List.all_eq_true, Vector.mem_toList_iff, Vector.mem_iff_getElem]
  constructor
  · rintro H x ⟨i, hi, rfl⟩
    by_cases e : n.val = i
    · subst e
      rw [show s.benches[n.val] = s.bench n from rfl, ← h]
      exact H b ⟨n.val, n.isLt, by simp⟩
    · exact H _ ⟨i, hi, Vector.getElem_set_ne _ _ e⟩
  · rintro H x ⟨i, hi, rfl⟩
    by_cases e : n.val = i
    · subst e
      rw [Vector.getElem_set_self, h]
      exact H _ ⟨n.val, n.isLt, rfl⟩
    · rw [Vector.getElem_set_ne _ _ e]
      exact H _ ⟨i, hi, rfl⟩

/-- A bench put back with its mode, its forces and no open session: nothing but the bench changes. -/
theorem State.putBench_eq (hm : b.bn.mode = (s.bench n).bn.mode) (hf : b.pe.forces = (s.bench n).pe.forces)
    (hq : b.bn.mode ≠ .configure → b.qn.session = none) : s.putBench n b = s.withBench n b := by
  have hb : (if b.bn.mode = .configure then b else b.quoinClose s.hub.calNow) = b := by
    split
    · rfl
    · exact Bench.quoinClose_none b _ (hq ‹_›)
  have hc : (s.bench n).forceCount = b.forceCount := by unfold Bench.forceCount; rw [hf]
  have ha : (s.withBench n b).allAwake = s.allAwake := s.all_set n b (by rw [hm])
  unfold State.putBench
  simp only [hb, hc, if_true]
  change (if (!s.allAwake && (s.withBench n b).allAwake) = true then _ else s.withBench n b) = s.withBench n b
  rw [ha]
  simp

/-- An outcome on one bench is a next state. -/
theorem State.onBench_next (f : Bench → Bench) : s.onBench n f = .next (s.putBench n (f (s.bench n))) := rfl

end Sys2Proof.Machine
end

