-- ==== Sys2Proof/Laws/Coith.lean ====
section
/-!
SUPPORT. What a Coith instruction does to the state, once for each shape: an operation of the core alone, and an operation
of the core and its bench.
-/
namespace Sys2Proof.Machine

variable {s : State} {k : CoreRef}

/-- An instruction that acts on its bench: the bench put back. -/
theorem State.onCore_next (h : s.CoreRuns k) (i : Instr) (hi : (s.bench k.bench).spells k i = true) (f : Core → Bench → Bench) :
    s.onCore k i f = .next (s.putBench k.bench (f (s.core k) (s.bench k.bench))) := by
  unfold State.onCore
  rw [State.onBench_next, if_pos hi, h.2.1]
  rfl

/-- The same, when mode, forces and Quoin session stay: nothing but the bench changes. -/
theorem State.onCore_eq (h : s.CoreRuns k) (i : Instr) (f : Core → Bench → Bench)
    (hm : (f (s.core k) (s.bench k.bench)).bn.mode = (s.bench k.bench).bn.mode)
    (hf : (f (s.core k) (s.bench k.bench)).pe.forces = (s.bench k.bench).pe.forces)
    (hq : (f (s.core k) (s.bench k.bench)).qn = (s.bench k.bench).qn) (hi : (s.bench k.bench).spells k i = true) :
    s.onCore k i f = .next (s.withBench k.bench (f (s.core k) (s.bench k.bench))) := by
  rw [s.onCore_next h i hi, State.putBench_eq _ _ _ hm hf]
  intro e
  rw [hq]
  exact h.2.2 k.bench (hm ▸ e)

/-- An instruction that changes its core only. -/
theorem State.onCore_core (h : s.CoreRuns k) (i : Instr) (hi : (s.bench k.bench).spells k i = true) (f : Core → Bench → Core) :
    (s.onCore k i fun c b => b.setCore k.core (f c b)) = .next (s.withCore k (f (s.core k) (s.bench k.bench))) :=
  s.onCore_eq h i _ rfl rfl rfl hi

/-- An instruction that changes its core only and goes on. -/
theorem State.coreOp_next (h : s.CoreRuns k) (i : Instr) (hi : (s.bench k.bench).spells k i = true) (f : Core → Core) :
    s.coreOp k i f = .next (s.withCore k (f (s.core k)).step4) :=
  s.onCore_core h i hi fun c _ => (f c).step4

/-- A result written without a flag. -/
theorem State.coreOp_setReg (h : s.CoreRuns k) (i : Instr) (hi : (s.bench k.bench).spells k i = true) (d : Reg) (f : Core → Word) :
    (s.coreOp k i fun c => c.setReg d (f c)) = .next (s.wrote k d (f (s.core k)) 0) := by
  rw [s.coreOp_next h i hi]
  unfold State.wrote Core.flag
  simp

/-- A result written with its flags. -/
theorem State.coreOp_put (h : s.CoreRuns k) (i : Instr) (hi : (s.bench k.bench).spells k i = true) (d : Reg)
    (f : Core → Word × Sticky) :
    (s.coreOp k i fun c => c.put d (f c)) = .next (s.wrote k d (f (s.core k)).1 (f (s.core k)).2) := s.coreOp_next h i hi _

/-- A result in the accumulator. -/
theorem State.coreOp_putA (h : s.CoreRuns k) (i : Instr) (hi : (s.bench k.bench).spells k i = true)
    (f : Core → BitVec 40 × Sticky) :
    (s.coreOp k i fun c => Core.putA (f c) c) = .next (s.wroteA k (f (s.core k)).1 (f (s.core k)).2) := s.coreOp_next h i hi _

@[simp] theorem State.withCore_core (c : Core) : (s.withCore k c).core k = c := by
  simp [State.withCore, State.withBench, State.core, State.bench, Bench.setCore]

end Sys2Proof.Machine
end

