-- ==== Sys2Proof/Laws/Dispatch.lean ====
section
/-!
SUPPORT. The dispatch, one equation per row: proofs rewrite with these and never unfold the whole match.
-/
namespace Sys2Proof.Machine

@[simp] theorem exec_benchRun : ∀ c s, exec (.benchRun c) s = execBenchRun c s := fun _ _ => rfl
@[simp] theorem exec_benchShadow : ∀ c s, exec (.benchShadow c) s = execBenchShadow c s := fun _ _ => rfl
@[simp] theorem exec_benchHold : ∀ c s, exec (.benchHold c) s = execBenchHold c s := fun _ _ => rfl
@[simp] theorem exec_benchWarmRestart : ∀ c target s, exec (.benchWarmRestart c target) s = execBenchWarmRestart c target s := fun _ _ _ => rfl
@[simp] theorem exec_benchColdStart : ∀ c s, exec (.benchColdStart c) s = execBenchColdStart c s := fun _ _ => rfl
@[simp] theorem exec_benchStop : ∀ c s, exec (.benchStop c) s = execBenchStop c s := fun _ _ => rfl
@[simp] theorem exec_benchReset : ∀ c s, exec (.benchReset c) s = execBenchReset c s := fun _ _ => rfl
@[simp] theorem exec_hostKeepalive : ∀ c s, exec (.hostKeepalive c) s = execHostKeepalive c s := fun _ _ => rfl
@[simp] theorem exec_progLoad : ∀ c img s, exec (.progLoad c img) s = execProgLoad c img s := fun _ _ _ => rfl
@[simp] theorem exec_progActivate : ∀ c s, exec (.progActivate c) s = execProgActivate c s := fun _ _ => rfl
@[simp] theorem exec_progChange : ∀ c ack maxDefer s, exec (.progChange c ack maxDefer) s = execProgChange c ack maxDefer s := fun _ _ _ _ => rfl
@[simp] theorem exec_progChangeAbort : ∀ c s, exec (.progChangeAbort c) s = execProgChangeAbort c s := fun _ _ => rfl
@[simp] theorem exec_progSetTiming : ∀ c task p ph off d g s, exec (.progSetTiming c task p ph off d g) s = execProgSetTiming c task p ph off d g s := fun _ _ _ _ _ _ _ _ => rfl
@[simp] theorem exec_forceSet : ∀ c point value s, exec (.forceSet c point value) s = execForceSet c point value s := fun _ _ _ _ => rfl
@[simp] theorem exec_forceClear : ∀ c point s, exec (.forceClear c point) s = execForceClear c point s := fun _ _ _ => rfl
@[simp] theorem exec_loopSetMode : ∀ c w s, exec (.loopSetMode c w) s = execLoopSetMode c w s := fun _ _ _ => rfl
@[simp] theorem exec_loopSetSp : ∀ c w sp s, exec (.loopSetSp c w sp) s = execLoopSetSp c w sp s := fun _ _ _ _ => rfl
@[simp] theorem exec_loopSetOut : ∀ c w out s, exec (.loopSetOut c w out) s = execLoopSetOut c w out s := fun _ _ _ _ => rfl
@[simp] theorem exec_loopTune : ∀ c w v0 v1 v2 v3 v4 v5 v6 s, exec (.loopTune c w v0 v1 v2 v3 v4 v5 v6) s = execLoopTune c w v0 v1 v2 v3 v4 v5 v6 s := fun _ _ _ _ _ _ _ _ _ _ => rfl
@[simp] theorem exec_loopSetTable : ∀ c w data s, exec (.loopSetTable c w data) s = execLoopSetTable c w data s := fun _ _ _ _ => rfl
@[simp] theorem exec_loopClear : ∀ c w s, exec (.loopClear c w) s = execLoopClear c w s := fun _ _ _ => rfl
@[simp] theorem exec_rcpLoadSteps : ∀ c first count entries s, exec (.rcpLoadSteps c first count entries) s = execRcpLoadSteps c first count entries s := fun _ _ _ _ _ => rfl
@[simp] theorem exec_rcpStart : ∀ c slot first abort lo hi flags s, exec (.rcpStart c slot first abort lo hi flags) s = execRcpStart c slot first abort lo hi flags s := fun _ _ _ _ _ _ _ _ => rfl
@[simp] theorem exec_rcpPause : ∀ c slot lo hi late s, exec (.rcpPause c slot lo hi late) s = execRcpPause c slot lo hi late s := fun _ _ _ _ _ _ => rfl
@[simp] theorem exec_rcpResume : ∀ c slot lo hi late s, exec (.rcpResume c slot lo hi late) s = execRcpResume c slot lo hi late s := fun _ _ _ _ _ _ => rfl
@[simp] theorem exec_rcpSkip : ∀ c slot step lo hi late s, exec (.rcpSkip c slot step lo hi late) s = execRcpSkip c slot step lo hi late s := fun _ _ _ _ _ _ _ => rfl
@[simp] theorem exec_rcpAbort : ∀ c slot lo hi late s, exec (.rcpAbort c slot lo hi late) s = execRcpAbort c slot lo hi late s := fun _ _ _ _ _ _ => rfl
@[simp] theorem exec_mxMove : ∀ c w target lo hi s, exec (.mxMove c w target lo hi) s = execMxMove c w target lo hi s := fun _ _ _ _ _ _ => rfl
@[simp] theorem exec_mxJog : ∀ c w lo hi s, exec (.mxJog c w lo hi) s = execMxJog c w lo hi s := fun _ _ _ _ _ => rfl
@[simp] theorem exec_mxSetDyn : ∀ c w vmax acc dec s, exec (.mxSetDyn c w vmax acc dec) s = execMxSetDyn c w vmax acc dec s := fun _ _ _ _ _ _ => rfl
@[simp] theorem exec_mxStop : ∀ c w s, exec (.mxStop c w) s = execMxStop c w s := fun _ _ _ => rfl
@[simp] theorem exec_mxHome : ∀ c w lo hi s, exec (.mxHome c w lo hi) s = execMxHome c w lo hi s := fun _ _ _ _ _ => rfl
@[simp] theorem exec_mxSetPos : ∀ c w p s, exec (.mxSetPos c w p) s = execMxSetPos c w p s := fun _ _ _ _ => rfl
@[simp] theorem exec_mxClear : ∀ c w s, exec (.mxClear c w) s = execMxClear c w s := fun _ _ _ => rfl
@[simp] theorem exec_faceFaultClear : ∀ c s, exec (.faceFaultClear c) s = execFaceFaultClear c s := fun _ _ => rfl
@[simp] theorem exec_faceEncSet : ∀ c w count lo hi s, exec (.faceEncSet c w count lo hi) s = execFaceEncSet c w count lo hi s := fun _ _ _ _ _ _ => rfl
@[simp] theorem exec_qnUnlock : ∀ c pw oper s, exec (.qnUnlock c pw oper) s = execQnUnlock c pw oper s := fun _ _ _ _ => rfl
@[simp] theorem exec_qnLock : ∀ c s, exec (.qnLock c) s = execQnLock c s := fun _ _ => rfl
@[simp] theorem exec_qnCommit : ∀ c crc oper s, exec (.qnCommit c crc oper) s = execQnCommit c crc oper s := fun _ _ _ _ => rfl
@[simp] theorem exec_qnSetPassword : ∀ c old new oper s, exec (.qnSetPassword c old new oper) s = execQnSetPassword c old new oper s := fun _ _ _ _ _ => rfl
@[simp] theorem exec_qnFaultClear : ∀ c oper sources back s, exec (.qnFaultClear c oper sources back) s = execQnFaultClear c oper sources back s := fun _ _ _ _ _ => rfl
@[simp] theorem exec_qnSetRef : ∀ c w pos lo hi s, exec (.qnSetRef c w pos lo hi) s = execQnSetRef c w pos lo hi s := fun _ _ _ _ _ _ => rfl
@[simp] theorem exec_qnLogRead : ∀ c first count s, exec (.qnLogRead c first count) s = execQnLogRead c first count s := fun _ _ _ _ => rfl
@[simp] theorem exec_kfArm : ∀ c w pre post s, exec (.kfArm c w pre post) s = execKfArm c w pre post s := fun _ _ _ _ _ => rfl
@[simp] theorem exec_kfDisarm : ∀ c w s, exec (.kfDisarm c w) s = execKfDisarm c w s := fun _ _ _ => rfl
@[simp] theorem exec_kfTrigger : ∀ c w s, exec (.kfTrigger c w) s = execKfTrigger c w s := fun _ _ _ => rfl
@[simp] theorem exec_kfRead : ∀ c w s, exec (.kfRead c w) s = execKfRead c w s := fun _ _ _ => rfl
@[simp] theorem exec_dgSetProfiles : ∀ c profs s, exec (.dgSetProfiles c profs) s = execDgSetProfiles c profs s := fun _ _ _ => rfl
@[simp] theorem exec_dgCloseNow : ∀ c s, exec (.dgCloseNow c) s = execDgCloseNow c s := fun _ _ => rfl
@[simp] theorem exec_hlRead : ∀ c first count s, exec (.hlRead c first count) s = execHlRead c first count s := fun _ _ _ _ => rfl
@[simp] theorem exec_hlCloseNow : ∀ c s, exec (.hlCloseNow c) s = execHlCloseNow c s := fun _ _ => rfl
@[simp] theorem exec_haulStationSet : ∀ c w s, exec (.haulStationSet c w) s = execHaulStationSet c w s := fun _ _ _ => rfl
@[simp] theorem exec_canRecover : ∀ c w s, exec (.canRecover c w) s = execCanRecover c w s := fun _ _ _ => rfl
@[simp] theorem exec_canObjSet : ∀ c w s, exec (.canObjSet c w) s = execCanObjSet c w s := fun _ _ _ => rfl
@[simp] theorem exec_redunHandover : ∀ c lo hi maxDefer s, exec (.redunHandover c lo hi maxDefer) s = execRedunHandover c lo hi maxDefer s := fun _ _ _ _ _ => rfl
@[simp] theorem exec_redunResync : ∀ c s, exec (.redunResync c) s = execRedunResync c s := fun _ _ => rfl
@[simp] theorem exec_timeSet : ∀ c lo hi s, exec (.timeSet c lo hi) s = execTimeSet c lo hi s := fun _ _ _ _ => rfl
@[simp] theorem exec_timeRead : ∀ c s, exec (.timeRead c) s = execTimeRead c s := fun _ _ => rfl
@[simp] theorem exec_guardOpen : ∀ c oper s, exec (.guardOpen c oper) s = execGuardOpen c oper s := fun _ _ _ => rfl
@[simp] theorem exec_guardClose : ∀ c s, exec (.guardClose c) s = execGuardClose c s := fun _ _ => rfl
@[simp] theorem exec_guardLogRead : ∀ c first count s, exec (.guardLogRead c first count) s = execGuardLogRead c first count s := fun _ _ _ _ => rfl
@[simp] theorem exec_qnPasswordReplace : ∀ c pw s, exec (.qnPasswordReplace c pw) s = execQnPasswordReplace c pw s := fun _ _ _ => rfl
@[simp] theorem exec_debugOpen : ∀ c s, exec (.debugOpen c) s = execDebugOpen c s := fun _ _ => rfl
@[simp] theorem exec_fwLoad : ∀ c version fate s, exec (.fwLoad c version fate) s = execFwLoad c version fate s := fun _ _ _ _ => rfl
@[simp] theorem exec_fwSelect : ∀ c s, exec (.fwSelect c) s = execFwSelect c s := fun _ _ => rfl
@[simp] theorem exec_fwInfo : ∀ c s, exec (.fwInfo c) s = execFwInfo c s := fun _ _ => rfl
@[simp] theorem exec_readStatus : ∀ b noResp s, exec (.readStatus b noResp) s = execReadStatus b noResp s := fun _ _ _ => rfl
@[simp] theorem exec_bedrockHold : ∀ mask noResp s, exec (.bedrockHold mask noResp) s = execBedrockHold mask noResp s := fun _ _ _ => rfl
@[simp] theorem exec_outputsOff : ∀ mask noResp s, exec (.outputsOff mask noResp) s = execOutputsOff mask noResp s := fun _ _ _ => rfl
@[simp] theorem exec_bedrockReset : ∀ b noResp s, exec (.bedrockReset b noResp) s = execBedrockReset b noResp s := fun _ _ _ => rfl
@[simp] theorem exec_releaseCustody : ∀ mask noResp s, exec (.releaseCustody mask noResp) s = execReleaseCustody mask noResp s := fun _ _ _ => rfl
@[simp] theorem exec_readRecord : ∀ b noResp s, exec (.readRecord b noResp) s = execReadRecord b noResp s := fun _ _ _ => rfl
@[simp] theorem exec_readTime : ∀ b noResp s, exec (.readTime b noResp) s = execReadTime b noResp s := fun _ _ _ => rfl
@[simp] theorem exec_coithNop : ∀ k s, exec (.coithNop k) s = execCoithNop k s := fun _ _ => rfl
@[simp] theorem exec_coithAdd : ∀ k d a b h sat s, exec (.coithAdd k d a b h sat) s = execCoithAdd k d a b h sat s := fun _ _ _ _ _ _ _ => rfl
@[simp] theorem exec_coithSub : ∀ k d a b h sat s, exec (.coithSub k d a b h sat) s = execCoithSub k d a b h sat s := fun _ _ _ _ _ _ _ => rfl
@[simp] theorem exec_coithAddi : ∀ k d a imm s, exec (.coithAddi k d a imm) s = execCoithAddi k d a imm s := fun _ _ _ _ _ => rfl
@[simp] theorem exec_coithMul : ∀ k d a b h sat s, exec (.coithMul k d a b h sat) s = execCoithMul k d a b h sat s := fun _ _ _ _ _ _ _ => rfl
@[simp] theorem exec_coithDiv : ∀ k d a b s, exec (.coithDiv k d a b) s = execCoithDiv k d a b s := fun _ _ _ _ _ => rfl
@[simp] theorem exec_coithRem : ∀ k d a b s, exec (.coithRem k d a b) s = execCoithRem k d a b s := fun _ _ _ _ _ => rfl
@[simp] theorem exec_coithAbs : ∀ k d a neg h sat s, exec (.coithAbs k d a neg h sat) s = execCoithAbs k d a neg h sat s := fun _ _ _ _ _ _ _ => rfl
@[simp] theorem exec_coithAnd : ∀ k d a b s, exec (.coithAnd k d a b) s = execCoithAnd k d a b s := fun _ _ _ _ _ => rfl
@[simp] theorem exec_coithOr : ∀ k d a b s, exec (.coithOr k d a b) s = execCoithOr k d a b s := fun _ _ _ _ _ => rfl
@[simp] theorem exec_coithXor : ∀ k d a b s, exec (.coithXor k d a b) s = execCoithXor k d a b s := fun _ _ _ _ _ => rfl
@[simp] theorem exec_coithAndi : ∀ k d a imm s, exec (.coithAndi k d a imm) s = execCoithAndi k d a imm s := fun _ _ _ _ _ => rfl
@[simp] theorem exec_coithOri : ∀ k d a imm s, exec (.coithOri k d a imm) s = execCoithOri k d a imm s := fun _ _ _ _ _ => rfl
@[simp] theorem exec_coithXori : ∀ k d a imm s, exec (.coithXori k d a imm) s = execCoithXori k d a imm s := fun _ _ _ _ _ => rfl
@[simp] theorem exec_coithLui : ∀ k d imm s, exec (.coithLui k d imm) s = execCoithLui k d imm s := fun _ _ _ _ => rfl
@[simp] theorem exec_coithShf : ∀ k d a b op byReg amt s, exec (.coithShf k d a b op byReg amt) s = execCoithShf k d a b op byReg amt s := fun _ _ _ _ _ _ _ _ => rfl
@[simp] theorem exec_coithBit : ∀ k d a ins pos width1 s, exec (.coithBit k d a ins pos width1) s = execCoithBit k d a ins pos width1 s := fun _ _ _ _ _ _ _ => rfl
@[simp] theorem exec_coithMinmax : ∀ k d a b max h s, exec (.coithMinmax k d a b max h) s = execCoithMinmax k d a b max h s := fun _ _ _ _ _ _ _ => rfl
@[simp] theorem exec_coithCmp : ∀ k d a b cond s, exec (.coithCmp k d a b cond) s = execCoithCmp k d a b cond s := fun _ _ _ _ _ _ => rfl
@[simp] theorem exec_coithCmpi : ∀ k d a cond imm s, exec (.coithCmpi k d a cond imm) s = execCoithCmpi k d a cond imm s := fun _ _ _ _ _ _ => rfl
@[simp] theorem exec_coithSel : ∀ k d a b c s, exec (.coithSel k d a b c) s = execCoithSel k d a b c s := fun _ _ _ _ _ _ => rfl
@[simp] theorem exec_coithLim : ∀ k d a b h s, exec (.coithLim k d a b h) s = execCoithLim k d a b h s := fun _ _ _ _ _ _ => rfl
@[simp] theorem exec_coithQmul : ∀ k d a b s, exec (.coithQmul k d a b) s = execCoithQmul k d a b s := fun _ _ _ _ _ => rfl
@[simp] theorem exec_coithMpy : ∀ k a b neg s, exec (.coithMpy k a b neg) s = execCoithMpy k a b neg s := fun _ _ _ _ _ => rfl
@[simp] theorem exec_coithMac : ∀ k a b sub s, exec (.coithMac k a b sub) s = execCoithMac k a b sub s := fun _ _ _ _ _ => rfl
@[simp] theorem exec_coithLda : ∀ k a f s, exec (.coithLda k a f) s = execCoithLda k a f s := fun _ _ _ _ => rfl
@[simp] theorem exec_coithSac : ∀ k d q30 sh s, exec (.coithSac k d q30 sh) s = execCoithSac k d q30 sh s := fun _ _ _ _ _ => rfl
@[simp] theorem exec_coithSta : ∀ k d s, exec (.coithSta k d) s = execCoithSta k d s := fun _ _ _ => rfl
@[simp] theorem exec_coithAsh : ∀ k sh s, exec (.coithAsh k sh) s = execCoithAsh k sh s := fun _ _ _ => rfl
@[simp] theorem exec_coithCls : ∀ k d a ofReg s, exec (.coithCls k d a ofReg) s = execCoithCls k d a ofReg s := fun _ _ _ _ _ => rfl
@[simp] theorem exec_coithFadd : ∀ k d a b sub s, exec (.coithFadd k d a b sub) s = execCoithFadd k d a b sub s := fun _ _ _ _ _ _ => rfl
@[simp] theorem exec_coithFmul : ∀ k d a b s, exec (.coithFmul k d a b) s = execCoithFmul k d a b s := fun _ _ _ _ _ => rfl
@[simp] theorem exec_coithFdiv : ∀ k d a b s, exec (.coithFdiv k d a b) s = execCoithFdiv k d a b s := fun _ _ _ _ _ => rfl
@[simp] theorem exec_coithFsqrt : ∀ k d a s, exec (.coithFsqrt k d a) s = execCoithFsqrt k d a s := fun _ _ _ _ => rfl
@[simp] theorem exec_coithFcmp : ∀ k d a b op s, exec (.coithFcmp k d a b op) s = execCoithFcmp k d a b op s := fun _ _ _ _ _ _ => rfl
@[simp] theorem exec_coithFcvt : ∀ k d a op s, exec (.coithFcvt k d a op) s = execCoithFcvt k d a op s := fun _ _ _ _ _ => rfl
@[simp] theorem exec_coithFmisc : ∀ k d a b op s, exec (.coithFmisc k d a b op) s = execCoithFmisc k d a b op s := fun _ _ _ _ _ _ => rfl
@[simp] theorem exec_coithTadd : ∀ k d a b sub s, exec (.coithTadd k d a b sub) s = execCoithTadd k d a b sub s := fun _ _ _ _ _ _ => rfl
@[simp] theorem exec_coithTcmp : ∀ k d a b op s, exec (.coithTcmp k d a b op) s = execCoithTcmp k d a b op s := fun _ _ _ _ _ _ => rfl
@[simp] theorem exec_coithRdt : ∀ k d op s, exec (.coithRdt k d op) s = execCoithRdt k d op s := fun _ _ _ _ => rfl
@[simp] theorem exec_coithLdw : ∀ k d base off s, exec (.coithLdw k d base off) s = execCoithLdw k d base off s := fun _ _ _ _ _ => rfl
@[simp] theorem exec_coithLdh : ∀ k d base off s, exec (.coithLdh k d base off) s = execCoithLdh k d base off s := fun _ _ _ _ _ => rfl
@[simp] theorem exec_coithLdd : ∀ k d base off s, exec (.coithLdd k d base off) s = execCoithLdd k d base off s := fun _ _ _ _ _ => rfl
@[simp] theorem exec_coithStw : ∀ k d base off s, exec (.coithStw k d base off) s = execCoithStw k d base off s := fun _ _ _ _ _ => rfl
@[simp] theorem exec_coithSth : ∀ k d base off s, exec (.coithSth k d base off) s = execCoithSth k d base off s := fun _ _ _ _ _ => rfl
@[simp] theorem exec_coithStd : ∀ k d base off s, exec (.coithStd k d base off) s = execCoithStd k d base off s := fun _ _ _ _ _ => rfl
@[simp] theorem exec_coithLdx : ∀ k d a b f scale s, exec (.coithLdx k d a b f scale) s = execCoithLdx k d a b f scale s := fun _ _ _ _ _ _ _ => rfl
@[simp] theorem exec_coithStx : ∀ k d a b f scale s, exec (.coithStx k d a b f scale) s = execCoithStx k d a b f scale s := fun _ _ _ _ _ _ _ => rfl
@[simp] theorem exec_coithBr : ∀ k a cond off s, exec (.coithBr k a cond off) s = execCoithBr k a cond off s := fun _ _ _ _ _ => rfl
@[simp] theorem exec_coithLoop : ∀ k d count1 len s, exec (.coithLoop k d count1 len) s = execCoithLoop k d count1 len s := fun _ _ _ _ _ => rfl
@[simp] theorem exec_coithCall : ∀ k fb ioff s, exec (.coithCall k fb ioff) s = execCoithCall k fb ioff s := fun _ _ _ _ => rfl
@[simp] theorem exec_coithRet : ∀ k s, exec (.coithRet k) s = execCoithRet k s := fun _ _ => rfl
@[simp] theorem exec_coithEnd : ∀ k s, exec (.coithEnd k) s = execCoithEnd k s := fun _ _ => rfl
@[simp] theorem exec_coithSetf : ∀ k d a slot s, exec (.coithSetf k d a slot) s = execCoithSetf k d a slot s := fun _ _ _ _ _ => rfl
@[simp] theorem exec_coithPost : ∀ k d a s, exec (.coithPost k d a) s = execCoithPost k d a s := fun _ _ _ _ => rfl
@[simp] theorem exec_coithFwr : ∀ k d a n eop s, exec (.coithFwr k d a n eop) s = execCoithFwr k d a n eop s := fun _ _ _ _ _ _ => rfl
@[simp] theorem exec_coithFrd : ∀ k d a n s, exec (.coithFrd k d a n) s = execCoithFrd k d a n s := fun _ _ _ _ _ => rfl
@[simp] theorem exec_coithPtr : ∀ k d a s, exec (.coithPtr k d a) s = execCoithPtr k d a s := fun _ _ _ _ => rfl
@[simp] theorem exec_coithPtw : ∀ k d a b own s, exec (.coithPtw k d a b own) s = execCoithPtw k d a b own s := fun _ _ _ _ _ _ => rfl
@[simp] theorem exec_coithCsr : ∀ k d a clear s, exec (.coithCsr k d a clear) s = execCoithCsr k d a clear s := fun _ _ _ _ _ => rfl
@[simp] theorem exec_coithMac2 : ∀ k a b s, exec (.coithMac2 k a b) s = execCoithMac2 k a b s := fun _ _ _ _ => rfl
@[simp] theorem exec_coithChk : ∀ k a code s, exec (.coithChk k a code) s = execCoithChk k a code s := fun _ _ _ _ => rfl
@[simp] theorem exec_coithPack : ∀ k d a b s, exec (.coithPack k d a b) s = execCoithPack k d a b s := fun _ _ _ _ _ => rfl
@[simp] theorem exec_coithCrc : ∀ k d a s, exec (.coithCrc k d a) s = execCoithCrc k d a s := fun _ _ _ _ => rfl
@[simp] theorem exec_tapBypass : ∀ s, exec (.tapBypass) s = execTapBypass s := fun _ => rfl
@[simp] theorem exec_tapIdcode : ∀ s, exec (.tapIdcode) s = execTapIdcode s := fun _ => rfl
@[simp] theorem exec_tapSamplePreload : ∀ s, exec (.tapSamplePreload) s = execTapSamplePreload s := fun _ => rfl
@[simp] theorem exec_tapExtest : ∀ s, exec (.tapExtest) s = execTapExtest s := fun _ => rfl
@[simp] theorem exec_tapClamp : ∀ s, exec (.tapClamp) s = execTapClamp s := fun _ => rfl
@[simp] theorem exec_tapHighz : ∀ s, exec (.tapHighz) s = execTapHighz s := fun _ => rfl
@[simp] theorem exec_tapDebug : ∀ s, exec (.tapDebug) s = execTapDebug s := fun _ => rfl
@[simp] theorem exec_registerWrite : ∀ fn off v s, exec (.registerWrite fn off v) s = execRegisterWrite fn off v s := fun _ _ _ _ => rfl
@[simp] theorem exec_unsupportedRequest : ∀ fn write s, exec (.unsupportedRequest fn write) s = execUnsupportedRequest fn write s := fun _ _ _ => rfl
@[simp] theorem exec_lowWordRead : ∀ fn off s, exec (.lowWordRead fn off) s = execLowWordRead fn off s := fun _ _ _ => rfl
@[simp] theorem exec_pointValueRead : ∀ b p s, exec (.pointValueRead b p) s = execPointValueRead b p s := fun _ _ _ => rfl
@[simp] theorem exec_runStateRead : ∀ b slot s, exec (.runStateRead b slot) s = execRunStateRead b slot s := fun _ _ _ => rfl
@[simp] theorem exec_forceCommit : ∀ b j w s, exec (.forceCommit b j w) s = execForceCommit b j w s := fun _ _ _ _ => rfl
@[simp] theorem exec_dbCmdTail : ∀ b v s, exec (.dbCmdTail b v) s = execDbCmdTail b v s := fun _ _ _ => rfl
@[simp] theorem exec_dbCplHead : ∀ b v s, exec (.dbCplHead b v) s = execDbCplHead b v s := fun _ _ _ => rfl
@[simp] theorem exec_dbStrHead : ∀ b v s, exec (.dbStrHead b v) s = execDbStrHead b v s := fun _ _ _ => rfl
@[simp] theorem exec_dbEvtHead : ∀ b v s, exec (.dbEvtHead b v) s = execDbEvtHead b v s := fun _ _ _ => rfl
@[simp] theorem exec_mboxDoorbell : ∀ v s, exec (.mboxDoorbell v) s = execMboxDoorbell v s := fun _ _ => rfl
@[simp] theorem exec_queueEnable : ∀ b q v s, exec (.queueEnable b q v) s = execQueueEnable b q v s := fun _ _ _ _ => rfl
@[simp] theorem exec_queueDisable : ∀ b q v s, exec (.queueDisable b q v) s = execQueueDisable b q v s := fun _ _ _ _ => rfl
@[simp] theorem exec_msixUnmask : ∀ fn v s, exec (.msixUnmask fn v) s = execMsixUnmask fn v s := fun _ _ _ => rfl
@[simp] theorem exec_dropRemainder : ∀ b n s, exec (.dropRemainder b n) s = execDropRemainder b n s := fun _ _ _ => rfl
@[simp] theorem exec_flush : ∀ b n s, exec (.flush b n) s = execFlush b n s := fun _ _ _ => rfl
@[simp] theorem exec_fqHostPop : ∀ b n s, exec (.fqHostPop b n) s = execFqHostPop b n s := fun _ _ _ => rfl
@[simp] theorem exec_fqWr : ∀ b n w s, exec (.fqWr b n w) s = execFqWr b n w s := fun _ _ _ _ => rfl
@[simp] theorem exec_fqWrEop : ∀ b n w s, exec (.fqWrEop b n w) s = execFqWrEop b n w s := fun _ _ _ _ => rfl
@[simp] theorem exec_scCtrlWrite : ∀ b v s, exec (.scCtrlWrite b v) s = execScCtrlWrite b v s := fun _ _ _ => rfl
@[simp] theorem exec_scFlowWrite : ∀ b f v s, exec (.scFlowWrite b f v) s = execScFlowWrite b f v s := fun _ _ _ _ => rfl
@[simp] theorem exec_scQcfgWrite : ∀ b q v s, exec (.scQcfgWrite b q v) s = execScQcfgWrite b q v s := fun _ _ _ _ => rfl
@[simp] theorem exec_fqCfgWrite : ∀ b n v s, exec (.fqCfgWrite b n v) s = execFqCfgWrite b n v s := fun _ _ _ _ => rfl
@[simp] theorem exec_fqSpillWrite : ∀ b n v s, exec (.fqSpillWrite b n v) s = execFqSpillWrite b n v s := fun _ _ _ _ => rfl
@[simp] theorem exec_bnDramCaptureWrite : ∀ b v s, exec (.bnDramCaptureWrite b v) s = execBnDramCaptureWrite b v s := fun _ _ _ => rfl
@[simp] theorem exec_tmPaceLimWrite : ∀ b v s, exec (.tmPaceLimWrite b v) s = execTmPaceLimWrite b v s := fun _ _ _ => rfl
@[simp] theorem exec_tmPaceRestWrite : ∀ b v s, exec (.tmPaceRestWrite b v) s = execTmPaceRestWrite b v s := fun _ _ _ => rfl
@[simp] theorem exec_mdioCmd : ∀ b v s, exec (.mdioCmd b v) s = execMdioCmd b v s := fun _ _ _ => rfl
@[simp] theorem exec_mrDataAccess : ∀ b k write s, exec (.mrDataAccess b k write) s = execMrDataAccess b k write s := fun _ _ _ _ => rfl
@[simp] theorem exec_rxBufferLockRead : ∀ b k buf s, exec (.rxBufferLockRead b k buf) s = execRxBufferLockRead b k buf s := fun _ _ _ _ => rfl
@[simp] theorem exec_rxBufferReleaseRead : ∀ b k buf s, exec (.rxBufferReleaseRead b k buf) s = execRxBufferReleaseRead b k buf s := fun _ _ _ _ => rfl
@[simp] theorem exec_guardWrite : ∀ off v g mram s, exec (.guardWrite off v g mram) s = execGuardWrite off v g mram s := fun _ _ _ _ _ => rfl
@[simp] theorem exec_guardEffect : ∀ b t s, exec (.guardEffect b t) s = execGuardEffect b t s := fun _ _ _ => rfl
@[simp] theorem exec_bnCntClr : ∀ b v s, exec (.bnCntClr b v) s = execBnCntClr b v s := fun _ _ _ => rfl
@[simp] theorem exec_tmCntClr : ∀ b v s, exec (.tmCntClr b v) s = execTmCntClr b v s := fun _ _ _ => rfl
@[simp] theorem exec_scCntClr : ∀ b v s, exec (.scCntClr b v) s = execScCntClr b v s := fun _ _ _ => rfl
@[simp] theorem exec_peCntClr : ∀ b v s, exec (.peCntClr b v) s = execPeCntClr b v s := fun _ _ _ => rfl
@[simp] theorem exec_leCntClr : ∀ b v s, exec (.leCntClr b v) s = execLeCntClr b v s := fun _ _ _ => rfl
@[simp] theorem exec_rsCntClr : ∀ b v s, exec (.rsCntClr b v) s = execRsCntClr b v s := fun _ _ _ => rfl
@[simp] theorem exec_mxCntClr : ∀ b v s, exec (.mxCntClr b v) s = execMxCntClr b v s := fun _ _ _ => rfl
@[simp] theorem exec_fcCntClr : ∀ b v s, exec (.fcCntClr b v) s = execFcCntClr b v s := fun _ _ _ => rfl
@[simp] theorem exec_qnCntClr : ∀ b v s, exec (.qnCntClr b v) s = execQnCntClr b v s := fun _ _ _ => rfl
@[simp] theorem exec_kfCntClr : ∀ b v s, exec (.kfCntClr b v) s = execKfCntClr b v s := fun _ _ _ => rfl
@[simp] theorem exec_dgCntClr : ∀ b v s, exec (.dgCntClr b v) s = execDgCntClr b v s := fun _ _ _ => rfl
@[simp] theorem exec_hlCntClr : ∀ b v s, exec (.hlCntClr b v) s = execHlCntClr b v s := fun _ _ _ => rfl
@[simp] theorem exec_haCntClr : ∀ b v s, exec (.haCntClr b v) s = execHaCntClr b v s := fun _ _ _ => rfl
@[simp] theorem exec_cnCntClr : ∀ b k v s, exec (.cnCntClr b k v) s = execCnCntClr b k v s := fun _ _ _ _ => rfl
@[simp] theorem exec_nlCntClr : ∀ b v s, exec (.nlCntClr b v) s = execNlCntClr b v s := fun _ _ _ => rfl
@[simp] theorem exec_qcCntClr : ∀ b v s, exec (.qcCntClr b v) s = execQcCntClr b v s := fun _ _ _ => rfl
@[simp] theorem exec_gsCntClr : ∀ v s, exec (.gsCntClr v) s = execGsCntClr v s := fun _ _ => rfl
@[simp] theorem exec_functionLevelReset : ∀ fn d3 s, exec (.functionLevelReset fn d3) s = execFunctionLevelReset fn d3 s := fun _ _ _ => rfl
@[simp] theorem exec_hotReset : ∀ s, exec (.hotReset) s = execHotReset s := fun _ => rfl
@[simp] theorem exec_hubReset : ∀ s, exec (.hubReset) s = execHubReset s := fun _ => rfl
@[simp] theorem exec_hostReadError : ∀ b q list s, exec (.hostReadError b q list) s = execHostReadError b q list s := fun _ _ _ _ => rfl
@[simp] theorem exec_commandTake : ∀ b p s, exec (.commandTake b p) s = execCommandTake b p s := fun _ _ _ => rfl
@[simp] theorem exec_streamRecordWrite : ∀ b t s, exec (.streamRecordWrite b t) s = execStreamRecordWrite b t s := fun _ _ _ => rfl
@[simp] theorem exec_interruptCoalesceTimeout : ∀ b t events s, exec (.interruptCoalesceTimeout b t events) s = execInterruptCoalesceTimeout b t events s := fun _ _ _ _ => rfl
@[simp] theorem exec_supplyGood : ∀ t vinA vinB s, exec (.supplyGood t vinA vinB) s = execSupplyGood t vinA vinB s := fun _ _ _ _ => rfl
@[simp] theorem exec_supplyLost : ∀ t s, exec (.supplyLost t) s = execSupplyLost t s := fun _ _ => rfl
@[simp] theorem exec_vinInputLost : ∀ t inputB s, exec (.vinInputLost t inputB) s = execVinInputLost t inputB s := fun _ _ _ => rfl
@[simp] theorem exec_vbatLow : ∀ t s, exec (.vbatLow t) s = execVbatLow t s := fun _ _ => rfl
@[simp] theorem exec_mrstNAssert : ∀ t s, exec (.mrstNAssert t) s = execMrstNAssert t s := fun _ _ => rfl
@[simp] theorem exec_mrstNRelease : ∀ t mid pair s, exec (.mrstNRelease t mid pair) s = execMrstNRelease t mid pair s := fun _ _ _ _ => rfl
@[simp] theorem exec_benchStartComplete : ∀ b t selftest fwCurOk fwAltOk imgOk headerOk guardA guardB quoinA quoinB s, exec (.benchStartComplete b t selftest fwCurOk fwAltOk imgOk headerOk guardA guardB quoinA quoinB) s = execBenchStartComplete b t selftest fwCurOk fwAltOk imgOk headerOk guardA guardB quoinA quoinB s := fun _ _ _ _ _ _ _ _ _ _ _ _ => rfl
@[simp] theorem exec_coreRailLow : ∀ b t s, exec (.coreRailLow b t) s = execCoreRailLow b t s := fun _ _ _ => rfl
@[simp] theorem exec_refLost : ∀ b t refB s, exec (.refLost b t refB) s = execRefLost b t refB s := fun _ _ _ _ => rfl
@[simp] theorem exec_refGood : ∀ b t refB s, exec (.refGood b t refB) s = execRefGood b t refB s := fun _ _ _ _ => rfl
@[simp] theorem exec_timeLockTimeout : ∀ b t checks s, exec (.timeLockTimeout b t checks) s = execTimeLockTimeout b t checks s := fun _ _ _ _ => rfl
@[simp] theorem exec_freeEntered : ∀ b t s, exec (.freeEntered b t) s = execFreeEntered b t s := fun _ _ _ => rfl
@[simp] theorem exec_relockComplete : ∀ b t s, exec (.relockComplete b t) s = execRelockComplete b t s := fun _ _ _ => rfl
@[simp] theorem exec_epochMarker : ∀ b t m checks s, exec (.epochMarker b t m checks) s = execEpochMarker b t m checks s := fun _ _ _ _ _ => rfl
@[simp] theorem exec_syncMarker : ∀ t m s, exec (.syncMarker t m) s = execSyncMarker t m s := fun _ _ _ => rfl
@[simp] theorem exec_syncLost : ∀ t s, exec (.syncLost t) s = execSyncLost t s := fun _ _ => rfl
@[simp] theorem exec_ptmDialogue : ∀ t m s, exec (.ptmDialogue t m) s = execPtmDialogue t m s := fun _ _ _ => rfl
@[simp] theorem exec_paceLow : ∀ b t rate s, exec (.paceLow b t rate) s = execPaceLow b t rate s := fun _ _ _ _ => rfl
@[simp] theorem exec_paceFault : ∀ b t s, exec (.paceFault b t) s = execPaceFault b t s := fun _ _ _ => rfl
@[simp] theorem exec_tjHigh : ∀ b t tj s, exec (.tjHigh b t tj) s = execTjHigh b t tj s := fun _ _ _ _ => rfl
@[simp] theorem exec_tjRecovered : ∀ b t tj s, exec (.tjRecovered b t tj) s = execTjRecovered b t tj s := fun _ _ _ _ => rfl
@[simp] theorem exec_raiseDemand : ∀ b t task s, exec (.raiseDemand b t task) s = execRaiseDemand b t task s := fun _ _ _ _ => rfl
@[simp] theorem exec_barrierFrame : ∀ b t toFace si s, exec (.barrierFrame b t toFace si) s = execBarrierFrame b t toFace si s := fun _ _ _ _ _ => rfl
@[simp] theorem exec_barrierLinkLoss : ∀ b t s, exec (.barrierLinkLoss b t) s = execBarrierLinkLoss b t s := fun _ _ _ => rfl
@[simp] theorem exec_faceLinkLoss : ∀ b t s, exec (.faceLinkLoss b t) s = execFaceLinkLoss b t s := fun _ _ _ => rfl
@[simp] theorem exec_livenessToken : ∀ b t pulse s, exec (.livenessToken b t pulse) s = execLivenessToken b t pulse s := fun _ _ _ _ => rfl
@[simp] theorem exec_livenessLoss : ∀ b t s, exec (.livenessLoss b t) s = execLivenessLoss b t s := fun _ _ _ => rfl
@[simp] theorem exec_facePowerLoss : ∀ b t s, exec (.facePowerLoss b t) s = execFacePowerLoss b t s := fun _ _ _ => rfl
@[simp] theorem exec_diSample : ∀ b t raw low rb lplus s, exec (.diSample b t raw low rb lplus) s = execDiSample b t raw low rb lplus s := fun _ _ _ _ _ _ _ => rfl
@[simp] theorem exec_diChangeAccepted : ∀ b t ch s, exec (.diChangeAccepted b t ch) s = execDiChangeAccepted b t ch s := fun _ _ _ _ => rfl
@[simp] theorem exec_diWireBreak : ∀ b t ch s, exec (.diWireBreak b t ch) s = execDiWireBreak b t ch s := fun _ _ _ _ => rfl
@[simp] theorem exec_fieldWarn : ∀ b t s, exec (.fieldWarn b t) s = execFieldWarn b t s := fun _ _ _ => rfl
@[simp] theorem exec_fieldWarnClear : ∀ b t s, exec (.fieldWarnClear b t) s = execFieldWarnClear b t s := fun _ _ _ => rfl
@[simp] theorem exec_lockout : ∀ b t s, exec (.lockout b t) s = execLockout b t s := fun _ _ _ => rfl
@[simp] theorem exec_reenabled : ∀ b t s, exec (.reenabled b t) s = execReenabled b t s := fun _ _ _ => rfl
@[simp] theorem exec_latchOff : ∀ b t ch s, exec (.latchOff b t ch) s = execLatchOff b t ch s := fun _ _ _ _ => rfl
@[simp] theorem exec_readBackMismatch : ∀ b t ch s, exec (.readBackMismatch b t ch) s = execReadBackMismatch b t ch s := fun _ _ _ _ => rfl
@[simp] theorem exec_aiSample : ∀ b t k x s, exec (.aiSample b t k x) s = execAiSample b t k x s := fun _ _ _ _ _ => rfl
@[simp] theorem exec_aiSampleWrite : ∀ b t k s, exec (.aiSampleWrite b t k) s = execAiSampleWrite b t k s := fun _ _ _ _ => rfl
@[simp] theorem exec_aoSample : ∀ b t m x s, exec (.aoSample b t m x) s = execAoSample b t m x s := fun _ _ _ _ _ => rfl
@[simp] theorem exec_encoderSample : ∀ b t e ra rb rz s, exec (.encoderSample b t e ra rb rz) s = execEncoderSample b t e ra rb rz s := fun _ _ _ _ _ _ _ => rfl
@[simp] theorem exec_encoderUpdate : ∀ b t e s, exec (.encoderUpdate b t e) s = execEncoderUpdate b t e s := fun _ _ _ _ => rfl
@[simp] theorem exec_zCapture : ∀ b t e s, exec (.zCapture b t e) s = execZCapture b t e s := fun _ _ _ _ => rfl
@[simp] theorem exec_inputInstant : ∀ b t task s, exec (.inputInstant b t task) s = execInputInstant b t task s := fun _ _ _ _ => rfl
@[simp] theorem exec_imageCopyDone : ∀ b t task s, exec (.imageCopyDone b t task) s = execImageCopyDone b t task s := fun _ _ _ _ => rfl
@[simp] theorem exec_dispatch : ∀ b t core s, exec (.dispatch b t core) s = execDispatch b t core s := fun _ _ _ _ => rfl
@[simp] theorem exec_endOfLogic : ∀ b t task s, exec (.endOfLogic b t task) s = execEndOfLogic b t task s := fun _ _ _ _ => rfl
@[simp] theorem exec_outputInstant : ∀ b t s, exec (.outputInstant b t) s = execOutputInstant b t s := fun _ _ _ => rfl
@[simp] theorem exec_watchdogTrip : ∀ b t task s, exec (.watchdogTrip b t task) s = execWatchdogTrip b t task s := fun _ _ _ _ => rfl
@[simp] theorem exec_snapshotComplete : ∀ b t s, exec (.snapshotComplete b t) s = execSnapshotComplete b t s := fun _ _ _ => rfl
@[simp] theorem exec_restartCheckDone : ∀ b t fail rest s, exec (.restartCheckDone b t fail rest) s = execRestartCheckDone b t fail rest s := fun _ _ _ _ _ => rfl
@[simp] theorem exec_hostSilence : ∀ b t s, exec (.hostSilence b t) s = execHostSilence b t s := fun _ _ _ => rfl
@[simp] theorem exec_opHoursTick : ∀ b t s, exec (.opHoursTick b t) s = execOpHoursTick b t s := fun _ _ _ => rfl
@[simp] theorem exec_itemOverrun : ∀ b t core s, exec (.itemOverrun b t core) s = execItemOverrun b t core s := fun _ _ _ _ => rfl
@[simp] theorem exec_reorderRelease : ∀ b t flow s, exec (.reorderRelease b t flow) s = execReorderRelease b t flow s := fun _ _ _ _ => rfl
@[simp] theorem exec_fifoNotify : ∀ b t n s, exec (.fifoNotify b t n) s = execFifoNotify b t n s := fun _ _ _ _ => rfl
@[simp] theorem exec_moverPageCopy : ∀ b t s, exec (.moverPageCopy b t) s = execMoverPageCopy b t s := fun _ _ _ => rfl
@[simp] theorem exec_switchGapTest : ∀ b t s, exec (.switchGapTest b t) s = execSwitchGapTest b t s := fun _ _ _ => rfl
@[simp] theorem exec_switch : ∀ b t s, exec (.switch b t) s = execSwitch b t s := fun _ _ _ => rfl
@[simp] theorem exec_loopRead : ∀ b t n s, exec (.loopRead b t n) s = execLoopRead b t n s := fun _ _ _ _ => rfl
@[simp] theorem exec_loopRelease : ∀ b t n margin s, exec (.loopRelease b t n margin) s = execLoopRelease b t n margin s := fun _ _ _ _ _ => rfl
@[simp] theorem exec_conditionCheck : ∀ b t slot s, exec (.conditionCheck b t slot) s = execConditionCheck b t slot s := fun _ _ _ _ => rfl
@[simp] theorem exec_stepBoundary : ∀ b t slot s, exec (.stepBoundary b t slot) s = execStepBoundary b t slot s := fun _ _ _ _ => rfl
@[simp] theorem exec_candidatePrepared : ∀ b t slot step s, exec (.candidatePrepared b t slot step) s = execCandidatePrepared b t slot step s := fun _ _ _ _ _ => rfl
@[simp] theorem exec_commitMoment : ∀ b t slot s, exec (.commitMoment b t slot) s = execCommitMoment b t slot s := fun _ _ _ _ => rfl
@[simp] theorem exec_recipeStartInstant : ∀ b t slot s, exec (.recipeStartInstant b t slot) s = execRecipeStartInstant b t slot s := fun _ _ _ _ => rfl
@[simp] theorem exec_pauseInstant : ∀ b t slot s, exec (.pauseInstant b t slot) s = execPauseInstant b t slot s := fun _ _ _ _ => rfl
@[simp] theorem exec_resumeInstant : ∀ b t slot s, exec (.resumeInstant b t slot) s = execResumeInstant b t slot s := fun _ _ _ _ => rfl
@[simp] theorem exec_skipInstant : ∀ b t slot s, exec (.skipInstant b t slot) s = execSkipInstant b t slot s := fun _ _ _ _ => rfl
@[simp] theorem exec_abortInstant : ∀ b t slot s, exec (.abortInstant b t slot) s = execAbortInstant b t slot s := fun _ _ _ _ => rfl
@[simp] theorem exec_moveStart : ∀ b t a s, exec (.moveStart b t a) s = execMoveStart b t a s := fun _ _ _ _ => rfl
@[simp] theorem exec_stepEdge : ∀ b t a s, exec (.stepEdge b t a) s = execStepEdge b t a s := fun _ _ _ _ => rfl
@[simp] theorem exec_lateEdge : ∀ b t a s, exec (.lateEdge b t a) s = execLateEdge b t a s := fun _ _ _ _ => rfl
@[simp] theorem exec_limitChange : ∀ b t a inp level edge reverted s, exec (.limitChange b t a inp level edge reverted) s = execLimitChange b t a inp level edge reverted s := fun _ _ _ _ _ _ _ _ => rfl
@[simp] theorem exec_pwmPeriod : ∀ b t vbr s, exec (.pwmPeriod b t vbr) s = execPwmPeriod b t vbr s := fun _ _ _ _ => rfl
@[simp] theorem exec_holdCurrentDelay : ∀ b t a s, exec (.holdCurrentDelay b t a) s = execHoldCurrentDelay b t a s := fun _ _ _ _ => rfl
@[simp] theorem exec_remoteEvaluation : ∀ b t a apply s, exec (.remoteEvaluation b t a apply) s = execRemoteEvaluation b t a apply s := fun _ _ _ _ _ => rfl
@[simp] theorem exec_positionPointUpdate : ∀ b t a s, exec (.positionPointUpdate b t a) s = execPositionPointUpdate b t a s := fun _ _ _ _ => rfl
@[simp] theorem exec_laneBSample : ∀ b t si s, exec (.laneBSample b t si) s = execLaneBSample b t si s := fun _ _ _ _ => rfl
@[simp] theorem exec_laneExchange : ∀ b t okA okB s, exec (.laneExchange b t okA okB) s = execLaneExchange b t okA okB s := fun _ _ _ _ _ => rfl
@[simp] theorem exec_laneLost : ∀ b t laneB s, exec (.laneLost b t laneB) s = execLaneLost b t laneB s := fun _ _ _ _ => rfl
@[simp] theorem exec_laneX : ∀ b t s, exec (.laneX b t) s = execLaneX b t s := fun _ _ _ => rfl
@[simp] theorem exec_switchDriveTimeout : ∀ b t laneB s, exec (.switchDriveTimeout b t laneB) s = execSwitchDriveTimeout b t laneB s := fun _ _ _ _ => rfl
@[simp] theorem exec_testPulse : ∀ b t t2 mv s, exec (.testPulse b t t2 mv) s = execTestPulse b t t2 mv s := fun _ _ _ _ _ => rfl
@[simp] theorem exec_channelChange : ∀ b t laneB ch s, exec (.channelChange b t laneB ch) s = execChannelChange b t laneB ch s := fun _ _ _ _ _ => rfl
@[simp] theorem exec_disc : ∀ b t j s, exec (.disc b t j) s = execDisc b t j s := fun _ _ _ _ => rfl
@[simp] theorem exec_ossdTest : ∀ b t o s, exec (.ossdTest b t o) s = execOssdTest b t o s := fun _ _ _ _ => rfl
@[simp] theorem exec_ossdReadback : ∀ b t mvA mvB s, exec (.ossdReadback b t mvA mvB) s = execOssdReadback b t mvA mvB s := fun _ _ _ _ _ => rfl
@[simp] theorem exec_ss1Timeout : ∀ b t laneB s, exec (.ss1Timeout b t laneB) s = execSs1Timeout b t laneB s := fun _ _ _ _ => rfl
@[simp] theorem exec_speedEvaluation : ∀ b t s, exec (.speedEvaluation b t) s = execSpeedEvaluation b t s := fun _ _ _ => rfl
@[simp] theorem exec_posX : ∀ b t q s, exec (.posX b t q) s = execPosX b t q s := fun _ _ _ _ => rfl
@[simp] theorem exec_resetEdge : ∀ b t s, exec (.resetEdge b t) s = execResetEdge b t s := fun _ _ _ => rfl
@[simp] theorem exec_qnSessionTimeout : ∀ b t s, exec (.qnSessionTimeout b t) s = execQnSessionTimeout b t s := fun _ _ _ => rfl
@[simp] theorem exec_passwordWaitExpiry : ∀ b t s, exec (.passwordWaitExpiry b t) s = execPasswordWaitExpiry b t s := fun _ _ _ => rfl
@[simp] theorem exec_haulCut : ∀ b t txs s, exec (.haulCut b t txs) s = execHaulCut b t txs s := fun _ _ _ _ => rfl
@[simp] theorem exec_upFrame : ∀ b t f s, exec (.upFrame b t f) s = execUpFrame b t f s := fun _ _ _ _ => rfl
@[simp] theorem exec_arrivalDeadline : ∀ b t s, exec (.arrivalDeadline b t) s = execArrivalDeadline b t s := fun _ _ _ => rfl
@[simp] theorem exec_linkDown : ∀ b t s, exec (.linkDown b t) s = execLinkDown b t s := fun _ _ _ => rfl
@[simp] theorem exec_canFrameRx : ∀ b t k h0 h1 data sof s, exec (.canFrameRx b t k h0 h1 data sof) s = execCanFrameRx b t k h0 h1 data sof s := fun _ _ _ _ _ _ _ _ => rfl
@[simp] theorem exec_objectCut : ∀ b t k n begun s, exec (.objectCut b t k n begun) s = execObjectCut b t k n begun s := fun _ _ _ _ _ _ => rfl
@[simp] theorem exec_fifoTxOffer : ∀ b t k n s, exec (.fifoTxOffer b t k n) s = execFifoTxOffer b t k n s := fun _ _ _ _ _ => rfl
@[simp] theorem exec_arbitrationLost : ∀ b t k s, exec (.arbitrationLost b t k) s = execArbitrationLost b t k s := fun _ _ _ _ => rfl
@[simp] theorem exec_txComplete : ∀ b t k sof delay s, exec (.txComplete b t k sof delay) s = execTxComplete b t k sof delay s := fun _ _ _ _ _ _ => rfl
@[simp] theorem exec_canError : ∀ b t k f phase own late site delay s, exec (.canError b t k f phase own late site delay) s = execCanError b t k f phase own late site delay s := fun _ _ _ _ _ _ _ _ _ _ => rfl
@[simp] theorem exec_busBack : ∀ b t k s, exec (.busBack b t k) s = execBusBack b t k s := fun _ _ _ _ => rfl
@[simp] theorem exec_lockTimeout : ∀ b t k buf s, exec (.lockTimeout b t k buf) s = execLockTimeout b t k buf s := fun _ _ _ _ _ => rfl
@[simp] theorem exec_referenceMessage : ∀ b t k s, exec (.referenceMessage b t k) s = execReferenceMessage b t k s := fun _ _ _ _ => rfl
@[simp] theorem exec_refLate : ∀ b t k begun s, exec (.refLate b t k begun) s = execRefLate b t k begun s := fun _ _ _ _ _ => rfl
@[simp] theorem exec_triggerSample : ∀ b t src s, exec (.triggerSample b t src) s = execTriggerSample b t src s := fun _ _ _ _ => rfl
@[simp] theorem exec_rearmDone : ∀ b t ch s, exec (.rearmDone b t ch) s = execRearmDone b t ch s := fun _ _ _ _ => rfl
@[simp] theorem exec_digestUpdate : ∀ b t s, exec (.digestUpdate b t) s = execDigestUpdate b t s := fun _ _ _ => rfl
@[simp] theorem exec_intervalEnd : ∀ b t s, exec (.intervalEnd b t) s = execIntervalEnd b t s := fun _ _ _ => rfl
@[simp] theorem exec_gaugeSample : ∀ b x s, exec (.gaugeSample b x) s = execGaugeSample b x s := fun _ _ _ => rfl
@[simp] theorem exec_periodEnd : ∀ b t s, exec (.periodEnd b t) s = execPeriodEnd b t s := fun _ _ _ => rfl
@[simp] theorem exec_heartbeatTx : ∀ b t s, exec (.heartbeatTx b t) s = execHeartbeatTx b t s := fun _ _ _ => rfl
@[simp] theorem exec_heartbeatRx : ∀ b t hb same s, exec (.heartbeatRx b t hb same) s = execHeartbeatRx b t hb same s := fun _ _ _ _ _ => rfl
@[simp] theorem exec_tallyToggle : ∀ b t own s, exec (.tallyToggle b t own) s = execTallyToggle b t own s := fun _ _ _ _ => rfl
@[simp] theorem exec_nalryLost : ∀ b t s, exec (.nalryLost b t) s = execNalryLost b t s := fun _ _ _ => rfl
@[simp] theorem exec_tallyLost : ∀ b t s, exec (.tallyLost b t) s = execTallyLost b t s := fun _ _ _ => rfl
@[simp] theorem exec_custodyChange : ∀ b t level s, exec (.custodyChange b t level) s = execCustodyChange b t level s := fun _ _ _ _ => rfl
@[simp] theorem exec_runClaimDone : ∀ b t claim s, exec (.runClaimDone b t claim) s = execRunClaimDone b t claim s := fun _ _ _ _ => rfl
@[simp] theorem exec_takeover : ∀ b t s, exec (.takeover b t) s = execTakeover b t s := fun _ _ _ => rfl
@[simp] theorem exec_driveMoment : ∀ b t s, exec (.driveMoment b t) s = execDriveMoment b t s := fun _ _ _ => rfl
@[simp] theorem exec_copyCommit : ∀ b t item s, exec (.copyCommit b t item) s = execCopyCommit b t item s := fun _ _ _ _ => rfl
@[simp] theorem exec_notice : ∀ b t n s, exec (.notice b t n) s = execNotice b t n s := fun _ _ _ _ => rfl
@[simp] theorem exec_fullCopyCommit : ∀ b t full s, exec (.fullCopyCommit b t full) s = execFullCopyCommit b t full s := fun _ _ _ _ => rfl
@[simp] theorem exec_handoverGapTest : ∀ b t s, exec (.handoverGapTest b t) s = execHandoverGapTest b t s := fun _ _ _ => rfl
@[simp] theorem exec_handoverAckTimeout : ∀ b t s, exec (.handoverAckTimeout b t) s = execHandoverAckTimeout b t s := fun _ _ _ => rfl
@[simp] theorem exec_handoverReleaseTimeout : ∀ b t s, exec (.handoverReleaseTimeout b t) s = execHandoverReleaseTimeout b t s := fun _ _ _ => rfl
@[simp] theorem exec_guardSessionTimeout : ∀ t s, exec (.guardSessionTimeout t) s = execGuardSessionTimeout t s := fun _ _ => rfl
@[simp] theorem exec_paceRecovered : ∀ b t rate s, exec (.paceRecovered b t rate) s = execPaceRecovered b t rate s := fun _ _ _ _ => rfl
@[simp] theorem exec_facePowerReturn : ∀ b t s, exec (.facePowerReturn b t) s = execFacePowerReturn b t s := fun _ _ _ => rfl
@[simp] theorem exec_vinInputGood : ∀ t inputB s, exec (.vinInputGood t inputB) s = execVinInputGood t inputB s := fun _ _ _ => rfl
@[simp] theorem exec_vbatCalendarLoss : ∀ t s, exec (.vbatCalendarLoss t) s = execVbatCalendarLoss t s := fun _ _ => rfl
@[simp] theorem exec_nalryLaneUp : ∀ b t s, exec (.nalryLaneUp b t) s = execNalryLaneUp b t s := fun _ _ _ => rfl
@[simp] theorem exec_nalryLaneDown : ∀ b t s, exec (.nalryLaneDown b t) s = execNalryLaneDown b t s := fun _ _ _ => rfl
@[simp] theorem exec_haulLinkUp : ∀ b t s, exec (.haulLinkUp b t) s = execHaulLinkUp b t s := fun _ _ _ => rfl
@[simp] theorem exec_canIntegrated : ∀ b t k s, exec (.canIntegrated b t k) s = execCanIntegrated b t k s := fun _ _ _ _ => rfl
@[simp] theorem exec_mdioComplete : ∀ b t data s, exec (.mdioComplete b t data) s = execMdioComplete b t data s := fun _ _ _ _ => rfl
@[simp] theorem exec_handoverRelease : ∀ b t s, exec (.handoverRelease b t) s = execHandoverRelease b t s := fun _ _ _ => rfl
@[simp] theorem exec_fullCopyRequest : ∀ b t s, exec (.fullCopyRequest b t) s = execFullCopyRequest b t s := fun _ _ _ => rfl
@[simp] theorem exec_copyBlock : ∀ b t rx s, exec (.copyBlock b t rx) s = execCopyBlock b t rx s := fun _ _ _ _ => rfl

end Sys2Proof.Machine
end

