-- ==== Sys2Proof/WellFormed.lean ====
section
/-!
DEFINITION. Well-formed operands: what the format of a command, frame or register access lets an operand be.
The meanings are total and do not rely on it.
-/
namespace Sys2Proof

open Sys2Proof.Machine

/-- Size of a function's BAR0 (R503). -/
def barSize (fn : FnIx) : Nat := if fn = 0 then 0x10000 else 0x100000

/-- An image's tables: code of at most 64 Ki words, instance cells inside the 4 MiB of instance SRAM, configuration
words at word offsets (R107, R210, R245, R307). -/
def imageWf (i : Image) : Bool :=
  i.code.length ≤ 65536 && i.cells.all (fun c => c.1 < 0x400000) && i.conf.all (fun c => c.1 % 4 = 0 && c.1 < 0x100000)

/-- The fields of a received frame fit their bits (R392, R395). -/
def frameWf (f : UpFrame) : Bool :=
  f.vid < 4096 && f.etype < 65536 && f.dst < 2 ^ 48 && f.payload.length ≤ 16384

/-- The words of each item of an engine part (R480). -/
def partWf (p : EnginePart) : Bool :=
  p.points.all (fun e => e.1 < 16384 && e.2.length = 4) && p.loops.all (fun e => e.1 < 512 && e.2.length = 5) &&
  p.axes.all (fun e => e.1 < 64 && e.2.length = 17) && p.recipes.all (fun e => e.1 < 16 && e.2.length = 8) &&
  p.stations.all (fun e => e.1 < 64 && e.2.length = 2)

/-- Pages and the bytes in them (R481). -/
def pagesWf (l : List (Nat × List (Nat × Byte))) : Bool := l.all fun e => e.1 < 1024 && e.2.all fun c => c.1 < 4096

def copyWf : CopyItem → Bool
  | .engine p => partWf p
  | .set s => pagesWf s.pages

def fullWf (f : FullCopy) : Bool := partWf f.part && pagesWf f.pages && f.forces.all fun e => e.1 < 1024

def noticeWf : Notice → Bool
  | .recipe _ _ ws => ws.length = 8
  | .force .. | .faultClass _ | .switched _ | .handover _ | .ack => true

/-- Well-formed commands and events. -/
def Instr.wf : Instr → Bool
  | .progLoad _ img => imageWf img
  | .loopSetTable _ _ data => data.length = 32
  | .rcpLoadSteps _ _ _ entries => entries.all fun e => e.length = 128
  | .qnUnlock _ pw _ => pw.length ≤ 16
  | .qnSetPassword _ old new _ => old.length ≤ 16 && new.length ≤ 16
  | .dgSetProfiles _ profs => profs.length = 16384
  | .qnPasswordReplace _ pw => pw.length ≤ 16
  | .registerWrite fn off _ => off < barSize fn
  | .lowWordRead fn off => off < barSize fn
  | .guardWrite off _ _ _ => off < 8192 && off % 4 = 0
  | .restartCheckDone _ _ fail rest => fail ≤ 1121 && rest ≤ 1121
  | .candidatePrepared _ _ _ step => step < 65536
  | .haulCut _ _ txs => txs.length ≤ 64
  | .upFrame _ _ f => frameWf f
  | .canFrameRx _ _ _ _ _ data _ => data.length ≤ 16
  | .copyCommit _ _ item => copyWf item
  | .notice _ _ n => noticeWf n
  | .fullCopyCommit _ _ full => fullWf full
  | .benchRun .. | .benchShadow .. | .benchHold .. | .benchWarmRestart .. | .benchColdStart .. | .benchStop ..
  | .benchReset .. | .hostKeepalive .. | .progActivate .. | .progChange .. | .progChangeAbort .. | .progSetTiming ..
  | .forceSet .. | .forceClear .. | .loopSetMode .. | .loopSetSp .. | .loopSetOut .. | .loopTune .. | .loopClear ..
  | .rcpStart .. | .rcpPause .. | .rcpResume .. | .rcpSkip .. | .rcpAbort .. | .mxMove .. | .mxJog .. | .mxSetDyn ..
  | .mxStop .. | .mxHome .. | .mxSetPos .. | .mxClear .. | .faceFaultClear .. | .faceEncSet .. | .qnLock ..
  | .qnCommit .. | .qnFaultClear .. | .qnSetRef .. | .qnLogRead .. | .kfArm .. | .kfDisarm .. | .kfTrigger ..
  | .kfRead .. | .dgCloseNow .. | .hlRead .. | .hlCloseNow .. | .haulStationSet .. | .canRecover .. | .canObjSet ..
  | .redunHandover .. | .redunResync .. | .timeSet .. | .timeRead .. | .guardOpen .. | .guardClose ..
  | .guardLogRead .. | .debugOpen .. | .fwLoad .. | .fwSelect .. | .fwInfo .. | .readStatus .. | .bedrockHold ..
  | .outputsOff .. | .bedrockReset .. | .releaseCustody .. | .readRecord .. | .readTime .. | .coithNop ..
  | .coithAdd .. | .coithSub .. | .coithAddi .. | .coithMul .. | .coithDiv .. | .coithRem .. | .coithAbs ..
  | .coithAnd .. | .coithOr .. | .coithXor .. | .coithAndi .. | .coithOri .. | .coithXori .. | .coithLui ..
  | .coithShf .. | .coithBit .. | .coithMinmax .. | .coithCmp .. | .coithCmpi .. | .coithSel .. | .coithLim ..
  | .coithQmul .. | .coithMpy .. | .coithMac .. | .coithLda .. | .coithSac .. | .coithSta .. | .coithAsh ..
  | .coithCls .. | .coithFadd .. | .coithFmul .. | .coithFdiv .. | .coithFsqrt .. | .coithFcmp .. | .coithFcvt ..
  | .coithFmisc .. | .coithTadd .. | .coithTcmp .. | .coithRdt .. | .coithLdw .. | .coithLdh .. | .coithLdd ..
  | .coithStw .. | .coithSth .. | .coithStd .. | .coithLdx .. | .coithStx .. | .coithBr .. | .coithLoop ..
  | .coithCall .. | .coithRet .. | .coithEnd .. | .coithSetf .. | .coithPost .. | .coithFwr .. | .coithFrd ..
  | .coithPtr .. | .coithPtw .. | .coithCsr .. | .coithMac2 .. | .coithChk .. | .coithPack .. | .coithCrc ..
  | .tapBypass .. | .tapIdcode .. | .tapSamplePreload .. | .tapExtest .. | .tapClamp .. | .tapHighz ..
  | .tapDebug .. | .unsupportedRequest .. | .pointValueRead .. | .runStateRead .. | .forceCommit .. | .dbCmdTail ..
  | .dbCplHead .. | .dbStrHead .. | .dbEvtHead .. | .mboxDoorbell .. | .queueEnable .. | .queueDisable ..
  | .msixUnmask .. | .dropRemainder .. | .flush .. | .fqHostPop .. | .fqWr .. | .fqWrEop .. | .scCtrlWrite ..
  | .scFlowWrite .. | .scQcfgWrite .. | .fqCfgWrite .. | .fqSpillWrite .. | .bnDramCaptureWrite ..
  | .tmPaceLimWrite .. | .tmPaceRestWrite .. | .mdioCmd .. | .mrDataAccess .. | .rxBufferLockRead ..
  | .rxBufferReleaseRead .. | .guardEffect .. | .bnCntClr .. | .tmCntClr .. | .scCntClr .. | .peCntClr ..
  | .leCntClr .. | .rsCntClr .. | .mxCntClr .. | .fcCntClr .. | .qnCntClr .. | .kfCntClr .. | .dgCntClr ..
  | .hlCntClr .. | .haCntClr .. | .cnCntClr .. | .nlCntClr .. | .qcCntClr .. | .gsCntClr .. | .functionLevelReset ..
  | .hotReset .. | .hubReset .. | .hostReadError .. | .commandTake .. | .streamRecordWrite ..
  | .interruptCoalesceTimeout .. | .supplyGood .. | .supplyLost .. | .vinInputLost .. | .vbatLow ..
  | .mrstNAssert .. | .mrstNRelease .. | .benchStartComplete .. | .coreRailLow .. | .refLost .. | .refGood ..
  | .timeLockTimeout .. | .freeEntered .. | .relockComplete .. | .epochMarker .. | .syncMarker .. | .syncLost ..
  | .ptmDialogue .. | .paceLow .. | .paceFault .. | .tjHigh .. | .tjRecovered .. | .raiseDemand ..
  | .barrierFrame .. | .barrierLinkLoss .. | .faceLinkLoss .. | .livenessToken .. | .livenessLoss ..
  | .facePowerLoss .. | .diSample .. | .diChangeAccepted .. | .diWireBreak .. | .fieldWarn .. | .fieldWarnClear ..
  | .lockout .. | .reenabled .. | .latchOff .. | .readBackMismatch .. | .aiSample .. | .aiSampleWrite ..
  | .aoSample .. | .encoderSample .. | .encoderUpdate .. | .zCapture .. | .inputInstant .. | .imageCopyDone ..
  | .dispatch .. | .endOfLogic .. | .outputInstant .. | .watchdogTrip .. | .snapshotComplete .. | .hostSilence ..
  | .opHoursTick .. | .itemOverrun .. | .reorderRelease .. | .fifoNotify .. | .moverPageCopy .. | .switchGapTest ..
  | .switch .. | .loopRead .. | .loopRelease .. | .conditionCheck .. | .stepBoundary .. | .commitMoment ..
  | .recipeStartInstant .. | .pauseInstant .. | .resumeInstant .. | .skipInstant .. | .abortInstant ..
  | .moveStart .. | .stepEdge .. | .lateEdge .. | .limitChange .. | .pwmPeriod .. | .holdCurrentDelay ..
  | .remoteEvaluation .. | .positionPointUpdate .. | .laneBSample .. | .laneExchange .. | .laneLost .. | .laneX ..
  | .switchDriveTimeout .. | .testPulse .. | .channelChange .. | .disc .. | .ossdTest .. | .ossdReadback ..
  | .ss1Timeout .. | .speedEvaluation .. | .posX .. | .resetEdge .. | .qnSessionTimeout .. | .passwordWaitExpiry ..
  | .arrivalDeadline .. | .linkDown .. | .objectCut .. | .fifoTxOffer .. | .arbitrationLost .. | .txComplete ..
  | .canError .. | .busBack .. | .lockTimeout .. | .referenceMessage .. | .refLate .. | .triggerSample ..
  | .rearmDone .. | .digestUpdate .. | .intervalEnd .. | .gaugeSample .. | .periodEnd .. | .heartbeatTx ..
  | .heartbeatRx .. | .tallyToggle .. | .nalryLost .. | .tallyLost .. | .custodyChange .. | .runClaimDone ..
  | .takeover .. | .driveMoment .. | .handoverGapTest .. | .handoverAckTimeout .. | .handoverReleaseTimeout ..
  | .guardSessionTimeout .. | .paceRecovered .. | .facePowerReturn .. | .vinInputGood .. | .vbatCalendarLoss ..
  | .nalryLaneUp .. | .nalryLaneDown .. | .haulLinkUp .. | .canIntegrated .. | .mdioComplete ..
  | .handoverRelease .. | .fullCopyRequest .. | .copyBlock .. => true

end Sys2Proof
end

