-- ==== Sys2Proof/Tests/Slice0.lean ====
section
/-!
SUPPORT. Tests of the model: ill-formed terms that WellFormed refuses, a witness of the hypotheses of every statement
in Certificates/Slice0/Obligations.lean, clause by clause, and steps whose results the spec gives.
-/
namespace Sys2Proof.Tests
open Sys2Proof Sys2Proof.Machine
set_option Elab.async false

/-! ### States for tests -/

/-- Bench 0 after reset, a command of its queue 0 with tag 5, and the module with bench 0 (and hub) replaced. -/
def b0 : Bench := Bench.atReset 0
def c0 : Cmd := { bench := 0, tag := 5 }
def st (b : Bench) (h : Hub := {}) : State := { State.reset.withBench 0 b with hub := h }
/-- Bench 0 with a time rail. -/
def onRail (r : Rail) (h : Hub := {}) : State := st { b0 with rail := r } h
/-- The bench with the packet of a command row in its queue, the next to be accepted. -/
def asked (i : Instr) (b : Bench) : Bench :=
  match packetOf i with
  | none => b
  | some a => { b with qc := { b.qc with inflight := [
      { tag := a.c.tag, opcode := a.op, noirq := a.c.noirq, params := a.ps, bytes := some a.c.buf }] } }
/-- Every premise `issued` of the statements is met: in each state below, the packet of the row is put in the queue. -/
theorem agrees_self (a : Asked) : a.agrees a.ps = true := by
  simp only [Asked.agrees, List.all_eq_true]
  rintro ⟨w, n⟩ h
  obtain ⟨-, hn, h⟩ := List.mem_zipIdx h
  simp only [Nat.sub_zero, Nat.zero_add] at hn h
  simp [List.getD, hn, h]
theorem issued_asked (i : Instr) (b : Bench) : (asked i b).issued i = true := by
  unfold asked Bench.issued
  split <;> simp [*, Qc.issued, Qc.nextTag, agrees_self]
theorem asked_answers (i : Instr) (b : Bench) (c : Cmd) (h : b.Answers c) : (asked i b).Answers c := by
  unfold asked; split
  · exact h
  · exact ⟨h.1, fun f hf _ => by rw [List.mem_singleton.mp hf]⟩
theorem asked_else (i : Instr) (b : Bench) : ∃ l, asked i b = { b with qc := { b.qc with inflight := l } } := by
  unfold asked; split <;> exact ⟨_, rfl⟩
/-- The completion queue enabled, with room. -/
def qOn : Qc := { q := (Vector.replicate 4 {}).set 1 { ctrl := 0x80000000, size := 16 } }
/-- FIFO 0 with CONS Haul transmitter and PROD Haul receiver (R409). -/
def fqH : Fifos := { f := (Vector.replicate 32 {}).set 0 { cfg := 0x02200000 } }
/-- Bench 0 in a mode, with its completion queue enabled and the rail locked at a time. -/
def inMode (m : Mode) (t : Nat := 0) : Bench :=
  { b0 with bn := { b0.bn with mode := m }, qc := qOn, rail := { state := .locked, now := t, up := t }, fq := fqH }
/-- An image: handler 0 and slot 1 of task 1, handler 1 for items, one input and one output point, no error task. -/
def imgT : Image := {
  id := 7, code := [0xD0000000, 0xD0000000], instBase := 0x100, instSize := 0x1000, cells := [(0x100, 1)],
  handlers := [{ entry := 0, ip := 0x100, size := 64, task := some 1, bound := 1 }, { entry := 4, ip := 0x200, size := 64, bound := 1 }],
  slots := [{ slot := 1, task := 1, mask := 3, handler := 0 }],
  tasks := [{
    task := 1, p := 100, ph := 10, off := 50, d := 20, g := 25, pri := 1, startSlot := 1, inputs := [1], outputs := [2],
    c := 1, u := 1 }] }
/-- The points that it maps: point 1 from the face, point 2 from the program to an output. -/
def ptsT : Tbl Point := [(1, { value := 9, quality := 1, flags := 0x2000 }), (2, { flags := 0x9000 })]
/-- Bench 0 in a mode, with that image in the current code slot. -/
def withImg (m : Mode) (t : Nat := 0) : Bench := { inMode m t with points := ptsT, pe := { img0 := some imgT, tasks := imageTasks imgT } }
/-- The bench at a time. -/
def at0 (s : State) : Bench := (s.bench 0).tick 0
def atC (s : State) : Bench := (s.bench 0).canTick 0
/-- Bench 0 in RUN with that image, and core 0 at work on a segment of task 1, with registers. -/
def k0 : CoreRef := { bench := 0, core := 0 }
def coreT (run : Running := .segment 1 1) : Core := { run := run, ip := 0x100, size := 64, pc := 8,
                                                      w := ((Vector.replicate 32 0).set 1 7).set 2 0x100 }
def runs (c : Core := coreT) (b : Bench := withImg .run) : State := st (b.setCore 0 c)
/-- Core 0 with two register values. -/
def wRegs (x y : Word) : State := runs { coreT with w := ((Vector.replicate 32 0).set 1 x).set 2 y }
/-- Bench 0 in RUN with loop 511 in use: period 20 µs, output point 7, measurement point 8, cascade source loop 5. -/
def wLoop (t : Nat := 0) (l : Loop := {}) : State := st { inMode .run t with
  points := [(7, { flags := 0xB010 }), (8, { value := 100, quality := 1, flags := 0x2010 })]
  conf := [(0x87FC0, 2), (0x87FC8, 0x00070008), (0x87FCC, 0x3FFF0005), (0x87FDC, 0x7FFF8000)]
  le := { loops := Tbl.set {} [] 511 l } }
/-- A step entry with some of its words. -/
def stepT (l : List (Nat × Word)) : StepWords := (List.range 128).map fun i => Tbl.get 0 l i
/-- Bench 0 in RUN with axis 0 (step and direction), 8 (phase drive) and 63 (remote, of station 0) in use. -/
def confAxes : Tbl Word := [(0x1A020, 1), (0x1B000, 0x80000100), (0x1B014, 0x003F0001),
  (0x88000, 0x10000006), (0x88008, 512), (0x88010, 1), (0x88014, 1), (0x88018, 0x00003FFF), (0x8801C, 0x3FFF3FFF), (0x88020, 0x640064),
  (0x88024, 0x00010001), (0x88800, 0x20000006), (0x88818, 0x3FFF3FFF), (0x88840, 6000),
  (0x8BF00, 0x30C00006), (0x8BF18, 0x3FFF3FFF), (0x8BF1C, 0x3FFF3FFF), (0x8BF30, 77)]
def wAxis (a t : Nat) (x : Axis) : State := st { inMode .run t with
  points := [(6, { flags := 0xC000 })]
  conf := confAxes
  mx := { axes := Tbl.set {} [] a x } }
/-- Bench 0 with the face powered: DI 0 to point 1, DO 0 to point 2, AI 0 to point 3, AO 0 to point 4, encoder 0 to point 5,
its Z count to point 6, DI 15 with wire-break detection, read-back of DO 0 checked, AI 0 and AI 1 in modes 1 and 2. -/
def wFace (t : Nat) (f : Face := {}) (m : Mode := .run) : State := st { inMode m t with
  bn := { mode := m, safeLoaded := true }
  points := [(1, { flags := 0x2030 }), (2, { flags := 0x9030 }), (3, { flags := 0x2010 }), (4, { flags := 0x9010 }),
             (5, { flags := 0x2000 }), (6, { flags := 0x2000 })]
  conf := [(0x1201C, 5), (0x12020, 0x80000001), (0x12060, 0x80000002), (0x12080, 0x80000003), (0x12090, 0x80000004),
           (0x12098, 0x80000005), (0x120A0, 0x80000006), (0x120B0, 0x20001), (0x120EC, 0x20001), (0x120F0, 0x10000),
           (0x120F4, 0x10000000), (0x120F8, 0x20000000), (0x1210C, 0x20010001)]
  fc := { f with powered := true, linkOk := true, faceLink := true, tokenOk := true, enable := true } }
/-- The same with the link lost in both directions. -/
def wFaceCut (t : Nat) (f : Face := {}) : State :=
  let b := (wFace t f).bench 0
  st { b with fc := { b.fc with linkOk := false, faceLink := false } }
/-- A safety configuration: SI0 fed from the sources and stopping hard, SI1 free and stopping with the ramp, axis 0 monitored. -/
def wQCfg : Vector Word 24 := Vector.ofFn fun i : Fin 24 => Tbl.get 0 [(0, 0x3FFF), (1, 0x06400002), (2, 0x50000101), (3, 0xE0000101),
  (4, 0x01400064), (5, 0x00010001), (6, 0x3FFF3FFF), (7, 0x3FFF3FFF), (8, 0xAA400000), (9, 0x00010001), (10, 0x01000064), (12, 1000),
  (13, 0x00010001), (17, 0x00010001), (18, 0x01000001), (21, 0x00010001)] i.val
def wPw : List Byte := List.replicate 8 0x41
/-- Bench 0 in a mode with a Quoin state, axis 0 in use. -/
def wQuoin (q : Quoin) (m : Mode := .configure) (t : Nat := 0) (x : Axis := {}) (f : Face := {}) : State := st { inMode m t with
  bn := { mode := m, safeLoaded := true }
  conf := confAxes
  mx := { axes := Tbl.set {} [] 0 x }
  fc := { f with powered := true, linkOk := true, faceLink := true, tokenOk := true, enable := true }
  qn := q }
/-- Bench 0 serving Haul station 0 (input point 3, output point 4) and station 1 (input point 5), base cycle 20 µs. -/
def wHaul (t : Nat) (z : Station) (m : Mode := .run) (h : Haul := {}) : State := st { inMode m t with
  bn := { mode := m, safeLoaded := true }
  points := [(3, { value := 8, quality := 1, flags := 0x4000 }), (4, { flags := 0x9000 }), (5, { quality := 1, flags := 0x4000 })]
  conf := [(0x1A008, 0x80202000), (0x1A020, 2), (0x1A024, 0x00100401), (0x1B000, 0x80000100), (0x1B00C, 0x00030001), (0x1B010, 0x00040001),
           (0x1B020, 0x80000100), (0x1B02C, 0x00050001)]
  ha := { h with stations := Tbl.set {} h.stations 0 z } }
/-- An up cycle frame of station 0 for a latch instant, with one slot, padded to the Ethernet minimum. -/
def wUp (l : Nat) : UpFrame := { vid := 0, etype := 0x88B5, dst := 0,
                                 payload := [0x50, 0, 0, 0] ++ (List.range 8).map (fun i => BitVec.ofNat 8 (l / 256 ^ i)) ++ List.replicate 16 0 ++ [9] ++
                                   List.replicate 13 0 }
/-- Bench 0 with CAN controller 0 enabled: one range filter entry for identifiers 0 to 0x7FF, its action given, and object 0. -/
def wCan (t : Nat) (c : Can) (act : Word := 0x10020000) (m : Mode := .run) (w8 : Word := 0xC0000000) (f : Fifo := {}) : State :=
  st { inMode m t with
    bn := { mode := m, safeLoaded := true }
    conf := [(0x1C008, w8), (0x1C00C, 0x04A02010), (0x1C01C, 0x80000007), (0x1C020, 10)]
    fq := { f := (Vector.replicate 32 {}).set 0 f }
    points := [(9, { flags := 0x9000, value := 0x55 })]
    can := (Vector.replicate 2 {}).set 0 { c with ram := [
      (0x0, 0x80000000), (0x4, 0x7FF), (0xC, act), (0x2800, 0x100), (0x2804, 8), (0x2808, 0x80400064), (0x280C, 0x00120000)] } }
def wPend (src : CanSrc) (id : Word) : CanPending := { src := src, frame := { h0 := id, h1 := 8 }, time := 0 }
/-- Bench 0 of a pair, its lane up, with what it knows of its partner. -/
def wPair (m : Mode) (t : Nat) (n : Nalry) (f : Face := {}) : State := st { withImg m t with
  bn := { mode := m, safeLoaded := true }
  fc := { f with powered := true, linkOk := true, faceLink := true, tokenOk := true }
  nl := { n with cfg := 0x80000000, laneUp := true } }
def wHb (mode : Fin 5) (cls : Fin 4 := 0) (stale : Bool := false) : Heartbeat := { mode := mode, custody := false, cls := cls, stale := stale }
/-- Bench 0 in RUN, running, with its queue engine and the MSI-X mask of its function. -/
def wQc (k : Qc) (mask : BitVec 8 := 0) (m : Mode := .run) (t : Nat := 0) : State := st { inMode m t with qc := k, fn := { mask := mask } }
/-- Four queues of 16 entries; the stream ring of 2,048 units of 64 bytes. -/
def wRings (on : Bool) : Vector Queue 4 :=
  let q : Queue := { ctrl := if on then 0xC0010001 else 0, size := 16, tail := 5, head := 2 }
  (Vector.replicate 4 q).set 2 { q with size := 0x800 }
def wPkt (op tag : Nat) (w1 : Word := 0) : Packet := { w0 := at32 tag 16 ||| at32 op 0, w1 := w1 }

/-! ### Hypotheses of the statements, clause by clause -/

def wRailA : State := onRail { state := .locked, refAGood := true, refBGood := true }
def wRailB : State := onRail { state := .locked, refAGood := true }
def wRailC : State := onRail { state := .holdover, holdAt := 0, up := 1000000000 }
def wRailD : State := onRail { state := .relock, nearAt := some 0, up := 10000000 }
def wRailE : State := onRail { state := .unlocked, up := 100000000 }
def wRailF : State := onRail { state := .unlocked, refAGood := true }
theorem wit_RailFollowsItsReferences :
    let b (s : State) := (s.bench 0).tick 0
    ((b wRailA).rail.good false = true ∧ (b wRailA).rail.state = .locked ∧ (b wRailA).rail.onB = false ∧
      (b wRailA).rail.good true = true ∧ wRailA.hub.refMode < 2) ∧
    ((b wRailB).rail.good false = true ∧ (b wRailB).rail.state = .locked ∧ (b wRailB).rail.onB = false ∧
      (b wRailB).rail.good true = false) ∧
    (permitted wRailC.hub.refMode true = true ∧ (b wRailC).rail.state = .holdover ∧ (b wRailC).rail.good true = false ∧
      (b wRailC).rail.wakeAt + 10000000 ≤ (b wRailC).rail.up ∧ (b wRailC).rail.lossBAt.getD 0 + 10000000 ≤ (b wRailC).rail.up) ∧
    (b wRailF).rail.up < (b wRailF).rail.wakeAt + 10000000 ∧
    ((b wRailD).rail.state = .relock ∧ (b wRailD).rail.nearAt = some 0 ∧ 0 + 10000000 = (b wRailD).rail.up) ∧
    ((b wRailC).rail.state = .holdover ∧ (b wRailC).rail.holdAt + 1000000000 = (b wRailC).rail.up ∧
      (b wRailC).rail.anyPermitted wRailC.hub.refMode = false) ∧
    ((b wRailF).rail.state = .unlocked ∧ (b wRailF).rail.anyPermitted wRailF.hub.refMode = true) ∧
    ((b wRailA).rail.state = .locked ∧ (b wRailA).rail.takeNext = false) ∧
    ((b wRailE).bn.mode = .wake ∧ (b wRailE).rail.state = .unlocked ∧ (b wRailE).rail.wakeAt + 100000000 = (b wRailE).rail.up ∧
      (b wRailE).rail.anyPermitted wRailE.hub.refMode = false) := by decide +kernel
def wTimeA : State := st (inMode .configure) { timeCtrl := 0x13 }
def wTimeB : State := { State.reset with hub := { timeCtrl := 0x10, syncOk := true, syncAt := 0, up := 5000000, vinGood := true } }
theorem wit_ModuleTimeAndTimeCommands :
    (wTimeA.hub.tick 0).syncRole = 1 ∧
    ((wTimeB.hub.tick 0).syncRole = 1 ∧ (wTimeB.hub.tick 0).syncDown = false ∧
      (wTimeB.hub.tick 0).syncAt + 5000000 = (wTimeB.hub.tick 0).up) ∧
    ((wTimeA.bench 0).bn.bootRom = false ∧ (wTimeA.bench 0).bn.mode = .configure ∧ wTimeA.hub.timeSettable = true ∧
      (wTimeA.bench 0).Answers c0 ∧ (∀ k, (wTimeA.bench k).ix = k)) ∧
    (let a := asked (.timeSet c0 7 1) (inMode .configure)
     let b := asked (.timeRead c0) (inMode .configure)
     a.issued (.timeSet c0 7 1) = true ∧ a.Answers c0 ∧ b.issued (.timeRead c0) = true ∧ b.Answers c0) ∧
    ((wTimeA.bench 0).Takes modesAny ∧ (wTimeA.bench 0).Answers c0) ∧ wTimeB.hub.vinGood = true := by
  decide +kernel
def wPaceA : State := onRail { paceLow := true, paceLowAt := 0, up := 1000000 }
def wPaceB : State := st { inMode .run 800 with
  pe := { tasks := (Vector.replicate 16 {}).set 1 { off := 5 }, runs := (Vector.replicate 16 {}).set 1 { active := true } } }
theorem wit_PaceGovernor :
    let a := (wPaceA.bench 0).tick 0
    let b := (wPaceB.bench 0).tick 0
    let v : Word := 0x02940294
    99 < 100 ∧ (a.rail.paceLow = true ∧ a.rail.paceFaulted = false ∧ a.rail.paceLowAt + 1000000 = a.rail.up) ∧
    100 ≤ 100 ∧ a.bn.mode ≠ .run ∧ (1100 : Int) < 1101 ∧ ((1049 : Int) < 1050 ∧ b.rail.paceLow = false) ∧
    (b.bn.mode = .run ∧ (1 : Fin 16) ≠ 0 ∧ b.pe.runs[(1 : Fin 16)].active = true ∧
      b.pe.runs[(1 : Fin 16)].demandAt = none ∧
      4 * b.pe.tasks[(1 : Fin 16)].window = 5 * (b.rail.now - b.pe.runs[(1 : Fin 16)].ik) ∧ b.rail.noRaise = false ∧
      b.rail.paceMv < b.rail.ceil) ∧
    (660 ≤ fld (v &&& 0x0FFF0FFF#32) 27 16 ∧ fld (v &&& 0x0FFF0FFF#32) 27 16 ≤ fld (v &&& 0x0FFF0FFF#32) 11 0 ∧
      fld (v &&& 0x0FFF0FFF#32) 11 0 ≤ 900) ∧
    (660 ≤ fld 900#32 11 0 ∧ fld 900#32 11 0 ≤ 900) := by
  decide +kernel
def wHost (m : Mode) (cfg : Word) : State := st { inMode m 1000001 with bn := { mode := m, hostTmo := 1, modeCfg := cfg } }
def wSnap : State := st { inMode .hold with bn := { mode := .hold, snapBusy := true } }
def wLink (m : Mode) : State := st { inMode m with fc := { linkOk := true } }
theorem wit_BenchLeavesItsMode :
    let run := inMode .run
    let hold := inMode .hold
    let x := ((st { inMode .run 1000000 with pe := { runs := (Vector.replicate 16 {}).set 1 { active := true } } }).bench 0).tick 0
    let h (m : Mode) (cfg : Word) := ((wHost m cfg).bench 0).tick 0
    (run.bn.bootRom = false ∧ run.bn.mode = .run ∧ (inMode .shadow).bn.mode = .shadow) ∧
    (hold.bn.bootRom = false ∧ hold.bn.mode = .hold ∧ hold.bn.trans = none) ∧
    (run.Takes modesAny ∧ run.Answers c0) ∧
    (∀ p ∈ [(Mode.run, 2#32), (.run, 0), (.configure, 2)], (h p.1 p.2).bn.mode ≠ .wake ∧ (h p.1 p.2).bn.mode = p.1 ∧
      (h p.1 p.2).bn.hostSilent = false ∧ (h p.1 p.2).bn.hostTmo ≠ 0 ∧ (h p.1 p.2).bn.modeCfg.getLsbD 1 = decide (p.2 = 2) ∧
      (h p.1 p.2).bn.hostAt + (h p.1 p.2).bn.hostTmo.toNat * 1000000 < (h p.1 p.2).rail.up) ∧
    ((wSnap.bench 0).tick 0).bn.snapBusy = true ∧
    (x.bn.mode = .run ∧ x.pe.runs[(1 : Fin 16)].active = true ∧ x.watchdogAt 1 ≤ x.rail.now) ∧
    (∀ m ∈ [Mode.run, .configure], (((wLink m).bench 0).tick 0).fc.linkOk = true) := by
  decide +kernel
def wWake : State := st { b0 with rail := { state := .locked } } { vinGood := true, inReset := false }
def wLane : Nalry := { cfg := 0x81000000, laneUp := true }
def wShadow (m : Mode) : Bench := { inMode m with nl := wLane }
def wTrans (x : Transition) (pair : Bool) : State :=
  st { inMode .hold 4000 with bn := { mode := .hold, trans := some x }, nl := if pair then wLane else {} }
/-- What holds before a commanded entry into RUN or SHADOW. -/
abbrev Ready (b : Bench) (m : Mode) (pair : Bool) : Prop :=
  b.bn.bootRom = false ∧ b.bn.mode = m ∧ b.bn.trans = none ∧ b.bn.snapBusy = false ∧ b.bn.holdWait = 0 ∧ b.paired = pair
theorem wit_BenchEntersItsMode :
    let x := (wWake.bench 0).tick 0
    let y := ((wTrans (.runClaim 5 false 0 true) true).bench 0).tick 0
    (x.bn.mode = .wake ∧ x.rail.state ≠ .unlocked ∧ wWake.hub.vinGood = true ∧ wWake.hub.inReset = false ∧ x.snap = none ∧
      x.bn.fwSwap = false) ∧
    Ready (inMode .configure) .configure false ∧ Ready (wShadow .configure) .configure true ∧
    Ready (inMode .hold) .hold false ∧ Ready (wShadow .hold) .hold true ∧
    (y.bn.trans = some (.runClaim 5 false 0 true) ∧ 0 + 4000 = y.rail.now ∧ y.claimFails (some true) = true ∧
      y.claimFails none = false ∧ y.bn.holdWait = 0) := by
  decide +kernel
theorem wit_BenchEntersItsMode_runs : (inMode .configure).MayRun ∧ (wShadow .configure).MayRun := by decide +kernel
theorem wit_BenchEntersItsMode_shadows : (wShadow .configure).MayShadow := by decide +kernel
theorem wit_BenchEntersItsMode_restarts (y : Bool) :
    let x := ((wTrans (.pageCheck 5 false false 0) y).bench 0).tick 0
    x.bn.trans = some (.pageCheck 5 false false 0) ∧ x.paired = y ∧ x.bn.holdWait = 0 ∧ x.MayRun := by
  revert y; decide +kernel
theorem wit_BenchEntersItsMode_refused :
    let w := st { inMode .hold 4000 with
      bn := { mode := .hold, trans := some (.pageCheck 5 false false 0) }, nl := { wLane with custIn := true } }
    ((w.bench 0).tick 0).bn.trans = some (.pageCheck 5 false false 0) ∧ ¬((w.bench 0).tick 0).MayRun := by
  decide +kernel
theorem wit_BenchEntersItsMode_shadowRestarts (y : Bool) :
    let x := ((wTrans (.pageCheck 5 false true 0) y).bench 0).tick 0
    x.bn.trans = some (.pageCheck 5 false true 0) ∧ (x.MayShadow ↔ y = true) := by
  revert y; decide +kernel
def wSlot : State := st { withImg .run with sc := { slots := [(1, { flags := 1 })] } }
def wItem : Item := { handler := 1, arg0 := 3 }
def wQueue (m : Mode) : State :=
  st { withImg m with sc := { queues := (Vector.replicate 8 []).set 0 [wItem], qcfg := Vector.replicate 8 0x80001000 } }
def wOver : State := st { withImg .run 32768 with cores := (Vector.replicate 4 {}).set 0 { run := .item wItem } }
def wOrd (e : List Effect) : State := st { inMode .run with
  points := [(2, { flags := 0x8000 })]
  sc := { flows := [(255, { cfg := 0x80000001 })], results := [{ flow := 255, seq := 0, done := true, effects := e }] } }
def wNote : State := st { inMode .run with
  sc := { qcfg := Vector.replicate 8 0x80001000 }
  fq := { f := (Vector.replicate 32 {}).set 0 { cfg := 0x80080001, notify := [4] } } }
theorem wit_SchedulerMovesWork :
    let x (s : State) := (s.bench 0).tick 0
    let z : Fin 4 := 0
    let p : Effect := .point 2 9 7 .program
    ((x wSlot).cores[z].run = .idle ∧ (x wSlot).switching = false ∧ (x wSlot).bn.mode = .run ∧
      ((x wSlot).nextSlot.map fun y => (y.task, ((x wSlot).pe.handler y.handler).isSome)) = some (1, true)) ∧
    (∀ m ∈ [Mode.run, .configure], (x (wQueue m)).cores[z].run = .idle ∧ (x (wQueue m)).switching = false ∧
      (x (wQueue m)).nextSlot = none ∧ (x (wQueue m)).nextItem = some (0, wItem) ∧
      ((x (wQueue m)).pe.handler wItem.handler).isSome = true) ∧
    ((x wOver).cores[z].run = .item wItem ∧ (x wOver).cores[z].dispatchedAt + 32768 = (x wOver).rail.now ∧
      (x wOver).cores[z].overrun = false) ∧
    (∀ e ∈ [[], [p]], (x (wOrd e)).sc.empties.contains (255, ((x (wOrd e)).flow 255).release) = false ∧
      (x (wOrd e)).sc.results.find? (fun r => r.flow = 255 && r.seq = ((x (wOrd e)).flow 255).release) =
        some { flow := 255, seq := 0, done := true, effects := e } ∧
      (x (wOrd e)).bn.mode = .run ∧ ((x (wOrd e)).point 2).source = Source.program.code) ∧
    (((x wNote).fifo 0).notify = [4] ∧ (x wNote).bn.mode = .run ∧ (x wNote).sc.ctrl.getLsbD 3 = true ∧
      (x wNote).hasRoom (mkIx 7 ((x wNote).fifo 0).nq) = true) ∧
    ((b0.flow 0).en = false ∧ (b0.flow 0).next = (b0.flow 0).release ∧ (0x80000020#32).getLsbD 31 = true ∧
      1 ≤ fld 0x80000020#32 5 0 ∧ fld 0x80000020#32 5 0 = 32) ∧
    (((wOrd []).bench 0).flow 255).en = true ∧ ((1#32).getLsbD 31 = false ∧ fld 1#32 5 0 = 1) ∧
    ((inMode .configure).bn.mode = .configure ∧ 0 < fld 0x02401000#32 12 0 ∧ fld 0x02401000#32 12 0 = 4096 ∧
      fld 0x02401000#32 28 16 ≤ fld 0x02401000#32 12 0 ∧
      reserveSum ((inMode .configure).sc.qcfg.set 7 (0x02401000#32 &&& 0x9FFF1FFF#32)) ≤ 4096) := by
  decide +kernel
def wFifo (f : Fifo) (m : Mode := .configure) : State := st { inMode m with fq := { f := (Vector.replicate 32 {}).set 0 f } }
def wFq (s : State) : Fifo := (s.bench 0).fifo 0
theorem wit_FifosKeepTheirPackets :
    let pr := wFq (wFifo { cfg := 0x81080000 })
    let full := wFq (wFifo { cfg := 0x81000000, words := List.replicate 128 (0, false) })
    let pop := wFq (wFifo { cfg := 0x80100000, words := [(7, true)] })
    let open0 := wFq (wFifo { cfg := 0x80100000, rdOpen := true, words := [(7, false)] })
    let open1 := wFq (wFifo { cfg := 0x80100000, rdOpen := true, words := [(7, true)] })
    let idle := (wFifo {}).bench 0
    (pr.en = true ∧ pr.prod = 1 ∧ pr.full = false ∧ pr.dropping = false ∧ pr.notifies = true) ∧
    full.full = true ∧ pop.prod ≠ 1 ∧ (wFq (wFifo {})).en = false ∧
    (pop.words = [(7, true)] ∧ pop.cons = 1 ∧ pop.en = true ∧ pop.headLocked = false) ∧ pr.words = [] ∧
    (open1.en = true ∧ open1.rdOpen = true ∧ 0 < open1.pkts) ∧ (open0.en = true ∧ open0.rdOpen = true ∧ open0.pkts = 0) ∧
    (pop.en = true ∧ pop.rdOpen = false) ∧
    (fld 0x05500000#32 26 24 = 5 ∧ fld 0x05500000#32 22 20 = 5 ∧ (0x05500000#32).getLsbD 31 = false ∧
      (idle.fifo 0).en = false ∧ (idle.fifo 0).words = []) ∧
    (fld 0x85500000#32 26 24 = 5 ∧ fld 0x85500000#32 22 20 = 5 ∧ (0x85500000#32).getLsbD 31 = true ∧
      idle.boundTo 0 26 24 (fld 0x85500000#32 26 24) < 8 ∧ idle.boundTo 0 22 20 (fld 0x85500000#32 22 20) < 8) ∧
    (fld 64#32 6 0 = 64 ∧ idle.spillUsed - (idle.fifo 0).spillMib + fld 64#32 6 0 + idle.bn.dramCapture.toNat ≤ 896) ∧
    (idle.bn.mode = .configure ∧ (512#32).toNat = 512 ∧ (512#32).toNat + idle.spillUsed ≤ 896) := by
  decide +kernel
/-- The running copy of task 1 at a stage of its cycle. -/
def wCyc (t : Nat) (r : TaskRun) (l : List Staged := []) : State := st { withImg .run t with
  pe := { img0 := some imgT, tasks := imageTasks imgT, runs := (Vector.replicate 16 {}).set 1 r, staged := l } }
theorem wit_CyclesRunFromTheImage :
    let b : Bench := { inMode .configure with points := ptsT }
    let bad : Image := { imgT with good := false }
    let free : Bench := { b with pe := { img1 := some imgT } }
    let cur := withImg .configure
    let m : Fin 16 := 1
    (b.Takes modesAny ∧ b.Answers c0 ∧ b.pe.chg = none ∧ b.nl.migr = none ∧ b.paired = false ∧
      imageCheck (b.pe.cur.map (·.instSize)) imgT = true ∧ imageTiming imgT = true ∧ b.mapsOk imgT = true ∧
      imageBudget imgT = true ∧ loopRateOk (imageConf imgT) = true ∧ (b.underConf imgT).stepRate ≤ 25000000) ∧
    imageCheck (b.pe.cur.map (·.instSize)) bad = false ∧
    (free.bn.bootRom = false ∧ free.bn.mode = .configure ∧ free.bn.trans = none ∧ free.pe.freeImg = some imgT) ∧
    (cur.bn.bootRom = false ∧ cur.bn.mode = .configure ∧ cur.Answers c0 ∧ 1 ≤ (1#32).toNat ∧ (1#32).toNat ≤ 15 ∧
      timingOk 50 49 50 46 0 = true ∧ cur.pe.cur = some imgT ∧ imgT.tasks.any (fun y => y.task = m) = true ∧
      tasksFit imgT (cur.pe.tasks.set m { cur.pe.tasks[m] with p := 50, ph := 49, off := 50, d := 46, g := 0 }) = true) ∧
    (let x := at0 (wCyc 110000 {}); x.bn.mode = .run ∧ x.pe.tasks[m].en = true ∧ x.pe.startAt ≤ x.rail.now ∧
      x.pe.tasks[m].isInstant x.rail.now = true ∧ x.pe.runs[m].active = false) ∧
    (let x := at0 (wCyc 112000 { active := true, frozen := [(1, { value := 9, quality := 1 })] })
     x.bn.mode = .run ∧ x.pe.runs[m].active = true ∧ x.pe.runs[m].copied = false ∧
      (x.pe.slotImg x.pe.tasks[m].startSlot).isSome = true ∧ x.pe.runs[m].frozen.length = 1) ∧
    (let x := at0 (wCyc 120000 { active := true, dispatched := true, ok := 160000 })
     x.bn.mode = .run ∧ x.pe.runs[m].active = true ∧ x.pe.runs[m].dispatched = true ∧ x.slotsPending m = false ∧
      (x.pe.taskImg m).map (·.outputs) = some [2] ∧ (x.point 2).source = 4) ∧
    (let y : Staged := { point := 2, value := 5, due := 160000 }
     let x := at0 (wCyc 160000 {} [y])
     x.bn.mode = .run ∧ x.pe.staged = [y] ∧ y.due = x.rail.now ∧ y.late = false ∧ x.outChannel y.point = none ∧
      (x.settleForces y.point y.due).forceOn y.point = none) ∧
    (let y : Staged := { point := 2, value := 5, due := 160000, late := true, period := 100000 }
     let x := at0 (wCyc 160000 {} [y])
     x.bn.mode = .run ∧ x.pe.staged = [y] ∧ y.due = x.rail.now ∧ y.late = true ∧ y.period ≠ 0) := by
  decide +kernel
/-- The new image of an online change, which takes over the first 16 bytes. -/
def imgN : Image := { imgT with id := 8, instBase := 0x2000, mig := [{ old := 0, new := 0, len := 16, conv := 0 }],
                                handlers := imgT.handlers.map fun h => { h with ip := h.ip + 0x1F00 } }
def wForce (m : Mode) : Bench := { inMode m with points := ptsT, pe := { forces := [(3, { en := true, point := 1 })] } }
def wChg (c : Option Change) (t : Nat := 0) : State := st { inMode .run t with
  points := ptsT
  pe := { img0 := some imgT, img1 := some imgN, tasks := imageTasks imgT, chg := c } }
def chgT : Change := { tag := 5, noirq := false, maxDefer := 2 }
theorem wit_ForcesAndOnlineChange :
    let f := wForce .configure
    let r := (wChg none).bench 0
    let page := at0 (wChg (some { chgT with todo := [0] }))
    let fits := at0 (wChg (some { chgT with gapAt := some 0 }))
    let late := at0 (wChg (some { chgT with gapAt := some 9000 }) 9000)
    let last := at0 (wChg (some { chgT with gaps := 1, gapAt := some 9000 }) 9000)
    let none_ := at0 (wChg (some chgT))
    let sw := at0 (wChg (some { chgT with switching := true }))
    (∀ m ∈ [Mode.configure, .run, .hold], (wForce m).bn.bootRom = false ∧ modesCfgRunHold (wForce m).bn.mode = true ∧
      (wForce m).pe.chg = none) ∧
    ((1#32).toNat ≤ 16383 ∧ (f.point 1).forceable = true ∧ (f.entryFor 1).isSome = true ∧ (16383#32).toNat = 16383) ∧
    (r.bn.bootRom = false ∧ r.bn.mode = .run ∧ r.pe.cur = some imgT ∧ r.pe.freeImg = some imgN ∧
      r.changeRefusal 1 65535 imgT imgN = none) ∧
    (((wChg (some chgT)).bench 0).Takes modesAny ∧ ((wChg (some chgT)).bench 0).pe.chg = some chgT ∧
      chgT.switching = false) ∧
    (page.pe.chg = some { chgT with todo := [0] } ∧ page.pe.cur = some imgT ∧ page.pe.freeImg = some imgN ∧
      page.noLogic = true) ∧
    (none_.pe.chg = some chgT ∧ chgT.gapAt = none) ∧
    (fits.pe.chg = some { chgT with gapAt := some 0 } ∧ fits.noLogic = true ∧ fits.bn.mode = .run ∧
      fits.gapFits { chgT with gapAt := some 0 } 0 = true) ∧
    (late.gapFits { chgT with gapAt := some 9000 } 9000 = false ∧ chgT.gaps + 1 ≠ chgT.maxDefer) ∧
    (last.gapFits { chgT with gaps := 1, gapAt := some 9000 } 9000 = false ∧ 1 + 1 = chgT.maxDefer) ∧
    (sw.pe.chg = some { chgT with switching := true } ∧ sw.pe.cur = some imgT ∧ sw.pe.freeImg = some imgN ∧
      ∀ k : Fin 4, sw.cores[k].run = .idle) := by
  decide +kernel
theorem wit_CoithIntegerArithmetic :
    (wRegs 7 0).CoreRuns k0 ∧ (((wRegs 7 0).core k0).reg 2).toInt = 0 ∧
    ((wRegs 0x80000000 0xFFFFFFFF).CoreRuns k0 ∧ (((wRegs 0x80000000 0xFFFFFFFF).core k0).reg 1).toInt = -2147483648 ∧
      (((wRegs 0x80000000 0xFFFFFFFF).core k0).reg 2).toInt = -1) ∧
    ((wRegs 0x80000000 1).CoreRuns k0 ∧ (((wRegs 0x80000000 1).core k0).reg 2).toInt ≠ 0 ∧
      ¬ ((((wRegs 0x80000000 1).core k0).reg 1).toInt = -2147483648 ∧
        (((wRegs 0x80000000 1).core k0).reg 2).toInt = -1)) := by
  decide +kernel
theorem wit_CoithBitsAndChoices :
    (wRegs 0x80000000 0x80000000).CoreRuns k0 ∧ (31 : Fin 32).val + (0 : Fin 32).val < 32 ∧
    (0 : Fin 32).val + (31 : Fin 32).val < 32 ∧
    (let x := ((wRegs 0x80000000 0x80000000).core k0).reg 1
     let y := ((wRegs 0x80000000 0x80000000).core k0).reg 2
     (x = y ∧ ¬ x ≠ y) ∧ (¬ x.toInt < y.toInt ∧ x.toInt ≤ y.toInt) ∧ (¬ x.toNat < y.toNat ∧ x.toNat ≤ y.toNat)) := by
  decide +kernel
theorem wit_CoithFixedPoint :
    (wRegs 0x8000 0x80008000).CoreRuns k0 ∧
    (let q (r : Reg) : Int := ((((wRegs 0x8000 0x80008000).core k0).reg r).setWidth 16).toInt
     q 1 = -32768 ∧ q 2 = -32768) ∧
    (0 ≤ (0 : BitVec 5).toInt ∧ (0x10 : BitVec 5).toInt = -16 ∧ 0 ≤ (0 : BitVec 6).toInt ∧
      (0x20 : BitVec 6).toInt = -32) := by
  decide +kernel
theorem wit_CoithBinary32 :
    let on (x y : Word) : Bool := ((wRegs x y).core k0).reg 1 = x && ((wRegs x y).core k0).reg 2 = y
    (wRegs 0x3F800000 0xC0000000).CoreRuns k0 ∧ on 0x3F800000 0xC0000000 = true ∧
    (wRegs 0x7F800001 0x807FFFFF).CoreRuns k0 ∧ on 0x7F800001 0x807FFFFF = true ∧
    (wRegs 0 0x7F800000).CoreRuns k0 ∧ on 0 0x7F800000 = true := by
  decide +kernel
/-- Words of each kind: a NaN, an infinity, a subnormal, which counts as zero, and numbers. -/
theorem wit_CoithBinary32_kinds :
    let nan (w : Word) : Bool := fld w 30 23 = 255 && fld w 22 0 ≠ 0
    let inf (w : Word) : Bool := fld w 30 23 = 255 && fld w 22 0 = 0
    let zero (w : Word) : Bool := fld w 30 23 = 0
    nan 0x7F800001 = true ∧ (inf 0x7F800000 = true ∧ nan 0x7F800000 = false ∧ zero 0x7F800000 = false) ∧
    (zero 0x807FFFFF = true ∧ nan 0x807FFFFF = false ∧ inf 0x807FFFFF = false) ∧ zero 0 = true ∧
    (nan 0x3F800000 = false ∧ inf 0x3F800000 = false ∧ zero 0x3F800000 = false) ∧
    (nan 0xC0000000 = false ∧ inf 0xC0000000 = false ∧ zero 0xC0000000 = false) := by
  decide +kernel
theorem wit_CoithBinary32_numbers :
    fltNum 0x3F800000 + fltNum 0xC0000000 ≠ 0 ∧ fltNum 0x3F800000 * fltNum 0xC0000000 ≠ 0 ∧
    fltNum 0x3F800000 + fltNum 0xBF800000 = 0 ∧ fltNum 0x807FFFFF * fltNum 0x3F800000 = 0 ∧
    fltNum 0xC0000000 < fltNum 0x3F800000 ∧ fltNum 0x3F800000 < fltNum 0x7F800000 := by
  decide +kernel
theorem wit_CoithTimes :
    let i : Item := { handler := 1 }
    ((runs (coreT (.segment 1 1))).CoreRuns k0 ∧ ((runs (coreT (.segment 1 1))).core k0).run = .segment 1 1 ∧ (1 : Fin 16) ≠ 0) ∧
    ((runs (coreT (.segment 0 2))).CoreRuns k0 ∧ ((runs (coreT (.segment 0 2))).core k0).run = .segment 0 2) ∧
    ((runs (coreT (.item i))).CoreRuns k0 ∧ ((runs (coreT (.item i))).core k0).run = .item i) := by
  decide +kernel
theorem wit_CoithMemoryAccesses :
    let s := runs
    let last (base : Reg) (o n : Nat) := MayAccess (s) k0 base o (0x100 + o) n
    (s).CoreRuns k0 ∧ (s).memoryWf ∧
    (last 0 60 4 ∧ last 0 62 2 ∧ last 0 56 8) ∧ (last 2 0xFFC 4 ∧ last 2 0xFFE 2 ∧ last 2 0xFF8 8) ∧
    (((s).core k0).reg 3).toNat * 2 ^ 3 = 0 ∧ (last 2 0 4 ∧ last 2 0 2 ∧ last 2 0 8) := by
  dsimp only [MayAccess]
  decide +kernel
def wItemRun : State := runs (coreT (.item { handler := 1 }))
theorem mayNotAccess {s : State} {k : CoreRef} {base : Reg} {o n : Nat}
    (h : ¬ MayAccess s k base o ((if base = 0 then (s.core k).ip else ((s.core k).reg base).toNat) + o) n) :
    MayNotAccess s k base o n := by
  rintro ⟨a, ha⟩
  exact h (ha.1 ▸ ha)
theorem wit_CoithCoreFaults_denied :
    (MayNotAccess runs k0 0 61 4 ∧ MayNotAccess runs k0 0 63 2 ∧ MayNotAccess runs k0 0 57 8) ∧
    (MayNotAccess runs k0 2 0xFFD 4 ∧ MayNotAccess runs k0 2 0xFFF 2 ∧ MayNotAccess runs k0 2 0xFF9 8) ∧
    MayNotAccess runs k0 0 2 4 ∧ MayNotAccess runs k0 0 1 2 ∧ MayNotAccess runs k0 0 4 8 := by
  and_intros <;> (apply mayNotAccess; dsimp only [MayAccess]; decide +kernel)
theorem wit_CoithCoreFaults :
    (runs.CoreRuns k0 ∧ (runs.core k0).run = .segment 1 1 ∧ (runs.bench 0).bn.mode = .run) ∧
    (wItemRun.CoreRuns k0 ∧ (wItemRun.core k0).run = .item { handler := 1 }) ∧ (runs.core k0).reg 3 = 0 ∧
    (((wRegs 16384 0).CoreRuns k0) ∧ 16383 < (((wRegs 16384 0).core k0).reg 1).toNat) := by
  decide +kernel
def wCall : State := runs { coreT with calls := [⟨12, 0x100, 64, []⟩] } { withImg .run with
  pe := { img0 := some { imgT with fbs := [{ entry := 4, size := 16, bound := 3 }] } } }
theorem wit_CoithControlFlow :
    runs.CoreRuns k0 ∧ ((((runs.core k0).reg 3).toInt = 0 ∧ ((runs.core k0).reg 1).toInt ≠ 0) ∧
      (((wRegs 0x80000000 1).core k0).reg 1).toInt < 0 ∧ 0 < (((wRegs 0x80000000 1).core k0).reg 2).toInt) ∧
    (wCall.CoreRuns k0 ∧ (wCall.bench 0).pe.fb 0 = some { entry := 4, size := 16, bound := 3 } ∧
      (wCall.core k0).calls = [⟨12, 0x100, 64, []⟩]) ∧
    ((runs.core k0).run = .segment 1 1 ∧ (runs.bench 0).packetOpen 0 (runs.core k0) = false) ∧
    (let s := runs (coreT (.item { handler := 1 })); s.CoreRuns k0 ∧ (s.core k0).run = .item { handler := 1 } ∧
      (s.bench 0).packetOpen 0 (s.core k0) = false) := by
  decide +kernel
theorem wit_CoithLoopRunsItsBody :
    runs.CoreRuns k0 ∧ (1 : Fin 512) ≠ 0 ∧ (31 : Reg) ≠ 0 ∧
    ∀ f ∈ (runs.core k0).loops, (runs.core k0).pc + 4 + 4 * (1 : Fin 512).val ≠ f.after := by
  decide +kernel
def wComm (f : Fifo := {}) (run : Running := .segment 1 1) : State := runs
  { coreT run with w := ((Vector.replicate 32 0).set 1 7).set 2 16383 }
  { withImg .run with
    points := [(16383, { flags := 0x4000 })]
    sc := { qcfg := Vector.replicate 8 0x80001000 }
    fq := { f := (Vector.replicate 32 {}).set 31 f } }
theorem wit_CoithCommunication :
    let i : Item := { handler := 1, src := 4 }
    let x (s : State) := s.bench 0
    let c (s : State) := s.core k0
    let s := wComm
    let w := wComm { cfg := 0x80000000, words := [(3, true)] }
    (s).CoreRuns k0 ∧ (x s).maySetf (c s) 1 = true ∧ (x s).maySetf (c s) 0 = false ∧
    ((c s).ordered = none ∧ (x s).bn.mode = .run ∧ (x s).sc.ctrl.getLsbD 1 = true ∧ ((c s).itemOf 26).ord = false ∧
      (x s).hasRoom ((c s).itemOf 26).queue = true) ∧
    ((x (wComm { cfg := 0x81000000 })).fifo 31).prod ≠ 0 ∧
    (w.CoreRuns k0 ∧ ((x w).fifo 31).prod = 0 ∧ ((x w).fifo 31).en = true ∧ (c w).ordered = none ∧
      ((x w).fifo 31).wrOpen = false ∧ ((x w).fifo 31).dropping = false ∧ ((x w).fifo 31).full = false) ∧
    (((x w).fifo 31).cons = 0 ∧ ((x w).fifo 31).words = [(3, true)] ∧ ((x w).fifo 31).wrCore = none) ∧
    ((c s).reg 2).toNat = 16383 ∧
    (let s := wComm {} (.item i); s.CoreRuns k0 ∧ (c s).run = .item i ∧ i.src = 4 ∧ i.ord = false ∧ (x s).bn.mode = .run ∧
      ((x s).point ((c s).reg 2).toNat).source = 2 ∧ ((x s).point ((c s).reg 2).toNat).output = false) ∧
    16383 < (((wRegs 16384 0).core k0).reg 1).toNat ∧ (c s).run = .segment 1 1 ∧ (c s).reg 1 ≠ 0 := by
  decide +kernel
theorem wit_LoopCommandsWaitForTheUpdate :
    let b := (wLoop).bench 0
    let ws := tuneWords 127 [0x7FFF7FFF, 0x7FFF7FFF, 0, 0, 0, 0, 0]
    b.bn.bootRom = false ∧ b.bn.mode = .run ∧ b.Answers c0 ∧ fld 0x301FF#32 8 0 = 511 ∧ b.loopPeriod 511 ≠ 0 ∧
    (fld 0x301FF#32 18 16 = 3 ∧ b.loopCass 511 ≠ 0x3FFF) ∧
    Bench.tuneOk (fun o => match ws.find? (fun e => e.1 == o) with | some e => e.2 | none => b.lw 511 o) = true ∧
    (0x1FF#32 : Word) ≠ 0xFFFF ∧ (List.replicate 32 (0 : Word)).length = 32 := by
  decide +kernel
def wUpd : LoopUpdate := { due := 20000, state := { mode := .auto, u := 5 }, out := some 5, spl := none, req := {}, took := [], undo := [] }
theorem wit_LoopUpdatesReadThenRelease :
    (let x := at0 (wLoop 4000)
     x.bn.mode = .run ∧ x.loopPeriod 511 ≠ 0 ∧ x.rail.now = 4000 ∧ x.loopInstant 511 (x.rail.now - 4000) = true ∧
      x.pe.startAt ≤ x.rail.now - 4000 ∧ (x.loop 511).upd = none) ∧
    (let x := at0 (wLoop 18000 { upd := some wUpd, st := { mode := .auto } })
     x.bn.mode = .run ∧ (x.loop 511).upd = some wUpd ∧ wUpd.due = x.rail.now + 2000 ∧ (x.loop 511).st.mode ≠ .off ∧ wUpd.out = some 5 ∧
      (x.point (x.loopOutp 511)).source = 5) := by
  decide +kernel
def wLoopIn : LoopIn := { x := 0, bad := false, r := 32767, rsp := 0, ulo := -32768, uhi := -32768, apart := none, uprev := 0,
                          dyZero := false, reinit := false, compl := false, upBlocked := false, dnBlocked := false }
def wLoopApart : State :=
  let b := wLoop.bench 0
  st { b with conf := Tbl.set 0 b.conf 0x87FDC 0x012C00C8, gd := { eff := [(0xFFC, some 0x00640000)] } }
theorem wit_LoopLawStaysInItsLimits :
    (b0.loopLimits 0).2.2 = none ∧ ((wLoopApart.bench 0).loopLimits 511).2.2 = some 100 ∧ wLoopIn.apart = none ∧
    ({ wLoopIn with apart := some 5 } : LoopIn).apart = some 5 ∧ wLoopIn.ulo ≤ wLoopIn.uhi ∧ ((b0.law 0 {} { wLoopIn with compl := true }).hi = true) := by
  decide +kernel
/-- Bench 0 in RUN with slot 15 in a state. -/
def wSlotIn (x : RecipeState) : Bench := { inMode .run with rs := { slots := (Vector.replicate 16 {}).set 15 { state := x } } }
def wStep : StepWords := stepT [(0, 0x80000001), (1, 2), (2, 0x1FFFF), (3, 0xFFFF), (16, 0x20000002), (17, 9)]
theorem wit_RecipeCommandsNameTheirInstant :
    let b := wSlotIn
    (∀ x ∈ [RecipeState.idle, .ended, .aborted, .armed, .running, .paused], (b x).bn.bootRom = false ∧ (b x).bn.mode = .run ∧
      (b x).Answers c0 ∧ (b x).Takes modesAny ∧ ((b x).recipe 15).state = x ∧ (b x).instantFor 50000 0 false = some 50000) ∧
    abortable .armed = true ∧
    (cat64 50000 0 % 10000 = 0 ∧ (b .idle).instantFor 50000 (cat64 50000 0) false = some 50000 ∧ (15#32).toNat ≤ 15 ∧
      (0xFFFF#32).toNat < 65536 ∧ (0x1FFFF#32).toNat = noStep) ∧
    (1 ≤ (1#32).toNat ∧ (0xFFFF#32).toNat + (1#32).toNat ≤ 65536 ∧ [wStep].length = (1#32).toNat ∧
      (∀ e ∈ [wStep], stepOk e = true) ∧ (b .running).stepsInUse = [0]) := by
  decide +kernel
def wRec (t : Nat) (r : Recipe) : State := st { inMode .run t with
  points := [(2, { flags := 0xF000 }), (3, { value := 4, quality := 1, flags := 0x2000 })]
  rs := { slots := (Vector.replicate 16 {}).set 15 r } }
/-- A timed step of 2 ticks with the output target point 2, and one that waits for point 3 to be 4. -/
def wTimed : StepWords := stepT [(0, 1), (1, 2), (2, 1), (3, 0x1FFFF), (16, 0x20000002), (17, 9)]
def wCond : StepWords := stepT [(0, 0x40000000), (2, 0x1FFFF), (3, 1), (4, 3), (5, 4)]
def wCand (x : CandRole) (y : Bool := true) : Cand := { role := x, step := 1, words := wTimed, ready := y }
def wTick : Recipe := { state := .running, cur := wTimed, cands := [wCand .time] }
theorem wit_RecipesRunStepByStep :
    let b := at0 (wRec 10000 { state := .armed, start := 10000, cands := [wCand .first] })
    b.bn.mode = .run ∧ (b.recipe 15).state = .armed ∧ (b.recipe 15).cand .first = some (wCand .first) ∧
     (b.recipe 15).start = b.rail.now := by
  decide +kernel
theorem wit_RecipesRunStepByStep_condition :
    let b := at0 (wRec 10000 { state := .running, cur := wCond, checkFrom := 10000 })
    let r := b.recipe 15
    r.state = .running ∧ stepEnd r.cur = 1 ∧ b.rail.now % 10000 = 0 ∧ r.checkFrom = b.rail.now ∧ r.found = none ∧
     r.pauseAt = none ∧ r.lateSets = [] ∧ stepChold r.cur = 0 ∧ stepHolds r.cur (b.point (stepCpoint r.cur)) = true ∧
     stepHolds r.cur { b.point (stepCpoint r.cur) with value := 5 } = false := by
  decide +kernel
theorem wit_RecipesRunStepByStep_commit :
    ∀ y ∈ [true, false], let b := at0 (wRec 17000 { wTick with cands := [wCand .time y] })
     let r := b.recipe 15
     r.lateSets = [] ∧ r.restartAt = none ∧ r.upcoming = some (b.rail.now + 3000, some (wCand .time y)) ∧
      r.committed ≠ some (b.rail.now + 3000) ∧ (wCand .time y).ready = y ∧ b.rs.claims = [] ∧ (b.point 2).source = 7 ∧
      stepTargets wTimed = [(2, 2, 9)] := by
  decide +kernel
theorem wit_RecipesRunStepByStep_boundary :
    ∀ l ∈ [[wCand .time], []], let r := (at0 (wRec 20000 { wTick with cands := l })).recipe 15
     r.state = .running ∧ r.natural = some (20000, .time) ∧ r.upcoming = some (20000, r.cand .time) ∧
      r.skipAt.map (·.1) ≠ some 20000 ∧ r.abortAt ≠ some 20000 ∧ (r.cand .time).isSome = !l.isEmpty := by
  decide +kernel
theorem wit_RecipesRunStepByStep_pause :
    let b := at0 (wRec 5000 { state := .running, cur := wCond, pauseAt := some 5000 })
    (b.recipe 15).state = .running ∧ (b.recipe 15).pauseAt = some b.rail.now ∧ (b.recipe 15).natural = none := by
  decide +kernel
theorem wit_RecipesRunStepByStep_resume :
    let b := at0 (wRec 5000 { state := .paused, resumeAt := some 5000 })
    (b.recipe 15).state = .paused ∧ (b.recipe 15).resumeAt = some b.rail.now := by
  decide +kernel
theorem wit_RecipesRunStepByStep_skip :
    ∀ z ∈ [RecipeState.running, .paused], let b := at0 (wRec 5000 { wTick with state := z, skipAt := some (5000, noStep) })
     (b.recipe 15).state = z ∧ (b.recipe 15).skipAt = some (b.rail.now, noStep) ∧
      (b.recipe 15).skipCand noStep = some (wCand .time) := by
  decide +kernel
theorem wit_RecipesRunStepByStep_abort :
    let b := at0 (wRec 5000 { wTick with abortAt := some 5000 })
    abortable (b.recipe 15).state = true ∧ (b.recipe 15).abortAt = some b.rail.now := by
  decide +kernel
theorem wit_RecipesRunStepByStep_late :
    let l : LateSet := { boundary := 10000, cand := wCand .time }
    let x := at0 (wRec 17000 { state := .running, cur := wCond, lateSets := [l] })
    let y := at0 (wRec 10000 { wTick with state := .held, restartAt := some 10000 })
    let r := x.recipe 15
    (x.bn.mode = .run ∧ r.lateSets = [l] ∧ l.due = none ∧ l.cand.ready = true ∧ (x.rail.now + 3000) % 10000 = 0 ∧ r.restartAt = none ∧
      r.upcoming = none ∧ stepTargets l.cand.words = [(2, 2, 9)] ∧ x.rs.claims = [] ∧ (x.point 2).source = 7) ∧
    (y.recipe 15).state = .held ∧ (y.recipe 15).restartAt = some y.rail.now := by
  decide +kernel
theorem wit_MotionCommandsActOnTheirAxis :
    let b (x : Axis) := (wAxis 0 0 x).bench 0
    (∀ y ∈ [AxisState.idle, .armed, .moving, .fault], (b { state := y }).bn.bootRom = false ∧ (b { state := y }).bn.mode = .run ∧
      (b { state := y }).Answers c0 ∧ (b { state := y }).axisUsed 0 = true ∧ ((b { state := y }).axis 0).state = y ∧
      (b { state := y }).mx.stops = [] ∧ ((b { state := y }).axis 0).dyn = []) ∧
    ((b {}).instantFor 20000 (cat64 20000 0) false = some 20000 ∧ cat64 20000 0 % 10 = 0 ∧
      (b {}).guardPmin 0 = -2147483648 ∧ (b {}).guardPmax 0 = 2147483647 ∧ (b {}).limitOn 0 true = false ∧
      (b {}).limitOn 0 false = false ∧ (b {}).homeBlocked 0 = false) ∧
    (((b {}).axis 0).busy = false ∧ (b {}).stepRate ≤ 25000000 ∧ (b {}).dynOk 0 512000000 1 0xFFFFFFFF = true) ∧ fld 0#32 7 0 ≠ 0xFF ∧
    (0x100#32).getLsbD 8 = true ∧ (b { state := .fault }).axisClearable 0 = true := by
  decide +kernel
def wGo (neg : Bool := false) : Axis := { state := .moving, target := if neg then -9 else 9, e0 := 256000, e1 := 512000,
                                          e2 := 768000, q0 := 65536, q1 := 65536, dce := 1, neg := neg,
                                          inp := (Vector.replicate 3 {}).set 0 { newAt := some 1000 } }
theorem wit_AxesMoveStepByStep :
    let x (a t : Nat) (y : Axis) := at0 (wAxis a t y)
    (let b := x 0 1000 { state := .armed, armed := some (1000, .move 1) }
     b.bn.mode = .run ∧ (b.axis 0).state = .armed ∧ (b.axis 0).armed = some (b.rail.now, .move 1) ∧ 1 ≠ (b.axis 0).pos ∧
      b.guardPmin 0 ≤ 1 ∧ 1 ≤ b.guardPmax 0) ∧
    (let b := x 63 1000 { state := .armed, armed := some (1000, .home) }
     (b.axis 63).state = .armed ∧ (b.axis 63).armed = some (b.rail.now, .home) ∧ b.axisHmode 63 = 3) ∧
    ((x 0 2000 wGo).edgeDue 0 = true ∧ ((x 0 2000 wGo).axis 0).e1 / 256 = 2000) ∧
    ((x 0 2001 wGo).edgeDue 0 = true ∧ ((x 0 2001 wGo).axis 0).e1 / 256 < (x 0 2001 wGo).rail.now) ∧
    (let b := x 0 2000 wGo
     b.axisUsed 0 = true ∧ b.axisChan 0 0 < 16 ∧ (b.axis 0).inp[(0 : Fin 3)].newAt = some 1000 ∧ 1000 + b.axisLdb 0 * 1000 = b.rail.now ∧
      b.rail.now - 1 < 1000 + b.axisLdb 0 * 1000 ∧ (b.axis 0).state = .moving ∧ (b.axis 0).neg = decide ((0 : Fin 3) = 1) ∧
      b.axisIn 0 0 = false ∧ bitOf (0 : Word) (b.axisChan 0 0) = (b.axis 0).inp[(0 : Fin 3)].level) ∧
    (let b : Bench := { x 8 12500 {} with mx := { lowVbr := 1, axes := [] } }
     b.rail.now % 25000 = 12500 ∧ b.bn.mode = .run ∧ b.vbrLow (min 5999 6000) = true ∧ 1 ≤ b.mx.lowVbr ∧
      (b.axis 8).state ≠ .fault) ∧
    (let b := x 8 0 {}; (b.axis 8).busy = false ∧ (b.axis 8).lastEdge + fld (b.aw 8 0x34) 15 0 * 1000000 = b.rail.now) ∧
    (let b := x 63 0 {}
     b.bn.mode = .run ∧ b.axisKind 63 = 3 ∧ b.haulAof ≤ 10000 ∧ (b.axis 63).spAt < 10000 ∧ b.axisStation 63 = some 0 ∧ b.rail.now ≤ 10000 ∧
      10000 ≤ b.rail.now + b.stationMult 0 * b.haulBase ∧
      b.servedAt 0 (10000 - b.haulAof) = true ∧ (b.axis 63).busy = false) ∧
    (let b := x 0 10000 { pos := 5 }
     b.axisUsed 0 = true ∧ fld (b.aw 0 0x24) 15 0 ≠ 0 ∧ b.rail.now % (fld (b.aw 0 0x24) 15 0 * 10000) = 0 ∧
      (b.point (b.axisPosp 0)).source = 6 ∧ b.axisSpdp 0 = 0x3FFF ∧ (b.point (b.axisPosp 0)).output = false ∧
      (b.point (b.axisPosp 0)).format = 0 ∧ (b.settleForces (b.axisPosp 0) b.rail.now).forceOn (b.axisPosp 0) = none) := by
  decide +kernel
theorem wit_AxisCanAlwaysStop :
    let x : Axis := { dce := 1 }
    let e : AxisEff := { vm := 256, vs := 0, ve := 0, ace := 1, limited := false }
    131072 * 2 = e.ve * e.ve + qPerStep * x.dce * (1 + 1) ∧ e.vm ≤ x.gvmax ∧ 65536 = e.vm * e.vm ∧ x.stand = false ∧
      x.jog = false := by
  decide +kernel
def wDi (x : DigIn) : Face := { di := Vector.replicate 16 x }
theorem wit_FaceInputsReachTheirPoints :
    let x (t : Nat) (f : Face) := at0 (wFace t f)
    let e : Encoder := { zEdge := some (10, 4) }
    let z : Fin 16 := 15
    (let b := x 1000 {}
     b.faceNow % 1000 = 0 ∧ b.fc.powered = true ∧ b.fc.di[z].level = false ∧ b.fc.di[z].newAt = none ∧
      b.facePoint 0 = some 1 ∧ b.fc.linkOk = true ∧ b.bn.mode = .run ∧ (b.point 1).source = 1 ∧ (b.point 1).output = false ∧
      (b.settleForces 1 1000).forceOn 1 = none) ∧
    (let b := x 10000 { enc := Vector.replicate 2 { e with load := [(10, 4)] } }
     b.fc.powered = true ∧ b.fc.enc[(0 : Fin 2)].load = [(10, 4)] ∧ 10 ≤ b.faceNow) ∧
    (let b := x 10000 { enc := Vector.replicate 2 { e with load := [(20000, 4)] } }
     ∀ w ∈ b.fc.enc[(0 : Fin 2)].load, b.faceNow < w.1) ∧
    14000 ≤ 20000 ∧ 12000 < 14000 ∧
    (let b := x 5000 (wDi { raw := true, newAt := some 5000 })
     b.fc.di[z].newAt = some 5000 ∧ 5000 + (b.diDb 15 - 1) * 1000 = b.faceNow ∧ b.fc.di[z].wire = false ∧
      true ≠ b.fc.di[z].level ∧ true = b.fc.di[z].raw) ∧
    (∀ w ∈ [true, false], let b := x 10000000 (wDi { wire := w, wireAt := some 0, newAt := some 0 })
     b.fc.di[z].wireAt = some 0 ∧ b.diWben 15 = true ∧ b.fc.fieldWarn = false ∧ 0 + 10000000 = b.faceNow ∧
      b.fc.di[z].wire = w) ∧
    (x 0 { fieldWarn := true }).fc.fieldWarn = true ∧
    (let b := x 50000 {}
     b.fc.powered = true ∧ fld (b.aiCfg 0) 29 28 = 1 ∧ fld (b.aiCfg 1) 29 28 = 2 ∧ fld (b.aiCfg 0) 26 24 = 0 ∧
      b.faceNow % 50000 = 0 ∧ fld (b.aiCfg 0) 23 16 = 0) ∧
    (let b := x 4000 { ai := Vector.replicate 4 { due := true, time := 0 } }
     b.fc.ai[(0 : Fin 4)].due = true ∧ b.faceNow = b.fc.ai[(0 : Fin 4)].time + 4000) ∧
    (let b := x 10000 { enc := Vector.replicate 2 e }
     let f := b.fc.enc[(0 : Fin 2)]
     b.fc.powered = true ∧ (∀ w ∈ f.load, b.faceNow < w.1) ∧ f.a.cand = false ∧ 0 < fld (b.encCfg 0) 23 16 ∧ f.a.since + fld (b.encCfg 0) 23 16 * 40 ≤ b.faceNow ∧
      fld (b.encCfg 0) 15 0 ≠ 0 ∧ b.faceNow % (fld (b.encCfg 0) 15 0 * 10000) = 0 ∧ f.zEdge = some (10, 4) ∧
      bitOf (b.encCfg 0) 29 = true ∧ encStep 0 false false true false = some 1 ∧ encStep 0 false false true true = none) := by
  decide +kernel
theorem wit_FaceInputsReachTheirPoints_set :
    let b := asked (.faceEncSet c0 0 7 20 0) ((wFace 20).bench 0)
    let b' := asked (.faceEncSet c0 0 7 10 0) ((wFace 20).bench 0)
    let b0 := asked (.faceEncSet c0 0 7 0 0) ((wFace 20).bench 0)
    b.Takes modesCfgRunHold ∧ b.Answers c0 ∧ b.issued (.faceEncSet c0 0 7 20 0) = true ∧ cat64 20 0 % 10 = 0 ∧
      b.acceptance ≤ cat64 20 0 ∧ cat64 10 0 ≠ 0 ∧ cat64 10 0 % 10 = 0 ∧ b'.issued (.faceEncSet c0 0 7 10 0) = true ∧
      cat64 10 0 < b'.acceptance ∧ b0.issued (.faceEncSet c0 0 7 0 0) = true ∧ cat64 0 0 = 0 ∧ b.fc.faceLink = true ∧
      (asked (.faceEncSet c0 0 7 20 0) ((wFaceCut 20).bench 0)).fc.faceLink = false := by
  decide +kernel
theorem wit_FaceOutputsFollowTheSupply :
    let x (t : Nat) (f : Face) := at0 (wFace t f)
    let z : Fin 8 := 0
    let on : Vector DigOut 8 := Vector.replicate 8 { applied := true }
    (let b := x 9000 { warnLow := some 0 }; b.fc.warnLow = some 0 ∧ 0 + 9000 = b.faceNow ∧ b.fc.fieldWarn = false) ∧
    (let b := x 9999000 { warnHigh := some 0, fieldWarn := true }
     b.fc.warnHigh = some 0 ∧ 0 + 9999000 = b.faceNow ∧ b.fc.fieldWarn = true) ∧
    (let b := x 4000 { lockLow := some 0 }; b.fc.lockLow = some 0 ∧ 0 + 4000 = b.faceNow ∧ b.fc.lockout = false) ∧
    (let b := x 9999000 { lockHigh := some 0, lockout := true }
     b.fc.lockHigh = some 0 ∧ 0 + 9999000 = b.faceNow ∧ b.fc.lockout = true) ∧
    (let b := x 0 { do_ := on }; b.fc.do_[z].applied = true ∧ b.fc.lockout = false ∧ b.bn.mode = .run ∧ b.fc.faceLink = true) ∧
    (let b := x 500000 { do_ := on }
     b.doRben 0 = true ∧ b.fc.lockout = false ∧ b.fc.do_[z].readback ≠ b.fc.do_[z].applied ∧
      b.fc.do_[z].changedAt + fld (b.fw 0x1C) 7 0 * 100000 = b.rail.now) ∧
    (let b := x 50000 { ao := Vector.replicate 2 { nLow := 1 } }
     let o := b.fc.ao[(0 : Fin 2)]
     b.fc.powered = true ∧ b.faceNow % 50000 = 0 ∧ b.aoLand 0 = some 0 ∧ b.fc.linkOk = true ∧ o.compl = false ∧ o.nLow = 1 ∧
      7 * 3949999 < 28000000 + 4000 * 0 - 350000 ∧ b.facePoint 28 = some 4 ∧
      b.bn.mode = .run ∧ b.facePoint 29 = none) := by
  decide +kernel
theorem wit_FaceOutputsFollowTheSupply_cut :
    (let b := (wFace 0 {} .hold).bench 0; ({ b with bn := { b.bn with safeLoaded := false } } : Bench).aoLand 0 = none) ∧
    (let b := at0 (wFaceCut 9000 { warnLow := some 0 })
     b.fc.powered = true ∧ 0 + 9000 ≤ b.faceNow ∧ b.fc.warnLow = some 0 ∧ b.fc.linkOk = false) ∧
    (let b := at0 (wFaceCut 9999000 { lockHigh := some 0, lockout := true })
     b.fc.powered = true ∧ 0 + 9999000 ≤ b.faceNow ∧ b.fc.lockHigh = some 0 ∧ b.fc.lockout = true ∧ b.fc.linkOk = false) ∧
    (let b := at0 (wFaceCut 4000 { lockLow := some 0 })
     b.fc.powered = true ∧ 0 + 4000 ≤ b.faceNow ∧ b.fc.lockLow = some 0 ∧ b.fc.lockout = false ∧ b.fc.linkOk = false) ∧
    (let b := at0 (wFaceCut 50000 { ao := Vector.replicate 2 { nLow := 1 }, safeAo := Vector.replicate 2 0 })
     b.fc.powered = true ∧ b.faceNow % 50000 = 0 ∧ b.aoLand 0 = some 0 ∧ b.fc.ao[(0 : Fin 2)].compl = false ∧
      b.fc.ao[(0 : Fin 2)].nLow = 1 ∧ b.fc.linkOk = false) ∧
    (∀ w ∈ [wFace 0, wFaceCut 0], let b := asked (.faceFaultClear c0) (w.bench 0)
     b.Takes modesCfgRunHold ∧ b.Answers c0 ∧ b.issued (.faceFaultClear c0) = true) ∧
    ((wFace 0).bench 0).fc.faceLink = true ∧ ((wFaceCut 0).bench 0).fc.faceLink = false := by
  decide +kernel
theorem wit_FaceLinkAndPower :
    let b := at0 (wFace 6000)
    b.fc.powered = true ∧ b.fc.faceLink = true ∧ (at0 (st b0)).fc.powered = false ∧ b.bn.coreOk = true ∧ b.fc.tokenAt + 6000 = b.rail.now ∧
    (st { b0 with bn := { b0.bn with coreOk := false } } |> at0).bn.coreOk = false ∧ ({ probe := true, rail := false } : Pulse).rail = false := by
  decide +kernel
def wSess (q : Quoin) (t : Nat := 0) : Bench := at0 (wQuoin q .configure t)
def wSession : QSession := { oper := 3, last := 0 }
theorem wit_QuoinSessionsGuardTheConfiguration (q : Quoin)
    (h : q ∈ [({ password := some wPw } : Quoin), { waitAt := some 0 }, { session := some wSession, staged := wQCfg }]) :
    (wSess q).Takes modesCfg ∧ (wSess q).Takes modesAny ∧ (wSess q).Answers c0 := by
  revert q; dsimp only [Bench.Answers]; decide +kernel
theorem wit_QuoinSessionsGuardTheConfiguration_password :
    let q : Quoin := (wSess { password := some wPw }).qn
    passwordOk wPw = true ∧ passwordOk (wPw ++ wPw) = true ∧ passwordOk (0x41 :: (wPw ++ wPw)) = false ∧
    q.waitAt = none ∧ q.password ≠ none ∧ q.password ≠ some (0x42 :: wPw) ∧ (wSess { waitAt := some 0 }).qn.waitAt ≠ none ∧
    (wSess {}).qn.password = none ∧ (wSess {}).qn.session = none ∧ (1 : Word) ≠ 0 ∧ (1 : Word).toNat ≤ 256 := by
  decide +kernel
theorem wit_QuoinSessionsGuardTheConfiguration_commit :
    (wSess { session := some wSession, staged := wQCfg }).quoinCfgOk wQCfg = true := by decide +kernel
theorem wit_QuoinSessionsGuardTheConfiguration_crc : ∃ crc : Word, crc ≠ crc32c wQCfg.toList :=
  ⟨~~~crc32c wQCfg.toList, fun h => by have := congrArg (BitVec.getLsbD · 0) h; simp at this⟩
theorem wit_QuoinSessionsGuardTheConfiguration_times :
    let x (t : Nat) := wSess { session := some wSession, waitAt := some 0 } t
    (x 0).bn.mode = .configure ∧ (x 0).qn.session = some wSession ∧ (x 0).rail.up < wSession.last + 600000000000 ∧
      wSession.last + 600000000000 ≤ (x 600000000000).rail.up ∧ (x 0).qn.waitAt = some 0 ∧ (x 0).rail.up < 0 + 60000000000 ∧
      0 + 60000000000 ≤ (x 60000000000).rail.up := by
  decide +kernel
def rowClear (o : Nat) : Instr := .qnFaultClear c0 7 (0, 0) { ossdA := o, ossdB := 0, offA := 0x1F, offB := 0x1F }
def wClear (o : Nat) : Bench :=
  asked (rowClear o) ((wQuoin { cfg := some wQCfg, a := { fault := 0x10 }, b := { fault := 0x10 } } .run).bench 0)
def wCleared : Bench := ((wClear 0).pulsesSeen false 0x1F).pulsesSeen true 0x1F
def wLeft (found : Word) (ok : Bool) (l : Lane) : Word := (l.fault ||| found) &&& ~~~ wCleared.faultsGone l ok
theorem wit_QuoinFaultsClearAndReferencesSet :
    (wClear 0).Answers c0 ∧ (wClear 0).Takes modesAny ∧ (wClear 0).issued (rowClear 0) = true ∧
    (wClear 5000).Answers c0 ∧ (wClear 5000).Takes modesAny ∧ (wClear 5000).issued (rowClear 5000) = true := by
  dsimp only [Bench.Answers]; decide +kernel
theorem wit_QuoinFaultsClearAndReferencesSet_left :
    wLeft 0 true wCleared.qn.a ||| wLeft 0 true wCleared.qn.b = 0 ∧
    wLeft 0x20 false wCleared.qn.a ||| wLeft 0x20 false wCleared.qn.b ≠ 0 := by decide +kernel
def rowRef (lo : Word) : Instr := .qnSetRef c0 0 7 lo 0
def wRef (x : Axis) (lo : Word) : Bench := asked (rowRef lo) ((wQuoin { cfg := some wQCfg } .run 20 x).bench 0)
abbrev RefReady (lo : Word) : Prop :=
  let b := wRef {} lo
  b.Answers c0 ∧ b.Takes modesRun ∧ b.issued (rowRef lo) = true ∧ b.qAxisEn 0 = true ∧
    (b.axis (b.qAxis 0)).state = .idle ∧ cat64 lo 0 % 10 = 0
theorem wit_QuoinFaultsClearAndReferencesSet_ref :
    RefReady 0 ∧ RefReady 10 ∧ RefReady 20 ∧
    (wRef {} 20).acceptance ≤ cat64 20 0 ∧ cat64 10 0 ≠ 0 ∧ cat64 10 0 < (wRef {} 10).acceptance ∧
    (let b := wRef { state := .moving } 20
     b.Answers c0 ∧ b.Takes modesRun ∧ b.issued (rowRef 20) = true ∧ b.qAxisEn 0 = true ∧ (b.axis (b.qAxis 0)).state ≠ .idle) := by
  dsimp only [Bench.Answers]; decide +kernel
theorem wit_QuoinLanesDecide :
    let x (q : Quoin) (t : Nat) := at0 (wQuoin { q with cfg := some wQCfg } .run t)
    let y : Bench := x {} 100000
    (y.fc.powered = true ∧ y.rail.now % 10000 = 0 ∧ y.rail.now % 100000 = 0 ∧ (y.lane false).exchAt + 5000 ≤ y.rail.now ∧
      (x {} 0).rail.now < ((x {} 0).lane false).exchAt + 5000 ∧ y.qAxisEn 0 = true ∧ y.qn.setRef = []) ∧
    (let b := x { laneDiff := some 0 } 2000000
     b.qn.laneDiff = some 0 ∧ 0 + 2000000 ≤ b.rail.now) ∧
    (let b := x {} 100000000
     b.qTpp ≠ 0 ∧ b.rail.now % b.qTpp = 0 ∧ b.fc.powered = true ∧ b.fedFrom false 0 = true) ∧
    (let b := x {} 100200000
     b.qTpp ≠ 0 ∧ b.pulsePhase false = b.qTpw ∧ b.qTpw ≠ 0 ∧ b.fc.powered = true) ∧
    ((x {} 5000).lane true).toggleAt + 5000 ≤ (x {} 5000).rail.now ∧ (x {} 0).rail.now < ((x {} 0).lane true).toggleAt + 5000 ∧
    (let b := x {} 50000000
     b.rail.now % b.qTpp = b.qTpp / 2 ∧ b.fedFrom true 1 = true) ∧
    (let b := x { a := { ch := Vector.replicate 5 { raw := true, acc := 1000000 } } } 0
     ((b.lane false).ch[(0 : Fin 5)]).raw ≠ ((b.lane false).ch[(0 : Fin 5)]).filt ∧
      b.qIfilt 0 ≤ ((b.lane false).ch[(0 : Fin 5)]).acc ∧ b.inWindow ((b.lane false).ch[(0 : Fin 5)]).win b.rail.now = false) ∧
    (let b := x { a := { ch := Vector.replicate 5 { raw := true } } } 0
     ((b.lane false).ch[(0 : Fin 5)]).acc < b.qIfilt 0) ∧
    (let b := x { a := { discAt := Vector.replicate 2 (some 0) } } 10000000
     (b.lane false).discAt[(0 : Fin 2)] = some 0 ∧ 0 + b.qDisc 0 ≤ b.rail.now) ∧
    (let b := x { ossdOn := true } 20000000
     b.qOpp ≠ 0 ∧ b.rail.now % b.qOpp = 0 ∧ b.qn.ossdOn = true) ∧
    (let b := x { ossdOn := true } 10000000
     b.rail.now % b.qOpp = b.qOpp / 2) ∧
    ((x {} 10000000).rail.now % 10000 = 0 ∧ (x {} 10000000).ossdBad 0 5000 = true ∧ (x {} 10000000).ossdBad 0 4999 = false ∧
      (x {} 10000000).ossdBad 1 4999 = false) ∧
    (let b := x { a := { state := .stopping } } 1000000
     (b.lane false).state = .stopping ∧ (b.lane false).stopAt + b.qSs1 ≤ b.rail.now) ∧
    (let b := x { active := 0xA8 } 100000
     b.activeNow = b.qn.active ∧ bitOf b.qn.active 5 = true ∧ b.slpBad 0 (b.quoinPosA 0) = true ∧
      b.qPtol 0 < (x { pRef := Vector.replicate 2 0, posRef := #v[7, 0] } 100000).quoinPosB 0 - (x { posRef := #v[7, 0] } 100000).quoinPosA 0) ∧
    ((x {} 0).qAxisEn 1 = false ∨ (at0 (wQuoin {} .run 0)).qAxisEn 0 = false) ∧
    (let b := x { posDiff := Vector.replicate 2 (some 0) } 10000000
     b.qAxisEn 0 = true ∧ b.qn.posDiff[(0 : Fin 2)] = some 0 ∧ 0 + 10000000 ≤ b.rail.now) := by
  decide +kernel
def wPress (f : Nat) : Bench := at0 (wQuoin {
  cfg := some ((wQCfg.set 8 0).set 2 0x50000101)
  a := { state := .ready, ch := Vector.replicate 5 { filt := true } }, b := { state := .ready, ch := Vector.replicate 5 { filt := true } }
  rstReq := true, pressAt := some 0, fellAt := some f, pressReady := true } .run f)
theorem wit_QuoinLanesDecide_reset :
    let x := wPress 50000000
    (x.bn.mode ≠ .wake ∧ x.qn.a.demand = x.laneDemand x.qn.a ∧ x.qn.b.demand = x.laneDemand x.qn.b ∧ x.outFell = false) ∧
    (x.qn.pressAt = some 0 ∧ x.qn.fellAt = some 50000000 ∧ x.qn.pressReady = true ∧ x.qn.stPend = false ∧ x.qn.fault = 0 ∧
      x.qn.setRef = [] ∧ x.activeNow = x.qn.active ∧ x.qn.a.state = .ready ∧ x.qn.b.state = .ready) ∧
    (∀ k ∈ [1, 2], x.withAction k (x.laneDemand x.qn.a) = false ∧ x.withAction k (x.laneDemand x.qn.b) = false) ∧
    (wPress 49999999).qn.fellAt = some 49999999 ∧ (wPress 3000000001).qn.fellAt = some 3000000001 := by
  decide +kernel
theorem wit_HaulServesItsStations (m : Mode) (h : m ∈ [Mode.run, .hold]) :
    let b := at0 (wHaul 20000 { state := .operational } m { link := true })
    let d := (wHaul 0 {} m {}).bench 0
    let start := b.rail.now + b.haulLead - b.haulAof
    (b.haulEn = true ∧ b.ha.link = true ∧ b.haulBase ≠ 0 ∧ b.haulAof + b.haulPhase ≤ b.rail.now + b.haulLead ∧
      (start - b.haulPhase) % b.haulBase = 0 ∧ b.bn.mode = m ∧ b.stationEn 0 = true ∧ b.servedAt 0 start = true ∧
      (b.station 0).state = .operational ∧ (b.station 0).waiting = false ∧ bitOf (b.guard 0x160) 0 = true) ∧
    d.Takes (fun m => m = .run || m = .hold) ∧ d.bn.mode = m ∧ d.Answers c0 ∧ d.stationEn 0 = true ∧ d.stationEn 2 = false := by
  revert m; dsimp only [Bench.Answers]; decide +kernel
theorem wit_HaulServesItsStations_dropped :
    let x : Bench := at0 (wHaul 20000 {})
    x.ha.link = false ∧ x.frameOk { wUp 0 with vid := 1 } = false ∧ x.frameOk { wUp 0 with payload := List.replicate 41 0 } = false := by
  decide +kernel
/-- An up frame of station 0 that is valid at 25 µs, with the station in a state and a number of good frames. -/
theorem wit_HaulServesItsStations_valid (q : StationState) (h : q ∈ [StationState.init, .lost, .operational]) (g : Nat) (hg : g ∈ [0, 1]) :
    let b := at0 (wHaul 25000 { state := q, good := g })
    let f := wUp 20000
    (f.typ = 1 ∧ b.frameOk f = true ∧ f.station = 0 ∧ b.stationEn 0 = true ∧ (b.station 0).state = q ∧
      b.latchAt 0 b.rail.now = some f.latch ∧ b.rail.now ≤ f.latch + b.haulRxwin ∧ f.holds (b.stationIn 0).length = true ∧
      f.lateLatch = false ∧ (b.station 0).latch ≠ some f.latch) ∧
    b.bn.mode = .run ∧ (b.station 0).good + 1 = g + 1 ∧ 1 < b.haulRcnt ∧ b.haulRcnt ≤ 1 + 1 := by
  revert q g; decide +kernel
theorem wit_HaulServesItsStations_points :
    let b := at0 (wHaul 25000 { state := .operational })
    (3, (9 : Word)) ∈ (b.stationIn 0).zip ((wUp 20000).slots (b.stationIn 0).length) ∧ 3 ∈ b.stationIn 0 ∧ (b.point 3).source = 2 ∧
      (b.point 3).output = false ∧ (b.settleForces 3 20000).forceOn 3 = none ∧ ∀ o ∈ b.stations, o ≠ 0 → 3 ∉ b.stationIn o := by
  decide +kernel
theorem wit_HaulServesItsStations_late (k : Nat) (h : k ∈ [0, 1]) :
    let b := at0 (wHaul 30000 { state := .operational, missRun := k })
    b.haulRxwin ≤ b.rail.now ∧ b.servedAt 0 (b.rail.now - b.haulRxwin) = true ∧ (b.station 0).latch ≠ some 20000 ∧
      (b.station 0).missRun = k ∧ 0 + 1 < b.haulMisslim ∧ b.haulMisslim ≤ 1 + 1 := by
  revert k; decide +kernel
theorem wit_HaulServesItsStations_words :
    fld 0x100#32 5 0 = 0 ∧ bitOf (0x100#32) 8 = true ∧ fld 2#32 5 0 = 2 ∧ bitOf (0#32) 8 = false ∧
    bitOf (at0 (wHaul 0 {} .run { mdioCmd := 0x80000000 })).ha.mdioCmd 31 = true ∧ bitOf (at0 (wHaul 0 {})).ha.mdioCmd 31 = false := by
  decide +kernel
theorem wit_CanReceivesIntoBuffers :
    let z (t : Nat) (c : Can) (act : Word) := at0 (wCan t c act)
    let f : CanFrame := { h0 := 0x123, h1 := 8, data := [1, 2] }
    (let b := (wCan 0 { addr := 0x2804 } 0 .configure).bench 0
     b.can[(0 : Fin 2)].addr = 0x2804 ∧ b.bn.mode = .configure) ∧
    (let b := (wCan 0 { addr := 4 }).bench 0
     b.can[(0 : Fin 2)].addr = 4 ∧ b.bn.mode ≠ .configure) ∧
    (let c : Can := (wCan 0 { holds := [{ slot := 0, buf := 2 }] }).bench 0 |>.can[(0 : Fin 2)]
     c.holds.find? (fun x => x.buf = 1) = none ∧ c.holds.find? (fun x => x.buf = 2) = some { slot := 0, buf := 2 }) ∧
    (let b (t : Nat) := z t { locks := [(2, 0)] } 0
     ((b 0).can[(0 : Fin 2)]).locks.find? (fun l => l.1 = 2) = some (2, 0) ∧ 0 + 100000 ≤ (b 100000).rail.now ∧
      (b 0).rail.now < 0 + 100000) ∧
    (∀ q ∈ [CanState.active, .monitoring], let b := z 0 { state := q } 0x10020000
     b.canEn 0 = true ∧ (b.can[(0 : Fin 2)].state.normal = true ∨ b.can[(0 : Fin 2)].state = .monitoring) ∧ b.bn.mode ≠ .wake ∧
      b.can[(0 : Fin 2)].decide f = some (0, 0) ∧ bitOf (b.can[(0 : Fin 2)].word (filterAt 0 0 + 12)) 28 = true ∧
      fld (b.can[(0 : Fin 2)].word (filterAt 0 0 + 12)) 21 16 = 2 ∧ b.can[(0 : Fin 2)].locked 2 = false) ∧
    (let b := at0 (wCan 0 { state := .active } 0x20000000 .run 0xC0000000 { cfg := 0x83000000 })
     b.can[(0 : Fin 2)].decide f = some (0, 0) ∧ bitOf (b.can[(0 : Fin 2)].word (filterAt 0 0 + 12)) 28 = false ∧
      bitOf (b.can[(0 : Fin 2)].word (filterAt 0 0 + 12)) 29 = true ∧ b.bn.mode ≠ .shadow ∧ (b.fifo 0).en = true ∧
      (b.fifo 0).prod = 3 ∧ (b.fifo 0).dropping = false ∧ 3 + (frameWords f.bytes f.data).length ≤ (b.fifo 0).free) ∧
    (let b := z 0 { state := .active } 0
     b.can[(0 : Fin 2)].decide { f with h0 := 0x20000000 } = none ∧ bitOf (b.cw 0 8) 27 = false ∧
      b.canOwnId 0 { f with h0 := 0x100 } = true) := by
  decide +kernel
theorem wit_CanSendsPendingFrames :
    let x (t : Nat) (c : Can) (m : Mode) (f : Fifo) := atC (wCan t c 0 m 0xC0000000 f)
    (∀ m ∈ [Mode.run, .hold], let b := x 999000 { state := .active, pending := [wPend (.object 0) 0x100] } m {}
     b.bn.mode = m ∧ b.canEn 0 = true ∧ b.objEn 0 0 = true ∧ b.objInstant 0 0 (b.rail.now + 1000) = true ∧
      b.canAllowed 0 (b.objFrame 0 0) = true ∧ (∀ q ∈ b.can[(0 : Fin 2)].pending, b.canAllowed 0 q.frame = true) ∧
      b.can[(0 : Fin 2)].urgent = none ∧ b.can[(0 : Fin 2)].state = .active ∧
      (b.can[(0 : Fin 2)].pending.any fun q => q.src = .object 0 && q.dead.isNone) = true) ∧
    (let b := x 0 { state := .active } .run { cfg := 0x80300000, words := [(0x123, false), (1, false), (0, false), (0xAB, true)] }
     let c := x 0 { state := .active } .run { cfg := 0x80300000, words := [(0x123, true)] }
     (b.fifo 0).en = true ∧ (b.fifo 0).cons = 3 ∧ (b.fifo 0).pkts ≠ 0 ∧
      b.packetFrame 0 (b.fifo 0).firstPacket = some { h0 := 0x123, h1 := 1, data := [0xAB] } ∧
      b.canAllowed 0 { h0 := 0x123, h1 := 1, data := [0xAB] } = true ∧ c.packetFrame 0 (c.fifo 0).firstPacket = none ∧
      (c.fifo 0).pkts ≠ 0) ∧
    (let b := x 0 { state := .active, pending := [wPend .reference 7] } .run {}
     b.can[(0 : Fin 2)].state.normal = true ∧ b.can[(0 : Fin 2)].offer 0 = some { wPend .reference 7 with passed := true } ∧
      (∀ q ∈ b.can[(0 : Fin 2)].pending, b.canAllowed 0 q.frame = true)) ∧
    (let b := x 100000 { state := .active } .hold {}
     b.refActive 0 = true ∧ b.refPeriod 0 ≠ 0 ∧ b.rail.now % b.refPeriod 0 = 0 ∧
      b.canAllowed 0 { h0 := b.cw 0 0x1C &&& 0x3FFFFFFF#32, h1 := 1, data := [at32 b.can[(0 : Fin 2)].cycle 0] } = true) ∧
    (let b := x 0 { state := .active, pending := [{ wPend (.fifo 0) 0x800 with passed := true }] } .run {}
     b.can[(0 : Fin 2)].state.normal = true ∧ b.can[(0 : Fin 2)].purge.offer b.rail.now = some (wPend (.fifo 0) 0x800) ∧ b.canAllowed 0 (wPend (.fifo 0) 0x800).frame = false) ∧
    (let b := x 50000 { pending := [wPend .reference 7] } .run {}
     (b.can[(0 : Fin 2)].pending.any fun q => q.src = .reference && q.dead.isNone && q.time + b.refPeriod 0 / 2 ≤ b.rail.now) = true) ∧
    (∀ m ∈ [Mode.run, .hold], let b := (wCan 0 {} 0 m).bench 0
     b.bn.bootRom = false ∧ b.bn.mode = m ∧ b.Answers c0 ∧ b.objOk 0 0 = true ∧ loadOk (b.canLoad 0 (some 0)) = true ∧
      b.objOk 0 1 = false) ∧
    0x10000#32 &&& 0xFFFEC0FE#32 = 0 ∧ fld 0x10000#32 13 8 = 0 ∧ bitOf (0x10000#32) 16 = true ∧ bitOf (0#32) 16 = false ∧
    0x10100#32 &&& 0xFFFEC0FE#32 = 0 ∧ fld 0x10100#32 13 8 = 1 := by
  dsimp only [Bench.Answers]; decide +kernel
theorem wit_CanErrorsAndRecovery :
    let x (c : Can) (w8 : Word) := atC (wCan 0 c 0 .run w8)
    (∀ q ∈ [CanState.active, .passive], ∀ e ∈ [0, 120, 250], let b := x { state := q, txErr := e } 0xC0000000
     b.canEn 0 = true ∧ b.can[(0 : Fin 2)].state = q ∧ b.can[(0 : Fin 2)].state.normal = true ∧
      b.can[(0 : Fin 2)].txErr + 8 = e + 8 ∧ b.canFd 0 = true ∧ b.canResAct 0 = false) ∧
    (let b := x { state := .active, pending := [wPend .reference 7] } 0xC0000000
     let p := { wPend .reference 7 with passed := true }
     (some 0).bind b.can[(0 : Fin 2)].offer = some p ∧ none.bind b.can[(0 : Fin 2)].offer = none ∧
      b.canErrs 0 p.frame 5 true (.frame false {}) = true ∧ b.canErrs 0 p.frame 3 false .inFlag = true) ∧
    (255 < 250 + 8 ∧ 120 + 8 ≤ 255 ∧ 127 < 120 + 8 ∧ 0 + 8 ≤ 127) ∧
    (x { state := .busOff, recovering := true } 0).can[(0 : Fin 2)].recovering = true ∧
    (x {} 0).can[(0 : Fin 2)].recovering = false ∧ (x {} 0).canBorAuto 0 = false ∧ (x { state := .integrating } 0).can[(0 : Fin 2)].state = .integrating ∧
    (let b := (wCan 0 { state := .busOff }).bench 0
     b.bn.bootRom = false ∧ modesCfgRunHold b.bn.mode = true ∧ b.Answers c0 ∧ b.can[(0 : Fin 2)].state = .busOff ∧
      b.canBorAuto 0 = false) ∧
    ((wCan 0 {}).bench 0).can[(0 : Fin 2)].state ≠ .busOff := by
  dsimp only [Bench.Answers]; decide +kernel
/-- Bench 0 in RUN with capture channel 0 (the digital word) and trigger unit 1 (digital input 0) given. -/
def wKerf (t : Nat) (k : KfChan) (u : KfUnit := {}) (m : Mode := .run) (raw : Bool := false) : State := st { inMode m t with
  fc := { seen := { raw := if raw then 0xFFFF else 0 } }
  kf := { chans := (Vector.replicate 32 {}).set 0 k, units := (Vector.replicate 8 {}).set 1 u } }
theorem wit_KerfCapturesAroundTheTrigger :
    let b (t : Nat) (k : KfChan) (u : KfUnit) := (wKerf t k u).bench 0
    let d (x : Bench) := x.kerfDrain x.kfTaps.length
    let k : KfChan := { cfg := 0xC1000000, mem := 1 }
    (let x := b 0 k {}
     x.Takes modesRun ∧ x.Takes modesAny ∧ x.Answers c0 ∧ ((d x).kf.chans[(0 : Fin 32)]).state = .idle ∧
      ((d x).kf.chans[(0 : Fin 32)]).en = true ∧ ((d x).kf.chans[(0 : Fin 32)]).cap = 4092) ∧
    ((1 : Word) ≠ 0 ∧ (4091 : Word).toNat < 4092 ∧ (4091 : Word).toNat + (1 : Word).toNat ≤ 4092 ∧
      4092 < (4091 : Word).toNat + (2 : Word).toNat ∧ 4092 ≤ (4092 : Word).toNat) ∧
    ((d (b 0 { k with state := .capturing } {})).kf.chans[(0 : Fin 32)]).state = .capturing ∧
    ((d (b 0 {} {})).kf.units[(1 : Fin 8)]).hmode = false ∧ ((d (b 0 {} {})).kf.units[(1 : Fin 8)]).until_ = none ∧
    (let x := b 0 {} { until_ := some 10 }
     ((d x).kf.units[(1 : Fin 8)]).until_ = some 10 ∧ x.acceptance / 10 * 10 < 10) ∧
    (let l : KfChan := (b 0 { records := [(0, some { header := [1], samples := [] })] } {}).kf.chans[(mkIx 31 (fld 0x10000#32 4 0) : Fin 32)]
     0x10000#32 &&& 0xFFFE00E0#32 = 0 ∧ bitOf (0x10000#32) 16 = true ∧ l.state ≠ .full ∧
      Tbl.get none l.records (fld 0x10000#32 15 8) = some { header := [1], samples := [] } ∧
      ({ header := [1], samples := [] } : KfRecord).words.length = 1 ∧ 1 ≤ c0.buf / 4 ∧ ({ c0 with buf := 0 } : Cmd).buf / 4 < 1 ∧
      Tbl.get none l.records (fld 0x100#32 15 8) = none) ∧
    (at0 (wKerf 0 {} {} .hold)).bn.mode ≠ .run ∧
    (let z := at0 (wKerf 1000 {} { src := 0x80000000, up := true } .run true)
     let v : KfUnit := z.kf.units[(1 : Fin 8)]
     z.bn.mode = .run ∧ v.stype = 2 ∧ v.source < 16 ∧ bitOf (z.fc.seen.raw) v.source = true ∧ v.up = true ∧
      v.hmode = false ∧ v.until_ = none) ∧
    (∀ q ∈ [KfState.armed, .capturing], let z := at0 (wKerf 1000 { k with state := q, post := 5 } {})
     (∀ j : Fin 8, (z.kf.units[j]).stype ≠ 2) ∧ (z.kf.chans[(0 : Fin 32)]).en = true ∧
      (z.kf.chans[(0 : Fin 32)]).ctype = 2 ∧ z.kf.busy ≤ z.rail.now ∧ (z.kf.chans[(0 : Fin 32)]).state = q ∧
      (z.kf.chans[(0 : Fin 32)]).time ≤ z.rail.now / 1000 * 1000 ∧
      (z.kf.chans[(0 : Fin 32)]).after.length + 1 < (z.kf.chans[(0 : Fin 32)]).post) ∧
    ((at0 (wKerf 0 { k with state := .rearm } {})).kf.chans[(0 : Fin 32)]).state = .rearm := by
  dsimp only [Bench.Takes, Bench.Answers]; decide +kernel
def wTap (p : Nat) (v : Word) (q : Half) (time : Nat) : Tap := { point := p, entry := { value := v, quality := q }, time := time }
/-- Bench 0 with a digest of one-second intervals, updates that wait for it and a reduction of point 3. -/
def wDigest (t : Nat) (l : List Tap) (r : Reduction := {}) (m : Mode := .run) : State := st { inMode m t with
  dgTaps := l, dg := { cfg := 0x80000064, red := Tbl.set {} [] 3 r, open_ := some (0, 0) } }
theorem wit_DigestReducesEveryUpdate :
    let x (t : Nat) (l : List Tap) := at0 (wDigest t l { count := 1 })
    ((x 0 [wTap 3 7 1 0]).dgTaps = [wTap 3 7 1 0] ∧ (x 0 []).dgTaps = [] ∧ badQuality (wTap 3 7 0 0).entry.quality = true ∧
      badQuality (wTap 3 7 1 0).entry.quality = false ∧ (wTap 3 7 1 0).entry.format = 0 ∧
      (Tbl.get {} (x 0 []).dg.red 3).count ≠ BitVec.allOnes 32 ∧ (Tbl.get {} (x 0 []).dg.red 3).count ≠ 0) ∧
    (let z := x 1000000000 [wTap 3 7 1 0]
     z.bn.mode = .run ∧ bitOf z.dg.cfg 31 = true ∧ z.dgMode = false ∧ fld z.dg.cfg 18 0 * 10000000 ≠ 0 ∧
      z.rail.now % (fld z.dg.cfg 18 0 * 10000000) = 0 ∧ (z.digestDrain z.rail.now z.dgTaps.length).dg.open_ = some (0, 0)) ∧
    (x 1 []).rail.now % (fld (x 1 []).dg.cfg 18 0 * 10000000) ≠ 0 ∧
    (∀ m ∈ [Mode.run, .configure], let h := (wDigest 5 [] {} m).bench 0
     h.bn.bootRom = false ∧ h.bn.mode = m ∧ h.Answers c0 ∧ (h.digestDrain h.rail.now h.dgTaps.length).dg.open_ = some (0, 0)) := by
  dsimp only [Bench.Answers]; decide +kernel
theorem wit_DigestReducesEveryUpdate_length :
    (List.replicate 16384 (0 : Byte)).length = 16384 ∧ ([] : List Byte).length ≠ 16384 :=
  ⟨List.length_replicate, by decide⟩
/-- Bench 0 with a health recorder whose period began at supply. -/
def wHealth (t : Nat) (g : Gauge) (m : Mode := .run) : State := st { inMode m t with
  hl := { running := true, gauges := Vector.replicate 4 g, counts := Vector.replicate 25 3, sev := 2, early := some 0 } }
theorem wit_HealthPeriodsAreRecorded :
    let x (t : Nat) := at0 (wHealth t { count := 2, min := -3, max := 9 })
    let b := (wHealth 0 {}).bench 0
    (x 0).hl.running = true ∧ (x 0).bn.mode ≠ .wake ∧ ((x 0).hl.gauges[(0 : Fin 4)]).count ≠ 0 ∧
    (x 3600000000000).hl.up + fld (x 3600000000000).hl.cfg 10 0 * 60000000000 ≤ (x 3600000000000).rail.up ∧
    (x 3599999999999).rail.up < (x 3599999999999).hl.up + fld (x 3599999999999).hl.cfg 10 0 * 60000000000 ∧
    b.Takes modesAny ∧ b.Answers c0 ∧
    ((64 : Word) ≠ 0 ∧ (64 : Word).toNat ≤ 64 ∧ (16320 : Word).toNat + (64 : Word).toNat ≤ 16384 ∧ 64 < (65 : Word).toNat) := by
  dsimp only [Bench.Takes, Bench.Answers]; decide +kernel
/-- The lowest slot that a recorder without records takes. -/
theorem wit_HealthPeriodsAreRecorded_slot : (at0 (wHealth 0 {})).hl.slotFor 2 = some 0 := by decide +kernel
/-- One record in slot 0, read into a list that holds it and into one that does not. -/
theorem wit_HealthPeriodsAreRecorded_read :
    let h : Health := { slots := [(0, some (List.replicate 64 1))] }
    let recs := ((List.range (1 : Word).toNat).map ((0 : Word).toNat + ·)).filterMap fun k => Tbl.get none h.slots k
    (1 : Word) ≠ 0 ∧ (1 : Word).toNat ≤ 64 ∧ recs.flatten.length = 64 ∧ 64 ≤ c0.buf / 4 ∧
      ({ c0 with buf := 8 } : Cmd).buf / 4 < 64 := by decide +kernel
theorem wit_PairPathsAreWatched :
    let x (m : Mode) (t : Nat) (n : Nalry) := at0 (wPair m t n)
    (let b := x .run 1000 { tokenAt := some 0 }
     b.paired = true ∧ b.nl.laneUp = true ∧ b.bn.mode ≠ .wake ∧ b.rail.now % 1000 = 0 ∧ b.pulsing = true ∧ b.nl.hb = none) ∧
    (x .run 0 {}).pulsing = false ∧ (at0 (inMode .run |> st)).paired = false ∧ (x .run 0 {}).bn.mode ≠ .shadow ∧
    ((wHb 3 0 true).mode = 3 ∧ (wHb 3 0 true).stale = true ∧ (wHb 2 1).cls = 1 ∧ (wHb 2 1).custody = false ∧ (wHb 2 2).cls = 2) ∧
    (let b := x .shadow 0 { wasEligible := true }
     b.bn.mode = .shadow ∧ b.nl.wasEligible = true ∧ b.nl.stale = false ∧ b.nl.custIn = false) ∧
    (∀ m ∈ [Mode.run, .shadow], let b := x m 6000 { nalryOk := true, tallyOk := true, hb := some (wHb 3) }
     b.nl.nalryOk = true ∧ b.nl.hbAt + 6000 ≤ b.rail.now ∧ b.bn.mode = m ∧ b.nl.tallyOk = true ∧ b.nl.hb = some (wHb 3) ∧
      (wHb 3).mode = 3) ∧
    ((x .run 5999 {}).rail.now < (x .run 5999 {}).nl.hbAt + 6000) ∧
    (let b := x .run 5000 { tallyOk := true }
     b.nl.tallyOk = true ∧ b.nl.tallyAt + 5000 ≤ b.rail.now ∧ b.bn.mode ≠ .shadow) ∧
    (let b := x .shadow 5000 { tallyOk := true }
     b.nl.nalryOk = false ∧ (x .run 4999 {}).rail.now < (x .run 4999 {}).nl.tallyAt + 5000) ∧
    (∀ l ∈ [true, false], (x .run 0 { custIn := l }).nl.custIn ≠ (!l) ∧ (x .run 0 { custIn := l }).nl.custIn = l) ∧
    (x .shadow 0 { custIn := true, nalryOk := true, hoX := some (9, true) }).rail.now < 9 ∧
    (let b := x .shadow 9 { custIn := true, nalryOk := true, hoX := some (9, true) }
     9 ≤ b.rail.now ∧ b.nl.stale = false) ∧
    (let b := x .shadow 0 { custIn := true, nalryOk := true, hoX := some (9, true) }
     b.nl.custIn = true ∧ b.bn.mode = .shadow ∧ b.nl.nalryOk = true ∧ b.partnerClass = 0 ∧ b.nl.hoX = some (9, true)) := by
  decide +kernel
theorem wit_ShadowTakesOver :
    let x (m : Mode) (t : Nat) (n : Nalry) := at0 (wPair m t n)
    (let b := x .shadow 2000 { wasEligible := true }
     b.bn.mode = .shadow ∧ b.nl.wasEligible = true ∧ b.nl.stale = false ∧ b.nl.drive = none ∧ b.takeoverRow = true ∧
      b.nl.custAt + 2000 ≤ b.rail.now) ∧
    ((x .shadow 0 {}).nl.wasEligible = false ∧ (x .shadow 0 { custIn := true }).nl.custIn = true ∧ (x .run 0 {}).bn.mode ≠ .shadow) ∧
    (∀ l ∈ [true, false], ∀ h ∈ [true, false], let b := x .shadow 9000 { custIn := l, drive := some (9000, h) }
     b.bn.mode = .shadow ∧ b.nl.drive = some (9000, h) ∧ 9000 ≤ b.rail.now ∧ b.nl.custIn = l) := by
  decide +kernel
def wPart : EnginePart := { seq := 5, time := 3, points := [(2, [7, 0x10000001, 9, 0])] }
theorem wit_StateCopyReachesTheShadow :
    let x (m : Mode) (n : Nalry) := at0 (wPair m 0 n)
    (x .run {}).bn.mode ≠ .shadow ∧ (x .shadow {}).bn.mode = .shadow ∧ (wPart.points.map (·.1)).Nodup ∧
    (2, [7, 0x10000001, 9, 0]) ∈ wPart.points ∧ 1 ∉ wPart.points.map (·.1) ∧
    (let b := x .shadow { hoX := some (1000, false) }
     b.nl.hoX = some (1000, false) ∧ b.rail.now + 1000 ≤ 1000 ∧ b.nl.migr = none) ∧
    (0x2000 / 4096 ∉ ([(1, [(0, (9 : Byte))])] : List (Nat × List (Nat × Byte))).map (·.1)) ∧
    (x .shadow {}).nl.retry = false ∧ (x .shadow { retry := true }).nl.retry = true ∧
    (let b := x .shadow { retry := true, hb := some (wHb 2) }
     b.bn.mode = .shadow ∧ b.nl.retry = true ∧ b.partnerRun = true ∧ b.nl.laneUp = true) ∧
    (let b := x .run {}
     b.paired = true ∧ b.nl.laneUp = true ∧ b.bn.mode = .run ∧ b.nl.resync = false) ∧
    (∀ r ∈ [true, false], let b := (wPair .shadow 0 { resync := r }).bench 0
     b.bn.bootRom = false ∧ b.bn.mode = .shadow ∧ b.Answers c0 ∧ b.nl.resync = r) ∧
    (let h : Handover := { tag := 1, noirq := false, start := 0, maxDefer := 1, x := some 1000 }
     (x .run { ho := some h }).nl.ho = some h ∧ h.x = some 1000 ∧ (x .run { ho := some h }).rail.now + 1000 ≤ 1000) := by
  dsimp only [Bench.Answers]; decide +kernel
def wHo (x : Option Nat) (a : Bool := false) (g : Nat := 0) : Handover := { tag := 5, noirq := false, start := 20, maxDefer := 2, gaps := g, gapAt := some 200000, x := x, acked := a }
theorem wit_PlannedHandoverRuns :
    let x (t : Nat) (n : Nalry) := at0 (wPair .run t n)
    (let b := (wPair .run 0 { nalryOk := true, hb := some { wHb 3 with eligible := true } }).bench 0
     b.Takes modesRun ∧ b.Answers c0 ∧ cat64 20 0 % 10 = 0 ∧ (1 : Word) ≠ 0 ∧ (1 : Word).toNat ≤ 65535 ∧ b.shadowEligible = true ∧
      b.nl.ho = none ∧ b.pe.chg = none ∧ ((wPair .run 0 {}).bench 0).shadowEligible = false) ∧
    (∀ g ∈ [0, 1], let b := x 200000 { ho := some (wHo none false g) }
     let c : Bench := { b with mx := { axes := Tbl.set {} [] 0 { state := .moving } } }
     b.nl.ho = some (wHo none false g) ∧ (wHo none false g).x = none ∧ b.bn.mode = .run ∧ b.handoverGap (wHo none false g) = some 200000 ∧
      b.noLogic = true ∧ b.switching = false ∧ b.nl.busyUntil ≤ b.rail.now ∧ b.localIdle = true ∧ c.localIdle = false) ∧
    (let b : Bench := { x 200000 { ho := some (wHo none) } with pe := {} }
     b.handoverFits 200000 (6000 + laneTime (partBytes (b.enginePart false))) = true ∧ b.noLogic = true ∧ b.localIdle = true) ∧
    (wHo none).gaps + 1 ≠ (wHo none).maxDefer ∧ (wHo none false 1).gaps + 1 = (wHo none false 1).maxDefer ∧
    (∀ a ∈ [true, false], let b := x 5000 { ho := some (wHo (some 5000) a) }
     b.nl.ho = some (wHo (some 5000) a) ∧ (wHo (some 5000) a).x = some 5000 ∧ (wHo (some 5000) a).acked = a ∧
      5000 ≤ b.rail.now + 1000 ∧ b.bn.mode = .run ∧ 5000 ≤ b.rail.now ∧ (x 3999 {}).rail.now + 1000 < 5000) ∧
    (let b := x 19000 { hoX := some (9000, true), custIn := true }
     b.nl.hoX = some (9000, true) ∧ b.nl.custIn = true ∧ 9000 + 10000 ≤ b.rail.now) := by
  dsimp only [Bench.Takes, Bench.Answers]; decide +kernel
theorem wit_ReadsHoldTheirCopies :
    (∀ off ∈ [0x1108, 0x1110], lowWord 0 off = true ∧ off < 0x40000) ∧
    (∀ off ∈ [0x01000, 0x0401C, 0x1C024, 0x1E010, 0x30060], lowWord 1 off = true ∧ off < 0x40000) ∧
    lowWord 0 0 = false ∧ lowWord 1 0x1108 = false ∧ 0x1002 % 4 ≠ 0 ∧ lowWord 1 0x1004 = false ∧ 0x1004 % 4 = 0 ∧ 0x1004 < 0x40000 ∧
    (st { b0 with fn := { held := some (0x1000, 7) } }).fnOf 1 = { held := some (0x1000, 7) } ∧ ((st b0).fnOf 1).held = none ∧
    bitOf (st b0).hub.fn.mask 4 = true ∧ bitOf (st b0 { fn := { mask := 0 } }).hub.fn.mask 4 = false := by
  decide +kernel
theorem wit_WritesFollowTheirAccessCode :
    (0x0100C % 4 = 0 ∧ eventsAt 0x0100C = some 2 ∧ eventsAt 0x1E004 = some 16) ∧
    (confMask 0x80000 = some 0xFFCFFFFF ∧ confMask 0x1D020 = some 0x0001FFFF ∧ faceReserved 0x80000 5 = false) ∧
    ((st (inMode .configure)).bench 0).bn.mode = .configure ∧ ((st (inMode .run)).bench 0).bn.mode ≠ .configure ∧
    (st b0 { mboxBusy := true }).hub.mboxBusy = true ∧ (st b0).hub.mboxBusy = false ∧ (st b0).quiet = true ∧
    (st (inMode .run)).quiet = false := by
  decide +kernel
theorem wit_QueuesFollowTheirDoorbells :
    let b (on : Bool) := (wQc { q := wRings on }).bench 0
    let x (q : Fin 4) : Queue := ((b true).qc.q[q])
    let y (q : Fin 4) : Queue := ((b false).qc.q[q])
    (∀ q : Fin 4, (x q).en = true ∧ 4 < (x q).depth ∧ (4 + (x q).depth - (x q).head) % (x q).depth ≤ (x q).used ∧
      (y q).en = false ∧ 2 ≤ (y q).depth ∧ (y q).depth ≤ 4096 ∧ 131072 ≤ (y 2).depth * (y 2).esz) ∧
    ((x 0).depth ≤ 16 ∧ (x 1).used < (6 + (x 1).depth - (x 1).head) % (x 1).depth) ∧
    (({ size := 1 } : Queue).depth < 2 ∧ 4096 < ({ size := 0x1FFF } : Queue).depth ∧
      ({ size := 16 } : Queue).depth * ({ size := 16 } : Queue).esz < 131072) ∧
    (let z := (wQc { q := wRings true, inflight := [{ tag := 5 }] }).bench 0
     z.qc.findTag 5 = some { tag := 5 } ∧ z.Answers { bench := 0, tag := 5 } ∧ z.qc.findTag 6 = none) ∧
    (∀ e ∈ [(1 : Fin 4), 3], let z := at0 (wQc { q := wRings true |>.map fun q => { q with counted := 1 } } 0 .run 1000)
     (z.qc.q[e]).ien = true ∧ 0 < (z.qc.q[e]).counted ∧ (z.qc.q[e]).firstAt + (z.qc.q[e]).itime * 1000 ≤ z.rail.up ∧
      bitOf z.fn.mask e.val = false ∧ bitOf (0xFF#8) e.val = true) ∧
    (y 1).ien = false ∧ (x 1).counted = 0 ∧
    (let z := at0 (wQc { q := wRings true |>.map fun q => { q with counted := 1 } } 0 .run 999)
     z.rail.up < (z.qc.q[(1 : Fin 4)]).firstAt + (z.qc.q[(1 : Fin 4)]).itime * 1000) := by
  dsimp only [Bench.Answers]; decide +kernel
theorem wit_CommandsAreTakenAndRecordsWritten :
    let b := (wQc { q := wRings true }).bench 0
    (b.ix = 0 ∧ b.bn.mode ≠ .wake ∧ (b.qc.q[(0 : Fin 4)]).en = true ∧ (b.qc.q[(0 : Fin 4)]).error = false ∧
      0 < (b.qc.q[(0 : Fin 4)]).used ∧ (b.qc.q[(1 : Fin 4)]).en = true ∧ b.qc.reserved < (b.qc.q[(1 : Fin 4)]).room ∧
      b.qc.inflight.length < 64 ∧ b.qc.inflight = []) ∧
    (let p := wPkt 0x0104 5 0x40000
     opcodeNeeds (pktOpcode p) = some (4, false) ∧ pktOpcode p / 256 ≠ 14 ∧ pktHeaderOk p 0 (4, false) = true ∧
      b.qc.findTag (pktTag p) = none ∧ pktHeaderOk (wPkt 0x0104 5) 0 (4, false) = false) ∧
    (pktOpcode (wPkt 0x0E01 5) / 256 = 14 ∧ opcodeNeeds (pktOpcode (wPkt 0x0109 5)) = none ∧
      pktOpcode (wPkt 0x0109 5) / 256 ≠ 14) ∧
    ((wQc {}).bench 0).bn.mode ≠ .wake ∧ (((wQc {}).bench 0).qc.q[(0 : Fin 4)]).en = false ∧
    (at0 (wQc {})).qc.ready = [] ∧
    (let x := at0 (wQc { q := wRings true, ready := [.digest [1, 2, 3]] })
     let g := x.qc.q[(2 : Fin 4)]
     let u := ceilDiv (recordBytes (4 * [1, 2, 3].length)) g.esz
     x.qc.ready = .digest [1, 2, 3] :: [] ∧ g.en = true ∧ g.error = false ∧ u ≤ g.room ∧ u ≤ g.depth - g.tail) := by
  decide +kernel
/-- A packet of `n + 1` words, alone in its FIFO. -/
def wLong (n : Nat) : Fifo := { cfg := 0x80500000, words := List.replicate n (0, false) ++ [(0, true)] }
theorem wLong_facts (n : Nat) : 0 < (wLong n).pkts ∧ (wLong n).firstPacket.length = n + 1 := by
  simp [wLong, Fifo.pkts, Fifo.firstPacket]
/-- A packet of 16,379 words is too large for a record. -/
def wBig : State := st { inMode .run with
  qc := { q := wRings true, ready := [.fifo 3] }
  fq := { f := (Vector.replicate 32 {}).set 3 (wLong 16378) } }
theorem wit_CommandsAreTakenAndRecordsWritten_big :
    (at0 wBig).qc.ready = .fifo 3 :: [] ∧ ((at0 wBig).fifo 3).en = true ∧ ((at0 wBig).fifo 3).cons = 5 ∧ 0 < ((at0 wBig).fifo 3).pkts ∧
    65536 < recordBytes (4 * ((at0 wBig).fifo 3).firstPacket.length) := by
  have h : (at0 wBig).fifo 3 = wLong 16378 := rfl
  rw [h, (wLong_facts 16378).2]
  exact ⟨rfl, rfl, rfl, (wLong_facts 16378).1, by decide⟩
def wMbox (op : Word) (w1 : Word) (busy : Bool := false) : Hub := { mbox := ((Vector.replicate 16 0).set 0 op).set 1 w1, mboxBusy := busy }
theorem wit_MailboxFirmwareAndFunctionResets :
    let h (op w1 : Word) := (st b0 (wMbox op w1)).hub
    (st b0 (wMbox 0 0 true)).hub.mboxBusy = true ∧ (h 0x00050E02 0).mboxBusy = false ∧
    mailboxNeeds (pktOpcode (mboxPacket [] (h 0x00050E02 0))) = some (0, false) ∧
    pktHeaderOk (mboxPacket [] (h 0x00050E02 0)) (pktBench (mboxPacket [] (h 0x00050E02 0))) (0, false) = true ∧
    mailboxNeeds (pktOpcode (mboxPacket [] (h 0x00050E09 0))) = none ∧
    (let b := (st { inMode .configure with bn := { mode := .configure, fwAlt := some 7 } }).bench 0
     b.bn.mode ≠ .wake ∧ b.Answers c0 ∧ b.bn.fwAlt = some 7) ∧
    (let bn (f : Option (BitVec 16)) (a : Option Word) (bad : Bool) : Bn := { mode := .configure, fwRun := f, fwAlt := a, fwAltBad := bad }
     let b (f : Option (BitVec 16)) (a : Option Word) (bad : Bool) : Bench := { inMode .configure with bn := bn f a bad }
     (b none none false).bn.fwRun = none ∧ (b none none false).Answers c0 ∧ (b (some 6) none false).bn.fwRun = some 6 ∧
      6 ≠ c0.tag ∧ (b (some 5) none false).bn.fwRun = some c0.tag ∧ (b none (some 7) true).bn.fwAltBad = true ∧
      (b none (some 7) false).bn.fwAltBad = false) ∧
    ((st (inMode .configure)).bench 0).bn.fwAlt = none ∧ ((st b0).bench 0).rail.state ≠ .locked := by
  dsimp only [Bench.Answers]; decide +kernel
theorem wit_GuardSessionsAreLogged :
    let x : GuardSession := { oper := 3, last := 0 }
    (st b0).hub.session = none ∧ (st b0 { session := some x }).hub.session = some x ∧ passwordOk wPw = true ∧
    passwordOk [] = false ∧ x.last + 600000000000 ≤ (({ session := some x } : Hub).tick 600000000000).up ∧
    (({ session := some x } : Hub).tick 0).up < x.last + 600000000000 ∧
    ((1 : Word) ≠ 0 ∧ (4096 : Word).toNat ≤ 4096 ∧ 4096 < (4097 : Word).toNat) := by
  decide +kernel
/-- MG_MBOX holding the packet of a row, BUSY. -/
def mailed (i : Instr) (h : Hub) : Hub :=
  match packetOf i with
  | none => h
  | some a => { h with mboxBusy := true, mboxBytes := a.c.buf, mbox := Vector.ofFn fun j =>
      ([at32 a.op 0 ||| at32 a.c.tag.toNat 16, at32 a.c.bench.val 8, 0, 0] ++ a.ps).getD j.val 0 }
def mailedRows : List Instr := [.guardOpen c0 0x10005, .guardClose c0, .guardLogRead c0 1 1, .guardLogRead c0 0 0,
  .guardLogRead { c0 with buf := 4 } 1 1, .qnPasswordReplace c0 wPw, .qnPasswordReplace c0 [], .debugOpen c0]
theorem wit_GuardSessionsAreLogged_mailed : ∀ i ∈ mailedRows,
    (mailed i {}).mailed i = true ∧ ({} : Hub).mailed i = false ∧
    (mailed i {}).session = none ∧ (mailed i { session := some { oper := 3, last := 0 } }).session = some { oper := 3, last := 0 } := by
  decide +kernel
/-- An entry of 16 words that is in the log, read into a list that holds it and into one that does not. -/
theorem wit_GuardSessionsAreLogged_read :
    let found := logRead [1#32 :: List.replicate 15 0] 1 1
    found.1.flatten.length = 16 ∧ 16 ≤ c0.buf / 4 ∧ ({ c0 with buf := 4 } : Cmd).buf / 4 < 16 := by decide +kernel
def wGs (m : Mode) (g : Guards := {}) (t : Nat := 0) : State := st { inMode m t with gd := g } { session := some { oper := 3, last := 0 } }
theorem wit_GuardsChangeOnlyInASession :
    (st b0).hub.session = none ∧ (wGs .wake).hub.session = some { oper := 3, last := 0 } ∧
    ((wGs .wake).bench (mkIx 15 (fld (wGs .wake).hub.gsSel 3 0))).bn.mode = .wake ∧
    (let b := (wGs .run { low := [(0x160, some 7)] }).bench (mkIx 15 (fld (wGs .run).hub.gsSel 3 0))
     b.bn.mode ≠ .wake ∧ guardMask 0x104 = some 0xFFFF ∧ b.guardOk 0x104 0xFFFF 0x10000 = false ∧
      b.guardOk 0x104 0xFFFF 5 = true ∧ guardLow 0x104 = false ∧ guardHigh 0x104 = false ∧ guardMask 0x160 = some 0xFFFFFFFF ∧
      b.guardOk 0x160 0xFFFFFFFF 5 = true ∧ guardLow 0x160 = true ∧ guardMask 0x164 = some 0xFFFFFFFF ∧
      b.guardOk 0x164 0xFFFFFFFF 5 = true ∧ guardLow 0x164 = false ∧ guardHigh 0x164 = true ∧
      Tbl.get none b.gd.low (0x164 - 4) = some 7 ∧ guardMask 0x14 = none) ∧
    (let y := at0 (wGs .run { pend := [(5, 0x104, 9)] } 5)
     y.gd.pend = [(5, 0x104, 9)] ∧ 5 ≤ y.rail.now) ∧
    (let y := at0 (wGs .run { pend := [(5, 0x104, 9)] } 4)
     (∀ e ∈ y.gd.pend, y.rail.now < e.1) ∧ ∀ k : Fin 2, (y.can[k]).pending = []) := by
  decide +kernel
def wGoing (cmd : Word) (lost : Bool := false) : State := st (inMode .run) { bdCmd := cmd, bdOp := some (fld cmd 26 24, if fld cmd 26 24 = 2 then fld cmd 15 0 else fld cmd 19 16), bdLost := lost }
theorem wit_BedrockActsOnTheBenchesThatAnswer :
    let s (m : Mode) (h : Health) := st { inMode m with hl := h }
    (wGoing 0x81000000).hub.bdOp = some (1, 0) ∧ bitOf (wGoing 0x81000000).hub.bdCmd 31 = true ∧
    (wGoing 0x82000001).hub.bdOp = some (2, 1) ∧ (s .run {}).hub.bdOp = none ∧
    (wGoing 0x81000000 true).hub.bdLost = true ∧ (bitOf (s .run {}).hub.bdCmd 31 = false ∧ (s .run {}).hub.bdLost = false) ∧
    (s .run {}).answers 0 0 = true ∧ (s .run {}).answers 1 0 = false ∧ bitOf (1#16) 0 = true ∧ bitOf (2#16) 0 = false ∧
    (let b := (s .run { slots := [(0, some (List.replicate 64 1))] }).bench 0
     Tbl.get none b.hl.slots (fld (s .run {}).hub.bdSlot 13 0) = some (List.replicate 64 1)) ∧
    (List.replicate 64 (1 : Word)).length = 64 ∧
    Tbl.get none ((s .run {}).bench 0).hl.slots (fld (s .run {}).hub.bdSlot 13 0) = none ∧
    (∀ m ∈ [Mode.run, .shadow, .hold, .wake, .configure], ((s m {}).bench 0).bn.mode = m ∧ ((s m {}).bench 0).bn.trans = none) := by
  decide +kernel
theorem wit_SupplyAndModuleReset :
    let s (h : Hub) := st (inMode .run) h
    (s {}).hub.vinGood = false ∧ (st b0).hub.vinGood = false ∧ ((st b0).bench 0).bn.mode = .wake ∧
    (∀ m ∈ [Mode.run, .shadow], ((st (inMode m)).bench 0).bn.mode = m) ∧
    ((s { vinGood := true, vinAOk := true }).hub.vinGood = true ∧ (s { vinGood := true, vinAOk := true }).hub.vinAOk = true ∧
      (s { vinGood := true, vinBOk := true }).hub.vinBOk = true ∧ (s { vinGood := true }).hub.vbatLow = false) ∧
    (s {}).hub.inReset = true ∧ (s { inReset := false }).hub.inReset = false := by
  decide +kernel
theorem wit_TestPortSelects :
    (Instr.tapExtest, TapIr.extest) ∈ [(Instr.tapExtest, TapIr.extest), (.tapClamp, .clamp), (.tapHighz, .highz)] := by
  simp
theorem wit_StepRunsTheFront :
    ({ State.reset with pending := [.timeRead c0] } : State).pending = .timeRead c0 :: [] ∧ State.reset.pending = [] :=
  ⟨rfl, rfl⟩
theorem wit_EveryCommandIsAnsweredInItsBench :
    benchOf (.timeRead c0) = some 0 ∧ (1 : BenchIx) ≠ 0 ∧ ∀ c lo hi, Instr.timeRead c0 ≠ .timeSet c lo hi :=
  ⟨rfl, by decide, by intros; simp⟩
theorem wit_StepKeepsSessionsClosedAndIndices :
    let s : State := { State.reset with pending := [.timeRead c0] }
    s.SessionsClosed ∧ (∀ n, (s.bench n).ix = n) ∧ ∃ t, step s = .next t := by
  dsimp only [State.SessionsClosed]
  exact ⟨by decide +kernel, by decide +kernel, ⟨_, rfl⟩⟩
theorem wit_PointsHaveOneProducer :
    let b := withImg .run
    let f : Bench := { b with pe := { b.pe with forces := [(0, { en := true, point := 1, value := 9, eff := some (1, 9) })] } }
    b.bn.mode = .run ∧ (b.point 1).source ≠ Source.code .haul ∧ (b.point 1).source = Source.code .face ∧ (0 : Nat) ≠ 1 ∧
    (b.point 2).output = true ∧ (b.point 2).source = Source.code .program ∧ (b.point 1).output = false ∧
    (b.settleForces 1 0).forceOn 1 = none ∧ (f.settleForces 1 0).forceOn 1 = some 9 ∧ (f.point 1).output = false ∧
    (withImg .hold).bn.mode ≠ .run := by
  decide +kernel

/-! ### Terms that WellFormed refuses, and terms next to them that it takes -/

theorem test_wf_image_code : imageWf { id := 1, code := List.replicate 65537 0 } = false ∧ imageWf { id := 1, code := [0] } = true := by
  refine ⟨?_, by decide⟩
  have h (n : Nat) (g : 65536 < n) : imageWf { id := 1, code := List.replicate n 0 } = false := by simp [imageWf]; omega
  exact h 65537 (by decide)
theorem test_wf_image_cells : Instr.wf (.progLoad c0 { id := 1, cells := [(0x400000, 1)] }) = false ∧
    Instr.wf (.progLoad c0 { id := 1, cells := [(0x3FFFFF, 1)] }) = true := by decide
theorem test_wf_image_conf : imageWf { id := 1, conf := [(0x80002, 1)] } = false ∧ imageWf { id := 1, conf := [(0x100000, 1)] } = false := by
  decide
theorem test_wf_loop_table : Instr.wf (.loopSetTable c0 0 (List.replicate 31 0)) = false ∧
    Instr.wf (.loopSetTable c0 0 (List.replicate 32 0)) = true := by decide
theorem test_wf_steps : Instr.wf (.rcpLoadSteps c0 0 1 [List.replicate 127 0]) = false ∧
    Instr.wf (.rcpLoadSteps c0 0 1 [List.replicate 128 0]) = true := by decide +kernel
theorem test_wf_passwords : Instr.wf (.qnUnlock c0 (List.replicate 17 0x41) 0) = false ∧
    Instr.wf (.qnSetPassword c0 [] (List.replicate 17 0x41) 0) = false ∧ Instr.wf (.qnPasswordReplace c0 (List.replicate 17 0x41)) = false ∧
    Instr.wf (.qnUnlock c0 (List.replicate 16 0x41) 0) = true := by decide
theorem test_wf_profiles : Instr.wf (.dgSetProfiles c0 [0]) = false := by decide
theorem test_wf_offsets : Instr.wf (.registerWrite 0 0x10000 0) = false ∧ Instr.wf (.registerWrite 1 0x10000 0) = true ∧
    Instr.wf (.lowWordRead 1 0x100000) = false := by decide
theorem test_wf_guard : Instr.wf (.guardWrite 0x102 0 0 .ok) = false ∧ Instr.wf (.guardWrite 0x2000 0 0 .ok) = false ∧
    Instr.wf (.guardWrite 0x104 0 0 .ok) = true := by decide
theorem test_wf_haul : Instr.wf (.haulCut 0 0 (List.replicate 65 0)) = false ∧ Instr.wf (.upFrame 0 0 { wUp 0 with vid := 4096 }) = false ∧
    Instr.wf (.upFrame 0 0 { wUp 0 with dst := 2 ^ 48 }) = false ∧ Instr.wf (.upFrame 0 0 (wUp 0)) = true := by
  decide +kernel
theorem test_wf_can : Instr.wf (.canFrameRx 0 0 0 0 0 (List.replicate 17 0) 0) = false := by decide
theorem test_wf_copies : Instr.wf (.copyCommit 0 0 (.engine { wPart with points := [(2, [7])] })) = false ∧
    Instr.wf (.copyCommit 0 0 (.set { task := 1, pages := [(1024, [])] })) = false ∧
    Instr.wf (.notice 0 0 (.recipe 0 0 [])) = false ∧
    Instr.wf (.fullCopyCommit 0 0 { part := wPart, forces := [(1024, 0, 0)] }) = false ∧
    Instr.wf (.copyCommit 0 0 (.engine wPart)) = true := by decide
theorem test_wf_counts : Instr.wf (.restartCheckDone 0 0 1122 0) = false ∧ Instr.wf (.candidatePrepared 0 0 0 65536) = false := by decide

/-! ### Values that the spec gives -/

/-- The CRC-32C of the nine ASCII digits 1 to 9, the check value of that CRC. -/
theorem test_crc32c : ~~~ (([0x31, 0x32, 0x33, 0x34, 0x35, 0x36, 0x37, 0x38, 0x39] : List Byte).foldl crcByte (BitVec.allOnes 32)) = 0xE3069283 := by
  decide +kernel
/-- The example after R7: the high word read is the one held, although the rail has carried over since. -/
theorem test_r7_held : (onRail { state := .locked, now := 0x13_00000000 }
      |>.onFn 1 fun f => { f with held := some (0x1000, 0x12) }).readWord 1 0x1004 = 0x12 := by decide +kernel
/-- The example of chapter 01: ten FIFOs at 64 MiB use the pool that a capture size of 256 MiB leaves. -/
theorem test_spill_pool : ({ b0 with fq := { f := Vector.ofFn fun i : Fin 32 => { spill := if i.val < 10 then 64 else 0 } } } : Bench).spillUsed =
    896 - 256 := by decide +kernel
/-- The example of chapter 13: frame times of 270 µs and 206.5 µs, in 12.5 ns. -/
theorem test_can_times :
    let b : Bench := { b0 with
      conf := [(0x1C00C, 0x05408000), (0x1C010, 0x04140000)]
      can := (Vector.replicate 2 {}).set 0 { ram := [(0x2804, 8), (0x2850, 0x20000000), (0x2854, 0xC000000D)] } }
    b.objTime 0 0 = 21600 ∧ b.objTime 0 1 = 16520 := by decide +kernel
/-- The example of chapter 12: a frame of 256 slots takes 1,094 bytes. -/
theorem test_haul_bytes : wireBytes 256 = 1094 := by decide
/-- The example of chapter 09: the interval 68,594,993.746 rounds to 68,594,994. -/
theorem test_motion_interval : roundDiv 131072000000000 (1024000 + 886810) = 68594994 := by decide +kernel
/-- R449: 16 segments of a region of 4 units of 64 KiB hold 1,020 samples each. -/
theorem test_kerf_cap : ({ mem := 4, seg := 16 } : KfChan).cap = 1020 := by decide

end Sys2Proof.Tests
end

section
/-!
Points (R13, R14, R26, R28, R168, R583): what a block's write of a point does, and the proof that a point has one
producer.
-/
namespace Sys2Proof.Machine

/-! ### Single bits of a word -/

theorem bitOf_putBit {n : Nat} (w : BitVec n) (i j : Nat) (x : Bool) :
    bitOf (putBit w i x) j = if i = j ∧ j < n then x else bitOf w j := by
  have mask : (BitVec.ofNat n (2 ^ i)).getLsbD j = (decide (j < n) && decide (i = j)) := by
    rw [BitVec.getLsbD_ofNat, Nat.testBit_two_pow]
  cases x with
  | false =>
    simp only [bitOf, putBit, Bool.false_eq_true, if_false, BitVec.getLsbD_and, BitVec.getLsbD_not, mask]
    by_cases hj : j < n
    · by_cases hi : i = j <;> simp [hi, hj]
    · simp [hj, BitVec.getLsbD_of_ge w j (Nat.le_of_not_lt hj)]
  | true =>
    simp only [bitOf, putBit, if_true, BitVec.getLsbD_or, mask]
    by_cases hi : i = j ∧ j < n
    · simp [hi]
    · simp [hi, and_comm.not.mp hi]

@[simp] theorem bitOf_putBit_self {n i : Nat} (w : BitVec n) (x : Bool) (h : i < n) : bitOf (putBit w i x) i = x := by
  rw [bitOf_putBit, if_pos ⟨rfl, h⟩]

theorem bitOf_putBit_other {n i j : Nat} (w : BitVec n) (x : Bool) (h : i ≠ j) : bitOf (putBit w i x) j = bitOf w j := by
  rw [bitOf_putBit, if_neg fun e => h e.1]

/-! ### Quality words -/

/-- SUBST, STALE, SAFE or WIRE_BREAK is 1: each of them takes VALID away (R14). -/
def qUnfit (q : Half) : Bool := bitOf q qSubst || bitOf q qStale || bitOf q qSafe || bitOf q qWireBreak

theorem qUnfit_iff (q : Half) : qUnfit q = true ↔
    bitOf q qSubst = true ∨ bitOf q qStale = true ∨ bitOf q qSafe = true ∨ bitOf q qWireBreak = true := by
  simp [qUnfit, or_assoc]

theorem qNorm_eq (q : Half) : qNorm q = if qUnfit q then putBit q qValid false else q := rfl

theorem qUnfit_putBit {q : Half} {i : Nat} {x : Bool} (h : i ∉ [qSubst, qStale, qSafe, qWireBreak]) :
    qUnfit (putBit q i x) = qUnfit q := by
  have kept (j : Nat) (hj : j ∈ [qSubst, qStale, qSafe, qWireBreak]) : bitOf (putBit q i x) j = bitOf q j :=
    bitOf_putBit_other q x fun e => h (e ▸ hj)
  simp [qUnfit, kept]

@[simp] theorem qUnfit_qNorm (q : Half) : qUnfit (qNorm q) = qUnfit q := by
  rw [qNorm_eq]
  split
  · exact qUnfit_putBit (by decide)
  · rfl

/-- R14, also under a change of FORCED. -/
theorem not_valid_of_qUnfit {q : Half} {x : Bool} (h : qUnfit (putBit (qNorm q) qForced x) = true) :
    bitOf (putBit (qNorm q) qForced x) qValid = false := by
  have unfit : qUnfit q = true := by rwa [qUnfit_putBit (by decide), qUnfit_qNorm] at h
  rw [bitOf_putBit_other _ _ (by decide), qNorm_eq, if_pos unfit, bitOf_putBit_self _ _ (by decide)]

/-! ### The entry that a producer's update leaves -/

section pointEntry
variable (b : Bench) (p : Nat) (v : Word) (q : Half) (st : Time)

@[simp] theorem Bench.settleForces_point (r : Nat) : (b.settleForces p st).point r = b.point r := rfl

/-- The quality word that the update starts from: the producer's own, with the face's bits of an output (R341). -/
def Bench.givenQuality : Half := if (b.point p).output then faceBits (b.point p).quality q else q

theorem Bench.pointEntry_of_forceOn_none (h : b.forceOn p = none) : b.pointEntry p v q st =
    { value := fmtWord (b.point p).format v, quality := putBit (qNorm (b.givenQuality p q)) qForced false,
      flags := putBit (b.point p).flags 9 true, stamp := st } := by
  simp only [Bench.pointEntry, h]
  rfl

theorem Bench.pointEntry_of_forceOn_some {f : Word} (h : b.forceOn p = some f) : b.pointEntry p v q st =
    { value := fmtWord (b.point p).format (if (b.point p).output then v else f),
      quality := putBit (qNorm (b.givenQuality p q)) qForced true, flags := putBit (b.point p).flags 9 true, stamp := st } := by
  simp only [Bench.pointEntry, h]
  rfl

theorem Bench.pointEntry_stamp : (b.pointEntry p v q st).stamp = st := by
  cases h : b.forceOn p with
  | none => rw [b.pointEntry_of_forceOn_none p v q st h]
  | some f => rw [b.pointEntry_of_forceOn_some p v q st h]

theorem Bench.pointEntry_flags : (b.pointEntry p v q st).flags = putBit (b.point p).flags 9 true := by
  cases h : b.forceOn p with
  | none => rw [b.pointEntry_of_forceOn_none p v q st h]
  | some f => rw [b.pointEntry_of_forceOn_some p v q st h]

theorem Bench.pointEntry_quality :
    (b.pointEntry p v q st).quality = putBit (qNorm (b.givenQuality p q)) qForced (b.forceOn p).isSome := by
  cases h : b.forceOn p with
  | none => rw [b.pointEntry_of_forceOn_none p v q st h]; rfl
  | some f => rw [b.pointEntry_of_forceOn_some p v q st h]; rfl

/-- A force leaves an output's entry at the producer's value (R168). -/
theorem Bench.pointEntry_value_of_output (ho : (b.point p).output = true) :
    (b.pointEntry p v q st).value = fmtWord (b.point p).format v := by
  cases h : b.forceOn p with
  | none => rw [b.pointEntry_of_forceOn_none p v q st h]
  | some f => rw [b.pointEntry_of_forceOn_some p v q st h, if_pos ho]

end pointEntry

/-! ### The update, and the write that leads to it -/

/-- The bench as a producer's update of point p meets it: a write of an input is an instant of its forces (R166). -/
def Bench.settledFor (p : Nat) (st : Time) (b : Bench) : Bench :=
  if (b.point p).output then b else b.settleForces p st

section update
variable (b : Bench) (src : Source) (p : Nat) (v : Word) (q : Half) (st : Time)

theorem Bench.settledFor_of_output (h : (b.point p).output = true) : b.settledFor p st = b := if_pos h

theorem Bench.settledFor_of_input (h : (b.point p).output = false) : b.settledFor p st = b.settleForces p st :=
  if_neg (by simp [h])

@[simp] theorem Bench.settledFor_points : (b.settledFor p st).points = b.points := by
  unfold Bench.settledFor
  split <;> rfl

@[simp] theorem Bench.settledFor_point (r : Nat) : (b.settledFor p st).point r = b.point r := by
  simp only [Bench.point, settledFor_points]

theorem Bench.putPoint_points : (b.putPoint p v q st).points =
    Tbl.set {} b.points p ((b.settledFor p st).pointEntry p v q st) := by
  simp only [Bench.putPoint, tap_points, setPoint_points, setLive_points, cover_points]
  cases h : (b.point p).output with
  | false => simp [b.settledFor_of_input p st h]
  | true => simp [b.settledFor_of_output p st h]

theorem Bench.putPoint_point_self : (b.putPoint p v q st).point p = (b.settledFor p st).pointEntry p v q st := by
  rw [Bench.point, putPoint_points, Tbl.get_set_self]

theorem Bench.putPoint_point_other {r : Nat} (h : r ≠ p) : (b.putPoint p v q st).point r = b.point r := by
  rw [Bench.point, putPoint_points, Tbl.get_set_other h, Bench.point]

theorem Bench.conflict_bn : (b.conflict p).bn = { b.bn with producerConflict := inc b.bn.producerConflict } := by
  rw [Bench.conflict, errorCause_bn]

theorem Bench.writePoint_outside_run (h : b.bn.mode ≠ .run) : b.writePoint src p v q st = b := if_pos h

theorem Bench.writePoint_of_other_block (hrun : b.bn.mode = .run) (hsrc : (b.point p).source ≠ src.code) :
    b.writePoint src p v q st = b.conflict p := by
  rw [Bench.writePoint, if_neg (not_not_intro hrun), if_pos hsrc]

theorem Bench.writePoint_of_producer (hrun : b.bn.mode = .run) (hsrc : (b.point p).source = src.code) :
    b.writePoint src p v q st = b.putPoint p v q st := by
  rw [Bench.writePoint, if_neg (not_not_intro hrun), if_neg (not_not_intro hsrc)]

/-- An input without a force shows its producer's value and quality. -/
theorem Bench.putPoint_input_unforced (hin : (b.point p).output = false) (hf : (b.settleForces p st).forceOn p = none) :
    ((b.putPoint p v q st).point p).value = fmtWord (b.point p).format v ∧
      ((b.putPoint p v q st).point p).quality = putBit (qNorm q) qForced false := by
  rw [putPoint_point_self, settledFor_of_input b p st hin, pointEntry_of_forceOn_none _ p v q st hf]
  simp [givenQuality, hin]

/-- A forced input shows the force's value, with FORCED set (R168). -/
theorem Bench.putPoint_input_forced {f : Word} (hin : (b.point p).output = false)
    (hf : (b.settleForces p st).forceOn p = some f) :
    ((b.putPoint p v q st).point p).value = fmtWord (b.point p).format f ∧
      ((b.putPoint p v q st).point p).quality = putBit (qNorm q) qForced true := by
  rw [putPoint_point_self, settledFor_of_input b p st hin, pointEntry_of_forceOn_some _ p v q st hf]
  simp [givenQuality, hin]

theorem Bench.putPoint_not_valid (h : qUnfit ((b.putPoint p v q st).point p).quality = true) :
    bitOf ((b.putPoint p v q st).point p).quality qValid = false := by
  rw [putPoint_point_self, pointEntry_quality] at h ⊢
  exact not_valid_of_qUnfit h

end update

/-- Settles O60: outside RUN, for another block and for the producer, by what the write is in each of the three. -/
theorem pointsHaveOneProducer : Obligations.PointsHaveOneProducer := by
  intro b src p r v q st
  refine ⟨fun hrun hsrc => ?otherBlock, fun hrun hsrc => ?producer, b.writePoint_outside_run src p v q st⟩
  case otherBlock =>
    rw [b.writePoint_of_other_block src p v q st hrun hsrc]
    exact ⟨b.conflict_points p, b.conflict_bn p⟩
  case producer =>
    rw [b.writePoint_of_producer src p v q st hrun hsrc]
    refine ⟨b.putPoint_bn p v q st, b.putPoint_point_other p v q st, ?stamp, ?flags, fun hout => ?output,
      b.putPoint_input_unforced p v q st, fun f => b.putPoint_input_forced p v q st, fun h => ?valid⟩
    case stamp => rw [b.putPoint_point_self p v q st, Bench.pointEntry_stamp]
    case flags => rw [b.putPoint_point_self p v q st, Bench.pointEntry_flags, Bench.settledFor_point]
    case output =>
      rw [b.putPoint_point_self p v q st, b.settledFor_of_output p st hout, b.pointEntry_value_of_output p v q st hout]
    case valid => exact b.putPoint_not_valid p v q st ((qUnfit_iff _).mpr h)

end Sys2Proof.Machine
end

section
/-!
Fixed-point and time instructions of Coith (R191, R193): the numbers their operands stand for, convergent rounding, what
each operation gives, and the proofs that every one of them leaves exactly that result and that flag.
-/
namespace Sys2Proof.Machine

/-! ### The numbers that operands stand for -/

/-- The high half as a signed number. -/
theorem sext_fld_high (x : Word) : sext 16 (fld x 31 16) = (x.extractLsb 31 16).toInt := by
  rw [sext_eq _ _ (by decide)]
  congr 1
  apply BitVec.eq_of_toNat_eq
  simp [fld]

/-- Two words put together are the bit vector of the pair, high word first. -/
theorem cat64_eq (lo hi : Word) : cat64 lo hi = (hi ++ lo).toNat := by
  change lo.toNat + hi.toNat <<< 32 = _
  rw [BitVec.toNat_append, ← Nat.shiftLeft_add_eq_or_of_lt lo.isLt]
  exact Nat.add_comm lo.toNat _

theorem Core.pairInt_eq (c : Core) (r : Reg) : c.pairInt r = (c.reg (pairHi r) ++ c.reg r).toInt := by
  rw [Core.pairInt, Core.pair, sext_eq _ _ (by decide), cat64_eq, BitVec.ofNat_toNat, BitVec.setWidth_eq]

/-- A number written to a pair: the two halves of its low 64 bits. -/
theorem Core.setPair_eq (c : Core) (r : Reg) (n : Nat) : c.setPair r n =
    (c.setReg r ((BitVec.ofNat 64 n).setWidth 32)).setReg (pairHi r) ((BitVec.ofNat 64 n).extractLsb 63 32) := by
  have low : lo32 n = (BitVec.ofNat 64 n).setWidth 32 := by
    apply BitVec.eq_of_toNat_eq
    simp [lo32]
  have high : hi32 n = (BitVec.ofNat 64 n).extractLsb 63 32 := by
    apply BitVec.eq_of_toNat_eq
    simp [hi32]
    omega
  rw [Core.setPair, low, high]

theorem Core.setPair_toNat (c : Core) (r : Reg) (v : BitVec 64) : c.setPair r v.toNat =
    (c.setReg r (v.setWidth 32)).setReg (pairHi r) (v.extractLsb 63 32) := by
  rw [Core.setPair_eq, BitVec.ofNat_toNat, BitVec.setWidth_eq]

/-- The low bits of a sign-extended number are its own. -/
theorem setWidth_signExtend_of_le {l m n : Nat} (hm : l ≤ m) (hn : l ≤ n) (v : BitVec m) :
    (v.signExtend n).setWidth l = v.setWidth l := by
  apply BitVec.eq_of_getLsbD_eq
  intro i hi
  simp only [BitVec.getLsbD_setWidth, BitVec.getLsbD_signExtend, hi, Nat.lt_of_lt_of_le hi hm, Nat.lt_of_lt_of_le hi hn,
    decide_true, Bool.true_and, if_true]

@[simp] theorem Core.flag_zero (c : Core) : c.flag 0 = c := by simp [Core.flag]

/-! ### Convergent rounding (R11) -/

section roundDiv
variable {m : Int} {d : Nat} (z : Int)

/-- The rounded quotient is the quotient rounded down, or the next integer where a rest is left. -/
theorem roundDiv_cases (hd : 0 < d) : roundDiv z d = z / d ∨ roundDiv z d = z / d + 1 ∧ 0 < z % d := by
  simp only [roundDiv, Int.fdiv_eq_ediv_of_nonneg _ (Int.natCast_nonneg d),
    Int.fmod_eq_emod_of_nonneg _ (Int.natCast_nonneg d)]
  split
  next => exact .inl rfl
  next notBelow =>
    have rest : 0 < z % d := by omega
    split
    next => exact .inr ⟨rfl, rest⟩
    next =>
      split
      next => exact .inl rfl
      next => exact .inr ⟨rfl, rest⟩

variable {z}

theorem roundDiv_le (hd : 0 < d) (h : z ≤ m * d) : roundDiv z d ≤ m := by
  have hd' : (0 : Int) < d := Int.natCast_pos.mpr hd
  rcases roundDiv_cases z hd with e | ⟨e, rest⟩
  · rw [e]
    exact Int.ediv_le_of_le_mul hd' h
  · have below : z / d * d < m * d := by
      have := Int.ediv_mul_add_emod z d
      omega
    rw [e]
    exact Int.lt_of_mul_lt_mul_right below hd'.le

theorem le_roundDiv (hd : 0 < d) (h : m * d ≤ z) : m ≤ roundDiv z d := by
  have low : m ≤ z / d := Int.le_ediv_of_mul_le (Int.natCast_pos.mpr hd) h
  rcases roundDiv_cases z hd with e | ⟨e, -⟩ <;> omega

end roundDiv

@[simp] theorem roundDiv_one (z : Int) : roundDiv z 1 = z :=
  le_antisymm (roundDiv_le one_pos (by simp)) (le_roundDiv one_pos (by simp))

theorem scaled_of_nonneg {s : Int} (h : 0 ≤ s) (z : Int) (k : Nat) : scaled z s k = roundDiv (z * 2 ^ s.toNat) (2 ^ k) :=
  if_pos h

theorem scaled_of_neg {s : Int} (h : s < 0) (z : Int) (k : Nat) : scaled z s k = roundDiv z (2 ^ (k + (-s).toNat)) :=
  if_neg (Int.not_le.mpr h)

/-! ### Results of fixed-point operations -/

theorem prodQ30_eq (x y : Word) : prodQ30 x y = (x.setWidth 16).toInt * (y.setWidth 16).toInt := by
  rw [prodQ30, s16_eq, s16_eq]

/-- The accumulator and SAT after an exact result z. -/
theorem accClip_eq (z : Int) : accClip z = (BitVec.ofInt 40 (max (-549755813888) (min 549755813887 z)),
    if -549755813888 ≤ z ∧ z ≤ 549755813887 then 0 else fSat) := by
  rw [accClip, clipSat_eq (by decide)]
  rfl

theorem accClip_of_mem {z : Int} (h : -549755813888 ≤ z ∧ z ≤ 549755813887) : accClip z = (BitVec.ofInt 40 z, 0) := by
  rw [accClip_eq, if_pos h, min_eq_right h.2, max_eq_right h.1]

theorem q15_mem (q : BitVec 16) : -32768 ≤ q.toInt ∧ q.toInt ≤ 32767 :=
  ⟨q.le_toInt, Int.le_of_lt_add_one q.toInt_lt⟩

/-- A product of two numbers of Q15 reaches 1.0 only as −1.0 times −1.0. -/
theorem abs_q15_product_le {x y : Int} (hx : -32768 ≤ x ∧ x ≤ 32767) (hy : -32768 ≤ y ∧ y ≤ 32767)
    (h : ¬ (x = -32768 ∧ y = -32768)) : |x * y| ≤ 32767 * 32768 := by
  rw [abs_mul]
  have ax : |x| ≤ 32768 := abs_le.mpr (by omega)
  have ay : |y| ≤ 32768 := abs_le.mpr (by omega)
  by_cases e : x = -32768
  · have ay' : |y| ≤ 32767 := abs_le.mpr (by omega)
    rw [mul_comm]
    exact mul_le_mul ay' ax (abs_nonneg x) (by decide)
  · have ax' : |x| ≤ 32767 := abs_le.mpr (by omega)
    exact mul_le_mul ax' ay (abs_nonneg y) (by decide)

/-- QMUL clips in one case only. -/
theorem aluQmul_eq (x y : Word) : aluQmul x y =
    (BitVec.ofInt 32 (min 32767 (roundDiv ((x.setWidth 16).toInt * (y.setWidth 16).toInt) 32768)),
      if (x.setWidth 16).toInt = -32768 ∧ (y.setWidth 16).toInt = -32768 then fSat else 0) := by
  rw [aluQmul, prodQ30_eq, clipSat_eq (by decide)]
  have hx := q15_mem (x.setWidth 16)
  have hy := q15_mem (y.setWidth 16)
  generalize (x.setWidth 16).toInt = p at hx ⊢
  generalize (y.setWidth 16).toInt = q at hy ⊢
  by_cases h : p = -32768 ∧ q = -32768
  · obtain ⟨rfl, rfl⟩ := h
    decide
  · obtain ⟨low, high⟩ := abs_le.mp (abs_q15_product_le hx hy h)
    have ge : -32768 ≤ roundDiv (p * q) 32768 := le_roundDiv (by decide) (by omega)
    have le : roundDiv (p * q) 32768 ≤ 32767 := roundDiv_le (by decide) high
    simp [h, ge, le, int16Min, int16Max, ofS]

theorem aluSac_q15 (s : Int) (a : BitVec 40) : aluSac false s a =
    (BitVec.ofInt 32 (max (-32768) (min 32767 (scaled a.toInt s 15))),
      if -32768 ≤ scaled a.toInt s 15 ∧ scaled a.toInt s 15 ≤ 32767 then 0 else fSat) := by
  simp only [aluSac, Bool.false_eq_true, if_false, clipSat_eq (show int16Min ≤ int16Max by decide)]
  rfl

theorem aluSac_q30 (s : Int) (a : BitVec 40) : aluSac true s a =
    (BitVec.ofInt 32 (max (-2147483648) (min 2147483647 (scaled a.toInt s 0))),
      if -2147483648 ≤ scaled a.toInt s 0 ∧ scaled a.toInt s 0 ≤ 2147483647 then 0 else fSat) := by
  simp only [aluSac, if_true, clipSat_eq (show int32Min ≤ int32Max by decide)]
  rfl

section signBits
variable {n : Nat} (w : BitVec n)

theorem signBits_le (k : Nat) : signBits w k ≤ k := by
  induction k with
  | zero => exact Nat.le_refl 0
  | succ k ih => rw [signBits]; split <;> omega

/-- The bits counted, from the top one down, repeat the sign. -/
theorem getLsbD_of_lt_signBits (k : Nat) : ∀ i < signBits w k, w.getLsbD (k - 1 - i) = w.msb := by
  induction k with
  | zero => intro i hi; exact absurd hi (Nat.not_lt_zero i)
  | succ k ih =>
    intro i hi
    rw [signBits] at hi
    split at hi
    next top =>
      cases i with
      | zero => exact top
      | succ i =>
        have := ih i (by omega)
        rwa [show k + 1 - 1 - (i + 1) = k - 1 - i by omega]
    next => exact absurd hi (Nat.not_lt_zero i)

/-- The first bit not counted differs from the sign. -/
theorem getLsbD_signBits_ne (k : Nat) (h : signBits w k < k) : w.getLsbD (k - 1 - signBits w k) ≠ w.msb := by
  induction k with
  | zero => exact absurd h (Nat.not_lt_zero _)
  | succ k ih =>
    rw [signBits] at h ⊢
    split
    next top =>
      rw [if_pos top] at h
      rw [show k + 1 - 1 - (signBits w k + 1) = k - 1 - signBits w k by omega]
      exact ih (by omega)
    next top => exact top

end signBits

/-! ### From an operation's result to the step of its instruction -/

section runs
variable {s : State} {k : CoreRef} {i : Instr} (h : s.CoreRuns k)
include h

/-- An instruction that is an operation of the core alone, with the core it leaves. -/
theorem runs_of_coreOp {f : Core → Core} {c : Core} (hx : exec i s = s.coreOp k i f) (hc : f (s.core k) = c) :
    Runs k i s (s.withCore k c.step4) := fun hi => by
  rw [hx, s.coreOp_next h i hi, hc]

theorem runs_of_put {d : Reg} {f : Core → Word × Sticky} {v : Word} {g : Sticky}
    (hx : exec i s = s.coreOp k i fun c => c.put d (f c)) (hr : f (s.core k) = (v, g)) : Runs k i s (s.wrote k d v g) :=
  runs_of_coreOp h hx (by rw [hr]; rfl)

theorem runs_of_putA {f : Core → BitVec 40 × Sticky} {v : BitVec 40} {g : Sticky}
    (hx : exec i s = s.coreOp k i fun c => Core.putA (f c) c) (hr : f (s.core k) = (v, g)) :
    Runs k i s (s.wroteA k v g) :=
  runs_of_coreOp h hx (by rw [hr]; rfl)

theorem runs_of_setReg {d : Reg} {f : Core → Word} {v : Word}
    (hx : exec i s = s.coreOp k i fun c => c.setReg d (f c)) (hr : f (s.core k) = v) : Runs k i s (s.wrote k d v 0) :=
  fun hi => by rw [hx, s.coreOp_setReg h i hi, hr]

/-- The clipped accumulator of an exact result. -/
theorem runs_of_accClip {f : Core → Int} {z : Int}
    (hx : exec i s = s.coreOp k i fun c => Core.putA (accClip (f c)) c) (hr : f (s.core k) = z) :
    Runs k i s (s.wroteA k (BitVec.ofInt 40 (max (-549755813888) (min 549755813887 z)))
      (if -549755813888 ≤ z ∧ z ≤ 549755813887 then 0 else fSat)) :=
  runs_of_putA h hx (by rw [hr, accClip_eq])

end runs

/-! ### Fixed point -/

/-- Settles O13: each instruction by the number that its operands give and the operation's result on it. -/
theorem coithFixedPoint : Obligations.CoithFixedPoint := by
  intro s k d a b neg sh sh6 h q hiq acc flagged toA sac p
  have product : prodQ30 ((s.core k).reg a) ((s.core k).reg b) = p := prodQ30_eq _ _
  refine ⟨?qmul, ?mpy, ?mac, ?mac2, ?lda64, ?ldaQ15, ?lda32, ?lda0, fun hs => ⟨?sacLeft, ?sacLeft30⟩,
    fun hs => ⟨?sacRight, ?sacRight30⟩, fun hs => ?ashLeft, fun hs => ?ashRight, ?sta, ?clsA, ?clsReg⟩
  case qmul => exact runs_of_put h (exec_coithQmul k d a b s) (aluQmul_eq _ _)
  case mpy => exact runs_of_accClip h (exec_coithMpy k a b neg s) (by rw [product])
  case mac => exact runs_of_accClip h (exec_coithMac k a b neg s) (by rw [product]; rfl)
  case mac2 =>
    refine runs_of_accClip h (exec_coithMac2 k a b s) ?_
    rw [s16_eq, s16_eq, sext_fld_high, sext_fld_high]
    rfl
  case lda64 => exact runs_of_accClip h (exec_coithLda k a 0 s) ((s.core k).pairInt_eq a)
  case ldaQ15 =>
    refine runs_of_putA h (exec_coithLda k a 1 s) ?_
    have := q15_mem (((s.core k).reg a).setWidth 16)
    rw [s16_eq, accClip_of_mem (by omega)]
    rfl
  case lda32 =>
    refine runs_of_putA h (exec_coithLda k a 2 s) ?_
    have low := ((s.core k).reg a).le_toInt
    have high := ((s.core k).reg a).toInt_lt
    rw [s32, accClip_of_mem (by omega)]
    rfl
  case lda0 => exact runs_of_putA h (exec_coithLda k a 3 s) rfl
  case sacLeft =>
    have := runs_of_put h (exec_coithSac k d false sh s) (aluSac_q15 _ _)
    rwa [scaled_of_nonneg hs] at this
  case sacLeft30 =>
    have := runs_of_put h (exec_coithSac k d true sh s) (aluSac_q30 _ _)
    rwa [scaled_of_nonneg hs, pow_zero, roundDiv_one] at this
  case sacRight =>
    have := runs_of_put h (exec_coithSac k d false sh s) (aluSac_q15 _ _)
    rwa [scaled_of_neg hs] at this
  case sacRight30 =>
    have := runs_of_put h (exec_coithSac k d true sh s) (aluSac_q30 _ _)
    rwa [scaled_of_neg hs, Nat.zero_add] at this
  case ashLeft =>
    refine runs_of_accClip h (exec_coithAsh k sh6 s) ?_
    rw [scaled_of_nonneg hs, pow_zero, roundDiv_one]
    rfl
  case ashRight =>
    refine runs_of_accClip h (exec_coithAsh k sh6 s) ?_
    rw [scaled_of_neg hs, Nat.zero_add]
    rfl
  case sta =>
    refine runs_of_coreOp h (exec_coithSta k d s) ?_
    rw [Core.setPair_toNat, setWidth_signExtend_of_le (by decide) (by decide)]
  case clsA =>
    exact ⟨signBits (s.core k).a 39, signBits_le _ _, runs_of_setReg h (exec_coithCls k d a false s) rfl,
      getLsbD_of_lt_signBits _ _, getLsbD_signBits_ne _ _⟩
  case clsReg =>
    exact ⟨signBits ((s.core k).reg a) 31, signBits_le _ _, runs_of_setReg h (exec_coithCls k d a true s) rfl,
      getLsbD_of_lt_signBits _ _, getLsbD_signBits_ne _ _⟩

/-! ### Times -/

theorem timeAdd_eq (sub : Bool) (x y : Int) : timeAdd sub x y =
    (max (-9223372036854775808) (min 9223372036854775807 (if sub then x - y else x + y)),
      if -9223372036854775808 ≤ (if sub then x - y else x + y) ∧ (if sub then x - y else x + y) ≤ 9223372036854775807
      then 0 else fSat) := by
  rw [timeAdd, clipSat_eq (by decide)]
  rfl

section reads
variable (b : Bench) (c : Core)

theorem Bench.rdt_of_task {t : Fin 16} {m : Fin 64} (hr : c.run = .segment t m) (ht : t ≠ 0) :
    b.rdt c 1 = b.pe.runs[t].ik ∧ b.rdt c 2 = b.pe.runs[t].ok := by
  simp [Bench.rdt, hr, ht]

theorem Bench.rdt_of_error_task {m : Fin 64} (hr : c.run = .segment 0 m) : b.rdt c 1 = 0 ∧ b.rdt c 2 = 0 := by
  simp [Bench.rdt, hr]

theorem Bench.rdt_of_handler {i : Item} (hr : c.run = .item i) : b.rdt c 1 = 0 ∧ b.rdt c 2 = 0 := by
  simp [Bench.rdt, hr]

end reads

section times
variable {s : State} {k : CoreRef} (h : s.CoreRuns k)
include h

theorem runs_rdt (d : Reg) (op : Fin 4) : Runs k (.coithRdt k d op) s (s.withCore k
    ((s.core k).setPair d ((s.bench k.bench).rdt (s.core k) op)).step4) := fun hi => by
  rw [exec_coithRdt]
  exact s.onCore_core h _ hi fun c b => (c.setPair d (b.rdt c op)).step4

theorem runs_tadd (d a b : Reg) (sub : Bool) {z : Int} {f : Sticky}
    (hr : timeAdd sub ((s.core k).pairInt a) ((s.core k).pairInt b) = (z, f)) :
    Runs k (.coithTadd k d a b sub) s (s.withCore k (((s.core k).setPair d (BitVec.ofInt 64 z).toNat).flag f).step4) :=
  runs_of_coreOp h (exec_coithTadd k d a b sub s) (by rw [hr])

/-- A comparison answers 1 where what it stands for holds, else 0. -/
theorem runs_tcmp (d a b : Reg) (op : Fin 4) {P : Prop}
    (hp : timeCmp op ((s.core k).pairInt a) ((s.core k).pairInt b) = true ↔ P) :
    (P → Runs k (.coithTcmp k d a b op) s (s.wrote k d 1 0)) ∧
      (¬P → Runs k (.coithTcmp k d a b op) s (s.wrote k d 0 0)) :=
  ⟨fun yes => runs_of_setReg h (exec_coithTcmp k d a b op s) (if_pos (hp.mpr yes)),
    fun no => runs_of_setReg h (exec_coithTcmp k d a b op s) (if_neg fun e => no (hp.mp e))⟩

end times

/-- Settles O15: TADD by its clipped sum, TCMP by the two pairs as signed numbers, RDT by what it reads in each state of
the core. -/
theorem coithTimes : Obligations.CoithTimes := by
  intro s k d a b sub h c pair z v putPair bool reads
  have pairInt (r : Reg) : (s.core k).pairInt r = pair r := Core.pairInt_eq _ r
  have compares (op : Fin 4) {P : Prop} (hp : timeCmp op (pair a) (pair b) = true ↔ P) : bool P op :=
    runs_tcmp h d a b op (by rwa [pairInt, pairInt])
  have reads_of {op : Fin 4} {n : Nat} (hn : (s.bench k.bench).rdt c op = n) : reads op n := by
    have := runs_rdt h d op
    rwa [show (s.bench k.bench).rdt (s.core k) op = n from hn, Core.setPair_eq, ← Core.flag_zero (Core.setReg _ _ _)] at this
  refine ⟨?tadd, compares 0 ?eq, compares 1 ?ne, compares 2 ?lt, compares 3 ?le, reads_of ?now, reads_of ?stamp,
    fun t m hr ht => ?task, fun m hr => ?errorTask, fun i hr => ?handler⟩
  case tadd =>
    have := runs_tadd h d a b sub (timeAdd_eq sub _ _)
    rwa [Core.setPair_toNat, pairInt, pairInt] at this
  case eq => exact decide_eq_true_iff
  case ne => exact decide_eq_true_iff
  case lt => exact decide_eq_true_iff
  case le => exact decide_eq_true_iff
  case now => rfl
  case stamp => rfl
  case task =>
    obtain ⟨ik, ok⟩ := (s.bench k.bench).rdt_of_task c hr ht
    exact ⟨reads_of ik, reads_of ok⟩
  case errorTask =>
    obtain ⟨ik, ok⟩ := (s.bench k.bench).rdt_of_error_task c hr
    exact ⟨reads_of ik, reads_of ok⟩
  case handler =>
    obtain ⟨ik, ok⟩ := (s.bench k.bench).rdt_of_handler c hr
    exact ⟨reads_of ik, reads_of ok⟩

end Sys2Proof.Machine
end

section
/-!
Test port (R571 to R573): loading an instruction sets the instruction and data registers of the port and nothing else; which
instruction is selected, whether it holds the lands, and the proof of what each of the seven loads selects.
-/
namespace Sys2Proof.Machine

/-- The state with these instruction and data registers in the test port. -/
def State.withPort (s : State) (ir : TapIr) (dr : Word) : State := { s with hub := { s.hub with tap := ir, tdr := dr } }

/-- The instructions that hold the lands while MRST_N is low (R572). -/
def TapIr.drivesLands : TapIr → Bool
  | .extest | .clamp | .highz => true
  | .bypass | .idcode | .samplePreload | .debug => false

theorem Hub.landsTaken_eq (h : Hub) : h.landsTaken = (h.inReset && h.tap.drivesLands) := by
  rw [Hub.landsTaken]
  cases h.tap <;> rfl

section port
variable {s : State} {ir : TapIr} {dr : Word}

theorem State.withPort_landsTaken (s : State) (ir : TapIr) (dr : Word) :
    (s.withPort ir dr).hub.landsTaken = (s.hub.inReset && ir.drivesLands) :=
  Hub.landsTaken_eq _

theorem State.withPort_landsFree (hir : ir.drivesLands = false) : (s.withPort ir dr).hub.landsTaken = false := by
  rw [withPort_landsTaken, hir, Bool.and_false]

/-- EXTEST, CLAMP and HIGHZ give way to BYPASS unless MRST_N is low. -/
theorem State.tapLands_eq (s : State) (ir : TapIr) : s.tapLands ir =
    s.withPort (if s.hub.inReset then ir else .bypass) (if s.hub.inReset then s.hub.tdr else 0) := by
  cases h : s.hub.inReset <;> simp [tapLands, withPort, h]

/-- An instruction that takes the lands holds them exactly where it was loaded with MRST_N low. -/
theorem State.tapLands_landsTaken (hir : ir.drivesLands = true) : (s.tapLands ir).hub.landsTaken = s.hub.inReset := by
  rw [tapLands_eq, withPort_landsTaken]
  cases s.hub.inReset
  · rfl
  · exact hir

/-- DEBUG gives way to BYPASS unless a debug port is open (R573). -/
theorem execTapDebug_eq (s : State) : execTapDebug s =
    .next (s.withPort (if s.hub.debugBench.isSome then .debug else .bypass)
      (if s.hub.debugBench.isSome then s.hub.tdr else 0)) := by
  cases h : s.hub.debugBench.isSome <;> simp [execTapDebug, State.withPort, h]

/-- A load that only sets the port's registers leaves the benches, the queue and the rest of the hub as they were. -/
theorem State.withPort_frame {i : Instr} {P : State → Prop} (he : exec i s = .next (s.withPort ir dr))
    (hp : P (s.withPort ir dr)) : ∃ u, exec i s = .next u ∧ u.benches = s.benches ∧ u.pending = s.pending ∧
      { u.hub with tap := s.hub.tap, tdr := s.hub.tdr } = s.hub ∧ P u :=
  ⟨_, he, rfl, rfl, rfl, hp⟩

end port

/-- Settles O55: each load by the registers it sets; EXTEST, CLAMP and HIGHZ are one load with three instructions. -/
theorem testPortSelects : Obligations.TestPortSelects := by
  intro s i ir tell
  refine ⟨?bypass, ?idcode, ?samplePreload, fun h => ?lands, ?debug⟩
  case bypass => exact State.withPort_frame (exec_tapBypass s) ⟨rfl, State.withPort_landsFree rfl⟩
  case idcode => exact State.withPort_frame (exec_tapIdcode s) ⟨rfl, rfl, State.withPort_landsFree rfl⟩
  case samplePreload =>
    exact State.withPort_frame (dr := s.hub.tdr) (exec_tapSamplePreload s) ⟨rfl, State.withPort_landsFree rfl⟩
  case lands =>
    obtain ⟨hir, he⟩ : ir.drivesLands = true ∧ exec i s = .next (s.tapLands ir) := by
      simp only [List.mem_cons, Prod.mk.injEq, List.not_mem_nil, or_false] at h
      obtain ⟨rfl, rfl⟩ | ⟨rfl, rfl⟩ | ⟨rfl, rfl⟩ := h
      · exact ⟨rfl, exec_tapExtest s⟩
      · exact ⟨rfl, exec_tapClamp s⟩
      · exact ⟨rfl, exec_tapHighz s⟩
    have taken := State.tapLands_landsTaken (s := s) hir
    rw [State.tapLands_eq] at he taken
    exact State.withPort_frame he ⟨rfl, taken⟩
  case debug =>
    refine State.withPort_frame ((exec_tapDebug s).trans (execTapDebug_eq s)) ⟨rfl, State.withPort_landsFree ?_⟩
    cases s.hub.debugBench.isSome <;> rfl

end Sys2Proof.Machine
end

section
/-!
# Every operation keeps the index of its bench

One lemma for each operation of a bench: it does not write the index. They let `simp` see that an operation composed of
others keeps the index too.
-/

namespace Sys2Proof.Machine

@[simp] theorem foldl_ix {α : Type} {f : Bench → α → Bench} (h : ∀ b a, (f b a).ix = b.ix) (l : List α) (b : Bench) : (l.foldl f b).ix = b.ix := by
  induction l generalizing b with
  | nil => rfl
  | cons a l ih => rw [List.foldl_cons, ih, h]

@[simp] theorem foldl_snd_ix {α β : Type} {f : β × Bench → α → β × Bench} (h : ∀ r a, (f r a).2.ix = r.2.ix) (l : List α)
    (r : β × Bench) : (l.foldl f r).2.ix = r.2.ix := by
  induction l generalizing r with
  | nil => rfl
  | cons a l ih => rw [List.foldl_cons, ih, h]

@[simp] theorem foldl_fst_ix {α β : Type} {f : Bench × β → α → Bench × β} (h : ∀ r a, (f r a).1.ix = r.1.ix) (l : List α)
    (r : Bench × β) : (l.foldl f r).1.ix = r.1.ix := by
  induction l generalizing r with
  | nil => rfl
  | cons a l ih => rw [List.foldl_cons, ih, h]

@[simp] theorem Bench.fresh_ix (b : Bench) : (Bench.fresh b).2.ix = b.ix := rfl
@[simp] theorem Bench.accepted_ix (c : Cmd) (b : Bench) : (Bench.accepted c b).ix = b.ix := rfl
@[simp] theorem Bench.accept_ix {k : Bench → Bench} (h : ∀ b, (k b).ix = b.ix) (i : Instr) (c : Cmd) (modes : Mode → Bool)
    (b : Bench) : (b.accept i c modes k).ix = b.ix := by
  simp [Bench.accept, apply_ite Bench.ix, h]
@[simp] theorem Bench.acceptFw_ix {k : Bench → Bench} (h : ∀ b, (k b).ix = b.ix) (i : Instr) (c : Cmd) (b : Bench) :
    (b.acceptFw i c k).ix = b.ix := by
  simp [Bench.acceptFw, apply_ite Bench.ix, h]
@[simp] theorem Bench.writeList_ix (c : Cmd) (ws : List Word) (b : Bench) : (Bench.writeList c ws b).ix = b.ix := rfl
@[simp] theorem Bench.readDone_ix (c : Cmd) (ws : List Word) (result : Nat) (b : Bench) : (Bench.readDone c ws result b).ix = b.ix := by
  unfold Bench.readDone; split <;> simp
@[simp] theorem Bench.unready_ix (keep : StreamReady → Bool) (b : Bench) : (Bench.unready keep b).ix = b.ix := rfl
@[simp] theorem Bench.windowRej_ix (b : Bench) : (Bench.windowRej b).ix = b.ix := rfl
@[simp] theorem Bench.quoinLog_ix (cal kind : Nat) (oper : BitVec 16) (before detail : Word) (b : Bench) :
    (b.quoinLog cal kind oper before detail).ix = b.ix := by
  unfold Bench.quoinLog
  rfl
@[simp] theorem Bench.healthSev_ix (k : Nat) (b : Bench) : (Bench.healthSev k b).ix = b.ix := rfl
@[simp] theorem Bench.healthBy_ix (i : Fin 25) (n : Nat) (b : Bench) : (Bench.healthBy i n b).ix = b.ix := by
  unfold Bench.healthBy; split <;> simp
@[simp] theorem Bench.latchForce_ix (p : Nat) (b : Bench) : (Bench.latchForce p b).ix = b.ix := by
  simp only [Bench.latchForce]; (repeat' split) <;> simp
@[simp] theorem Bench.lateImage_ix (p st : Nat) (img : Nat → Point) (b : Bench) : (Bench.lateImage p st img b).ix = b.ix := rfl
@[simp] theorem Bench.guardClip_ix (b : Bench) : (Bench.guardClip b).ix = b.ix := rfl
@[simp] theorem Bench.guardDelay_ix (b : Bench) : (Bench.guardDelay b).ix = b.ix := rfl
@[simp] theorem Bench.guardDeny_ix (b : Bench) : (Bench.guardDeny b).ix = b.ix := rfl
@[simp] theorem Bench.faceWrite_ix (c : Nat) (v : Word) (q : Half) (st : Time) (b : Bench) : (Bench.faceWrite c v q st b).ix = b.ix := by
  unfold Bench.faceWrite; (repeat' split) <;> simp
@[simp] theorem Bench.faceEvent_ix (bit : Nat) (d1 : Word) (b : Bench) : (Bench.faceEvent bit d1 b).ix = b.ix := by
  simp [Bench.faceEvent]
@[simp] theorem Bench.faceHear_ix (n : FaceNews) (b : Bench) : (Bench.faceHear n b).ix = b.ix := by
  simp only [Bench.faceHear]; (repeat' split) <;> simp
@[simp] theorem Bench.faceSay_ix (n : FaceNews) (b : Bench) : (Bench.faceSay n b).ix = b.ix := by
  unfold Bench.faceSay; split <;> simp
@[simp] theorem Bench.faceHeard_ix (b : Bench) : (Bench.faceHeard b).ix = b.ix := by
  simp [Bench.faceHeard]
@[simp] theorem Bench.outFaultEval_ix (b : Bench) : (Bench.outFaultEval b).ix = b.ix := by
  simp only [Bench.outFaultEval]; (repeat' split) <;> simp
@[simp] theorem Bench.faceReport_ix (b : Bench) : (Bench.faceReport b).ix = b.ix := by
  unfold Bench.faceReport; split <;> simp
@[simp] theorem Bench.faceMute_ix (b : Bench) : (Bench.faceMute b).ix = b.ix := by
  simp [Bench.faceMute]
@[simp] theorem Bench.diForces_ix (b : Bench) : (Bench.diForces b).ix = b.ix := by
  unfold Bench.diForces; split <;> simp
@[simp] theorem Bench.diSample_ix (raw low : BitVec 16) (rb : BitVec 8) (lplus : Nat) (b : Bench) : (Bench.diSample raw low rb lplus b).ix = b.ix := by
  simp only [Bench.diSample]; (repeat' split) <;> simp
@[simp] theorem Bench.diWrite_ix (i : Fin 16) (st : Time) (b : Bench) : (Bench.diWrite i st b).ix = b.ix := by
  simp only [Bench.diWrite]; (repeat' split) <;> simp
@[simp] theorem Bench.diAccept_ix (i : Fin 16) (b : Bench) : (Bench.diAccept i b).ix = b.ix := by
  simp only [Bench.diAccept]; (repeat' split) <;> simp
@[simp] theorem Bench.diWire_ix (i : Fin 16) (b : Bench) : (Bench.diWire i b).ix = b.ix := by
  simp only [Bench.diWire]; (repeat' split) <;> simp
@[simp] theorem Bench.lockoutBegins_ix (b : Bench) : (Bench.lockoutBegins b).ix = b.ix := by
  unfold Bench.lockoutBegins; split <;> simp
@[simp] theorem Bench.handDo_ix (i : Fin 8) (v : Bool) (b : Bench) : (Bench.handDo i v b).2.ix = b.ix := by
  simp only [Bench.handDo]; (repeat' split) <;> simp
@[simp] theorem Bench.applyDo_ix (i : Fin 8) (v : Bool) (b : Bench) : (Bench.applyDo i v b).2.ix = b.ix := by
  simp only [Bench.applyDo]; (repeat' split) <;> simp
@[simp] theorem Bench.applyAo_ix (m : Fin 2) (slewed : Bool) (v : Int) (b : Bench) : (Bench.applyAo m slewed v b).ix = b.ix := by
  simp only [Bench.applyAo]; (repeat' split) <;> simp
@[simp] theorem Bench.handAo_ix (m : Fin 2) (v : Int) (b : Bench) : (Bench.handAo m v b).ix = b.ix := by
  unfold Bench.handAo; split <;> simp
@[simp] theorem Bench.applyOutput_ix (p : Nat) (v : Word) (stamp : Time) (b : Bench) : (Bench.applyOutput p v stamp b).2.ix = b.ix := by
  unfold Bench.applyOutput; (repeat' split) <;> simp
@[simp] theorem Bench.faceConf_ix (b : Bench) : (Bench.faceConf b).ix = b.ix := by
  unfold Bench.faceConf; split <;> simp
@[simp] theorem Bench.faceSafe_ix (b : Bench) : (Bench.faceSafe b).ix = b.ix := by
  unfold Bench.faceSafe; split <;> simp
@[simp] theorem Bench.faceDrop_ix (off : Bool) (b : Bench) : (Bench.faceDrop off b).ix = b.ix := by
  simp [Bench.faceDrop]
@[simp] theorem Bench.faceAlone_ix (b : Bench) : (Bench.faceAlone b).ix = b.ix := by
  unfold Bench.faceAlone; split <;> simp
@[simp] theorem Bench.faceDark_ix (b : Bench) : (Bench.faceDark b).ix = b.ix := by
  simp [Bench.faceDark]
@[simp] theorem Bench.faceObey_ix (o : FaceOrder) (b : Bench) : (Bench.faceObey o b).ix = b.ix := by
  unfold Bench.faceObey; split <;> simp
@[simp] theorem Bench.faceAsk_ix (o : FaceOrder) (b : Bench) : (Bench.faceAsk o b).ix = b.ix := by
  unfold Bench.faceAsk; split <;> simp
@[simp] theorem Bench.faceFramed_ix (b : Bench) : (Bench.faceFramed b).ix = b.ix := by
  simp [Bench.faceFramed]
@[simp] theorem Bench.faceBack_ix (b : Bench) : (Bench.faceBack b).ix = b.ix := by
  unfold Bench.faceBack; (repeat' split) <;> simp
@[simp] theorem Bench.faceDrive_ix (p : Nat) (v : Word) (stamp : Time) (b : Bench) : (Bench.faceDrive p v stamp b).ix = b.ix := by
  unfold Bench.faceDrive; (repeat' split) <;> simp
@[simp] theorem Bench.aiSample_ix (k : Fin 4) (x : Int) (b : Bench) : (Bench.aiSample k x b).ix = b.ix := by
  simp only [Bench.aiSample]; (repeat' split) <;> simp
@[simp] theorem Bench.aoBit_ix (m bit : Nat) (v : Bool) (b : Bench) : (Bench.aoBit m bit v b).ix = b.ix := by
  unfold Bench.aoBit; (repeat' split) <;> simp
@[simp] theorem Bench.aoSample_ix (m : Fin 2) (x : Int) (b : Bench) : (Bench.aoSample m x b).ix = b.ix := by
  simp only [Bench.aoSample]; (repeat' split) <;> simp
@[simp] theorem Bench.encSettle_ix (e : Fin 2) (b : Bench) : (Bench.encSettle e b).ix = b.ix := by
  simp only [Bench.encSettle]; (repeat' split) <;> simp
@[simp] theorem Bench.encSample_ix (e : Fin 2) (ra rb rz : Bool) (b : Bench) : (Bench.encSample e ra rb rz b).ix = b.ix := by
  simp only [Bench.encSample]; (repeat' split) <;> simp
@[simp] theorem Bench.faceCheck_ix (b : Bench) : (Bench.faceCheck b).ix = b.ix := rfl
@[simp] theorem Bench.faceEnter_ix (b : Bench) : (Bench.faceEnter b).ix = b.ix := by
  simp [Bench.faceEnter, apply_ite Bench.ix]
@[simp] theorem Bench.axisEvent_ix (a bit : Nat) (b : Bench) : (Bench.axisEvent a bit b).ix = b.ix := by
  simp [Bench.axisEvent]
@[simp] theorem Bench.axisLimited_ix (a : Nat) (on : Bool) (b : Bench) : (Bench.axisLimited a on b).ix = b.ix := by
  simp only [Bench.axisLimited]; (repeat' split) <;> simp
@[simp] theorem Bench.axisDce_ix (a : Nat) (d : AxisDce) (b : Bench) : (Bench.axisDce a d b).ix = b.ix := by
  unfold Bench.axisDce; split <;> simp
@[simp] theorem Bench.axisChange_ix (a : Nat) (c : AxisChange) (b : Bench) : (Bench.axisChange a c b).ix = b.ix := by
  unfold Bench.axisChange; split <;> simp
@[simp] theorem Bench.axisTake_ix (a t : Nat) (b : Bench) : (Bench.axisTake a t b).ix = b.ix := by
  simp [Bench.axisTake]
@[simp] theorem Bench.axisCompute_ix (a t : Nat) (b : Bench) : (Bench.axisCompute a t b).ix = b.ix := by
  unfold Bench.axisCompute; split <;> simp
@[simp] theorem Bench.axisQueue_ix (a : Nat) (c : AxisChange) (b : Bench) : (Bench.axisQueue a c b).ix = b.ix := by
  simp only [Bench.axisQueue]; (repeat' split) <;> simp
@[simp] theorem Bench.axisSpeed_ix (a : Nat) (v : Word) (at' : Nat) (b : Bench) : (Bench.axisSpeed a v at' b).ix = b.ix := by
  unfold Bench.axisSpeed; (repeat' split) <;> simp
@[simp] theorem Bench.axisBegin_ix (a m : Nat) (x : Axis) (b : Bench) : (Bench.axisBegin a m x b).ix = b.ix := by
  unfold Bench.axisBegin; split <;> simp
@[simp] theorem Bench.axisPhase_ix (a m : Nat) (ph : HomePhase) (b : Bench) : (Bench.axisPhase a m ph b).ix = b.ix := by
  simp [Bench.axisPhase]
@[simp] theorem Bench.stopsDone_ix (b : Bench) : (Bench.stopsDone b).ix = b.ix := by
  simp [Bench.stopsDone]
@[simp] theorem Bench.axisRest_ix (a : Nat) (l : List AxisChange) (b : Bench) : (b.axisRest a l).ix = b.ix :=
  foldl_ix (fun b c => by cases c.par <;> rfl) l b
@[simp] theorem Bench.axisIdle_ix (a : Nat) (st : AxisState) (b : Bench) : (b.axisIdle a st).ix = b.ix := by
  unfold Bench.axisIdle
  extract_lets x evt b₁ b₂ b₃ b₄
  have h₃ : b₃.ix = b.ix := (foldl_ix (fun _ _ => completeTag_ix ..) _ b₂).trans (axisRest_ix ..)
  have h₄ : b₄.ix = b₃.ix := by unfold b₄; split <;> simp
  rw [stopsDone_ix, h₄, h₃]
@[simp] theorem Bench.axisDoubt_ix (a : Nat) (b : Bench) : (Bench.axisDoubt a b).ix = b.ix := by
  simp only [Bench.axisDoubt]; (repeat' split) <;> simp
@[simp] theorem Bench.axisStops_ix (a : Nat) (b : Bench) : (Bench.axisStops a b).ix = b.ix := by
  simp only [Bench.axisStops]; (repeat' split) <;> simp
@[simp] theorem Bench.axisHard_ix (a : Nat) (b : Bench) : (Bench.axisHard a b).ix = b.ix := by
  simp only [Bench.axisHard]; (repeat' split) <;> simp
@[simp] theorem Bench.axisRamp_ix (a : Nat) (st : AxisState) (after : HomePhase) (b : Bench) : (Bench.axisRamp a st after b).ix = b.ix := by
  simp only [Bench.axisRamp]; (repeat' split) <;> simp
@[simp] theorem Bench.axisStart_ix (a m : Nat) (k : Motion) (b : Bench) : (Bench.axisStart a m k b).ix = b.ix := by
  simp only [Bench.axisStart]; (repeat' split) <;> simp
@[simp] theorem Bench.moveStart_ix (a : Nat) (b : Bench) : (Bench.moveStart a b).ix = b.ix := by
  unfold Bench.moveStart; (repeat' split) <;> simp
@[simp] theorem Bench.axisAdvance_ix (a : Nat) (b : Bench) : (Bench.axisAdvance a b).ix = b.ix := by
  simp only [Bench.axisAdvance]; (repeat' split) <;> simp
@[simp] theorem Bench.axisPulse_ix (a : Nat) (b : Bench) : (Bench.axisPulse a b).ix = b.ix := rfl
@[simp] theorem Bench.limitStop_ix (a : Nat) (after : HomePhase) (b : Bench) : (Bench.limitStop a after b).ix = b.ix := by
  simp only [Bench.limitStop]; (repeat' split) <;> simp
@[simp] theorem Bench.homeCapture_ix (a edge : Nat) (b : Bench) : (Bench.homeCapture a edge b).ix = b.ix := by
  simp only [Bench.homeCapture]; (repeat' split) <;> simp
@[simp] theorem Bench.homingInput_ix (a : Nat) (home dirLimit active : Bool) (edge : Nat) (b : Bench) : (Bench.homingInput a home dirLimit active edge b).ix = b.ix := by
  simp only [Bench.homingInput]; (repeat' split) <;> simp
@[simp] theorem Bench.axisInput_ix (a : Nat) (inp : Fin 3) (active : Bool) (edge : Nat) (b : Bench) : (Bench.axisInput a inp active edge b).ix = b.ix := by
  simp only [Bench.axisInput]; (repeat' split) <;> simp
@[simp] theorem Bench.limitAccept_ix (a : Nat) (k : Fin 3) (b : Bench) : (Bench.limitAccept a k b).ix = b.ix := by
  simp only [Bench.limitAccept]; (repeat' split) <;> simp
@[simp] theorem Bench.limitSample_ix (raw : Word) (a : Nat) (k : Fin 3) (b : Bench) : (Bench.limitSample raw a k b).ix = b.ix := by
  simp only [Bench.limitSample]; (repeat' split) <;> simp
@[simp] theorem Bench.limitSamples_ix (b : Bench) : (Bench.limitSamples b).ix = b.ix := by
  simp [Bench.limitSamples]
@[simp] theorem Bench.axisPwm_ix (a : Nat) (b : Bench) : (Bench.axisPwm a b).ix = b.ix := by
  simp only [Bench.axisPwm]; (repeat' split) <;> simp
@[simp] theorem Bench.axisFault_ix (a : Nat) (b : Bench) : (Bench.axisFault a b).ix = b.ix := by
  simp [Bench.axisFault]
@[simp] theorem Bench.bridgeFault_ix (b : Bench) : (Bench.bridgeFault b).ix = b.ix := by
  simp [Bench.bridgeFault]
@[simp] theorem Bench.remoteStep_ix (a h : Nat) (b : Bench) : (b.remoteStep a h).ix = b.ix := by
  unfold Bench.remoteStep
  extract_lets x e dva dvd stand bound d z v1 move p x' b'
  have h' : b'.ix = b.ix := axisLimited_ix ..
  split
  · rw [axisStops_ix, setAxis_ix, h']
  · split
    · rw [axisStops_ix, h']
    · exact h'
@[simp] theorem Bench.remoteInput_ix (a : Nat) (b : Bench) (k : Fin 3) : (Bench.remoteInput a b k).ix = b.ix := by
  simp only [Bench.remoteInput]; (repeat' split) <;> simp
@[simp] theorem Bench.remoteEval_ix (a apply h : Nat) (b : Bench) : (Bench.remoteEval a apply h b).ix = b.ix := by
  simp only [Bench.remoteEval]; (repeat' split) <;> simp
@[simp] theorem Bench.remoteArmed_ix (a apply : Nat) (b : Bench) : (Bench.remoteArmed a apply b).ix = b.ix := by
  unfold Bench.remoteArmed; (repeat' split) <;> simp
@[simp] theorem Bench.axesLost_ix (s : Nat) (b : Bench) : (Bench.axesLost s b).ix = b.ix := by
  simp [Bench.axesLost, apply_ite Bench.ix]
@[simp] theorem Bench.positionUpdate_ix (a : Nat) (b : Bench) : (Bench.positionUpdate a b).ix = b.ix := by
  simp only [Bench.positionUpdate]; (repeat' split) <;> simp
@[simp] theorem Bench.motionLeave_ix (b : Bench) : (Bench.motionLeave b).ix = b.ix := by
  simp [Bench.motionLeave, apply_ite Bench.ix]
@[simp] theorem Bench.motionResume_ix (b : Bench) : (Bench.motionResume b).ix = b.ix := rfl
@[simp] theorem Bench.axesCheck_ix (b : Bench) : (b.axesCheck).ix = b.ix :=
  foldl_ix (fun _ _ => by rfl) _ _
@[simp] theorem Bench.axisReplay_ix (a x f k : Nat) (b : Bench) : (Bench.axisReplay a x f k b).1.ix = b.ix := by
  induction f generalizing k b with
  | zero => rfl
  | succ f ih => unfold Bench.axisReplay; split <;> simp [ih]
@[simp] theorem Bench.remoteReplay_ix (a h x f : Nat) (b : Bench) : (Bench.remoteReplay a h x f b).ix = b.ix := by
  induction f generalizing b with
  | zero => rfl
  | succ f ih => unfold Bench.remoteReplay; split <;> simp [ih]
@[simp] theorem Bench.motionTakeover_ix (x : Nat) (b : Bench) : (b.motionTakeover x).ix = b.ix := by
  refine foldl_ix (fun b a => ?_) _ b
  dsimp only
  split
  · rfl
  · split
    · split
      · exact axisReplay_ix ..
      · exact (axisDoubt_ix ..).trans (axisReplay_ix ..)
    · split
      · split
        · rfl
        · exact remoteReplay_ix ..
      · rfl
@[simp] theorem Bench.axisArm_ix (c : Cmd) (a at' : Nat) (lateOk : Bool) (k : Motion) (evt : Bool) (b : Bench) : (Bench.axisArm c a at' lateOk k evt b).ix = b.ix := by
  unfold Bench.axisArm; split <;> simp
@[simp] theorem Bench.axisCommand_ix {k : Bench → Bench} (h : ∀ b, (k b).ix = b.ix) (i : Instr) (c : Cmd) (a at' : Nat)
    (st : Status) (b : Bench) : (b.axisCommand i c a at' st k).ix = b.ix := by
  simp [Bench.axisCommand, apply_ite Bench.ix, h]
@[simp] theorem Bench.axisEarly_ix (a : Nat) (b : Bench) : (Bench.axisEarly a b).ix = b.ix := by
  simp only [Bench.axisEarly]; (repeat' split) <;> simp
@[simp] theorem Bench.axisStopOne_ix (hard : Bool) (a : Nat) (b : Bench) : (Bench.axisStopOne hard a b).ix = b.ix := by
  simp only [Bench.axisStopOne]; (repeat' split) <;> simp
@[simp] theorem Bench.fifoPush_ix (n : Fin 32) (w : Word) (eop : Bool) (b : Bench) : (Bench.fifoPush n w eop b).ix = b.ix := by
  simp only [Bench.fifoPush]; (repeat' split) <;> simp
@[simp] theorem Bench.fifoPushAll_ix (n : Fin 32) (ws : List Word) (b : Bench) : (Bench.fifoPushAll n ws b).ix = b.ix := by
  fun_induction Bench.fifoPushAll n ws b <;> simp_all
@[simp] theorem Bench.fifoPacket_ix (n : Fin 32) (cls : Nat) (ws : List Word) (b : Bench) : (Bench.fifoPacket n cls ws b).ix = b.ix := by
  simp only [Bench.fifoPacket]; (repeat' split) <;> simp
@[simp] theorem Bench.hostWrite_ix (n : Fin 32) (w : Word) (eop : Bool) (b : Bench) : (Bench.hostWrite n w eop b).ix = b.ix := by
  simp only [Bench.hostWrite]; (repeat' split) <;> simp
@[simp] theorem Bench.hostPop_ix (n : Fin 32) (b : Bench) : (Bench.hostPop n b).ix = b.ix := by
  simp only [Bench.hostPop]; (repeat' split) <;> simp
@[simp] theorem Bench.cmdStat_ix (v : Nat) (b : Bench) : (Bench.cmdStat v b).ix = b.ix := rfl
@[simp] theorem Bench.dropRemainder_ix (n : Fin 32) (b : Bench) : (Bench.dropRemainder n b).ix = b.ix := by
  simp only [Bench.dropRemainder]; (repeat' split) <;> simp
@[simp] theorem Bench.fifosEmptied_ix (f : Fifos) (b : Bench) : (Bench.fifosEmptied f b).ix = b.ix := rfl
@[simp] theorem Bench.flushFifo_ix (n : Fin 32) (b : Bench) : (Bench.flushFifo n b).ix = b.ix := by
  unfold Bench.flushFifo; split <;> simp
@[simp] theorem Bench.writeFqCfg_ix (n : Fin 32) (v : Word) (b : Bench) : (Bench.writeFqCfg n v b).ix = b.ix := by
  simp only [Bench.writeFqCfg]; (repeat' split) <;> simp
@[simp] theorem Bench.writeFqSpill_ix (n : Fin 32) (v : Word) (b : Bench) : (Bench.writeFqSpill n v b).ix = b.ix := by
  simp only [Bench.writeFqSpill]; (repeat' split) <;> simp
@[simp] theorem Bench.writeDramCapture_ix (v : Word) (b : Bench) : (Bench.writeDramCapture v b).ix = b.ix := by
  unfold Bench.writeDramCapture; (repeat' split) <;> simp
@[simp] theorem Bench.count_ix (n : Fin 10) (b : Bench) : (Bench.count n b).ix = b.ix := rfl
@[simp] theorem Bench.cancelItems_ix (k : Nat) (b : Bench) : (Bench.cancelItems k b).ix = b.ix := rfl
@[simp] theorem Bench.spoil_ix (n : Fin 10) (b : Bench) : (Bench.spoil n b).ix = b.ix := by
  simp only [Bench.spoil]; (repeat' split) <;> simp
@[simp] theorem Bench.enqueue_ix (i : Item) (b : Bench) : (Bench.enqueue i b).ix = b.ix := by
  unfold Bench.enqueue; split <;> simp
@[simp] theorem Bench.post_ix (i : Item) (b : Bench) : (Bench.post i b).2.ix = b.ix := by
  simp only [Bench.post]; (repeat' split) <;> simp
@[simp] theorem Bench.storeInputs_ix (a : Nat) (l : List (Nat × Point)) (b : Bench) : (Bench.storeInputs a l b).ix = b.ix := by
  fun_induction Bench.storeInputs a l b <;> simp_all
@[simp] theorem Bench.itemOverrun_ix (k : Fin 4) (b : Bench) : (Bench.itemOverrun k b).ix = b.ix := by
  simp only [Bench.itemOverrun]; (repeat' split) <;> simp
theorem Bench.releaseEffects_ix {b u : Bench} {l : List Effect} {acc : List (Fin 32 × Word)}
    (h : Bench.releaseEffects l acc b = some u) : u.ix = b.ix := by
  fun_induction Bench.releaseEffects l acc b with
  | case1 => simp_all
  | case2 _ _ _ _ _ _ _ ih => simpa using ih h
  | case3 _ _ _ _ _ ih => simpa using ih h
  | case4 _ _ _ _ _ ih => exact ih h
  | case5 => simp_all
  | case6 i _ _ b _ b' _ he ih =>
    have hp := b.post_ix { i with src := 2 }
    rw [he] at hp
    exact (ih h).trans hp
@[simp] theorem Bench.advanceRelease_ix (f : Nat) (b : Bench) : (Bench.advanceRelease f b).ix = b.ix := rfl
@[simp] theorem Bench.release_ix (f : Nat) (b : Bench) : (b.release f).ix = b.ix := by
  unfold Bench.release
  dsimp only
  split
  · simp
  · split
    · split
      · split
        next he => simp [releaseEffects_ix he]
        next => rfl
      · rfl
    · rfl
@[simp] theorem Bench.fifoNotify_ix (n : Fin 32) (b : Bench) : (b.fifoNotify n).ix = b.ix := by
  unfold Bench.fifoNotify
  dsimp only
  split
  · rfl
  next len rest _ =>
    have h := b.post_ix { queue := mkIx 7 (b.fifo n).nq, src := 3, fref := true, fifo := n.val, handler := (b.fifo n).nhandler, arg0 := BitVec.ofNat 32 len }
    split
    next he => rwa [he] at h
    next he => rw [he] at h; exact h
@[simp] theorem Bench.endHostItem_ix (st : Status) (b : Bench) (i : Item) : (Bench.endHostItem st b i).ix = b.ix := by
  unfold Bench.endHostItem; split <;> simp
@[simp] theorem Bench.hostPost_ix (b : Bench) : (b.hostPost).ix = b.ix := by
  unfold Bench.hostPost
  split
  · rfl
  next i _ =>
    have h := b.post_ix i
    split
    next he => rwa [he] at h
    next he => rw [he] at h; exact h
    next he => rw [he] at h; exact (endHostItem_ix ..).trans h
@[simp] theorem Bench.removeItems_ix (p : Item → Bool) (b : Bench) : (Bench.removeItems p b).ix = b.ix := by
  simp [Bench.removeItems]
@[simp] theorem Bench.writeScCtrl_ix (v : Word) (b : Bench) : (Bench.writeScCtrl v b).ix = b.ix := by
  simp [Bench.writeScCtrl]
@[simp] theorem Bench.writeScFlow_ix (f : Nat) (v : Word) (b : Bench) : (Bench.writeScFlow f v b).ix = b.ix := by
  simp only [Bench.writeScFlow]; (repeat' split) <;> simp
@[simp] theorem Bench.writeScQcfg_ix (q : Fin 8) (v : Word) (b : Bench) : (Bench.writeScQcfg q v b).ix = b.ix := by
  simp only [Bench.writeScQcfg]; (repeat' split) <;> simp
@[simp] theorem Bench.mergeSticky_ix (c : Core) (b : Bench) : (Bench.mergeSticky c b).ix = b.ix := by
  unfold Bench.mergeSticky; split <;> simp
@[simp] theorem Bench.dropOpenOf_ix (k : Fin 4) (b : Bench) : (Bench.dropOpenOf k b).ix = b.ix := rfl
@[simp] theorem Bench.spoilHeld_ix (i : Item) (b : Bench) : (Bench.spoilHeld i b).ix = b.ix := by
  simp only [Bench.spoilHeld]; (repeat' split) <;> simp [apply_ite Bench.ix]
@[simp] theorem Bench.stopCore_ix (b : Bench) (k : Fin 4) : (Bench.stopCore b k).ix = b.ix := by
  simp [Bench.stopCore]
@[simp] theorem Bench.faultStop_ix (b : Bench) (k : Fin 4) : (Bench.faultStop b k).ix = b.ix := by
  simp only [Bench.faultStop]; (repeat' split) <;> simp
@[simp] theorem Bench.schedStop_ix (b : Bench) : (b.schedStop).ix = b.ix := by
  unfold Bench.schedStop
  extract_lets b₁ items b₂
  have h₂ : b₂.ix = b.ix :=
    (foldl_ix (fun _ _ => endHostItem_ix ..) _ _).trans ((cancelItems_ix ..).trans (foldl_ix (fun _ _ => faultStop_ix ..) _ b))
  exact h₂
@[simp] theorem Bench.canImage_ix (l : List ((Nat × Nat) × Word)) (b : Bench) : (b.canImage l).ix = b.ix := by
  refine foldl_ix (fun b k => ?_) _ b
  exact foldl_ix (fun _ _ => by rfl) _ _
@[simp] theorem Bench.canStart_ix (b : Bench) : (Bench.canStart b).ix = b.ix := rfl
@[simp] theorem Bench.canReferencesEnd_ix (b : Bench) : (Bench.canReferencesEnd b).ix = b.ix := rfl
@[simp] theorem Bench.canWake_ix (b : Bench) : (Bench.canWake b).ix = b.ix := by
  unfold Bench.canWake; split <;> simp
@[simp] theorem Bench.gaugeBlock_ix (i : Nat) (b : Bench) : (Bench.gaugeBlock i b).2.ix = b.ix := by
  simp only [Bench.gaugeBlock]; (repeat' split) <;> simp
@[simp] theorem Bench.recordWrite_ix (kind cls cause : Nat) (body : List Word) (b : Bench) :
    (b.recordWrite kind cls cause body).ix = b.ix := by
  unfold Bench.recordWrite
  dsimp only
  split <;> simp
@[simp] theorem Bench.periodOpen_ix (b : Bench) : (Bench.periodOpen b).ix = b.ix := rfl
@[simp] theorem Bench.periodClose_ix (cls cause : Nat) (b : Bench) : (b.periodClose cls cause).ix = b.ix := by
  unfold Bench.periodClose
  simp only [periodOpen_ix, recordWrite_ix, gaugeBlock_ix, setHealth_ix]
@[simp] theorem Bench.earlyClose_ix (cause : Nat) (b : Bench) : (Bench.earlyClose cause b).ix = b.ix := by
  simp only [Bench.earlyClose]; (repeat' split) <;> simp
@[simp] theorem Bench.healthLost_ix (b : Bench) : (b.healthLost).ix = b.ix := by
  unfold Bench.healthLost
  dsimp only
  split
  · rfl
  · exact foldl_ix (fun b n => by split <;> rfl) _ _
@[simp] theorem Bench.restSupply_ix (b : Bench) : (Bench.restSupply b).ix = b.ix := by
  unfold Bench.restSupply; split <;> simp
@[simp] theorem Bench.toCeiling_ix (b : Bench) : (Bench.toCeiling b).ix = b.ix := by
  unfold Bench.toCeiling; split <;> simp
@[simp] theorem Bench.demandRaise_ix (k : Fin 16) (b : Bench) : (Bench.demandRaise k b).ix = b.ix := by
  simp only [Bench.demandRaise]; (repeat' split) <;> simp
@[simp] theorem Bench.cycleDone_ix (k : Fin 16) (span : Nat) (b : Bench) : (Bench.cycleDone k span b).ix = b.ix := by
  simp only [Bench.cycleDone]; (repeat' split) <;> simp
@[simp] theorem Bench.raiseDemand_ix (k : Fin 16) (b : Bench) : (Bench.raiseDemand k b).ix = b.ix := by
  simp only [Bench.raiseDemand]; (repeat' split) <;> simp
@[simp] theorem Bench.paceLow_ix (rate : Nat) (b : Bench) : (Bench.paceLow rate b).ix = b.ix := by
  unfold Bench.paceLow; split <;> simp
@[simp] theorem Bench.paceFault_ix (b : Bench) : (Bench.paceFault b).ix = b.ix := by
  unfold Bench.paceFault; split <;> simp
@[simp] theorem Bench.paceRecovered_ix (rate : Nat) (b : Bench) : (Bench.paceRecovered rate b).ix = b.ix := by
  unfold Bench.paceRecovered; split <;> simp
@[simp] theorem Bench.tjHigh_ix (tj : Int) (b : Bench) : (Bench.tjHigh tj b).ix = b.ix := by
  unfold Bench.tjHigh; split <;> simp
@[simp] theorem Bench.tjRecovered_ix (tj : Int) (b : Bench) : (Bench.tjRecovered tj b).ix = b.ix := by
  simp only [Bench.tjRecovered]; (repeat' split) <;> simp
@[simp] theorem Bench.writePaceLim_ix (v : Word) (b : Bench) : (Bench.writePaceLim v b).ix = b.ix := by
  simp only [Bench.writePaceLim]; (repeat' split) <;> simp
@[simp] theorem Bench.writePaceRest_ix (v : Word) (b : Bench) : (Bench.writePaceRest v b).ix = b.ix := by
  simp only [Bench.writePaceRest]; (repeat' split) <;> simp
@[simp] theorem Bench.toHoldover_ix (b : Bench) : (Bench.toHoldover b).ix = b.ix := by
  simp only [Bench.toHoldover]; (repeat' split) <;> simp
@[simp] theorem Bench.refLost_ix (mode : Nat) (refB : Bool) (b : Bench) : (Bench.refLost mode refB b).ix = b.ix := by
  simp only [Bench.refLost]; (repeat' split) <;> simp
@[simp] theorem Bench.refGood_ix (mode : Nat) (refB : Bool) (b : Bench) : (Bench.refGood mode refB b).ix = b.ix := by
  simp only [Bench.refGood]; (repeat' split) <;> simp
@[simp] theorem Bench.startForces_ix (pagesOk : Bool) (b : Bench) : (Bench.startForces pagesOk b).ix = b.ix := by
  simp only [Bench.startForces]; (repeat' split) <;> simp
@[simp] theorem Bench.timeLock_ix (v : Nat) (st : RailState) (checks : LockChecks) (b : Bench) : (Bench.timeLock v st checks b).ix = b.ix := by
  simp [Bench.timeLock]
@[simp] theorem Bench.lockTimeout_ix (mode v : Nat) (checks : LockChecks) (b : Bench) : (Bench.lockTimeout mode v checks b).ix = b.ix := by
  unfold Bench.lockTimeout; split <;> simp
@[simp] theorem Bench.freeEntered_ix (mode : Nat) (b : Bench) : (Bench.freeEntered mode b).ix = b.ix := by
  unfold Bench.freeEntered; split <;> simp
@[simp] theorem Bench.relockComplete_ix (b : Bench) : (Bench.relockComplete b).ix = b.ix := by
  unfold Bench.relockComplete; (repeat' split) <;> simp
@[simp] theorem Bench.steer_ix (m : Nat) (b : Bench) : (Bench.steer m b).ix = b.ix := by
  simp only [Bench.steer]; (repeat' split) <;> simp
@[simp] theorem Bench.railTaken_ix (v : Nat) (b : Bench) : (Bench.railTaken v b).ix = b.ix := rfl
@[simp] theorem Bench.epochMarker_ix (mode m : Nat) (checks : LockChecks) (b : Bench) : (Bench.epochMarker mode m checks b).ix = b.ix := by
  simp only [Bench.epochMarker]; (repeat' split) <;> simp
@[simp] theorem Bench.opHours_ix (vin : Bool) (b : Bench) : (Bench.opHours vin b).ix = b.ix := by
  unfold Bench.opHours; split <;> simp
@[simp] theorem Bench.substPoint_ix (stamp : Time) (b : Bench) (p : Nat) : (Bench.substPoint stamp b p).ix = b.ix := by
  simp [Bench.substPoint]
@[simp] theorem Bench.substStation_ix (s : Nat) (stamp : Time) (b : Bench) : (Bench.substStation s stamp b).ix = b.ix := by
  simp [Bench.substStation]
@[simp] theorem Bench.writeGroup_ix (s latch : Nat) (slots : List Word) (b : Bench) : (b.writeGroup s latch slots).ix = b.ix := by
  unfold Bench.writeGroup
  extract_lets b₁
  have h₁ : b₁.ix = b.ix := foldl_ix (fun _ _ => writePoint_ix ..) _ b
  split
  · exact (foldl_ix (fun _ _ => lateImage_ix ..) _ _).trans h₁
  · exact h₁
@[simp] theorem Bench.noteImages_ix (task : Fin 16) (ik ok : Time) (b : Bench) : (Bench.noteImages task ik ok b).ix = b.ix := by
  simp [Bench.noteImages, apply_ite Bench.ix]
@[simp] theorem Bench.noteErrImage_ix (ik : Time) (b : Bench) : (Bench.noteErrImage ik b).ix = b.ix := by
  simp [Bench.noteErrImage, apply_ite Bench.ix]
@[simp] theorem Bench.noteErrOutputs_ix (ok : Time) (b : Bench) : (Bench.noteErrOutputs ok b).ix = b.ix := by
  simp [Bench.noteErrOutputs, apply_ite Bench.ix]
@[simp] theorem Bench.axisSlot_ix (apply : Nat) (r : List Word × Bench) (a : Nat) : (Bench.axisSlot apply r a).2.ix = r.2.ix := by
  simp [Bench.axisSlot, apply_ite Bench.ix]
@[simp] theorem Bench.pointSlot_ix (apply : Nat) (r : List Word × Bench) (p : Nat) : (Bench.pointSlot apply r p).2.ix = r.2.ix := by
  unfold Bench.pointSlot
  dsimp only
  split <;> simp
@[simp] theorem Bench.downFrame_ix (apply start txb s : Nat) (b : Bench) : (b.downFrame apply start txb s).ix = b.ix := by
  have slots (safe : Bool) (b : Bench) : (if safe then (([] : List Word), b) else (b.stationAxes s).foldl (Bench.axisSlot apply)
      ((b.stationOut s).foldl (Bench.pointSlot apply) ([], b))).2.ix = b.ix := by
    split
    · rfl
    · exact (foldl_snd_ix (axisSlot_ix apply) _ _).trans (foldl_snd_ix (pointSlot_ix apply) _ _)
  simp only [Bench.downFrame, apply_ite Bench.ix, setStation_ix, slots, raise_ix, guardDeny_ix, ite_self]
@[simp] theorem Bench.haulService_ix (k : Nat) (b : Bench) : (Bench.haulService k b).ix = b.ix := by
  induction k generalizing b with
  | zero => rfl
  | succ k ih => unfold Bench.haulService; (repeat' split) <;> simp [ih, apply_ite Bench.ix]
@[simp] theorem Bench.haulCut_ix (txs : List Nat) (b : Bench) : (Bench.haulCut txs b).ix = b.ix := by
  simp only [Bench.haulCut]; (repeat' split) <;> simp
@[simp] theorem Bench.haulDrop_ix (b : Bench) : (Bench.haulDrop b).ix = b.ix := rfl
@[simp] theorem Bench.serviceRx_ix (f : UpFrame) (b : Bench) : (Bench.serviceRx f b).ix = b.ix := by
  simp only [Bench.serviceRx]; (repeat' split) <;> simp
@[simp] theorem Bench.delaySample_ix (f : UpFrame) (b : Bench) : (Bench.delaySample f b).ix = b.ix := by
  simp only [Bench.delaySample]; (repeat' split) <;> simp
@[simp] theorem Bench.validFrame_ix (f : UpFrame) (b : Bench) : (Bench.validFrame f b).ix = b.ix := by
  simp only [Bench.validFrame]; (repeat' split) <;> simp
@[simp] theorem Bench.upFrame_ix (f : UpFrame) (b : Bench) : (Bench.upFrame f b).ix = b.ix := by
  simp only [Bench.upFrame]; (repeat' split) <;> simp
@[simp] theorem Bench.stationLost_ix (s latch : Nat) (b : Bench) : (Bench.stationLost s latch b).ix = b.ix := by
  simp only [Bench.stationLost]; (repeat' split) <;> simp
@[simp] theorem Bench.deadline_ix (latch s : Nat) (b : Bench) : (Bench.deadline latch s b).ix = b.ix := by
  simp only [Bench.deadline]; (repeat' split) <;> simp
@[simp] theorem Bench.stationInit_ix (s : Nat) (b : Bench) : (Bench.stationInit s b).ix = b.ix := by
  simp [Bench.stationInit]
@[simp] theorem Bench.haulEnter_ix (b : Bench) : (Bench.haulEnter b).ix = b.ix := by
  unfold Bench.haulEnter; split <;> simp
@[simp] theorem Bench.haulLeave_ix (b : Bench) : (Bench.haulLeave b).ix = b.ix := rfl
@[simp] theorem Bench.haulLoads_ix (b : Bench) : (Bench.haulLoads b).ix = b.ix := by
  unfold Bench.haulLoads; split <;> simp
@[simp] theorem Bench.haulCheck_ix (b : Bench) : (Bench.haulCheck b).ix = b.ix := by
  simp only [Bench.haulCheck, haulLoads_ix]
  exact foldl_ix (fun _ _ => by rfl) _ b
@[simp] theorem Bench.arbitrate_ix (p : Nat) (b : Bench) : (Bench.arbitrate p b).ix = b.ix := by
  unfold Bench.arbitrate; split <;> simp
@[simp] theorem Bench.commitForce_ix (i : Nat) (en : Bool) (p : Nat) (v : Word) (b : Bench) :
    (b.commitForce i en p v).ix = b.ix := by
  unfold Bench.commitForce
  extract_lets old bad
  split
  extract_lets b₁ src b₂ b₃ b₄ b₅ dup b₆
  have h₂ : b₂.ix = b.ix := by unfold b₂; split <;> rfl
  have h₃ : b₃.ix = b₂.ix := by simp [b₃]
  have h₄ : b₄.ix = b₃.ix := by
    unfold b₄
    split
    · rfl
    · exact foldl_ix (fun _ _ => by rfl) _ _
  have h₆ : b₆.ix = b₄.ix := by unfold b₆; split <;> simp [b₅]
  rw [errorCause_ix, h₆, h₄, h₃, h₂]
@[simp] theorem Bench.forceCommit_ix (i : Nat) (en : Bool) (p : Nat) (v : Word) (b : Bench) : (Bench.forceCommit i en p v b).ix = b.ix := by
  unfold Bench.forceCommit; (repeat' split) <;> simp
@[simp] theorem Bench.applyHeld_ix (l : List (Nat × Word × Word)) (b : Bench) : (Bench.applyHeld l b).ix = b.ix := by
  fun_induction Bench.applyHeld l b <;> simp_all
@[simp] theorem Bench.gapOver_ix (b : Bench) : (Bench.gapOver b).ix = b.ix := rfl
@[simp] theorem Bench.inputInstant_ix (k : Fin 16) (b : Bench) : (Bench.inputInstant k b).ix = b.ix := by
  simp only [Bench.inputInstant]; (repeat' split) <;> simp
@[simp] theorem Bench.errDispatch_ix (b : Bench) : (Bench.errDispatch b).ix = b.ix := by
  unfold Bench.errDispatch; split <;> simp
@[simp] theorem Bench.dispatchSlot_ix (k : Fin 4) (x : SlotImg) (b : Bench) : (Bench.dispatchSlot k x b).ix = b.ix := by
  unfold Bench.dispatchSlot; (repeat' split) <;> simp
@[simp] theorem Bench.dispatchItem_ix (k : Fin 4) (q : Fin 8) (i : Item) (b : Bench) : (Bench.dispatchItem k q i b).ix = b.ix := by
  simp only [Bench.dispatchItem]; (repeat' split) <;> simp
@[simp] theorem Bench.dispatch_ix (k : Fin 4) (b : Bench) : (Bench.dispatch k b).ix = b.ix := by
  simp only [Bench.dispatch]; (repeat' split) <;> simp
@[simp] theorem Bench.copyDone_ix (k : Fin 16) (b : Bench) : (Bench.copyDone k b).ix = b.ix := by
  simp only [Bench.copyDone]; (repeat' split) <;> simp
@[simp] theorem Bench.stage_ix (p : Nat) (v : Word) (due : Time) (period : Nat) (b : Bench) : (Bench.stage p v due period b).ix = b.ix := by
  unfold Bench.stage; split <;> simp
@[simp] theorem Bench.produce_ix (src : Source) (p : Nat) (v : Word) (q : Half) (due period : Nat) (b : Bench) : (Bench.produce src p v q due period b).ix = b.ix := by
  unfold Bench.produce; split <;> simp
@[simp] theorem Bench.writeOutputs_ix (due : Time) (period : Nat) (l : List Nat) (a : Nat) (b : Bench) :
    (Bench.writeOutputs due period l a b).ix = b.ix := by
  fun_induction Bench.writeOutputs due period l a b <;> simp_all
@[simp] theorem Bench.gapBegins_ix (b : Bench) : (Bench.gapBegins b).ix = b.ix := by
  unfold Bench.gapBegins; split <;> simp
@[simp] theorem Bench.endOfLogic_ix (k : Fin 16) (b : Bench) : (Bench.endOfLogic k b).ix = b.ix := by
  simp only [Bench.endOfLogic]; (repeat' split) <;> simp
@[simp] theorem Bench.keepStaged_ix (x : Staged) (b : Bench) : (Bench.keepStaged x b).ix = b.ix := by
  unfold Bench.keepStaged; split <;> simp
@[simp] theorem Bench.outputOne_ix (x : Staged) (b : Bench) : (Bench.outputOne x b).ix = b.ix := by
  simp only [Bench.outputOne]; (repeat' split) <;> simp
@[simp] theorem Bench.forceOne_ix (p : Nat) (b : Bench) : (Bench.forceOne p b).ix = b.ix := by
  simp only [Bench.forceOne]; (repeat' split) <;> simp
@[simp] theorem Bench.outputLate_ix (x : Staged) (b : Bench) : (Bench.outputLate x b).ix = b.ix := by
  simp [Bench.outputLate]
@[simp] theorem Bench.outputInstant_ix (b : Bench) : (Bench.outputInstant b).ix = b.ix := by
  simp [Bench.outputInstant, apply_ite Bench.ix]
@[simp] theorem Bench.moverPage_ix (b : Bench) : (Bench.moverPage b).ix = b.ix := by
  simp only [Bench.moverPage]; (repeat' split) <;> simp
@[simp] theorem Bench.endChange_ix (c : Change) (b : Bench) : (Bench.endChange c b).ix = b.ix := by
  simp [Bench.endChange]
@[simp] theorem Bench.cancelChange_ix (b : Bench) : (Bench.cancelChange b).ix = b.ix := by
  unfold Bench.cancelChange; (repeat' split) <;> simp
@[simp] theorem Bench.gapTest_ix (b : Bench) : (Bench.gapTest b).ix = b.ix := by
  simp only [Bench.gapTest]; (repeat' split) <;> simp
@[simp] theorem Bench.swapSlots_ix (b : Bench) : (Bench.swapSlots b).ix = b.ix := rfl
@[simp] theorem Bench.firstInput_ix (b : Bench) : (Bench.firstInput b).2.ix = b.ix := by
  unfold Bench.firstInput; split <;> simp
@[simp] theorem Bench.doSwitch_ix (b : Bench) : (Bench.doSwitch b).ix = b.ix := by
  simp only [Bench.doSwitch]; (repeat' split) <;> simp
@[simp] theorem Bench.canEvent_ix (k : Fin 2) (bit : Nat) (b : Bench) : (Bench.canEvent k bit b).ix = b.ix := by
  simp [Bench.canEvent]
@[simp] theorem Bench.canCause_ix (k : Fin 2) (bit cause : Nat) (b : Bench) : (Bench.canCause k bit cause b).ix = b.ix := by
  simp [Bench.canCause]
@[simp] theorem Bench.canLoads_ix (b : Bench) : (Bench.canLoads b).ix = b.ix := rfl
@[simp] theorem Bench.canStore_ix (k : Fin 2) (n : Nat) (h0 h1 ts : Word) (data : List Word) (b : Bench) : (Bench.canStore k n h0 h1 ts data b).2.ix = b.ix := by
  simp only [Bench.canStore]; (repeat' split) <;> simp
@[simp] theorem Bench.mrRead_ix (k : Fin 2) (b : Bench) : (Bench.mrRead k b).2.ix = b.ix := by
  simp only [Bench.mrRead]; (repeat' split) <;> simp
@[simp] theorem Bench.mrWrite_ix (k : Fin 2) (v : Word) (b : Bench) : (Bench.mrWrite k v b).ix = b.ix := by
  simp only [Bench.mrWrite]; (repeat' split) <;> simp
@[simp] theorem Bench.bufRead_ix (k : Fin 2) (o : Nat) (b : Bench) : (Bench.bufRead k o b).ix = b.ix := by
  simp [Bench.bufRead]
@[simp] theorem Bench.canPacket_ix (k : Fin 2) (n : Nat) (ws : List Word) (b : Bench) : (Bench.canPacket k n ws b).2.ix = b.ix := by
  simp [Bench.canPacket]
@[simp] theorem Bench.canAct_ix (k : Fin 2) (e : Nat × Nat) (f : CanFrame) (ts : Word) (b : Bench) : (Bench.canAct k e f ts b).ix = b.ix := by
  simp only [Bench.canAct]; (repeat' split) <;> simp
@[simp] theorem Bench.canCollision_ix (k : Fin 2) (f : CanFrame) (b : Bench) : (Bench.canCollision k f b).ix = b.ix := by
  simp [Bench.canCollision]
@[simp] theorem Bench.canGood_ix (k : Fin 2) (b : Bench) : (Bench.canGood k b).ix = b.ix := by
  simp only [Bench.canGood]; (repeat' split) <;> simp
@[simp] theorem Bench.canReceive_ix (k : Fin 2) (f : CanFrame) (sof : Nat) (b : Bench) : (Bench.canReceive k f sof b).ix = b.ix := by
  simp only [Bench.canReceive]; (repeat' split) <;> simp
@[simp] theorem Bench.canDenied_ix (k : Fin 2) (p : CanPending) (b : Bench) : (Bench.canDenied k p b).ix = b.ix := by
  unfold Bench.canDenied; split <;> simp
@[simp] theorem Bench.canOffer_ix (k : Fin 2) (t n : Nat) (b : Bench) : (Bench.canOffer k t n b).ix = b.ix := by
  fun_induction Bench.canOffer k t n b <;> simp_all
@[simp] theorem Bench.canDue_ix (k : Fin 2) (t n a : Nat) (b : Bench) : (Bench.canDue k t n a b).ix = b.ix := by
  fun_induction Bench.canDue k t n a b <;> simp_all
@[simp] theorem Bench.canOffers_ix (t : Nat) (b : Bench) : (Bench.canOffers t b).ix = b.ix := by
  simp [Bench.canOffers]
@[simp] theorem Bench.canTick_ix (t : Nat) (b : Bench) : (Bench.canTick t b).ix = b.ix := by
  simp [Bench.canTick]
@[simp] theorem Bench.canEval_ix (k : Fin 2) (b : Bench) : (Bench.canEval k b).ix = b.ix := by
  simp [Bench.canEval]
@[simp] theorem Bench.canSlot_ix (k : Fin 2) (a : Nat) (r : List Word × Bench) (p : Nat) : (Bench.canSlot k a r p).2.ix = r.2.ix := by
  unfold Bench.canSlot
  dsimp only
  split <;> simp
@[simp] theorem Bench.objData_ix (k : Fin 2) (n a : Nat) (live : Bool) (b : Bench) : (b.objData k n a live).2.ix = b.ix := by
  unfold Bench.objData
  dsimp only
  split
  · exact foldl_snd_ix (fun _ _ => canSlot_ix ..) _ _
  · rfl
@[simp] theorem Bench.objPend_ix (k : Fin 2) (n a : Nat) (begun : Bool) (b : Bench) : (Bench.objPend k n a begun b).ix = b.ix := by
  simp only [Bench.objPend]; (repeat' split) <;> simp
@[simp] theorem Bench.canSent_ix (k : Fin 2) (p : CanPending) (sof : Nat) (b : Bench) : (Bench.canSent k p sof b).ix = b.ix := by
  unfold Bench.canSent; (repeat' split) <;> simp
@[simp] theorem Bench.canDelay_ix (k : Fin 2) (f : CanFrame) (delay : Option Nat) (b : Bench) : (Bench.canDelay k f delay b).ix = b.ix := by
  unfold Bench.canDelay; (repeat' split) <;> simp
@[simp] theorem Bench.canBusOff_ix (k : Fin 2) (b : Bench) : (Bench.canBusOff k b).ix = b.ix := by
  simp [Bench.canBusOff]
@[simp] theorem Bench.canDetected_ix (k : Fin 2) (typ : Nat) (phase : Bool) (steps : Nat × Nat) (b : Bench) : (Bench.canDetected k typ phase steps b).ix = b.ix := by
  simp only [Bench.canDetected]; (repeat' split) <;> simp
@[simp] theorem Bench.canLeaveRun_ix (b : Bench) : (b.canLeaveRun).ix = b.ix := by
  refine foldl_ix (fun b k => ?_) _ b
  dsimp only
  (repeat' split) <;> simp
@[simp] theorem Bench.canShadow_ix (b : Bench) : (Bench.canShadow b).ix = b.ix := rfl
@[simp] theorem Bench.canFromShadow_ix (b : Bench) : (Bench.canFromShadow b).ix = b.ix := rfl
@[simp] theorem Bench.reduce_ix (p : Nat) (e : Point) (b : Bench) : (Bench.reduce p e b).ix = b.ix := rfl
@[simp] theorem Bench.digestOne_ix (b : Bench) : (Bench.digestOne b).ix = b.ix := by
  simp only [Bench.digestOne]; (repeat' split) <;> simp
@[simp] theorem Bench.digestDrain_ix (e k : Nat) (b : Bench) : (Bench.digestDrain e k b).ix = b.ix := by
  fun_induction Bench.digestDrain e k b <;> simp_all
@[simp] theorem Bench.digestLate_ix (b : Bench) : (Bench.digestLate b).ix = b.ix := by
  simp only [Bench.digestLate]; (repeat' split) <;> simp
@[simp] theorem Bench.digestClose_ix (e : Nat) (cut cont : Bool) (next : Option (Nat × Nat)) (b : Bench) : (Bench.digestClose e cut cont next b).ix = b.ix := by
  simp only [Bench.digestClose]; (repeat' split) <;> simp
@[simp] theorem Bench.digestBefore_ix (n : Fin 16) (t : Nat) (b : Bench) : (Bench.digestBefore n t b).ix = b.ix := by
  unfold Bench.digestBefore; split <;> simp
@[simp] theorem Bench.digestBoundary_ix (n : Fin 16) (t : Nat) (next : Option Nat) (b : Bench) : (Bench.digestBoundary n t next b).ix = b.ix := by
  simp only [Bench.digestBoundary]; (repeat' split) <;> simp
@[simp] theorem Bench.digestLeave_ix (b : Bench) : (Bench.digestLeave b).ix = b.ix := by
  unfold Bench.digestLeave; split <;> simp
@[simp] theorem Bench.setChan_ix (c : Fin 32) (x : KfChan) (b : Bench) : (Bench.setChan c x b).ix = b.ix := rfl
@[simp] theorem Bench.setUnit_ix (u : Fin 8) (x : KfUnit) (b : Bench) : (Bench.setUnit u x b).ix = b.ix := rfl
@[simp] theorem Bench.kerfEvent_ix (bit ch : Nat) (b : Bench) : (Bench.kerfEvent bit ch b).ix = b.ix := by
  simp [Bench.kerfEvent]
@[simp] theorem Bench.recordEnd_ix (ch : Fin 32) (why : Nat) (b : Bench) : (Bench.recordEnd ch why b).ix = b.ix := by
  simp only [Bench.recordEnd]; (repeat' split) <;> simp
@[simp] theorem Bench.chanStore_ix (ch : Fin 32) (e : Point) (b : Bench) : (Bench.chanStore ch e b).ix = b.ix := by
  simp only [Bench.chanStore]; (repeat' split) <;> simp
@[simp] theorem Bench.chanTrigger_ix (u : Nat) (time : Nat) (b : Bench) (ch : Fin 32) : (Bench.chanTrigger u time b ch).ix = b.ix := by
  simp only [Bench.chanTrigger]; (repeat' split) <;> simp
@[simp] theorem Bench.unitFire_ix (u : Fin 8) (time : Nat) (b : Bench) : (Bench.unitFire u time b).ix = b.ix := by
  simp only [Bench.unitFire]; (repeat' split) <;> simp
@[simp] theorem Bench.unitSample_ix (u : Fin 8) (fmt : Nat) (w : Word) (stamp : Nat) (b : Bench) : (Bench.unitSample u fmt w stamp b).ix = b.ix := by
  simp only [Bench.unitSample]; (repeat' split) <;> simp
@[simp] theorem Bench.kerfSample_ix (stype ctype src fmt : Nat) (good : Bool) (unitWord : KfUnit → Option Word) (e : Point)
    (b : Bench) : (b.kerfSample stype ctype src fmt good unitWord e).ix = b.ix := by
  unfold Bench.kerfSample
  refine (foldl_ix (fun b ch => ?channel) _ _).trans (foldl_ix (fun b u => ?unit) _ b)
  case channel => dsimp only; split <;> simp
  case unit => dsimp only; (repeat' split) <;> simp
@[simp] theorem Bench.kerfPoint_ix (b : Bench) : (b.kerfPoint).ix = b.ix := by
  unfold Bench.kerfPoint
  split
  · rfl
  · exact kerfSample_ix ..
@[simp] theorem Bench.kerfDrain_ix (k : Nat) (b : Bench) : (Bench.kerfDrain k b).ix = b.ix := by
  fun_induction Bench.kerfDrain k b <;> simp_all
@[simp] theorem Bench.chanStop_ix (why : Nat) (r : Nat × Bench) (ch : Fin 32) : (Bench.chanStop why r ch).2.ix = r.2.ix := by
  unfold Bench.chanStop
  dsimp only
  split <;> simp
@[simp] theorem Bench.kerfLeave_ix (b : Bench) : (b.kerfLeave).ix = b.ix := by
  unfold Bench.kerfLeave
  rw [foldl_snd_ix (chanStop_ix 3), kerfDrain_ix]
@[simp] theorem Bench.kerfStart_ix (b : Bench) : (Bench.kerfStart b).ix = b.ix := rfl
@[simp] theorem Bench.kerfWrite_ix (o : Nat) (v : Word) (b : Bench) : (Bench.kerfWrite o v b).ix = b.ix := by
  simp only [Bench.kerfWrite]; (repeat' split) <;> simp
@[simp] theorem Bench.setWords_ix (n : Nat) (ws : List (Nat × Word)) (b : Bench) : (b.setWords n ws).ix = b.ix :=
  foldl_ix (fun _ _ => by rfl) ws b
@[simp] theorem Bench.takeCmds_ix (n : Nat) (l : List (Nat × LoopCmd)) (b : Bench) : (Bench.takeCmds n l b).ix = b.ix := by
  simp [Bench.takeCmds]
@[simp] theorem Bench.recipeSpl_ix (n t : Nat) (v : Int) (b : Bench) : (Bench.recipeSpl n t v b).ix = b.ix := rfl
@[simp] theorem Bench.loopRead_ix (n : Nat) (b : Bench) : (Bench.loopRead n b).ix = b.ix := by
  simp only [Bench.loopRead]; (repeat' split) <;> simp
@[simp] theorem Bench.loopAgain_ix (n : Nat) (l : Loop) (u : LoopUpdate) (b : Bench) : (Bench.loopAgain n l u b).ix = b.ix := by
  simp [Bench.loopAgain]
@[simp] theorem Bench.loopMiss_ix (n : Nat) (l : Loop) (u : LoopUpdate) (b : Bench) : (Bench.loopMiss n l u b).ix = b.ix := by
  simp only [Bench.loopMiss]; (repeat' split) <;> simp
@[simp] theorem Bench.loopDone_ix (n margin : Nat) (l : Loop) (u : LoopUpdate) (b : Bench) : (Bench.loopDone n margin l u b).ix = b.ix := by
  simp only [Bench.loopDone]; (repeat' split) <;> simp
@[simp] theorem Bench.loopRelease_ix (n : Nat) (margin : Option Nat) (b : Bench) : (Bench.loopRelease n margin b).ix = b.ix := by
  simp only [Bench.loopRelease]; (repeat' split) <;> simp
@[simp] theorem Bench.loopsCheck_ix (b : Bench) : (b.loopsCheck).ix = b.ix :=
  foldl_ix (fun _ _ => by rfl) _ _
@[simp] theorem Bench.loopsEnter_ix (b : Bench) : (b.loopsEnter).ix = b.ix := foldl_ix (fun _ _ => by rfl) _ b
@[simp] theorem Bench.loopsResume_ix (driven : Nat → Option Int) (b : Bench) : (b.loopsResume driven).ix = b.ix :=
  foldl_ix (fun _ _ => by rfl) _ b
@[simp] theorem Bench.loopsLeave_ix (b : Bench) : (b.loopsLeave).ix = b.ix := by
  refine foldl_ix (fun b n => ?_) _ b
  dsimp only
  split <;> simp
@[simp] theorem Bench.loopWaits_ix (n : Nat) (x : LoopCmd) (b : Bench) : (Bench.loopWaits n x b).ix = b.ix := rfl
@[simp] theorem Bench.loopCommand_ix (c : Cmd) (n : Nat) (ok : Bool) (x : LoopCmd) (b : Bench) : (Bench.loopCommand c n ok x b).ix = b.ix := by
  unfold Bench.loopCommand; split <;> simp
@[simp] theorem Bench.setLane_ix (laneB : Bool) (l : Lane) (b : Bench) : (Bench.setLane laneB l b).ix = b.ix := rfl
@[simp] theorem Bench.quoinHard_ix (b : Bench) : (Bench.quoinHard b).ix = b.ix := by
  simp [Bench.quoinHard]
@[simp] theorem Bench.quoinRamp_ix (b : Bench) : (Bench.quoinRamp b).ix = b.ix := by
  simp [Bench.quoinRamp, apply_ite Bench.ix]
@[simp] theorem Bench.laneFault_ix (laneB : Bool) (bit : Nat) (b : Bench) : (Bench.laneFault laneB bit b).ix = b.ix := by
  simp only [Bench.laneFault]; (repeat' split) <;> simp
@[simp] theorem Bench.quoinFault_ix (bit : Nat) (b : Bench) : (Bench.quoinFault bit b).ix = b.ix := by
  simp [Bench.quoinFault]
@[simp] theorem Bench.laneRun_ix (laneB : Bool) (k : Nat) (fell : Bool) (b : Bench) : (Bench.laneRun laneB k fell b).ix = b.ix := by
  induction k generalizing fell b with
  | zero => rfl
  | succ k ih => unfold Bench.laneRun; (repeat' split) <;> simp [ih, apply_ite Bench.ix]
@[simp] theorem Bench.ossdFollow_ix (b : Bench) : (Bench.ossdFollow b).ix = b.ix := rfl
@[simp] theorem Bench.mirrorWrite_ix (b : Bench) : (b.mirrorWrite).ix = b.ix := by
  refine foldl_ix (fun b k => ?_) _ _
  (repeat' split) <;> simp
@[simp] theorem Bench.refSettle_ix (cal : Nat) (b : Bench) : (b.refSettle cal).ix = b.ix := by
  refine foldl_ix (fun b r => ?_) _ _
  exact quoinLog_ix ..
@[simp] theorem Bench.activate_ix (b : Bench) : (Bench.activate b).ix = b.ix := by
  simp [Bench.activate, apply_ite Bench.ix]
@[simp] theorem Bench.inputTrack_ix (laneB : Bool) (b : Bench) : (Bench.inputTrack laneB b).ix = b.ix := rfl
@[simp] theorem Bench.startupTrack_ix (b : Bench) : (Bench.startupTrack b).ix = b.ix := by
  unfold Bench.startupTrack; split <;> simp
@[simp] theorem Bench.pressTrack_ix (b : Bench) : (Bench.pressTrack b).ix = b.ix := rfl
@[simp] theorem Bench.demandEval_ix (b : Bench) : (Bench.demandEval b).ix = b.ix := by
  simp [Bench.demandEval, apply_ite Bench.ix]
@[simp] theorem Bench.noteOut_ix (b : Bench) : (Bench.noteOut b).ix = b.ix := rfl
@[simp] theorem Bench.laneBEval_ix (b : Bench) : (Bench.laneBEval b).ix = b.ix := by
  simp [Bench.laneBEval]
@[simp] theorem Bench.lanesEval_ix (b : Bench) : (Bench.lanesEval b).ix = b.ix := by
  simp [Bench.lanesEval]
@[simp] theorem Bench.quoinEval_ix (b : Bench) : (Bench.quoinEval b).ix = b.ix := by
  unfold Bench.quoinEval; split <;> simp
@[simp] theorem Bench.verifyFailed_ix (laneB : Bool) (ch : Nat) (b : Bench) : (Bench.verifyFailed laneB ch b).ix = b.ix := by
  simp [Bench.verifyFailed]
@[simp] theorem Bench.laneSample_ix (laneB : Bool) (si : BitVec 5) (b : Bench) : (Bench.laneSample laneB si b).ix = b.ix := by
  simp [Bench.laneSample, apply_ite Bench.ix]
@[simp] theorem Bench.windowsStart_ix (t2 : Bool) (start : Nat) (b : Bench) : (Bench.windowsStart t2 start b).ix = b.ix := rfl
@[simp] theorem Bench.toggle_ix (laneB : Bool) (b : Bench) : (Bench.toggle laneB b).ix = b.ix := by
  simp only [Bench.toggle]; (repeat' split) <;> simp
@[simp] theorem Bench.facePowerLoss_ix (b : Bench) : (Bench.facePowerLoss b).ix = b.ix := by
  simp [Bench.facePowerLoss]
@[simp] theorem Bench.discOf_ix (laneB : Bool) (i : Fin 2) (b : Bench) : (Bench.discOf laneB i b).ix = b.ix := by
  unfold Bench.discOf; split <;> simp
@[simp] theorem Bench.axisFunctions_ix (q : Fin 2) (b : Bench) : (Bench.axisFunctions q b).ix = b.ix := by
  unfold Bench.axisFunctions; (repeat' split) <;> simp
@[simp] theorem Bench.quoinTouch_ix (b : Bench) : (Bench.quoinTouch b).ix = b.ix := rfl
@[simp] theorem Bench.passwordWrong_ix (cal : Nat) (oper : BitVec 16) (b : Bench) : (Bench.passwordWrong cal oper b).ix = b.ix := rfl
@[simp] theorem Bench.safetyFlags_ix (b : Bench) : (b.safetyFlags).ix = b.ix := by
  unfold Bench.safetyFlags
  exact foldl_ix (fun _ _ => by rfl) _ _
@[simp] theorem Bench.quoinRestart_ix (b : Bench) : (Bench.quoinRestart b).ix = b.ix := by
  simp [Bench.quoinRestart]
@[simp] theorem Bench.faultsClear_ix (check : Bool) (b : Bench) : (Bench.faultsClear check b).ix = b.ix := rfl
@[simp] theorem Bench.pulsesSeen_ix (laneB : Bool) (off : BitVec 5) (b : Bench) : (Bench.pulsesSeen laneB off b).ix = b.ix := by
  simp [Bench.pulsesSeen, apply_ite Bench.ix]
@[simp] theorem Bench.quoinStart_ix (okA okB : Bool) (cal : Nat) (b : Bench) : (Bench.quoinStart okA okB cal b).ix = b.ix := by
  simp only [Bench.quoinStart]; (repeat' split) <;> simp
@[simp] theorem Bench.quoinEnter_ix (b : Bench) : (Bench.quoinEnter b).ix = b.ix := by
  simp [Bench.quoinEnter]
@[simp] theorem Bench.quoinWrite_ix (o : Nat) (v : Word) (b : Bench) : (Bench.quoinWrite o v b).ix = b.ix := by
  unfold Bench.quoinWrite; split <;> simp
@[simp] theorem Bench.claim_ix (n kind ix t : Nat) (b : Bench) : (Bench.claim n kind ix t b).2.ix = b.ix := by
  simp only [Bench.claim]; (repeat' split) <;> simp
@[simp] theorem Bench.outputTarget_ix (n t : Nat) (b : Bench) (g : Nat × Nat × Word) : (Bench.outputTarget n t b g).ix = b.ix := by
  simp only [Bench.outputTarget]; (repeat' split) <;> simp
@[simp] theorem Bench.otherTarget_ix (n t : Nat) (b : Bench) (g : Nat × Nat × Word) : (Bench.otherTarget n t b g).ix = b.ix := by
  simp only [Bench.otherTarget]; (repeat' split) <;> simp
@[simp] theorem Bench.outputTargets_ix (n : Fin 16) (t : Nat) (w : StepWords) (b : Bench) : (Bench.outputTargets n t w b).ix = b.ix := by
  simp [Bench.outputTargets]
@[simp] theorem Bench.otherTargets_ix (n : Fin 16) (t : Nat) (w : StepWords) (b : Bench) : (Bench.otherTargets n t w b).ix = b.ix := by
  simp [Bench.otherTargets]
@[simp] theorem Bench.recipeLate_ix (n : Fin 16) (t : Nat) (c : Cand) (b : Bench) : (Bench.recipeLate n t c b).ix = b.ix := by
  simp [Bench.recipeLate, apply_ite Bench.ix]
@[simp] theorem Bench.recipeCommit_ix (n : Fin 16) (t : Nat) (c : Option Cand) (b : Bench) : (Bench.recipeCommit n t c b).ix = b.ix := by
  unfold Bench.recipeCommit; (repeat' split) <;> simp
@[simp] theorem Bench.recipeLateCommit_ix (n : Fin 16) (t : Nat) (b : Bench) : (Bench.recipeLateCommit n t b).ix = b.ix := by
  simp [Bench.recipeLateCommit]
@[simp] theorem Bench.recipeLateAct_ix (n : Fin 16) (b : Bench) : (Bench.recipeLateAct n b).ix = b.ix := by
  simp [Bench.recipeLateAct]
@[simp] theorem Bench.recipeTick_ix (t : Nat) (n : Fin 16) (b : Bench) : (Bench.recipeTick t n b).ix = b.ix := by
  simp only [Bench.recipeTick]; (repeat' split) <;> simp
@[simp] theorem Bench.restartCommit_ix (n : Fin 16) (t : Nat) (b : Bench) : (Bench.restartCommit n t b).ix = b.ix := by
  simp only [Bench.restartCommit]; (repeat' split) <;> simp
@[simp] theorem Bench.recipeNotice_ix (n : Fin 16) (b : Bench) : (Bench.recipeNotice n b).ix = b.ix := by
  simp [Bench.recipeNotice]
@[simp] theorem Bench.boundaryTaken_ix (n : Fin 16) (t next : Nat) (b : Bench) : (Bench.boundaryTaken n t next b).ix = b.ix := by
  simp only [Bench.boundaryTaken]; (repeat' split) <;> simp
@[simp] theorem Bench.beginStep_ix (n : Fin 16) (t : Nat) (c : Cand) (st : RecipeState) (b : Bench) : (Bench.beginStep n t c st b).ix = b.ix := by
  simp only [Bench.beginStep]; (repeat' split) <;> simp
@[simp] theorem Bench.boundary_ix (n : Fin 16) (t : Nat) (c : Option Cand) (st : RecipeState) (b : Bench) : (Bench.boundary n t c st b).ix = b.ix := by
  unfold Bench.boundary; split <;> simp
@[simp] theorem Bench.takeBoundary_ix (n : Fin 16) (z : Nat) (b : Bench) : (Bench.takeBoundary n z b).ix = b.ix := by
  simp only [Bench.takeBoundary]; (repeat' split) <;> simp
@[simp] theorem Bench.conditionCheck_ix (n : Fin 16) (c : Nat) (b : Bench) : (Bench.conditionCheck n c b).ix = b.ix := by
  simp only [Bench.conditionCheck]; (repeat' split) <;> simp
@[simp] theorem Bench.recipeStart_ix (n : Fin 16) (b : Bench) : (Bench.recipeStart n b).ix = b.ix := by
  simp only [Bench.recipeStart]; (repeat' split) <;> simp
@[simp] theorem Bench.recipePause_ix (n : Fin 16) (b : Bench) : (Bench.recipePause n b).ix = b.ix := by
  simp only [Bench.recipePause]; (repeat' split) <;> simp
@[simp] theorem Bench.recipeRestart_ix (n : Fin 16) (b : Bench) : (Bench.recipeRestart n b).ix = b.ix := by
  simp only [Bench.recipeRestart]; (repeat' split) <;> simp
@[simp] theorem Bench.recipeResume_ix (n : Fin 16) (b : Bench) : (Bench.recipeResume n b).ix = b.ix := by
  simp only [Bench.recipeResume]; (repeat' split) <;> simp
@[simp] theorem Bench.recipeSkip_ix (n : Fin 16) (b : Bench) : (Bench.recipeSkip n b).ix = b.ix := by
  simp only [Bench.recipeSkip]; (repeat' split) <;> simp
@[simp] theorem Bench.recipeAbort_ix (n : Fin 16) (b : Bench) : (Bench.recipeAbort n b).ix = b.ix := by
  simp only [Bench.recipeAbort]; (repeat' split) <;> simp
@[simp] theorem Bench.eachRecipe_ix {f : Fin 16 → Bench → Bench} (h : ∀ n b, (f n b).ix = b.ix) (b : Bench) :
    (b.eachRecipe f).ix = b.ix := foldl_ix (fun b n => h n b) _ b
@[simp] theorem Bench.recipesHold_ix (z : Nat) (b : Bench) : (b.recipesHold z).ix = b.ix :=
  eachRecipe_ix (fun n b => by dsimp only; split <;> rfl) b
@[simp] theorem Bench.recipesRestart_ix (first : Nat) (b : Bench) : (b.recipesRestart first).ix = b.ix :=
  eachRecipe_ix (fun n b => by dsimp only; split <;> rfl) b
@[simp] theorem Bench.applyReached_ix (n : Fin 16) (r : Nat) (b : Bench) : (Bench.applyReached n r b).ix = b.ix := by
  simp [Bench.applyReached]
@[simp] theorem Bench.walkSteps_ix (n : Fin 16) (r f : Nat) (b : Bench) : (Bench.walkSteps n r f b).ix = b.ix := by
  induction f generalizing b with
  | zero => rfl
  | succ f ih =>
    unfold Bench.walkSteps
    dsimp only
    split
    · split
      · rw [boundaryTaken_ix, raise_ix]; rfl
      · rw [ih, boundaryTaken_ix]; rfl
    · rfl
@[simp] theorem Bench.recipesTakeover_ix (x : Nat) (b : Bench) : (b.recipesTakeover x).ix = b.ix := by
  refine eachRecipe_ix (fun n b => ?_) b
  dsimp only
  split
  · rfl
  · split
    · rw [applyReached_ix, setRecipe_ix, walkSteps_ix]
    · rw [setRecipe_ix, walkSteps_ix]
@[simp] theorem Bench.recipesIdle_ix (b : Bench) : (Bench.recipesIdle b).ix = b.ix := rfl
@[simp] theorem Bench.recipeCommand_ix {k : Fin 16 → Nat → Bool → Bench → Bench} (h : ∀ n z l b, (k n z l b).ix = b.ix)
    (i : Instr) (c : Cmd) (slot : Word) (at' : Nat) (late stepsOk : Bool) (states : RecipeState → Bool) (b : Bench) :
    (b.recipeCommand i c slot at' late stepsOk states k).ix = b.ix := by
  refine Bench.accept_ix (fun b => ?_) i c modesRun b
  dsimp only
  (repeat' split) <;> simp [h]
@[simp] theorem Bench.abortAll_ix (i : Instr) (c : Cmd) (at' : Nat) (late : Bool) (b : Bench) :
    (b.abortAll i c at' late).ix = b.ix := by
  refine accept_ix (fun b => ?_) i c modesRun b
  split
  · exact refuse_ix ..
  · split
    · exact refuse_ix ..
    · exact (complete_ix ..).trans (eachRecipe_ix (fun n b => by dsimp only; split <;> rfl) b)
@[simp] theorem Bench.custody_ix (b : Bench) : (Bench.custody b).ix = b.ix := by
  simp [Bench.custody]
@[simp] theorem Bench.toMode_ix (m : Mode) (b : Bench) : (Bench.toMode m b).ix = b.ix := rfl
@[simp] theorem Bench.modeEvent_ix (b : Bench) : (Bench.modeEvent b).ix = b.ix := by
  simp [Bench.modeEvent]
@[simp] theorem Bench.faultClass_ix (cls : Fin 4) (b : Bench) : (Bench.faultClass cls b).ix = b.ix := by
  unfold Bench.faultClass; split <;> simp
@[simp] theorem Bench.endHandover_ix (st : Status) (b : Bench) : (Bench.endHandover st b).ix = b.ix := by
  unfold Bench.endHandover; (repeat' split) <;> simp
@[simp] theorem Bench.leaveRun_ix (b : Bench) : (b.leaveRun).ix = b.ix := by
  unfold Bench.leaveRun
  dsimp only
  rw [schedStop_ix, endHandover_ix, cancelChange_ix, motionLeave_ix, loopsLeave_ix, digestLeave_ix, kerfLeave_ix]
@[simp] theorem Bench.leaveShadow_ix (b : Bench) : (Bench.leaveShadow b).ix = b.ix := rfl
@[simp] theorem Bench.enterHold_ix (cause : Word) (cls : Fin 4) (b : Bench) : (Bench.enterHold cause cls b).ix = b.ix := by
  simp only [Bench.enterHold]; (repeat' split) <;> simp
@[simp] theorem Bench.holdDefaults_ix (b : Bench) : (Bench.holdDefaults b).ix = b.ix := by
  unfold Bench.holdDefaults; split <;> simp
@[simp] theorem Bench.freshState_ix (b : Bench) : (Bench.freshState b).ix = b.ix := rfl
@[simp] theorem Bench.enterConfigure_ix (b : Bench) : (Bench.enterConfigure b).ix = b.ix := by
  simp only [Bench.enterConfigure]; (repeat' split) <;> simp
@[simp] theorem Bench.watchdogTrip_ix (task : Fin 16) (b : Bench) : (Bench.watchdogTrip task b).ix = b.ix := by
  simp [Bench.watchdogTrip]
@[simp] theorem Bench.guardLogAs_ix (mode : Word) (cal kind : Nat) (oper : BitVec 16) (stamp off : Nat) (before written : Word)
    (b : Bench) : (b.guardLogAs mode cal kind oper stamp off before written).ix = b.ix := by
  unfold Bench.guardLogAs
  rfl
@[simp] theorem Bench.guardLog_ix (cal kind : Nat) (oper : BitVec 16) (stamp off : Nat) (before written : Word) (b : Bench) :
    (b.guardLog cal kind oper stamp off before written).ix = b.ix := by
  rw [Bench.guardLog, guardLogAs_ix]
@[simp] theorem Bench.guardStore_ix (y : GuardBy) (mram : MramTry) (g : Nat) (l : List (Nat × Word)) (b : Bench) :
    (b.guardStore y mram g l).ix = b.ix := by
  unfold Bench.guardStore
  extract_lets logged reg
  have h : logged.ix = b.ix := by
    refine foldl_ix (fun b e => ?_) _ b
    exact guardLogAs_ix ..
  cases mram
  · exact h
  · rfl
  · exact h
@[simp] theorem Bench.guardWrite_ix (y : GuardBy) (mram : MramTry) (g off : Nat) (v : Word) (b : Bench) :
    (b.guardWrite y mram g off v).1.ix = b.ix := by
  unfold Bench.guardWrite
  dsimp only
  split
  · rfl
  · split
    · exact guardLogAs_ix ..
    · split
      · rfl
      · split <;> exact guardStore_ix ..
@[simp] theorem Bench.guardApply_ix (g off : Nat) (v : Word) (b : Bench) : (Bench.guardApply g off v b).ix = b.ix := by
  simp only [Bench.guardApply]; (repeat' split) <;> simp
@[simp] theorem Bench.guardEffect_ix (b : Bench) : (Bench.guardEffect b).ix = b.ix := by
  simp [Bench.guardEffect]
@[simp] theorem Bench.guardHeld_ix (cal : Nat) (b : Bench) : (Bench.guardHeld cal b).1.ix = b.ix := by
  simp [Bench.guardHeld]
@[simp] theorem Bench.guardStart_ix (okA okB : Bool) (cal : Nat) (oper : BitVec 16) (b : Bench) : (Bench.guardStart okA okB cal oper b).ix = b.ix := by
  simp only [Bench.guardStart]; (repeat' split) <;> simp
@[simp] theorem Bench.wake_ix (start : Nat) (b : Bench) : (Bench.wake start b).ix = b.ix := by
  simp [Bench.wake]
@[simp] theorem Bench.cancelAll_ix (b : Bench) : (Bench.cancelAll b).ix = b.ix := by
  simp [Bench.cancelAll]
@[simp] theorem Bench.resetTo_ix (start : Nat) (b : Bench) : (Bench.resetTo start b).ix = b.ix := by
  simp only [Bench.resetTo]; (repeat' split) <;> simp
@[simp] theorem Bench.loadImage_ix (b : Bench) : (Bench.loadImage b).ix = b.ix := by
  unfold Bench.loadImage; split <;> simp
@[simp] theorem Bench.resumeHold_ix (sn : Snapshot) (b : Bench) : (Bench.resumeHold sn b).ix = b.ix := rfl
@[simp] theorem Bench.leaveWake_ix (headerOk : Bool) (b : Bench) : (Bench.leaveWake headerOk b).ix = b.ix := by
  simp only [Bench.leaveWake]; (repeat' split) <;> simp
@[simp] theorem Bench.startUp_ix (cal : Nat) (oper : BitVec 16) (selftest : BitVec 5) (fwCurOk fwAltOk imgOk headerOk guardA guardB quoinA quoinB : Bool) (b : Bench) : (Bench.startUp cal oper selftest fwCurOk fwAltOk imgOk headerOk guardA guardB quoinA quoinB b).ix = b.ix := by
  simp only [Bench.startUp]; (repeat' split) <;> simp
@[simp] theorem Bench.noteLoad_ix (l : Nat × Nat) (b : Bench) : (Bench.noteLoad l b).ix = b.ix := rfl
@[simp] theorem Bench.copyCheck_ix (b : Bench) : (Bench.copyCheck b).2.ix = b.ix := by
  unfold Bench.copyCheck; split <;> simp
@[simp] theorem Bench.runMarks_ix (b : Bench) : (Bench.runMarks b).ix = b.ix := by
  simp [Bench.runMarks]
@[simp] theorem Bench.runRefusal_ix (b : Bench) : (Bench.runRefusal b).2.ix = b.ix := by
  simp only [Bench.runRefusal]; (repeat' split) <;> simp
@[simp] theorem Bench.shadowRefusal_ix (b : Bench) : (Bench.shadowRefusal b).2.ix = b.ix := by
  simp only [Bench.shadowRefusal]; (repeat' split) <;> simp
@[simp] theorem Bench.runFrom_ix (start : Nat) (b : Bench) : (Bench.runFrom start b).ix = b.ix := rfl
@[simp] theorem Bench.enterRun_ix (b : Bench) : (Bench.enterRun b).ix = b.ix := by
  simp [Bench.enterRun]
@[simp] theorem Bench.safeOutputs_ix (b : Bench) : (Bench.safeOutputs b).ix = b.ix := by
  simp [Bench.safeOutputs, apply_ite Bench.ix]
@[simp] theorem Bench.resumeRun_ix (start : Nat) (b : Bench) : (Bench.resumeRun start b).ix = b.ix := by
  simp [Bench.resumeRun]
@[simp] theorem Bench.enterShadow_ix (b : Bench) : (Bench.enterShadow b).ix = b.ix := by
  simp [Bench.enterShadow]
@[simp] theorem Bench.holdAfter_ix (b : Bench) : (Bench.holdAfter b).ix = b.ix := by
  simp only [Bench.holdAfter]; (repeat' split) <;> simp
@[simp] theorem Bench.finishRun_ix (tag : BitVec 16) (noirq : Bool) (warm : Option Nat) (b : Bench) : (Bench.finishRun tag noirq warm b).ix = b.ix := by
  simp only [Bench.finishRun]; (repeat' split) <;> simp
@[simp] theorem Bench.claimOrRun_ix (tag : BitVec 16) (noirq : Bool) (warm : Option Nat) (b : Bench) : (Bench.claimOrRun tag noirq warm b).ix = b.ix := by
  unfold Bench.claimOrRun; split <;> simp
@[simp] theorem Bench.decideClaim_ix (claim : Option Bool) (b : Bench) : (Bench.decideClaim claim b).ix = b.ix := by
  simp only [Bench.decideClaim]; (repeat' split) <;> simp
@[simp] theorem Bench.restartChecked_ix (fail rest : Nat) (b : Bench) : (b.restartChecked fail rest).ix = b.ix := by
  have refusal (toShadow : Bool) (b : Bench) : (if toShadow then b.shadowRefusal else b.runRefusal).2.ix = b.ix := by
    split <;> simp
  unfold Bench.restartChecked
  split
  next tag noirq toShadow since _ =>
    dsimp only
    split
    · exact completeTag_ix ..
    · split
      next he => exact (completeTag_ix ..).trans ((congrArg (fun r => r.2.ix) he).symm.trans (refusal ..))
      next u he =>
        have hu : u.ix = b.ix := (congrArg (fun r => r.2.ix) he).symm.trans (refusal ..)
        split
        · simp [hu]
        · simp [hu]
  · rfl
@[simp] theorem Bench.silence_ix (b : Bench) : (Bench.silence b).ix = b.ix := by
  simp only [Bench.silence]; (repeat' split) <;> simp
@[simp] theorem Bench.linkLoss_ix (b : Bench) : (Bench.linkLoss b).ix = b.ix := by
  simp [Bench.linkLoss, apply_ite Bench.ix]
@[simp] theorem Bench.setFreeImg_ix (i : Option Image) (b : Bench) : (Bench.setFreeImg i b).ix = b.ix := rfl
@[simp] theorem Bench.underConf_ix (i : Image) (b : Bench) : (Bench.underConf i b).ix = b.ix := rfl
@[simp] theorem Bench.noteLoadIf_ix (l : Nat × Nat) (b : Bench) : (Bench.noteLoadIf l b).ix = b.ix := by
  unfold Bench.noteLoadIf; split <;> simp
@[simp] theorem Bench.beginChange_ix (c : Cmd) (maxDefer : Nat) (old new : Image) (b : Bench) : (Bench.beginChange c maxDefer old new b).ix = b.ix := by
  simp only [Bench.beginChange]; (repeat' split) <;> simp
@[simp] theorem Bench.putAxis_ix (a c : Nat) (l : List Word) (b : Bench) : (Bench.putAxis a c l b).ix = b.ix := by
  simp only [Bench.putAxis]; (repeat' split) <;> simp
@[simp] theorem Bench.putRecipe_ix (n : Fin 16) (l : List Word) (b : Bench) : (Bench.putRecipe n l b).ix = b.ix := by
  simp only [Bench.putRecipe]; (repeat' split) <;> simp
@[simp] theorem Bench.putStation_ix (s : Nat) (l : List Word) (b : Bench) : (Bench.putStation s l b).ix = b.ix := rfl
@[simp] theorem Bench.sendItem_ix (bytes : Nat) (m : NalryMsg) (b : Bench) : (Bench.sendItem bytes m b).ix = b.ix := rfl
@[simp] theorem Bench.stageItem_ix (bytes : Nat) (m : NalryMsg) (b : Bench) : (Bench.stageItem bytes m b).ix = b.ix := by
  unfold Bench.stageItem; split <;> simp
@[simp] theorem Bench.sendPart_ix (b : Bench) : (Bench.sendPart b).ix = b.ix := rfl
@[simp] theorem Bench.sendSet_ix (k : Fin 16) (b : Bench) : (Bench.sendSet k b).ix = b.ix := by
  simp [Bench.sendSet]
@[simp] theorem Bench.copyPoint_ix (k : Fin 16) (b : Bench) : (Bench.copyPoint k b).ix = b.ix := by
  simp only [Bench.copyPoint]; (repeat' split) <;> simp
@[simp] theorem Bench.preload_ix (p : Nat) (e : Point) (b : Bench) : (Bench.preload p e b).ix = b.ix := rfl
@[simp] theorem Bench.commitPart_ix (p : EnginePart) (b : Bench) : (b.commitPart p).ix = b.ix := by
  unfold Bench.commitPart
  extract_lets b₁ b₂ b₃ b₄ b₅
  calc b₅.ix = b₄.ix := foldl_ix (fun _ _ => putStation_ix ..) _ b₄
    _ = b₃.ix := foldl_ix (fun b i => by dsimp only; split <;> simp) _ b₃
    _ = b₂.ix := foldl_ix (fun _ _ => putAxis_ix ..) _ b₂
    _ = b₁.ix := foldl_ix (fun _ _ => by rfl) _ b₁
    _ = b.ix := foldl_ix (fun b i => by dsimp only; split <;> simp) _ b
@[simp] theorem Bench.commitSet_ix (s : TaskSet) (b : Bench) : (Bench.commitSet s b).ix = b.ix := by
  simp only [Bench.commitSet]; (repeat' split) <;> simp
@[simp] theorem Bench.migrationDone_ix (m : Migration) (b : Bench) : (Bench.migrationDone m b).ix = b.ix := by
  unfold Bench.migrationDone; split <;> simp
@[simp] theorem Bench.migratePage_ix (b : Bench) : (Bench.migratePage b).ix = b.ix := by
  simp only [Bench.migratePage]; (repeat' split) <;> simp
@[simp] theorem Bench.becomeStale_ix (b : Bench) : (Bench.becomeStale b).ix = b.ix := by
  unfold Bench.becomeStale; split <;> simp
@[simp] theorem Bench.switched_ix (id : BitVec 64) (b : Bench) : (Bench.switched id b).ix = b.ix := by
  simp only [Bench.switched]; (repeat' split) <;> simp
@[simp] theorem Bench.alarms_ix (b : Bench) : (Bench.alarms b).ix = b.ix := by
  simp only [Bench.alarms]; (repeat' split) <;> simp
@[simp] theorem Bench.decide_ix (b : Bench) : (Bench.decide b).ix = b.ix := by
  simp only [Bench.decide]; (repeat' split) <;> simp
@[simp] theorem Bench.shadowSeen_ix (old : Option Heartbeat) (h : Heartbeat) (b : Bench) : (Bench.shadowSeen old h b).ix = b.ix := by
  simp only [Bench.shadowSeen]; (repeat' split) <;> simp
@[simp] theorem Bench.askFull_ix (b : Bench) : (Bench.askFull b).ix = b.ix := by
  unfold Bench.askFull; split <;> simp
@[simp] theorem Bench.shadowHears_ix (old : Option Heartbeat) (h : Heartbeat) (b : Bench) : (Bench.shadowHears old h b).ix = b.ix := by
  simp only [Bench.shadowHears]; (repeat' split) <;> simp
@[simp] theorem Bench.heartbeat_ix (h : Heartbeat) (same : Bool) (b : Bench) : (Bench.heartbeat h same b).ix = b.ix := by
  simp only [Bench.heartbeat]; (repeat' split) <;> simp
@[simp] theorem Bench.bothLost_ix (b : Bench) : (Bench.bothLost b).ix = b.ix := by
  unfold Bench.bothLost; split <;> simp
@[simp] theorem Bench.nalryLost_ix (b : Bench) : (Bench.nalryLost b).ix = b.ix := by
  simp only [Bench.nalryLost]; (repeat' split) <;> simp
@[simp] theorem Bench.tallyLost_ix (b : Bench) : (Bench.tallyLost b).ix = b.ix := by
  unfold Bench.tallyLost; split <;> simp
@[simp] theorem Bench.custody'_ix (level : Bool) (b : Bench) : (Bench.custody' level b).ix = b.ix := by
  simp only [Bench.custody']; (repeat' split) <;> simp
@[simp] theorem Bench.takeover_ix (b : Bench) : (Bench.takeover b).ix = b.ix := by
  unfold Bench.takeover; split <;> simp
@[simp] theorem Bench.drivePreload_ix (x : Nat) (b : Bench) : (b.drivePreload x).ix = b.ix := by
  refine foldl_ix (fun b e => ?_) _ b
  dsimp only
  split
  · exact faceDrive_ix ..
  · rfl
@[simp] theorem Bench.emptyForRun_ix (b : Bench) : (Bench.emptyForRun b).ix = b.ix := by
  simp only [Bench.emptyForRun]; (repeat' split) <;> simp
@[simp] theorem Bench.disarmAxes_ix (b : Bench) : (Bench.disarmAxes b).ix = b.ix := rfl
@[simp] theorem Bench.driveFrom_ix (x : Nat) (ho : Bool) (b : Bench) : (Bench.driveFrom x ho b).ix = b.ix := by
  simp [Bench.driveFrom]
@[simp] theorem Bench.driveMoment_ix (b : Bench) : (Bench.driveMoment b).ix = b.ix := by
  unfold Bench.driveMoment; (repeat' split) <;> simp
@[simp] theorem Bench.handoverAck_ix (b : Bench) : (Bench.handoverAck b).ix = b.ix := by
  unfold Bench.handoverAck; (repeat' split) <;> simp
@[simp] theorem Bench.commitFull_ix (f : FullCopy) (b : Bench) : (Bench.commitFull f b).ix = b.ix := by
  simp [Bench.commitFull]
@[simp] theorem Bench.laneError_ix (b : Bench) : (Bench.laneError b).ix = b.ix := by
  simp [Bench.laneError]
@[simp] theorem Bench.handoverDefer_ix (h : Handover) (b : Bench) : (Bench.handoverDefer h b).ix = b.ix := by
  simp only [Bench.handoverDefer]; (repeat' split) <;> simp
@[simp] theorem Bench.handoverTest_ix (b : Bench) : (Bench.handoverTest b).ix = b.ix := by
  simp only [Bench.handoverTest]; (repeat' split) <;> simp
@[simp] theorem Bench.handOver_ix (h : Handover) (x : Nat) (b : Bench) : (Bench.handOver h x b).ix = b.ix := by
  unfold Bench.handOver; split <;> simp
@[simp] theorem Bench.ackSeen_ix (b : Bench) : (Bench.ackSeen b).ix = b.ix := by
  unfold Bench.ackSeen; (repeat' split) <;> simp
@[simp] theorem Bench.notice_ix (n : Notice) (b : Bench) : (Bench.notice n b).ix = b.ix := by
  simp only [Bench.notice]; (repeat' split) <;> simp
@[simp] theorem Bench.writeNlCfg_ix (v : Word) (b : Bench) : (Bench.writeNlCfg v b).ix = b.ix := by
  unfold Bench.writeNlCfg; split <;> simp
@[simp] theorem Bench.fnReset_ix (b : Bench) : (Bench.fnReset b).ix = b.ix := rfl
@[simp] theorem Bench.moduleReset_ix (start : Nat) (b : Bench) : (Bench.moduleReset start b).ix = b.ix := by
  simp [Bench.moduleReset]
@[simp] theorem Bench.confWrite_ix (off : Nat) (mask v : Word) (b : Bench) : (Bench.confWrite off mask v b).ix = b.ix := by
  unfold Bench.confWrite; (repeat' split) <;> simp
@[simp] theorem Bench.setLow_ix (off : Nat) (v : Option Word) (b : Bench) : (Bench.setLow off v b).ix = b.ix := rfl
@[simp] theorem Bench.pointWrite_ix (off : Nat) (v : Word) (b : Bench) : (Bench.pointWrite off v b).ix = b.ix := by
  unfold Bench.pointWrite; (repeat' split) <;> simp
@[simp] theorem Bench.forceWrite_ix (off : Nat) (v : Word) (b : Bench) : (Bench.forceWrite off v b).ix = b.ix := by
  unfold Bench.forceWrite; (repeat' split) <;> simp
@[simp] theorem Bench.enableQueue_ix (q : Fin 4) (v : Word) (b : Bench) : (Bench.enableQueue q v b).ix = b.ix := by
  simp only [Bench.enableQueue]; (repeat' split) <;> simp
@[simp] theorem Bench.disableQueue_ix (q : Fin 4) (v : Word) (b : Bench) : (Bench.disableQueue q v b).ix = b.ix := rfl
@[simp] theorem Bench.writeQcCtrl_ix (q : Fin 4) (v : Word) (b : Bench) : (Bench.writeQcCtrl q v b).ix = b.ix := by
  simp only [Bench.writeQcCtrl]; (repeat' split) <;> simp
@[simp] theorem Bench.queueWrite_ix (o : Nat) (v : Word) (b : Bench) : (b.queueWrite o v).ix = b.ix := by
  unfold Bench.queueWrite
  extract_lets q x
  split
  · split
    · rfl
    · exact setLow_ix ..
  · split
    · rfl
    · exact setLow_ix ..
  · split <;> rfl
  · exact writeQcCtrl_ix q v b
  · rfl
@[simp] theorem Bench.inConfigure_ix {f : Bench → Bench} (h : ∀ b, (f b).ix = b.ix) (b : Bench) :
    (b.inConfigure f).ix = b.ix := by
  simp [Bench.inConfigure, apply_ite Bench.ix, h]
@[simp] theorem Bench.bnWrite_ix (off : Nat) (v : Word) (b : Bench) : (b.bnWrite off v).ix = b.ix := by
  unfold Bench.bnWrite
  split
  · exact inConfigure_ix (fun _ => by rfl) b
  · exact inConfigure_ix (fun b => by split <;> rfl) b
  · exact writeDramCapture_ix v b
  · rfl
@[simp] theorem Bench.digestWrite_ix (o : Nat) (v : Word) (b : Bench) : (b.digestWrite o v).ix = b.ix := by
  unfold Bench.digestWrite
  split
  · exact inConfigure_ix (fun _ => by rfl) b
  · split
    · exact inConfigure_ix (fun _ => by rfl) b
    · rfl
@[simp] theorem Bench.stickyWrite_ix (o : Nat) (v : Word) (b : Bench) : (Bench.stickyWrite o v b).ix = b.ix := by
  unfold Bench.stickyWrite; split <;> simp
@[simp] theorem Bench.write_ix (off : Nat) (v : Word) (b : Bench) : (b.write off v).ix = b.ix := by
  unfold Bench.write
  split
  · rfl
  · split
    · exact confWrite_ix ..
    · have health : (b.inConfigure fun b => b.setHealth fun h => { h with cfg := v &&& 0x7FF }).ix = b.ix :=
        inConfigure_ix (fun _ => by rfl) b
      have haul : (b.inConfigure fun b => { b with ha := { b.ha with etype := v &&& 0xFFFF } }).ix = b.ix :=
        inConfigure_ix (fun _ => by rfl) b
      simp only [apply_ite Bench.ix, health, haul, bnWrite_ix, writePaceLim_ix, writePaceRest_ix, writeScCtrl_ix, writeScQcfg_ix,
        writeScFlow_ix, stickyWrite_ix, quoinWrite_ix, kerfWrite_ix, digestWrite_ix, setCan_ix, writeNlCfg_ix, writeFqCfg_ix,
        writeFqSpill_ix, queueWrite_ix, pointWrite_ix, forceWrite_ix, ite_self]
@[simp] theorem Bench.holdPoint_ix (p : Nat) (b : Bench) : (Bench.holdPoint p b).ix = b.ix := rfl
@[simp] theorem Bench.holdRun_ix (slot : Fin 16) (b : Bench) : (Bench.holdRun slot b).ix = b.ix := rfl
@[simp] theorem Bench.bedrockHold_ix (cls : Fin 4) (off : Bool) (b : Bench) : (Bench.bedrockHold cls off b).ix = b.ix := by
  unfold Bench.bedrockHold; (repeat' split) <;> simp
@[simp] theorem Bench.recordFault_ix (k : Fin 4) (cause code addr : Nat) (b : Bench) : (Bench.recordFault k cause code addr b).ix = b.ix := by
  unfold Bench.recordFault; split <;> simp
@[simp] theorem Bench.dropResult_ix (i : Item) (b : Bench) : (Bench.dropResult i b).ix = b.ix := rfl
@[simp] theorem Bench.coreFault_ix (k : Fin 4) (cause code addr : Nat) (b : Bench) : (Bench.coreFault k cause code addr b).ix = b.ix := by
  simp only [Bench.coreFault]; (repeat' split) <;> simp
@[simp] theorem Bench.access_ix {f : Nat → Bench} {b : Bench} (h : ∀ a, (f a).ix = b.ix) (k : Fin 4) (x : Access) :
    (b.access k x f).ix = b.ix := by
  cases x <;> simp [Bench.access, h]
@[simp] theorem Bench.loadAt_ix (k : Fin 4) (c : Core) (f : Fin 3) (d : Reg) (x : Access) (b : Bench) :
    (b.loadAt k c f d x).ix = b.ix := access_ix (fun _ => by rfl) k x
@[simp] theorem Bench.storeAt_ix (k : Fin 4) (c : Core) (f : Fin 3) (d : Reg) (x : Access) (b : Bench) :
    (b.storeAt k c f d x).ix = b.ix := access_ix (fun _ => by rfl) k x
@[simp] theorem Bench.slotDone_ix (n : Fin 64) (b : Bench) : (Bench.slotDone n b).ix = b.ix := by
  simp only [Bench.slotDone]; (repeat' split) <;> simp
@[simp] theorem Bench.endRun_ix (k : Fin 4) (c : Core) (b : Bench) : (Bench.endRun k c b).ix = b.ix := by
  unfold Bench.endRun; (repeat' split) <;> simp
@[simp] theorem Bench.result_ix (k : Fin 4) (d : Reg) (rc : Word) (b : Bench) : (Bench.result k d rc b).ix = b.ix := rfl
@[simp] theorem Bench.hold_ix (k : Fin 4) (d : Reg) (i : Item) (e : Effect) (b : Bench) : (Bench.hold k d i e b).ix = b.ix := by
  unfold Bench.hold; split <;> simp
@[simp] theorem Bench.fwr_ix (k : Fin 4) (c : Core) (d : Reg) (n : Fin 32) (w : Word) (eop : Bool) (b : Bench) : (Bench.fwr k c d n w eop b).ix = b.ix := by
  simp only [Bench.fwr]; (repeat' split) <;> simp
@[simp] theorem Bench.frd_ix (k : Fin 4) (c : Core) (d a : Reg) (n : Fin 32) (b : Bench) : (Bench.frd k c d a n b).ix = b.ix := by
  simp only [Bench.frd]; (repeat' split) <;> simp
@[simp] theorem Bench.ptw_ix (k : Fin 4) (c : Core) (d : Reg) (v : Word) (p : Nat) (own : Bool) (b : Bench) : (Bench.ptw k c d v p own b).ix = b.ix := by
  unfold Bench.ptw; (repeat' split) <;> simp
@[simp] theorem Bench.clearSticky_ix (c : Core) (m : Word) (b : Bench) : (Bench.clearSticky c m b).ix = b.ix := by
  unfold Bench.clearSticky; split <;> simp
@[simp] theorem Bench.doorbellSeen_ix (b : Bench) : (Bench.doorbellSeen b).ix = b.ix := rfl
@[simp] theorem Bench.doorbell_ix (q : Fin 4) (v : Word) (b : Bench) : (Bench.doorbell q v b).ix = b.ix := by
  simp only [Bench.doorbell]; (repeat' split) <;> simp
@[simp] theorem Bench.take_ix (p : Packet) (b : Bench) : (Bench.take p b).ix = b.ix := by
  simp only [Bench.take]; (repeat' split) <;> simp
@[simp] theorem Bench.dropReady_ix (r : StreamReady) (b : Bench) : (Bench.dropReady r b).ix = b.ix := by
  unfold Bench.dropReady; split <;> simp
@[simp] theorem Bench.writePad_ix (units : Nat) (b : Bench) : (Bench.writePad units b).ix = b.ix := rfl
@[simp] theorem Bench.writeRecord_ix (r : StreamReady) (body : List Word) (units : Nat) (b : Bench) : (Bench.writeRecord r body units b).ix = b.ix := by
  simp only [Bench.writeRecord]; (repeat' split) <;> simp
@[simp] theorem Bench.streamWrite_ix (b : Bench) : (Bench.streamWrite b).ix = b.ix := by
  simp only [Bench.streamWrite]; (repeat' split) <;> simp
@[simp] theorem Bench.coalesced_ix (q : Fin 4) (v : Nat) (b : Bench) : (Bench.coalesced q v b).ix = b.ix := by
  simp only [Bench.coalesced]; (repeat' split) <;> simp
@[simp] theorem Bench.fwLoaded_ix (c : Cmd) (version : Word) (good : Bool) (b : Bench) : (Bench.fwLoaded c version good b).ix = b.ix := by
  unfold Bench.fwLoaded; split <;> simp

end Sys2Proof.Machine
end

section
/-!
# What every command and event keeps

Each row of the table is answered with a next state that keeps the queue, the closed sessions and the indices, and changes
no bench but its own (`exec_answered`).  O56, O57 and O58 follow.
-/

namespace Sys2Proof.Machine

/-- What every command and event keeps: the queue, the closed sessions, the index of every bench, and, where it acts on one
bench, every other bench. -/
structure Orderly (only : Option BenchIx) (s u : State) : Prop where
  queue : u.pending = s.pending
  sessions : s.SessionsClosed → u.SessionsClosed
  index : ∀ m, (u.bench m).ix = (s.bench m).ix
  others : ∀ n, only = some n → ∀ m, m ≠ n → u.bench m = s.bench m

namespace Orderly
variable {only : Option BenchIx} {s u v : State}

theorem refl : Orderly only s s := ⟨rfl, id, fun _ => rfl, fun _ _ _ _ => rfl⟩

theorem trans (h : Orderly only s u) (g : Orderly only u v) : Orderly only s v :=
  ⟨g.queue.trans h.queue, g.sessions ∘ h.sessions, fun m => (g.index m).trans (h.index m),
    fun n e m hm => (g.others n e m hm).trans (h.others n e m hm)⟩

/-- A change of the hub alone. -/
theorem hub (h : Orderly only s u) (x : Hub) : Orderly only s { u with hub := x } :=
  ⟨h.queue, h.sessions, h.index, h.others⟩

theorem putBench {n : BenchIx} {b : Bench} (h : b.ix = (s.bench n).ix) : Orderly (some n) s (s.putBench n b) where
  queue := s.putBench_pending n b
  sessions := s.putBench_sessions n b
  index m := by
    by_cases e : m = n
    · rw [e, s.putBench_ix, h]
    · rw [s.putBench_other n b e]
  others k e m hm := by
    obtain rfl : n = k := Option.some.inj e
    exact s.putBench_other n b hm

theorem anywhere (h : Orderly only s u) : Orderly none s u :=
  ⟨h.queue, h.sessions, h.index, fun _ e => nomatch e⟩

theorem foldl {α : Type} {f : State → α → State} (h : ∀ s a, Orderly only s (f s a)) (l : List α) :
    Orderly only s (l.foldl f s) := by
  induction l generalizing s with
  | nil => exact refl
  | cons a l ih => exact (h s a).trans ih

theorem mapBenches {f : Bench → Bench} (h : ∀ b, (f b).ix = b.ix) : Orderly none s (s.mapBenches f) :=
  foldl (fun _ _ => (putBench (h _)).anywhere) _

end Orderly

/-- A command or event is answered with a next state that keeps what is to be kept. -/
def AnsweredIn (only : Option BenchIx) (s : State) (o : Host.Outcome State Fault Refusal) : Prop :=
  ∃ u, o = .next u ∧ Orderly only s u

theorem Orderly.answered {only : Option BenchIx} {s u : State} (h : Orderly only s u) : AnsweredIn only s (.next u) := ⟨u, rfl, h⟩

theorem onBench_answered {n : BenchIx} {s : State} {f : Bench → Bench} (h : ∀ b, (f b).ix = b.ix) :
    AnsweredIn (some n) s (s.onBench n f) := (Orderly.putBench (h _)).answered

/-- A Coith instruction keeps what its operation keeps: where its read fails, the core faults. -/
theorem onCore_answered {k : CoreRef} {i : Instr} {s : State} {f : Core → Bench → Bench} (h : ∀ c b, (f c b).ix = b.ix) :
    AnsweredIn (some k.bench) s (s.onCore k i f) := by
  refine onBench_answered fun b => ?_
  split
  · split
    · exact Bench.coreFault_ix ..
    · exact h ..
  · rfl

theorem coreOp_answered {k : CoreRef} {i : Instr} {s : State} {f : Core → Core} : AnsweredIn (some k.bench) s (s.coreOp k i f) :=
  onCore_answered fun _ _ => by rfl


theorem AnsweredIn.anywhere {only : Option BenchIx} {s : State} {o : Host.Outcome State Fault Refusal} (h : AnsweredIn only s o) :
    AnsweredIn none s o := by
  obtain ⟨u, e, hu⟩ := h
  exact ⟨u, e, hu.anywhere⟩

/-! ### Operations of the module -/

namespace Orderly
variable {only : Option BenchIx} {s : State}

theorem onFn {fn : FnIx} {f : Fn → Fn} : Orderly none s (s.onFn fn f) := by
  unfold State.onFn
  split
  · exact refl.hub _
  · exact (putBench (by rfl)).anywhere

theorem unsupported {fn : FnIx} {write : Bool} : Orderly none s (s.unsupported fn write) := onFn.hub _

theorem hostRead {fn : FnIx} {off : Nat} : Orderly none s (s.hostRead fn off) := by
  unfold State.hostRead
  split
  · exact unsupported
  · dsimp only
    split
    · exact (putBench (Bench.holdPoint_ix ..)).anywhere
    · split
      · exact (putBench (Bench.holdRun_ix ..)).anywhere
      · exact onFn

theorem guardLogAll {kind : Nat} {oper : BitVec 16} : Orderly none s (s.guardLogAll kind oper) :=
  foldl (fun _ _ => (putBench (Bench.guardLog_ix ..)).anywhere) _

theorem closeSession {kind bit : Nat} : Orderly none s (s.closeSession kind bit) := by
  unfold State.closeSession
  split
  · exact refl
  · exact (guardLogAll.trans (mapBenches fun _ => by rfl)).hub _

theorem fn0Reset : Orderly none s s.fn0Reset := closeSession.hub _

theorem fnResetAll : Orderly none s s.fnResetAll := fn0Reset.trans (mapBenches fun _ => Bench.fnReset_ix _)

theorem mboxDone {tag : BitVec 16} {st : Status} {r : Nat} : Orderly only s (s.mboxDone tag st r) := refl.hub _

theorem syncLost : Orderly none s s.syncLost := by
  unfold State.syncLost
  dsimp only
  split
  · exact (refl.hub _).trans (mapBenches fun _ => Bench.raise_ix ..)
  · exact refl

theorem timeSet {c : Cmd} {v : Nat} : Orderly none s (s.timeSet c v) := by
  unfold State.timeSet
  refine (Orderly.trans (refl.hub _) (mapBenches fun b => ?_)).trans (putBench ?_).anywhere
  · split <;> rfl
  · exact (Bench.complete_ix ..).trans (Bench.railTaken_ix ..)

theorem hubIf {c : Prop} [Decidable c] {x : Hub} : Orderly only s (if c then { s with hub := x } else s) := by
  split
  · exact refl.hub _
  · exact refl

theorem calendarWrite {v : Word} : Orderly only s (s.calendarWrite v) := by
  unfold State.calendarWrite
  split
  · exact refl
  · exact refl.hub _

theorem mgWrite {off : Nat} {v : Word} : Orderly only s (s.mgWrite off v) := by
  unfold State.mgWrite
  dsimp only
  split
  · split <;> exact refl.hub _
  · split
    case h_3 | h_5 | h_6 => exact hubIf
    case h_7 => exact calendarWrite
    case h_12 => exact refl
    all_goals exact refl.hub _

theorem bedrockMask {op : Nat} {mask noResp : BitVec 16} {f : Bench → Bench} (h : ∀ b, (f b).ix = b.ix) :
    Orderly none s (s.bedrockMask op mask noResp f) := by
  unfold State.bedrockMask
  dsimp only
  split
  · exact refl
  · split
    · exact refl.hub _
    · exact (foldl (fun _ _ => (putBench (h _)).anywhere) _).hub _

theorem bedrockOne {op : Nat} {n : BenchIx} {noResp : BitVec 16} {f : State → State × Nat}
    (h : ∀ s, Orderly only s (f s).1) : Orderly only s (s.bedrockOne op n noResp f) := by
  unfold State.bedrockOne
  dsimp only
  split
  · exact refl
  · split
    · exact (h s).hub _
    · exact refl.hub _

end Orderly

theorem mailed_answered {i : Instr} {k : State → State} {s : State} (h : ∀ s, Orderly none s (k s)) :
    AnsweredIn none s (s.mailed i k) := by
  unfold State.mailed
  split
  · exact (h s).answered
  · exact Orderly.refl.answered

theorem AnsweredIn.of_some {only : Option BenchIx} {s : State} {o o' : Host.Outcome State Fault Refusal} (h : AnsweredIn only s o)
    (e : some o = some o') : AnsweredIn none s o' := Option.some.inj e ▸ h.anywhere

/-- A firmware load begins where none runs. -/
theorem acceptFw_start_ix {i : Instr} {c : Cmd} {k : Bench → Bench} (h : ∀ b, (k b).ix = b.ix) (b : Bench) :
    (b.acceptFw i c fun b => if b.bn.fwRun.isSome then b.refuse c .busy else k b).ix = b.ix := by
  refine Bench.acceptFw_ix (fun b => ?_) ..
  split <;> simp [h]

theorem execBenchRun_answered (c : Cmd) (s : State) :
    AnsweredIn (some c.bench) s (execBenchRun c s) := by
  refine onBench_answered fun b => Bench.accept_ix (fun b => ?_) ..
  dsimp only
  (repeat' split) <;> simp
theorem execBenchShadow_answered (c : Cmd) (s : State) :
    AnsweredIn (some c.bench) s (execBenchShadow c s) := by
  refine onBench_answered fun b => Bench.accept_ix (fun b => ?_) ..
  have h := b.shadowRefusal_ix
  split
  · exact Bench.refuse_ix ..
  · split
    next he => rw [he] at h; exact (Bench.refuse_ix ..).trans h
    next he => rw [he] at h; simpa using h
theorem execBenchHold_answered (c : Cmd) (s : State) :
    AnsweredIn (some c.bench) s (execBenchHold c s) := onBench_answered fun _ => by simp
theorem execBenchWarmRestart_answered (c : Cmd) (target : Word) (s : State) :
    AnsweredIn (some c.bench) s (execBenchWarmRestart c target s) := onBench_answered fun _ => by simp [apply_ite Bench.ix]
theorem execBenchColdStart_answered (c : Cmd) (s : State) :
    AnsweredIn (some c.bench) s (execBenchColdStart c s) := onBench_answered fun _ => by simp [apply_ite Bench.ix]
theorem execBenchStop_answered (c : Cmd) (s : State) :
    AnsweredIn (some c.bench) s (execBenchStop c s) := onBench_answered fun _ => by simp
theorem execBenchReset_answered (c : Cmd) (s : State) :
    AnsweredIn (some c.bench) s (execBenchReset c s) := onBench_answered fun _ => by simp
theorem execHostKeepalive_answered (c : Cmd) (s : State) :
    AnsweredIn (some c.bench) s (execHostKeepalive c s) := onBench_answered fun _ => by simp
theorem execProgLoad_answered (c : Cmd) (img : Image) (s : State) :
    AnsweredIn (some c.bench) s (execProgLoad c img s) := onBench_answered fun _ => by simp [apply_ite Bench.ix]
theorem execProgActivate_answered (c : Cmd) (s : State) :
    AnsweredIn (some c.bench) s (execProgActivate c s) := by
  refine onBench_answered fun b => Bench.accept_ix (fun b => ?_) ..
  dsimp only
  (repeat' split) <;> simp
theorem execProgChange_answered (c : Cmd) (ack maxDefer : Word) (s : State) :
    AnsweredIn (some c.bench) s (execProgChange c ack maxDefer s) := by
  refine onBench_answered fun b => Bench.accept_ix (fun b => ?_) ..
  dsimp only
  (repeat' split) <;> simp
theorem execProgChangeAbort_answered (c : Cmd) (s : State) :
    AnsweredIn (some c.bench) s (execProgChangeAbort c s) := by
  refine onBench_answered fun b => Bench.accept_ix (fun b => ?_) ..
  (repeat' split) <;> simp
theorem execProgSetTiming_answered (c : Cmd) (task p ph off d g : Word) (s : State) :
    AnsweredIn (some c.bench) s (execProgSetTiming c task p ph off d g s) := by
  refine onBench_answered fun b => Bench.accept_ix (fun b => ?_) ..
  dsimp only
  (repeat' split) <;> simp
theorem execForceSet_answered (c : Cmd) (point value : Word) (s : State) :
    AnsweredIn (some c.bench) s (execForceSet c point value s) := by
  refine onBench_answered fun b => Bench.accept_ix (fun b => ?_) ..
  dsimp only
  (repeat' split) <;> simp
theorem execForceClear_answered (c : Cmd) (point : Word) (s : State) :
    AnsweredIn (some c.bench) s (execForceClear c point s) := onBench_answered fun _ => by simp [apply_ite Bench.ix]
theorem execLoopSetMode_answered (c : Cmd) (w : Word) (s : State) :
    AnsweredIn (some c.bench) s (execLoopSetMode c w s) := onBench_answered fun _ => by simp
theorem execLoopSetSp_answered (c : Cmd) (w sp : Word) (s : State) :
    AnsweredIn (some c.bench) s (execLoopSetSp c w sp s) := onBench_answered fun _ => by simp
theorem execLoopSetOut_answered (c : Cmd) (w out : Word) (s : State) :
    AnsweredIn (some c.bench) s (execLoopSetOut c w out s) := onBench_answered fun _ => by simp
theorem execLoopTune_answered (c : Cmd) (w v0 v1 v2 v3 v4 v5 v6 : Word) (s : State) :
    AnsweredIn (some c.bench) s (execLoopTune c w v0 v1 v2 v3 v4 v5 v6 s) := onBench_answered fun _ => by simp
theorem execLoopSetTable_answered (c : Cmd) (w : Word) (data : List Word) (s : State) :
    AnsweredIn (some c.bench) s (execLoopSetTable c w data s) := by
  refine onBench_answered fun b => Bench.accept_ix (fun b => ?_) ..
  dsimp only
  split
  · exact Bench.refuse_ix ..
  · exact (Bench.complete_ix ..).trans (foldl_ix (fun _ _ => by rfl) _ b)
theorem execLoopClear_answered (c : Cmd) (w : Word) (s : State) :
    AnsweredIn (some c.bench) s (execLoopClear c w s) := by
  refine onBench_answered fun b => Bench.accept_ix (fun b => ?_) ..
  split
  · exact (Bench.complete_ix ..).trans (foldl_ix (fun _ _ => Bench.loopWaits_ix ..) _ b)
  · exact Bench.loopCommand_ix ..
theorem execRcpLoadSteps_answered (c : Cmd) (first count : Word) (entries : List (List Word)) (s : State) :
    AnsweredIn (some c.bench) s (execRcpLoadSteps c first count entries s) := by
  refine onBench_answered fun b => Bench.accept_ix (fun b => ?_) ..
  dsimp only
  (repeat' split) <;> simp
theorem execRcpStart_answered (c : Cmd) (slot first abort lo hi flags : Word) (s : State) :
    AnsweredIn (some c.bench) s (execRcpStart c slot first abort lo hi flags s) := by
  refine onBench_answered fun b => Bench.accept_ix (fun b => ?_) ..
  dsimp only
  (repeat' split) <;> simp
theorem execRcpPause_answered (c : Cmd) (slot lo hi late : Word) (s : State) :
    AnsweredIn (some c.bench) s (execRcpPause c slot lo hi late s) := by
  refine onBench_answered fun b => Bench.accept_ix (fun b => ?_) ..
  dsimp only
  (repeat' split) <;> simp
theorem execRcpResume_answered (c : Cmd) (slot lo hi late : Word) (s : State) :
    AnsweredIn (some c.bench) s (execRcpResume c slot lo hi late s) := by
  refine onBench_answered fun b => Bench.accept_ix (fun b => ?_) ..
  dsimp only
  (repeat' split) <;> simp
theorem execRcpSkip_answered (c : Cmd) (slot step lo hi late : Word) (s : State) :
    AnsweredIn (some c.bench) s (execRcpSkip c slot step lo hi late s) := by
  refine onBench_answered fun b => Bench.accept_ix (fun b => ?_) ..
  dsimp only
  (repeat' split) <;> simp
theorem execRcpAbort_answered (c : Cmd) (slot lo hi late : Word) (s : State) :
    AnsweredIn (some c.bench) s (execRcpAbort c slot lo hi late s) := by
  refine onBench_answered fun b => ?_
  split
  · exact Bench.abortAll_ix ..
  · exact Bench.recipeCommand_ix (fun _ _ _ _ => by rfl) ..
theorem execMxMove_answered (c : Cmd) (w target lo hi : Word) (s : State) :
    AnsweredIn (some c.bench) s (execMxMove c w target lo hi s) := onBench_answered fun _ => by simp [apply_ite Bench.ix]
theorem execMxJog_answered (c : Cmd) (w lo hi : Word) (s : State) :
    AnsweredIn (some c.bench) s (execMxJog c w lo hi s) := onBench_answered fun _ => by simp [apply_ite Bench.ix]
theorem execMxSetDyn_answered (c : Cmd) (w vmax acc dec : Word) (s : State) :
    AnsweredIn (some c.bench) s (execMxSetDyn c w vmax acc dec s) := onBench_answered fun _ => by simp [apply_ite Bench.ix]
theorem execMxStop_answered (c : Cmd) (w : Word) (s : State) :
    AnsweredIn (some c.bench) s (execMxStop c w s) := onBench_answered fun _ => by simp [apply_ite Bench.ix]
theorem execMxHome_answered (c : Cmd) (w lo hi : Word) (s : State) :
    AnsweredIn (some c.bench) s (execMxHome c w lo hi s) := onBench_answered fun _ => by simp [apply_ite Bench.ix]
theorem execMxSetPos_answered (c : Cmd) (w p : Word) (s : State) :
    AnsweredIn (some c.bench) s (execMxSetPos c w p s) := onBench_answered fun _ => by simp
theorem execMxClear_answered (c : Cmd) (w : Word) (s : State) :
    AnsweredIn (some c.bench) s (execMxClear c w s) := by
  refine onBench_answered fun b => Bench.accept_ix (fun b => ?_) ..
  dsimp only
  split
  · exact Bench.refuse_ix ..
  · split
    · exact Bench.refuse_ix ..
    · exact (Bench.complete_ix ..).trans (foldl_ix (fun _ _ => by rfl) _ b)
theorem execFaceFaultClear_answered (c : Cmd) (s : State) :
    AnsweredIn (some c.bench) s (execFaceFaultClear c s) := onBench_answered fun _ => by simp
theorem execFaceEncSet_answered (c : Cmd) (w count lo hi : Word) (s : State) :
    AnsweredIn (some c.bench) s (execFaceEncSet c w count lo hi s) := onBench_answered fun _ => by simp [apply_ite Bench.ix]
theorem execQnUnlock_answered (c : Cmd) (pw : List Byte) (oper : BitVec 16) (s : State) :
    AnsweredIn (some c.bench) s (execQnUnlock c pw oper s) := by
  refine onBench_answered fun b => Bench.accept_ix (fun b => ?_) ..
  dsimp only
  (repeat' split) <;> simp
theorem execQnLock_answered (c : Cmd) (s : State) :
    AnsweredIn (some c.bench) s (execQnLock c s) := onBench_answered fun _ => by simp
theorem execQnCommit_answered (c : Cmd) (crc : Word) (oper : BitVec 16) (s : State) :
    AnsweredIn (some c.bench) s (execQnCommit c crc oper s) := onBench_answered fun _ => by simp [apply_ite Bench.ix]
theorem execQnSetPassword_answered (c : Cmd) (old new : List Byte) (oper : BitVec 16) (s : State) :
    AnsweredIn (some c.bench) s (execQnSetPassword c old new oper s) :=
  onBench_answered fun _ => by simp [apply_ite Bench.ix]
theorem execQnFaultClear_answered (c : Cmd) (oper : BitVec 16) (sources : Nat × Nat) (back : PulseBack) (s : State) :
    AnsweredIn (some c.bench) s (execQnFaultClear c oper sources back s) :=
  onBench_answered fun _ => by simp [apply_ite Bench.ix]
theorem execQnSetRef_answered (c : Cmd) (w pos lo hi : Word) (s : State) :
    AnsweredIn (some c.bench) s (execQnSetRef c w pos lo hi s) := onBench_answered fun _ => by simp [apply_ite Bench.ix]
theorem execQnLogRead_answered (c : Cmd) (first count : Word) (s : State) :
    AnsweredIn (some c.bench) s (execQnLogRead c first count s) := onBench_answered fun _ => by simp [apply_ite Bench.ix]
theorem execKfArm_answered (c : Cmd) (w pre post : Word) (s : State) :
    AnsweredIn (some c.bench) s (execKfArm c w pre post s) := onBench_answered fun _ => by simp [apply_ite Bench.ix]
theorem execKfDisarm_answered (c : Cmd) (w : Word) (s : State) :
    AnsweredIn (some c.bench) s (execKfDisarm c w s) := onBench_answered fun _ => by simp [apply_ite Bench.ix]
theorem execKfTrigger_answered (c : Cmd) (w : Word) (s : State) :
    AnsweredIn (some c.bench) s (execKfTrigger c w s) := onBench_answered fun _ => by simp [apply_ite Bench.ix]
theorem execKfRead_answered (c : Cmd) (w : Word) (s : State) :
    AnsweredIn (some c.bench) s (execKfRead c w s) := by
  refine onBench_answered fun b => Bench.accept_ix (fun b => ?_) ..
  dsimp only
  (repeat' split) <;> simp
theorem execDgSetProfiles_answered (c : Cmd) (profs : List Byte) (s : State) :
    AnsweredIn (some c.bench) s (execDgSetProfiles c profs s) := onBench_answered fun _ => by simp [apply_ite Bench.ix]
theorem execDgCloseNow_answered (c : Cmd) (s : State) :
    AnsweredIn (some c.bench) s (execDgCloseNow c s) := onBench_answered fun _ => by simp
theorem execHlRead_answered (c : Cmd) (first count : Word) (s : State) :
    AnsweredIn (some c.bench) s (execHlRead c first count s) := onBench_answered fun _ => by simp [apply_ite Bench.ix]
theorem execHlCloseNow_answered (c : Cmd) (s : State) :
    AnsweredIn (some c.bench) s (execHlCloseNow c s) := onBench_answered fun _ => by simp
theorem execHaulStationSet_answered (c : Cmd) (w : Word) (s : State) :
    AnsweredIn (some c.bench) s (execHaulStationSet c w s) := onBench_answered fun _ => by simp [apply_ite Bench.ix]
theorem execCanRecover_answered (c : Cmd) (w : Word) (s : State) :
    AnsweredIn (some c.bench) s (execCanRecover c w s) := onBench_answered fun _ => by simp [apply_ite Bench.ix]
theorem execCanObjSet_answered (c : Cmd) (w : Word) (s : State) :
    AnsweredIn (some c.bench) s (execCanObjSet c w s) := onBench_answered fun _ => by simp [apply_ite Bench.ix]
theorem execRedunHandover_answered (c : Cmd) (lo hi maxDefer : Word) (s : State) :
    AnsweredIn (some c.bench) s (execRedunHandover c lo hi maxDefer s) :=
  onBench_answered fun _ => by simp [apply_ite Bench.ix]
theorem execRedunResync_answered (c : Cmd) (s : State) :
    AnsweredIn (some c.bench) s (execRedunResync c s) := onBench_answered fun _ => by simp [apply_ite Bench.ix]
theorem execTimeSet_answered (c : Cmd) (lo hi : Word) (s : State) :
    AnsweredIn none s (execTimeSet c lo hi s) := by
  unfold execTimeSet
  dsimp only
  split
  · exact Orderly.refl.answered
  · split
    · exact (onBench_answered fun _ => Bench.refuse_ix ..).anywhere
    · exact Orderly.timeSet.answered
theorem execTimeRead_answered (c : Cmd) (s : State) :
    AnsweredIn (some c.bench) s (execTimeRead c s) := onBench_answered fun _ => by simp
theorem execGuardOpen_answered (c : Cmd) (oper : Word) (s : State) :
    AnsweredIn none s (execGuardOpen c oper s) := by
  refine mailed_answered fun s => ?_
  split
  · exact (Orderly.refl.hub _).trans Orderly.mboxDone
  · exact ((Orderly.refl.hub _).trans Orderly.guardLogAll).trans Orderly.mboxDone
theorem execGuardClose_answered (c : Cmd) (s : State) :
    AnsweredIn none s (execGuardClose c s) := by
  refine mailed_answered fun s => ?_
  split
  · exact Orderly.closeSession.trans Orderly.mboxDone
  · exact Orderly.mboxDone
theorem execGuardLogRead_answered (c : Cmd) (first count : Word) (s : State) :
    AnsweredIn none s (execGuardLogRead c first count s) := by
  refine mailed_answered fun s => ?_
  dsimp only
  split
  · exact (Orderly.refl.hub _).trans Orderly.mboxDone
  · split <;> exact (Orderly.refl.hub _).trans Orderly.mboxDone
theorem execQnPasswordReplace_answered (c : Cmd) (pw : List Byte) (s : State) :
    AnsweredIn none s (execQnPasswordReplace c pw s) := by
  refine mailed_answered fun s => ?_
  dsimp only
  split
  · exact Orderly.mboxDone
  · split
    · exact (Orderly.refl.hub _).trans Orderly.mboxDone
    · exact ((Orderly.refl.hub _).trans (Orderly.putBench (by simp)).anywhere).trans Orderly.mboxDone
theorem execDebugOpen_answered (c : Cmd) (s : State) :
    AnsweredIn none s (execDebugOpen c s) := by
  refine mailed_answered fun s => ?_
  dsimp only
  split
  · exact Orderly.mboxDone
  · refine ((Orderly.refl.hub _).trans (Orderly.putBench ?_).anywhere).trans Orderly.mboxDone
    rw [Bench.guardLog_ix]
theorem execFwLoad_answered (c : Cmd) (version : Word) (fate : FwFate) (s : State) :
    AnsweredIn (some c.bench) s (execFwLoad c version fate s) := by
  refine onBench_answered fun b => ?_
  dsimp only
  cases fate with
  | begins => exact acceptFw_start_ix (fun _ => Bench.setBn_ix ..) b
  | ends good =>
    dsimp only
    split
    · exact Bench.fwLoaded_ix ..
    · exact acceptFw_start_ix (fun _ => Bench.fwLoaded_ix ..) b
theorem execFwSelect_answered (c : Cmd) (s : State) :
    AnsweredIn (some c.bench) s (execFwSelect c s) := by
  refine onBench_answered fun b => Bench.acceptFw_ix (fun b => ?_) ..
  split
  · exact Bench.refuse_ix ..
  · split <;> simp
theorem execFwInfo_answered (c : Cmd) (s : State) :
    AnsweredIn (some c.bench) s (execFwInfo c s) := onBench_answered fun _ => by simp
theorem execReadStatus_answered (bn : BenchIx) (noResp : BitVec 16) (s : State) :
    AnsweredIn (some bn) s (execReadStatus bn noResp s) := by
  exact (Orderly.bedrockOne fun s => Orderly.refl.hub _).answered
theorem execBedrockHold_answered (mask noResp : BitVec 16) (s : State) :
    AnsweredIn none s (execBedrockHold mask noResp s) := by
  exact (Orderly.bedrockMask fun _ => Bench.bedrockHold_ix ..).answered
theorem execOutputsOff_answered (mask noResp : BitVec 16) (s : State) :
    AnsweredIn none s (execOutputsOff mask noResp s) := by
  exact (Orderly.bedrockMask fun _ => Bench.bedrockHold_ix ..).answered
theorem execBedrockReset_answered (bn : BenchIx) (noResp : BitVec 16) (s : State) :
    AnsweredIn (some bn) s (execBedrockReset bn noResp s) := by
  exact (Orderly.bedrockOne fun s => Orderly.putBench (Bench.resetTo_ix ..)).answered
theorem execReleaseCustody_answered (mask noResp : BitVec 16) (s : State) :
    AnsweredIn none s (execReleaseCustody mask noResp s) := by
  exact (Orderly.bedrockMask fun _ => Bench.bedrockHold_ix ..).answered
theorem execReadRecord_answered (bn : BenchIx) (noResp : BitVec 16) (s : State) :
    AnsweredIn (some bn) s (execReadRecord bn noResp s) := by
  refine (Orderly.bedrockOne fun s => ?_).answered
  split <;> exact Orderly.refl.hub _
theorem execReadTime_answered (bn : BenchIx) (noResp : BitVec 16) (s : State) :
    AnsweredIn (some bn) s (execReadTime bn noResp s) := by
  exact (Orderly.bedrockOne fun s => Orderly.refl.hub _).answered
theorem execCoithNop_answered (k : CoreRef) (s : State) :
    AnsweredIn (some k.bench) s (execCoithNop k s) := coreOp_answered
theorem execCoithAdd_answered (k : CoreRef) (d a b : Reg) (h sat : Bool) (s : State) :
    AnsweredIn (some k.bench) s (execCoithAdd k d a b h sat s) := coreOp_answered
theorem execCoithSub_answered (k : CoreRef) (d a b : Reg) (h sat : Bool) (s : State) :
    AnsweredIn (some k.bench) s (execCoithSub k d a b h sat s) := coreOp_answered
theorem execCoithAddi_answered (k : CoreRef) (d a : Reg) (imm : BitVec 16) (s : State) :
    AnsweredIn (some k.bench) s (execCoithAddi k d a imm s) := coreOp_answered
theorem execCoithMul_answered (k : CoreRef) (d a b : Reg) (h sat : Bool) (s : State) :
    AnsweredIn (some k.bench) s (execCoithMul k d a b h sat s) := coreOp_answered
theorem execCoithDiv_answered (k : CoreRef) (d a b : Reg) (s : State) :
    AnsweredIn (some k.bench) s (execCoithDiv k d a b s) := coreOp_answered
theorem execCoithRem_answered (k : CoreRef) (d a b : Reg) (s : State) :
    AnsweredIn (some k.bench) s (execCoithRem k d a b s) := coreOp_answered
theorem execCoithAbs_answered (k : CoreRef) (d a : Reg) (neg h sat : Bool) (s : State) :
    AnsweredIn (some k.bench) s (execCoithAbs k d a neg h sat s) := coreOp_answered
theorem execCoithAnd_answered (k : CoreRef) (d a b : Reg) (s : State) :
    AnsweredIn (some k.bench) s (execCoithAnd k d a b s) := coreOp_answered
theorem execCoithOr_answered (k : CoreRef) (d a b : Reg) (s : State) :
    AnsweredIn (some k.bench) s (execCoithOr k d a b s) := coreOp_answered
theorem execCoithXor_answered (k : CoreRef) (d a b : Reg) (s : State) :
    AnsweredIn (some k.bench) s (execCoithXor k d a b s) := coreOp_answered
theorem execCoithAndi_answered (k : CoreRef) (d a : Reg) (imm : BitVec 16) (s : State) :
    AnsweredIn (some k.bench) s (execCoithAndi k d a imm s) := coreOp_answered
theorem execCoithOri_answered (k : CoreRef) (d a : Reg) (imm : BitVec 16) (s : State) :
    AnsweredIn (some k.bench) s (execCoithOri k d a imm s) := coreOp_answered
theorem execCoithXori_answered (k : CoreRef) (d a : Reg) (imm : BitVec 16) (s : State) :
    AnsweredIn (some k.bench) s (execCoithXori k d a imm s) := coreOp_answered
theorem execCoithLui_answered (k : CoreRef) (d : Reg) (imm : BitVec 16) (s : State) :
    AnsweredIn (some k.bench) s (execCoithLui k d imm s) := coreOp_answered
theorem execCoithShf_answered (k : CoreRef) (d a b : Reg) (op : Fin 4) (byReg : Bool) (amt : Fin 32) (s : State) :
    AnsweredIn (some k.bench) s (execCoithShf k d a b op byReg amt s) := coreOp_answered
theorem execCoithBit_answered (k : CoreRef) (d a : Reg) (ins : Bool) (pos width1 : Fin 32) (s : State) :
    AnsweredIn (some k.bench) s (execCoithBit k d a ins pos width1 s) := coreOp_answered
theorem execCoithMinmax_answered (k : CoreRef) (d a b : Reg) (max h : Bool) (s : State) :
    AnsweredIn (some k.bench) s (execCoithMinmax k d a b max h s) := coreOp_answered
theorem execCoithCmp_answered (k : CoreRef) (d a b : Reg) (cond : Cond) (s : State) :
    AnsweredIn (some k.bench) s (execCoithCmp k d a b cond s) := coreOp_answered
theorem execCoithCmpi_answered (k : CoreRef) (d a : Reg) (cond : Cond) (imm : BitVec 13) (s : State) :
    AnsweredIn (some k.bench) s (execCoithCmpi k d a cond imm s) := coreOp_answered
theorem execCoithSel_answered (k : CoreRef) (d a b c : Reg) (s : State) :
    AnsweredIn (some k.bench) s (execCoithSel k d a b c s) := coreOp_answered
theorem execCoithLim_answered (k : CoreRef) (d a b : Reg) (h : Bool) (s : State) :
    AnsweredIn (some k.bench) s (execCoithLim k d a b h s) := coreOp_answered
theorem execCoithQmul_answered (k : CoreRef) (d a b : Reg) (s : State) :
    AnsweredIn (some k.bench) s (execCoithQmul k d a b s) := coreOp_answered
theorem execCoithMpy_answered (k : CoreRef) (a b : Reg) (neg : Bool) (s : State) :
    AnsweredIn (some k.bench) s (execCoithMpy k a b neg s) := coreOp_answered
theorem execCoithMac_answered (k : CoreRef) (a b : Reg) (sub : Bool) (s : State) :
    AnsweredIn (some k.bench) s (execCoithMac k a b sub s) := coreOp_answered
theorem execCoithLda_answered (k : CoreRef) (a : Reg) (f : Fin 4) (s : State) :
    AnsweredIn (some k.bench) s (execCoithLda k a f s) := coreOp_answered
theorem execCoithSac_answered (k : CoreRef) (d : Reg) (q30 : Bool) (sh : BitVec 5) (s : State) :
    AnsweredIn (some k.bench) s (execCoithSac k d q30 sh s) := coreOp_answered
theorem execCoithSta_answered (k : CoreRef) (d : Reg) (s : State) :
    AnsweredIn (some k.bench) s (execCoithSta k d s) := coreOp_answered
theorem execCoithAsh_answered (k : CoreRef) (sh : BitVec 6) (s : State) :
    AnsweredIn (some k.bench) s (execCoithAsh k sh s) := coreOp_answered
theorem execCoithCls_answered (k : CoreRef) (d a : Reg) (ofReg : Bool) (s : State) :
    AnsweredIn (some k.bench) s (execCoithCls k d a ofReg s) := coreOp_answered
theorem execCoithFadd_answered (k : CoreRef) (d a b : Reg) (sub : Bool) (s : State) :
    AnsweredIn (some k.bench) s (execCoithFadd k d a b sub s) := coreOp_answered
theorem execCoithFmul_answered (k : CoreRef) (d a b : Reg) (s : State) :
    AnsweredIn (some k.bench) s (execCoithFmul k d a b s) := coreOp_answered
theorem execCoithFdiv_answered (k : CoreRef) (d a b : Reg) (s : State) :
    AnsweredIn (some k.bench) s (execCoithFdiv k d a b s) := coreOp_answered
theorem execCoithFsqrt_answered (k : CoreRef) (d a : Reg) (s : State) :
    AnsweredIn (some k.bench) s (execCoithFsqrt k d a s) := coreOp_answered
theorem execCoithFcmp_answered (k : CoreRef) (d a b : Reg) (op : Fin 4) (s : State) :
    AnsweredIn (some k.bench) s (execCoithFcmp k d a b op s) := coreOp_answered
theorem execCoithFcvt_answered (k : CoreRef) (d a : Reg) (op : Fin 4) (s : State) :
    AnsweredIn (some k.bench) s (execCoithFcvt k d a op s) := coreOp_answered
theorem execCoithFmisc_answered (k : CoreRef) (d a b : Reg) (op : Fin 4) (s : State) :
    AnsweredIn (some k.bench) s (execCoithFmisc k d a b op s) := coreOp_answered
theorem execCoithTadd_answered (k : CoreRef) (d a b : Reg) (sub : Bool) (s : State) :
    AnsweredIn (some k.bench) s (execCoithTadd k d a b sub s) := coreOp_answered
theorem execCoithTcmp_answered (k : CoreRef) (d a b : Reg) (op : Fin 4) (s : State) :
    AnsweredIn (some k.bench) s (execCoithTcmp k d a b op s) := coreOp_answered
theorem execCoithRdt_answered (k : CoreRef) (d : Reg) (op : Fin 4) (s : State) :
    AnsweredIn (some k.bench) s (execCoithRdt k d op s) := onCore_answered fun _ _ => by rfl
theorem execCoithLdw_answered (k : CoreRef) (d base : Reg) (off : BitVec 16) (s : State) :
    AnsweredIn (some k.bench) s (execCoithLdw k d base off s) := onCore_answered fun _ _ => by simp
theorem execCoithLdh_answered (k : CoreRef) (d base : Reg) (off : BitVec 16) (s : State) :
    AnsweredIn (some k.bench) s (execCoithLdh k d base off s) := onCore_answered fun _ _ => by simp
theorem execCoithLdd_answered (k : CoreRef) (d base : Reg) (off : BitVec 16) (s : State) :
    AnsweredIn (some k.bench) s (execCoithLdd k d base off s) := onCore_answered fun _ _ => by simp
theorem execCoithStw_answered (k : CoreRef) (d base : Reg) (off : BitVec 16) (s : State) :
    AnsweredIn (some k.bench) s (execCoithStw k d base off s) := onCore_answered fun _ _ => by simp
theorem execCoithSth_answered (k : CoreRef) (d base : Reg) (off : BitVec 16) (s : State) :
    AnsweredIn (some k.bench) s (execCoithSth k d base off s) := onCore_answered fun _ _ => by simp
theorem execCoithStd_answered (k : CoreRef) (d base : Reg) (off : BitVec 16) (s : State) :
    AnsweredIn (some k.bench) s (execCoithStd k d base off s) := onCore_answered fun _ _ => by simp
theorem execCoithLdx_answered (k : CoreRef) (d a b : Reg) (f : Fin 3) (scale : Fin 4) (s : State) :
    AnsweredIn (some k.bench) s (execCoithLdx k d a b f scale s) := onCore_answered fun _ _ => by simp
theorem execCoithStx_answered (k : CoreRef) (d a b : Reg) (f : Fin 3) (scale : Fin 4) (s : State) :
    AnsweredIn (some k.bench) s (execCoithStx k d a b f scale s) := onCore_answered fun _ _ => by simp
theorem execCoithBr_answered (k : CoreRef) (a : Reg) (cond : BrCond) (off : BitVec 18) (s : State) :
    AnsweredIn (some k.bench) s (execCoithBr k a cond off s) := onCore_answered fun _ _ => by rfl
theorem execCoithLoop_answered (k : CoreRef) (d : Reg) (count1 : Fin 4096) (len : Fin 512) (s : State) :
    AnsweredIn (some k.bench) s (execCoithLoop k d count1 len s) := onCore_answered fun _ _ => by rfl
theorem execCoithCall_answered (k : CoreRef) (fb : Fin 1024) (ioff : BitVec 16) (s : State) :
    AnsweredIn (some k.bench) s (execCoithCall k fb ioff s) := by
  refine onCore_answered fun c b => ?_
  (repeat' split) <;> simp
theorem execCoithRet_answered (k : CoreRef) (s : State) :
    AnsweredIn (some k.bench) s (execCoithRet k s) := onCore_answered fun _ _ => by rfl
theorem execCoithEnd_answered (k : CoreRef) (s : State) :
    AnsweredIn (some k.bench) s (execCoithEnd k s) := onCore_answered fun _ _ => by simp
theorem execCoithSetf_answered (k : CoreRef) (d a : Reg) (slot : Fin 64) (s : State) :
    AnsweredIn (some k.bench) s (execCoithSetf k d a slot s) := by
  refine onCore_answered fun c b => ?_
  (repeat' split) <;> simp
theorem execCoithPost_answered (k : CoreRef) (d a : Reg) (s : State) :
    AnsweredIn (some k.bench) s (execCoithPost k d a s) := by
  refine onCore_answered fun c b => ?_
  dsimp only
  split
  · split <;> simp
  · simp
theorem execCoithFwr_answered (k : CoreRef) (d a : Reg) (n : Fin 32) (eop : Bool) (s : State) :
    AnsweredIn (some k.bench) s (execCoithFwr k d a n eop s) := onCore_answered fun _ _ => by simp
theorem execCoithFrd_answered (k : CoreRef) (d a : Reg) (n : Fin 32) (s : State) :
    AnsweredIn (some k.bench) s (execCoithFrd k d a n s) := onCore_answered fun _ _ => by simp
theorem execCoithPtr_answered (k : CoreRef) (d a : Reg) (s : State) :
    AnsweredIn (some k.bench) s (execCoithPtr k d a s) := by
  refine onCore_answered fun c b => ?_
  dsimp only
  split <;> simp
theorem execCoithPtw_answered (k : CoreRef) (d a b : Reg) (own : Bool) (s : State) :
    AnsweredIn (some k.bench) s (execCoithPtw k d a b own s) := onCore_answered fun _ _ => by simp
theorem execCoithCsr_answered (k : CoreRef) (d a : Reg) (clear : Bool) (s : State) :
    AnsweredIn (some k.bench) s (execCoithCsr k d a clear s) := by
  refine onCore_answered fun c b => ?_
  dsimp only
  split <;> simp
theorem execCoithMac2_answered (k : CoreRef) (a b : Reg) (s : State) :
    AnsweredIn (some k.bench) s (execCoithMac2 k a b s) := coreOp_answered
theorem execCoithChk_answered (k : CoreRef) (a : Reg) (code : BitVec 8) (s : State) :
    AnsweredIn (some k.bench) s (execCoithChk k a code s) := by
  refine onCore_answered fun c b => ?_
  split <;> simp
theorem execCoithPack_answered (k : CoreRef) (d a b : Reg) (s : State) :
    AnsweredIn (some k.bench) s (execCoithPack k d a b s) := coreOp_answered
theorem execCoithCrc_answered (k : CoreRef) (d a : Reg) (s : State) :
    AnsweredIn (some k.bench) s (execCoithCrc k d a s) := coreOp_answered
theorem execTapBypass_answered (s : State) :
    AnsweredIn none s (execTapBypass s) := by
  exact (Orderly.refl.hub _).answered
theorem execTapIdcode_answered (s : State) :
    AnsweredIn none s (execTapIdcode s) := by
  exact (Orderly.refl.hub _).answered
theorem execTapSamplePreload_answered (s : State) :
    AnsweredIn none s (execTapSamplePreload s) := by
  exact (Orderly.refl.hub _).answered
theorem execTapExtest_answered (s : State) :
    AnsweredIn none s (execTapExtest s) := by
  exact (Orderly.refl.hub _).answered
theorem execTapClamp_answered (s : State) :
    AnsweredIn none s (execTapClamp s) := by
  exact (Orderly.refl.hub _).answered
theorem execTapHighz_answered (s : State) :
    AnsweredIn none s (execTapHighz s) := by
  exact (Orderly.refl.hub _).answered
theorem execTapDebug_answered (s : State) :
    AnsweredIn none s (execTapDebug s) := by
  exact (Orderly.refl.hub _).answered
theorem execUnsupportedRequest_answered (fn : FnIx) (write : Bool) (s : State) :
    AnsweredIn none s (execUnsupportedRequest fn write s) := by
  exact Orderly.unsupported.answered
theorem execLowWordRead_answered (fn : FnIx) (off : Nat) (s : State) :
    AnsweredIn none s (execLowWordRead fn off s) := by
  exact Orderly.hostRead.answered
theorem execPointValueRead_answered (bn : BenchIx) (p : Fin 16384) (s : State) :
    AnsweredIn (some bn) s (execPointValueRead bn p s) := onBench_answered fun _ => by simp
theorem execRunStateRead_answered (bn : BenchIx) (slot : Fin 16) (s : State) :
    AnsweredIn (some bn) s (execRunStateRead bn slot s) := onBench_answered fun _ => by simp
theorem execForceCommit_answered (bn : BenchIx) (i : Fin 1024) (w : Word) (s : State) :
    AnsweredIn (some bn) s (execForceCommit bn i w s) := onBench_answered fun _ => by simp [apply_ite Bench.ix]
theorem execDbCmdTail_answered (bn : BenchIx) (v : Word) (s : State) :
    AnsweredIn (some bn) s (execDbCmdTail bn v s) := onBench_answered fun _ => by simp
theorem execDbCplHead_answered (bn : BenchIx) (v : Word) (s : State) :
    AnsweredIn (some bn) s (execDbCplHead bn v s) := onBench_answered fun _ => by simp
theorem execDbStrHead_answered (bn : BenchIx) (v : Word) (s : State) :
    AnsweredIn (some bn) s (execDbStrHead bn v s) := onBench_answered fun _ => by simp
theorem execDbEvtHead_answered (bn : BenchIx) (v : Word) (s : State) :
    AnsweredIn (some bn) s (execDbEvtHead bn v s) := onBench_answered fun _ => by simp
theorem execMboxDoorbell_answered (v : MailBell) (s : State) :
    AnsweredIn none s (execMboxDoorbell v s) := by
  unfold execMboxDoorbell
  split
  · exact (Orderly.refl.hub _).answered
  · have ecc : Orderly none s (if v.ecc then { s with hub := s.hub.mgError 2 } else s) := by
      split
      · exact Orderly.refl.hub _
      · exact Orderly.refl
    dsimp only
    split
    · exact ((ecc.hub _).trans Orderly.mboxDone).answered
    · split
      · exact (ecc.hub _).answered
      · exact ((ecc.hub _).trans Orderly.mboxDone).answered
theorem execQueueEnable_answered (bn : BenchIx) (q : Fin 4) (v : Word) (s : State) :
    AnsweredIn (some bn) s (execQueueEnable bn q v s) := onBench_answered fun _ => by simp
theorem execQueueDisable_answered (bn : BenchIx) (q : Fin 4) (v : Word) (s : State) :
    AnsweredIn (some bn) s (execQueueDisable bn q v s) := onBench_answered fun _ => by simp
theorem execMsixUnmask_answered (fn : FnIx) (v : Fin 6) (s : State) :
    AnsweredIn none s (execMsixUnmask fn v s) := by
  unfold execMsixUnmask
  split
  · exact (Orderly.refl.hub _).answered
  · refine AnsweredIn.anywhere (onBench_answered fun b => ?_)
    split <;> rfl
theorem execDropRemainder_answered (bn : BenchIx) (n : Fin 32) (s : State) :
    AnsweredIn (some bn) s (execDropRemainder bn n s) := onBench_answered fun _ => by simp
theorem execFlush_answered (bn : BenchIx) (n : Fin 32) (s : State) :
    AnsweredIn (some bn) s (execFlush bn n s) := onBench_answered fun _ => by simp
theorem execFqHostPop_answered (bn : BenchIx) (n : Fin 32) (s : State) :
    AnsweredIn (some bn) s (execFqHostPop bn n s) := onBench_answered fun _ => by simp
theorem execFqWr_answered (bn : BenchIx) (n : Fin 32) (w : Word) (s : State) :
    AnsweredIn (some bn) s (execFqWr bn n w s) := onBench_answered fun _ => by simp
theorem execFqWrEop_answered (bn : BenchIx) (n : Fin 32) (w : Word) (s : State) :
    AnsweredIn (some bn) s (execFqWrEop bn n w s) := onBench_answered fun _ => by simp
theorem execScCtrlWrite_answered (bn : BenchIx) (v : Word) (s : State) :
    AnsweredIn (some bn) s (execScCtrlWrite bn v s) := onBench_answered fun _ => by simp
theorem execScFlowWrite_answered (bn : BenchIx) (f : Fin 256) (v : Word) (s : State) :
    AnsweredIn (some bn) s (execScFlowWrite bn f v s) := onBench_answered fun _ => by simp
theorem execScQcfgWrite_answered (bn : BenchIx) (q : Fin 8) (v : Word) (s : State) :
    AnsweredIn (some bn) s (execScQcfgWrite bn q v s) := onBench_answered fun _ => by simp
theorem execFqCfgWrite_answered (bn : BenchIx) (n : Fin 32) (v : Word) (s : State) :
    AnsweredIn (some bn) s (execFqCfgWrite bn n v s) := onBench_answered fun _ => by simp
theorem execFqSpillWrite_answered (bn : BenchIx) (n : Fin 32) (v : Word) (s : State) :
    AnsweredIn (some bn) s (execFqSpillWrite bn n v s) := onBench_answered fun _ => by simp
theorem execBnDramCaptureWrite_answered (bn : BenchIx) (v : Word) (s : State) :
    AnsweredIn (some bn) s (execBnDramCaptureWrite bn v s) := onBench_answered fun _ => by simp
theorem execTmPaceLimWrite_answered (bn : BenchIx) (v : Word) (s : State) :
    AnsweredIn (some bn) s (execTmPaceLimWrite bn v s) := onBench_answered fun _ => by simp
theorem execTmPaceRestWrite_answered (bn : BenchIx) (v : Word) (s : State) :
    AnsweredIn (some bn) s (execTmPaceRestWrite bn v s) := onBench_answered fun _ => by simp
theorem execMdioCmd_answered (bn : BenchIx) (v : Word) (s : State) :
    AnsweredIn (some bn) s (execMdioCmd bn v s) := onBench_answered fun _ => by simp
theorem execMrDataAccess_answered (bn : BenchIx) (k : Fin 2) (write : Option Word) (s : State) :
    AnsweredIn (some bn) s (execMrDataAccess bn k write s) := by
  refine onBench_answered fun b => ?_
  dsimp only
  (repeat' split) <;> simp
theorem execRxBufferLockRead_answered (bn : BenchIx) (k : Fin 2) (buf : Fin 64) (s : State) :
    AnsweredIn (some bn) s (execRxBufferLockRead bn k buf s) := onBench_answered fun _ => by simp
theorem execRxBufferReleaseRead_answered (bn : BenchIx) (k : Fin 2) (buf : Fin 64) (s : State) :
    AnsweredIn (some bn) s (execRxBufferReleaseRead bn k buf s) := onBench_answered fun _ => by simp
theorem execGuardWrite_answered (off : Nat) (v : Word) (g : Nat) (mram : MramTry) (s : State) :
    AnsweredIn none s (execGuardWrite off v g mram s) := by
  unfold execGuardWrite
  split
  · exact Orderly.refl.answered
  · exact (Orderly.refl.hub _).answered
  · dsimp only
    split
    · exact ((Orderly.refl.hub _).trans (Orderly.putBench (by rfl)).anywhere).answered
    · exact (((Orderly.refl.hub _).trans (Orderly.putBench (Bench.guardWrite_ix ..)).anywhere).hub _).answered
theorem execGuardEffect_answered (bn : BenchIx) (t : Nat) (s : State) :
    AnsweredIn (some bn) s (execGuardEffect bn t s) := onBench_answered fun _ => by simp
theorem execBnCntClr_answered (bn : BenchIx) (v : Word) (s : State) :
    AnsweredIn (some bn) s (execBnCntClr bn v s) := onBench_answered fun _ => by simp
theorem execTmCntClr_answered (bn : BenchIx) (v : Word) (s : State) :
    AnsweredIn (some bn) s (execTmCntClr bn v s) := onBench_answered fun _ => by simp
theorem execScCntClr_answered (bn : BenchIx) (v : Word) (s : State) :
    AnsweredIn (some bn) s (execScCntClr bn v s) := onBench_answered fun _ => by simp
theorem execPeCntClr_answered (bn : BenchIx) (v : Word) (s : State) :
    AnsweredIn (some bn) s (execPeCntClr bn v s) := onBench_answered fun _ => by simp
theorem execLeCntClr_answered (bn : BenchIx) (v : Word) (s : State) :
    AnsweredIn (some bn) s (execLeCntClr bn v s) := onBench_answered fun _ => by simp
theorem execRsCntClr_answered (bn : BenchIx) (v : Word) (s : State) :
    AnsweredIn (some bn) s (execRsCntClr bn v s) := onBench_answered fun _ => by simp
theorem execMxCntClr_answered (bn : BenchIx) (v : Word) (s : State) :
    AnsweredIn (some bn) s (execMxCntClr bn v s) := onBench_answered fun _ => by simp
theorem execFcCntClr_answered (bn : BenchIx) (v : Word) (s : State) :
    AnsweredIn (some bn) s (execFcCntClr bn v s) := onBench_answered fun _ => by simp
theorem execQnCntClr_answered (bn : BenchIx) (v : Word) (s : State) :
    AnsweredIn (some bn) s (execQnCntClr bn v s) := onBench_answered fun _ => by simp
theorem execKfCntClr_answered (bn : BenchIx) (v : Word) (s : State) :
    AnsweredIn (some bn) s (execKfCntClr bn v s) := onBench_answered fun _ => by simp
theorem execDgCntClr_answered (bn : BenchIx) (v : Word) (s : State) :
    AnsweredIn (some bn) s (execDgCntClr bn v s) := onBench_answered fun _ => by simp
theorem execHlCntClr_answered (bn : BenchIx) (v : Word) (s : State) :
    AnsweredIn (some bn) s (execHlCntClr bn v s) := onBench_answered fun _ => by simp
theorem execHaCntClr_answered (bn : BenchIx) (v : Word) (s : State) :
    AnsweredIn (some bn) s (execHaCntClr bn v s) := onBench_answered fun _ => by simp
theorem execCnCntClr_answered (bn : BenchIx) (k : Fin 2) (v : Word) (s : State) :
    AnsweredIn (some bn) s (execCnCntClr bn k v s) := onBench_answered fun _ => by simp
theorem execNlCntClr_answered (bn : BenchIx) (v : Word) (s : State) :
    AnsweredIn (some bn) s (execNlCntClr bn v s) := onBench_answered fun _ => by simp
theorem execQcCntClr_answered (bn : BenchIx) (v : Word) (s : State) :
    AnsweredIn (some bn) s (execQcCntClr bn v s) := onBench_answered fun _ => by simp
theorem execGsCntClr_answered (v : Word) (s : State) :
    AnsweredIn none s (execGsCntClr v s) := by
  exact (Orderly.refl.hub _).answered
theorem execFunctionLevelReset_answered (fn : FnIx) (d3 : Bool) (s : State) :
    AnsweredIn none s (execFunctionLevelReset fn d3 s) := by
  unfold execFunctionLevelReset
  split
  · exact (Orderly.fn0Reset.hub _).answered
  · exact (onBench_answered fun _ => by rfl).anywhere
theorem execHotReset_answered (s : State) :
    AnsweredIn none s (execHotReset s) := by
  exact Orderly.fnResetAll.answered
theorem execHubReset_answered (s : State) :
    AnsweredIn none s (execHubReset s) := by
  exact ((Orderly.fnResetAll.trans (Orderly.mapBenches fun _ => by simp)).hub _).answered
theorem execHostReadError_answered (bn : BenchIx) (q : Fin 4) (list : Option (BitVec 16)) (s : State) :
    AnsweredIn (some bn) s (execHostReadError bn q list s) := by
  refine onBench_answered fun b => ?_
  (repeat' split) <;> simp
theorem execCommandTake_answered (bn : BenchIx) (p : Packet) (s : State) :
    AnsweredIn (some bn) s (execCommandTake bn p s) := onBench_answered fun _ => by simp
theorem execStreamRecordWrite_answered (bn : BenchIx) (t : Nat) (s : State) :
    AnsweredIn (some bn) s (execStreamRecordWrite bn t s) := onBench_answered fun _ => by simp
theorem execInterruptCoalesceTimeout_answered (bn : BenchIx) (t : Nat) (events : Bool) (s : State) :
    AnsweredIn (some bn) s (execInterruptCoalesceTimeout bn t events s) :=
  onBench_answered fun _ => by simp [apply_ite Bench.ix]
theorem execSupplyGood_answered (t : Nat) (vinA vinB : Bool) (s : State) :
    AnsweredIn none s (execSupplyGood t vinA vinB s) := by
  unfold execSupplyGood
  dsimp only
  split
  · refine (Orderly.trans (Orderly.refl.hub _) (Orderly.mapBenches fun b => ?_)).answered
    split <;> rfl
  · exact (Orderly.refl.hub _).answered
theorem execSupplyLost_answered (t : Nat) (s : State) :
    AnsweredIn none s (execSupplyLost t s) := by
  unfold execSupplyLost
  dsimp only
  split
  · exact (Orderly.refl.hub _).answered
  · refine ((((Orderly.refl.hub _).trans Orderly.fn0Reset).trans (Orderly.mapBenches fun b => ?_)).hub _).answered
    simp [apply_ite Bench.ix]
theorem execVinInputLost_answered (t : Nat) (inputB : Bool) (s : State) :
    AnsweredIn none s (execVinInputLost t inputB s) := by
  exact (Orderly.refl.hub _).answered
theorem execVbatLow_answered (t : Nat) (s : State) :
    AnsweredIn none s (execVbatLow t s) := by
  exact (Orderly.refl.hub _).answered
theorem execMrstNAssert_answered (t : Nat) (s : State) :
    AnsweredIn none s (execMrstNAssert t s) := by
  exact ((((Orderly.refl.hub _).trans Orderly.fn0Reset).trans (Orderly.mapBenches fun _ => by simp)).hub _).answered
theorem execMrstNRelease_answered (t : Nat) (mid : BitVec 6) (pair : Bool) (s : State) :
    AnsweredIn none s (execMrstNRelease t mid pair s) := by
  unfold execMrstNRelease
  dsimp only
  split
  · exact (Orderly.refl.hub _).answered
  · exact (((Orderly.refl.hub _).trans (Orderly.mapBenches fun _ => by rfl)).hub _).answered
theorem execBenchStartComplete_answered (bn : BenchIx) (t : Nat) (selftest : BitVec 5) (fwCurOk fwAltOk imgOk headerOk guardA guardB quoinA quoinB : Bool) (s : State) :
    AnsweredIn (some bn) s (execBenchStartComplete bn t selftest fwCurOk fwAltOk imgOk headerOk guardA guardB quoinA quoinB s) := by
  unfold execBenchStartComplete
  dsimp only
  split
  · refine ((Orderly.putBench ?_).hub _).answered
    exact (Bench.guardHeld_ix ..).trans ((Bench.startUp_ix ..).trans (Bench.tick_ix ..))
  · exact (Orderly.putBench (Bench.tick_ix ..)).answered
theorem execCoreRailLow_answered (bn : BenchIx) (t : Nat) (s : State) :
    AnsweredIn (some bn) s (execCoreRailLow bn t s) := onBench_answered fun _ => by simp
theorem execRefLost_answered (bn : BenchIx) (t : Nat) (refB : Bool) (s : State) :
    AnsweredIn (some bn) s (execRefLost bn t refB s) := onBench_answered fun _ => by simp
theorem execRefGood_answered (bn : BenchIx) (t : Nat) (refB : Bool) (s : State) :
    AnsweredIn (some bn) s (execRefGood bn t refB s) := onBench_answered fun _ => by simp
theorem execTimeLockTimeout_answered (bn : BenchIx) (t : Nat) (checks : LockChecks) (s : State) :
    AnsweredIn (some bn) s (execTimeLockTimeout bn t checks s) := onBench_answered fun _ => by simp
theorem execFreeEntered_answered (bn : BenchIx) (t : Nat) (s : State) :
    AnsweredIn (some bn) s (execFreeEntered bn t s) := onBench_answered fun _ => by simp
theorem execRelockComplete_answered (bn : BenchIx) (t : Nat) (s : State) :
    AnsweredIn (some bn) s (execRelockComplete bn t s) := onBench_answered fun _ => by simp
theorem execEpochMarker_answered (bn : BenchIx) (t m : Nat) (checks : LockChecks) (s : State) :
    AnsweredIn (some bn) s (execEpochMarker bn t m checks s) := by
  refine ((Orderly.refl.hub _).trans (Orderly.putBench ?_)).answered
  exact (Bench.epochMarker_ix ..).trans (Bench.tick_ix ..)
theorem execSyncMarker_answered (t m : Nat) (s : State) :
    AnsweredIn none s (execSyncMarker t m s) := by
  exact (Orderly.refl.hub _).answered
theorem execSyncLost_answered (t : Nat) (s : State) :
    AnsweredIn none s (execSyncLost t s) := by
  exact ((Orderly.refl.hub _).trans Orderly.syncLost).answered
theorem execPtmDialogue_answered (t m : Nat) (s : State) :
    AnsweredIn none s (execPtmDialogue t m s) := by
  exact (Orderly.refl.hub _).answered
theorem execPaceLow_answered (bn : BenchIx) (t rate : Nat) (s : State) :
    AnsweredIn (some bn) s (execPaceLow bn t rate s) := onBench_answered fun _ => by simp
theorem execPaceFault_answered (bn : BenchIx) (t : Nat) (s : State) :
    AnsweredIn (some bn) s (execPaceFault bn t s) := onBench_answered fun _ => by simp
theorem execTjHigh_answered (bn : BenchIx) (t : Nat) (tj : Int) (s : State) :
    AnsweredIn (some bn) s (execTjHigh bn t tj s) := onBench_answered fun _ => by simp
theorem execTjRecovered_answered (bn : BenchIx) (t : Nat) (tj : Int) (s : State) :
    AnsweredIn (some bn) s (execTjRecovered bn t tj s) := onBench_answered fun _ => by simp
theorem execRaiseDemand_answered (bn : BenchIx) (t : Nat) (task : Fin 16) (s : State) :
    AnsweredIn (some bn) s (execRaiseDemand bn t task s) := onBench_answered fun _ => by simp
theorem execBarrierFrame_answered (bn : BenchIx) (t : Nat) (toFace : Bool) (si : BitVec 5) (s : State) :
    AnsweredIn (some bn) s (execBarrierFrame bn t toFace si s) := by
  unfold execBarrierFrame
  exact onBench_answered fun _ => by simp [apply_ite Bench.ix]
theorem execBarrierLinkLoss_answered (bn : BenchIx) (t : Nat) (s : State) :
    AnsweredIn (some bn) s (execBarrierLinkLoss bn t s) := onBench_answered fun _ => by simp
theorem execFaceLinkLoss_answered (bn : BenchIx) (t : Nat) (s : State) :
    AnsweredIn (some bn) s (execFaceLinkLoss bn t s) := onBench_answered fun _ => by simp
theorem execLivenessToken_answered (bn : BenchIx) (t : Nat) (pulse : Pulse) (s : State) :
    AnsweredIn (some bn) s (execLivenessToken bn t pulse s) := by
  refine onBench_answered fun b => ?_
  dsimp only
  (repeat' split) <;> simp
theorem execLivenessLoss_answered (bn : BenchIx) (t : Nat) (s : State) :
    AnsweredIn (some bn) s (execLivenessLoss bn t s) := by
  refine onBench_answered fun b => ?_
  dsimp only
  (repeat' split) <;> simp
theorem execFacePowerLoss_answered (bn : BenchIx) (t : Nat) (s : State) :
    AnsweredIn (some bn) s (execFacePowerLoss bn t s) := onBench_answered fun _ => by simp
theorem execDiSample_answered (bn : BenchIx) (t : Nat) (raw low : BitVec 16) (rb : BitVec 8) (lplus : Nat) (s : State) :
    AnsweredIn (some bn) s (execDiSample bn t raw low rb lplus s) := onBench_answered fun _ => by simp [apply_ite Bench.ix]
theorem execDiChangeAccepted_answered (bn : BenchIx) (t : Nat) (ch : Fin 16) (s : State) :
    AnsweredIn (some bn) s (execDiChangeAccepted bn t ch s) := by
  refine onBench_answered fun b => ?_
  dsimp only
  (repeat' split) <;> simp
theorem execDiWireBreak_answered (bn : BenchIx) (t : Nat) (ch : Fin 16) (s : State) :
    AnsweredIn (some bn) s (execDiWireBreak bn t ch s) := by
  refine onBench_answered fun b => ?_
  dsimp only
  (repeat' split) <;> simp
theorem execFieldWarn_answered (bn : BenchIx) (t : Nat) (s : State) :
    AnsweredIn (some bn) s (execFieldWarn bn t s) := onBench_answered fun _ => by simp [apply_ite Bench.ix]
theorem execFieldWarnClear_answered (bn : BenchIx) (t : Nat) (s : State) :
    AnsweredIn (some bn) s (execFieldWarnClear bn t s) := onBench_answered fun _ => by simp [apply_ite Bench.ix]
theorem execLockout_answered (bn : BenchIx) (t : Nat) (s : State) :
    AnsweredIn (some bn) s (execLockout bn t s) := onBench_answered fun _ => by simp
theorem execReenabled_answered (bn : BenchIx) (t : Nat) (s : State) :
    AnsweredIn (some bn) s (execReenabled bn t s) := onBench_answered fun _ => by simp [apply_ite Bench.ix]
theorem execLatchOff_answered (bn : BenchIx) (t : Nat) (ch : Fin 8) (s : State) :
    AnsweredIn (some bn) s (execLatchOff bn t ch s) := onBench_answered fun _ => by simp [apply_ite Bench.ix]
theorem execReadBackMismatch_answered (bn : BenchIx) (t : Nat) (ch : Fin 8) (s : State) :
    AnsweredIn (some bn) s (execReadBackMismatch bn t ch s) := onBench_answered fun _ => by simp [apply_ite Bench.ix]
theorem execAiSample_answered (bn : BenchIx) (t : Nat) (k : Fin 4) (x : Int) (s : State) :
    AnsweredIn (some bn) s (execAiSample bn t k x s) := onBench_answered fun _ => by simp [apply_ite Bench.ix]
theorem execAiSampleWrite_answered (bn : BenchIx) (t : Nat) (k : Fin 4) (s : State) :
    AnsweredIn (some bn) s (execAiSampleWrite bn t k s) := onBench_answered fun _ => by simp [apply_ite Bench.ix]
theorem execAoSample_answered (bn : BenchIx) (t : Nat) (m : Fin 2) (x : Int) (s : State) :
    AnsweredIn (some bn) s (execAoSample bn t m x s) := onBench_answered fun _ => by simp [apply_ite Bench.ix]
theorem execEncoderSample_answered (bn : BenchIx) (t : Nat) (e : Fin 2) (ra rb rz : Bool) (s : State) :
    AnsweredIn (some bn) s (execEncoderSample bn t e ra rb rz s) := by
  refine onBench_answered fun b => ?_
  dsimp only
  (repeat' split) <;> simp
theorem execEncoderUpdate_answered (bn : BenchIx) (t : Nat) (e : Fin 2) (s : State) :
    AnsweredIn (some bn) s (execEncoderUpdate bn t e s) := onBench_answered fun _ => by simp [apply_ite Bench.ix]
theorem execZCapture_answered (bn : BenchIx) (t : Nat) (e : Fin 2) (s : State) :
    AnsweredIn (some bn) s (execZCapture bn t e s) := by
  refine onBench_answered fun b => ?_
  dsimp only
  (repeat' split) <;> simp
theorem execInputInstant_answered (bn : BenchIx) (t : Nat) (task : Fin 16) (s : State) :
    AnsweredIn (some bn) s (execInputInstant bn t task s) := onBench_answered fun _ => by simp
theorem execImageCopyDone_answered (bn : BenchIx) (t : Nat) (task : Fin 16) (s : State) :
    AnsweredIn (some bn) s (execImageCopyDone bn t task s) := onBench_answered fun _ => by simp
theorem execDispatch_answered (bn : BenchIx) (t : Nat) (core : Fin 4) (s : State) :
    AnsweredIn (some bn) s (execDispatch bn t core s) := onBench_answered fun _ => by simp
theorem execEndOfLogic_answered (bn : BenchIx) (t : Nat) (task : Fin 16) (s : State) :
    AnsweredIn (some bn) s (execEndOfLogic bn t task s) := onBench_answered fun _ => by simp [apply_ite Bench.ix]
theorem execOutputInstant_answered (bn : BenchIx) (t : Nat) (s : State) :
    AnsweredIn (some bn) s (execOutputInstant bn t s) := onBench_answered fun _ => by simp
theorem execWatchdogTrip_answered (bn : BenchIx) (t : Nat) (task : Fin 16) (s : State) :
    AnsweredIn (some bn) s (execWatchdogTrip bn t task s) := onBench_answered fun _ => by simp [apply_ite Bench.ix]
theorem execSnapshotComplete_answered (bn : BenchIx) (t : Nat) (s : State) :
    AnsweredIn (some bn) s (execSnapshotComplete bn t s) := by
  refine onBench_answered fun b => ?_
  dsimp only
  (repeat' split) <;> simp
theorem execRestartCheckDone_answered (bn : BenchIx) (t fail rest : Nat) (s : State) :
    AnsweredIn (some bn) s (execRestartCheckDone bn t fail rest s) := onBench_answered fun _ => by simp
theorem execHostSilence_answered (bn : BenchIx) (t : Nat) (s : State) :
    AnsweredIn (some bn) s (execHostSilence bn t s) := onBench_answered fun _ => by simp
theorem execOpHoursTick_answered (bn : BenchIx) (t : Nat) (s : State) :
    AnsweredIn (some bn) s (execOpHoursTick bn t s) := onBench_answered fun _ => by simp
theorem execItemOverrun_answered (bn : BenchIx) (t : Nat) (core : Fin 4) (s : State) :
    AnsweredIn (some bn) s (execItemOverrun bn t core s) := onBench_answered fun _ => by simp
theorem execReorderRelease_answered (bn : BenchIx) (t : Nat) (flow : Fin 256) (s : State) :
    AnsweredIn (some bn) s (execReorderRelease bn t flow s) := onBench_answered fun _ => by simp
theorem execFifoNotify_answered (bn : BenchIx) (t : Nat) (n : Fin 32) (s : State) :
    AnsweredIn (some bn) s (execFifoNotify bn t n s) := onBench_answered fun _ => by simp
theorem execMoverPageCopy_answered (bn : BenchIx) (t : Nat) (s : State) :
    AnsweredIn (some bn) s (execMoverPageCopy bn t s) := onBench_answered fun _ => by simp
theorem execSwitchGapTest_answered (bn : BenchIx) (t : Nat) (s : State) :
    AnsweredIn (some bn) s (execSwitchGapTest bn t s) := onBench_answered fun _ => by simp
theorem execSwitch_answered (bn : BenchIx) (t : Nat) (s : State) :
    AnsweredIn (some bn) s (execSwitch bn t s) := onBench_answered fun _ => by simp
theorem execLoopRead_answered (bn : BenchIx) (t : Nat) (n : Fin 512) (s : State) :
    AnsweredIn (some bn) s (execLoopRead bn t n s) := onBench_answered fun _ => by simp
theorem execLoopRelease_answered (bn : BenchIx) (t : Nat) (n : Fin 512) (margin : Option Nat) (s : State) :
    AnsweredIn (some bn) s (execLoopRelease bn t n margin s) := onBench_answered fun _ => by simp
theorem execConditionCheck_answered (bn : BenchIx) (t : Nat) (slot : Fin 16) (s : State) :
    AnsweredIn (some bn) s (execConditionCheck bn t slot s) := onBench_answered fun _ => by simp [apply_ite Bench.ix]
theorem execStepBoundary_answered (bn : BenchIx) (t : Nat) (slot : Fin 16) (s : State) :
    AnsweredIn (some bn) s (execStepBoundary bn t slot s) := onBench_answered fun _ => by simp [apply_ite Bench.ix]
theorem execCandidatePrepared_answered (bn : BenchIx) (t : Nat) (slot : Fin 16) (step : Nat) (s : State) :
    AnsweredIn (some bn) s (execCandidatePrepared bn t slot step s) := onBench_answered fun _ => by simp
theorem execCommitMoment_answered (bn : BenchIx) (t : Nat) (slot : Fin 16) (s : State) :
    AnsweredIn (some bn) s (execCommitMoment bn t slot s) := by
  refine onBench_answered fun b => ?_
  dsimp only
  (repeat' split) <;> simp
theorem execRecipeStartInstant_answered (bn : BenchIx) (t : Nat) (slot : Fin 16) (s : State) :
    AnsweredIn (some bn) s (execRecipeStartInstant bn t slot s) := onBench_answered fun _ => by simp
theorem execPauseInstant_answered (bn : BenchIx) (t : Nat) (slot : Fin 16) (s : State) :
    AnsweredIn (some bn) s (execPauseInstant bn t slot s) := onBench_answered fun _ => by simp
theorem execResumeInstant_answered (bn : BenchIx) (t : Nat) (slot : Fin 16) (s : State) :
    AnsweredIn (some bn) s (execResumeInstant bn t slot s) := onBench_answered fun _ => by simp
theorem execSkipInstant_answered (bn : BenchIx) (t : Nat) (slot : Fin 16) (s : State) :
    AnsweredIn (some bn) s (execSkipInstant bn t slot s) := onBench_answered fun _ => by simp
theorem execAbortInstant_answered (bn : BenchIx) (t : Nat) (slot : Fin 16) (s : State) :
    AnsweredIn (some bn) s (execAbortInstant bn t slot s) := onBench_answered fun _ => by simp
theorem execMoveStart_answered (bn : BenchIx) (t : Nat) (a : Fin 64) (s : State) :
    AnsweredIn (some bn) s (execMoveStart bn t a s) := onBench_answered fun _ => by simp
theorem execStepEdge_answered (bn : BenchIx) (t : Nat) (a : Fin 64) (s : State) :
    AnsweredIn (some bn) s (execStepEdge bn t a s) := onBench_answered fun _ => by simp [apply_ite Bench.ix]
theorem execLateEdge_answered (bn : BenchIx) (t : Nat) (a : Fin 64) (s : State) :
    AnsweredIn (some bn) s (execLateEdge bn t a s) := onBench_answered fun _ => by simp [apply_ite Bench.ix]
theorem execLimitChange_answered (bn : BenchIx) (t : Nat) (a : Fin 10) (inp : Fin 3) (level : Bool) (edge : Nat) (reverted : Bool) (s : State) :
    AnsweredIn (some bn) s (execLimitChange bn t a inp level edge reverted s) :=
  onBench_answered fun _ => by simp [apply_ite Bench.ix]
theorem execPwmPeriod_answered (bn : BenchIx) (t : Nat) (vbr : Nat) (s : State) :
    AnsweredIn (some bn) s (execPwmPeriod bn t vbr s) := by
  refine onBench_answered fun b => ?_
  dsimp only
  (repeat' split) <;> simp
theorem execHoldCurrentDelay_answered (bn : BenchIx) (t : Nat) (a : Fin 64) (s : State) :
    AnsweredIn (some bn) s (execHoldCurrentDelay bn t a s) := onBench_answered fun _ => by simp [apply_ite Bench.ix]
theorem execRemoteEvaluation_answered (bn : BenchIx) (t : Nat) (a : Fin 64) (apply : Nat) (s : State) :
    AnsweredIn (some bn) s (execRemoteEvaluation bn t a apply s) := by
  refine onBench_answered fun b => ?_
  dsimp only
  (repeat' split) <;> simp
theorem execPositionPointUpdate_answered (bn : BenchIx) (t : Nat) (a : Fin 64) (s : State) :
    AnsweredIn (some bn) s (execPositionPointUpdate bn t a s) := onBench_answered fun _ => by simp
theorem execLaneBSample_answered (bn : BenchIx) (t : Nat) (si : BitVec 5) (s : State) :
    AnsweredIn (some bn) s (execLaneBSample bn t si s) := by
  unfold execLaneBSample
  exact onBench_answered fun _ => by simp [apply_ite Bench.ix]
theorem execLaneExchange_answered (bn : BenchIx) (t : Nat) (okA okB : Bool) (s : State) :
    AnsweredIn (some bn) s (execLaneExchange bn t okA okB s) := onBench_answered fun _ => by simp
theorem execLaneLost_answered (bn : BenchIx) (t : Nat) (laneB : Bool) (s : State) :
    AnsweredIn (some bn) s (execLaneLost bn t laneB s) := onBench_answered fun _ => by simp [apply_ite Bench.ix]
theorem execLaneX_answered (bn : BenchIx) (t : Nat) (s : State) :
    AnsweredIn (some bn) s (execLaneX bn t s) := by
  refine onBench_answered fun b => ?_
  dsimp only
  (repeat' split) <;> simp
theorem execSwitchDriveTimeout_answered (bn : BenchIx) (t : Nat) (laneB : Bool) (s : State) :
    AnsweredIn (some bn) s (execSwitchDriveTimeout bn t laneB s) := onBench_answered fun _ => by simp [apply_ite Bench.ix]
theorem execTestPulse_answered (bn : BenchIx) (t : Nat) (t2 : Bool) (mv : Nat) (s : State) :
    AnsweredIn (some bn) s (execTestPulse bn t t2 mv s) := onBench_answered fun _ => by simp [apply_ite Bench.ix]
theorem execChannelChange_answered (bn : BenchIx) (t : Nat) (laneB : Bool) (ch : Fin 5) (s : State) :
    AnsweredIn (some bn) s (execChannelChange bn t laneB ch s) := onBench_answered fun _ => by simp [apply_ite Bench.ix]
theorem execDisc_answered (bn : BenchIx) (t : Nat) (i : Fin 2) (s : State) :
    AnsweredIn (some bn) s (execDisc bn t i s) := onBench_answered fun _ => by simp [apply_ite Bench.ix]
theorem execOssdTest_answered (bn : BenchIx) (t : Nat) (o : Fin 2) (s : State) :
    AnsweredIn (some bn) s (execOssdTest bn t o s) := onBench_answered fun _ => by simp [apply_ite Bench.ix]
theorem execOssdReadback_answered (bn : BenchIx) (t : Nat) (mvA mvB : Nat) (s : State) :
    AnsweredIn (some bn) s (execOssdReadback bn t mvA mvB s) := onBench_answered fun _ => by simp [apply_ite Bench.ix]
theorem execSs1Timeout_answered (bn : BenchIx) (t : Nat) (laneB : Bool) (s : State) :
    AnsweredIn (some bn) s (execSs1Timeout bn t laneB s) := onBench_answered fun _ => by simp [apply_ite Bench.ix]
theorem execSpeedEvaluation_answered (bn : BenchIx) (t : Nat) (s : State) :
    AnsweredIn (some bn) s (execSpeedEvaluation bn t s) := by
  unfold execSpeedEvaluation
  exact onBench_answered fun _ => by simp [apply_ite Bench.ix]
theorem execPosX_answered (bn : BenchIx) (t : Nat) (q : Fin 2) (s : State) :
    AnsweredIn (some bn) s (execPosX bn t q s) := by
  refine onBench_answered fun b => ?_
  dsimp only
  (repeat' split) <;> simp
theorem execResetEdge_answered (bn : BenchIx) (t : Nat) (s : State) :
    AnsweredIn (some bn) s (execResetEdge bn t s) := by
  refine onBench_answered fun b => ?_
  dsimp only
  (repeat' split) <;> simp
theorem execQnSessionTimeout_answered (bn : BenchIx) (t : Nat) (s : State) :
    AnsweredIn (some bn) s (execQnSessionTimeout bn t s) := by
  unfold execQnSessionTimeout
  refine onBench_answered fun b => ?_
  dsimp only
  split
  · split
    · exact (Bench.quoinClose_ix ..).trans (Bench.tick_ix ..)
    · rfl
  · rfl
theorem execPasswordWaitExpiry_answered (bn : BenchIx) (t : Nat) (s : State) :
    AnsweredIn (some bn) s (execPasswordWaitExpiry bn t s) := by
  refine onBench_answered fun b => ?_
  dsimp only
  (repeat' split) <;> simp
theorem execHaulCut_answered (bn : BenchIx) (t : Nat) (txs : List Nat) (s : State) :
    AnsweredIn (some bn) s (execHaulCut bn t txs s) := onBench_answered fun _ => by simp
theorem execUpFrame_answered (bn : BenchIx) (t : Nat) (f : UpFrame) (s : State) :
    AnsweredIn (some bn) s (execUpFrame bn t f s) := onBench_answered fun _ => by simp
theorem execArrivalDeadline_answered (bn : BenchIx) (t : Nat) (s : State) :
    AnsweredIn (some bn) s (execArrivalDeadline bn t s) := onBench_answered fun _ => by simp [apply_ite Bench.ix]
theorem execLinkDown_answered (bn : BenchIx) (t : Nat) (s : State) :
    AnsweredIn (some bn) s (execLinkDown bn t s) := by
  refine onBench_answered fun b => ?_
  dsimp only
  (repeat' split) <;> simp
theorem execCanFrameRx_answered (bn : BenchIx) (t : Nat) (k : Fin 2) (h0 h1 : Word) (data : List Word) (sof : Nat) (s : State) :
    AnsweredIn (some bn) s (execCanFrameRx bn t k h0 h1 data sof s) := by
  unfold execCanFrameRx
  exact onBench_answered fun _ => by simp
theorem execObjectCut_answered (bn : BenchIx) (t : Nat) (k : Fin 2) (n : Fin 48) (begun : Bool) (s : State) :
    AnsweredIn (some bn) s (execObjectCut bn t k n begun s) := by
  refine onBench_answered fun b => ?_
  dsimp only
  (repeat' split) <;> simp
theorem execFifoTxOffer_answered (bn : BenchIx) (t : Nat) (k : Fin 2) (n : Fin 32) (s : State) :
    AnsweredIn (some bn) s (execFifoTxOffer bn t k n s) := by
  refine onBench_answered fun b => ?_
  dsimp only
  (repeat' split) <;> simp
theorem execArbitrationLost_answered (bn : BenchIx) (t : Nat) (k : Fin 2) (s : State) :
    AnsweredIn (some bn) s (execArbitrationLost bn t k s) := onBench_answered fun _ => by simp
theorem execTxComplete_answered (bn : BenchIx) (t : Nat) (k : Fin 2) (sof : Nat) (delay : Option Nat) (s : State) :
    AnsweredIn (some bn) s (execTxComplete bn t k sof delay s) := by
  refine onBench_answered fun b => ?_
  dsimp only
  (repeat' split) <;> simp
theorem execCanError_answered (bn : BenchIx) (t : Nat) (k : Fin 2) (f : CanFault) (phase : Bool) (own : Option Nat) (late : Bool) (site : CanSite) (delay : Option Nat) (s : State) :
    AnsweredIn (some bn) s (execCanError bn t k f phase own late site delay s) := by
  refine onBench_answered fun b => ?_
  dsimp only
  (repeat' split) <;> simp
theorem execBusBack_answered (bn : BenchIx) (t : Nat) (k : Fin 2) (s : State) :
    AnsweredIn (some bn) s (execBusBack bn t k s) := onBench_answered fun _ => by simp [apply_ite Bench.ix]
theorem execLockTimeout_answered (bn : BenchIx) (t : Nat) (k : Fin 2) (buf : Fin 64) (s : State) :
    AnsweredIn (some bn) s (execLockTimeout bn t k buf s) := by
  refine onBench_answered fun b => ?_
  dsimp only
  (repeat' split) <;> simp
theorem execReferenceMessage_answered (bn : BenchIx) (t : Nat) (k : Fin 2) (s : State) :
    AnsweredIn (some bn) s (execReferenceMessage bn t k s) := onBench_answered fun _ => by simp [apply_ite Bench.ix]
theorem execRefLate_answered (bn : BenchIx) (t : Nat) (k : Fin 2) (begun : Bool) (s : State) :
    AnsweredIn (some bn) s (execRefLate bn t k begun s) := onBench_answered fun _ => by simp [apply_ite Bench.ix]
theorem execTriggerSample_answered (bn : BenchIx) (t : Nat) (src : KerfSource) (s : State) :
    AnsweredIn (some bn) s (execTriggerSample bn t src s) := by
  refine onBench_answered fun b => ?_
  dsimp only
  (repeat' split) <;> simp
theorem execRearmDone_answered (bn : BenchIx) (t : Nat) (ch : Fin 32) (s : State) :
    AnsweredIn (some bn) s (execRearmDone bn t ch s) := by
  refine onBench_answered fun b => ?_
  dsimp only
  (repeat' split) <;> simp
theorem execDigestUpdate_answered (bn : BenchIx) (t : Nat) (s : State) :
    AnsweredIn (some bn) s (execDigestUpdate bn t s) := onBench_answered fun _ => by simp
theorem execIntervalEnd_answered (bn : BenchIx) (t : Nat) (s : State) :
    AnsweredIn (some bn) s (execIntervalEnd bn t s) := by
  refine onBench_answered fun b => ?_
  dsimp only
  split
  · rfl
  · split
    · split
      · split
        · exact Bench.digestClose_ix ..
        · rfl
      · rfl
    · split
      · rfl
      · exact (Bench.digestClose_ix ..).trans (Bench.digestDrain_ix ..)
theorem execGaugeSample_answered (bn : BenchIx) (x : GaugeTick) (s : State) :
    AnsweredIn (some bn) s (execGaugeSample bn x s) := by
  refine onBench_answered fun b => ?_
  have h : (((b.tick x.time).healthBy 21 x.sram).healthBy 22 x.dram |>.healthBy 23 x.mram).ix = b.ix := by
    rw [Bench.healthBy_ix, Bench.healthBy_ix, Bench.healthBy_ix, Bench.tick_ix]
  dsimp only
  split
  · exact h
  · split <;> exact h
theorem execPeriodEnd_answered (bn : BenchIx) (t : Nat) (s : State) :
    AnsweredIn (some bn) s (execPeriodEnd bn t s) := onBench_answered fun _ => by simp [apply_ite Bench.ix]
theorem execHeartbeatTx_answered (bn : BenchIx) (t : Nat) (s : State) :
    AnsweredIn (some bn) s (execHeartbeatTx bn t s) := onBench_answered fun _ => by simp [apply_ite Bench.ix]
theorem execHeartbeatRx_answered (bn : BenchIx) (t : Nat) (hb : Heartbeat) (same : Bool) (s : State) :
    AnsweredIn (some bn) s (execHeartbeatRx bn t hb same s) := onBench_answered fun _ => by simp
theorem execTallyToggle_answered (bn : BenchIx) (t : Nat) (own : Bool) (s : State) :
    AnsweredIn (some bn) s (execTallyToggle bn t own s) := onBench_answered fun _ => by simp [apply_ite Bench.ix]
theorem execNalryLost_answered (bn : BenchIx) (t : Nat) (s : State) :
    AnsweredIn (some bn) s (execNalryLost bn t s) := onBench_answered fun _ => by simp
theorem execTallyLost_answered (bn : BenchIx) (t : Nat) (s : State) :
    AnsweredIn (some bn) s (execTallyLost bn t s) := onBench_answered fun _ => by simp
theorem execCustodyChange_answered (bn : BenchIx) (t : Nat) (level : Bool) (s : State) :
    AnsweredIn (some bn) s (execCustodyChange bn t level s) := onBench_answered fun _ => by simp
theorem execRunClaimDone_answered (bn : BenchIx) (t : Nat) (claim : Option Bool) (s : State) :
    AnsweredIn (some bn) s (execRunClaimDone bn t claim s) := onBench_answered fun _ => by simp
theorem execTakeover_answered (bn : BenchIx) (t : Nat) (s : State) :
    AnsweredIn (some bn) s (execTakeover bn t s) := onBench_answered fun _ => by simp
theorem execDriveMoment_answered (bn : BenchIx) (t : Nat) (s : State) :
    AnsweredIn (some bn) s (execDriveMoment bn t s) := onBench_answered fun _ => by simp
theorem execCopyCommit_answered (bn : BenchIx) (t : Nat) (item : CopyItem) (s : State) :
    AnsweredIn (some bn) s (execCopyCommit bn t item s) := by
  refine onBench_answered fun b => ?_
  dsimp only
  (repeat' split) <;> simp
theorem execNotice_answered (bn : BenchIx) (t : Nat) (n : Notice) (s : State) :
    AnsweredIn (some bn) s (execNotice bn t n s) := onBench_answered fun _ => by simp
theorem execFullCopyCommit_answered (bn : BenchIx) (t : Nat) (full : FullCopy) (s : State) :
    AnsweredIn (some bn) s (execFullCopyCommit bn t full s) := by
  refine onBench_answered fun b => ?_
  dsimp only
  (repeat' split) <;> simp
theorem execHandoverGapTest_answered (bn : BenchIx) (t : Nat) (s : State) :
    AnsweredIn (some bn) s (execHandoverGapTest bn t s) := onBench_answered fun _ => by simp
theorem execHandoverAckTimeout_answered (bn : BenchIx) (t : Nat) (s : State) :
    AnsweredIn (some bn) s (execHandoverAckTimeout bn t s) := by
  refine onBench_answered fun b => ?_
  dsimp only
  (repeat' split) <;> simp
theorem execHandoverReleaseTimeout_answered (bn : BenchIx) (t : Nat) (s : State) :
    AnsweredIn (some bn) s (execHandoverReleaseTimeout bn t s) := by
  refine onBench_answered fun b => ?_
  dsimp only
  (repeat' split) <;> simp
theorem execGuardSessionTimeout_answered (t : Nat) (s : State) :
    AnsweredIn none s (execGuardSessionTimeout t s) := by
  unfold execGuardSessionTimeout
  have h : Orderly none s { s with hub := s.hub.tick t } := Orderly.refl.hub _
  dsimp only
  split
  · split
    · exact (h.trans Orderly.closeSession).answered
    · exact h.answered
  · exact h.answered
theorem execPaceRecovered_answered (bn : BenchIx) (t rate : Nat) (s : State) :
    AnsweredIn (some bn) s (execPaceRecovered bn t rate s) := onBench_answered fun _ => by simp
theorem execFacePowerReturn_answered (bn : BenchIx) (t : Nat) (s : State) :
    AnsweredIn (some bn) s (execFacePowerReturn bn t s) := onBench_answered fun _ => by simp
theorem execVinInputGood_answered (t : Nat) (inputB : Bool) (s : State) :
    AnsweredIn none s (execVinInputGood t inputB s) := by
  exact (Orderly.refl.hub _).answered
theorem execVbatCalendarLoss_answered (t : Nat) (s : State) :
    AnsweredIn none s (execVbatCalendarLoss t s) := by
  unfold execVbatCalendarLoss
  dsimp only
  split <;> exact (Orderly.refl.hub _).answered
theorem execNalryLaneUp_answered (bn : BenchIx) (t : Nat) (s : State) :
    AnsweredIn (some bn) s (execNalryLaneUp bn t s) := onBench_answered fun _ => by simp
theorem execNalryLaneDown_answered (bn : BenchIx) (t : Nat) (s : State) :
    AnsweredIn (some bn) s (execNalryLaneDown bn t s) := onBench_answered fun _ => by simp
theorem execHaulLinkUp_answered (bn : BenchIx) (t : Nat) (s : State) :
    AnsweredIn (some bn) s (execHaulLinkUp bn t s) := onBench_answered fun _ => by simp
theorem execCanIntegrated_answered (bn : BenchIx) (t : Nat) (k : Fin 2) (s : State) :
    AnsweredIn (some bn) s (execCanIntegrated bn t k s) := onBench_answered fun _ => by simp [apply_ite Bench.ix]
theorem execMdioComplete_answered (bn : BenchIx) (t : Nat) (data : BitVec 16) (s : State) :
    AnsweredIn (some bn) s (execMdioComplete bn t data s) := by
  refine onBench_answered fun b => ?_
  dsimp only
  (repeat' split) <;> simp
theorem execHandoverRelease_answered (bn : BenchIx) (t : Nat) (s : State) :
    AnsweredIn (some bn) s (execHandoverRelease bn t s) := by
  refine onBench_answered fun b => ?_
  dsimp only
  (repeat' split) <;> simp
theorem execFullCopyRequest_answered (bn : BenchIx) (t : Nat) (s : State) :
    AnsweredIn (some bn) s (execFullCopyRequest bn t s) := onBench_answered fun _ => by simp [apply_ite Bench.ix]
theorem execCopyBlock_answered (bn : BenchIx) (t : Nat) (rx : LaneRx) (s : State) :
    AnsweredIn (some bn) s (execCopyBlock bn t rx s) := by
  refine onBench_answered fun b => ?_
  dsimp only
  (repeat' split) <;> simp
/-- A register write that a row of its own stands for is answered as that row is. -/
theorem rowWrite_answered {s : State} {n : BenchIx} {off : Nat} {v : Word} {o : Host.Outcome State Fault Refusal}
    (h : s.rowWrite n off v = some o) : AnsweredIn none s o := by
  unfold State.rowWrite at h
  split at h
  · exact (execBnCntClr_answered ..).of_some h
  · exact (execTmCntClr_answered ..).of_some h
  · exact (execScCntClr_answered ..).of_some h
  · exact (execPeCntClr_answered ..).of_some h
  · exact (execLeCntClr_answered ..).of_some h
  · exact (execMxCntClr_answered ..).of_some h
  · exact (execRsCntClr_answered ..).of_some h
  · exact (execFcCntClr_answered ..).of_some h
  · exact (execQnCntClr_answered ..).of_some h
  · exact (execKfCntClr_answered ..).of_some h
  · exact (execDgCntClr_answered ..).of_some h
  · exact (execHlCntClr_answered ..).of_some h
  · exact (execHaCntClr_answered ..).of_some h
  · exact (execMdioCmd_answered ..).of_some h
  · exact (execMrDataAccess_answered ..).of_some h
  · exact (execMrDataAccess_answered ..).of_some h
  · exact (execCnCntClr_answered ..).of_some h
  · exact (execCnCntClr_answered ..).of_some h
  · exact (execNlCntClr_answered ..).of_some h
  · exact (execQcCntClr_answered ..).of_some h
  · split at h
    · exact (execDropRemainder_answered ..).of_some h
    · split at h
      · exact (execFlush_answered ..).of_some h
      · cases h
  · exact (execFqHostPop_answered ..).of_some h
  · split at h
    · exact (execFqWr_answered ..).of_some h
    · split at h
      · exact (execFqWrEop_answered ..).of_some h
      · cases h
theorem execRegisterWrite_answered (fn : FnIx) (off : Nat) (v : Word) (s : State) :
    AnsweredIn none s (execRegisterWrite fn off v s) := by
  unfold execRegisterWrite
  split
  · exact Orderly.unsupported.answered
  · split
    · split
      · exact execGsCntClr_answered v s
      · exact Orderly.mgWrite.answered
    · dsimp only
      split
      next he => exact rowWrite_answered he
      next => exact (onBench_answered fun _ => Bench.write_ix ..).anywhere
/-- The one bench on which a command or event acts: TIME_SET tells the others. -/
def actsOn (i : Instr) : Option BenchIx :=
  match i with
  | .timeSet .. => none
  | i => benchOf i

theorem exec_answered : ∀ (i : Instr) (s : State), AnsweredIn (actsOn i) s (exec i s)
  | .benchRun c, s => execBenchRun_answered c s
  | .benchShadow c, s => execBenchShadow_answered c s
  | .benchHold c, s => execBenchHold_answered c s
  | .benchWarmRestart c target, s => execBenchWarmRestart_answered c target s
  | .benchColdStart c, s => execBenchColdStart_answered c s
  | .benchStop c, s => execBenchStop_answered c s
  | .benchReset c, s => execBenchReset_answered c s
  | .hostKeepalive c, s => execHostKeepalive_answered c s
  | .progLoad c img, s => execProgLoad_answered c img s
  | .progActivate c, s => execProgActivate_answered c s
  | .progChange c ack maxDefer, s => execProgChange_answered c ack maxDefer s
  | .progChangeAbort c, s => execProgChangeAbort_answered c s
  | .progSetTiming c task p ph off d g, s => execProgSetTiming_answered c task p ph off d g s
  | .forceSet c point value, s => execForceSet_answered c point value s
  | .forceClear c point, s => execForceClear_answered c point s
  | .loopSetMode c w, s => execLoopSetMode_answered c w s
  | .loopSetSp c w sp, s => execLoopSetSp_answered c w sp s
  | .loopSetOut c w out, s => execLoopSetOut_answered c w out s
  | .loopTune c w v0 v1 v2 v3 v4 v5 v6, s => execLoopTune_answered c w v0 v1 v2 v3 v4 v5 v6 s
  | .loopSetTable c w data, s => execLoopSetTable_answered c w data s
  | .loopClear c w, s => execLoopClear_answered c w s
  | .rcpLoadSteps c first count entries, s => execRcpLoadSteps_answered c first count entries s
  | .rcpStart c slot first abort lo hi flags, s => execRcpStart_answered c slot first abort lo hi flags s
  | .rcpPause c slot lo hi late, s => execRcpPause_answered c slot lo hi late s
  | .rcpResume c slot lo hi late, s => execRcpResume_answered c slot lo hi late s
  | .rcpSkip c slot step lo hi late, s => execRcpSkip_answered c slot step lo hi late s
  | .rcpAbort c slot lo hi late, s => execRcpAbort_answered c slot lo hi late s
  | .mxMove c w target lo hi, s => execMxMove_answered c w target lo hi s
  | .mxJog c w lo hi, s => execMxJog_answered c w lo hi s
  | .mxSetDyn c w vmax acc dec, s => execMxSetDyn_answered c w vmax acc dec s
  | .mxStop c w, s => execMxStop_answered c w s
  | .mxHome c w lo hi, s => execMxHome_answered c w lo hi s
  | .mxSetPos c w p, s => execMxSetPos_answered c w p s
  | .mxClear c w, s => execMxClear_answered c w s
  | .faceFaultClear c, s => execFaceFaultClear_answered c s
  | .faceEncSet c w count lo hi, s => execFaceEncSet_answered c w count lo hi s
  | .qnUnlock c pw oper, s => execQnUnlock_answered c pw oper s
  | .qnLock c, s => execQnLock_answered c s
  | .qnCommit c crc oper, s => execQnCommit_answered c crc oper s
  | .qnSetPassword c old new oper, s => execQnSetPassword_answered c old new oper s
  | .qnFaultClear c oper sources back, s => execQnFaultClear_answered c oper sources back s
  | .qnSetRef c w pos lo hi, s => execQnSetRef_answered c w pos lo hi s
  | .qnLogRead c first count, s => execQnLogRead_answered c first count s
  | .kfArm c w pre post, s => execKfArm_answered c w pre post s
  | .kfDisarm c w, s => execKfDisarm_answered c w s
  | .kfTrigger c w, s => execKfTrigger_answered c w s
  | .kfRead c w, s => execKfRead_answered c w s
  | .dgSetProfiles c profs, s => execDgSetProfiles_answered c profs s
  | .dgCloseNow c, s => execDgCloseNow_answered c s
  | .hlRead c first count, s => execHlRead_answered c first count s
  | .hlCloseNow c, s => execHlCloseNow_answered c s
  | .haulStationSet c w, s => execHaulStationSet_answered c w s
  | .canRecover c w, s => execCanRecover_answered c w s
  | .canObjSet c w, s => execCanObjSet_answered c w s
  | .redunHandover c lo hi maxDefer, s => execRedunHandover_answered c lo hi maxDefer s
  | .redunResync c, s => execRedunResync_answered c s
  | .timeSet c lo hi, s => execTimeSet_answered c lo hi s
  | .timeRead c, s => execTimeRead_answered c s
  | .guardOpen c oper, s => execGuardOpen_answered c oper s
  | .guardClose c, s => execGuardClose_answered c s
  | .guardLogRead c first count, s => execGuardLogRead_answered c first count s
  | .qnPasswordReplace c pw, s => execQnPasswordReplace_answered c pw s
  | .debugOpen c, s => execDebugOpen_answered c s
  | .fwLoad c version fate, s => execFwLoad_answered c version fate s
  | .fwSelect c, s => execFwSelect_answered c s
  | .fwInfo c, s => execFwInfo_answered c s
  | .readStatus b noResp, s => execReadStatus_answered b noResp s
  | .bedrockHold mask noResp, s => execBedrockHold_answered mask noResp s
  | .outputsOff mask noResp, s => execOutputsOff_answered mask noResp s
  | .bedrockReset b noResp, s => execBedrockReset_answered b noResp s
  | .releaseCustody mask noResp, s => execReleaseCustody_answered mask noResp s
  | .readRecord b noResp, s => execReadRecord_answered b noResp s
  | .readTime b noResp, s => execReadTime_answered b noResp s
  | .coithNop k, s => execCoithNop_answered k s
  | .coithAdd k d a b h sat, s => execCoithAdd_answered k d a b h sat s
  | .coithSub k d a b h sat, s => execCoithSub_answered k d a b h sat s
  | .coithAddi k d a imm, s => execCoithAddi_answered k d a imm s
  | .coithMul k d a b h sat, s => execCoithMul_answered k d a b h sat s
  | .coithDiv k d a b, s => execCoithDiv_answered k d a b s
  | .coithRem k d a b, s => execCoithRem_answered k d a b s
  | .coithAbs k d a neg h sat, s => execCoithAbs_answered k d a neg h sat s
  | .coithAnd k d a b, s => execCoithAnd_answered k d a b s
  | .coithOr k d a b, s => execCoithOr_answered k d a b s
  | .coithXor k d a b, s => execCoithXor_answered k d a b s
  | .coithAndi k d a imm, s => execCoithAndi_answered k d a imm s
  | .coithOri k d a imm, s => execCoithOri_answered k d a imm s
  | .coithXori k d a imm, s => execCoithXori_answered k d a imm s
  | .coithLui k d imm, s => execCoithLui_answered k d imm s
  | .coithShf k d a b op byReg amt, s => execCoithShf_answered k d a b op byReg amt s
  | .coithBit k d a ins pos width1, s => execCoithBit_answered k d a ins pos width1 s
  | .coithMinmax k d a b max h, s => execCoithMinmax_answered k d a b max h s
  | .coithCmp k d a b cond, s => execCoithCmp_answered k d a b cond s
  | .coithCmpi k d a cond imm, s => execCoithCmpi_answered k d a cond imm s
  | .coithSel k d a b c, s => execCoithSel_answered k d a b c s
  | .coithLim k d a b h, s => execCoithLim_answered k d a b h s
  | .coithQmul k d a b, s => execCoithQmul_answered k d a b s
  | .coithMpy k a b neg, s => execCoithMpy_answered k a b neg s
  | .coithMac k a b sub, s => execCoithMac_answered k a b sub s
  | .coithLda k a f, s => execCoithLda_answered k a f s
  | .coithSac k d q30 sh, s => execCoithSac_answered k d q30 sh s
  | .coithSta k d, s => execCoithSta_answered k d s
  | .coithAsh k sh, s => execCoithAsh_answered k sh s
  | .coithCls k d a ofReg, s => execCoithCls_answered k d a ofReg s
  | .coithFadd k d a b sub, s => execCoithFadd_answered k d a b sub s
  | .coithFmul k d a b, s => execCoithFmul_answered k d a b s
  | .coithFdiv k d a b, s => execCoithFdiv_answered k d a b s
  | .coithFsqrt k d a, s => execCoithFsqrt_answered k d a s
  | .coithFcmp k d a b op, s => execCoithFcmp_answered k d a b op s
  | .coithFcvt k d a op, s => execCoithFcvt_answered k d a op s
  | .coithFmisc k d a b op, s => execCoithFmisc_answered k d a b op s
  | .coithTadd k d a b sub, s => execCoithTadd_answered k d a b sub s
  | .coithTcmp k d a b op, s => execCoithTcmp_answered k d a b op s
  | .coithRdt k d op, s => execCoithRdt_answered k d op s
  | .coithLdw k d base off, s => execCoithLdw_answered k d base off s
  | .coithLdh k d base off, s => execCoithLdh_answered k d base off s
  | .coithLdd k d base off, s => execCoithLdd_answered k d base off s
  | .coithStw k d base off, s => execCoithStw_answered k d base off s
  | .coithSth k d base off, s => execCoithSth_answered k d base off s
  | .coithStd k d base off, s => execCoithStd_answered k d base off s
  | .coithLdx k d a b f scale, s => execCoithLdx_answered k d a b f scale s
  | .coithStx k d a b f scale, s => execCoithStx_answered k d a b f scale s
  | .coithBr k a cond off, s => execCoithBr_answered k a cond off s
  | .coithLoop k d count1 len, s => execCoithLoop_answered k d count1 len s
  | .coithCall k fb ioff, s => execCoithCall_answered k fb ioff s
  | .coithRet k, s => execCoithRet_answered k s
  | .coithEnd k, s => execCoithEnd_answered k s
  | .coithSetf k d a slot, s => execCoithSetf_answered k d a slot s
  | .coithPost k d a, s => execCoithPost_answered k d a s
  | .coithFwr k d a n eop, s => execCoithFwr_answered k d a n eop s
  | .coithFrd k d a n, s => execCoithFrd_answered k d a n s
  | .coithPtr k d a, s => execCoithPtr_answered k d a s
  | .coithPtw k d a b own, s => execCoithPtw_answered k d a b own s
  | .coithCsr k d a clear, s => execCoithCsr_answered k d a clear s
  | .coithMac2 k a b, s => execCoithMac2_answered k a b s
  | .coithChk k a code, s => execCoithChk_answered k a code s
  | .coithPack k d a b, s => execCoithPack_answered k d a b s
  | .coithCrc k d a, s => execCoithCrc_answered k d a s
  | .tapBypass, s => execTapBypass_answered s
  | .tapIdcode, s => execTapIdcode_answered s
  | .tapSamplePreload, s => execTapSamplePreload_answered s
  | .tapExtest, s => execTapExtest_answered s
  | .tapClamp, s => execTapClamp_answered s
  | .tapHighz, s => execTapHighz_answered s
  | .tapDebug, s => execTapDebug_answered s
  | .registerWrite fn off v, s => execRegisterWrite_answered fn off v s
  | .unsupportedRequest fn write, s => execUnsupportedRequest_answered fn write s
  | .lowWordRead fn off, s => execLowWordRead_answered fn off s
  | .pointValueRead b p, s => execPointValueRead_answered b p s
  | .runStateRead b slot, s => execRunStateRead_answered b slot s
  | .forceCommit b j w, s => execForceCommit_answered b j w s
  | .dbCmdTail b v, s => execDbCmdTail_answered b v s
  | .dbCplHead b v, s => execDbCplHead_answered b v s
  | .dbStrHead b v, s => execDbStrHead_answered b v s
  | .dbEvtHead b v, s => execDbEvtHead_answered b v s
  | .mboxDoorbell v, s => execMboxDoorbell_answered v s
  | .queueEnable b q v, s => execQueueEnable_answered b q v s
  | .queueDisable b q v, s => execQueueDisable_answered b q v s
  | .msixUnmask fn v, s => execMsixUnmask_answered fn v s
  | .dropRemainder b n, s => execDropRemainder_answered b n s
  | .flush b n, s => execFlush_answered b n s
  | .fqHostPop b n, s => execFqHostPop_answered b n s
  | .fqWr b n w, s => execFqWr_answered b n w s
  | .fqWrEop b n w, s => execFqWrEop_answered b n w s
  | .scCtrlWrite b v, s => execScCtrlWrite_answered b v s
  | .scFlowWrite b f v, s => execScFlowWrite_answered b f v s
  | .scQcfgWrite b q v, s => execScQcfgWrite_answered b q v s
  | .fqCfgWrite b n v, s => execFqCfgWrite_answered b n v s
  | .fqSpillWrite b n v, s => execFqSpillWrite_answered b n v s
  | .bnDramCaptureWrite b v, s => execBnDramCaptureWrite_answered b v s
  | .tmPaceLimWrite b v, s => execTmPaceLimWrite_answered b v s
  | .tmPaceRestWrite b v, s => execTmPaceRestWrite_answered b v s
  | .mdioCmd b v, s => execMdioCmd_answered b v s
  | .mrDataAccess b k write, s => execMrDataAccess_answered b k write s
  | .rxBufferLockRead b k buf, s => execRxBufferLockRead_answered b k buf s
  | .rxBufferReleaseRead b k buf, s => execRxBufferReleaseRead_answered b k buf s
  | .guardWrite off v g mram, s => execGuardWrite_answered off v g mram s
  | .guardEffect b t, s => execGuardEffect_answered b t s
  | .bnCntClr b v, s => execBnCntClr_answered b v s
  | .tmCntClr b v, s => execTmCntClr_answered b v s
  | .scCntClr b v, s => execScCntClr_answered b v s
  | .peCntClr b v, s => execPeCntClr_answered b v s
  | .leCntClr b v, s => execLeCntClr_answered b v s
  | .rsCntClr b v, s => execRsCntClr_answered b v s
  | .mxCntClr b v, s => execMxCntClr_answered b v s
  | .fcCntClr b v, s => execFcCntClr_answered b v s
  | .qnCntClr b v, s => execQnCntClr_answered b v s
  | .kfCntClr b v, s => execKfCntClr_answered b v s
  | .dgCntClr b v, s => execDgCntClr_answered b v s
  | .hlCntClr b v, s => execHlCntClr_answered b v s
  | .haCntClr b v, s => execHaCntClr_answered b v s
  | .cnCntClr b k v, s => execCnCntClr_answered b k v s
  | .nlCntClr b v, s => execNlCntClr_answered b v s
  | .qcCntClr b v, s => execQcCntClr_answered b v s
  | .gsCntClr v, s => execGsCntClr_answered v s
  | .functionLevelReset fn d3, s => execFunctionLevelReset_answered fn d3 s
  | .hotReset, s => execHotReset_answered s
  | .hubReset, s => execHubReset_answered s
  | .hostReadError b q list, s => execHostReadError_answered b q list s
  | .commandTake b p, s => execCommandTake_answered b p s
  | .streamRecordWrite b t, s => execStreamRecordWrite_answered b t s
  | .interruptCoalesceTimeout b t events, s => execInterruptCoalesceTimeout_answered b t events s
  | .supplyGood t vinA vinB, s => execSupplyGood_answered t vinA vinB s
  | .supplyLost t, s => execSupplyLost_answered t s
  | .vinInputLost t inputB, s => execVinInputLost_answered t inputB s
  | .vbatLow t, s => execVbatLow_answered t s
  | .mrstNAssert t, s => execMrstNAssert_answered t s
  | .mrstNRelease t mid pair, s => execMrstNRelease_answered t mid pair s
  | .benchStartComplete b t selftest fwCurOk fwAltOk imgOk headerOk guardA guardB quoinA quoinB, s => execBenchStartComplete_answered b t selftest fwCurOk fwAltOk imgOk headerOk guardA guardB quoinA quoinB s
  | .coreRailLow b t, s => execCoreRailLow_answered b t s
  | .refLost b t refB, s => execRefLost_answered b t refB s
  | .refGood b t refB, s => execRefGood_answered b t refB s
  | .timeLockTimeout b t checks, s => execTimeLockTimeout_answered b t checks s
  | .freeEntered b t, s => execFreeEntered_answered b t s
  | .relockComplete b t, s => execRelockComplete_answered b t s
  | .epochMarker b t m checks, s => execEpochMarker_answered b t m checks s
  | .syncMarker t m, s => execSyncMarker_answered t m s
  | .syncLost t, s => execSyncLost_answered t s
  | .ptmDialogue t m, s => execPtmDialogue_answered t m s
  | .paceLow b t rate, s => execPaceLow_answered b t rate s
  | .paceFault b t, s => execPaceFault_answered b t s
  | .tjHigh b t tj, s => execTjHigh_answered b t tj s
  | .tjRecovered b t tj, s => execTjRecovered_answered b t tj s
  | .raiseDemand b t task, s => execRaiseDemand_answered b t task s
  | .barrierFrame b t toFace si, s => execBarrierFrame_answered b t toFace si s
  | .barrierLinkLoss b t, s => execBarrierLinkLoss_answered b t s
  | .faceLinkLoss b t, s => execFaceLinkLoss_answered b t s
  | .livenessToken b t pulse, s => execLivenessToken_answered b t pulse s
  | .livenessLoss b t, s => execLivenessLoss_answered b t s
  | .facePowerLoss b t, s => execFacePowerLoss_answered b t s
  | .diSample b t raw low rb lplus, s => execDiSample_answered b t raw low rb lplus s
  | .diChangeAccepted b t ch, s => execDiChangeAccepted_answered b t ch s
  | .diWireBreak b t ch, s => execDiWireBreak_answered b t ch s
  | .fieldWarn b t, s => execFieldWarn_answered b t s
  | .fieldWarnClear b t, s => execFieldWarnClear_answered b t s
  | .lockout b t, s => execLockout_answered b t s
  | .reenabled b t, s => execReenabled_answered b t s
  | .latchOff b t ch, s => execLatchOff_answered b t ch s
  | .readBackMismatch b t ch, s => execReadBackMismatch_answered b t ch s
  | .aiSample b t k x, s => execAiSample_answered b t k x s
  | .aiSampleWrite b t k, s => execAiSampleWrite_answered b t k s
  | .aoSample b t m x, s => execAoSample_answered b t m x s
  | .encoderSample b t e ra rb rz, s => execEncoderSample_answered b t e ra rb rz s
  | .encoderUpdate b t e, s => execEncoderUpdate_answered b t e s
  | .zCapture b t e, s => execZCapture_answered b t e s
  | .inputInstant b t task, s => execInputInstant_answered b t task s
  | .imageCopyDone b t task, s => execImageCopyDone_answered b t task s
  | .dispatch b t core, s => execDispatch_answered b t core s
  | .endOfLogic b t task, s => execEndOfLogic_answered b t task s
  | .outputInstant b t, s => execOutputInstant_answered b t s
  | .watchdogTrip b t task, s => execWatchdogTrip_answered b t task s
  | .snapshotComplete b t, s => execSnapshotComplete_answered b t s
  | .restartCheckDone b t fail rest, s => execRestartCheckDone_answered b t fail rest s
  | .hostSilence b t, s => execHostSilence_answered b t s
  | .opHoursTick b t, s => execOpHoursTick_answered b t s
  | .itemOverrun b t core, s => execItemOverrun_answered b t core s
  | .reorderRelease b t flow, s => execReorderRelease_answered b t flow s
  | .fifoNotify b t n, s => execFifoNotify_answered b t n s
  | .moverPageCopy b t, s => execMoverPageCopy_answered b t s
  | .switchGapTest b t, s => execSwitchGapTest_answered b t s
  | .switch b t, s => execSwitch_answered b t s
  | .loopRead b t n, s => execLoopRead_answered b t n s
  | .loopRelease b t n margin, s => execLoopRelease_answered b t n margin s
  | .conditionCheck b t slot, s => execConditionCheck_answered b t slot s
  | .stepBoundary b t slot, s => execStepBoundary_answered b t slot s
  | .candidatePrepared b t slot step, s => execCandidatePrepared_answered b t slot step s
  | .commitMoment b t slot, s => execCommitMoment_answered b t slot s
  | .recipeStartInstant b t slot, s => execRecipeStartInstant_answered b t slot s
  | .pauseInstant b t slot, s => execPauseInstant_answered b t slot s
  | .resumeInstant b t slot, s => execResumeInstant_answered b t slot s
  | .skipInstant b t slot, s => execSkipInstant_answered b t slot s
  | .abortInstant b t slot, s => execAbortInstant_answered b t slot s
  | .moveStart b t a, s => execMoveStart_answered b t a s
  | .stepEdge b t a, s => execStepEdge_answered b t a s
  | .lateEdge b t a, s => execLateEdge_answered b t a s
  | .limitChange b t a inp level edge reverted, s => execLimitChange_answered b t a inp level edge reverted s
  | .pwmPeriod b t vbr, s => execPwmPeriod_answered b t vbr s
  | .holdCurrentDelay b t a, s => execHoldCurrentDelay_answered b t a s
  | .remoteEvaluation b t a apply, s => execRemoteEvaluation_answered b t a apply s
  | .positionPointUpdate b t a, s => execPositionPointUpdate_answered b t a s
  | .laneBSample b t si, s => execLaneBSample_answered b t si s
  | .laneExchange b t okA okB, s => execLaneExchange_answered b t okA okB s
  | .laneLost b t laneB, s => execLaneLost_answered b t laneB s
  | .laneX b t, s => execLaneX_answered b t s
  | .switchDriveTimeout b t laneB, s => execSwitchDriveTimeout_answered b t laneB s
  | .testPulse b t t2 mv, s => execTestPulse_answered b t t2 mv s
  | .channelChange b t laneB ch, s => execChannelChange_answered b t laneB ch s
  | .disc b t j, s => execDisc_answered b t j s
  | .ossdTest b t o, s => execOssdTest_answered b t o s
  | .ossdReadback b t mvA mvB, s => execOssdReadback_answered b t mvA mvB s
  | .ss1Timeout b t laneB, s => execSs1Timeout_answered b t laneB s
  | .speedEvaluation b t, s => execSpeedEvaluation_answered b t s
  | .posX b t q, s => execPosX_answered b t q s
  | .resetEdge b t, s => execResetEdge_answered b t s
  | .qnSessionTimeout b t, s => execQnSessionTimeout_answered b t s
  | .passwordWaitExpiry b t, s => execPasswordWaitExpiry_answered b t s
  | .haulCut b t txs, s => execHaulCut_answered b t txs s
  | .upFrame b t f, s => execUpFrame_answered b t f s
  | .arrivalDeadline b t, s => execArrivalDeadline_answered b t s
  | .linkDown b t, s => execLinkDown_answered b t s
  | .canFrameRx b t k h0 h1 data sof, s => execCanFrameRx_answered b t k h0 h1 data sof s
  | .objectCut b t k n begun, s => execObjectCut_answered b t k n begun s
  | .fifoTxOffer b t k n, s => execFifoTxOffer_answered b t k n s
  | .arbitrationLost b t k, s => execArbitrationLost_answered b t k s
  | .txComplete b t k sof delay, s => execTxComplete_answered b t k sof delay s
  | .canError b t k f phase own late site delay, s => execCanError_answered b t k f phase own late site delay s
  | .busBack b t k, s => execBusBack_answered b t k s
  | .lockTimeout b t k buf, s => execLockTimeout_answered b t k buf s
  | .referenceMessage b t k, s => execReferenceMessage_answered b t k s
  | .refLate b t k begun, s => execRefLate_answered b t k begun s
  | .triggerSample b t src, s => execTriggerSample_answered b t src s
  | .rearmDone b t ch, s => execRearmDone_answered b t ch s
  | .digestUpdate b t, s => execDigestUpdate_answered b t s
  | .intervalEnd b t, s => execIntervalEnd_answered b t s
  | .gaugeSample b x, s => execGaugeSample_answered b x s
  | .periodEnd b t, s => execPeriodEnd_answered b t s
  | .heartbeatTx b t, s => execHeartbeatTx_answered b t s
  | .heartbeatRx b t hb same, s => execHeartbeatRx_answered b t hb same s
  | .tallyToggle b t own, s => execTallyToggle_answered b t own s
  | .nalryLost b t, s => execNalryLost_answered b t s
  | .tallyLost b t, s => execTallyLost_answered b t s
  | .custodyChange b t level, s => execCustodyChange_answered b t level s
  | .runClaimDone b t claim, s => execRunClaimDone_answered b t claim s
  | .takeover b t, s => execTakeover_answered b t s
  | .driveMoment b t, s => execDriveMoment_answered b t s
  | .copyCommit b t item, s => execCopyCommit_answered b t item s
  | .notice b t n, s => execNotice_answered b t n s
  | .fullCopyCommit b t full, s => execFullCopyCommit_answered b t full s
  | .handoverGapTest b t, s => execHandoverGapTest_answered b t s
  | .handoverAckTimeout b t, s => execHandoverAckTimeout_answered b t s
  | .handoverReleaseTimeout b t, s => execHandoverReleaseTimeout_answered b t s
  | .guardSessionTimeout t, s => execGuardSessionTimeout_answered t s
  | .paceRecovered b t rate, s => execPaceRecovered_answered b t rate s
  | .facePowerReturn b t, s => execFacePowerReturn_answered b t s
  | .vinInputGood t inputB, s => execVinInputGood_answered t inputB s
  | .vbatCalendarLoss t, s => execVbatCalendarLoss_answered t s
  | .nalryLaneUp b t, s => execNalryLaneUp_answered b t s
  | .nalryLaneDown b t, s => execNalryLaneDown_answered b t s
  | .haulLinkUp b t, s => execHaulLinkUp_answered b t s
  | .canIntegrated b t k, s => execCanIntegrated_answered b t k s
  | .mdioComplete b t data, s => execMdioComplete_answered b t data s
  | .handoverRelease b t, s => execHandoverRelease_answered b t s
  | .fullCopyRequest b t, s => execFullCopyRequest_answered b t s
  | .copyBlock b t rx, s => execCopyBlock_answered b t rx s

theorem actsOn_eq_benchOf {i : Instr} (h : ∀ c lo hi, i ≠ .timeSet c lo hi) : actsOn i = benchOf i := by
  unfold actsOn
  split
  · exact absurd rfl (h _ _ _)
  · rfl

/-- Settles O57: every row is answered with a next state that is orderly. -/
theorem everyCommandIsAnsweredInItsBench : Obligations.EveryCommandIsAnsweredInItsBench := by
  intro i s
  obtain ⟨u, he, h⟩ := exec_answered i s
  exact ⟨u, he, h.queue, fun n m hb hne ht => h.others n ((actsOn_eq_benchOf ht).trans hb) m hne⟩

/-- Settles O58: a step runs a row, and every row keeps the sessions closed and every index. -/
theorem stepKeepsSessionsClosedAndIndices : Obligations.StepKeepsSessionsClosedAndIndices := by
  intro s t hs hix hstep
  unfold step at hstep
  split at hstep
  · cases hstep
    exact ⟨hs, hix⟩
  · obtain ⟨u, he, h⟩ := exec_answered _ _
    cases he.symm.trans hstep
    exact ⟨h.sessions hs, fun n => (h.index n).trans (hix n)⟩

/-- Settles O56: by the two branches of `step`. -/
theorem stepRunsTheFront : Obligations.StepRunsTheFront := by
  intro s c rest
  constructor <;> intro h <;> unfold step <;> rw [h]

end Sys2Proof.Machine
end

section
/-!
# Rows as changes of one bench

What a row gives where it acts on one bench, what a command gives where it is accepted, and what a bench has sent since: the
shapes in which the statements about rows are proved.
-/

namespace Sys2Proof.Machine

/-! ### A bench put back -/

section put
variable {s : State} {n : BenchIx}

/-- A bench put back is as given, but for its Quoin unit, whose session may close. -/
theorem State.putBench_bench (s : State) (n : BenchIx) (b : Bench) : ∃ q, (s.putBench n b).bench n = { b with qn := q } := by
  rcases s.putBench_self n b with h | h
  · exact ⟨b.qn, h⟩
  · obtain ⟨q, hq⟩ := b.quoinClose_only s.hub.calNow
    exact ⟨q, h.trans hq⟩

/-- In CONFIGURE, and while no session is open, a bench put back is as given. -/
theorem State.putBench_bench_self {b : Bench} (h : b.bn.mode = .configure ∨ b.qn.session = none) :
    (s.putBench n b).bench n = b := by
  obtain h | h := h
  · obtain ⟨_, _, e, _⟩ := s.putBench_spec n b
    have hv : ∀ x : Bench, (s.benches.set n x)[n] = x := fun x => by simp
    unfold State.putBench
    simp only [h, if_true]
    split <;> split <;> exact hv _
  · rcases s.putBench_self n b with e | e
    · exact e
    · rw [e, b.quoinClose_none _ h]

/-- The Quoin unit of a bench put back: a session that closes takes its staged words, and leaves its entry in the log. -/
theorem State.putBench_quoin (s : State) (n : BenchIx) (b : Bench) :
    ∃ x w k l, (s.putBench n b).bench n = { b with qn := { b.qn with session := x, staged := w, logSeq := k, log := l } } := by
  rcases s.putBench_self n b with h | h
  · exact ⟨_, _, _, _, h⟩
  · rw [h]
    unfold Bench.quoinClose
    split
    · exact ⟨_, _, _, _, rfl⟩
    · exact ⟨_, _, _, _, rfl⟩

variable {i : Instr} {f : Bench → Bench} {P : Bench → Prop}

theorem gives_of_onBench_quoin (he : exec i s = s.onBench n f)
    (hp : ∀ x w k l, P { f (s.bench n) with qn := { (f (s.bench n)).qn with session := x, staged := w, logSeq := k, log := l } }) :
    Gives i n s P := by
  obtain ⟨x, w, k, l, hq⟩ := s.putBench_quoin n (f (s.bench n))
  exact ⟨_, he, s.putBench_only n _, hq ▸ hp x w k l⟩

/-- A row that acts on one bench gives what its operation gives, whatever becomes of an open Quoin session. -/
theorem gives_of_onBench (he : exec i s = s.onBench n f) (hp : ∀ q, P { f (s.bench n) with qn := q }) : Gives i n s P := by
  obtain ⟨q, hq⟩ := s.putBench_bench n (f (s.bench n))
  exact ⟨_, he, s.putBench_only n _, hq ▸ hp q⟩

/-- The same where the operation leaves no session to close. -/
theorem gives_of_onBench_closed (he : exec i s = s.onBench n f)
    (hc : (f (s.bench n)).bn.mode = .configure ∨ (f (s.bench n)).qn.session = none) (hp : P (f (s.bench n))) : Gives i n s P :=
  ⟨_, he, s.putBench_only n _, (State.putBench_bench_self hc).symm ▸ hp⟩

theorem Gives.mono {Q : Bench → Prop} (h : Gives i n s P) (hq : ∀ b, P b → Q b) : Gives i n s Q := by
  obtain ⟨u, he, ho, hp⟩ := h
  exact ⟨u, he, ho, hq _ hp⟩

end put

/-! ### A command accepted, refused in its mode, or not issued -/

section accept
variable {i : Instr} {c : Cmd} {modes : Mode → Bool} {k : Bench → Bench}

theorem Bench.accept_of_takes {b : Bench} (hi : b.issued i = true) (ht : b.Takes modes) :
    Bench.accept i c modes k b = k (b.accepted c) := by
  obtain ⟨hr, hw, hm⟩ := ht
  simp [Bench.accept, hi, hr, hw, hm]

variable {s : State} {P : Bench → Prop}

/-- A command taken in its mode gives what its operation makes of the bench that accepted it. -/
theorem serves_of_accept (he : exec i s = s.onBench c.bench (Bench.accept i c modes k)) (ht : (s.bench c.bench).Takes modes)
    (hp : ∀ q, P { k ((s.bench c.bench).accepted c) with qn := q }) : Serves i c s P := fun hi =>
  gives_of_onBench he fun q => by rw [Bench.accept_of_takes hi ht]; exact hp q

theorem serves_of_accept_closed (he : exec i s = s.onBench c.bench (Bench.accept i c modes k)) (ht : (s.bench c.bench).Takes modes)
    (hc : (k ((s.bench c.bench).accepted c)).bn.mode = .configure ∨ (k ((s.bench c.bench).accepted c)).qn.session = none)
    (hp : P (k ((s.bench c.bench).accepted c))) : Serves i c s P := fun hi =>
  gives_of_onBench_closed he (by rwa [Bench.accept_of_takes hi ht]) (by rwa [Bench.accept_of_takes hi ht])

end accept

/-! ### What a bench has sent since, and the completions among it -/

theorem Queue.advance_en (n : Nat) (q : Queue) : (Queue.advance n q).en = q.en := by
  simp only [Queue.advance]
  split <;> rfl

/-- A later bench has sent more, with the completion queue as enabled as before and no command in flight orphaned anew. -/
structure Bench.Carries (b b' : Bench) : Prop where
  sent : ∃ l, b'.qc.sent = b.qc.sent ++ l
  en : (b'.qc.q[(1 : Fin 4)]).en = (b.qc.q[(1 : Fin 4)]).en
  inflight : ∀ f ∈ b'.qc.inflight, ∃ g ∈ b.qc.inflight, g.tag = f.tag ∧ g.orphan = f.orphan

namespace Bench.Carries
variable {b b' b'' : Bench}

theorem of_qc (h : b'.qc = b.qc) : b.Carries b' :=
  ⟨⟨[], by rw [h, List.append_nil]⟩, by rw [h], fun f hf => ⟨f, h ▸ hf, rfl, rfl⟩⟩

theorem refl : b.Carries b := of_qc rfl

theorem trans (h : b.Carries b') (g : b'.Carries b'') : b.Carries b'' := by
  obtain ⟨l, hl⟩ := h.sent
  obtain ⟨m, hm⟩ := g.sent
  refine ⟨⟨l ++ m, by rw [hm, hl, List.append_assoc]⟩, g.en.trans h.en, fun f hf => ?_⟩
  obtain ⟨x, hx, ht, ho⟩ := g.inflight f hf
  obtain ⟨y, hy, ht', ho'⟩ := h.inflight x hx
  exact ⟨y, hy, ht'.trans ht, ho'.trans ho⟩

theorem accepted (b : Bench) (c : Cmd) : b.Carries (b.accepted c) where
  sent := ⟨[], (List.append_nil _).symm⟩
  en := rfl
  inflight f hf := by
    simp only [Bench.accepted, List.mem_map] at hf
    obtain ⟨g, hg, rfl⟩ := hf
    refine ⟨g, hg, ?_⟩
    split <;> exact ⟨rfl, rfl⟩

theorem vector (b : Bench) (v : Nat) : b.Carries (b.vector v) := by
  unfold Bench.vector
  split
  · exact of_qc rfl
  · exact ⟨⟨_, rfl⟩, rfl, fun f hf => ⟨f, hf, rfl, rfl⟩⟩

theorem setQueue (b : Bench) (q : Fin 4) {f : Queue → Queue} (h : ∀ x, (f x).en = x.en) : b.Carries (b.setQueue q f) where
  sent := ⟨[], (List.append_nil _).symm⟩
  en := by
    by_cases e : q = 1
    · simp [Bench.setQueue, upd, e, h]
    · have hv : q.val ≠ 1 := fun hv => e (Fin.ext hv)
      simp [Bench.setQueue, upd, Vector.getElem_set_ne, hv]
  inflight g hg := ⟨g, hg, rfl, rfl⟩

/-- A change of the queues' record that sends more and keeps the queues and what is in flight. -/
theorem of_sent {l : List HostMsg} (hs : b'.qc.sent = b.qc.sent ++ l) (hq : b'.qc.q = b.qc.q)
    (hi : b'.qc.inflight = b.qc.inflight) : b.Carries b' :=
  ⟨⟨l, hs⟩, by rw [hq], fun f hf => ⟨f, hi ▸ hf, rfl, rfl⟩⟩

theorem qcError (b : Bench) (n : Nat) : b.Carries (b.qcError n) := by
  unfold Bench.qcError
  refine .trans ?_ (vector ..)
  exact of_sent (l := []) (List.append_nil _).symm rfl rfl

theorem counted (b : Bench) (q : Fin 4) (v : Nat) : b.Carries (b.counted q v) := by
  have set (x : Queue) (hx : x.en = (b.qc.q[q]).en) : b.Carries (b.setQueue q fun _ => x) := by
    refine ⟨⟨[], (List.append_nil _).symm⟩, ?_, fun f hf => ⟨f, hf, rfl, rfl⟩⟩
    by_cases e : q = 1
    · subst e
      simp [Bench.setQueue, upd, hx]
    · have hv : q.val ≠ 1 := fun hv => e (Fin.ext hv)
      simp [Bench.setQueue, upd, Vector.getElem_set_ne, hv]
  unfold Bench.counted
  extract_lets qu qu'
  split
  · refine .trans ?_ (vector ..)
    exact set _ rfl
  · exact set _ rfl

theorem event (b : Bench) (src : Nat) (d0 d1 d2 : Word) : b.Carries (b.event src d0 d1 d2) := by
  unfold Bench.event
  extract_lets q m _ b₁ b₂
  split
  · refine .trans ?_ (counted ..)
    refine .trans ?_ (setQueue b₁ 3 (Queue.advance_en 1))
    exact of_sent (l := [m]) rfl rfl rfl
  · refine .trans ?_ (qcError ..)
    exact of_sent (l := []) (List.append_nil _).symm rfl rfl

theorem raise (b : Bench) (blk : Fin 18) (bit : Nat) (d0 d1 d2 : Word) : b.Carries (b.raise blk bit d0 d1 d2) := by
  unfold Bench.raise
  refine .trans ?_ (event ..)
  exact of_qc rfl

theorem dropTag (b : Bench) (tag : BitVec 16) : b.Carries (b.dropTag tag) :=
  ⟨⟨[], (List.append_nil _).symm⟩, rfl, fun f hf => ⟨f, List.mem_of_mem_eraseP hf, rfl, rfl⟩⟩

theorem postCompletion (b : Bench) (tag : BitVec 16) (noirq : Bool) (st : Status) (r : Nat) :
    b.Carries (b.postCompletion tag noirq st r) := by
  unfold Bench.postCompletion
  extract_lets q m _ b₁
  split
  · have h : b.Carries b₁ := by
      refine .trans ?_ (setQueue _ 1 (Queue.advance_en 1))
      exact of_sent (l := [m]) rfl rfl rfl
    split
    · exact h
    · exact h.trans (counted ..)
  · refine .trans ?_ (qcError ..)
    exact of_sent (l := []) (List.append_nil _).symm rfl rfl

theorem completeTag (b : Bench) (tag : BitVec 16) (noirq : Bool) (st : Status) (r : Nat) :
    b.Carries (b.completeTag tag noirq st r) := by
  unfold Bench.completeTag
  split
  · split
    · exact dropTag ..
    · exact (dropTag ..).trans (postCompletion ..)
  · exact postCompletion ..

theorem complete (b : Bench) (c : Cmd) (st : Status) (r : Nat) : b.Carries (b.complete c st r) := completeTag ..

theorem answers {c : Cmd} (h : b.Carries b') (ha : b.Answers c) : b'.Answers c := by
  obtain ⟨hen, ho⟩ := ha
  refine ⟨h.en.trans hen, fun f hf ht => ?_⟩
  obtain ⟨g, hg, hgt, hgo⟩ := h.inflight f hf
  exact hgo ▸ ho g hg (hgt.trans ht)

end Bench.Carries

/-- While the completion queue is enabled, a completion is sent first of what follows. -/
theorem Bench.postCompletion_sent {b : Bench} (tag : BitVec 16) (noirq : Bool) (st : Status) (r : Nat)
    (h : (b.qc.q[(1 : Fin 4)]).en = true) :
    ∃ ph hd l, (b.postCompletion tag noirq st r).qc.sent = b.qc.sent ++ HostMsg.completion r st tag ph hd :: l := by
  unfold Bench.postCompletion
  simp only [h, if_true]
  split
  · exact ⟨_, _, [], rfl⟩
  · obtain ⟨l, hl⟩ := (Bench.Carries.counted _ 1 1).sent
    exact ⟨_, _, l, by rw [hl]; exact (List.append_assoc _ [_] l)⟩

/-- An answered command's completion is sent first of what follows. -/
theorem Bench.complete_sent {b : Bench} {c : Cmd} (st : Status) (r : Nat) (h : b.Answers c) :
    ∃ ph hd l, (b.complete c st r).qc.sent = b.qc.sent ++ HostMsg.completion r st c.tag ph hd :: l := by
  obtain ⟨hen, ho⟩ := h
  unfold Bench.complete Bench.completeTag
  split
  case h_1 f hf =>
    have hm := List.find?_some hf
    have : f.orphan = false := ho f (List.mem_of_find?_eq_some hf) (by simpa using hm)
    rw [if_neg (by simp [this])]
    exact Bench.postCompletion_sent (b := b.dropTag c.tag) _ _ _ _ hen
  case h_2 => exact Bench.postCompletion_sent _ _ _ _ hen

/-- What carries on a bench to the completion, and what follows it, leaves the completion among what has been sent. -/
theorem completed_of_carries {c : Cmd} {st : Status} {r : Nat} {b b₁ b' : Bench} (ha : b.Answers c) (h : b.Carries b₁)
    (h' : (b₁.complete c st r).Carries b') : Completed c st r b b' := by
  obtain ⟨l, hl⟩ := h.sent
  obtain ⟨ph, hd, m, hm⟩ := Bench.complete_sent (b := b₁) st r (h.answers ha)
  obtain ⟨l', hl'⟩ := h'.sent
  exact ⟨l, ph, hd, m ++ l', by simp [hl', hm, hl]⟩

/-- An accepted command that completes, with nothing sent in between. -/
theorem completed_accepted {c : Cmd} {st : Status} {r : Nat} {b b₁ b' : Bench} (ha : b.Answers c)
    (h : b₁.qc = (b.accepted c).qc) (h' : b'.qc = (b₁.complete c st r).qc) : Completed c st r b b' :=
  completed_of_carries ha ((Bench.Carries.accepted b c).trans (.of_qc h)) (.of_qc h')

end Sys2Proof.Machine
end

section
/-!
# Counters, reads, supply and reset

O1, O59, O46 and O54: registers that clear counters, reads that hold words, and what the module does to all benches at once.
-/

namespace Sys2Proof.Machine

/-! ### Counters that stand in a vector -/

section counters
variable (b : Bench) {j : Nat}

theorem getD_mapFinIdx_clear {m : Nat} (x : Vector Word m) (v : Word) (h : j < m) :
    (x.mapFinIdx fun i c _ => if bitOf v i then 0 else c).toList.getD j 0 = if bitOf v j then 0 else x.toList.getD j 0 := by
  simp [List.getD_eq_getElem?_getD, h]

theorem Bench.scWord_counter (h : j < 10) : b.scWord (0x60 + 4 * j) = b.sc.cnt.toList.getD j 0 := by
  interval_cases j <;> rfl

theorem Bench.canWord_counter (k : Fin 2) (h : j < 12) : b.canWord k (0x40 + 4 * j) = (b.can[k]).cnt.toList.getD j 0 := by
  interval_cases j <;> rfl

theorem Bench.nlWord_counter (h : j < 5) : b.nlWord (0x20 + 4 * j) = b.nl.cnt.toList.getD j 0 := by
  interval_cases j <;> simp [Bench.nlWord]

/-- PE_CNT_CLR takes the longest run of every task back to 0 when its bit 16 is 1, and nothing else of a task. -/
theorem getElem_map_clearMax (x : Vector TaskRun 16) (c : Bool) (k : Fin 16) :
    (if c then x.map (fun r => { r with max := 0 }) else x)[k] = if c then { x[k] with max := 0 } else x[k] := by
  cases c <;> simp

end counters

/-- Settles O1: each row writes its counters one by one, and a counter reads back as its register's word. -/
theorem countersClearByTheirBits : Obligations.CountersClearByTheirBits := by
  intro s n v k task b frame clears
  have vector {i : Instr} {f : Bench → Bench} {word : Bench → Nat → Word} {base : Nat} {m : Nat} {x : Vector Word m}
      (he : exec i s = s.onBench n f) (hf : ∀ q, frame { f b with qn := q }) (hx : ∀ j < m, word b (base + 4 * j) = x.toList.getD j 0)
      (hy : ∀ q, ∀ j < m, word { f b with qn := q } (base + 4 * j) =
        (x.mapFinIdx fun i c _ => if bitOf v i then 0 else c).toList.getD j 0) : clears i word base m :=
    gives_of_onBench he fun q => ⟨hf q, fun j hj => by rw [hy q j hj, hx j hj, getD_mapFinIdx_clear x v hj]⟩
  refine ⟨?bn, ?tm, ?sc, ?pe, ?tasks, ?le, ?slack, ?rs, ?mx, ?fc, ?qn, ?kf, ?dg, ?hl, ?ha, ?cn, ?nl, ?qc, ?gs⟩
  case bn =>
    exact gives_of_onBench (exec_bnCntClr ..) fun q => ⟨⟨rfl, rfl, rfl, rfl, rfl⟩, fun j hj => by interval_cases j <;> rfl⟩
  case tm =>
    exact gives_of_onBench (exec_tmCntClr ..) fun q => ⟨⟨rfl, rfl, rfl, rfl, rfl⟩, fun j hj => by interval_cases j <;> rfl⟩
  case sc =>
    exact vector (exec_scCntClr ..) (fun q => ⟨rfl, rfl, rfl, rfl, rfl⟩) (fun j hj => b.scWord_counter hj)
      fun q j hj => Bench.scWord_counter _ hj
  case pe =>
    exact gives_of_onBench (exec_peCntClr ..) fun q => ⟨⟨rfl, rfl, rfl, rfl, rfl⟩, fun j hj => by interval_cases j <;> rfl⟩
  case tasks =>
    refine gives_of_onBench (exec_peCntClr ..) fun q => ⟨rfl, ?_⟩
    simp only [Bench.taskWord, getElem_map_clearMax]
    cases bitOf v 16 <;> simp [b]
  case le =>
    exact gives_of_onBench (exec_leCntClr ..) fun q => ⟨⟨rfl, rfl, rfl, rfl, rfl⟩, fun j hj => by interval_cases j <;> rfl⟩
  case slack => exact gives_of_onBench (exec_leCntClr ..) fun q => rfl
  case rs =>
    exact gives_of_onBench (exec_rsCntClr ..) fun q => ⟨⟨rfl, rfl, rfl, rfl, rfl⟩, fun j hj => by interval_cases j <;> rfl⟩
  case mx =>
    exact gives_of_onBench (exec_mxCntClr ..) fun q => ⟨⟨rfl, rfl, rfl, rfl, rfl⟩, fun j hj => by interval_cases j <;> rfl⟩
  case fc =>
    exact gives_of_onBench (exec_fcCntClr ..) fun q => ⟨⟨rfl, rfl, rfl, rfl, rfl⟩, fun j hj => by interval_cases j <;> rfl⟩
  case qn =>
    exact gives_of_onBench_quoin (exec_qnCntClr ..) fun x w l e =>
      ⟨⟨rfl, rfl, rfl, rfl, rfl⟩, fun j hj => by interval_cases j <;> rfl⟩
  case kf =>
    exact gives_of_onBench (exec_kfCntClr ..) fun q => ⟨⟨rfl, rfl, rfl, rfl, rfl⟩, fun j hj => by interval_cases j <;> rfl⟩
  case dg =>
    exact gives_of_onBench (exec_dgCntClr ..) fun q => ⟨⟨rfl, rfl, rfl, rfl, rfl⟩, fun j hj => by interval_cases j; rfl⟩
  case hl =>
    exact gives_of_onBench (exec_hlCntClr ..) fun q => ⟨⟨rfl, rfl, rfl, rfl, rfl⟩, fun j hj => by interval_cases j <;> rfl⟩
  case ha =>
    exact gives_of_onBench (exec_haCntClr ..) fun q => ⟨⟨rfl, rfl, rfl, rfl, rfl⟩, fun j hj => by interval_cases j <;> rfl⟩
  case cn =>
    refine vector (x := (b.can[k]).cnt) (exec_cnCntClr ..) (fun q => ⟨rfl, rfl, rfl, rfl, rfl⟩)
      (fun j hj => b.canWord_counter k hj) fun q j hj => ?_
    rw [Bench.canWord_counter _ k hj]
    simp [Bench.setCan, upd]
  case nl =>
    exact vector (exec_nlCntClr ..) (fun q => ⟨rfl, rfl, rfl, rfl, rfl⟩) (fun j hj => b.nlWord_counter hj)
      fun q j hj => Bench.nlWord_counter _ hj
  case qc =>
    exact gives_of_onBench (exec_qcCntClr ..) fun q => ⟨⟨rfl, rfl, rfl, rfl, rfl⟩, fun j hj => by interval_cases j <;> rfl⟩
  case gs => exact ⟨_, exec_gsCntClr .., rfl, rfl, fun j hj => by interval_cases j <;> rfl⟩

/-- Settles O59: the state after reset is a closed term, and every conjunct evaluates. -/
theorem resetLeavesTheModuleInWake : Obligations.ResetLeavesTheModuleInWake := by
  unfold Obligations.ResetLeavesTheModuleInWake
  decide +kernel
/-! ### Reads of a function and what they hold -/

/-- A bench put back in its mode with its forces tells the module nothing. -/
theorem State.putBench_hub {s : State} {n : BenchIx} {b : Bench} (hm : b.bn.mode = (s.bench n).bn.mode)
    (hf : b.pe.forces = (s.bench n).pe.forces) : (s.putBench n b).hub = s.hub := by
  unfold State.putBench
  extract_lets b₁ s₁ s₂
  have hb : b₁.bn.mode = b.bn.mode ∧ b₁.pe.forces = b.pe.forces := by
    unfold b₁
    split <;> simp
  have hc : (s.bench n).forceCount = b₁.forceCount := by unfold Bench.forceCount; rw [hb.2, hf]
  have ha : s₁.allAwake = s.allAwake := s.all_set n b₁ (by rw [hb.1, hm])
  have hs : s₂ = s₁ := if_pos (by rw [hc])
  rw [hs, ha, if_neg (by simp)]

/-- A bench whose vector is unmasked sends it where it was pending. -/
def Bench.unmask (v : Nat) (b : Bench) : Bench :=
  { b with fn := (b.fn.unmask v).1, qc := { b.qc with sent := if (b.fn.unmask v).2 then b.qc.sent ++ [.vector v] else b.qc.sent } }

section vector
variable (h : Hub) (v : Nat)
theorem Hub.vector_aer : (h.vector v).fn.aer = h.fn.aer := by unfold Hub.vector; split <;> rfl
theorem Hub.vector_lastRead : (h.vector v).fn.lastRead = h.fn.lastRead := by unfold Hub.vector; split <;> rfl
end vector

section reads
variable (s : State) (fn : FnIx)

/-- A change of one function's registers: the function, and nothing else that a host reads of a bench. -/
theorem State.onFn_fnOf (f : Fn → Fn) : (s.onFn fn f).fnOf fn = f (s.fnOf fn) := by
  by_cases h : fn = 0
  · simp [State.onFn, State.fnOf, h]
  · simp [State.onFn, State.fnOf, h]

theorem State.onFn_pending (f : Fn → Fn) : (s.onFn fn f).pending = s.pending := by
  unfold State.onFn
  split
  · rfl
  · exact State.putBench_pending ..

theorem State.onFn_bench (f : Fn → Fn) (m : BenchIx) :
    ((s.onFn fn f).bench m).points = (s.bench m).points ∧ ((s.onFn fn f).bench m).bn = (s.bench m).bn := by
  unfold State.onFn
  split
  · exact ⟨rfl, rfl⟩
  · by_cases e : m = mkIx 15 (fn.val - 1)
    · simp [e]
    · simp [State.putBench_other _ _ _ e]

theorem State.onFn_hub (f : Fn → Fn) : (s.onFn fn f).hub = if fn = 0 then { s.hub with fn := f s.hub.fn } else s.hub := by
  unfold State.onFn
  split
  · rfl
  · exact State.putBench_hub rfl rfl

theorem State.fnOf_succ (n : BenchIx) : s.fnOf n.succ = (s.bench n).fn := by
  simp [State.fnOf, mkIx, Fin.succ_ne_zero]

theorem State.unsupported_eq (w : Bool) : ∃ f, (∀ x : Fn, f x = { x with aer := true, lastRead := if w then x.lastRead else BitVec.allOnes 32 }) ∧
    s.unsupported fn w = { s.onFn fn f with hub := (s.onFn fn f).hub.vector 4 } := ⟨_, fun _ => rfl, rfl⟩

/-- The words of a point entry and of a run state lie beyond the registers: no read among those finds a held copy of them. -/
theorem Fn.heldWord_register (f : Fn) (bench : Bool) {off : Nat} (h : off ≤ 0x40000) :
    f.heldWord bench off = f.held.bind fun e => if off = e.1 + 4 then some e.2 else none := by
  have hp : pointPart off = none := if_neg (by simp; omega)
  have hr : runPart off = none := if_neg (by simp; omega)
  cases bench <;> simp [Fn.heldWord, hp, hr]

theorem Fn.heldWord_point (f : Fn) (p : Fin 16384) (k : Fin 3) :
    f.heldWord true (0x40000 + 16 * p.val + 4 * (k.val + 1)) =
      (heldAt f.heldPoint p.val (4 * (k.val + 1))).or
        (f.held.bind fun e => if 0x40000 + 16 * p.val + 4 * (k.val + 1) = e.1 + 4 then some e.2 else none) := by
  have hp : pointPart (0x40000 + 16 * p.val + 4 * (k.val + 1)) = some p.val := by
    unfold pointPart
    rw [if_pos (by simp; omega)]
    congr 1; omega
  have ho : (0x40000 + 16 * p.val + 4 * (k.val + 1)) % 16 = 4 * (k.val + 1) := by omega
  simp [Fn.heldWord, hp, ho]

theorem Fn.heldWord_run (f : Fn) (slot : Fin 16) (k : Fin 7) :
    f.heldWord true (0x90000 + 256 * slot.val + 4 * (k.val + 1)) =
      (heldAt f.heldRun slot.val (4 * (k.val + 1))).or
        (f.held.bind fun e => if 0x90000 + 256 * slot.val + 4 * (k.val + 1) = e.1 + 4 then some e.2 else none) := by
  have hp : pointPart (0x90000 + 256 * slot.val + 4 * (k.val + 1)) = none := if_neg (by simp; omega)
  have hr : runPart (0x90000 + 256 * slot.val + 4 * (k.val + 1)) = some slot.val := by
    unfold runPart
    rw [if_pos (by simp; omega)]
    congr 1; omega
  have ho : (0x90000 + 256 * slot.val + 4 * (k.val + 1)) % 256 = 4 * (k.val + 1) := by omega
  simp [Fn.heldWord, hp, hr, ho]

/-- What a register read leaves in its function. -/
def State.afterRead (s : State) (fn : FnIx) (off : Nat) (f : Fn) : Fn :=
  let f := { f.consumed (fn ≠ 0) off with lastRead := s.readWord fn off }
  if lowWord fn off then { f with held := some (off, s.word fn (off + 4)) } else f

theorem State.hostRead_register {off : Nat} (ha : off % 4 = 0) (h : off < 0x40000) :
    s.hostRead fn off = s.onFn fn (s.afterRead fn off) := by
  unfold State.hostRead
  rw [if_neg (by simp [ha]), if_neg (by simp; omega), if_neg (by simp; omega)]
  rfl

theorem State.hostRead_unaligned {off : Nat} (h : off % 4 ≠ 0) : s.hostRead fn off = s.unsupported fn false := if_pos h

theorem lowWord_aligned {off : Nat} (h : lowWord fn off = true) : off % 4 = 0 := by
  unfold lowWord at h
  split at h
  · simp only [mgLow, Bool.or_eq_true, decide_eq_true_eq] at h
    omega
  · simp only [benchLow, Bool.or_eq_true, Bool.and_eq_true, decide_eq_true_eq] at h
    omega

end reads

/-- Settles O46. -/
theorem readsHoldTheirCopies : Obligations.ReadsHoldTheirCopies := by
  intro s n fn off v p slot write vec vec0 b me frame
  have onFn (f : Fn → Fn) : frame (s.onFn fn f) := ⟨s.onFn_pending fn f, s.onFn_bench fn f⟩
  have put (f : Fn) : frame (s.putBench n { b with fn := f }) := by
    refine ⟨State.putBench_pending .., fun m => ?_⟩
    by_cases e : m = n
    · simp [e, b]
    · simp [State.putBench_other _ _ _ e]
  have later {u : State} {m : Nat} (hm : m % 4 = 0) :
      u.readWord fn m = ((u.fnOf fn).heldWord (fn ≠ 0) m).getD (u.word fn m) := if_neg (by simp [hm])
  refine ⟨fun hl h => ?low, fun hl ha h => ?high, fun h => ?unaligned, ?point, ?run, ?unsupported, fun h => ?write, ?unmask,
    ?unmask0⟩
  case low =>
    have ha := lowWord_aligned fn hl
    refine ⟨_, exec_lowWordRead fn off s, ?_⟩
    rw [s.hostRead_register fn ha h, State.onFn_fnOf]
    refine ⟨onFn _, by simp [State.afterRead, hl], fun u hu => ?_⟩
    have held : (u.fnOf fn).held = some (off, s.word fn (off + 4)) := by rw [hu]; simp [State.afterRead, hl]
    rw [later (by omega), Fn.heldWord_register _ _ (by omega), held]
    simp
  case high =>
    refine ⟨_, exec_lowWordRead fn off s, ?_⟩
    rw [s.hostRead_register fn ha h, State.onFn_fnOf]
    have after (f : Fn) : (s.afterRead fn off f).lastRead = s.readWord fn off ∧
        (s.afterRead fn off f).held = f.held.filter fun e => e.1 + 4 ≠ off := by simp [State.afterRead, hl, Fn.consumed]
    refine ⟨onFn _, fun lo w hw ho => ?_, fun hn => ?_⟩
    · rw [(after _).1, (after _).2, later ha, Fn.heldWord_register _ _ (by omega), hw]
      simp [ho]
    · rw [(after _).1, (after _).2, later ha, Fn.heldWord_register _ _ (by omega), hn]
      simp
  case unaligned => rw [exec_lowWordRead, exec_unsupportedRequest, execLowWordRead, s.hostRead_unaligned fn h]; rfl
  case point =>
    refine ⟨_, exec_pointValueRead n p s, put _, State.putBench_only .., ?_⟩
    simp only [me, State.fnOf_succ, State.putBench_fn]
    refine ⟨rfl, fun u hu k => ?_⟩
    rw [State.readWord, if_neg (by omega)]
    simp only [ne_eq, Fin.succ_ne_zero, not_false_eq_true, decide_true, Fn.heldWord_point, State.fnOf_succ, hu]
    fin_cases k <;> simp [Bench.holdPoint, heldAt, b]
  case run =>
    refine ⟨_, exec_runStateRead n slot s, put _, State.putBench_only .., ?_⟩
    simp only [me, State.fnOf_succ, State.putBench_fn]
    refine ⟨rfl, fun u hu k => ?_⟩
    rw [State.readWord, if_neg (by omega)]
    simp only [ne_eq, Fin.succ_ne_zero, not_false_eq_true, decide_true, Fn.heldWord_run, State.fnOf_succ, hu]
    simp [Bench.holdRun, heldAt, b, Nat.mul_add]
  case unsupported =>
    obtain ⟨f, hf, he⟩ := s.unsupported_eq fn write
    refine ⟨_, (exec_unsupportedRequest fn write s).trans (congrArg Host.Outcome.next he), onFn f, ?_⟩
    by_cases h0 : fn = 0
    · subst h0
      simp only [State.fnOf, if_true, Hub.vector_aer, Hub.vector_lastRead, State.onFn_hub, hf]
      exact ⟨trivial, trivial, fun h => by simp [Hub.vector, h], fun h => by simp [Hub.vector, h]⟩
    · have kept : ({ s.onFn fn f with hub := (s.onFn fn f).hub.vector 4 } : State).fnOf fn = f (s.fnOf fn) := by
        rw [← s.onFn_fnOf fn f]
        simp [State.fnOf, h0, State.bench]
      rw [kept, hf, State.onFn_hub, if_neg h0]
      exact ⟨rfl, rfl, fun h => by simp [Hub.vector, h], fun h => by simp [Hub.vector, h]⟩
  case write => rw [exec_registerWrite, exec_unsupportedRequest, execRegisterWrite, if_pos h]; rfl
  case unmask =>
    have he : exec (.msixUnmask me vec.castSucc) s = s.onBench n (Bench.unmask vec.val) := by
      rw [exec_msixUnmask, execMsixUnmask, if_neg (Fin.succ_ne_zero n)]
      have hn : mkIx 15 (me.val - 1) = n := by simp [me, mkIx]
      rw [hn]
      congr 1
      funext b
      exact if_neg (by simp; omega)
    refine gives_of_onBench he fun q => ⟨?_, ?_, rfl, rfl, rfl, rfl⟩
    · exact bitOf_putBit_self _ _ (by omega)
    · exact bitOf_putBit_self _ _ (by omega)
  case unmask0 =>
    refine ⟨_, exec_msixUnmask 0 vec0 s, rfl, rfl, ?_⟩
    exact ⟨bitOf_putBit_self _ _ (by omega), bitOf_putBit_self _ _ (by omega), rfl⟩
/-! ### Operations on every bench, and the hub beside them -/

theorem foldl_keeps {α β γ : Type} {f : β → α → β} {g : β → γ} (h : ∀ b a, g (f b a) = g b) (l : List α) (b : β) :
    g (l.foldl f b) = g b := by
  induction l generalizing b with
  | nil => rfl
  | cons a l ih => rw [List.foldl_cons, ih, h]

/-- A hub that has been told of a change has a new event and a vector on its way; all else stands. -/
def Hub.Told (h h' : Hub) : Prop := ∃ fn sent ev, h' = { h with fn := fn, sent := sent, mgEvents := ev }

namespace Hub.Told
variable {h h' h'' : Hub}
theorem refl : h.Told h := ⟨_, _, _, rfl⟩
theorem trans (a : h.Told h') (b : h'.Told h'') : h.Told h'' := by
  obtain ⟨_, _, _, rfl⟩ := a
  obtain ⟨_, _, _, rfl⟩ := b
  exact ⟨_, _, _, rfl⟩
theorem mgEvent (h : Hub) (bit : Nat) : h.Told (h.mgEvent bit) := by
  unfold Hub.mgEvent Hub.vector
  split <;> exact ⟨_, _, _, rfl⟩
end Hub.Told

theorem State.putBench_told (s : State) (n : BenchIx) (b : Bench) : s.hub.Told (s.putBench n b).hub := by
  unfold State.putBench
  extract_lets b₁ s₁ s₂
  have h : s.hub.Told s₂.hub := by
    unfold s₂
    split
    · exact .refl
    · exact .mgEvent ..
  split
  · exact h.trans (.mgEvent ..)
  · exact h

section mapBenches
variable {f : Bench → Bench}

/-- A pass over distinct benches changes each of them once, from what it was. -/
theorem State.foldl_putBench (g : State → BenchIx → Bench) (hg : ∀ s s' n, s.bench n = s'.bench n → g s n = g s' n)
    (l : List BenchIx) (hl : l.Nodup) (s : State) (m : BenchIx) :
    (m ∉ l → (l.foldl (fun s n => s.putBench n (g s n)) s).bench m = s.bench m) ∧
    (m ∈ l → ∃ q, (l.foldl (fun s n => s.putBench n (g s n)) s).bench m = { g s m with qn := q }) := by
  induction l generalizing s with
  | nil => exact ⟨fun _ => rfl, fun h => nomatch h⟩
  | cons n l ih =>
    rw [List.nodup_cons] at hl
    obtain ⟨out, in_⟩ := ih hl.2 (s.putBench n (g s n))
    refine ⟨fun h => ?_, fun h => ?_⟩
    · rw [List.mem_cons, not_or] at h
      exact (out h.2).trans (s.putBench_other n _ h.1)
    · obtain rfl | h := List.mem_cons.mp h
      · obtain ⟨q, hq⟩ := s.putBench_bench m (g s m)
        exact ⟨q, (out hl.1).trans hq⟩
      · obtain ⟨q, hq⟩ := in_ h
        have hm : m ≠ n := fun e => hl.1 (e ▸ h)
        exact ⟨q, by rw [List.foldl_cons, hq, hg _ s m (s.putBench_other n _ hm)]⟩

theorem State.mapBenches_bench (f : Bench → Bench) (s : State) (m : BenchIx) :
    ∃ q, (s.mapBenches f).bench m = { f (s.bench m) with qn := q } :=
  (State.foldl_putBench (fun s n => f (s.bench n)) (fun _ _ _ h => by rw [h]) _ (List.nodup_finRange 16) s m).2
    (List.mem_finRange m)

theorem State.mapBenches_pending (f : Bench → Bench) (s : State) : (s.mapBenches f).pending = s.pending :=
  foldl_keeps (g := State.pending) (fun s n => s.putBench_pending n _) _ s

theorem State.foldl_putBench_told (g : State → BenchIx → Bench) (l : List BenchIx) (s : State) :
    s.hub.Told (l.foldl (fun s n => s.putBench n (g s n)) s).hub := by
  induction l generalizing s with
  | nil => exact .refl
  | cons n l ih =>
    rw [List.foldl_cons]
    exact (s.putBench_told n (g s n)).trans (ih (s.putBench n (g s n)))

theorem State.mapBenches_told (f : Bench → Bench) (s : State) : s.hub.Told (s.mapBenches f).hub :=
  State.foldl_putBench_told (fun s n => f (s.bench n)) _ s

/-- What a pass over every bench leaves, told of a state of its own name. -/
theorem State.mapBenches_spec (f : Bench → Bench) (s : State) : ∃ u, s.mapBenches f = u ∧ u.pending = s.pending ∧
    s.hub.Told u.hub ∧ ∀ m, ∃ q, u.bench m = { f (s.bench m) with qn := q } :=
  ⟨_, rfl, s.mapBenches_pending f, s.mapBenches_told f, s.mapBenches_bench f⟩

theorem Bench.guardLog_only (b : Bench) (cal kind : Nat) (oper : BitVec 16) (stamp off : Nat) (before written : Word) :
    ∃ g, b.guardLog cal kind oper stamp off before written = { b with gd := g } := ⟨_, rfl⟩

theorem State.guardLogAll_bench (kind : Nat) (oper : BitVec 16) (s : State) (m : BenchIx) :
    ∃ q g, (s.guardLogAll kind oper).bench m = { s.bench m with qn := q, gd := g } := by
  obtain ⟨q, hq⟩ := (State.foldl_putBench
    (fun s' n => (s'.bench n).guardLog s.hub.calNow kind oper (s'.bench n).rail.now 0 0 0) (fun _ _ _ h => by rw [h]) _
    (List.nodup_finRange 16) s m).2 (List.mem_finRange m)
  obtain ⟨g, hg⟩ := (s.bench m).guardLog_only s.hub.calNow kind oper (s.bench m).rail.now 0 0 0
  exact ⟨q, g, hq.trans (by rw [hg])⟩

theorem State.guardLogAll_pending (kind : Nat) (oper : BitVec 16) (s : State) : (s.guardLogAll kind oper).pending = s.pending :=
  foldl_keeps (g := State.pending) (fun s n => s.putBench_pending n _) _ s

theorem State.guardLogAll_told (kind : Nat) (oper : BitVec 16) (s : State) : s.hub.Told (s.guardLogAll kind oper).hub :=
  State.foldl_putBench_told (fun s' n => (s'.bench n).guardLog s.hub.calNow kind oper (s'.bench n).rail.now 0 0 0) _ s

end mapBenches

/-! ### The end of a guard session -/

section closeSession
variable (kind bit : Nat) (s : State)

/-- Every bench has logged the end of the session and has left its debug mode. -/
def State.sessionLogged (oper : BitVec 16) : State := (s.guardLogAll kind oper).mapBenches fun b => { b with gd := { b.gd with debug := false } }

theorem State.closeSession_cases : s.closeSession kind bit = s ∨
    ∃ oper t, s.sessionLogged kind oper = t ∧
      s.closeSession kind bit = { t with hub := Hub.gsEvent bit { t.hub with session := none, debugBench := none } } := by
  unfold State.closeSession
  split
  · exact .inl rfl
  · next x _ =>
    refine .inr ⟨x.oper, s.sessionLogged kind x.oper, rfl, ?_⟩
    unfold State.sessionLogged
    rfl

theorem State.sessionLogged_bench (oper : BitVec 16) (m : BenchIx) :
    ∃ q g, (s.sessionLogged kind oper).bench m = { s.bench m with qn := q, gd := g } := by
  obtain ⟨_, _, h⟩ := s.guardLogAll_bench kind oper m
  obtain ⟨q, hq⟩ := State.mapBenches_bench (fun b => { b with gd := { b.gd with debug := false } }) (s.guardLogAll kind oper) m
  rw [h] at hq
  exact ⟨q, _, hq⟩

theorem State.closeSession_bench (m : BenchIx) : ∃ q g, (s.closeSession kind bit).bench m = { s.bench m with qn := q, gd := g } := by
  obtain h | ⟨oper, t, ht, h⟩ := s.closeSession_cases kind bit
  · exact ⟨_, _, by rw [h]⟩
  · obtain ⟨q, g, hm⟩ := s.sessionLogged_bench kind oper m
    rw [ht] at hm
    exact ⟨q, g, by rw [h]; exact hm⟩

theorem State.closeSession_pending : (s.closeSession kind bit).pending = s.pending := by
  obtain h | ⟨oper, t, ht, h⟩ := s.closeSession_cases kind bit
  · rw [h]
  · rw [h]
    refine (congrArg State.pending ht.symm).trans ?_
    exact (State.mapBenches_pending (fun b => { b with gd := { b.gd with debug := false } }) (s.guardLogAll kind oper)).trans
      (s.guardLogAll_pending kind oper)

theorem Hub.gsEvent_vinGood (h : Hub) : (h.gsEvent bit).vinGood = h.vinGood := by
  unfold Hub.gsEvent Hub.vector
  split <;> rfl

theorem State.closeSession_vinGood : (s.closeSession kind bit).hub.vinGood = s.hub.vinGood := by
  obtain h | ⟨oper, t, rfl, h⟩ := s.closeSession_cases kind bit
  · rw [h]
  · obtain ⟨_, _, _, hl⟩ := s.guardLogAll_told kind oper
    obtain ⟨_, _, _, hd⟩ := State.mapBenches_told (fun b => { b with gd := { b.gd with debug := false } }) (s.guardLogAll kind oper)
    rw [h, Hub.gsEvent_vinGood, State.sessionLogged, hd, hl]

end closeSession

/-! ### What a reset of the module keeps of a bench -/

@[simp] theorem Bench.fresh_snap (b : Bench) : (Bench.fresh b).2.snap = b.snap := rfl
@[simp] theorem Bench.faceEvent_snap (bit : Nat) (d1 : Word) (b : Bench) : (Bench.faceEvent bit d1 b).snap = b.snap := by
  simp [Bench.faceEvent]
@[simp] theorem Bench.faceHear_snap (n : FaceNews) (b : Bench) : (Bench.faceHear n b).snap = b.snap := by
  simp only [Bench.faceHear]; (repeat' split) <;> simp
@[simp] theorem Bench.faceSay_snap (n : FaceNews) (b : Bench) : (Bench.faceSay n b).snap = b.snap := by
  unfold Bench.faceSay; split <;> simp
@[simp] theorem Bench.outFaultEval_snap (b : Bench) : (Bench.outFaultEval b).snap = b.snap := by
  simp only [Bench.outFaultEval]; (repeat' split) <;> simp
@[simp] theorem Bench.faceReport_snap (b : Bench) : (Bench.faceReport b).snap = b.snap := by
  unfold Bench.faceReport; split <;> simp
@[simp] theorem Bench.faceMute_snap (b : Bench) : (Bench.faceMute b).snap = b.snap := by
  simp [Bench.faceMute]
@[simp] theorem Bench.faceDrop_snap (off : Bool) (b : Bench) : (Bench.faceDrop off b).snap = b.snap := by
  simp [Bench.faceDrop]
@[simp] theorem Bench.faceAlone_snap (b : Bench) : (Bench.faceAlone b).snap = b.snap := by
  unfold Bench.faceAlone; split <;> simp
@[simp] theorem Bench.faceDark_snap (b : Bench) : (Bench.faceDark b).snap = b.snap := by
  simp [Bench.faceDark]
@[simp] theorem Bench.healthLost_snap (b : Bench) : (b.healthLost).snap = b.snap := by
  unfold Bench.healthLost
  dsimp only
  split
  · rfl
  · exact foldl_keeps (fun b n => by split <;> rfl) _ _
@[simp] theorem Bench.take_snap (p : Packet) (b : Bench) : (Bench.take p b).snap = b.snap := by
  simp only [Bench.take]; (repeat' split) <;> simp
@[simp] theorem Bench.fresh_snapOk (b : Bench) : (Bench.fresh b).2.snapOk = b.snapOk := rfl
@[simp] theorem Bench.faceEvent_snapOk (bit : Nat) (d1 : Word) (b : Bench) : (Bench.faceEvent bit d1 b).snapOk = b.snapOk := by
  simp [Bench.faceEvent]
@[simp] theorem Bench.faceHear_snapOk (n : FaceNews) (b : Bench) : (Bench.faceHear n b).snapOk = b.snapOk := by
  simp only [Bench.faceHear]; (repeat' split) <;> simp
@[simp] theorem Bench.faceSay_snapOk (n : FaceNews) (b : Bench) : (Bench.faceSay n b).snapOk = b.snapOk := by
  unfold Bench.faceSay; split <;> simp
@[simp] theorem Bench.outFaultEval_snapOk (b : Bench) : (Bench.outFaultEval b).snapOk = b.snapOk := by
  simp only [Bench.outFaultEval]; (repeat' split) <;> simp
@[simp] theorem Bench.faceReport_snapOk (b : Bench) : (Bench.faceReport b).snapOk = b.snapOk := by
  unfold Bench.faceReport; split <;> simp
@[simp] theorem Bench.faceMute_snapOk (b : Bench) : (Bench.faceMute b).snapOk = b.snapOk := by
  simp [Bench.faceMute]
@[simp] theorem Bench.faceDrop_snapOk (off : Bool) (b : Bench) : (Bench.faceDrop off b).snapOk = b.snapOk := by
  simp [Bench.faceDrop]
@[simp] theorem Bench.faceAlone_snapOk (b : Bench) : (Bench.faceAlone b).snapOk = b.snapOk := by
  unfold Bench.faceAlone; split <;> simp
@[simp] theorem Bench.faceDark_snapOk (b : Bench) : (Bench.faceDark b).snapOk = b.snapOk := by
  simp [Bench.faceDark]
@[simp] theorem Bench.healthLost_snapOk (b : Bench) : (b.healthLost).snapOk = b.snapOk := by
  unfold Bench.healthLost
  dsimp only
  split
  · rfl
  · exact foldl_keeps (fun b n => by split <;> rfl) _ _
@[simp] theorem Bench.take_snapOk (p : Packet) (b : Bench) : (Bench.take p b).snapOk = b.snapOk := by
  simp only [Bench.take]; (repeat' split) <;> simp

theorem Bench.moduleReset_asleep (start : Nat) (b : Bench) : (b.moduleReset start).bn.mode = .wake ∧
    (b.moduleReset start).qc.inflight = [] ∧ (b.moduleReset start).points = [] ∧
    (b.moduleReset start).qc.q = Vector.replicate 4 {} ∧ (b.moduleReset start).snap = b.snap ∧ (b.moduleReset start).snapOk = b.snapOk :=
  ⟨rfl, rfl, rfl, rfl, b.healthLost_snap, b.healthLost_snapOk⟩

@[simp] theorem Hub.mgEvent_mgEvents (h : Hub) (bit : Nat) : (h.mgEvent bit).mgEvents = putBit h.mgEvents bit true := by
  unfold Hub.mgEvent Hub.vector
  split <;> rfl

theorem Hub.mgEvent_supply (h : Hub) (bit : Nat) : (h.mgEvent bit).vinAOk = h.vinAOk ∧ (h.mgEvent bit).vinBOk = h.vinBOk ∧
    (h.mgEvent bit).vbatLow = h.vbatLow := by
  obtain ⟨_, _, _, e⟩ := Hub.Told.mgEvent h bit
  simp [e]

theorem Hub.mgEvent_bit {bit : Nat} (h : Hub) (hb : bit < 32) : bitOf (h.mgEvent bit).mgEvents bit = true := by
  rw [Hub.mgEvent_mgEvents, bitOf_putBit_self _ _ hb]

theorem Hub.mgEvent_if_supply (c : Bool) (h : Hub) (bit : Nat) :
    (if c then h.mgEvent bit else h).vinAOk = h.vinAOk ∧ (if c then h.mgEvent bit else h).vinBOk = h.vinBOk := by
  obtain ⟨_, _, _, e⟩ := Hub.Told.mgEvent h bit
  cases c <;> simp [e]

theorem Hub.wakeRef_only (h : Hub) : ∃ r, h.wakeRef = { h with mref := r } := by
  unfold Hub.wakeRef
  split
  · exact ⟨_, rfl⟩
  · exact ⟨h.mref, rfl⟩

/-- A reset of function 0 ends the guard session; the supply is not its concern. -/
theorem State.fn0Reset_spec (s : State) : ∃ u, s.fn0Reset = u ∧ u.pending = s.pending ∧ u.hub.vinGood = s.hub.vinGood ∧
    ∀ m, ∃ q g, u.bench m = { s.bench m with qn := q, gd := g } :=
  ⟨_, rfl, s.closeSession_pending 4 1, s.closeSession_vinGood 4 1, s.closeSession_bench 4 1⟩

/-- WAKE is counted anew from the instant at which the supply is good. -/
def Bench.wakeFromNow (b : Bench) : Bench := if b.bn.mode = .wake then b.setRail fun r => { r with wakeAt := r.up } else b

theorem Bench.wakeFromNow_frame (b : Bench) : b.wakeFromNow.bn = b.bn ∧ b.wakeFromNow.points = b.points ∧
    (b.bn.mode = .wake → b.wakeFromNow.rail.wakeAt = b.rail.up) := by
  unfold Bench.wakeFromNow
  split
  · exact ⟨rfl, rfl, fun _ => rfl⟩
  · exact ⟨rfl, rfl, fun h => absurd h ‹_›⟩

/-- The supply fails: a snapshot under way is lost with the bench that runs. -/
def Bench.supplyFails (b : Bench) : Bench :=
  let b : Bench := if b.bn.mode = .run || b.bn.mode = .shadow then { b with snapOk := false } else b
  b.faceDark.moduleReset 0

theorem Bench.supplyFails_asleep (b : Bench) : b.supplyFails.bn.mode = .wake ∧ b.supplyFails.qc.inflight = [] ∧
    b.supplyFails.points = [] ∧ b.supplyFails.qc.q = Vector.replicate 4 {} ∧ b.supplyFails.snap = b.snap ∧
    (b.bn.mode = .run ∨ b.bn.mode = .shadow → b.supplyFails.snapOk = false) := by
  unfold Bench.supplyFails
  extract_lets b₁
  obtain ⟨hmode, hin, hpt, hqq, hsnap, hok⟩ := b₁.faceDark.moduleReset_asleep 0
  rw [Bench.faceDark_snap] at hsnap
  rw [Bench.faceDark_snapOk] at hok
  refine ⟨hmode, hin, hpt, hqq, hsnap.trans ?_, fun h => hok.trans ?_⟩
  · unfold b₁
    split <;> rfl
  · unfold b₁
    rw [if_pos (by simpa using h)]

/-- Settles O54. -/
theorem supplyAndModuleReset : Obligations.SupplyAndModuleReset := by
  intro s m t goodA goodB inputB pair mid h before tell asleep
  refine ⟨?good, fun hg => ?lost, fun hg => ?stays, ?inputLost, ?inputGood, fun hg hl => ?low, fun hg => ?lowOff, fun hg => ?cal, fun hg => ?calOn,
    ?assert, fun hr => ?release, fun hr => ?released⟩
  case good =>
    cases hv : s.hub.vinGood
    · obtain ⟨r, hr⟩ := Hub.wakeRef_only { h with vinGood := true, vinAOk := goodA, vinBOk := goodB }
      obtain ⟨u, hu, hp, ⟨_, _, _, hh⟩, hb⟩ := State.mapBenches_spec Bench.wakeFromNow { s with hub := { h with
        vinGood := true, vinAOk := goodA, vinBOk := goodB, mref := r, supplyStart := h.supplyStart && h.inReset } }
      obtain ⟨q, hq⟩ := hb m
      obtain ⟨hbn, hpt, hw⟩ := before.wakeFromNow_frame
      have he : exec (.supplyGood t goodA goodB) s = .next u := by
        have hv' : (s.hub.tick t).vinGood = false := hv
        rw [exec_supplyGood, execSupplyGood]
        simp only [hv', Bool.not_false, if_true]
        rw [hr]
        exact congrArg Host.Outcome.next hu
      exact ⟨u, he, hp, by rw [hh], by rw [hh], by rw [hh], by rw [hq]; exact hbn, by rw [hq]; exact hpt, fun _ hm => by rw [hq]; exact hw hm⟩
    · refine ⟨_, exec_supplyGood .., ?_⟩
      simp [Hub.tick, hv, before, State.bench]
  case lost =>
    obtain ⟨v, hv, hp, -, hb⟩ := State.fn0Reset_spec { s with hub := h }
    obtain ⟨u, hu, hp', -, hb'⟩ := State.mapBenches_spec Bench.supplyFails v
    obtain ⟨_, _, hm⟩ := hb m
    have kept : (v.bench m).snap = before.snap ∧ (v.bench m).bn = before.bn := by
      rw [hm]
      exact ⟨rfl, rfl⟩
    obtain ⟨_, hm'⟩ := hb' m
    obtain ⟨hmode, hin, hpt, hqq, hsnap, hok⟩ := (v.bench m).supplyFails_asleep
    have he : exec (.supplyLost t) s = .next { u with hub := { u.hub.restart with
        lossTime := h.calNow, lossValid := true, vinGood := false, vinAOk := false, vinBOk := false, vbatLow := false, supplyStart := true } } := by
      have hg' : (s.hub.tick t).vinGood = true := hg
      rw [exec_supplyLost, execSupplyLost]
      simp only [hg', Bool.not_true, Bool.false_eq_true, if_false]
      rw [← hu, ← hv]
      rfl
    refine ⟨_, he, hp'.trans hp, rfl, rfl, rfl, rfl, ?_, fun hr => ?_⟩
    · have hs : asleep u := by
        unfold asleep
        rw [hm']
        exact ⟨hmode, hin, hpt, hqq, hsnap.trans kept.1⟩
      exact hs
    · change (u.bench m).snapOk = false
      rw [← kept.2] at hr
      have hs : (v.bench m).supplyFails.snapOk = false := hok hr
      rw [← hs, hm']
  case stays =>
    refine ⟨{ s with hub := h }, ?_, rfl, rfl, rfl⟩
    rw [exec_supplyLost, execSupplyLost]
    simp [Hub.tick, hg, h]
  case inputLost =>
    refine ⟨_, exec_vinInputLost .., rfl, rfl, ?_⟩
    cases inputB
    · refine ⟨⟨(Hub.mgEvent_if_supply ..).1, (Hub.mgEvent_if_supply ..).2⟩, fun hv hok => ?_⟩
      have hc : ((h.vinAOk && h.vinGood) = true) := by
        rw [Bool.and_eq_true]
        exact ⟨hok, hv⟩
      exact (congrArg (fun x => bitOf (Hub.mgEvents x) 0) (if_pos hc)).trans (Hub.mgEvent_bit _ (by decide))
    · refine ⟨⟨(Hub.mgEvent_if_supply ..).2, (Hub.mgEvent_if_supply ..).1⟩, fun hv hok => ?_⟩
      have hc : ((h.vinBOk && h.vinGood) = true) := by
        rw [Bool.and_eq_true]
        exact ⟨hok, hv⟩
      exact (congrArg (fun x => bitOf (Hub.mgEvents x) 1) (if_pos hc)).trans (Hub.mgEvent_bit _ (by decide))
  case inputGood =>
    refine ⟨_, exec_vinInputGood .., rfl, rfl, ?_⟩
    cases inputB <;> exact ⟨rfl, rfl, rfl⟩
  case low =>
    refine ⟨_, exec_vbatLow .., rfl, rfl, ?_⟩
    have hv : (Hub.tick t s.hub).vinGood = true := hg
    have hl : (Hub.tick t s.hub).vbatLow = false := hl
    simp [hv, hl, Hub.mgEvent_supply]
  case lowOff =>
    refine ⟨_, exec_vbatLow .., rfl, rfl, ?_⟩
    have hv : (Hub.tick t s.hub).vinGood = false := hg
    simp [hv, h]
  case cal =>
    refine ⟨_, (exec_vbatCalendarLoss ..).trans (if_neg ?_), rfl, rfl, rfl, rfl⟩
    simp [Hub.tick, hg]
  case calOn => exact ⟨_, (exec_vbatCalendarLoss ..).trans (if_pos hg), rfl, rfl, rfl⟩
  case assert =>
    obtain ⟨v, hv, hp, hg, hb⟩ := State.fn0Reset_spec { s with hub := h }
    obtain ⟨u, hu, hp', ⟨_, _, _, hh⟩, hb'⟩ := State.mapBenches_spec (fun b => b.faceDark.moduleReset 1) v
    obtain ⟨_, _, hm⟩ := hb m
    have kept : (v.bench m).snap = before.snap ∧ (v.bench m).bn = before.bn := by
      rw [hm]
      exact ⟨rfl, rfl⟩
    obtain ⟨_, hm'⟩ := hb' m
    obtain ⟨hmode, hin, hpt, hqq, hsnap, _⟩ := (v.bench m).faceDark.moduleReset_asleep 1
    refine ⟨{ u with hub := { u.hub.restart with inReset := true } }, ?_, hp'.trans hp, rfl, rfl, ?_, ?_⟩
    · rw [exec_mrstNAssert, execMrstNAssert]
      dsimp only
      rw [hv, hu]
    · exact (congrArg Hub.vinGood hh).trans hg
    · have hs : asleep u := by
        unfold asleep
        rw [hm']
        exact ⟨hmode, hin, hpt, hqq, (hsnap.trans (Bench.faceDark_snap _)).trans kept.1⟩
      exact hs
  case release =>
    obtain ⟨u, hu, hp, -, hb⟩ := State.mapBenches_spec (fun b =>
      (b.setBn fun n => { n with mid := mid, pair := pair, start := if h.supplyStart then 0 else 1 }).setRail fun r =>
        { r with wakeAt := r.up }) { s with hub := h }
    obtain ⟨q, hq⟩ := hb m
    obtain ⟨r, hw⟩ := Hub.wakeRef_only
      { u.hub with inReset := false, supplyStart := u.hub.supplyStart && !u.hub.vinGood, mid := mid, pairStrap := pair }
    have he : exec (.mrstNRelease t mid pair) s = .next { u with hub := Hub.wakeRef { u.hub with
        inReset := false, supplyStart := u.hub.supplyStart && !u.hub.vinGood, mid := mid, pairStrap := pair } } := by
      have hr' : (s.hub.tick t).inReset = true := hr
      rw [exec_mrstNRelease, execMrstNRelease]
      simp only [hr', Bool.not_true, Bool.false_eq_true, if_false]
      rw [← hu]
    refine ⟨_, he, hp, ?_, ?_, ?_, ?_⟩
    · rw [hw]
    · rw [hw]
    · rw [hw]
    · change (u.bench m).points = _ ∧ (u.bench m).rail.wakeAt = _ ∧ (u.bench m).bn = _
      rw [hq]
      exact ⟨rfl, rfl, rfl⟩
  case released => exact ⟨_, (exec_mrstNRelease ..).trans (if_pos (by simp [Hub.tick, hr])), rfl, rfl, rfl⟩

end Sys2Proof.Machine
end

section
/-!
# The pace governor and the time rail

O4 and O2: what the governor makes of the supply, and what references, markers and time lock make of the rail.
-/

namespace Sys2Proof.Machine

/-! ### What leaves the time rail as it is -/

@[simp] theorem Bench.fresh_rail (b : Bench) : (Bench.fresh b).2.rail = b.rail := rfl
@[simp] theorem Bench.healthSev_rail (k : Nat) (b : Bench) : (Bench.healthSev k b).rail = b.rail := rfl
@[simp] theorem Bench.canImage_rail (l : List ((Nat × Nat) × Word)) (b : Bench) : (b.canImage l).rail = b.rail := by
  refine foldl_keeps (fun b k => ?_) _ b
  exact foldl_keeps (fun _ _ => by rfl) _ _
@[simp] theorem Bench.canStart_rail (b : Bench) : (Bench.canStart b).rail = b.rail := rfl
@[simp] theorem Bench.canWake_rail (b : Bench) : (Bench.canWake b).rail = b.rail := by
  unfold Bench.canWake; split <;> simp
@[simp] theorem Bench.gaugeBlock_rail (i : Nat) (b : Bench) : (Bench.gaugeBlock i b).2.rail = b.rail := by
  simp only [Bench.gaugeBlock]; (repeat' split) <;> simp
@[simp] theorem Bench.recordWrite_rail (kind cls cause : Nat) (body : List Word) (b : Bench) :
    (b.recordWrite kind cls cause body).rail = b.rail := by
  unfold Bench.recordWrite
  dsimp only
  split <;> simp
@[simp] theorem Bench.periodOpen_rail (b : Bench) : (Bench.periodOpen b).rail = b.rail := rfl
@[simp] theorem Bench.periodClose_rail (cls cause : Nat) (b : Bench) : (b.periodClose cls cause).rail = b.rail := by
  unfold Bench.periodClose
  simp only [periodOpen_rail, recordWrite_rail, gaugeBlock_rail, setHealth_rail]
@[simp] theorem Bench.earlyClose_rail (cause : Nat) (b : Bench) : (Bench.earlyClose cause b).rail = b.rail := by
  simp only [Bench.earlyClose]; (repeat' split) <;> simp

/-! ### The pace governor (R68 to R72, R77) -/

section pace
variable (b : Bench)

theorem Bench.toCeiling_rail : b.toCeiling.rail.paceLow = b.rail.paceLow ∧ b.toCeiling.rail.paceRate = b.rail.paceRate ∧
    b.toCeiling.rail.paceMv = if b.rail.noRaise || b.rail.ceil ≤ b.rail.paceMv then b.rail.paceMv else b.rail.ceil := by
  unfold Bench.toCeiling
  split <;> exact ⟨rfl, rfl, rfl⟩

theorem Bench.paceLow_rail {rate : Nat} (h : rate < 100) : (b.paceLow rate).rail.paceLow = true ∧
    (b.paceLow rate).rail.paceRate = rate ∧
    (b.paceLow rate).rail.paceMv = if b.rail.noRaise || b.rail.ceil ≤ b.rail.paceMv then b.rail.paceMv else b.rail.ceil := by
  unfold Bench.paceLow
  rw [if_pos h]
  exact Bench.toCeiling_rail _

theorem Bench.restSupply_rail : b.restSupply.rail = if b.bn.mode = .run || b.rail.paceLow then b.rail
    else { b.rail with paceMv := b.rail.clip (fld b.rail.paceRest 11 0) } := by
  unfold Bench.restSupply
  split <;> rfl

theorem Bench.paceRecovered_rail {rate : Nat} (h : 100 ≤ rate) : (b.paceRecovered rate).rail.paceLow = false ∧
    (b.paceRecovered rate).rail.paceFaulted = false ∧
    (b.bn.mode ≠ .run → (b.paceRecovered rate).rail.paceMv = b.rail.clip (fld b.rail.paceRest 11 0)) := by
  simp only [Bench.paceRecovered, if_pos h, Bench.restSupply_rail, Bench.setRail_rail, Bench.setRail_bn, Bool.or_false]
  refine ⟨?_, ?_, fun hm => ?_⟩
  · split <;> rfl
  · split <;> rfl
  · rw [if_neg (by simp [hm])]
    rfl

theorem Bench.paceFault_rail (hl : b.rail.paceLow = true) (hf : b.rail.paceFaulted = false)
    (ht : b.rail.paceLowAt + 1000000 ≤ b.rail.up) : b.paceFault.rail = { b.rail with paceFaulted := true } := by
  simp [Bench.paceFault, hl, hf, ht]

theorem Bench.tjHigh_rail {tj : Int} (h : 1100 < tj) : (b.tjHigh tj).rail = { b.rail with tj := tj, noRaise := true } := by
  cases hr : b.rail.noRaise <;> simp [Bench.tjHigh, h, hr]

theorem Bench.tjRecovered_rail {tj : Int} (h : tj < 1050) (hl : b.rail.paceLow = false) :
    (b.tjRecovered tj).rail = { b.rail with tj := tj, noRaise := false } := by
  have ht : ¬1050 ≤ tj := by omega
  simp [Bench.tjRecovered, hl, ht]

theorem Bench.demandRaise_eq (k : Fin 16) (hn : b.rail.noRaise = false) (hc : b.rail.paceMv < b.rail.ceil) :
    b.demandRaise k = b.setRail fun r => { r with calm := 0, paceMv := min (r.paceMv + 30) r.ceil, raiseCnt := inc r.raiseCnt } := by
  unfold Bench.demandRaise
  extract_lets b₁
  have hn' : b₁.rail.noRaise = false := hn
  have hc' : b₁.rail.paceMv < b₁.rail.ceil := hc
  rw [if_neg (by simp [hn']), if_pos hc']
  rfl

theorem Rail.clip_mem (r : Rail) (mv : Nat) (h : r.floor ≤ r.ceil) : r.floor ≤ r.clip mv ∧ r.clip mv ≤ r.ceil := by
  unfold Rail.clip
  omega

/-- The rail under new limits: the supply moves with the ceiling that held it, and stands inside the limits. -/
def Rail.limited (w : Word) (run : Bool) (r : Rail) : Rail :=
  let r' := { r with paceLim := w }
  let mv := if r.paceLow && r.paceMv = r.ceil then fld w 11 0 else if run || r.paceLow then r'.clip r.paceMv
            else r'.clip (fld r.paceRest 11 0)
  { r' with paceMv := mv, calm := if mv = r.paceMv then r.calm else 0 }

theorem Rail.limited_mem {w : Word} {run : Bool} (r : Rail) (h : fld w 27 16 ≤ fld w 11 0) :
    fld w 27 16 ≤ (r.limited w run).paceMv ∧ (r.limited w run).paceMv ≤ fld w 11 0 := by
  have hc (mv : Nat) := Rail.clip_mem { r with paceLim := w } mv h
  simp only [Rail.limited]
  split
  · exact ⟨h, le_rfl⟩
  · split
    · exact hc _
    · exact hc _

theorem fld_at32 {m : Nat} (h : m < 4096) : fld (at32 m 0) 11 0 = m := by
  simp [fld, at32]
  omega

end pace

/-- Settles O4. -/
theorem paceGovernor : Obligations.PaceGovernor := by
  intro s n t rate tj task v b w
  refine ⟨fun hr => ?low, fun hl hf ht => ?fault, fun hr => ?recovered, fun hj => ?hot, fun hj hl => ?cool,
    fun hm hk ha hd hw hn hc => ?demand, fun h1 h2 h3 => ?lim, fun h1 h2 => ?rest⟩
  case low =>
    refine ⟨_, exec_paceLow .., s.putBench_only n _, ?_⟩
    rw [State.putBench_rail]
    exact b.paceLow_rail hr
  case fault =>
    refine ⟨_, exec_paceFault .., s.putBench_only n _, ?_⟩
    rw [State.putBench_rail, b.paceFault_rail hl hf ht]
    exact ⟨rfl, rfl⟩
  case recovered =>
    refine ⟨_, exec_paceRecovered .., s.putBench_only n _, ?_⟩
    rw [State.putBench_rail]
    exact b.paceRecovered_rail hr
  case hot =>
    refine ⟨_, exec_tjHigh .., s.putBench_only n _, ?_⟩
    rw [State.putBench_rail, b.tjHigh_rail hj]
    exact ⟨rfl, rfl⟩
  case cool =>
    refine ⟨_, exec_tjRecovered .., s.putBench_only n _, ?_⟩
    rw [State.putBench_rail, b.tjRecovered_rail hj hl]
  case demand =>
    refine ⟨_, exec_raiseDemand .., s.putBench_only n _, ?_⟩
    rw [State.putBench_rail, State.putBench_pe]
    have hb : b.raiseDemand task = Bench.demandRaise task { b with
        pe := { b.pe with runs := upd b.pe.runs task fun r => { r with demandAt := some b.rail.now } } } := by
      unfold Bench.raiseDemand
      extract_lets r due
      have hdue : due = true := by simp only [due, r, hd]
      exact if_pos (by simpa [hm, hk, hdue, r] using ⟨ha, hw⟩)
    change (b.raiseDemand task).rail.paceMv = _ ∧ (b.raiseDemand task).rail.raiseCnt = _ ∧ (b.raiseDemand task).pe.runs[task].demandAt = _
    rw [hb, Bench.demandRaise_eq _ task (by exact hn) (by exact hc)]
    exact ⟨rfl, rfl, by simp [upd]⟩
  case lim =>
    refine ⟨_, exec_tmPaceLimWrite .., s.putBench_only n _, ?_⟩
    rw [State.putBench_rail]
    have hb : Bench.writePaceLim v (s.bench n) = (s.bench n).setRail (Rail.limited w ((s.bench n).bn.mode = .run)) := by
      unfold Bench.writePaceLim
      dsimp only
      rw [if_neg (by simp only [Bool.or_eq_true, decide_eq_true_eq]; unfold w at *; omega)]
      rfl
    rw [hb]
    exact ⟨rfl, Rail.limited_mem _ h2⟩
  case rest =>
    refine ⟨_, exec_tmPaceRestWrite .., s.putBench_only n _, ?_⟩
    rw [State.putBench_rail]
    have hb : Bench.writePaceRest v (s.bench n) = ((s.bench n).setRail fun r => { r with paceRest := at32 (fld v 11 0) 0 }).restSupply := by
      unfold Bench.writePaceRest
      dsimp only
      rw [if_neg (by simp only [Bool.or_eq_true, decide_eq_true_eq]; omega)]
    have hf : fld (at32 (fld v 11 0) 0) 11 0 = fld v 11 0 := fld_at32 (by unfold fld; omega)
    rw [hb, Bench.restSupply_rail]
    refine ⟨?_, fun hm hl => ?_⟩
    · split <;> rfl
    · rw [if_neg (by simp [hm, hl])]
      change ((s.bench n).rail.clip (fld (at32 (fld v 11 0) 0) 11 0)) = _
      rw [hf]
@[simp] theorem Bench.startForces_rail (pagesOk : Bool) (b : Bench) : (Bench.startForces pagesOk b).rail = b.rail := by
  simp only [Bench.startForces]; (repeat' split) <;> simp

/-! ### Events -/

theorem Bench.raise_ev (b : Bench) (k : Fin 18) (n : Nat) (d0 d1 d2 : Word) :
    (b.raise k n d0 d1 d2).ev = upd b.ev k fun w => putBit w n true := by
  unfold Bench.raise
  rw [Bench.event_ev]

theorem Bench.raise_bit (b : Bench) (k : Fin 18) {n : Nat} (h : n < 32) (d0 d1 d2 : Word) :
    ((b.raise k n d0 d1 d2).ev[k]).getLsbD n = true := by
  rw [Bench.raise_ev]
  have e : (upd b.ev k fun w => putBit w n true)[k] = putBit b.ev[k] n true := by simp [upd]
  rw [e]
  exact bitOf_putBit_self _ _ h

/-! ### The time rail and its references (R50, R55 to R57, R64, R90) -/

/-- The rail after the loss of an input. -/
def Rail.lose (refB : Bool) (r : Rail) : Rail :=
  if refB then { r with refBGood := false, lossBAt := some r.up, refLossCnt := inc r.refLossCnt }
  else { r with refAGood := false, lossAAt := some r.up, refLossCnt := inc r.refLossCnt }

theorem Rail.lose_spec (refB : Bool) (r : Rail) : (r.lose refB).good refB = false ∧ (r.lose refB).good (!refB) = r.good (!refB) ∧
    (r.lose refB).refLossCnt = inc r.refLossCnt ∧ (r.lose refB).state = r.state ∧ (r.lose refB).onB = r.onB := by
  cases refB <;> exact ⟨rfl, rfl, rfl, rfl, rfl⟩

section rail
variable (b : Bench)

@[simp] theorem Bench.toHoldover_points : b.toHoldover.points = b.points := by
  simp only [Bench.toHoldover]
  (repeat' split) <;> simp

theorem Bench.toHoldover_rail : b.toHoldover.rail.state = .holdover ∧ (∀ refB, b.toHoldover.rail.good refB = b.rail.good refB) ∧
    b.toHoldover.rail.refLossCnt = b.rail.refLossCnt := by
  unfold Bench.toHoldover
  extract_lets was b₁
  split
  · exact ⟨‹_›, fun _ => rfl, rfl⟩
  · have h : b₁.rail.state = .holdover ∧ (∀ refB, b₁.rail.good refB = b.rail.good refB) ∧ b₁.rail.refLossCnt = b.rail.refLossCnt :=
      ⟨rfl, fun _ => rfl, rfl⟩
    split
    · rw [Bench.errorCause_rail]
      exact h
    · exact h

/-- What a loss does once the input and its event have been recorded. -/
theorem Bench.refLost_spec {mode : Nat} {refB : Bool} (h : b.rail.good refB = true) :
    ∃ b₁ both, b₁.points = b.points ∧ b₁.rail = b.rail.lose refB ∧ (b.rail.good (!refB) = true → both = false) ∧
      b.refLost mode refB = if both then b₁.toHoldover
        else if (b.rail.state = .locked || b.rail.state = .relock) && b.rail.onB = refB then
          if mode < 2 && b.rail.good (!refB) then
            b₁.setRail fun r => { r with onB := !refB, nearAt := r.nearAt.map fun _ => r.up }
          else b₁.toHoldover
        else b₁ := by
  obtain ⟨-, hother, -, hstate, hon⟩ := b.rail.lose_spec refB
  unfold Bench.refLost
  rw [if_neg (by simp [h])]
  extract_lets b₁ b₂ other both inUse
  have hr : b₂.rail = b.rail.lose refB := by
    simp only [b₂, Bench.raise_rail, Bench.health_rail, b₁]
    rfl
  refine ⟨b₂, both, by simp [b₂, b₁], hr, fun hg => ?_, ?_⟩
  · simp only [both, hr, hother, hg, Bool.not_true, Bool.false_and]
  · have hi : inUse = (b.rail.state = .locked || b.rail.state = .relock) := by simp only [inUse, hr, hstate]
    rw [hi, hr, hon, hother]

theorem Bench.refLost_frame {mode : Nat} {refB : Bool} (h : b.rail.good refB = true) :
    (b.refLost mode refB).rail.good refB = false ∧ (b.refLost mode refB).rail.refLossCnt = inc b.rail.refLossCnt ∧
    (b.refLost mode refB).points = b.points := by
  obtain ⟨b₁, both, hp, hr, -, he⟩ := b.refLost_spec (mode := mode) h
  obtain ⟨hgood, -, hcnt, -, -⟩ := b.rail.lose_spec refB
  rw [← hr] at hgood hcnt
  have hold : b₁.toHoldover.rail.good refB = false ∧ b₁.toHoldover.rail.refLossCnt = inc b.rail.refLossCnt ∧
      b₁.toHoldover.points = b.points := by
    obtain ⟨-, hg, hc⟩ := b₁.toHoldover_rail
    exact ⟨(hg refB).trans hgood, hc.trans hcnt, b₁.toHoldover_points.trans hp⟩
  rw [he]
  split
  · exact hold
  · split
    · split
      · exact ⟨hgood, hcnt, hp⟩
      · exact hold
    · exact ⟨hgood, hcnt, hp⟩

/-- The other input takes over where it is good and may be used, and the rail is held where it is not. -/
theorem Bench.refLost_state {mode : Nat} {refB : Bool} (h : b.rail.good refB = true) (hl : b.rail.state = .locked)
    (hon : b.rail.onB = refB) :
    (b.rail.good (!refB) = true → mode < 2 →
      (b.refLost mode refB).rail.state = .locked ∧ (b.refLost mode refB).rail.onB = !refB) ∧
    (b.rail.good (!refB) = false ∨ ¬mode < 2 → (b.refLost mode refB).rail.state = .holdover) := by
  obtain ⟨b₁, both, -, hr, hboth, he⟩ := b.refLost_spec (mode := mode) h
  obtain ⟨-, -, -, hstate, -⟩ := b.rail.lose_spec refB
  rw [he]
  refine ⟨fun hg hm => ?_, fun hg => ?_⟩
  · rw [hboth hg, if_neg (by simp), if_pos (by simp [hl, hon]), if_pos (by simp [hm, hg])]
    exact ⟨(congrArg Rail.state hr).trans (hstate.trans hl), rfl⟩
  · split
    · exact b₁.toHoldover_rail.1
    · rw [if_pos (by simp [hl, hon]), if_neg (by rw [Bool.and_eq_true, decide_eq_true_eq]; intro x; simp [x.1, x.2] at hg)]
      exact b₁.toHoldover_rail.1

/-- The rail with an input that has become good. -/
def Rail.gain (refB : Bool) (r : Rail) : Rail := if refB then { r with refBGood := true } else { r with refAGood := true }

theorem Rail.qualifies_iff (refB : Bool) (r : Rail) : r.qualifies refB = true ↔ r.wakeAt + 10000000 ≤ r.up ∧
    (if refB then r.lossBAt else r.lossAAt).getD 0 + 10000000 ≤ r.up := by
  unfold Rail.qualifies
  rw [decide_eq_true_iff, ← Nat.add_max_add_right, Nat.max_le]

theorem Rail.gain_good (refB : Bool) (r : Rail) : (r.gain refB).good refB = true := by cases refB <;> rfl
theorem Rail.gain_state (refB : Bool) (r : Rail) : (r.gain refB).state = r.state := by cases refB <;> rfl

theorem Rail.anyPermitted_of_good {mode : Nat} {refB : Bool} {r : Rail} (hp : permitted mode refB = true) (hg : r.good refB = true) :
    r.anyPermitted mode = true := by
  cases refB <;> simp_all [Rail.anyPermitted, Rail.good]

theorem Bench.refGood_spec {mode : Nat} {refB : Bool} (hg : b.rail.good refB = false) (hq : b.rail.qualifies refB = true) :
    (b.refGood mode refB).rail.good refB = true ∧
    (permitted mode refB = true → b.rail.state = .holdover ∨ b.rail.state = .free → (b.refGood mode refB).rail.state = .relock) ∧
    (b.refGood mode refB).inst = b.inst ∧ (b.refGood mode refB).points = b.points := by
  unfold Bench.refGood
  rw [if_neg (by simp [hg, hq])]
  extract_lets b₁
  have hgood : b₁.rail.good refB = true := Rail.gain_good refB b.rail
  have hstate : b₁.rail.state = b.rail.state := Rail.gain_state refB b.rail
  split
  · exact ⟨by cases refB <;> exact hgood, fun _ _ => rfl, rfl, rfl⟩
  · next hn =>
    refine ⟨hgood, fun hp hs => absurd ?_ hn, rfl, rfl⟩
    rw [hstate, Rail.anyPermitted_of_good hp hgood]
    simpa using hs

theorem Bench.relockComplete_rail (hs : b.rail.state = .relock) {a : Nat} (ha : b.rail.nearAt = some a) (ht : a + 10000000 ≤ b.rail.up) :
    b.relockComplete.rail = { b.rail with state := .locked, epochOk := true } := by
  unfold Bench.relockComplete
  split
  · next a' h =>
    cases ha.symm.trans h
    rw [if_pos (by simp [hs, ht])]
    rfl
  · next h => cases ha.symm.trans h

theorem Bench.freeEntered_rail {mode : Nat} (hs : b.rail.state = .holdover) (ht : b.rail.holdAt + 1000000000 ≤ b.rail.up)
    (hp : b.rail.anyPermitted mode = false) : (b.freeEntered mode).rail = { b.rail with state := .free } ∧
      ((b.freeEntered mode).ev[(2 : Fin 18)]).getLsbD 2 = true := by
  unfold Bench.freeEntered
  rw [if_pos (by simp [hs, ht, hp])]
  refine ⟨by simp, ?_⟩
  exact Bench.raise_bit _ 2 (by decide) 0 0 0

@[simp] theorem Bench.timeLock_rail (v : Nat) (st : RailState) (checks : LockChecks) :
    (b.timeLock v st checks).rail = { b.rail with now := v, state := st, offset := 0 } := by
  simp [Bench.timeLock]

theorem Bench.lockTimeout_rail {mode v : Nat} {checks : LockChecks} (hm : b.bn.mode = .wake) (hs : b.rail.state = .unlocked)
    (ht : b.rail.wakeAt + 100000000 ≤ b.rail.up) (hp : b.rail.anyPermitted mode = false) :
    (b.lockTimeout mode v checks).rail = { b.rail with now := v, state := .free, offset := 0 } := by
  unfold Bench.lockTimeout
  rw [if_pos (by simp [hm, hs, ht, hp])]
  simp

theorem Bench.epochMarker_unlocked {mode m : Nat} {checks : LockChecks} (hs : b.rail.state = .unlocked)
    (hp : b.rail.anyPermitted mode = true) : (b.epochMarker mode m checks).rail.state = .locked ∧
      (b.epochMarker mode m checks).rail.now = m ∧ (b.epochMarker mode m checks).rail.epochOk = true := by
  unfold Bench.epochMarker
  extract_lets take b₁ b₂
  have hs' : b₁.rail.state = .unlocked := hs
  have hp' : b₁.rail.anyPermitted mode = true := hp
  simp only [hs', hp', if_true, Bench.timeLock_rail]
  exact ⟨trivial, trivial, rfl⟩

theorem slewPpb_mem (o : Int) : -200000 ≤ slewPpb o ∧ slewPpb o ≤ 200000 := by
  unfold slewPpb clipInt
  omega

theorem Bench.steer_rail (m : Nat) (hs : b.rail.state = .locked) : (b.steer m).rail.now = b.rail.now ∧
    (b.steer m).rail.offset = (b.rail.now : Int) - m ∧ (b.steer m).rail.freqAdj = slewPpb ((b.rail.now : Int) - m) ∧
    ((b.steer m).rail.epochOk = true ↔ ((b.rail.now : Int) - m).natAbs ≤ 2) := by
  unfold Bench.steer
  extract_lets off near far new b₁
  have h : b₁.rail.now = b.rail.now ∧ b₁.rail.offset = (b.rail.now : Int) - m ∧ b₁.rail.freqAdj = slewPpb ((b.rail.now : Int) - m) ∧
      (b₁.rail.epochOk = true ↔ ((b.rail.now : Int) - m).natAbs ≤ 2) :=
    ⟨rfl, rfl, rfl, by simp [b₁, hs, near, off]⟩
  split
  · rw [Bench.raise_rail]
    exact h
  · exact h

theorem Bench.epochMarker_locked {mode m : Nat} {checks : LockChecks} (hs : b.rail.state = .locked) (ht : b.rail.takeNext = false) :
    ∃ r, r.state = .locked ∧ r.now = b.rail.now ∧ b.epochMarker mode m checks = Bench.steer m { b with rail := r } := by
  refine ⟨{ b.rail with takeNext := false }, hs, rfl, ?_⟩
  unfold Bench.epochMarker
  extract_lets take b₁ b₂
  have hk : take = false := by simp [take, ht]
  have hs' : b₁.rail.state = .locked := hs
  simp only [hs', hk, Bool.false_eq_true, if_false]
  rfl

end rail

/-- The same for a bench put back beside another hub. -/
theorem State.putBench_only_hub (s : State) (h : Hub) (n : BenchIx) (b : Bench) :
    OnlyBench n s (State.putBench n b { s with hub := h }) :=
  ⟨fun _ hm => State.putBench_other _ n b hm, State.putBench_pending ..⟩

/-- Settles O2. -/
theorem railFollowsItsReferences : Obligations.RailFollowsItsReferences := by
  constructor
  · intro s n t refB b mode lost
    refine ⟨fun hg => ?lost, fun hg hw hl => ?good, fun h => ?early, fun hs a ha ht => ?relocked, fun hs ht hp => ?free⟩
    case lost =>
      obtain ⟨hgood, hcnt, hpts⟩ := b.refLost_frame (mode := mode) hg
      refine ⟨_, exec_refLost .., s.putBench_only n _, ?_⟩
      simp only [State.putBench_rail, State.putBench_points]
      exact ⟨hgood, hcnt, hpts, fun hl hon => (b.refLost_state hg hl hon).1, fun hl hon => (b.refLost_state hg hl hon).2⟩
    case good =>
      have hq : b.rail.qualifies refB = true := by
        exact (Rail.qualifies_iff ..).mpr ⟨hw, hl⟩
      refine ⟨_, exec_refGood .., s.putBench_only n _, ?_⟩
      simp only [State.putBench_rail, State.putBench_points, State.putBench_inst]
      exact b.refGood_spec hg hq
    case early =>
      have hq : b.rail.qualifies refB = false := by
        rw [Bool.eq_false_iff, Ne, Rail.qualifies_iff, not_and_or, Nat.not_le, Nat.not_le]
        exact h
      have he : b.refGood mode refB = b := if_pos (by simp [hq])
      refine ⟨_, exec_refGood .., s.putBench_only n _, ?_⟩
      simp only [State.putBench_rail, State.putBench_points]
      exact ⟨congrArg Bench.rail he, congrArg Bench.points he⟩
    case relocked =>
      refine ⟨_, exec_relockComplete .., s.putBench_only n _, ?_⟩
      rw [State.putBench_rail]
      exact b.relockComplete_rail hs ha ht
    case free =>
      refine ⟨_, exec_freeEntered .., s.putBench_only n _, ?_⟩
      rw [State.putBench_rail, State.putBench_ev]
      exact b.freeEntered_rail hs ht hp
  · intro s n t m ok life b mode
    refine ⟨fun hs hp => ?first, fun hs ht => ?steer, fun hm hs ht hp => ?timeout⟩
    case first =>
      refine ⟨_, exec_epochMarker .., State.putBench_only_hub .., ?_⟩
      rw [State.putBench_rail]
      exact b.epochMarker_unlocked hs hp
    case steer =>
      obtain ⟨r, hr, hnow, he⟩ := b.epochMarker_locked (mode := mode) (m := m) (checks := ⟨ok, life⟩) hs ht
      obtain ⟨h1, h2, h3, h4⟩ := Bench.steer_rail { b with rail := r } m hr
      refine ⟨_, exec_epochMarker .., State.putBench_only_hub .., ?_⟩
      rw [State.putBench_rail]
      have hb (x : Bench) (hx : x = Bench.steer m { b with rail := r }) : x.rail.now = b.rail.now ∧
          x.rail.offset = (b.rail.now : Int) - m ∧ -200000 ≤ x.rail.freqAdj ∧ x.rail.freqAdj ≤ 200000 ∧
          (x.rail.epochOk = true ↔ ((b.rail.now : Int) - m).natAbs ≤ 2) := by
        subst hx
        rw [hnow] at h1 h2 h3 h4
        exact ⟨h1, h2, h3 ▸ (slewPpb_mem _).1, h3 ▸ (slewPpb_mem _).2, h4⟩
      exact hb _ he
    case timeout =>
      refine ⟨_, exec_timeLockTimeout .., s.putBench_only n _, ?_⟩
      rw [State.putBench_rail]
      have h := b.lockTimeout_rail (mode := mode) (v := if s.hub.epochSrc = 0 then s.hub.calNs else s.hub.mref)
        (checks := ⟨ok, life⟩) hm hs ht hp
      exact ⟨congrArg Rail.state h, congrArg Rail.now h⟩

end Sys2Proof.Machine
end

section
/-!
# Coith arithmetic, memory and control flow

O11, O12, O16, O18 and O19: what an instruction makes of its operands, of the bytes at a permitted address, and of the
program counter, the loops and the frames.
-/

namespace Sys2Proof.Machine

/-! ### Integer results (R190) -/

theorem operand_eq (h : Bool) (a : Word) : operand h a = if h then (a.setWidth 16).toInt else a.toInt := by
  cases h
  · rfl
  · exact s16_eq a

theorem intResult_clips (h : Bool) (z : Int) : intResult h true z =
    (BitVec.ofInt 32 (max (if h then -32768 else -2147483648) (min (if h then 32767 else 2147483647) z)),
      if (if h then -32768 else -2147483648) ≤ z ∧ z ≤ (if h then 32767 else 2147483647) then 0 else fSat) := by
  cases h
  · simp only [intResult, if_true, clipSat_eq (show int32Min ≤ int32Max by decide)]
    rfl
  · simp only [intResult, if_true, clipSat_eq (show int16Min ≤ int16Max by decide)]
    rfl

theorem intResult_wraps_half (z : Int) : intResult true false z = ((BitVec.ofInt 16 z).signExtend 32, 0) := by
  simp only [intResult, Bool.false_eq_true, if_false, if_true, sext_eq 16 _ (by decide), ofS, BitVec.signExtend]
  congr 3
  apply BitVec.eq_of_toNat_eq
  simp [half]
  omega

/-- The absolute value of a word, which of −2³¹ is itself. -/
theorem ofS_abs (x : Word) : ofS (if s32 x < 0 then -s32 x else s32 x) = x.abs := by
  have sign : x.msb = decide (s32 x < 0) := BitVec.msb_eq_toInt
  unfold BitVec.abs
  by_cases h : s32 x < 0
  · rw [if_pos h, ofS_neg, if_pos (by simp [sign, h])]
    rfl
  · rw [if_neg h, ofS_s32, if_neg (by simp [sign, h])]

/-- A half word before zeros, and after them. -/
theorem zero_append (v : BitVec 16) : v.setWidth 32 = 0#16 ++ v := by
  apply BitVec.eq_of_toNat_eq
  rw [BitVec.toNat_append]
  simp
  omega
theorem append_zero (v : BitVec 16) : v.setWidth 32 <<< (16 : Nat) = v ++ 0#16 := by
  apply BitVec.eq_of_toNat_eq
  rw [BitVec.toNat_append]
  simp [Nat.shiftLeft_eq]
  omega

theorem natAbs_eq_ite (x : Int) : (x.natAbs : Int) = if x < 0 then -x else x := by
  split <;> omega

theorem toInt_ofS {z : Int} (h : -2147483648 ≤ z ∧ z ≤ 2147483647) : (ofS z).toInt = z := by
  rw [ofS, BitVec.toInt_ofInt_eq_self (by decide) h.1 (by omega)]

/-- The quotient of two words is a word, but for −2³¹ by −1. -/
theorem tdiv_mem {x y : Int} (hx : -2147483648 ≤ x ∧ x ≤ 2147483647) (hy : y ≠ 0) (hn : ¬(x = -2147483648 ∧ y = -1)) :
    -2147483648 ≤ x.tdiv y ∧ x.tdiv y ≤ 2147483647 := by
  have abs : (x.tdiv y).natAbs ≤ x.natAbs := by
    rw [Int.natAbs_tdiv]
    exact Nat.div_le_self _ _
  refine ⟨by omega, ?_⟩
  by_contra above
  have top : x = -2147483648 ∧ x.tdiv y = 2147483648 := by omega
  obtain ⟨rfl, hq⟩ := top
  have hmul := Int.mul_tdiv_add_tmod (-2147483648) y
  have rest : ((-2147483648 : Int).tmod y).natAbs < y.natAbs := by
    rw [Int.natAbs_tmod]
    exact Nat.mod_lt _ (by omega)
  rw [hq] at hmul
  omega

/-- Settles O11: each instruction by its result on the numbers that its operands are. -/
theorem coithIntegerArithmetic : Obligations.CoithIntegerArithmetic := by
  refine ⟨?plain, ?halves, ?quotients⟩
  case plain =>
    intro s k d a b imm sat h x y
    refine ⟨?nop, ?add, ?sub, ?addi, ?mul, ?mulHalf, ?abs, ?neg, ?and, ?or, ?xor, ?andi, ?ori, ?xori, ?lui⟩
    case nop => exact runs_of_coreOp h (exec_coithNop k s) rfl
    case add => exact runs_of_put h (exec_coithAdd k d a b false false s) (by simp [aluAdd, operand, intResult, x, y])
    case sub => exact runs_of_put h (exec_coithSub k d a b false false s) (by simp [aluAdd, operand, intResult, x, y])
    case addi => exact runs_of_setReg h (exec_coithAddi k d a imm s) rfl
    case mul => exact runs_of_put h (exec_coithMul k d a b false false s) (by simp [aluMul, intResult, x, y])
    case mulHalf =>
      refine runs_of_put h (exec_coithMul k d a b true sat s) ?_
      rw [aluMul, if_pos rfl, s16_eq, s16_eq, ofS, BitVec.ofInt_mul]
      rfl
    case abs => exact runs_of_put h (exec_coithAbs k d a false false false s) (by simp [aluAbs, operand, intResult, ofS_abs, x])
    case neg => exact runs_of_put h (exec_coithAbs k d a true false false s) (by simp [aluAbs, operand, intResult, x])
    case and => exact runs_of_setReg h (exec_coithAnd k d a b s) rfl
    case or => exact runs_of_setReg h (exec_coithOr k d a b s) rfl
    case xor => exact runs_of_setReg h (exec_coithXor k d a b s) rfl
    case andi => exact runs_of_setReg h (exec_coithAndi k d a imm s) (by rw [zero_append])
    case ori => exact runs_of_setReg h (exec_coithOri k d a imm s) (by rw [zero_append])
    case xori => exact runs_of_setReg h (exec_coithXori k d a imm s) (by rw [zero_append])
    case lui => exact runs_of_setReg h (exec_coithLui k d imm s) (append_zero imm)
  case halves =>
    intro s k d a b h hr val lo hi wraps clips
    have value (r : Reg) : operand h ((s.core k).reg r) = val r := operand_eq h _
    have clipped (z : Int) := intResult_clips h z
    have wrapped (e : h = true) (z : Int) : intResult h false z = ((BitVec.ofInt 16 z).signExtend 32, 0) := by
      rw [e]
      exact intResult_wraps_half z
    refine ⟨fun e => ?addW, fun e => ?subW, fun e => ?absW, fun e => ?negW, ?add, ?sub, ?abs, ?neg, ?mul⟩
    case addW => subst e; exact runs_of_put hr (exec_coithAdd k d a b true false s) (by rw [aluAdd, value, value]; exact wrapped rfl _)
    case subW => subst e; exact runs_of_put hr (exec_coithSub k d a b true false s) (by rw [aluAdd, value, value]; exact wrapped rfl _)
    case absW =>
      subst e
      exact runs_of_put hr (exec_coithAbs k d a false true false s) (by rw [aluAbs, value, natAbs_eq_ite]; exact wrapped rfl _)
    case negW => subst e; exact runs_of_put hr (exec_coithAbs k d a true true false s) (by rw [aluAbs, value]; exact wrapped rfl _)
    case add => exact runs_of_put hr (exec_coithAdd k d a b h true s) (by rw [aluAdd, value, value]; exact clipped _)
    case sub => exact runs_of_put hr (exec_coithSub k d a b h true s) (by rw [aluAdd, value, value]; exact clipped _)
    case abs => exact runs_of_put hr (exec_coithAbs k d a false h true s) (by rw [aluAbs, value, natAbs_eq_ite]; exact clipped _)
    case neg => exact runs_of_put hr (exec_coithAbs k d a true h true s) (by rw [aluAbs, value]; exact clipped _)
    case mul => exact runs_of_put hr (exec_coithMul k d a b false true s) (intResult_clips false _)
  case quotients =>
    intro s k d a b hr x y
    refine ⟨fun hy => ⟨?divZero, ?remZero⟩, fun hx hy => ⟨?divMin, ?remMin⟩, fun hy hn => ?rest⟩
    case divZero => 
      refine runs_of_put hr (exec_coithDiv k d a b s) ?_
      rw [aluDiv, if_pos (by exact hy)]
      change (if 0 ≤ x then ofS int32Max else ofS int32Min, fDvz) = _
      split <;> rfl
    case remZero => exact runs_of_put hr (exec_coithRem k d a b s) (by rw [aluRem, if_pos (by exact hy)])
    case divMin =>
      refine runs_of_put hr (exec_coithDiv k d a b s) ?_
      have ha : s32 ((s.core k).reg a) = -2147483648 := hx
      have hb : s32 ((s.core k).reg b) = -1 := hy
      rw [aluDiv, ha, hb]
      decide
    case remMin =>
      refine runs_of_put hr (exec_coithRem k d a b s) ?_
      have ha : s32 ((s.core k).reg a) = -2147483648 := hx
      have hb : s32 ((s.core k).reg b) = -1 := hy
      rw [aluRem, ha, hb]
      rfl
    case rest =>
      refine ⟨ofS (x.tdiv y), ofS (x.tmod y), ?_, ?_, ?_⟩
      · exact runs_of_put hr (exec_coithDiv k d a b s) (by
          rw [aluDiv, if_neg (by exact hy), if_neg]
          · rfl
          · rw [Bool.and_eq_true, decide_eq_true_eq, decide_eq_true_eq]
            exact hn)
      · exact runs_of_put hr (exec_coithRem k d a b s) (by rw [aluRem, if_neg (by exact hy)]; rfl)
      · have hx : -2147483648 ≤ x ∧ x ≤ 2147483647 := ⟨BitVec.le_toInt _, Int.le_of_lt_add_one (BitVec.toInt_lt (x := (s.core k).reg a))⟩
        have hyy : -2147483648 ≤ y ∧ y ≤ 2147483647 := ⟨BitVec.le_toInt _, Int.le_of_lt_add_one (BitVec.toInt_lt (x := (s.core k).reg b))⟩
        have rest : (x.tmod y).natAbs < y.natAbs := by
          rw [Int.natAbs_tmod]
          exact Nat.mod_lt _ (by omega)
        rw [toInt_ofS (tdiv_mem hx hy hn), toInt_ofS (by omega)]
        refine ⟨(Int.mul_tdiv_add_tmod x y).symm, rest, fun hr0 => ?_⟩
        rcases le_or_gt 0 x with h | h
        · have := Int.tmod_nonneg y h
          omega
        · have := Int.tmod_nonneg y (show 0 ≤ -x by omega)
          rw [Int.neg_tmod] at this
          omega
/-! ### Bits of shifted and inserted fields (R189) -/

theorem getLsbD_aluExtract (a : Word) (pos width1 : Fin 32) {i : Nat} (hi : i < 32) :
    (aluExtract a pos.val (width1.val + 1)).getLsbD i = (decide (i ≤ width1.val) && a.getLsbD (pos.val + i)) := by
  rw [aluExtract, BitVec.getLsbD_ofNat, Nat.testBit_mod_two_pow, Nat.testBit_shiftRight]
  simp only [hi, decide_true, Bool.true_and, Nat.lt_succ_iff, BitVec.getLsbD]

theorem getLsbD_putFld {n : Nat} (w : BitVec n) {hi lo : Nat} (h : lo ≤ hi) (v : Nat) {i : Nat} (hi' : i < n) :
    (putFld w hi lo v).getLsbD i = if lo ≤ i ∧ i ≤ hi then v.testBit (i - lo) else w.getLsbD i := by
  unfold putFld
  simp only [BitVec.getLsbD_or, BitVec.getLsbD_and, BitVec.getLsbD_not, BitVec.getLsbD_ofNat, hi', decide_true, Bool.true_and,
    Nat.testBit_shiftLeft, Nat.testBit_two_pow_sub_one, Nat.testBit_mod_two_pow]
  by_cases hl : lo ≤ i
  · by_cases hh : i ≤ hi
    · have : i - lo < hi - lo + 1 := by omega
      simp [hl, hh, this]
    · have : ¬i - lo < hi - lo + 1 := by omega
      simp [hl, hh, this]
  · simp [hl]

theorem getLsbD_aluInsert (d a : Word) (pos width1 : Fin 32) {i : Nat} (hi : i < 32) :
    (aluInsert d a pos.val (width1.val + 1)).getLsbD i =
      if pos.val ≤ i ∧ i ≤ pos.val + width1.val then a.getLsbD (i - pos.val) else d.getLsbD i := by
  rw [aluInsert, getLsbD_putFld d (by omega) _ hi, show pos.val + (width1.val + 1) - 1 = pos.val + width1.val by omega]
  split
  · rw [Nat.testBit_mod_two_pow, show decide (i - pos.val < width1.val + 1) = true by simp; omega, Bool.true_and]
    rfl
  · rfl

/-- Settles O12: each instruction by its result word; comparisons by the two cases of their condition. -/
theorem coithBitsAndChoices : Obligations.CoithBitsAndChoices := by
  intro s k d a b c amt pos width1 byReg h imm cond hr x y n val bool holds
  have value (r : Reg) : operand h ((s.core k).reg r) = val r := operand_eq h _
  have compares {i : Instr} {f : Core → Bool} {p : Prop} (hx : exec i s = s.coreOp k i fun c => c.setReg d (boolWord (f c)))
      (hp : f (s.core k) = true ↔ p) : bool p i :=
    ⟨fun yes => runs_of_setReg hr hx (if_pos (hp.mpr yes)), fun no => runs_of_setReg hr hx (if_neg fun e => no (hp.mp e))⟩
  have cond_iff (u v : Word) : condHolds cond u v = true ↔ holds u v := by
    cases cond <;> exact decide_eq_true_iff
  refine ⟨?shl, ?shr, ?sar, ?rol, ⟨_, ?extract, fun i hi => getLsbD_aluExtract x pos width1 hi⟩,
    fun _ => ⟨_, ?insert, fun i hi => getLsbD_aluInsert _ x pos width1 hi⟩, ?min, ?max, ?cmp, ?cmpi, ?sel, ?lim, ?pack, ?crc⟩
  case shl => exact runs_of_setReg hr (exec_coithShf k d a b 0 byReg amt s) rfl
  case shr => exact runs_of_setReg hr (exec_coithShf k d a b 1 byReg amt s) rfl
  case sar => exact runs_of_setReg hr (exec_coithShf k d a b 2 byReg amt s) rfl
  case rol => exact runs_of_setReg hr (exec_coithShf k d a b 3 byReg amt s) rfl
  case extract => exact runs_of_setReg hr (exec_coithBit k d a false pos width1 s) rfl
  case insert => exact runs_of_setReg hr (exec_coithBit k d a true pos width1 s) rfl
  case min =>
    refine runs_of_setReg hr (exec_coithMinmax k d a b false h s) ?_
    simp only [value, Bool.false_eq_true, if_false, ofS]
    congr 1
    omega
  case max =>
    refine runs_of_setReg hr (exec_coithMinmax k d a b true h s) ?_
    simp only [value, if_true, ofS]
    congr 1
    omega
  case cmp => exact compares (exec_coithCmp k d a b cond s) (cond_iff _ _)
  case cmpi => exact compares (exec_coithCmpi k d a cond imm s) (cond_iff _ _)
  case sel =>
    refine runs_of_setReg hr (exec_coithSel k d a b c s) ?_
    simp only [ne_eq, ite_not]
    rfl
  case lim =>
    refine runs_of_setReg hr (exec_coithLim k d a b h s) ?_
    simp only [value, ofS]
    congr 1
    omega
  case pack => exact runs_of_setReg hr (exec_coithPack k d a b s) rfl
  case crc => exact runs_of_setReg hr (exec_coithCrc k d a s) rfl
/-! ### Addresses (R194) -/

section address
variable {s : State} {k : CoreRef} {base i : Reg} {addr n : Nat}

theorem checkAccess_good {lo len : Nat} (h : lo ≤ addr ∧ addr + n ≤ lo + len ∧ addr % n = 0) : checkAccess lo len addr n = .good addr := by
  obtain ⟨low, high, aligned⟩ := h
  rw [checkAccess, if_neg (by simp; omega), if_neg (by simp [aligned])]

theorem addrM_good {off : BitVec 16} (h : MayAccess s k base off.toNat addr n) :
    (s.bench k.bench).addrM (s.core k) base off n = .good addr := by
  obtain ⟨e, low, high, aligned⟩ := h
  unfold Bench.addrM
  split at e <;> simp_all [checkAccess_good]

theorem addrX_good {scale : Nat} (h : MayAccess s k base (((s.core k).reg i).toNat * 2 ^ scale) addr n) :
    (s.bench k.bench).addrX (s.core k) base i scale n = .good addr := by
  obtain ⟨e, low, high, aligned⟩ := h
  unfold Bench.addrX
  split at e <;> simp_all [checkAccess_good]

end address

/-! ### Elements as bytes -/

section elements
variable (m : Tbl Byte) (a : Nat)

/-- Bytes least significant first are their concatenation, most significant first. -/
theorem readLe_two : BitVec.ofNat 16 (readLe m a 2) = Tbl.get 0 m (a + 1) ++ Tbl.get 0 m a := by
  apply BitVec.eq_of_toNat_eq
  have h0 := (Tbl.get 0 m a).isLt
  have h1 := (Tbl.get 0 m (a + 1)).isLt
  rw [BitVec.toNat_append, ← Nat.shiftLeft_add_eq_or_of_lt h0]
  simp [readLe, Nat.shiftLeft_eq]
  omega

theorem readLe_four : BitVec.ofNat 32 (readLe m a 4) =
    Tbl.get 0 m (a + 3) ++ Tbl.get 0 m (a + 2) ++ Tbl.get 0 m (a + 1) ++ Tbl.get 0 m a := by
  apply BitVec.eq_of_toNat_eq
  have h0 := (Tbl.get 0 m a).isLt
  have h1 := (Tbl.get 0 m (a + 1)).isLt
  have h2 := (Tbl.get 0 m (a + 2)).isLt
  have h3 := (Tbl.get 0 m (a + 3)).isLt
  rw [BitVec.toNat_append, ← Nat.shiftLeft_add_eq_or_of_lt h0, BitVec.toNat_append, ← Nat.shiftLeft_add_eq_or_of_lt h1,
    BitVec.toNat_append, ← Nat.shiftLeft_add_eq_or_of_lt h2, BitVec.toNat_ofNat]
  simp only [readLe, Nat.add_assoc, Nat.reduceAdd, Nat.shiftLeft_eq]
  omega

theorem readLe_lt (n : Nat) : readLe m a n < 2 ^ (8 * n) := by
  induction n generalizing a with
  | zero => simp [readLe]
  | succ n ih =>
    have := ih (a + 1)
    have h0 := (Tbl.get 0 m a).isLt
    rw [readLe, Nat.mul_add, Nat.pow_add]
    omega

theorem readLe_eight : readLe m a 8 = readLe m a 4 + 2 ^ 32 * readLe m (a + 4) 4 := by
  simp only [readLe, Nat.add_assoc, Nat.reduceAdd]
  omega

/-- A byte of a stored element. -/
theorem get_writeLe {n j : Nat} (h : j < n) (v : Nat) : Tbl.get 0 (writeLe m a v n) (a + j) = BitVec.ofNat 8 (v / 2 ^ (8 * j)) := by
  induction n generalizing m a v j with
  | zero => omega
  | succ n ih =>
    rw [writeLe]
    cases j with
    | zero =>
      rw [writeLe_other n (.inl (by omega))]
      simp
    | succ j =>
      rw [show a + (j + 1) = a + 1 + j by omega, ih _ _ (by omega), Nat.div_div_eq_div_mul]
      congr 2
      rw [Nat.mul_add, Nat.pow_add]
      omega

end elements

/-! ### Permitted loads and stores -/

section accesses
variable {s : State} {k : CoreRef} {i : Instr} {acc : Core → Bench → Access} {f : Fin 3} {d : Reg} {addr : Nat}

theorem runs_loadAt (h : s.CoreRuns k) (hx : exec i s = s.onCore k i fun c b => b.loadAt k.core c f d (acc c b))
    (ha : acc (s.core k) (s.bench k.bench) = .good addr) :
    Runs k i s (s.withCore k ((s.core k).loadElem f d (readLe (s.bench k.bench).inst addr (elemSize f))).step4) := fun hi => by
  rw [hx, s.onCore_next h i hi]
  simp only [Bench.loadAt, ha, Bench.access]
  exact congrArg Host.Outcome.next (State.putBench_eq _ _ _ rfl rfl fun e => h.2.2 _ e)

theorem runs_storeAt (h : s.CoreRuns k) (hx : exec i s = s.onCore k i fun c b => b.storeAt k.core c f d (acc c b))
    (ha : acc (s.core k) (s.bench k.bench) = .good addr) :
    Runs k i s (s.withBench k.bench
      (((s.bench k.bench).store addr (elemSize f) ((s.core k).storeElem f d)).setCore k.core (s.core k).step4)) := fun hi => by
  rw [hx, s.onCore_next h i hi]
  simp only [Bench.storeAt, ha, Bench.access]
  exact congrArg Host.Outcome.next (State.putBench_eq _ _ _ rfl rfl fun e => h.2.2 _ e)

theorem loadElem_word (c : Core) (m : Tbl Byte) (a : Nat) : c.loadElem 0 d (readLe m a 4) =
    c.setReg d (Tbl.get 0 m (a + 3) ++ Tbl.get 0 m (a + 2) ++ Tbl.get 0 m (a + 1) ++ Tbl.get 0 m a) := by
  rw [← readLe_four]
  rfl

theorem loadElem_half (c : Core) (m : Tbl Byte) (a : Nat) : c.loadElem 1 d (readLe m a 2) =
    c.setReg d ((Tbl.get 0 m (a + 1) ++ Tbl.get 0 m a).signExtend 32) := by
  rw [← readLe_two]
  exact congrArg (fun v => c.setReg d (ofS v)) (sext_eq 16 _ (by decide))

theorem loadElem_pair (c : Core) (m : Tbl Byte) (a : Nat) : c.loadElem 2 d (readLe m a 8) =
    (c.setReg d (Tbl.get 0 m (a + 3) ++ Tbl.get 0 m (a + 2) ++ Tbl.get 0 m (a + 1) ++ Tbl.get 0 m a)).setReg (pairHi d)
      (Tbl.get 0 m (a + 7) ++ Tbl.get 0 m (a + 6) ++ Tbl.get 0 m (a + 5) ++ Tbl.get 0 m (a + 4)) := by
  have low := readLe_lt m a 4
  have high := readLe_four m (a + 4)
  simp only [Nat.add_assoc, Nat.reduceAdd] at high
  rw [← readLe_four m a, ← high, readLe_eight]
  have hl : lo32 (readLe m a 4 + 2 ^ 32 * readLe m (a + 4) 4) = BitVec.ofNat 32 (readLe m a 4) := by
    apply BitVec.eq_of_toNat_eq
    simp [lo32]
  have hh : hi32 (readLe m a 4 + 2 ^ 32 * readLe m (a + 4) 4) = BitVec.ofNat 32 (readLe m (a + 4) 4) := by
    apply BitVec.eq_of_toNat_eq
    simp [hi32]
    omega
  rw [← hl, ← hh]
  rfl

/-- What a permitted store leaves: its bytes, every other byte, and the rest of the bench but for what the memory tells of. -/
theorem withBench_store {n : Nat} {v : BitVec 64} (b : Bench) (c : Core) {w : Nat} (hb : s.bench k.bench = b) (hwf : s.memoryWf)
    (hv : ∀ j < n, BitVec.ofNat 8 (w / 2 ^ (8 * j)) = v.extractLsb' (8 * j) 8) :
    let t := s.withBench k.bench ((b.store addr n w).setCore k.core c)
    OnlyBench k.bench s t ∧ t.hub = s.hub ∧ t.memoryWf ∧ (t.bench k.bench).cores = b.cores.set k.core c ∧
      (t.bench k.bench).points = b.points ∧
      (∀ j < n, (t.bench k.bench).byte (addr + j) = v.extractLsb' (8 * j) 8) ∧
      ∀ j, j < addr ∨ addr + n ≤ j → (t.bench k.bench).byte j = b.byte j := by
  intro t
  have self : t.bench k.bench = (b.store addr n w).setCore k.core c := by simp [t, State.withBench, State.bench]
  have other (m : BenchIx) (hm : m ≠ k.bench) : t.bench m = s.bench m := by
    have : k.bench.val ≠ m.val := fun e => hm (Fin.ext e.symm)
    simp [t, State.withBench, State.bench, Vector.getElem_set_ne, this]
  refine ⟨⟨other, rfl⟩, rfl, fun m => ?_, ?_, ?_, fun j hj => ?_, fun j hj => ?_⟩
  · by_cases e : m = k.bench
    · rw [e, self]
      exact writeLe_wf n (hb ▸ hwf k.bench)
    · rw [other m e]
      exact hwf m
  · rw [self]; rfl
  · rw [self]; rfl
  · rw [self]
    exact (get_writeLe b.inst addr hj w).trans (hv j hj)
  · rw [self]
    exact writeLe_other n hj

/-- The bytes that a store takes from its register or pair. -/
theorem storeElem_byte (c : Core) : (∀ j < 4, BitVec.ofNat 8 (c.storeElem 0 d / 2 ^ (8 * j)) = ((c.reg d).setWidth 64).extractLsb' (8 * j) 8) ∧
    (∀ j < 2, BitVec.ofNat 8 (c.storeElem 1 d / 2 ^ (8 * j)) = ((c.reg d).setWidth 64).extractLsb' (8 * j) 8) ∧
    (∀ j < 8, BitVec.ofNat 8 (c.storeElem 2 d / 2 ^ (8 * j)) = (c.reg (pairHi d) ++ c.reg d).extractLsb' (8 * j) 8) := by
  have byte {n : Nat} (v : BitVec n) (j : Nat) : BitVec.ofNat 8 (v.toNat / 2 ^ (8 * j)) = v.extractLsb' (8 * j) 8 := by
    apply BitVec.eq_of_toNat_eq
    simp [Nat.shiftRight_eq_div_pow]
  have wide : ((c.reg d).setWidth 64).toNat = (c.reg d).toNat := by
    have := (c.reg d).isLt
    simp
    omega
  refine ⟨fun j _ => ?_, fun j hj => ?_, fun j _ => ?_⟩
  · rw [← byte, wide]
    rfl
  · rw [← byte, wide]
    apply BitVec.eq_of_toNat_eq
    simp only [Core.storeElem, BitVec.toNat_ofNat]
    interval_cases j <;> omega
  · rw [← byte, Core.storeElem, Core.pair, cat64_eq]

end accesses

/-- Settles O16: each load and store by its checked address and the bytes of its element. -/
theorem coithMemoryAccesses : Obligations.CoithMemoryAccesses := by
  constructor
  · intro s k d base i off scale addr h c by' word high asWord asHalf asPair index
    refine ⟨fun a => ?ldw, fun a => ?ldh, fun a => ?ldd, fun a => ?ldx4, fun a => ?ldx2, fun a => ?ldx8⟩
    case ldw =>
      have := runs_loadAt h (exec_coithLdw k d base off s) (addrM_good a)
      rwa [show elemSize 0 = 4 from rfl, loadElem_word] at this
    case ldh =>
      have := runs_loadAt h (exec_coithLdh k d base off s) (addrM_good a)
      rwa [show elemSize 1 = 2 from rfl, loadElem_half] at this
    case ldd =>
      have := runs_loadAt h (exec_coithLdd k d base off s) (addrM_good a)
      rwa [show elemSize 2 = 8 from rfl, loadElem_pair] at this
    case ldx4 =>
      have := runs_loadAt h (exec_coithLdx k d base i 0 scale s) (addrX_good a)
      rwa [show elemSize 0 = 4 from rfl, loadElem_word] at this
    case ldx2 =>
      have := runs_loadAt h (exec_coithLdx k d base i 1 scale s) (addrX_good a)
      rwa [show elemSize 1 = 2 from rfl, loadElem_half] at this
    case ldx8 =>
      have := runs_loadAt h (exec_coithLdx k d base i 2 scale s) (addrX_good a)
      rwa [show elemSize 2 = 8 from rfl, loadElem_pair] at this
  · intro s k d base i off scale addr h hwf c index stores
    obtain ⟨words, halves, pairs⟩ := storeElem_byte (d := d) c
    refine ⟨fun a => ?stw, fun a => ?sth, fun a => ?std, fun a => ?stx4, fun a => ?stx2, fun a => ?stx8⟩
    case stw => exact fun hi => ⟨_, runs_storeAt h (exec_coithStw k d base off s) (addrM_good a) hi, withBench_store _ _ rfl hwf words⟩
    case sth => exact fun hi => ⟨_, runs_storeAt h (exec_coithSth k d base off s) (addrM_good a) hi, withBench_store _ _ rfl hwf halves⟩
    case std => exact fun hi => ⟨_, runs_storeAt h (exec_coithStd k d base off s) (addrM_good a) hi, withBench_store _ _ rfl hwf pairs⟩
    case stx4 =>
      exact fun hi => ⟨_, runs_storeAt h (exec_coithStx k d base i 0 scale s) (addrX_good a) hi, withBench_store _ _ rfl hwf words⟩
    case stx2 =>
      exact fun hi => ⟨_, runs_storeAt h (exec_coithStx k d base i 1 scale s) (addrX_good a) hi, withBench_store _ _ rfl hwf halves⟩
    case stx8 =>
      exact fun hi => ⟨_, runs_storeAt h (exec_coithStx k d base i 2 scale s) (addrX_good a) hi, withBench_store _ _ rfl hwf pairs⟩
/-! ### Control flow (R195 to R198) -/

/-- An address that ends no body is gone on to with the loops as they are. -/
theorem goOn_of_inside {next : Nat} {l : List LoopFrame} (h : ∀ f ∈ l, next ≠ f.after) (c : Core) :
    goOn next l c = { c with pc := next, loops := l } := by
  cases l with
  | nil => rfl
  | cons f r => rw [goOn, if_neg (h f (List.mem_cons_self ..))]

/-- A core instruction that acts on its bench: the bench it leaves, whatever becomes of an open Quoin session. -/
theorem runsSo_of_onCore {s : State} {k : CoreRef} {i : Instr} {f : Core → Bench → Bench} {P : State → Prop} (h : s.CoreRuns k)
    (hx : exec i s = s.onCore k i f)
    (hp : ∀ t, OnlyBench k.bench s t → (∃ q, t.bench k.bench = { f (s.core k) (s.bench k.bench) with qn := q }) → P t) :
    RunsSo k i s P := fun hi =>
  ⟨_, hx.trans (s.onCore_next h i hi f), hp _ (State.putBench_only ..) (State.putBench_bench ..)⟩

section mergeSticky
variable (c : Core) (b : Bench)

theorem Bench.mergeSticky_only : ∃ pe, b.mergeSticky c = { b with pe := pe } := by
  unfold Bench.mergeSticky
  split <;> exact ⟨_, rfl⟩

theorem Bench.mergeSticky_segment {n : Fin 16} {m : Fin 64} (h : c.run = .segment n m) :
    (b.mergeSticky c).pe.sticky[n] = b.pe.sticky[n] ||| c.sticky.setWidth 32 := by
  unfold Bench.mergeSticky
  simp [h, upd]

theorem Bench.mergeSticky_item {i : Item} (h : c.run = .item i) :
    (b.mergeSticky c).pe.stickyWi = b.pe.stickyWi ||| c.sticky.setWidth 32 := by
  unfold Bench.mergeSticky
  simp [h]

end mergeSticky

theorem Bench.slotDone_only (n : Fin 64) (b : Bench) : ∃ sc, b.slotDone n = { b with sc := sc } := by
  unfold Bench.slotDone
  split
  · dsimp only
    split
    · exact ⟨_, rfl⟩
    · exact ⟨b.sc, rfl⟩
  · exact ⟨b.sc, rfl⟩

/-- The end of a run gives the core up: its sticky flags are merged, its frames are gone, and the scheduler hears of it. -/
theorem Bench.endRun_only {k : Fin 4} {c : Core} {b : Bench} (hp : b.packetOpen k c = false) (hr : c.run ≠ .idle) : ∃ sc,
    b.endRun k c = { (b.mergeSticky c).setCore k { c with run := .idle, loops := [], calls := [] } with sc := sc } := by
  unfold Bench.endRun
  rw [if_neg (by simp [hp])]
  dsimp only
  split
  · next n _ => exact Bench.slotDone_only n _
  · split
    · exact ⟨_, rfl⟩
    · exact ⟨((b.mergeSticky c).setCore k { c with run := .idle, loops := [], calls := [] }).sc, rfl⟩
  · exact absurd ‹_› hr

/-- Settles O18: each instruction by the core it leaves; END by what it leaves of its bench. -/
theorem coithControlFlow : Obligations.CoithControlFlow := by
  intro s k d a cond off count1 len fb ioff h b c x dst holds
  have cond_iff : brHolds cond (c.reg a) = true ↔ holds := by
    cases cond
    case always => exact ⟨fun _ => trivial, fun _ => rfl⟩
    case zero => exact decide_eq_true_iff.trans (BitVec.toInt_inj (y := 0)).symm
    case nonzero => exact decide_eq_true_iff.trans (BitVec.toInt_inj (y := 0)).symm.not
    all_goals exact decide_eq_true_iff
  refine ⟨fun hc => ?taken, fun hc => ?not, ?loop, fun e he => ?call, fun f r hf hl => ?ret, fun n m hr hp => ?segment,
    fun i hr hp => ?item⟩
  case taken =>
    intro hi
    rw [exec_coithBr, execCoithBr, s.onCore_core h _ hi fun c _ => if brHolds cond (c.reg a) then c.branch (c.pc + 4 * off.toNat) else c.step4,
      if_pos (cond_iff.mpr hc), Core.branch]
    have inside (f : LoopFrame) : (decide (dst < f.first) || decide (f.after ≤ dst)) =
        !(decide (f.first ≤ dst) && decide (dst < f.after)) := by
      simp only [Bool.not_and, ← decide_not, Nat.not_le, Nat.not_lt]
    simp only [← inside]
    rfl
  case not =>
    intro hi
    rw [exec_coithBr, execCoithBr, s.onCore_core h _ hi fun c _ => if brHolds cond (c.reg a) then c.branch (c.pc + 4 * off.toNat) else c.step4,
      if_neg fun e => hc (cond_iff.mp e)]
  case loop => 
    intro hi
    rw [exec_coithLoop]
    exact s.onCore_core h _ hi fun c _ => c.beginLoop d (count1.val + 1) len.val
  case call =>
    intro hi
    have := s.onCore_eq h (.coithCall k fb ioff) (fun c b =>
      match b.pe.fb fb.val with
      | some x => b.setCore k.core (c.call x.entry (c.ip + 16 * ioff.toNat) x.size)
      | none => b)
    rw [he] at this
    exact (exec_coithCall k fb ioff s).trans (this rfl rfl rfl hi)
  case ret =>
    intro hi
    rw [exec_coithRet, execCoithRet, s.onCore_core h _ hi fun c _ => c.ret]
    unfold Core.ret
    rw [show (s.core k).calls = f :: r from hf]
    exact congrArg (fun x => Host.Outcome.next (s.withCore k x)) (goOn_of_inside hl _)
  case segment =>
    obtain ⟨sc, he⟩ := Bench.endRun_only hp (by rw [hr]; simp)
    refine runsSo_of_onCore h (exec_coithEnd k s) fun t ho ⟨q, hq⟩ => ?_
    have hs := Bench.mergeSticky_segment c b hr
    obtain ⟨pe, hm⟩ := Bench.mergeSticky_only c b
    rw [hm] at hs
    rw [State.core, hq, he, hm]
    exact ⟨ho, by simp [Bench.setCore], rfl, rfl, hs⟩
  case item =>
    obtain ⟨sc, he⟩ := Bench.endRun_only hp (by rw [hr]; simp)
    refine runsSo_of_onCore h (exec_coithEnd k s) fun t ho ⟨q, hq⟩ => ?_
    have hs := Bench.mergeSticky_item c b hr
    obtain ⟨pe, hm⟩ := Bench.mergeSticky_only c b
    rw [hm] at hs
    rw [State.core, hq, he, hm]
    exact ⟨ho, by simp [Bench.setCore], rfl, rfl, hs⟩
/-! ### A loop of NOPs (R196) -/

theorem nops_add (k : CoreRef) (m n : Nat) (s : State) (h : ∀ u, ∃ v, exec (.coithNop k) u = .next v) :
    nops k (m + n) s = nops k n (nops k m s) := by
  induction m generalizing s with
  | zero => rw [Nat.zero_add]; rfl
  | succ m ih =>
    obtain ⟨v, hv⟩ := h s
    rw [Nat.succ_add, nops, nops, hv]
    exact ih v

theorem exec_coithNop_next (k : CoreRef) (u : State) : ∃ v, exec (.coithNop k) u = .next v := ⟨_, exec_coithNop k u⟩

/-- What a core's word spells is a matter of its PC and of whether it runs. -/
theorem Bench.spells_setCore (b : Bench) (k : CoreRef) (i : Instr) {c c' : Core} (hp : c.pc = c'.pc) (hr : c.run = c'.run) :
    (b.setCore k.core c).spells k i = (b.setCore k.core c').spells k i := by
  have self (x : Core) : (b.setCore k.core x).cores[k.core] = x := by simp [Bench.setCore]
  simp only [Bench.spells, self, Core.busy, Bench.codeWord, hp, hr]
  rfl

@[simp] theorem Core.setReg_pc (d : Reg) (v : Word) (c : Core) : (c.setReg d v).pc = c.pc := by unfold Core.setReg; split <;> rfl
@[simp] theorem Core.setReg_loops (d : Reg) (v : Word) (c : Core) : (c.setReg d v).loops = c.loops := by unfold Core.setReg; split <;> rfl
@[simp] theorem Core.setReg_run (d : Reg) (v : Word) (c : Core) : (c.setReg d v).run = c.run := by unfold Core.setReg; split <;> rfl
theorem Core.setReg_reg_self {d : Reg} (h : d ≠ 0) (v : Word) (c : Core) : (c.setReg d v).reg d = v := by
  simp [Core.setReg, Core.reg, h]

section withCore
variable {s : State} {k : CoreRef} (c c' : Core)

theorem State.withCore_withCore : (s.withCore k c).withCore k c' = s.withCore k c' := by
  simp [State.withCore, State.withBench, State.bench, Bench.setCore]

variable {c} in
theorem State.withCore_sessions (h : s.SessionsClosed) : (s.withCore k c).SessionsClosed := by
  intro m hm
  by_cases e : k.bench.val = m.val
  · obtain rfl : k.bench = m := Fin.ext e
    simp only [State.withCore, State.withBench, State.bench, Fin.getElem_fin, Vector.getElem_set_self] at hm ⊢
    exact h k.bench hm
  · simp only [State.withCore, State.withBench, State.bench, Fin.getElem_fin, Vector.getElem_set_ne _ _ e] at hm ⊢
    exact h m hm

end withCore

/-- The loop that a core runs: its frame in iteration q, the frames around it, and its register. -/
structure LoopRun where
  first : Nat
  len : Nat
  count : Nat
  reg : Reg
  outer : List LoopFrame
  run : Running

namespace LoopRun
variable (l : LoopRun)

/-- In iteration q of the loop, before instruction r of its body. -/
structure At (q r : Nat) (c : Core) : Prop where
  pc : c.pc = l.first + 4 * r
  loops : c.loops = ⟨l.first, l.first + 4 * l.len, q, l.count, l.reg⟩ :: l.outer
  reg : c.reg l.reg = BitVec.ofNat 32 q
  run : c.run = l.run

/-- Behind the loop. -/
structure Behind (c : Core) : Prop where
  pc : c.pc = l.first + 4 * l.len
  loops : c.loops = l.outer

variable {l} {q r : Nat} {c : Core}

theorem At.step (h : l.At q r c) (hr : r + 1 < l.len) : l.At q (r + 1) c.step4 := by
  have inside : c.pc + 4 ≠ l.first + 4 * l.len := by have := h.pc; omega
  have e : c.step4 = { c with pc := c.pc + 4, loops := c.loops } := by
    unfold Core.step4
    rw [h.loops, goOn, if_neg inside]
  rw [e]
  exact ⟨by have := h.pc; show c.pc + 4 = _; omega, h.loops, h.reg, h.run⟩

theorem At.again (h : l.At q r c) (hr : r + 1 = l.len) (hq : q + 1 < l.count) (hd : l.reg ≠ 0) : l.At (q + 1) 0 c.step4 := by
  have last : c.pc + 4 = l.first + 4 * l.len := by have := h.pc; omega
  unfold Core.step4
  rw [h.loops, goOn, if_pos last, if_pos hq]
  exact ⟨by simp, by simp, Core.setReg_reg_self hd _ _, by simp [h.run]⟩

theorem At.leave (h : l.At q r c) (hr : r + 1 = l.len) (hq : q + 1 = l.count) (ho : ∀ f ∈ l.outer, l.first + 4 * l.len ≠ f.after) :
    l.Behind c.step4 := by
  have last : c.pc + 4 = l.first + 4 * l.len := by have := h.pc; omega
  unfold Core.step4
  rw [h.loops, goOn, if_pos last, if_neg (by simp [hq]), last, goOn_of_inside ho]
  exact ⟨rfl, rfl⟩

end LoopRun

section loop
variable {s : State} {k : CoreRef} {l : LoopRun} (hs : s.CoreRuns k) (hrun : l.run = (s.core k).run)
  (hn : ∀ r < l.len, ((s.bench k.bench).setCore k.core { s.core k with pc := l.first + 4 * r }).spells k (.coithNop k) = true)
include hs hrun hn

/-- A NOP of the body steps the core. -/
theorem exec_nop_at {q r : Nat} {c : Core} (h : l.At q r c) (hr : r < l.len) :
    exec (.coithNop k) (s.withCore k c) = .next (s.withCore k c.step4) := by
  have idle : ((s.withCore k c).core k).run ≠ .idle := by
    rw [State.withCore_core, h.run, hrun]
    exact hs.1
  have spelled : ((s.withCore k c).bench k.bench).spells k (.coithNop k) = true := by
    have e := ((s.bench k.bench).spells_setCore k (.coithNop k) (c := { s.core k with pc := l.first + 4 * r }) (c' := c)
      h.pc.symm (h.run.trans hrun).symm).symm.trans (hn r hr)
    simpa [State.withCore, State.withBench, State.bench] using e
  rw [exec_coithNop, execCoithNop, State.coreOp_next ⟨idle, hs.2.1, State.withCore_sessions hs.2.2⟩ _ spelled,
    State.withCore_core, State.withCore_withCore]

/-- NOPs run through the body as far as it goes. -/
theorem nops_within {q : Nat} {c : Core} (h : l.At q 0 c) {r : Nat} (hr : r < l.len) :
    ∃ c', l.At q r c' ∧ nops k r (s.withCore k c) = s.withCore k c' := by
  induction r with
  | zero => exact ⟨c, h, rfl⟩
  | succ r ih =>
    obtain ⟨c', h', e⟩ := ih (by omega)
    refine ⟨c'.step4, h'.step hr, ?_⟩
    rw [nops_add k r 1 _ (exec_coithNop_next k), e, nops, exec_nop_at hs hrun hn h' (by omega)]
    rfl

/-- One pass: the whole body, and the step that goes on to the next iteration or out of the loop. -/
theorem nops_pass {q : Nat} {c : Core} (h : l.At q 0 c) (hl : l.len ≠ 0) :
    ∃ c', l.At q (l.len - 1) c' ∧ nops k l.len (s.withCore k c) = s.withCore k c'.step4 := by
  obtain ⟨c', h', e⟩ := nops_within hs hrun hn h (show l.len - 1 < l.len by omega)
  refine ⟨c', h', ?_⟩
  have e' := nops_add k (l.len - 1) 1 (s.withCore k c) (exec_coithNop_next k)
  rw [show l.len - 1 + 1 = l.len by omega, e, nops, exec_nop_at hs hrun hn h' (by omega)] at e'
  exact e'

/-- The passes before the last. -/
theorem nops_passes {c : Core} (h : l.At 0 0 c) (hl : l.len ≠ 0) (hd : l.reg ≠ 0) {q : Nat} (hq : q < l.count) :
    ∃ c', l.At q 0 c' ∧ nops k (q * l.len) (s.withCore k c) = s.withCore k c' := by
  induction q with
  | zero => exact ⟨c, h, by rw [Nat.zero_mul]; rfl⟩
  | succ q ih =>
    obtain ⟨c', h', e⟩ := ih (by omega)
    obtain ⟨c'', h'', e'⟩ := nops_pass hs hrun hn h' hl
    refine ⟨c''.step4, h''.again (by omega) hq hd, ?_⟩
    rw [Nat.succ_mul, nops_add k _ _ _ (exec_coithNop_next k), e, e']

/-- All passes: behind the loop. -/
theorem nops_all {c : Core} (h : l.At 0 0 c) (hl : l.len ≠ 0) (hd : l.reg ≠ 0) {m : Nat} (hm : m + 1 = l.count)
    (ho : ∀ f ∈ l.outer, l.first + 4 * l.len ≠ f.after) :
    ∃ c', l.Behind c' ∧ nops k ((m + 1) * l.len) (s.withCore k c) = s.withCore k c' := by
  obtain ⟨c', h', e⟩ := nops_passes hs hrun hn h hl hd (show m < l.count by omega)
  obtain ⟨c'', h'', e'⟩ := nops_pass hs hrun hn h' hl
  refine ⟨c''.step4, h''.leave (by omega) hm ho, ?_⟩
  rw [Nat.succ_mul, nops_add k _ _ _ (exec_coithNop_next k), e, e']

end loop

/-- Settles O19: by induction over the passes, each of them over the NOPs of the body. -/
theorem coithLoopRunsItsBody : Obligations.CoithLoopRunsItsBody := by
  intro s k d count1 len hs hl hd ho hn hi
  let l : LoopRun := ⟨(s.core k).pc + 4, len.val, count1.val + 1, d, (s.core k).loops, (s.core k).run⟩
  have start : l.At 0 0 ((s.core k).beginLoop d (count1.val + 1) len.val) := by
    unfold Core.beginLoop
    exact ⟨by simp [l], by simp [l], Core.setReg_reg_self hd _ _, by simp [l]⟩
  have hlen : l.len ≠ 0 := fun e => hl (Fin.ext e)
  refine ⟨_, (exec_coithLoop k d count1 len s).trans (s.onCore_core hs _ hi fun c _ => c.beginLoop d (count1.val + 1) len.val),
    fun j hj => ?_, ?_⟩
  · obtain ⟨c, h, e⟩ := nops_passes hs rfl hn start hlen hd (show j + 1 < l.count from Nat.succ_lt_succ hj)
    rw [show len.val = l.len from rfl, e, State.withCore_core]
    exact ⟨h.pc, h.reg⟩
  · obtain ⟨c, h, e⟩ := nops_all hs rfl hn start hlen hd (m := count1.val) rfl ho
    rw [show len.val = l.len from rfl, e, State.withCore_core]
    exact ⟨h.pc, h.loops⟩

end Sys2Proof.Machine
end

section
/-!
Core faults, and the communication instructions
-/

namespace Sys2Proof.Machine

/-! ### A FIFO that waits for a release -/

/-- Bench 0 with a segment on core 0, FIFO 0 enabled for cores and empty, and at the release position of flow 0 a completed
item that holds a word for that FIFO. -/
def fifoAwaitsRelease : State :=
  { State.reset with benches := State.reset.benches.set 0 { Bench.atReset 0 with
      sc := { results := [{ flow := 0, seq := 0, done := true, effects := [.fifo 0 1 true] }] }
      fq := { f := (Vector.replicate 32 {}).set 0 { cfg := 0x80000000 } }
      cores := (Bench.atReset 0).cores.set 0 { run := .segment 1 1 } } }

/-- The words of FIFO 0 of bench 0 after an instruction. -/
def wordsAfter (i : Instr) (s : State) : Option (List (Word × Bool)) :=
  match exec i s with
  | .next t => some ((t.bench 0).fifo 0).words
  | _ => none

theorem fifoAwaitsRelease_runs : fifoAwaitsRelease.CoreRuns ⟨0, 0, none⟩ ∧
    (fifoAwaitsRelease.bench 0).spells ⟨0, 0, none⟩ (.coithFwr ⟨0, 0, none⟩ 1 2 0 true) = true ∧
    ((fifoAwaitsRelease.bench 0).fifo 0).prod = 0 ∧ ((fifoAwaitsRelease.bench 0).fifo 0).en = true ∧
    (fifoAwaitsRelease.core ⟨0, 0, none⟩).ordered = none ∧ ((fifoAwaitsRelease.bench 0).fifo 0).wrOpen = false ∧
    ((fifoAwaitsRelease.bench 0).fifo 0).dropping = false ∧ ((fifoAwaitsRelease.bench 0).fifo 0).full = false := by
  decide +kernel

/-- FWR finds the FIFO locked: no word enters it. -/
theorem fifoAwaitsRelease_locked : wordsAfter (.coithFwr ⟨0, 0, none⟩ 1 2 0 true) fifoAwaitsRelease = some [] := by
  decide +kernel

/-- Refutes O20: the clause of FWR leaves out that a first word is answered LOCKED while a completed item at its release
position holds words for the same FIFO. -/
theorem not_coithCommunication : ¬ Obligations.CoithCommunication := by
  intro h
  obtain ⟨hruns, hspells, hprod, hen, hord, hopen, hdrop, hfull⟩ := fifoAwaitsRelease_runs
  obtain ⟨-, -, -, -, written, -⟩ := h fifoAwaitsRelease ⟨0, 0, none⟩ 1 2 0 0 0 true false 0 hruns
  obtain ⟨t, he, -, -, hw⟩ := written hprod hen hord hopen hdrop hfull hspells
  have after : wordsAfter (.coithFwr ⟨0, 0, none⟩ 1 2 0 true) fifoAwaitsRelease = some ((t.bench 0).fifo 0).words := by
    rw [wordsAfter, he]
  rw [fifoAwaitsRelease_locked, hw] at after
  simp at after
/-! ### Operations that keep the mode -/

section
open Bench

@[simp] theorem foldl_mode {α : Type} {f : Bench → α → Bench} (h : ∀ b a, (f b a).bn.mode = b.bn.mode) (l : List α) (b : Bench) :
    (l.foldl f b).bn.mode = b.bn.mode := foldl_keeps (g := fun b : Bench => b.bn.mode) h l b
@[simp] theorem foldl_snd_mode {α β : Type} {f : β × Bench → α → β × Bench} (h : ∀ r a, (f r a).2.bn.mode = r.2.bn.mode) (l : List α)
    (r : β × Bench) : (l.foldl f r).2.bn.mode = r.2.bn.mode := foldl_keeps (g := fun r : β × Bench => r.2.bn.mode) h l r
@[simp] theorem Bench.errorCause_mode (bit : Nat) (detail : Word) (b : Bench) : (b.errorCause bit detail).bn.mode = b.bn.mode := by
  simp only [Bench.errorCause]; (repeat' split) <;> simp
@[simp] theorem Bench.conflict_mode (p : Nat) (b : Bench) : (b.conflict p).bn.mode = b.bn.mode := by
  unfold Bench.conflict; exact errorCause_mode ..
@[simp] theorem Bench.settleForces_mode (p i : Nat) (b : Bench) : (b.settleForces p i).bn.mode = b.bn.mode := rfl
@[simp] theorem Bench.putPoint_mode (p : Nat) (v : Word) (q : Half) (st : Time) (b : Bench) : (b.putPoint p v q st).bn.mode = b.bn.mode := by
  unfold Bench.putPoint; dsimp only; rw [tap_bn, setPoint_bn, setLive_bn, cover_bn]; split <;> rfl
@[simp] theorem Bench.writePoint_mode (src : Source) (p : Nat) (v : Word) (q : Half) (st : Time) (b : Bench) :
    (b.writePoint src p v q st).bn.mode = b.bn.mode := by
  unfold Bench.writePoint; (repeat' split) <;> simp
@[simp] theorem Bench.fresh_mode (b : Bench) : (Bench.fresh b).2.bn.mode = b.bn.mode := rfl
@[simp] theorem Bench.healthSev_mode (k : Nat) (b : Bench) : (Bench.healthSev k b).bn.mode = b.bn.mode := rfl
@[simp] theorem Bench.guardClip_mode (b : Bench) : (Bench.guardClip b).bn.mode = b.bn.mode := rfl
@[simp] theorem Bench.guardDelay_mode (b : Bench) : (Bench.guardDelay b).bn.mode = b.bn.mode := rfl
@[simp] theorem Bench.faceEvent_mode (bit : Nat) (d1 : Word) (b : Bench) : (Bench.faceEvent bit d1 b).bn.mode = b.bn.mode := by
  simp [Bench.faceEvent]
@[simp] theorem Bench.faceHear_mode (n : FaceNews) (b : Bench) : (Bench.faceHear n b).bn.mode = b.bn.mode := by
  simp only [Bench.faceHear]; (repeat' split) <;> simp
@[simp] theorem Bench.faceSay_mode (n : FaceNews) (b : Bench) : (Bench.faceSay n b).bn.mode = b.bn.mode := by
  unfold Bench.faceSay; split <;> simp
@[simp] theorem Bench.outFaultEval_mode (b : Bench) : (Bench.outFaultEval b).bn.mode = b.bn.mode := by
  simp only [Bench.outFaultEval]; (repeat' split) <;> simp
@[simp] theorem Bench.faceReport_mode (b : Bench) : (Bench.faceReport b).bn.mode = b.bn.mode := by
  unfold Bench.faceReport; split <;> simp
@[simp] theorem Bench.applyAo_mode (m : Fin 2) (slewed : Bool) (v : Int) (b : Bench) : (Bench.applyAo m slewed v b).bn.mode = b.bn.mode := by
  simp only [Bench.applyAo]; (repeat' split) <;> simp
@[simp] theorem Bench.faceConf_mode (b : Bench) : (Bench.faceConf b).bn.mode = b.bn.mode := by
  unfold Bench.faceConf; split <;> simp
@[simp] theorem Bench.faceSafe_mode (b : Bench) : (Bench.faceSafe b).bn.mode = b.bn.mode := by
  unfold Bench.faceSafe; split <;> simp
@[simp] theorem Bench.axisEvent_mode (a bit : Nat) (b : Bench) : (Bench.axisEvent a bit b).bn.mode = b.bn.mode := by
  simp [Bench.axisEvent]
@[simp] theorem Bench.axisLimited_mode (a : Nat) (on : Bool) (b : Bench) : (Bench.axisLimited a on b).bn.mode = b.bn.mode := by
  simp only [Bench.axisLimited]; (repeat' split) <;> simp
@[simp] theorem Bench.axisDce_mode (a : Nat) (d : AxisDce) (b : Bench) : (Bench.axisDce a d b).bn.mode = b.bn.mode := by
  unfold Bench.axisDce; split <;> simp
@[simp] theorem Bench.axisChange_mode (a : Nat) (c : AxisChange) (b : Bench) : (Bench.axisChange a c b).bn.mode = b.bn.mode := by
  unfold Bench.axisChange; split <;> simp
@[simp] theorem Bench.axisTake_mode (a t : Nat) (b : Bench) : (Bench.axisTake a t b).bn.mode = b.bn.mode := by
  simp [Bench.axisTake]
@[simp] theorem Bench.axisCompute_mode (a t : Nat) (b : Bench) : (Bench.axisCompute a t b).bn.mode = b.bn.mode := by
  unfold Bench.axisCompute; split <;> simp
@[simp] theorem Bench.axisQueue_mode (a : Nat) (c : AxisChange) (b : Bench) : (Bench.axisQueue a c b).bn.mode = b.bn.mode := by
  simp only [Bench.axisQueue]; (repeat' split) <;> simp
@[simp] theorem Bench.axisBegin_mode (a m : Nat) (x : Axis) (b : Bench) : (Bench.axisBegin a m x b).bn.mode = b.bn.mode := by
  unfold Bench.axisBegin; split <;> simp
@[simp] theorem Bench.axisPhase_mode (a m : Nat) (ph : HomePhase) (b : Bench) : (Bench.axisPhase a m ph b).bn.mode = b.bn.mode := by
  simp [Bench.axisPhase]
@[simp] theorem Bench.stopsDone_mode (b : Bench) : (Bench.stopsDone b).bn.mode = b.bn.mode := by
  simp [Bench.stopsDone]
@[simp] theorem Bench.axisRest_mode (a : Nat) (l : List AxisChange) (b : Bench) : (b.axisRest a l).bn.mode = b.bn.mode :=
  foldl_mode (fun b c => by cases c.par <;> rfl) l b
@[simp] theorem Bench.axisIdle_mode (a : Nat) (st : AxisState) (b : Bench) : (b.axisIdle a st).bn.mode = b.bn.mode := by
  unfold Bench.axisIdle
  extract_lets x evt b₁ b₂ b₃ b₄
  have h₃ : b₃.bn.mode = b.bn.mode := (foldl_mode (fun _ _ => congrArg Bn.mode (completeTag_bn ..)) _ b₂).trans (axisRest_mode ..)
  have h₄ : b₄.bn.mode = b₃.bn.mode := by unfold b₄; split <;> simp
  rw [stopsDone_mode, h₄, h₃]
@[simp] theorem Bench.axisDoubt_mode (a : Nat) (b : Bench) : (Bench.axisDoubt a b).bn.mode = b.bn.mode := by
  simp only [Bench.axisDoubt]; (repeat' split) <;> simp
@[simp] theorem Bench.axisStops_mode (a : Nat) (b : Bench) : (Bench.axisStops a b).bn.mode = b.bn.mode := by
  simp only [Bench.axisStops]; (repeat' split) <;> simp
@[simp] theorem Bench.axisHard_mode (a : Nat) (b : Bench) : (Bench.axisHard a b).bn.mode = b.bn.mode := by
  simp only [Bench.axisHard]; (repeat' split) <;> simp
@[simp] theorem Bench.axisRamp_mode (a : Nat) (st : AxisState) (after : HomePhase) (b : Bench) : (Bench.axisRamp a st after b).bn.mode = b.bn.mode := by
  simp only [Bench.axisRamp]; (repeat' split) <;> simp
@[simp] theorem Bench.axisStopOne_mode (hard : Bool) (a : Nat) (b : Bench) : (Bench.axisStopOne hard a b).bn.mode = b.bn.mode := by
  simp only [Bench.axisStopOne]; (repeat' split) <;> simp
@[simp] theorem Bench.mergeSticky_mode (c : Core) (b : Bench) : (Bench.mergeSticky c b).bn.mode = b.bn.mode := by
  unfold Bench.mergeSticky; split <;> simp
@[simp] theorem Bench.dropOpenOf_mode (k : Fin 4) (b : Bench) : (Bench.dropOpenOf k b).bn.mode = b.bn.mode := rfl
@[simp] theorem Bench.spoilHeld_mode (i : Item) (b : Bench) : (Bench.spoilHeld i b).bn.mode = b.bn.mode := by
  unfold Bench.spoilHeld
  split
  · exact foldl_keeps (g := fun b : Bench => b.bn.mode) (fun b n => by split <;> rfl) _ _
  · rfl
@[simp] theorem Bench.stopCore_mode (b : Bench) (k : Fin 4) : (Bench.stopCore b k).bn.mode = b.bn.mode := by
  simp [Bench.stopCore]
@[simp] theorem Bench.faultStop_mode (b : Bench) (k : Fin 4) : (Bench.faultStop b k).bn.mode = b.bn.mode := by
  simp only [Bench.faultStop]; (repeat' split) <;> simp
@[simp] theorem Bench.gaugeBlock_mode (i : Nat) (b : Bench) : (Bench.gaugeBlock i b).2.bn.mode = b.bn.mode := by
  simp only [Bench.gaugeBlock]; (repeat' split) <;> simp
@[simp] theorem Bench.recordWrite_mode (kind cls cause : Nat) (body : List Word) (b : Bench) :
    (b.recordWrite kind cls cause body).bn.mode = b.bn.mode := by
  unfold Bench.recordWrite
  dsimp only
  split <;> simp
@[simp] theorem Bench.periodOpen_mode (b : Bench) : (Bench.periodOpen b).bn.mode = b.bn.mode := rfl
@[simp] theorem Bench.periodClose_mode (cls cause : Nat) (b : Bench) : (b.periodClose cls cause).bn.mode = b.bn.mode := by
  unfold Bench.periodClose
  simp only [periodOpen_mode, recordWrite_mode, gaugeBlock_mode, setHealth_bn]
@[simp] theorem Bench.earlyClose_mode (cause : Nat) (b : Bench) : (Bench.earlyClose cause b).bn.mode = b.bn.mode := by
  simp only [Bench.earlyClose]; (repeat' split) <;> simp
@[simp] theorem Bench.restSupply_mode (b : Bench) : (Bench.restSupply b).bn.mode = b.bn.mode := by
  unfold Bench.restSupply; split <;> simp
@[simp] theorem Bench.canSlot_mode (k : Fin 2) (a : Nat) (r : List Word × Bench) (p : Nat) : (Bench.canSlot k a r p).2.bn.mode = r.2.bn.mode := by
  unfold Bench.canSlot
  dsimp only
  split <;> simp
@[simp] theorem Bench.objData_mode (k : Fin 2) (n a : Nat) (live : Bool) (b : Bench) : (b.objData k n a live).2.bn.mode = b.bn.mode := by
  unfold Bench.objData
  dsimp only
  split
  · exact foldl_snd_mode (fun _ _ => canSlot_mode ..) _ _
  · rfl
@[simp] theorem Bench.canLeaveRun_mode (b : Bench) : (b.canLeaveRun).bn.mode = b.bn.mode := by
  refine foldl_mode (fun b k => ?_) _ b
  dsimp only
  (repeat' split) <;> simp
@[simp] theorem Bench.canFromShadow_mode (b : Bench) : (Bench.canFromShadow b).bn.mode = b.bn.mode := rfl
@[simp] theorem Bench.setLane_mode (laneB : Bool) (l : Lane) (b : Bench) : (Bench.setLane laneB l b).bn.mode = b.bn.mode := rfl
@[simp] theorem Bench.quoinHard_mode (b : Bench) : (Bench.quoinHard b).bn.mode = b.bn.mode := by
  simp [Bench.quoinHard]
@[simp] theorem Bench.quoinRamp_mode (b : Bench) : (Bench.quoinRamp b).bn.mode = b.bn.mode := by
  simp [Bench.quoinRamp, apply_ite Bench.bn, apply_ite Bn.mode]
@[simp] theorem Bench.laneRun_mode (laneB : Bool) (k : Nat) (fell : Bool) (b : Bench) : (Bench.laneRun laneB k fell b).bn.mode = b.bn.mode := by
  induction k generalizing fell b with
  | zero => rfl
  | succ k ih => unfold Bench.laneRun; (repeat' split) <;> simp [ih, apply_ite Bench.bn, apply_ite Bn.mode]
@[simp] theorem Bench.ossdFollow_mode (b : Bench) : (Bench.ossdFollow b).bn.mode = b.bn.mode := rfl
@[simp] theorem Bench.mirrorWrite_mode (b : Bench) : (b.mirrorWrite).bn.mode = b.bn.mode := by
  refine foldl_mode (fun b k => ?_) _ _
  (repeat' split) <;> simp
@[simp] theorem Bench.activate_mode (b : Bench) : (Bench.activate b).bn.mode = b.bn.mode := by
  simp [Bench.activate, apply_ite Bench.bn, apply_ite Bn.mode]
@[simp] theorem Bench.inputTrack_mode (laneB : Bool) (b : Bench) : (Bench.inputTrack laneB b).bn.mode = b.bn.mode := rfl
@[simp] theorem Bench.startupTrack_mode (b : Bench) : (Bench.startupTrack b).bn.mode = b.bn.mode := by
  unfold Bench.startupTrack; split <;> simp
@[simp] theorem Bench.pressTrack_mode (b : Bench) : (Bench.pressTrack b).bn.mode = b.bn.mode := rfl
@[simp] theorem Bench.demandEval_mode (b : Bench) : (Bench.demandEval b).bn.mode = b.bn.mode := by
  simp [Bench.demandEval, apply_ite Bench.bn, apply_ite Bn.mode]
@[simp] theorem Bench.noteOut_mode (b : Bench) : (Bench.noteOut b).bn.mode = b.bn.mode := rfl
@[simp] theorem Bench.laneBEval_mode (b : Bench) : (Bench.laneBEval b).bn.mode = b.bn.mode := by
  simp [Bench.laneBEval]
@[simp] theorem Bench.lanesEval_mode (b : Bench) : (Bench.lanesEval b).bn.mode = b.bn.mode := by
  simp [Bench.lanesEval]
@[simp] theorem Bench.quoinEval_mode (b : Bench) : (Bench.quoinEval b).bn.mode = b.bn.mode := by
  unfold Bench.quoinEval; split <;> simp
@[simp] theorem Bench.custody_mode (b : Bench) : (Bench.custody b).bn.mode = b.bn.mode := by
  simp [Bench.custody]
@[simp] theorem Bench.modeEvent_mode (b : Bench) : (Bench.modeEvent b).bn.mode = b.bn.mode := by
  simp [Bench.modeEvent]
@[simp] theorem Bench.recordFault_mode (k : Fin 4) (cause code addr : Nat) (b : Bench) : (Bench.recordFault k cause code addr b).bn.mode = b.bn.mode := by
  unfold Bench.recordFault; split <;> simp

end

/-! ### What a core fault leaves -/

section
variable (b : Bench)
open Bench

@[simp] theorem Bench.endHostItem_inst (st : Status) (b : Bench) (i : Item) : (Bench.endHostItem st b i).inst = b.inst := by
  unfold Bench.endHostItem; split <;> simp
@[simp] theorem Bench.dropOpenOf_inst (k : Fin 4) (b : Bench) : (Bench.dropOpenOf k b).inst = b.inst := rfl
@[simp] theorem Bench.endHostItem_pe (st : Status) (b : Bench) (i : Item) : (Bench.endHostItem st b i).pe = b.pe := by
  unfold Bench.endHostItem; split <;> simp
@[simp] theorem Bench.dropOpenOf_pe (k : Fin 4) (b : Bench) : (Bench.dropOpenOf k b).pe = b.pe := rfl
@[simp] theorem Bench.endHostItem_cores (st : Status) (b : Bench) (i : Item) : (Bench.endHostItem st b i).cores = b.cores := by
  unfold Bench.endHostItem; split <;> simp
@[simp] theorem Bench.dropOpenOf_cores (k : Fin 4) (b : Bench) : (Bench.dropOpenOf k b).cores = b.cores := rfl
@[simp] theorem Bench.endHostItem_ev (st : Status) (b : Bench) (i : Item) : (Bench.endHostItem st b i).ev = b.ev := by
  unfold Bench.endHostItem; split <;> simp
@[simp] theorem Bench.dropOpenOf_ev (k : Fin 4) (b : Bench) : (Bench.dropOpenOf k b).ev = b.ev := rfl
@[simp] theorem foldl_bn {α : Type} {f : Bench → α → Bench} (h : ∀ b a, (f b a).bn = b.bn) (l : List α) (b : Bench) :
    (l.foldl f b).bn = b.bn := foldl_keeps (g := fun b : Bench => b.bn) h l b
@[simp] theorem foldl_snd_bn {α β : Type} {f : β × Bench → α → β × Bench} (h : ∀ r a, (f r a).2.bn = r.2.bn) (l : List α)
    (r : β × Bench) : (l.foldl f r).2.bn = r.2.bn := foldl_keeps (g := fun r : β × Bench => r.2.bn) h l r
@[simp] theorem Bench.fresh_bn (b : Bench) : (Bench.fresh b).2.bn = b.bn := rfl
@[simp] theorem Bench.endHostItem_bn (st : Status) (b : Bench) (i : Item) : (Bench.endHostItem st b i).bn = b.bn := by
  unfold Bench.endHostItem; split <;> simp
@[simp] theorem Bench.dropOpenOf_bn (k : Fin 4) (b : Bench) : (Bench.dropOpenOf k b).bn = b.bn := rfl
@[simp] theorem Bench.recordFault_bn (k : Fin 4) (cause code addr : Nat) (b : Bench) : (Bench.recordFault k cause code addr b).bn = b.bn := by
  unfold Bench.recordFault; split <;> simp


end

section
variable {b : Bench} {k : Fin 4}

/-- The record of a fault. -/
theorem Bench.recordFault_pe (b : Bench) (k : Fin 4) (cause code addr : Nat) : ∃ a : Nat, (b.recordFault k cause code addr).pe = { b.pe with
    faultInfo := at32 1 31 ||| at32 (fld (b.cores[k].cs k) 31 28) 24 ||| at32 (fld (b.cores[k].cs k) 27 27) 23 ||| at32 k.val 20 ||| at32 code 8 ||| at32 cause 0
    faultPc := at32 (b.cores[k].pc % 2 ^ 20) 0, faultCnt := inc b.pe.faultCnt, faultAddr := at32 (a % 2 ^ 22) 0 } ∧
    (cause = causeMemory → a = addr) := by
  unfold Bench.recordFault
  extract_lets c cs info a b'
  have hb : b'.pe = b.pe := by
    rw [health_pe]
    unfold a
    split <;> rfl
  refine ⟨a.1, ?_, fun h => ?_⟩
  · rw [raise_pe]
    exact congrArg (fun p : Prog => { p with
      faultInfo := info, faultPc := at32 (c.pc % 2 ^ 20) 0, faultCnt := inc p.faultCnt, faultAddr := at32 (a.1 % 2 ^ 22) 0 }) hb
  · unfold a
    rw [if_pos (by simp [h])]

@[simp] theorem Bench.recordFault_cores (b : Bench) (k : Fin 4) (cause code addr : Nat) : (b.recordFault k cause code addr).cores = b.cores := by
  unfold Bench.recordFault; split <;> simp [Bench.fresh]
@[simp] theorem Bench.recordFault_inst (b : Bench) (k : Fin 4) (cause code addr : Nat) : (b.recordFault k cause code addr).inst = b.inst := by
  unfold Bench.recordFault; split <;> simp [Bench.fresh]

/-- A fault sets its event bit. -/
theorem Bench.recordFault_bit (b : Bench) (k : Fin 4) (cause code addr : Nat) :
    ((b.recordFault k cause code addr).ev[(4 : Fin 18)]).getLsbD 5 = true := Bench.raise_bit _ _ (by decide) ..

/-- What the fault of an unordered item leaves: its core idle with its registers, and the record of the fault. -/
theorem Bench.coreFault_item {j : Item} (hr : b.cores[k].run = .item j) (ho : j.ord = false) (cause code addr : Nat) :
    (b.coreFault k cause code addr).cores[k] = { b.cores[k] with run := .idle, loops := [], calls := [] } ∧
    (b.coreFault k cause code addr).inst = b.inst ∧ (b.coreFault k cause code addr).bn = b.bn ∧
    (b.coreFault k cause code addr).ev = (b.recordFault k cause code addr).ev ∧
    ∃ sticky, (b.coreFault k cause code addr).pe = { (b.recordFault k cause code addr).pe with stickyWi := sticky } := by
  have hc : b.coreFault k cause code addr = (((b.recordFault k cause code addr).stopCore k).dropOpenOf k).endHostItem .checkFailed j := by
    unfold Bench.coreFault Bench.faultStop
    simp only [hr, ho, recordFault_cores]; rfl
  have hi : (b.recordFault k cause code addr).inst = b.inst := recordFault_inst ..
  have hn : (b.recordFault k cause code addr).bn = b.bn := recordFault_bn ..
  have hk : (b.recordFault k cause code addr).cores = b.cores := recordFault_cores ..
  rw [hc]
  generalize b.recordFault k cause code addr = r at hi hn hk
  have hs : r.mergeSticky r.cores[k] = { r with pe := { r.pe with stickyWi := r.pe.stickyWi ||| r.cores[k].sticky.setWidth 32 } } := by
    unfold Bench.mergeSticky
    simp only [hk, hr]
  unfold Bench.stopCore
  dsimp only
  rw [hs]
  refine ⟨?_, ?_, ?_, ?_, ?_⟩
  · simp [Bench.setCore, hk]
  · simp [Bench.setCore, hi]
  · simp [Bench.setCore, hn]
  · simp [Bench.setCore]
  · exact ⟨_, by rw [endHostItem_pe, dropOpenOf_pe]; rfl⟩

/-- A program fault of RUN puts the bench into HOLD. -/
theorem Bench.enterHold_of_run (h : b.bn.mode = .run) (cause : Word) (cls : Fin 4) : (b.enterHold cause cls).bn.mode = .hold := by
  unfold Bench.enterHold
  rw [h]
  dsimp only
  simp only [modeEvent_mode, health_bn, custody_mode, restSupply_mode, apply_ite Bench.bn, apply_ite Bn.mode, canLeaveRun_mode,
    canFromShadow_mode, faceSafe_mode]
  exact ite_self _

/-- The fault of a segment trips its task's watchdog, which takes the bench out of RUN. -/
theorem Bench.coreFault_segment {n : Fin 16} {m : Fin 64} (hr : b.cores[k].run = .segment n m) (h : b.bn.mode = .run)
    (cause code addr : Nat) : (b.coreFault k cause code addr).bn.mode = .hold := by
  unfold Bench.coreFault Bench.watchdogTrip
  simp only [hr]
  exact enterHold_of_run (by rw [earlyClose_mode, health_bn, raise_bn]; exact (faultStop_mode ..).trans ((recordFault_mode ..).trans h)) ..

theorem at32_zero (v : Nat) : at32 v 0 = BitVec.ofNat 32 v := rfl

/-- The lowest byte of the fault word is the cause. -/
theorem fld_faultInfo (k : Nat) {cause : Nat} (h : cause < 256) (c0 c1 : Nat) :
    fld (at32 1 31 ||| at32 c0 24 ||| at32 c1 23 ||| at32 k 20 ||| at32 0 8 ||| at32 cause 0) 7 0 = cause := by
  have high (v n : Nat) (hn : 8 ≤ n) : (at32 v n).toNat % 2 ^ 8 = 0 := by
    rw [at32, BitVec.toNat_ofNat, Nat.shiftLeft_eq, Nat.mod_mod_of_dvd _ (by decide : 2 ^ 8 ∣ 2 ^ 32)]
    exact Nat.mod_eq_zero_of_dvd (Dvd.dvd.mul_left (Nat.pow_dvd_pow 2 hn) _)
  have low : (at32 cause 0).toNat % 2 ^ 8 = cause := by
    rw [at32_zero, BitVec.toNat_ofNat]
    omega
  simp only [fld, BitVec.toNat_or, Nat.shiftRight_zero, Nat.or_mod_two_pow]
  rw [high 1 31 (by decide), high c0 24 (by decide), high c1 23 (by decide), high k 20 (by decide), high 0 8 (by decide), low]
  simp

end

section
variable {s : State} {k : CoreRef} {i : Instr}

/-- What every core fault leaves of the machine. -/
theorem coreFault_leaves {t : State} (ht : OnlyBench k.bench s t) {cause code addr : Nat} 
    (hb : ∃ q, t.bench k.bench = { (s.bench k.bench).coreFault k.core cause code addr with qn := q }) :
    OnlyBench k.bench s t ∧
    (∀ j, (s.core k).run = .item j → j.ord = false →
      (t.core k).run = .idle ∧ (t.core k).w = (s.core k).w ∧ (t.bench k.bench).inst = (s.bench k.bench).inst ∧
      (t.bench k.bench).bn = (s.bench k.bench).bn ∧
      (t.bench k.bench).pe.faultCnt = inc (s.bench k.bench).pe.faultCnt ∧
      (t.bench k.bench).pe.faultPc = BitVec.ofNat 32 ((s.core k).pc % 2 ^ 20) ∧
      (cause = causeMemory → code = 0 → addr < 0x400000 → fld (t.bench k.bench).pe.faultInfo 7 0 = 4 ∧
        (t.bench k.bench).pe.faultAddr = BitVec.ofNat 32 addr) ∧
      ((t.bench k.bench).ev[(4 : Fin 18)]).getLsbD 5 = true) ∧
    (∀ n m, (s.core k).run = .segment n m → (s.bench k.bench).bn.mode = .run → (t.bench k.bench).bn.mode = .hold) := by
  obtain ⟨q, hq⟩ := hb
  refine ⟨ht, fun j hr ho => ?_, fun n m hr h => ?_⟩
  · obtain ⟨hc, hi, hn, he, sticky, hp⟩ := Bench.coreFault_item (b := s.bench k.bench) (k := k.core) hr ho cause code addr
    obtain ⟨a, hpe, ha⟩ := (s.bench k.bench).recordFault_pe k.core cause code addr
    have hcore : t.core k = _ := (congrArg (fun b : Bench => b.cores[k.core]) hq).trans hc
    rw [hcore, hq]
    dsimp only
    rw [hi, hn, he, hp, hpe]
    refine ⟨rfl, rfl, rfl, rfl, rfl, rfl, fun h4 h0 haddr => ⟨?_, ?_⟩, Bench.recordFault_bit ..⟩
    · subst h4 h0
      exact fld_faultInfo _ (by decide) ..
    · rw [← ha h4] at haddr ⊢
      exact congrArg (BitVec.ofNat 32) (Nat.mod_eq_of_lt haddr)
  · rw [hq]
    exact Bench.coreFault_segment hr h ..

/-- An instruction that ends in a core fault. -/
theorem runsSo_coreFault (h : s.CoreRuns k) {f : Core → Bench → Bench} (hx : exec i s = s.onCore k i f) {cause code addr : Nat}
    (hf : f (s.core k) (s.bench k.bench) = (s.bench k.bench).coreFault k.core cause code addr) :
    RunsSo k i s fun t => OnlyBench k.bench s t ∧
      (∀ j, (s.core k).run = .item j → j.ord = false →
        (t.core k).run = .idle ∧ (t.core k).w = (s.core k).w ∧ (t.bench k.bench).inst = (s.bench k.bench).inst ∧
        (t.bench k.bench).bn = (s.bench k.bench).bn ∧
        (t.bench k.bench).pe.faultCnt = inc (s.bench k.bench).pe.faultCnt ∧
        (t.bench k.bench).pe.faultPc = BitVec.ofNat 32 ((s.core k).pc % 2 ^ 20) ∧
        ((t.bench k.bench).ev[(4 : Fin 18)]).getLsbD 5 = true) ∧
      (∀ n m, (s.core k).run = .segment n m → (s.bench k.bench).bn.mode = .run → (t.bench k.bench).bn.mode = .hold) :=
  runsSo_of_onCore h hx fun t ht hb => by
    obtain ⟨-, item, segment⟩ := coreFault_leaves ht (hf ▸ hb)
    refine ⟨ht, fun j hr ho => ?_, segment⟩
    obtain ⟨h1, h2, h3, h4, h5, h6, -, h8⟩ := item j hr ho
    exact ⟨h1, h2, h3, h4, h5, h6, h8⟩

/-- A read of memory that fails is a fault of any core instruction. -/
theorem runsSo_memory {a : Nat} {f : Core → Bench → Bench} (ha : a < 0x400000) (hx : exec i s = s.onCore { k with memory := some a } i f) :
    RunsSo { k with memory := some a } i s fun t => OnlyBench k.bench s t ∧
      (∀ j, (s.core k).run = .item j → j.ord = false →
        (t.core k).run = .idle ∧ (t.core k).w = (s.core k).w ∧ (t.bench k.bench).inst = (s.bench k.bench).inst ∧
        (t.bench k.bench).bn = (s.bench k.bench).bn ∧
        (t.bench k.bench).pe.faultCnt = inc (s.bench k.bench).pe.faultCnt ∧ fld (t.bench k.bench).pe.faultInfo 7 0 = 4 ∧
        (t.bench k.bench).pe.faultAddr = BitVec.ofNat 32 a ∧
        ((t.bench k.bench).ev[(4 : Fin 18)]).getLsbD 5 = true) ∧
      (∀ n m, (s.core k).run = .segment n m → (s.bench k.bench).bn.mode = .run → (t.bench k.bench).bn.mode = .hold) := fun hi => by
  have he : exec i s = .next (s.putBench k.bench ((s.bench k.bench).coreFault k.core causeMemory 0 a)) := by
    rw [hx, State.onCore, State.onBench_next, if_pos hi]
  refine ⟨_, he, ?_⟩
  obtain ⟨only, item, segment⟩ := coreFault_leaves (State.putBench_only ..) (State.putBench_bench ..)
  refine ⟨only, fun j hr ho => ?_, segment⟩
  obtain ⟨h1, h2, h3, h4, h5, -, h7, h8⟩ := item j hr ho
  obtain ⟨hinfo, haddr⟩ := h7 rfl rfl ha
  exact ⟨h1, h2, h3, h4, h5, hinfo, haddr, h8⟩

/-- An access outside its limits, or not aligned, is a fault. -/
theorem access_refused {x : Access} (h : ∀ a, x ≠ .good a) (j : Fin 4) (f : Nat → Bench) (b : Bench) :
    ∃ cause a, b.access j x f = b.coreFault j cause 0 a := by
  cases x with
  | good a => exact absurd rfl (h a)
  | bounds a => exact ⟨_, _, rfl⟩
  | align a => exact ⟨_, _, rfl⟩

theorem checkAccess_iff {lo len addr n a : Nat} : checkAccess lo len addr n = .good a ↔ addr = a ∧ lo ≤ addr ∧ addr + n ≤ lo + len ∧ addr % n = 0 := by
  unfold checkAccess
  split
  · next h =>
    simp only [Bool.or_eq_true, decide_eq_true_eq] at h
    constructor
    · intro e; cases e
    · omega
  · next h =>
    simp only [Bool.or_eq_true, decide_eq_true_eq] at h
    split
    · next h0 =>
      constructor
      · intro e; cases e
      · omega
    · next h0 =>
      rw [Access.good.injEq]
      omega

theorem addrM_refused {base : Reg} {off : BitVec 16} {n : Nat} (h : MayNotAccess s k base off.toNat n) (a : Nat) :
    (s.bench k.bench).addrM (s.core k) base off n ≠ .good a := fun e => h ⟨a, by
  unfold Bench.addrM at e
  split at e
  · next h0 =>
    obtain ⟨rfl, h1, h2, h3⟩ := checkAccess_iff.mp e
    refine ⟨(congrArg (· + _) (if_pos h0)).symm, ?_, ?_, h3⟩ <;> rw [if_pos h0] <;> assumption
  · next h0 =>
    obtain ⟨rfl, h1, h2, h3⟩ := checkAccess_iff.mp e
    refine ⟨(congrArg (· + _) (if_neg h0)).symm, ?_, ?_, h3⟩ <;> rw [if_neg h0] <;> assumption⟩

theorem addrX_refused {base ireg : Reg} {scale n : Nat} (h : MayNotAccess s k base (((s.core k).reg ireg).toNat * 2 ^ scale) n) (a : Nat) :
    (s.bench k.bench).addrX (s.core k) base ireg scale n ≠ .good a := fun e => h ⟨a, by
  unfold Bench.addrX at e
  split at e
  · next h0 =>
    obtain ⟨rfl, h1, h2, h3⟩ := checkAccess_iff.mp e
    refine ⟨(congrArg (· + _) (if_pos h0)).symm, ?_, ?_, h3⟩ <;> rw [if_pos h0] <;> assumption
  · next h0 =>
    obtain ⟨rfl, h1, h2, h3⟩ := checkAccess_iff.mp e
    refine ⟨(congrArg (· + _) (if_neg h0)).symm, ?_, ?_, h3⟩ <;> rw [if_neg h0] <;> assumption⟩

end

/-- Settles O17: each refused access and each failed check ends in `Bench.coreFault`. -/
theorem coithCoreFaults : Obligations.CoithCoreFaults := by
  intro s k d base i off scale code h b c index faults
  have fault {x : Instr} {f : Core → Bench → Bench} (hx : exec x s = s.onCore k x f)
      (hf : ∃ cause code addr, f c b = b.coreFault k.core cause code addr) : faults x := by
    obtain ⟨_, _, _, hf⟩ := hf
    exact runsSo_coreFault h hx hf
  have load {f : Fin 3} {a : Access} (ha : ∀ n, a ≠ .good n) : ∃ cause code addr, b.loadAt k.core c f d a = b.coreFault k.core cause code addr := by
    obtain ⟨cause, addr, e⟩ := access_refused ha k.core _ b
    exact ⟨cause, 0, addr, e⟩
  have store {f : Fin 3} {a : Access} (ha : ∀ n, a ≠ .good n) : ∃ cause code addr, b.storeAt k.core c f d a = b.coreFault k.core cause code addr := by
    obtain ⟨cause, addr, e⟩ := access_refused ha k.core _ b
    exact ⟨cause, 0, addr, e⟩
  refine ⟨fun ha => ⟨fault (exec_coithLdw ..) (load (addrM_refused ha)), fault (exec_coithStw ..) (store (addrM_refused ha))⟩,
    fun ha => ⟨fault (exec_coithLdh ..) (load (addrM_refused ha)), fault (exec_coithSth ..) (store (addrM_refused ha))⟩,
    fun ha => ⟨fault (exec_coithLdd ..) (load (addrM_refused ha)), fault (exec_coithStd ..) (store (addrM_refused ha))⟩,
    fun ha => ⟨fault (exec_coithLdx ..) (load (addrX_refused ha)), fault (exec_coithStx ..) (store (addrX_refused ha))⟩,
    fun ha => ⟨fault (exec_coithLdx ..) (load (addrX_refused ha)), fault (exec_coithStx ..) (store (addrX_refused ha))⟩,
    fun ha => ⟨fault (exec_coithLdx ..) (load (addrX_refused ha)), fault (exec_coithStx ..) (store (addrX_refused ha))⟩,
    fun h0 => fault (exec_coithChk ..) ⟨_, _, _, if_pos h0⟩,
    fun hp => fault (exec_coithPtr ..) ⟨_, _, _, if_pos hp⟩, fun addr ha => ?_⟩
  exact ⟨runsSo_memory ha (f := fun c b => b.setCore k.core c.step4) (exec_coithNop ..), runsSo_memory ha (exec_coithLdw ..), runsSo_memory ha (exec_coithLdh ..),
    runsSo_memory ha (exec_coithLdd ..), runsSo_memory ha (exec_coithLdx ..), runsSo_memory ha (exec_coithPtr ..)⟩

end Sys2Proof.Machine
end

section
/-!
The profile of an axis, and binary32
-/

namespace Sys2Proof.Machine

/-! ### The profile of an axis -/

theorem Axis.calc_q_le_guard (x : Axis) (e : AxisEff) (q left : Nat) : (x.calc e q left).q ≤ x.gvmax * x.gvmax := Nat.min_le_right ..

/-- The speed after one advance lies below the stop curve, where a lowered deceleration leaves that within reach. -/
theorem Axis.calc_q_le_curve (x : Axis) (e : AxisEff) (q left : Nat) : (x.calc e q left).q ≤
    max (e.ve * e.ve + qPerStep * x.dce * left) (q - qPerStep * x.dce) := by
  have curve_le : (if x.beyond then max (e.ve * e.ve + qPerStep * x.dce * left) (q - qPerStep * x.dce)
      else e.ve * e.ve + qPerStep * x.dce * left) ≤ max (e.ve * e.ve + qPerStep * x.dce * left) (q - qPerStep * x.dce) := by
    split
    · exact le_rfl
    · exact le_max_left ..
  exact (min_le_left ..).trans ((min_le_right ..).trans curve_le)

/-- An axis that is not told to stand does not pass its top speed. -/
theorem Axis.calc_q_le_top (x : Axis) {e : AxisEff} {q : Nat} (left : Nat) (hq : q ≤ e.vm * e.vm) (hs : x.stands e = false) :
    (x.calc e q left).q ≤ e.vm * e.vm := by
  unfold Axis.calc
  simp only [hs, Bool.false_eq_true, if_false, if_pos hq]
  exact (min_le_left ..).trans ((min_le_left ..).trans (min_le_right ..))

/-- Settles O28: the three bounds of one advance. -/
theorem axisCanAlwaysStop : Obligations.AxisCanAlwaysStop := by
  intro x e q left
  refine ⟨x.calc_q_le_guard e q left, fun hq => ?_, fun _ hq hstand hjog => ?_⟩
  · refine (x.calc_q_le_curve e q left).trans (max_le le_rfl ?_)
    rw [Nat.mul_succ] at hq
    omega
  · exact x.calc_q_le_top left hq (by simp [Axis.stands, hstand, hjog])
/-! ### Words as binary32: sign, exponent and fraction -/

section words
variable {n : Nat} (v w : BitVec n) (hi lo : Nat)

theorem fld_xor : fld (v ^^^ w) hi lo = fld v hi lo ^^^ fld w hi lo := by
  simp only [fld, BitVec.toNat_xor, Nat.shiftRight_xor_distrib, Nat.xor_mod_two_pow]
theorem fld_or : fld (v ||| w) hi lo = fld v hi lo ||| fld w hi lo := by
  simp only [fld, BitVec.toNat_or, Nat.shiftRight_or_distrib, Nat.or_mod_two_pow]
theorem fld_and : fld (v &&& w) hi lo = fld v hi lo &&& fld w hi lo := by
  simp only [fld, BitVec.toNat_and, Nat.shiftRight_and_distrib, Nat.and_mod_two_pow]

end words

section word
variable (w : Word)

theorem fld_lt (hi lo : Nat) : fld w hi lo < 2 ^ (hi - lo + 1) := Nat.mod_lt _ (Nat.two_pow_pos _)

theorem bitOf_top : bitOf w 31 = w.msb := (BitVec.msb_eq_getLsbD_last w).symm

theorem fld_exp : fld w 30 23 = w.toNat / 2 ^ 23 % 2 ^ 8 := by rw [fld, Nat.shiftRight_eq_div_pow]
theorem fld_frac : fld w 22 0 = w.toNat % 2 ^ 23 := rfl

variable {w} {v : Word}

/-- Sign, exponent and fraction make the word. -/
theorem word_ext (hs : v.msb = w.msb) (he : fld v 30 23 = fld w 30 23) (hf : fld v 22 0 = fld w 22 0) : v = w := by
  apply BitVec.eq_of_toNat_eq
  rw [BitVec.msb_eq_decide, BitVec.msb_eq_decide, decide_eq_decide] at hs
  rw [fld_exp, fld_exp] at he
  rw [fld_frac, fld_frac] at hf
  omega

@[simp] theorem fltZero_msb (s : Bool) : (fltZero s).msb = s := by cases s <;> rfl
@[simp] theorem fltZero_exp (s : Bool) : fld (fltZero s) 30 23 = 0 := by cases s <;> rfl
@[simp] theorem fltZero_frac (s : Bool) : fld (fltZero s) 22 0 = 0 := by cases s <;> rfl
@[simp] theorem fltInf_msb (s : Bool) : (fltInf s).msb = s := by cases s <;> rfl
@[simp] theorem fltInf_exp (s : Bool) : fld (fltInf s) 30 23 = 255 := by cases s <;> rfl
@[simp] theorem fltInf_frac (s : Bool) : fld (fltInf s) 22 0 = 0 := by cases s <;> rfl

theorem toNat_at_exp {e : Nat} (he : e < 256) : (at32 e 23).toNat = e * 2 ^ 23 := by
  rw [at32, BitVec.toNat_ofNat, Nat.shiftLeft_eq]
  omega

/-- The word of a sign, an exponent and a fraction, as `fltPack` and `fltWord` put it together. -/
def fltBits (s : Bool) (e f : Nat) : Word := at32 (b2n s) 31 ||| at32 e 23 ||| BitVec.ofNat 32 f

section fields
variable (s : Bool) {e f : Nat} (he : e < 256) (hf : f < 2 ^ 23)
include he hf

theorem fltBits_exp : fld (fltBits s e f) 30 23 = e := by
  have sign : fld (at32 (b2n s) 31) 30 23 = 0 := fltZero_exp s
  have exp : fld (at32 e 23) 30 23 = e := by rw [fld_exp, toNat_at_exp he]; omega
  have frac : fld (BitVec.ofNat 32 f) 30 23 = 0 := by rw [fld_exp, BitVec.toNat_ofNat]; omega
  rw [fltBits, fld_or, fld_or, sign, exp, frac]
  simp

theorem fltBits_frac : fld (fltBits s e f) 22 0 = f := by
  have sign : fld (at32 (b2n s) 31) 22 0 = 0 := fltZero_frac s
  have exp : fld (at32 e 23) 22 0 = 0 := by rw [fld_frac, toNat_at_exp he]; omega
  have frac : fld (BitVec.ofNat 32 f) 22 0 = f := by rw [fld_frac, BitVec.toNat_ofNat]; omega
  rw [fltBits, fld_or, fld_or, sign, exp, frac]
  simp

theorem fltBits_msb : (fltBits s e f).msb = s := by
  have sign : (at32 (b2n s) 31).msb = s := fltZero_msb s
  have exp : (at32 e 23).msb = false := by rw [BitVec.msb_eq_decide, toNat_at_exp he]; simp; omega
  have frac : (BitVec.ofNat 32 f).msb = false := by rw [BitVec.msb_eq_decide, BitVec.toNat_ofNat]; simp; omega
  rw [fltBits, BitVec.msb_or, BitVec.msb_or, sign, exp, frac]
  simp

end fields

/-- A word whose exponent is not all ones is a number (R192). -/
theorem fltOf_fin (h255 : fld w 30 23 ≠ 255) (h0 : fld w 30 23 ≠ 0) :
    fltOf w = .fin w.msb (2 ^ 23 + fld w 22 0) ((fld w 30 23 : Int) - 150) := by
  simp only [fltOf, bitOf_top, if_neg h255, if_neg h0]
theorem fltOf_zero (h : fld w 30 23 = 0) : fltOf w = .zero w.msb := by
  simp only [fltOf, bitOf_top, h, if_neg (by decide : ¬(0 = 255)), if_true]
theorem fltOf_inf (h : fld w 30 23 = 255 ∧ fld w 22 0 = 0) : fltOf w = .inf w.msb := by
  simp only [fltOf, bitOf_top, h, if_true]
theorem fltOf_nan (h : fld w 30 23 = 255 ∧ fld w 22 0 ≠ 0) : fltOf w = .nan := by
  simp only [fltOf, h.1, if_neg h.2, if_true]

theorem fltZero_msb_eq (w : Word) : fltZero w.msb = w &&& 0x80000000 := by
  refine word_ext ?_ ?_ ?_
  · rw [fltZero_msb, BitVec.msb_and, show (0x80000000 : Word).msb = true from rfl, Bool.and_true]
  · rw [fltZero_exp, fld_and]; exact (Nat.and_zero _).symm
  · rw [fltZero_frac, fld_and]; exact (Nat.and_zero _).symm
theorem fltInf_of (h : fld w 30 23 = 255 ∧ fld w 22 0 = 0) : fltInf w.msb = w :=
  word_ext (fltInf_msb _) ((fltInf_exp _).trans h.1.symm) ((fltInf_frac _).trans h.2.symm)

/-- A word that is no NaN is read and put together again, but that a subnormal becomes a zero of its sign. -/
theorem fltWord_fltOf (hn : ¬(fld w 30 23 = 255 ∧ fld w 22 0 ≠ 0)) (h0 : fld w 30 23 ≠ 0) : fltWord (fltOf w) = w := by
  by_cases hi : fld w 30 23 = 255
  · have hz : fld w 22 0 = 0 := by by_contra hz; exact hn ⟨hi, hz⟩
    rw [fltOf_inf ⟨hi, hz⟩]
    exact fltInf_of ⟨hi, hz⟩
  · rw [fltOf_fin hi h0]
    have exp : ((fld w 30 23 : Int) - 150 + 150).toNat = fld w 30 23 := by omega
    have frac : 2 ^ 23 + fld w 22 0 - 2 ^ 23 = fld w 22 0 := Nat.add_sub_cancel_left ..
    have he := fld_lt w 30 23
    have hf := fld_lt w 22 0
    have hb : fltWord (.fin w.msb (2 ^ 23 + fld w 22 0) ((fld w 30 23 : Int) - 150)) = fltBits w.msb (fld w 30 23) (fld w 22 0) := by
      rw [fltWord, exp, frac, fltBits]
    rw [hb]
    exact word_ext (fltBits_msb _ he hf) (fltBits_exp _ he hf) (fltBits_frac _ he hf)

theorem neg_exp (w : Word) : fld (w ^^^ 0x80000000) 30 23 = fld w 30 23 := by rw [fld_xor]; exact Nat.xor_zero _
theorem neg_frac (w : Word) : fld (w ^^^ 0x80000000) 22 0 = fld w 22 0 := by rw [fld_xor]; exact Nat.xor_zero _
theorem neg_msb (w : Word) : (w ^^^ 0x80000000).msb = !w.msb := by rw [BitVec.msb_xor, show (0x80000000 : Word).msb = true from rfl, Bool.xor_true]

/-- The word with its sign inverted is the negated number. -/
theorem fltOf_neg (w : Word) : fltOf (w ^^^ 0x80000000) = fltNeg (fltOf w) := by
  simp only [fltOf, bitOf_top, neg_exp, neg_frac, neg_msb]
  split
  · split <;> rfl
  · split <;> rfl

end word
/-! ### What a binary32 operand is worth -/

/-- A magnitude with a sign. -/
def signed (s : Bool) (r : Rat) : Rat := if s then -r else r

section signed
variable (s t : Bool) (r q : Rat)

theorem signed_mul : signed s r * signed t q = signed (s ^^ t) (r * q) := by
  cases s <;> cases t <;> simp [signed]
theorem signed_div : signed s r / signed t q = signed (s ^^ t) (r / q) := by
  cases s <;> cases t <;> simp [signed, neg_div, div_neg]
theorem neg_signed : -signed s r = signed (!s) r := by cases s <;> simp [signed]
theorem abs_signed {r : Rat} (h : 0 < r) : abs (signed s r) = r := by
  cases s
  · exact abs_of_pos h
  · exact (abs_neg r).trans (abs_of_pos h)
theorem signed_neg_iff {r : Rat} (h : 0 < r) : signed s r < 0 ↔ s = true := by
  cases s
  · exact iff_of_false (not_lt.mpr h.le) Bool.false_ne_true
  · exact iff_of_true (neg_lt_zero.mpr h) rfl

end signed

/-- The number an operand stands for; an infinity beyond every finite one, and 0 for what is no number. -/
def Flt.value : Flt → Rat
  | .nan => 0
  | .inf s => signed s (2 ^ 200)
  | .zero _ => 0
  | .fin s m e => signed s ((m : Rat) * (2 : Rat) ^ e)

/-- The operands that a word spells: a finite one is normal. -/
def Flt.Normal : Flt → Prop
  | .fin _ m e => 2 ^ 23 ≤ m ∧ m < 2 ^ 24 ∧ -149 ≤ e ∧ e ≤ 104
  | _ => True

theorem fltOf_normal (w : Word) : (fltOf w).Normal := by
  unfold fltOf
  dsimp only
  split
  · split <;> trivial
  · split
    · trivial
    · have he := fld_lt w 30 23
      have hf := fld_lt w 22 0
      simp only [Flt.Normal]
      omega

theorem fltNum_eq {w : Word} (hn : ¬(fld w 30 23 = 255 ∧ fld w 22 0 ≠ 0)) : fltNum w = (fltOf w).value := by
  by_cases h0 : fld w 30 23 = 0
  · rw [fltOf_zero h0]
    simp [fltNum, h0, Flt.value]
  · by_cases hi : fld w 30 23 = 255
    · have hz : fld w 22 0 = 0 := by by_contra hz; exact hn ⟨hi, hz⟩
      rw [fltOf_inf ⟨hi, hz⟩]
      simp [fltNum, hi, Flt.value, signed]
    · rw [fltOf_fin hi h0]
      simp only [fltNum, if_neg h0, if_neg hi, Flt.value, signed]

theorem Flt.value_neg (f : Flt) : (fltNeg f).value = -f.value := by
  cases f
  case nan => exact neg_zero.symm
  case zero => exact neg_zero.symm
  case inf s => exact (neg_signed ..).symm
  case fin s m e => exact (neg_signed ..).symm

/-! ### Magnitudes -/

theorem two_zpow_pos (e : Int) : (0 : Rat) < (2 : Rat) ^ e := zpow_pos (by norm_num) e

section normal
variable {s : Bool} {m : Nat} {e : Int} (h : (Flt.fin s m e).Normal)
include h

theorem Flt.Normal.pos : (0 : Rat) < m * (2 : Rat) ^ e := by
  obtain ⟨hm, -⟩ := h
  have : (0 : Rat) < m := by exact_mod_cast (by omega : 0 < m)
  exact mul_pos this (two_zpow_pos e)

theorem Flt.Normal.lt : (m : Rat) * (2 : Rat) ^ e < 2 ^ 128 := by
  obtain ⟨hm, hlt, he, he'⟩ := h
  have h1 : (m : Rat) < 2 ^ 24 := by exact_mod_cast hlt
  have h2 : (2 : Rat) ^ e ≤ 2 ^ (104 : Int) := zpow_le_zpow_right₀ (by norm_num) he'
  calc (m : Rat) * (2 : Rat) ^ e < 2 ^ 24 * (2 : Rat) ^ e := mul_lt_mul_of_pos_right h1 (two_zpow_pos e)
    _ ≤ 2 ^ 24 * 2 ^ (104 : Int) := by gcongr
    _ = 2 ^ 128 := by norm_num

end normal

/-- An integer of 2^base is what `fltAt` reads of a finite operand. -/
theorem fltAt_value (s : Bool) (m : Nat) {e base : Int} (h : base ≤ e) :
    (fltAt s m e base : Rat) * (2 : Rat) ^ base = (Flt.fin s m e).value := by
  have hp : (2 : Rat) ^ (e - base).toNat * (2 : Rat) ^ base = (2 : Rat) ^ e := by
    rw [← zpow_natCast, Int.toNat_of_nonneg (by omega), ← zpow_add₀ (by norm_num)]
    congr 1
    omega
  cases s
  · simp only [fltAt, Flt.value, signed, Bool.false_eq_true, if_false]
    push_cast
    rw [mul_assoc, hp]
  · simp only [fltAt, Flt.value, signed, if_true]
    push_cast
    rw [neg_mul, mul_assoc, hp]

/-- The order of two operands that are numbers is that of what they stand for. -/
theorem fltLt_iff {f g : Flt} (hf : f.Normal) (hg : g.Normal) (nf : f ≠ .nan) (ng : g ≠ .nan) : fltLt f g = true ↔ f.value < g.value := by
  have big (s : Bool) : signed s ((2 : Rat) ^ 200) < 0 ↔ s = true := signed_neg_iff s (by positivity)
  have bigPos (s : Bool) : 0 < signed s ((2 : Rat) ^ 200) ↔ s = false := by
    cases s <;> simp [signed]
  have finNeg {s : Bool} {m : Nat} {e : Int} (h : (Flt.fin s m e).Normal) : (Flt.fin s m e).value < 0 ↔ s = true :=
    signed_neg_iff s h.pos
  have finPos {s : Bool} {m : Nat} {e : Int} (h : (Flt.fin s m e).Normal) : 0 < (Flt.fin s m e).value ↔ s = false := by
    rw [← neg_lt_zero, ← Flt.value_neg]
    exact (signed_neg_iff (!s) h.pos).trans (by simp)
  have finBig {s : Bool} {m : Nat} {e : Int} (h : (Flt.fin s m e).Normal) : abs (Flt.fin s m e).value < 2 ^ 200 := by
    refine (abs_signed s h.pos).trans_lt (h.lt.trans ?_)
    norm_num
  cases f with
  | nan => exact absurd rfl nf
  | inf s => cases g with
    | nan => exact absurd rfl ng
    | inf t => cases s <;> cases t <;> simp [fltLt, Flt.value, signed]
    | zero t => exact (big s).symm
    | fin t n d =>
      obtain ⟨lo, hi⟩ := abs_lt.mp (finBig hg)
      cases s
      · exact iff_of_false Bool.false_ne_true (not_lt.mpr hi.le)
      · exact iff_of_true rfl lo
  | zero s => cases g with
    | nan => exact absurd rfl ng
    | inf t => cases t <;> simp [fltLt, Flt.value, signed]
    | zero t => exact iff_of_false Bool.false_ne_true (lt_irrefl _)
    | fin t n d => exact (by simp [fltLt] : fltLt (.zero s) (.fin t n d) = true ↔ t = false).trans (finPos hg).symm
  | fin s m e => cases g with
    | nan => exact absurd rfl ng
    | inf t =>
      obtain ⟨lo, hi⟩ := abs_lt.mp (finBig hf)
      cases t
      · exact iff_of_true rfl hi
      · exact iff_of_false Bool.false_ne_true (not_lt.mpr lo.le)
    | zero t => exact (finNeg hf).symm
    | fin t n d =>
      rw [← fltAt_value s m (min_le_left e d), ← fltAt_value t n (min_le_right e d),
        mul_lt_mul_iff_left₀ (two_zpow_pos _), Int.cast_lt]
      exact decide_eq_true_iff
/-! ### Rounding to nearest, ties to even -/

/-- The rounded quotient is the nearest integer, the even one of two. -/
theorem roundDiv_nearest (z : Int) {d : Nat} (hd : 0 < d) : NearestInt ((z : Rat) / d) (roundDiv z d) := by
  have hd' : (0 : Rat) < d := by exact_mod_cast hd
  have rest : (z : Rat) / d = (z / (d : Int) : Int) + ((z % (d : Int) : Int) : Rat) / d := by
    have e : (d : Rat) * (z / (d : Int) : Int) + ((z % (d : Int) : Int) : Rat) = z := by exact_mod_cast Int.mul_ediv_add_emod z d
    field_simp
    linarith
  have hr0 : 0 ≤ z % (d : Int) := Int.emod_nonneg _ (by omega)
  have hr0' : (0 : Rat) ≤ ((z % (d : Int) : Int) : Rat) / d := div_nonneg (by exact_mod_cast hr0) hd'.le
  have half_lt {r : Int} (h : 2 * r < d) : (r : Rat) / d < 1 / 2 := by
    rw [div_lt_div_iff₀ hd' (by norm_num)]
    have : (2 * r : Rat) < d := by exact_mod_cast h
    linarith
  have lt_half {r : Int} (h : (d : Int) < 2 * r) : 1 / 2 < (r : Rat) / d := by
    rw [div_lt_div_iff₀ (by norm_num) hd']
    have : (d : Rat) < 2 * r := by exact_mod_cast h
    linarith
  have lt_one : ((z % (d : Int) : Int) : Rat) / d < 1 := by
    rw [div_lt_one hd']
    exact_mod_cast Int.emod_lt_of_pos z (by omega : (0 : Int) < d)
  simp only [roundDiv, Int.fdiv_eq_ediv_of_nonneg _ (Int.natCast_nonneg d), Int.fmod_eq_emod_of_nonneg _ (Int.natCast_nonneg d)]
  unfold NearestInt
  rw [rest]
  generalize z / (d : Int) = q
  have down : abs ((q : Rat) - (q + ((z % (d : Int) : Int) : Rat) / d)) = ((z % (d : Int) : Int) : Rat) / d := by
    rw [sub_add_cancel_left, abs_neg, abs_of_nonneg hr0']
  have up : abs (((q + 1 : Int) : Rat) - (q + ((z % (d : Int) : Int) : Rat) / d)) = 1 - ((z % (d : Int) : Int) : Rat) / d := by
    rw [Int.cast_add, Int.cast_one, add_sub_add_left_eq_sub, abs_of_nonneg (by linarith)]
  split
  next h =>
    rw [down]
    have := half_lt h
    exact ⟨this.le, fun e => absurd e this.ne⟩
  next h =>
    split
    next h' =>
      rw [up]
      have := lt_half h'
      exact ⟨by linarith, fun e => by linarith⟩
    next h' =>
      have tie : ((z % (d : Int) : Int) : Rat) / d = 1 / 2 := by
        rw [div_eq_div_iff hd'.ne' (by norm_num)]
        have : 2 * (z % (d : Int)) = d := by omega
        have : (2 * (z % (d : Int) : Int) : Rat) = d := by exact_mod_cast this
        linarith
      split
      next he =>
        rw [down, tie]
        exact ⟨le_rfl, fun _ => he⟩
      next he =>
        rw [up, tie]
        exact ⟨by norm_num, fun _ => by omega⟩

/-- The leading bit of a quotient of two natural numbers, as `fltPack` finds it. -/
def quotLog (num den : Nat) : Int :=
  let lg : Int := (Nat.log2 num : Int) - (Nat.log2 den : Int)
  if 0 ≤ lg then (if num < den * 2 ^ lg.toNat then lg - 1 else lg)
  else (if num * 2 ^ (-lg).toNat < den then lg - 1 else lg)

theorem two_zpow_toNat {k : Int} (h : 0 ≤ k) : (2 : Rat) ^ k.toNat = (2 : Rat) ^ k := by
  rw [← zpow_natCast, Int.toNat_of_nonneg h]

theorem log2_mem {n : Nat} (h : 0 < n) : (2 : Rat) ^ (Nat.log2 n : Int) ≤ n ∧ (n : Rat) < 2 ^ ((Nat.log2 n : Int) + 1) := by
  constructor
  · rw [zpow_natCast]
    exact_mod_cast Nat.log2_self_le (by omega)
  · have : n < 2 ^ (Nat.log2 n + 1) := Nat.lt_log2_self
    exact_mod_cast this

/-- The quotient lies in the binade of its leading bit. -/
theorem quotLog_mem {num den : Nat} (hn : 0 < num) (hd : 0 < den) :
    (2 : Rat) ^ quotLog num den ≤ (num : Rat) / den ∧ (num : Rat) / den < 2 ^ (quotLog num den + 1) := by
  have hd' : (0 : Rat) < den := by exact_mod_cast hd
  obtain ⟨n1, n2⟩ := log2_mem hn
  obtain ⟨d1, d2⟩ := log2_mem hd
  have hi : (num : Rat) / den < 2 ^ ((Nat.log2 num : Int) - Nat.log2 den + 1) := by
    rw [div_lt_iff₀ hd']
    calc (num : Rat) < 2 ^ ((Nat.log2 num : Int) + 1) := n2
      _ = 2 ^ ((Nat.log2 num : Int) - Nat.log2 den + 1) * 2 ^ (Nat.log2 den : Int) := by
        rw [← zpow_add₀ (by norm_num)]
        congr 1
        ring
      _ ≤ _ := by gcongr
  have lo : (2 : Rat) ^ ((Nat.log2 num : Int) - Nat.log2 den - 1) ≤ (num : Rat) / den := by
    rw [le_div_iff₀ hd']
    calc (2 : Rat) ^ ((Nat.log2 num : Int) - Nat.log2 den - 1) * den
        ≤ 2 ^ ((Nat.log2 num : Int) - Nat.log2 den - 1) * 2 ^ ((Nat.log2 den : Int) + 1) := by gcongr
      _ = 2 ^ (Nat.log2 num : Int) := by
        rw [← zpow_add₀ (by norm_num)]
        congr 1
        ring
      _ ≤ _ := n1
  unfold quotLog
  dsimp only
  generalize ((Nat.log2 num : Int) - Nat.log2 den) = lg at hi lo ⊢
  have test : (if 0 ≤ lg then num < den * 2 ^ lg.toNat else num * 2 ^ (-lg).toNat < den) ↔ (num : Rat) / den < 2 ^ lg := by
    rw [div_lt_iff₀ hd']
    split
    next h =>
      rw [← two_zpow_toNat h, mul_comm]
      exact_mod_cast Iff.rfl
    next h =>
      have e : (2 : Rat) ^ lg = (2 ^ (-lg).toNat)⁻¹ := by
        rw [two_zpow_toNat (by omega), zpow_neg, inv_inv]
      rw [e, lt_inv_mul_iff₀ (by positivity), mul_comm]
      exact_mod_cast Iff.rfl
  by_cases h : (num : Rat) / den < 2 ^ lg
  · have ht := test.mpr h
    split at ht
    · simp only [if_pos ‹0 ≤ lg›, if_pos ht, sub_add_cancel]
      exact ⟨lo, h⟩
    · simp only [if_neg ‹¬0 ≤ lg›, if_pos ht, sub_add_cancel]
      exact ⟨lo, h⟩
  · have ht := mt test.mp h
    split at ht
    · simp only [if_pos ‹0 ≤ lg›, if_neg ht]
      exact ⟨not_lt.mp h, hi⟩
    · simp only [if_neg ‹¬0 ≤ lg›, if_neg ht]
      exact ⟨not_lt.mp h, hi⟩

/-- The quotient in units of 2^sh, rounded. -/
def quotRound (num den : Nat) (sh : Int) : Int :=
  if 0 ≤ sh then roundDiv num (den * 2 ^ sh.toNat) else roundDiv (num * 2 ^ (-sh).toNat) den

theorem quotRound_nearest (num : Nat) {den : Nat} (hd : 0 < den) (sh : Int) :
    NearestInt ((num : Rat) / den / 2 ^ sh) (quotRound num den sh) := by
  unfold quotRound
  split
  next h =>
    have e := roundDiv_nearest num (Nat.mul_pos hd (Nat.two_pow_pos sh.toNat))
    push_cast at e
    rwa [two_zpow_toNat h, ← div_div] at e
  next h =>
    have e := roundDiv_nearest (num * 2 ^ (-sh).toNat) hd
    push_cast at e
    rw [two_zpow_toNat (by omega), zpow_neg] at e
    rwa [div_div, mul_comm (den : Rat), ← div_div, div_eq_mul_inv _ ((2 : Rat) ^ sh)]

/-- The result word of a rounded magnitude of q units of 2^ulp. -/
def fltMake (s : Bool) (q : Nat) (ulp : Int) : Word × Sticky :=
  if q < 2 ^ 23 then (fltZero s, fFuf)
  else
    let (q, ulp) := if q = 2 ^ 24 then (2 ^ 23, ulp + 1) else (q, ulp)
    let be := ulp + 150
    if 255 ≤ be then (fltInf s, fFof) else (fltBits s be.toNat (q - 2 ^ 23), 0)

theorem fltPack_eq (s : Bool) (num den : Nat) (e : Int) : fltPack s num den e =
    fltMake s (quotRound num den (max (quotLog num den + e - 23) (-149) - e)).toNat (max (quotLog num den + e - 23) (-149)) := rfl

/-- A normal magnitude is the one its word stands for. -/
theorem fltNum_fltBits (s : Bool) {q : Nat} {ulp : Int} (hq : 2 ^ 23 ≤ q) (hq' : q < 2 ^ 24) (hu : -149 ≤ ulp) (hu' : ulp ≤ 104) :
    fld (fltBits s (ulp + 150).toNat (q - 2 ^ 23)) 30 23 ≠ 255 ∧
    fltNum (fltBits s (ulp + 150).toNat (q - 2 ^ 23)) = signed s (q * (2 : Rat) ^ ulp) := by
  have he : (ulp + 150).toNat < 256 := by omega
  have hf : q - 2 ^ 23 < 2 ^ 23 := by omega
  have exp := fltBits_exp s he hf
  have h255 : fld (fltBits s (ulp + 150).toNat (q - 2 ^ 23)) 30 23 ≠ 255 := by rw [exp]; omega
  refine ⟨h255, ?_⟩
  rw [fltNum_eq fun h => h255 h.1, fltOf_fin h255 (by rw [exp]; omega), fltBits_msb s he hf, exp, fltBits_frac s he hf]
  have e1 : 2 ^ 23 + (q - 2 ^ 23) = q := by omega
  have e2 : ((ulp + 150).toNat : Int) - 150 = ulp := by omega
  rw [Flt.value, e1, e2]

/-- A magnitude of 24 bits reaches 2^128 from the unit 2^105 on. -/
theorem big_iff {n : Nat} {ulp : Int} (h : 2 ^ 23 ≤ n) (h' : n < 2 ^ 24) : (2 : Rat) ^ 128 ≤ n * 2 ^ ulp ↔ 105 ≤ ulp := by
  have lo : (2 : Rat) ^ 23 ≤ n := by exact_mod_cast h
  have hi : (n : Rat) < 2 ^ 24 := by exact_mod_cast h'
  constructor
  · intro big
    by_contra hc
    have small : (2 : Rat) ^ ulp ≤ 2 ^ (104 : Int) := zpow_le_zpow_right₀ (by norm_num) (by omega)
    refine absurd big (not_le.mpr ?_)
    calc (n : Rat) * 2 ^ ulp < 2 ^ 24 * 2 ^ ulp := mul_lt_mul_of_pos_right hi (two_zpow_pos ulp)
      _ ≤ 2 ^ 24 * 2 ^ (104 : Int) := by gcongr
      _ = 2 ^ 128 := by norm_num
  · intro hu
    have large : (2 : Rat) ^ (105 : Int) ≤ 2 ^ ulp := zpow_le_zpow_right₀ (by norm_num) hu
    calc (2 : Rat) ^ 128 = 2 ^ 23 * 2 ^ (105 : Int) := by norm_num
      _ ≤ (n : Rat) * 2 ^ ulp := by gcongr

/-- What the result word of a rounded magnitude is. -/
structure Made (s : Bool) (n : Nat) (ulp : Int) (r : Word × Sticky) : Prop where
  low : n < 2 ^ 23 → r = (fltZero s, fFuf)
  high : 2 ^ 23 ≤ n → (2 : Rat) ^ 128 ≤ n * 2 ^ ulp → r = (fltInf s, fFof)
  mid : 2 ^ 23 ≤ n → n * (2 : Rat) ^ ulp < 2 ^ 128 → r.2 = 0 ∧ fld r.1 30 23 ≠ 255 ∧ fltNum r.1 = signed s (n * (2 : Rat) ^ ulp)

theorem fltMake_lt (s : Bool) {n : Nat} {ulp : Int} (hn : n < 2 ^ 24) (hu : -149 ≤ ulp) : Made s n ulp (fltMake s n ulp) := by
  have top : n ≠ 2 ^ 24 := hn.ne
  refine ⟨fun h => if_pos h, fun h big => ?_, fun h small => ?_⟩
  · have : 105 ≤ ulp := (big_iff h hn).mp big
    rw [fltMake, if_neg (by omega), if_neg top]
    exact if_pos (by omega)
  · have : ¬105 ≤ ulp := fun h' => absurd ((big_iff h hn).mpr h') (not_le.mpr small)
    have hm : fltMake s n ulp = (fltBits s (ulp + 150).toNat (n - 2 ^ 23), 0) := by
      rw [fltMake, if_neg (by omega), if_neg top]
      exact if_neg (by omega)
    rw [hm]
    exact ⟨rfl, fltNum_fltBits s h hn hu (by omega)⟩

theorem fltMake_made (s : Bool) {n : Nat} {ulp : Int} (hn : n ≤ 2 ^ 24) (hu : -149 ≤ ulp) : Made s n ulp (fltMake s n ulp) := by
  rcases hn.lt_or_eq with h | rfl
  · exact fltMake_lt s h hu
  · have carry : fltMake s (2 ^ 24) ulp = fltMake s (2 ^ 23) (ulp + 1) := by
      rw [fltMake, if_neg (by norm_num), if_pos rfl, fltMake, if_neg (by norm_num), if_neg (by norm_num)]
    have value : ((2 ^ 24 : Nat) : Rat) * (2 : Rat) ^ ulp = ((2 ^ 23 : Nat) : Rat) * 2 ^ (ulp + 1) := by
      rw [zpow_add₀ (by norm_num)]
      push_cast
      ring
    obtain ⟨-, high, mid⟩ := fltMake_lt s (n := 2 ^ 23) (ulp := ulp + 1) (by norm_num) (by omega)
    rw [carry]
    refine ⟨fun h => absurd h (by norm_num), fun _ big => ?_, fun _ small => ?_⟩
    · exact high le_rfl (value ▸ big)
    · rw [value] at small ⊢
      exact mid le_rfl small

/-- Rounding is to nearest, ties to even (R192). -/
theorem fltPack_rounds (s : Bool) {num den : Nat} (hn : 0 < num) (hd : 0 < den) (e : Int) :
    RoundsTo (signed s ((num : Rat) / den * 2 ^ e)) (fltPack s num den e) := by
  have hd' : (0 : Rat) < den := by exact_mod_cast hd
  have hn' : (0 : Rat) < num := by exact_mod_cast hn
  obtain ⟨lo, hi⟩ := quotLog_mem hn hd
  rw [fltPack_eq]
  generalize hlg : quotLog num den = lg at lo hi ⊢
  generalize hu : max (lg + e - 23) (-149) = ulp
  have hz : 0 < (num : Rat) / den * 2 ^ e := mul_pos (div_pos hn' hd') (two_zpow_pos e)
  have nearest := quotRound_nearest num hd (ulp - e)
  rw [zpow_sub₀ (by norm_num), div_div_eq_mul_div] at nearest
  generalize hq : quotRound num den (ulp - e) = q at nearest ⊢
  generalize hzr : (num : Rat) / den * 2 ^ e = z at hz nearest ⊢
  have unit := two_zpow_pos ulp
  have z_lt : z < 2 ^ 24 * (2 : Rat) ^ ulp := by
    rw [← hzr]
    calc (num : Rat) / den * 2 ^ e < 2 ^ (lg + 1) * 2 ^ e := by gcongr
      _ = 2 ^ (lg + 1 + e) := (zpow_add₀ (by norm_num) ..).symm
      _ ≤ 2 ^ (24 + ulp) := zpow_le_zpow_right₀ (by norm_num) (by omega)
      _ = 2 ^ 24 * (2 : Rat) ^ ulp := by rw [zpow_add₀ (by norm_num)]; norm_num
  have z_ge : 2 ^ 23 * (2 : Rat) ^ ulp ≤ z ∨ ulp = -149 := by
    rcases le_or_gt (-149) (lg + e - 23) with h | h
    · left
      rw [max_eq_left h] at hu
      rw [← hzr]
      calc 2 ^ 23 * (2 : Rat) ^ ulp = 2 ^ (23 + ulp) := by rw [zpow_add₀ (by norm_num)]; norm_num
        _ = 2 ^ lg * 2 ^ e := by rw [← zpow_add₀ (by norm_num)]; congr 1; omega
        _ ≤ (num : Rat) / den * 2 ^ e := by gcongr
    · right
      omega
  obtain ⟨near, tie⟩ := nearest
  have scale (k : Int) : abs (k * (2 : Rat) ^ ulp - z) = abs (k - z / 2 ^ ulp) * 2 ^ ulp := by
    rw [← abs_of_pos unit, ← abs_mul, abs_of_pos unit, sub_mul, div_mul_cancel₀ _ unit.ne']
  have q_nonneg : 0 ≤ q := by
    have h0 : 0 < z / 2 ^ ulp := div_pos hz unit
    have := (abs_le.mp near).1
    have : (-1 : Rat) < q := by linarith
    have : -1 < q := by exact_mod_cast this
    omega
  have q_le : q ≤ 2 ^ 24 := by
    have h1 : z / 2 ^ ulp < 2 ^ 24 := (div_lt_iff₀ unit).mpr z_lt
    have := (abs_le.mp near).2
    have : (q : Rat) < 2 ^ 24 + 1 := by linarith
    have : q < 2 ^ 24 + 1 := by exact_mod_cast this
    omega
  obtain ⟨n, rfl⟩ := Int.eq_ofNat_of_zero_le q_nonneg
  have n_le : n ≤ 2 ^ 24 := by exact_mod_cast q_le
  have ulp_ge : -149 ≤ ulp := hu ▸ le_max_right ..
  rw [RoundsTo]
  refine ⟨ulp, n, ?_⟩
  rw [abs_signed s hz, Int.toNat_natCast]
  have neg_iff := signed_neg_iff s hz
  have made := fltMake_made s n_le ulp_ge
  have sign : fltZero s = if signed s z < 0 then 0x80000000 else 0 := by
    simp only [neg_iff]
    cases s <;> rfl
  have scale' := scale n
  rw [Int.cast_natCast] at scale' near tie
  refine ⟨z_lt, ulp_ge, z_ge, ?_, fun h => ?_, fun h => ?_, fun h big => ?_, fun h small => ?_⟩
  · rw [scale', div_eq_inv_mul ((2 : Rat) ^ ulp), ← one_div]
    exact mul_le_mul_of_nonneg_right near unit.le
  · rw [scale', div_eq_inv_mul ((2 : Rat) ^ ulp), ← one_div] at h
    have := tie (mul_right_cancel₀ unit.ne' h)
    omega
  · rw [made.low h, sign]
  · rw [made.high h big, ← sign]
    rfl
  · obtain ⟨flags, exp, value⟩ := made.mid h small
    refine ⟨flags, exp, value.trans ?_⟩
    simp only [neg_iff]
    rfl
/-! ### The integer root -/

theorem isqrtBits_spec (n : Nat) (k r : Nat) (lo : r * r ≤ n) (hi : n < (r + 2 ^ k) * (r + 2 ^ k)) :
    isqrtBits n k r * isqrtBits n k r ≤ n ∧ n < (isqrtBits n k r + 1) * (isqrtBits n k r + 1) := by
  induction k generalizing r with
  | zero => exact ⟨lo, hi⟩
  | succ k ih =>
    rw [isqrtBits]
    unfold isqrtStep
    dsimp only
    split
    next h =>
      refine ih _ h ?_
      rwa [add_assoc, ← two_mul, ← Nat.pow_succ']
    next h => exact ih _ lo (not_le.mp h)

theorem isqrt_spec {n : Nat} (h : n < 2 ^ 160) : isqrt n * isqrt n ≤ n ∧ n < (isqrt n + 1) * (isqrt n + 1) :=
  isqrtBits_spec n 80 0 (Nat.zero_le _) (h.trans_eq (by norm_num))

/-! ### Integers of 2^e -/

/-- An integer times a power of two, rounded. -/
theorem fltInt_rounds {z : Int} (hz : z ≠ 0) (s : Bool) (e : Int) : RoundsTo (z * (2 : Rat) ^ e) (fltInt s z e) := by
  rw [fltInt, if_neg hz]
  have rounds := fltPack_rounds (Decidable.decide (z < 0)) (num := z.natAbs) (den := 1) (by omega) one_pos e
  have value : signed (Decidable.decide (z < 0)) ((z.natAbs : Rat) / (1 : Nat) * 2 ^ e) = z * (2 : Rat) ^ e := by
    rw [Nat.cast_one, div_one, Nat.cast_natAbs]
    rcases lt_or_gt_of_ne hz with h | h
    · rw [signed, if_pos (decide_eq_true h), abs_of_neg h]
      push_cast
      ring
    · rw [signed, if_neg (by simpa using h.le), abs_of_pos h]
  rwa [value] at rounds

/-- A finite operand is rounded to itself. -/
theorem fltWord_rounds {s : Bool} {m : Nat} {e : Int} (h : (Flt.fin s m e).Normal) :
    RoundsTo (Flt.fin s m e).value (fltWord (.fin s m e), 0) := by
  have ⟨hm, hlt, he, he'⟩ := h
  have unit := two_zpow_pos e
  have big : (2 : Rat) ^ 23 * 2 ^ e ≤ m * 2 ^ e := by
    have : (2 : Rat) ^ 23 ≤ m := by exact_mod_cast hm
    gcongr
  have small : (m : Rat) * 2 ^ e < 2 ^ 24 * 2 ^ e := by
    have : (m : Rat) < 2 ^ 24 := by exact_mod_cast hlt
    gcongr
  obtain ⟨exp, value⟩ := fltNum_fltBits s hm hlt he he'
  rw [RoundsTo]
  refine ⟨e, m, ?_⟩
  rw [Flt.value, abs_signed s (h.pos)]
  dsimp only
  rw [sub_self, abs_zero]
  refine ⟨small, he, .inl big, (half_pos unit).le, fun h0 => absurd h0 (half_pos unit).ne, fun hm' => absurd hm (by omega),
    fun _ h128 => absurd h.lt (not_lt.mpr h128), fun _ _ => ⟨rfl, exp, ?_⟩⟩
  refine value.trans ?_
  simp only [signed_neg_iff s h.pos]
  rfl

/-! ### Conversion to an integer -/

theorem NearestInt.of_int (n : Int) : NearestInt (n : Rat) n := by
  rw [NearestInt, sub_self, abs_zero]
  exact ⟨by norm_num, fun h => absurd h (by norm_num)⟩

theorem NearestInt.zero_of_lt {z : Rat} (h : abs z < 1 / 2) : NearestInt z 0 := by
  rw [NearestInt, Int.cast_zero, zero_sub, abs_neg]
  exact ⟨h.le, fun e => absurd e h.ne⟩

/-- A number is converted to the nearest integer, clipped (R192). -/
theorem fltToInt_converts {a : Word} (ha : fld a 30 23 ≠ 255) (k : Nat) {lo hi : Int} (hl : -2147483648 ≤ lo ∧ lo ≤ 0)
    (hh : 0 ≤ hi ∧ hi ≤ 2147483647) : ∃ n, NearestInt (fltNum a * 2 ^ k) n ∧
    fltToInt k lo hi a = (max lo (min hi n), if lo ≤ n ∧ n ≤ hi then 0 else fSat) := by
  obtain ⟨hl, hl0⟩ := hl
  obtain ⟨hh0, hh⟩ := hh
  rw [fltNum_eq fun h => ha h.1]
  have normal := fltOf_normal a
  by_cases h0 : fld a 30 23 = 0
  · rw [fltToInt, fltOf_zero h0]
    exact ⟨0, by rw [Flt.value, zero_mul]; exact NearestInt.of_int 0, by
      rw [min_eq_right hh0, max_eq_right hl0, if_pos ⟨hl0, hh0⟩]⟩
  · rw [fltToInt]
    rw [fltOf_fin ha h0] at normal ⊢
    generalize 2 ^ 23 + fld a 22 0 = m at normal ⊢
    generalize (fld a 30 23 : Int) - 150 = e at normal ⊢
    generalize a.msb = s at normal ⊢
    obtain ⟨hm, hm', -⟩ := normal
    dsimp only
    have value : (Flt.fin s m e).value * 2 ^ k = ((if s then -(m : Int) else (m : Int) : Int) : Rat) * 2 ^ (e + k) := by
      rw [zpow_add₀ (by norm_num), zpow_natCast, Flt.value, signed]
      split <;> push_cast <;> ring
    rw [value]
    generalize hz : (if s then -(m : Int) else (m : Int)) = z
    split
    next he =>
      have int : ((z : Rat) * 2 ^ (e + k)) = ((z * 2 ^ (e + k).toNat : Int) : Rat) := by
        push_cast
        rw [two_zpow_toNat he]
      refine ⟨z * 2 ^ (e + k).toNat, int ▸ NearestInt.of_int _, ?_⟩
      rw [clipSat_eq (hl0.trans hh0)]
      split
      next h64 =>
        have far : (2 : Int) ^ 64 ≤ 2 ^ (e + k).toNat := pow_le_pow_right₀ (by norm_num) (by omega)
        have large : (2 : Int) ^ 64 ≤ m * 2 ^ (e + k).toNat := by nlinarith
        norm_num at large
        have beyond : (if s then z * 2 ^ (e + k).toNat ≤ -18446744073709551616 else 18446744073709551616 ≤ z * 2 ^ (e + k).toNat) := by
          cases s <;> simp only [Bool.false_eq_true, if_false, if_true] at hz ⊢ <;> subst hz
          · exact large
          · rw [neg_mul]
            omega
        generalize z * 2 ^ (e + k).toNat = n at beyond
        cases s <;> simp only [Bool.false_eq_true, if_false, if_true] at beyond ⊢
        · rw [if_neg (by omega), if_neg (by omega)]
          congr 1
          omega
        · rw [if_neg (by omega), if_neg (by omega)]
          congr 1
          omega
      next => rfl
    next he =>
      split
      next h64 =>
        refine ⟨0, NearestInt.zero_of_lt ?_, clipSat_eq (hl0.trans hh0) 0⟩
        have hz' : abs (z : Rat) < 2 ^ 24 := by
          rw [← hz]
          have : (m : Rat) < 2 ^ 24 := by exact_mod_cast hm'
          split <;> simpa using this
        have small : (2 : Rat) ^ (e + k) ≤ 2 ^ (-65 : Int) := zpow_le_zpow_right₀ (by norm_num) (by omega)
        rw [abs_mul, abs_of_pos (two_zpow_pos _)]
        calc abs (z : Rat) * 2 ^ (e + k) ≤ 2 ^ 24 * 2 ^ (-65 : Int) := by gcongr
          _ < 1 / 2 := by norm_num
      next =>
        refine ⟨_, ?_, clipSat_eq (hl0.trans hh0) _⟩
        have near := roundDiv_nearest z (Nat.two_pow_pos (-(e + k)).toNat)
        rw [Nat.cast_pow, Nat.cast_ofNat, two_zpow_toNat (by omega), zpow_neg, div_inv_eq_mul] at near
        exact near
/-! ### The root -/

/-- A 24-bit magnitude is never the square of one of more bits, but for a power of two. -/
theorem no_tie {m j c H : Nat} (hm : 0 < m) (hm' : m < 2 ^ 24) (hc : 2 ^ 13 ≤ c) (hodd : c % 2 = 1) : m * 2 ^ j ≠ c * H * (c * H) := by
  intro e
  have cop : Nat.Coprime (c * c) (2 ^ j) := by
    refine Nat.Coprime.pow_right _ ?_
    rw [Nat.coprime_two_right, Nat.odd_iff, Nat.mul_mod, hodd]
  have dvd : c * c ∣ m := cop.dvd_of_dvd_mul_right ⟨H * H, by rw [e]; ring⟩
  have := Nat.le_of_dvd hm dvd
  have : 2 ^ 13 * 2 ^ 13 ≤ c * c := Nat.mul_le_mul hc hc
  omega

/-- The rounded root with its sticky bit lies on the same side of a midpoint as the root itself. -/
theorem root_between {m j r c H : Nat} (hm : 0 < m) (hm' : m < 2 ^ 24) (hr : r * r ≤ m * 2 ^ j) (hr' : m * 2 ^ j < (r + 1) * (r + 1))
    (hc : 2 ^ 13 ≤ c) (hodd : c % 2 = 1) :
    (c * (2 * H) ≤ 2 * r + (if r * r = m * 2 ^ j then 0 else 1) → c * (2 * H) * (c * (2 * H)) < 4 * (m * 2 ^ j)) ∧
    (2 * r + (if r * r = m * 2 ^ j then 0 else 1) ≤ c * (2 * H) → 4 * (m * 2 ^ j) < c * (2 * H) * (c * (2 * H))) := by
  have even : c * (2 * H) = 2 * (c * H) := by ring
  have tie := no_tie (j := j) (H := H) hm hm' hc hodd
  rw [even]
  have square : 2 * (c * H) * (2 * (c * H)) = 4 * (c * H * (c * H)) := by ring
  rw [square]
  generalize c * H = d at tie
  split
  next exact =>
    have ne : d ≠ r := fun e => tie (e ▸ exact.symm)
    rw [← exact]
    constructor
    · intro h
      have : d < r := by omega
      have := Nat.mul_self_lt_mul_self this
      omega
    · intro h
      have : r < d := by omega
      have := Nat.mul_self_lt_mul_self this
      omega
  next inexact =>
    constructor
    · intro h
      have : d ≤ r := by omega
      have := Nat.mul_self_le_mul_self this
      omega
    · intro h
      have : r + 1 ≤ d := by omega
      have := Nat.mul_self_le_mul_self this
      omega

/-- The rounded magnitude of a root: q units of 2^u whose midpoints enclose the root of m 2^e. -/
theorem root_rounds {m : Nat} {e : Int} (hm : 2 ^ 23 ≤ m) (hm' : m < 2 ^ 24) {r j : Nat} {g : Int} (he : e = 2 * g + 2 + j)
    (hj : 60 ≤ j) (hr : r * r ≤ m * 2 ^ j) (hr' : m * 2 ^ j < (r + 1) * (r + 1)) {u : Int} {q : Nat} (hq : 2 ^ 23 ≤ q)
    (hlt : ((2 * r + (if r * r = m * 2 ^ j then 0 else 1) : Nat) : Rat) * 2 ^ g < 2 ^ 24 * 2 ^ u)
    (near : abs (q * (2 : Rat) ^ u - ((2 * r + (if r * r = m * 2 ^ j then 0 else 1) : Nat) : Rat) * 2 ^ g) ≤ 2 ^ u / 2) :
    (q * (2 : Rat) ^ u - 2 ^ u / 2) ^ 2 < m * 2 ^ e ∧ m * (2 : Rat) ^ e < (q * (2 : Rat) ^ u + 2 ^ u / 2) ^ 2 := by
  obtain ⟨below, above⟩ := root_between (c := 2 * q - 1) (H := 2 ^ (u - g - 2).toNat) (by omega) hm' hr hr' (by omega) (by omega)
  obtain ⟨below', above'⟩ := root_between (c := 2 * q + 1) (H := 2 ^ (u - g - 2).toNat) (by omega) hm' hr hr' (by omega) (by omega)
  clear above below'
  generalize hp : 2 * r + (if r * r = m * 2 ^ j then 0 else 1) = p at *
  have unit := two_zpow_pos g
  have r_large : 2 ^ 41 ≤ r := by
    have h1 : 2 ^ 23 * 2 ^ 60 ≤ m * 2 ^ j := Nat.mul_le_mul hm (Nat.pow_le_pow_right (by norm_num) hj)
    by_contra hc
    have : (r + 1) * (r + 1) ≤ 2 ^ 41 * 2 ^ 41 := Nat.mul_self_le_mul_self (by omega)
    omega
  have shift : 2 ≤ u - g := by
    by_contra hc
    have h1 : (2 : Rat) ^ u ≤ 2 ^ (1 + g) := zpow_le_zpow_right₀ (by norm_num) (by omega)
    rw [zpow_add₀ (by norm_num)] at h1
    have h2 : (2 : Rat) ^ 42 ≤ p := by
      have : 2 ^ 42 ≤ p := by omega
      exact_mod_cast this
    have h3 : (2 : Rat) ^ 42 * 2 ^ g ≤ p * 2 ^ g := by gcongr
    norm_num at h1 h3 hlt
    linarith
  have hU : (2 : Rat) ^ u = 2 * (2 * ((2 ^ (u - g - 2).toNat : Nat) : Rat)) * 2 ^ g := by
    push_cast
    rw [two_zpow_toNat (by omega), ← mul_assoc, show (2 * 2 : Rat) = 2 ^ (2 : Int) by norm_num, ← zpow_add₀ (by norm_num),
      ← zpow_add₀ (by norm_num)]
    congr 1
    ring
  have hE : (m : Rat) * 2 ^ e = 4 * (m * 2 ^ j) * (2 ^ g * 2 ^ g) := by
    rw [he, zpow_add₀ (by norm_num), zpow_add₀ (by norm_num), two_mul, zpow_add₀ (by norm_num), zpow_natCast]
    norm_num
    ring
  generalize (2 ^ (u - g - 2).toNat : Nat) = H at below above' hU
  have hq1 : ((2 * q - 1 : Nat) : Rat) = 2 * q - 1 := by
    rw [Nat.cast_sub (by omega)]
    push_cast
    ring
  have lo : q * (2 : Rat) ^ u - 2 ^ u / 2 = ((2 * q - 1) * (2 * H) : Nat) * (2 : Rat) ^ g := by
    rw [hU]
    push_cast [hq1]
    ring
  have hi : q * (2 : Rat) ^ u + 2 ^ u / 2 = ((2 * q + 1) * (2 * H) : Nat) * (2 : Rat) ^ g := by
    rw [hU]
    push_cast
    ring
  obtain ⟨n1, n2⟩ := abs_le.mp near
  have b1 : (2 * q - 1) * (2 * H) ≤ p := by
    have : (((2 * q - 1) * (2 * H) : Nat) : Rat) * 2 ^ g ≤ p * 2 ^ g := by
      rw [← lo]
      linarith
    exact_mod_cast le_of_mul_le_mul_right this unit
  have b2 : p ≤ (2 * q + 1) * (2 * H) := by
    have : (p : Rat) * 2 ^ g ≤ (((2 * q + 1) * (2 * H) : Nat) : Rat) * 2 ^ g := by
      rw [← hi]
      linarith
    exact_mod_cast le_of_mul_le_mul_right this unit
  rw [lo, hi, hE]
  have sq (k : Nat) : ((k : Rat) * 2 ^ g) ^ 2 = ((k * k : Nat) : Rat) * (2 ^ g * 2 ^ g) := by
    push_cast
    ring
  rw [sq, sq]
  have nat : (4 * (m * 2 ^ j) : Rat) = ((4 * (m * 2 ^ j) : Nat) : Rat) := by push_cast; ring
  rw [nat]
  exact ⟨mul_lt_mul_of_pos_right (by exact_mod_cast below b1) (mul_pos unit unit),
    mul_lt_mul_of_pos_right (by exact_mod_cast above' b2) (mul_pos unit unit)⟩

/-- Half the unit of a normal word. -/
theorem half_unit_ge {w : Word} {q : Nat} {u : Int} (hq : 2 ^ 23 ≤ q) (hw : fld w 30 23 ≠ 255) (h : fltNum w = q * (2 : Rat) ^ u) :
    w.msb = false ∧ fld w 30 23 ≠ 0 ∧ (2 : Rat) ^ u / 2 ≤ 2 ^ ((fld w 30 23 : Int) - 151) ∧
    (2 : Rat) ^ ((fld w 30 23 : Int) - 151) ≤ fltNum w := by
  have q_pos : (0 : Rat) < q * (2 : Rat) ^ u := by
    have : (0 : Rat) < q := by exact_mod_cast (by omega : 0 < q)
    exact mul_pos this (two_zpow_pos u)
  have value := fltNum_eq (w := w) fun h => hw h.1
  by_cases h0 : fld w 30 23 = 0
  · rw [fltOf_zero h0] at value
    exact absurd (h.symm.trans value) q_pos.ne'
  · have normal := fltOf_normal w
    rw [fltOf_fin hw h0] at value normal
    generalize hm : 2 ^ 23 + fld w 22 0 = m at value normal
    have pos := normal.pos
    obtain ⟨m1, m2, -⟩ := normal
    have sign : w.msb = false := by
      by_contra hs
      rw [Bool.not_eq_false] at hs
      rw [hs] at value
      have : fltNum w < 0 := value ▸ (signed_neg_iff true pos).mpr rfl
      linarith
    rw [sign] at value
    have value' : fltNum w = m * (2 : Rat) ^ ((fld w 30 23 : Int) - 150) := value
    have m1' : (2 : Rat) ^ 23 ≤ m := by exact_mod_cast m1
    have m2' : (m : Rat) < 2 ^ 24 := by exact_mod_cast m2
    have hq' : (2 : Rat) ^ 23 ≤ q := by exact_mod_cast hq
    refine ⟨sign, h0, ?_, ?_⟩
    · have : u < (fld w 30 23 : Int) - 150 + 1 := by
        have : (2 : Rat) ^ 23 * 2 ^ u < 2 ^ 23 * 2 ^ ((fld w 30 23 : Int) - 150 + 1) := by
          calc (2 : Rat) ^ 23 * 2 ^ u ≤ q * (2 : Rat) ^ u := by gcongr
            _ = m * (2 : Rat) ^ ((fld w 30 23 : Int) - 150) := h.symm.trans value'
            _ < 2 ^ 24 * (2 : Rat) ^ ((fld w 30 23 : Int) - 150) := by gcongr
            _ = 2 ^ 23 * 2 ^ ((fld w 30 23 : Int) - 150 + 1) := by rw [zpow_add₀ (by norm_num)]; ring
        exact (zpow_lt_zpow_iff_right₀ (by norm_num)).mp (lt_of_mul_lt_mul_left this (by positivity))
      calc (2 : Rat) ^ u / 2 = 2 ^ (u - 1) := by rw [zpow_sub₀ (by norm_num)]; norm_num
        _ ≤ _ := zpow_le_zpow_right₀ (by norm_num) (by omega)
    · rw [value']
      calc (2 : Rat) ^ ((fld w 30 23 : Int) - 151) ≤ 2 ^ ((fld w 30 23 : Int) - 150) := zpow_le_zpow_right₀ (by norm_num) (by omega)
        _ ≤ m * (2 : Rat) ^ ((fld w 30 23 : Int) - 150) := le_mul_of_one_le_left (two_zpow_pos _).le (by linarith)

/-- The root of a 24-bit magnitude of 2^60 or 2^61, and its size. -/
theorem isqrt_wide {m j : Nat} (hm : 2 ^ 23 ≤ m) (hm' : m < 2 ^ 24) (hj : 60 ≤ j) (hj' : j ≤ 61) :
    isqrt (m * 2 ^ j) * isqrt (m * 2 ^ j) ≤ m * 2 ^ j ∧ m * 2 ^ j < (isqrt (m * 2 ^ j) + 1) * (isqrt (m * 2 ^ j) + 1) ∧
      2 ^ 41 ≤ isqrt (m * 2 ^ j) ∧ isqrt (m * 2 ^ j) < 2 ^ 43 := by
  have large : 2 ^ 23 * 2 ^ 60 ≤ m * 2 ^ j := Nat.mul_le_mul hm (Nat.pow_le_pow_right (by norm_num) hj)
  have small : m * 2 ^ j < 2 ^ 24 * 2 ^ 61 := Nat.mul_lt_mul_of_lt_of_le hm' (Nat.pow_le_pow_right (by norm_num) hj') (by norm_num)
  obtain ⟨r1, r2⟩ := isqrt_spec (n := m * 2 ^ j) (small.trans (by norm_num))
  generalize isqrt (m * 2 ^ j) = r at r1 r2
  refine ⟨r1, r2, ?_, ?_⟩
  · by_contra hc
    have : (r + 1) * (r + 1) ≤ 2 ^ 41 * 2 ^ 41 := Nat.mul_self_le_mul_self (by omega)
    omega
  · by_contra hc
    have : 2 ^ 43 * 2 ^ 43 ≤ r * r := Nat.mul_self_le_mul_self (by omega)
    omega

/-- A magnitude of the size of a root is rounded to q units of 2^u, neither too small nor too large for a word. -/
theorem fltPack_root {p : Nat} {g : Int} (p1 : 2 ^ 42 ≤ p) (p2 : p < 2 ^ 45) (g1 : -167 ≤ g) (g2 : g ≤ 50) :
    ∃ (u : Int) (q : Nat), 2 ^ 23 ≤ q ∧ (p : Rat) * 2 ^ g < 2 ^ 24 * 2 ^ u ∧
      abs (q * (2 : Rat) ^ u - p * 2 ^ g) ≤ 2 ^ u / 2 ∧ (fltPack false p 1 g).2 = 0 ∧
      fld (fltPack false p 1 g).1 30 23 ≠ 255 ∧ fltNum (fltPack false p 1 g).1 = q * (2 : Rat) ^ u := by
  obtain ⟨u, q, hlt, hu, hge, near, -, -, -, fine⟩ := fltPack_rounds false (num := p) (den := 1) (by omega) one_pos g
  have unit := two_zpow_pos u
  have z_eq : signed false ((p : Rat) / (1 : Nat) * 2 ^ g) = p * 2 ^ g := by rw [signed, Nat.cast_one, div_one]; rfl
  have p1' : (2 : Rat) ^ 42 ≤ p := by exact_mod_cast p1
  have p2' : (p : Rat) < 2 ^ 45 := by exact_mod_cast p2
  have z_pos : (0 : Rat) < p * 2 ^ g := mul_pos (lt_of_lt_of_le (by positivity) p1') (two_zpow_pos g)
  rw [z_eq, abs_of_pos z_pos] at hlt hge near
  rw [z_eq, if_neg (not_lt.mpr z_pos.le)] at fine
  have z_ge : 2 ^ 23 * (2 : Rat) ^ u ≤ p * 2 ^ g := by
    rcases hge with h | rfl
    · exact h
    · have : (2 : Rat) ^ (-167 : Int) ≤ 2 ^ g := zpow_le_zpow_right₀ (by norm_num) g1
      calc (2 : Rat) ^ 23 * 2 ^ (-149 : Int) ≤ 2 ^ 42 * 2 ^ (-167 : Int) := by norm_num
        _ ≤ (p : Rat) * 2 ^ g := by gcongr
  obtain ⟨n1, n2⟩ := abs_le.mp near
  have q_ge : 2 ^ 23 ≤ q := by
    have : ((2 : Rat) ^ 23 - 1 / 2) * 2 ^ u ≤ q * 2 ^ u := by linarith
    have := le_of_mul_le_mul_right this unit
    have : (2 : Rat) ^ 23 < q + 1 := by linarith
    have : 2 ^ 23 < q + 1 := by exact_mod_cast this
    omega
  have small : (q : Rat) * 2 ^ u < 2 ^ 128 := by
    have h1 : (q : Rat) * 2 ^ u ≤ 2 * (p * 2 ^ g) := by linarith
    have h2 : (2 : Rat) ^ g ≤ 2 ^ (50 : Int) := zpow_le_zpow_right₀ (by norm_num) g2
    calc (q : Rat) * 2 ^ u ≤ 2 * (p * 2 ^ g) := h1
      _ ≤ 2 * (2 ^ 45 * 2 ^ (50 : Int)) := by gcongr
      _ < 2 ^ 128 := by norm_num
  exact ⟨u, q, q_ge, hlt, near, fine q_ge small⟩

/-- The root is taken of the magnitude times 2^60 or 2^61, whichever leaves an even exponent. -/
theorem fltSqrt_fin {x : Word} {m : Nat} {e : Int} (hx : fltOf x = .fin false m e) : ∃ (j : Nat) (g : Int), 60 ≤ j ∧ j ≤ 61 ∧
    e = 2 * g + 2 + j ∧ fltSqrt x = fltPack false (2 * isqrt (m * 2 ^ j) +
      (if isqrt (m * 2 ^ j) * isqrt (m * 2 ^ j) = m * 2 ^ j then 0 else 1)) 1 g := by
  unfold fltSqrt
  rw [hx]
  by_cases h : e % 2 = 0
  · refine ⟨60, (e - 60) / 2 - 1, le_rfl, by norm_num, by omega, ?_⟩
    simp only [h, ne_eq, not_true_eq_false, if_false, Bool.false_eq_true]
  · refine ⟨61, (e - 61) / 2 - 1, by norm_num, le_rfl, by omega, ?_⟩
    simp only [h, ne_eq, not_false_eq_true, if_true, if_false, Bool.false_eq_true]

/-- The root of a positive finite word lies within half a unit of its result. -/
theorem fltSqrt_spec {x : Word} (hx : fld x 30 23 ≠ 255) (h0 : fld x 30 23 ≠ 0) (hs : x.msb = false) :
    ∃ r : Word, fltSqrt x = (r, 0) ∧ r.msb = false ∧ fld r 30 23 ≠ 255 ∧ fld r 30 23 ≠ 0 ∧
      (fltNum r - (2 : Rat) ^ ((fld r 30 23 : Int) - 151)) ^ 2 < fltNum x ∧
      fltNum x < (fltNum r + (2 : Rat) ^ ((fld r 30 23 : Int) - 151)) ^ 2 := by
  have normal := fltOf_normal x
  have value := fltNum_eq (w := x) fun h => hx h.1
  have fin := fltOf_fin hx h0
  rw [hs] at fin
  rw [fin] at normal value
  obtain ⟨j, g, hj, hj', he, root⟩ := fltSqrt_fin fin
  generalize 2 ^ 23 + fld x 22 0 = m at normal value root
  generalize (fld x 30 23 : Int) - 150 = e at normal value he
  obtain ⟨m1, m2, e1, e2⟩ := normal
  replace value : fltNum x = m * (2 : Rat) ^ e := value
  rw [value]
  obtain ⟨r1, r2, r_large, r_small⟩ := isqrt_wide m1 m2 hj hj'
  generalize isqrt (m * 2 ^ j) = r at root r1 r2 r_large r_small
  have between := fun (u : Int) (q : Nat) => root_rounds m1 m2 he hj r1 r2 (u := u) (q := q)
  have sticky_le : (if r * r = m * 2 ^ j then 0 else 1) ≤ 1 := by split <;> omega
  generalize hp : 2 * r + (if r * r = m * 2 ^ j then 0 else 1) = p at between root
  obtain ⟨u, q, q_ge, hlt, near, flags, exp, num⟩ := fltPack_root (p := p) (g := g) (by omega) (by omega) (by omega) (by omega)
  rw [← root] at flags exp num
  obtain ⟨lo, hi⟩ := between u q q_ge hlt near
  obtain ⟨sign, exp0, half, half_le⟩ := half_unit_ge q_ge exp num
  have margin := half_pos (two_zpow_pos u)
  have pair : fltSqrt x = ((fltSqrt x).1, 0) := by rw [← flags]
  refine ⟨_, pair, sign, exp, exp0, lt_of_le_of_lt ?_ lo, hi.trans_le ?_⟩
  · rw [← num]
    exact pow_le_pow_left₀ (by linarith) (by linarith) 2
  · rw [← num]
    exact pow_le_pow_left₀ (by linarith) (by linarith) 2
/-! ### The operations case by case -/

section operations
variable {x y : Word}

theorem fltNum_zero (h : fld x 30 23 = 0) : fltNum x = 0 := by
  rw [fltNum_eq fun hn => by omega, fltOf_zero h]
  rfl

theorem fltNum_fin (h : fld x 30 23 ≠ 255) (h0 : fld x 30 23 ≠ 0) :
    fltNum x = (Flt.fin x.msb (2 ^ 23 + fld x 22 0) ((fld x 30 23 : Int) - 150)).value := by
  rw [fltNum_eq fun hn => h hn.1, fltOf_fin h h0]

theorem fltOf_fin_normal (h : fld x 30 23 ≠ 255) (h0 : fld x 30 23 ≠ 0) :
    (Flt.fin x.msb (2 ^ 23 + fld x 22 0) ((fld x 30 23 : Int) - 150)).Normal := fltOf_fin h h0 ▸ fltOf_normal x

theorem fltNum_ne_zero (h : fld x 30 23 ≠ 255) (h0 : fld x 30 23 ≠ 0) : fltNum x ≠ 0 := by
  rw [fltNum_fin h h0]
  intro e
  have pos := (fltOf_fin_normal h h0).pos
  rw [Flt.value, signed] at e
  split at e
  · exact pos.ne' (neg_eq_zero.mp e)
  · exact pos.ne' e

theorem ne_zero_of_inf (h : fld x 30 23 = 255 ∧ fld x 22 0 = 0) : fld x 30 23 ≠ 0 := by omega

theorem fltZero_xor (x y : Word) : fltZero (x.msb ^^ y.msb) = (x ^^^ y) &&& 0x80000000 := by
  rw [← BitVec.msb_xor, fltZero_msb_eq]

theorem fltInf_xor (x y : Word) : fltInf (x.msb ^^ y.msb) = (x ^^^ y) &&& 0x80000000 ||| 0x7F800000 := by
  rw [← fltZero_xor]
  rfl

/-- FSUB adds the number with its sign inverted. -/
theorem fltAdd_sub (sub : Bool) (x y : Word) : fltAdd sub x y = fltAdd false x (if sub then y ^^^ 0x80000000 else y) := by
  cases sub
  · rfl
  · simp only [fltAdd, if_true, Bool.false_eq_true, if_false, fltOf_neg]

theorem fltAdd_nan (h : (fld x 30 23 = 255 ∧ fld x 22 0 ≠ 0) ∨ (fld y 30 23 = 255 ∧ fld y 22 0 ≠ 0)) :
    fltAdd false x y = (fltNan, 0) := by
  rcases h with h | h
  · simp only [fltAdd, fltOf_nan h]
  · simp only [fltAdd, fltOf_nan h, Bool.false_eq_true, if_false]
    cases fltOf x <;> rfl

theorem fltAdd_inf_left (hx : fld x 30 23 = 255 ∧ fld x 22 0 = 0) (hy : ¬(fld y 30 23 = 255 ∧ fld y 22 0 ≠ 0)) :
    fltAdd false x y = if (fld y 30 23 = 255 ∧ fld y 22 0 = 0) ∧ y ≠ x then (fltNan, fFiv) else (x, 0) := by
  by_cases hi : fld y 30 23 = 255
  · have hy' : fld y 30 23 = 255 ∧ fld y 22 0 = 0 := ⟨hi, by by_contra h; exact hy ⟨hi, h⟩⟩
    simp only [fltAdd, fltOf_inf hx, fltOf_inf hy', Bool.false_eq_true, if_false, fltInf_of hx]
    have same : x.msb = y.msb ↔ y = x :=
      ⟨fun e => word_ext e.symm (hy'.1.trans hx.1.symm) (hy'.2.trans hx.2.symm), fun e => e ▸ rfl⟩
    by_cases e : y = x
    · rw [if_pos (same.mpr e), if_neg fun h => h.2 e]
    · rw [if_neg fun h => e (same.mp h), if_pos ⟨hy', e⟩]
  · rw [if_neg fun h => hi h.1.1]
    by_cases h0 : fld y 30 23 = 0
    · simp only [fltAdd, fltOf_inf hx, fltOf_zero h0, Bool.false_eq_true, if_false, fltInf_of hx]
    · simp only [fltAdd, fltOf_inf hx, fltOf_fin hi h0, Bool.false_eq_true, if_false, fltInf_of hx]

theorem fltAdd_inf_right (hx : fld x 30 23 ≠ 255) (hy : fld y 30 23 = 255 ∧ fld y 22 0 = 0) : fltAdd false x y = (y, 0) := by
  by_cases h0 : fld x 30 23 = 0
  · simp only [fltAdd, fltOf_inf hy, fltOf_zero h0, Bool.false_eq_true, if_false, fltInf_of hy]
  · simp only [fltAdd, fltOf_inf hy, fltOf_fin hx h0, Bool.false_eq_true, if_false, fltInf_of hy]

/-- The sum of two finite operands as an integer of 2^base. -/
theorem fltAdd_fin (hx : fld x 30 23 ≠ 255) (hx0 : fld x 30 23 ≠ 0) (hy : fld y 30 23 ≠ 255) (hy0 : fld y 30 23 ≠ 0) :
    ∃ (n : Int) (base : Int), fltAdd false x y = fltInt false n base ∧ fltNum x + fltNum y = n * (2 : Rat) ^ base := by
  refine ⟨fltAt x.msb (2 ^ 23 + fld x 22 0) ((fld x 30 23 : Int) - 150) (min ((fld x 30 23 : Int) - 150) ((fld y 30 23 : Int) - 150)) +
    fltAt y.msb (2 ^ 23 + fld y 22 0) ((fld y 30 23 : Int) - 150) (min ((fld x 30 23 : Int) - 150) ((fld y 30 23 : Int) - 150)),
    min ((fld x 30 23 : Int) - 150) ((fld y 30 23 : Int) - 150), ?_, ?_⟩
  · simp only [fltAdd, fltOf_fin hx hx0, fltOf_fin hy hy0, Bool.false_eq_true, if_false]
  · rw [fltNum_fin hx hx0, fltNum_fin hy hy0, ← fltAt_value x.msb (2 ^ 23 + fld x 22 0) (min_le_left _ ((fld y 30 23 : Int) - 150)),
      ← fltAt_value y.msb (2 ^ 23 + fld y 22 0) (min_le_right ((fld x 30 23 : Int) - 150) _), ← add_mul, ← Int.cast_add]

theorem fltWord_fin (hx : fld x 30 23 ≠ 255) (hx0 : fld x 30 23 ≠ 0) :
    fltWord (.fin x.msb (2 ^ 23 + fld x 22 0) ((fld x 30 23 : Int) - 150)) = x := by
  rw [← fltOf_fin hx hx0, fltWord_fltOf (fun h => hx h.1) hx0]

theorem word_rounds (hx : fld x 30 23 ≠ 255) (hx0 : fld x 30 23 ≠ 0) : RoundsTo (fltNum x) (x, 0) := by
  have rounds := fltWord_rounds (fltOf_fin_normal hx hx0)
  rwa [fltWord_fin hx hx0, ← fltNum_fin hx hx0] at rounds

theorem fltAdd_rounds (hx : fld x 30 23 ≠ 255) (hy : fld y 30 23 ≠ 255) (hz : fltNum x + fltNum y ≠ 0) :
    RoundsTo (fltNum x + fltNum y) (fltAdd false x y) := by
  by_cases hx0 : fld x 30 23 = 0
  · rw [fltNum_zero hx0, zero_add] at hz ⊢
    by_cases hy0 : fld y 30 23 = 0
    · exact absurd (fltNum_zero hy0) hz
    · have sum : fltAdd false x y = (y, 0) := by
        simp only [fltAdd, fltOf_zero hx0, fltOf_fin hy hy0, Bool.false_eq_true, if_false, fltWord_fin hy hy0]
      rw [sum]
      exact word_rounds hy hy0
  · by_cases hy0 : fld y 30 23 = 0
    · have sum : fltAdd false x y = (x, 0) := by
        simp only [fltAdd, fltOf_zero hy0, fltOf_fin hx hx0, Bool.false_eq_true, if_false, fltWord_fin hx hx0]
      rw [sum, fltNum_zero hy0, add_zero]
      exact word_rounds hx hx0
    · obtain ⟨n, base, sum, value⟩ := fltAdd_fin hx hx0 hy hy0
      rw [value] at hz ⊢
      rw [sum]
      exact fltInt_rounds (fun e => hz (by rw [e]; simp)) _ _

theorem fltAdd_zero (hx : fld x 30 23 ≠ 255) (hy : fld y 30 23 ≠ 255) (hz : fltNum x + fltNum y = 0) : fltAdd false x y =
    (if fld x 30 23 = 0 ∧ fld y 30 23 = 0 ∧ x.msb = true ∧ y.msb = true then 0x80000000 else 0, 0) := by
  by_cases hx0 : fld x 30 23 = 0
  · by_cases hy0 : fld y 30 23 = 0
    · simp only [fltAdd, fltOf_zero hx0, fltOf_zero hy0, Bool.false_eq_true, if_false, hx0, hy0, true_and]
      cases x.msb <;> cases y.msb <;> rfl
    · rw [fltNum_zero hx0, zero_add] at hz
      exact absurd hz (fltNum_ne_zero hy hy0)
  · by_cases hy0 : fld y 30 23 = 0
    · rw [fltNum_zero hy0, add_zero] at hz
      exact absurd hz (fltNum_ne_zero hx hx0)
    · obtain ⟨n, base, sum, value⟩ := fltAdd_fin hx hx0 hy hy0
      have hn : n = 0 := by
        rw [value] at hz
        exact_mod_cast (mul_eq_zero.mp hz).resolve_right (two_zpow_pos base).ne'
      rw [sum, hn, if_neg fun h => hx0 h.1]
      rfl

theorem fltMul_nan (h : (fld x 30 23 = 255 ∧ fld x 22 0 ≠ 0) ∨ (fld y 30 23 = 255 ∧ fld y 22 0 ≠ 0)) :
    fltMul x y = (fltNan, 0) := by
  rcases h with h | h
  · simp only [fltMul, fltOf_nan h]
  · simp only [fltMul, fltOf_nan h]
    cases fltOf x <;> rfl

theorem fltMul_rounds (hx : fld x 30 23 ≠ 255) (hy : fld y 30 23 ≠ 255) (hz : fltNum x * fltNum y ≠ 0) :
    RoundsTo (fltNum x * fltNum y) (fltMul x y) := by
  have hx0 : fld x 30 23 ≠ 0 := fun e => hz (by rw [fltNum_zero e, zero_mul])
  have hy0 : fld y 30 23 ≠ 0 := fun e => hz (by rw [fltNum_zero e, mul_zero])
  have nx := fltOf_fin_normal hx hx0
  have ny := fltOf_fin_normal hy hy0
  rw [fltNum_fin hx hx0, fltNum_fin hy hy0, fltMul, fltOf_fin hx hx0, fltOf_fin hy hy0]
  generalize 2 ^ 23 + fld x 22 0 = m at nx
  generalize 2 ^ 23 + fld y 22 0 = n at ny
  generalize (fld x 30 23 : Int) - 150 = e at nx
  generalize (fld y 30 23 : Int) - 150 = d at ny
  obtain ⟨m1, -⟩ := nx
  obtain ⟨n1, -⟩ := ny
  have rounds := fltPack_rounds (x.msb ^^ y.msb) (num := m * n) (den := 1) (Nat.mul_pos (by omega) (by omega)) one_pos (e + d)
  have value : (Flt.fin x.msb m e).value * (Flt.fin y.msb n d).value =
      signed (x.msb ^^ y.msb) (((m * n : Nat) : Rat) / (1 : Nat) * 2 ^ (e + d)) := by
    rw [Flt.value, Flt.value, signed_mul, Nat.cast_one, div_one, Nat.cast_mul, zpow_add₀ (by norm_num), mul_mul_mul_comm]
  rw [value]
  exact rounds

theorem fltMul_zero (hx : fld x 30 23 ≠ 255) (hy : fld y 30 23 ≠ 255) (hz : fltNum x * fltNum y = 0) :
    fltMul x y = ((x ^^^ y) &&& 0x80000000, 0) := by
  rw [← fltZero_xor]
  by_cases hx0 : fld x 30 23 = 0
  · by_cases hy0 : fld y 30 23 = 0
    · simp only [fltMul, fltOf_zero hx0, fltOf_zero hy0]
    · simp only [fltMul, fltOf_zero hx0, fltOf_fin hy hy0]
  · by_cases hy0 : fld y 30 23 = 0
    · simp only [fltMul, fltOf_zero hy0, fltOf_fin hx hx0]
    · exact absurd hz (mul_ne_zero (fltNum_ne_zero hx hx0) (fltNum_ne_zero hy hy0))

/-- A word that is no NaN and not infinite is finite. -/
theorem inf_or_fin (hn : ¬(fld x 30 23 = 255 ∧ fld x 22 0 ≠ 0)) : (fld x 30 23 = 255 ∧ fld x 22 0 = 0) ∨ fld x 30 23 ≠ 255 := by
  omega

theorem fltMul_inf (hx : ¬(fld x 30 23 = 255 ∧ fld x 22 0 ≠ 0)) (hy : ¬(fld y 30 23 = 255 ∧ fld y 22 0 ≠ 0))
    (hi : (fld x 30 23 = 255 ∧ fld x 22 0 = 0) ∨ (fld y 30 23 = 255 ∧ fld y 22 0 = 0)) :
    fltMul x y = if fld x 30 23 = 0 ∨ fld y 30 23 = 0 then (fltNan, fFiv) else ((x ^^^ y) &&& 0x80000000 ||| 0x7F800000, 0) := by
  rw [← fltInf_xor]
  rcases inf_or_fin hx with ix | fx
  · have hx0 := ne_zero_of_inf ix
    by_cases hy0 : fld y 30 23 = 0
    · rw [if_pos (.inr hy0)]
      simp only [fltMul, fltOf_inf ix, fltOf_zero hy0]
    · rw [if_neg (not_or.mpr ⟨hx0, hy0⟩)]
      rcases inf_or_fin hy with iy | fy
      · simp only [fltMul, fltOf_inf ix, fltOf_inf iy]
      · simp only [fltMul, fltOf_inf ix, fltOf_fin fy hy0]
  · have iy := hi.resolve_left fun h => fx h.1
    by_cases hx0 : fld x 30 23 = 0
    · rw [if_pos (.inl hx0)]
      simp only [fltMul, fltOf_inf iy, fltOf_zero hx0]
    · rw [if_neg (not_or.mpr ⟨hx0, ne_zero_of_inf iy⟩)]
      simp only [fltMul, fltOf_inf iy, fltOf_fin fx hx0]

theorem fltDiv_nan (h : (fld x 30 23 = 255 ∧ fld x 22 0 ≠ 0) ∨ (fld y 30 23 = 255 ∧ fld y 22 0 ≠ 0)) :
    fltDiv x y = (fltNan, 0) := by
  rcases h with h | h
  · simp only [fltDiv, fltOf_nan h]
  · simp only [fltDiv, fltOf_nan h]
    cases fltOf x <;> rfl

theorem fltDiv_rounds (hx : fld x 30 23 ≠ 255) (hy : fld y 30 23 ≠ 255) (hx0 : fld x 30 23 ≠ 0) (hy0 : fld y 30 23 ≠ 0) :
    RoundsTo (fltNum x / fltNum y) (fltDiv x y) := by
  have nx := fltOf_fin_normal hx hx0
  have ny := fltOf_fin_normal hy hy0
  rw [fltNum_fin hx hx0, fltNum_fin hy hy0, fltDiv, fltOf_fin hx hx0, fltOf_fin hy hy0]
  generalize 2 ^ 23 + fld x 22 0 = m at nx
  generalize 2 ^ 23 + fld y 22 0 = n at ny
  generalize (fld x 30 23 : Int) - 150 = e at nx
  generalize (fld y 30 23 : Int) - 150 = d at ny
  obtain ⟨m1, -⟩ := nx
  obtain ⟨n1, -⟩ := ny
  have rounds := fltPack_rounds (x.msb ^^ y.msb) (num := m) (den := n) (by omega) (by omega) (e - d)
  have value : (Flt.fin x.msb m e).value / (Flt.fin y.msb n d).value = signed (x.msb ^^ y.msb) ((m : Rat) / n * 2 ^ (e - d)) := by
    rw [Flt.value, Flt.value, signed_div, zpow_sub₀ (by norm_num), mul_div_mul_comm]
  rw [value]
  exact rounds

theorem fltDiv_by_zero (hx : fld x 30 23 ≠ 255) (hx0 : fld x 30 23 ≠ 0) (hy0 : fld y 30 23 = 0) :
    fltDiv x y = ((x ^^^ y) &&& 0x80000000 ||| 0x7F800000, fFdz) := by
  simp only [fltDiv, fltOf_fin hx hx0, fltOf_zero hy0, fltInf_xor]

theorem fltDiv_zero_zero (hx0 : fld x 30 23 = 0) (hy0 : fld y 30 23 = 0) : fltDiv x y = (fltNan, fFiv) := by
  simp only [fltDiv, fltOf_zero hx0, fltOf_zero hy0]

theorem fltDiv_zero (hx0 : fld x 30 23 = 0) (hy0 : fld y 30 23 ≠ 0) (hy : ¬(fld y 30 23 = 255 ∧ fld y 22 0 ≠ 0)) :
    fltDiv x y = ((x ^^^ y) &&& 0x80000000, 0) := by
  rw [← fltZero_xor]
  rcases inf_or_fin hy with iy | fy
  · simp only [fltDiv, fltOf_zero hx0, fltOf_inf iy]
  · simp only [fltDiv, fltOf_zero hx0, fltOf_fin fy hy0]

theorem fltDiv_inf (hx : fld x 30 23 = 255 ∧ fld x 22 0 = 0) (hy : ¬(fld y 30 23 = 255 ∧ fld y 22 0 ≠ 0)) : fltDiv x y =
    if fld y 30 23 = 255 ∧ fld y 22 0 = 0 then (fltNan, fFiv) else ((x ^^^ y) &&& 0x80000000 ||| 0x7F800000, 0) := by
  rw [← fltInf_xor]
  rcases inf_or_fin hy with iy | fy
  · rw [if_pos iy]
    simp only [fltDiv, fltOf_inf hx, fltOf_inf iy]
  · rw [if_neg fun h => fy h.1]
    by_cases hy0 : fld y 30 23 = 0
    · simp only [fltDiv, fltOf_inf hx, fltOf_zero hy0]
    · simp only [fltDiv, fltOf_inf hx, fltOf_fin fy hy0]

theorem fltDiv_by_inf (hx : fld x 30 23 ≠ 255) (hy : fld y 30 23 = 255 ∧ fld y 22 0 = 0) :
    fltDiv x y = ((x ^^^ y) &&& 0x80000000, 0) := by
  rw [← fltZero_xor]
  by_cases hx0 : fld x 30 23 = 0
  · simp only [fltDiv, fltOf_zero hx0, fltOf_inf hy]
  · simp only [fltDiv, fltOf_fin hx hx0, fltOf_inf hy]

theorem fltOf_ne_nan (hx : ¬(fld x 30 23 = 255 ∧ fld x 22 0 ≠ 0)) : fltOf x ≠ .nan := by
  rcases inf_or_fin hx with ix | fx
  · rw [fltOf_inf ix]; exact Flt.noConfusion
  · by_cases h0 : fld x 30 23 = 0
    · rw [fltOf_zero h0]; exact Flt.noConfusion
    · rw [fltOf_fin fx h0]; exact Flt.noConfusion

theorem fltNan?_of (hx : ¬(fld x 30 23 = 255 ∧ fld x 22 0 ≠ 0)) : fltNan? (fltOf x) = false := by
  have h := fltOf_ne_nan hx
  cases e : fltOf x with
  | nan => exact absurd e h
  | inf | zero | fin => rfl

theorem fltLt_word (hx : ¬(fld x 30 23 = 255 ∧ fld x 22 0 ≠ 0)) (hy : ¬(fld y 30 23 = 255 ∧ fld y 22 0 ≠ 0)) :
    fltLt (fltOf x) (fltOf y) = true ↔ fltNum x < fltNum y := by
  rw [fltNum_eq hx, fltNum_eq hy]
  exact fltLt_iff (fltOf_normal x) (fltOf_normal y) (fltOf_ne_nan hx) (fltOf_ne_nan hy)

theorem fltCmp_nan (h : (fld x 30 23 = 255 ∧ fld x 22 0 ≠ 0) ∨ (fld y 30 23 = 255 ∧ fld y 22 0 ≠ 0)) (op : Fin 4) :
    fltCmp op x y = Decidable.decide (op = 3) := by
  have un : (fltNan? (fltOf x) || fltNan? (fltOf y)) = true := by
    rcases h with h | h <;> rw [fltOf_nan h]
    · rfl
    · exact Bool.or_true _
  fin_cases op <;> simp [fltCmp, un]

theorem fltCmp_num (hx : ¬(fld x 30 23 = 255 ∧ fld x 22 0 ≠ 0)) (hy : ¬(fld y 30 23 = 255 ∧ fld y 22 0 ≠ 0)) :
    (fltCmp 0 x y = true ↔ fltNum x = fltNum y) ∧ (fltCmp 1 x y = true ↔ fltNum x < fltNum y) ∧
    (fltCmp 2 x y = true ↔ fltNum x ≤ fltNum y) ∧ fltCmp 3 x y = false := by
  have un : (fltNan? (fltOf x) || fltNan? (fltOf y)) = false := by rw [fltNan?_of hx, fltNan?_of hy]; rfl
  have xy := fltLt_word hx hy
  have yx := fltLt_word hy hx
  refine ⟨?_, ?_, ?_, ?_⟩
  · simp only [fltCmp, un, Bool.not_false, Bool.true_and, Bool.and_eq_true, Bool.not_eq_true', ← Bool.not_eq_true, xy, yx, not_lt]
    exact ⟨fun h => le_antisymm h.2 h.1, fun h => ⟨h.ge, h.le⟩⟩
  · simp only [fltCmp, un, Bool.not_false, Bool.true_and, xy]
  · simp only [fltCmp, un, Bool.not_false, Bool.true_and, Bool.not_eq_true', ← Bool.not_eq_true, yx, not_lt]
  · simp only [fltCmp, un]

end operations
/-! ### Sign, minimum and maximum -/

section misc
variable {x y : Word}

theorem fltNeg_neg (f : Flt) : fltNeg (fltNeg f) = f := by cases f <;> simp [fltNeg]

theorem fltWord_zero (h : fld x 30 23 = 0) : fltWord (fltOf x) = x &&& 0x80000000 := by
  rw [fltOf_zero h]
  exact fltZero_msb_eq x

theorem fltWord_nan (h : fld x 30 23 = 255 ∧ fld x 22 0 ≠ 0) : fltWord (fltOf x) = fltNan := by rw [fltOf_nan h]; rfl

theorem fltNum_neg (hx : ¬(fld x 30 23 = 255 ∧ fld x 22 0 ≠ 0)) : fltNum (x ^^^ 0x80000000) = -fltNum x := by
  rw [fltNum_eq (by rwa [neg_exp, neg_frac]), fltNum_eq hx, fltOf_neg, Flt.value_neg]

/-- The sign of a number other than zero. -/
theorem fltNum_sign (hx : ¬(fld x 30 23 = 255 ∧ fld x 22 0 ≠ 0)) (h0 : fld x 30 23 ≠ 0) :
    (fltNum x < 0 ↔ x.msb = true) ∧ (0 < fltNum x ↔ x.msb = false) := by
  obtain ⟨r, hr, value⟩ : ∃ r : Rat, 0 < r ∧ fltNum x = signed x.msb r := by
    rcases inf_or_fin hx with ix | fx
    · exact ⟨2 ^ 200, by positivity, by rw [fltNum_eq hx, fltOf_inf ix]; rfl⟩
    · exact ⟨_, (fltOf_fin_normal fx h0).pos, fltNum_fin fx h0⟩
  rw [value]
  refine ⟨signed_neg_iff _ hr, ?_⟩
  rw [← neg_lt_zero, neg_signed, signed_neg_iff _ hr, Bool.not_eq_true']

theorem fltMisc_abs (hx : ¬(fld x 30 23 = 255 ∧ fld x 22 0 ≠ 0)) (h0 : fld x 30 23 ≠ 0) : fltMisc 0 x y = x &&& 0x7FFFFFFF := by
  have sign : (x &&& 0x7FFFFFFF).msb = false := by
    rw [BitVec.msb_and, show (0x7FFFFFFF : Word).msb = false from rfl, Bool.and_false]
  have exp : fld (x &&& 0x7FFFFFFF) 30 23 = fld x 30 23 := by
    rw [fld_and, show fld (0x7FFFFFFF : Word) 30 23 = 2 ^ 8 - 1 from rfl, Nat.and_two_pow_sub_one_eq_mod]
    exact Nat.mod_eq_of_lt (fld_lt x 30 23)
  have frac : fld (x &&& 0x7FFFFFFF) 22 0 = fld x 22 0 := by
    rw [fld_and, show fld (0x7FFFFFFF : Word) 22 0 = 2 ^ 23 - 1 from rfl, Nat.and_two_pow_sub_one_eq_mod]
    exact Nat.mod_eq_of_lt (fld_lt x 22 0)
  have value := fltWord_fltOf (w := x &&& 0x7FFFFFFF) (by rwa [exp, frac]) (by rwa [exp])
  rcases inf_or_fin hx with ix | fx
  · rw [fltOf_inf (by rwa [exp, frac]), sign] at value
    simp only [fltMisc, fltOf_inf ix]
    exact value
  · rw [fltOf_fin (by rwa [exp]) (by rwa [exp]), sign, exp, frac] at value
    simp only [fltMisc, fltOf_fin fx h0]
    exact value

theorem fltMisc_negate (y : Word) : fltMisc 1 x y = fltWord (fltOf (x ^^^ 0x80000000)) := by rw [fltOf_neg]; rfl

theorem fltMin_num {f g : Flt} (hf : f ≠ .nan) (hg : g ≠ .nan) (hz : ∀ s t, f = .zero s → g ≠ .zero t) :
    fltMin f g = if fltLt g f then g else f := by
  cases f with
  | nan => exact absurd rfl hf
  | zero s => cases g with
    | nan => exact absurd rfl hg
    | zero t => exact absurd rfl (hz s t rfl)
    | inf t => rfl
    | fin t n d => rfl
  | inf s => cases g with
    | nan => exact absurd rfl hg
    | inf | zero | fin => rfl
  | fin s m e => cases g with
    | nan => exact absurd rfl hg
    | inf | zero | fin => rfl

theorem fltMin_nan (f : Flt) : fltMin f .nan = f := by cases f <;> rfl

theorem exp_of_fltOf_zero {s : Bool} (h : fltOf x = .zero s) : fld x 30 23 = 0 := by
  unfold fltOf at h
  dsimp only at h
  split at h
  · split at h <;> exact Flt.noConfusion h
  · split at h
    · assumption
    · exact Flt.noConfusion h

section num
variable (hx : ¬(fld x 30 23 = 255 ∧ fld x 22 0 ≠ 0)) (hy : ¬(fld y 30 23 = 255 ∧ fld y 22 0 ≠ 0))
  (hz : fld x 30 23 = 0 → fld y 30 23 ≠ 0)
include hx hy hz

theorem fltMisc_min : fltMisc 2 x y = if fltNum y < fltNum x then fltWord (fltOf y) else fltWord (fltOf x) := by
  have min := fltMin_num (fltOf_ne_nan hx) (fltOf_ne_nan hy) fun s t e e' => hz (exp_of_fltOf_zero e) (exp_of_fltOf_zero e')
  rw [fltMisc, min, apply_ite fltWord]
  exact if_congr (fltLt_word hy hx) rfl rfl

theorem fltMisc_max : fltMisc 3 x y = if fltNum x < fltNum y then fltWord (fltOf y) else fltWord (fltOf x) := by
  have hx' : ¬(fld (x ^^^ 0x80000000) 30 23 = 255 ∧ fld (x ^^^ 0x80000000) 22 0 ≠ 0) := by rwa [neg_exp, neg_frac]
  have hy' : ¬(fld (y ^^^ 0x80000000) 30 23 = 255 ∧ fld (y ^^^ 0x80000000) 22 0 ≠ 0) := by rwa [neg_exp, neg_frac]
  have min := fltMin_num (fltOf_ne_nan hx') (fltOf_ne_nan hy') fun s t e e' =>
    hz (neg_exp x ▸ exp_of_fltOf_zero e) (neg_exp y ▸ exp_of_fltOf_zero e')
  rw [fltMisc, ← fltOf_neg, ← fltOf_neg, min, apply_ite fltNeg, apply_ite fltWord, fltOf_neg, fltOf_neg, fltNeg_neg, fltNeg_neg,
    ← fltOf_neg, ← fltOf_neg]
  refine if_congr ((fltLt_word hy' hx').trans ?_) rfl rfl
  rw [fltNum_neg hx, fltNum_neg hy, neg_lt_neg_iff]

end num

theorem fltMisc_zeros (hx : fld x 30 23 = 0) (hy : fld y 30 23 = 0) :
    fltMisc 2 x y = (x ||| y) &&& 0x80000000 ∧ fltMisc 3 x y = (x &&& y) &&& 0x80000000 := by
  rw [← fltZero_msb_eq, ← fltZero_msb_eq, BitVec.msb_or, BitVec.msb_and]
  simp only [fltMisc, fltOf_zero hx, fltOf_zero hy]
  cases x.msb <;> cases y.msb <;> exact ⟨rfl, rfl⟩

theorem fltMisc_nan_left (hx : fld x 30 23 = 255 ∧ fld x 22 0 ≠ 0) :
    fltMisc 2 x y = fltWord (fltOf y) ∧ fltMisc 3 x y = fltWord (fltOf y) := by
  simp only [fltMisc, fltOf_nan hx]
  exact ⟨rfl, congrArg fltWord (fltNeg_neg _)⟩

theorem fltMisc_nan_right (hy : fld y 30 23 = 255 ∧ fld y 22 0 ≠ 0) :
    fltMisc 2 x y = fltWord (fltOf x) ∧ fltMisc 3 x y = fltWord (fltOf x) := by
  simp only [fltMisc, fltOf_nan hy]
  exact ⟨congrArg fltWord (fltMin_nan _), congrArg fltWord ((congrArg fltNeg (fltMin_nan _)).trans (fltNeg_neg _))⟩

end misc

theorem fltSqrt_nan {x : Word} (h : fld x 30 23 = 255 ∧ fld x 22 0 ≠ 0) : fltSqrt x = (fltNan, 0) := by simp only [fltSqrt, fltOf_nan h]

theorem fltSqrt_neg {x : Word} (hs : x.msb = true) (hn : ¬(fld x 30 23 = 255 ∧ fld x 22 0 ≠ 0)) (h0 : fld x 30 23 ≠ 0) :
    fltSqrt x = (fltNan, fFiv) := by
  rcases inf_or_fin hn with ix | fx
  · simp only [fltSqrt, fltOf_inf ix, hs, if_true]
  · simp only [fltSqrt, fltOf_fin fx h0, hs, if_true]

theorem fltSqrt_zero {x : Word} (h : fld x 30 23 = 0) : fltSqrt x = (x &&& 0x80000000, 0) := by
  simp only [fltSqrt, fltOf_zero h, fltZero_msb_eq]

theorem fltSqrt_inf {x : Word} (h : fld x 30 23 = 255 ∧ fld x 22 0 = 0) (hs : x.msb = false) : fltSqrt x = (x, 0) := by
  have e := fltInf_of h
  rw [hs] at e
  simp only [fltSqrt, fltOf_inf h, hs, Bool.false_eq_true, if_false, e]

theorem fltCvt_nan {x : Word} (h : fld x 30 23 = 255 ∧ fld x 22 0 ≠ 0) : fltCvt 1 x = (0, fFiv) ∧ fltCvt 3 x = (0, fFiv) := by
  simp only [fltCvt, fltToInt, fltOf_nan h]
  exact ⟨rfl, rfl⟩

theorem fltCvt_inf {x : Word} (h : fld x 30 23 = 255 ∧ fld x 22 0 = 0) :
    fltCvt 1 x = (if x.msb then 0x80000000 else 0x7FFFFFFF, fSat) ∧ fltCvt 3 x = (if x.msb then 0xFFFF8000 else 0x7FFF, fSat) := by
  simp only [fltCvt, fltToInt, fltOf_inf h]
  cases x.msb <;> exact ⟨rfl, rfl⟩

/-- Settles O14: each operation by the kinds of its operands; a finite result by the rounding of `fltPack`. -/
theorem coithBinary32 : Obligations.CoithBinary32 := by
  intro s k d a b sub op h x y nan inf zero fin runs rounds converts bool qnan pinf msb sign y' num den z q
  have add {r : Word × Sticky} (hr : fltAdd false x y' = r) : runs (.coithFadd k d a b sub) r :=
    runs_of_put h (exec_coithFadd ..) ((fltAdd_sub sub x y).trans hr)
  have mul {r : Word × Sticky} (hr : fltMul x y = r) : runs (.coithFmul k d a b) r := runs_of_put h (exec_coithFmul ..) hr
  have div {r : Word × Sticky} (hr : fltDiv x y = r) : runs (.coithFdiv k d a b) r := runs_of_put h (exec_coithFdiv ..) hr
  have sqrt {r : Word × Sticky} (hr : fltSqrt x = r) : runs (.coithFsqrt k d a) r := runs_of_put h (exec_coithFsqrt ..) hr
  have cvt {o : Fin 4} {r : Word × Sticky} (hr : fltCvt o x = r) : runs (.coithFcvt k d a o) r := runs_of_put h (exec_coithFcvt ..) hr
  have cmp {o : Fin 4} {v : Bool} {w : Word} (hw : boolWord v = w) (hr : fltCmp o x y = v) : runs (.coithFcmp k d a b o) (w, 0) :=
    runs_of_setReg h (exec_coithFcmp ..) ((congrArg boolWord hr).trans hw)
  have misc {o : Fin 4} {r : Word} (hr : fltMisc o x y = r) : runs (.coithFmisc k d a b o) (r, 0) :=
    runs_of_setReg h (exec_coithFmisc ..) hr
  have compares {p : Prop} {o : Fin 4} (hp : fltCmp o x y = true ↔ p) : bool p (.coithFcmp k d a b o) :=
    ⟨fun hp' => cmp rfl (hp.mpr hp'), fun hp' => cmp rfl (Bool.eq_false_iff.mpr (mt hp.mp hp'))⟩
  have exp' : fld y' 30 23 = fld y 30 23 := by unfold y'; split <;> [exact neg_exp y; rfl]
  have frac' : fld y' 22 0 = fld y 22 0 := by unfold y'; split <;> [exact neg_frac y; rfl]
  refine ⟨?nan, ?order, ?sum, ?infLeft, ?infRight, ?product, ?productInf, ?quotient, ?byZero, ?zeroByZero, ?zeroBy, ?infBy, ?byInf,
    ?nanRoot, ?negRoot, ?zeroRoot, ?infRoot, ?root, ?int, ?intZero, ?q15, ?q15Zero, ?toInt, ?infToInt, ?sign, ?signZero, ?signNan,
    ?nans, ?numbers, ?zeros, ?nanRight, ?nanLeft, ?zeroLeft, ?zeroRight, ?zeroNan, ?nanZero⟩
  case quotient => exact fun hx hy hx0 hy0 => ⟨_, fltDiv_rounds hx hy hx0 hy0, div rfl⟩
  case byZero => exact fun hx hx0 hy0 => div (fltDiv_by_zero hx hx0 hy0)
  case zeroByZero => exact fun hx0 hy0 => div (fltDiv_zero_zero hx0 hy0)
  case zeroBy => exact fun hx0 hy0 hy => div (fltDiv_zero hx0 hy0 hy)
  case infBy => exact fun hx hy => div (fltDiv_inf hx hy)
  case byInf => exact fun hx hy => div (fltDiv_by_inf hx hy)
  case nanRoot => exact fun hx => ⟨sqrt (fltSqrt_nan hx), cvt (fltCvt_nan hx).1, cvt (fltCvt_nan hx).2⟩
  case negRoot => exact fun hs hn h0 => sqrt (fltSqrt_neg hs hn h0)
  case zeroRoot => exact fun h0 => sqrt (fltSqrt_zero h0)
  case infRoot => exact fun hi hs => sqrt (fltSqrt_inf hi hs)
  case infToInt => exact fun hi => ⟨cvt (fltCvt_inf hi).1, cvt (fltCvt_inf hi).2⟩
  case zeros => exact fun hx hy => ⟨misc (fltMisc_zeros hx hy).1, misc (fltMisc_zeros hx hy).2⟩
  case nan =>
    intro hn
    refine ⟨add (fltAdd_nan ?_), mul (fltMul_nan hn), div (fltDiv_nan hn), ?_⟩
    · rwa [exp', frac']
    · refine cmp ?_ (fltCmp_nan hn op)
      rw [boolWord]
      simp only [decide_eq_true_eq]
  case order =>
    intro hx hy
    obtain ⟨eq, lt, le, un⟩ := fltCmp_num hx hy
    exact ⟨compares eq, compares lt, compares le, cmp rfl un⟩
  case sum =>
    intro hx hy
    have hy' : fld y' 30 23 ≠ 255 := by rwa [exp']
    refine ⟨fun hz => ⟨_, fltAdd_rounds hx hy' hz, add rfl⟩, fun hz => ?_⟩
    have e := fltAdd_zero hx hy' hz
    rw [exp'] at e
    exact add e
  case infLeft =>
    intro hx hy
    have e := fltAdd_inf_left hx (y := y') (by rwa [exp', frac'])
    rw [exp', frac'] at e
    exact add e
  case infRight =>
    intro hy hx
    exact add (fltAdd_inf_right hx (by rwa [exp', frac']))
  case product => exact fun hx hy => ⟨fun hz => ⟨_, fltMul_rounds hx hy hz, mul rfl⟩, fun hz => mul (fltMul_zero hx hy hz)⟩
  case productInf => exact fun hx hy hi => mul (fltMul_inf hx hy hi)
  case root =>
    intro hx h0 hs
    obtain ⟨r, hr, sign, exp, exp0, lo, hi⟩ := fltSqrt_spec hx h0 hs
    exact ⟨r, sqrt hr, sign, exp, exp0, lo, hi⟩
  case int =>
    intro hx
    have e := fltInt_rounds (z := x.toInt) (fun e => hx (BitVec.toInt_inj.mp e)) false 0
    rw [zpow_zero, mul_one] at e
    exact ⟨_, e, cvt rfl⟩
  case intZero =>
    intro hx
    exact cvt (by rw [hx]; rfl)
  case q15 =>
    intro hx
    have e := fltInt_rounds hx false (-15)
    rw [show (2 : Rat) ^ (-15 : Int) = 1 / 32768 by norm_num, mul_one_div] at e
    exact ⟨_, e, cvt (congrArg (fun n => fltInt false n (-15)) (s16_eq x))⟩
  case q15Zero =>
    intro hx
    refine cvt ?_
    have e : s16 x = 0 := (s16_eq x).trans hx
    simp only [fltCvt, e]
    rfl
  case toInt =>
    intro hx
    constructor
    · obtain ⟨n, near, e⟩ := fltToInt_converts hx 0 (lo := int32Min) (hi := int32Max) (by decide) (by decide)
      rw [pow_zero, mul_one] at near
      refine ⟨n, near, cvt ?_⟩
      simp only [fltCvt, e]
      rfl
    · obtain ⟨n, near, e⟩ := fltToInt_converts hx 15 (lo := int16Min) (hi := int16Max) (by decide) (by decide)
      rw [show (2 : Rat) ^ 15 = 32768 by norm_num] at near
      refine ⟨n, near, cvt ?_⟩
      simp only [fltCvt, e]
      rfl
  case sign =>
    intro hx h0
    refine ⟨misc (fltMisc_abs hx h0), misc ?_⟩
    rw [fltMisc_negate, fltWord_fltOf (by rwa [neg_exp, neg_frac]) (by rwa [neg_exp])]
  case signZero =>
    intro h0
    refine ⟨misc ?_, misc ?_⟩
    · simp only [fltMisc, fltOf_zero h0]
      rfl
    · rw [fltMisc_negate, fltWord_zero (by rwa [neg_exp]), ← fltZero_msb_eq, neg_msb]
      change fltZero (!x.msb) = (x &&& 0x80000000) ^^^ 0x80000000
      rw [← fltZero_msb_eq]
      cases x.msb <;> rfl
  case signNan =>
    intro hn
    refine ⟨misc ?_, misc ?_⟩
    · simp only [fltMisc, fltOf_nan hn]
      rfl
    · rw [fltMisc_negate, fltWord_nan (by rwa [neg_exp, neg_frac])]
      rfl
  case nans =>
    intro hx hy
    obtain ⟨e2, e3⟩ := fltMisc_nan_left (y := y) hx
    rw [fltWord_nan hy] at e2 e3
    exact ⟨misc e2, misc e3⟩
  case numbers =>
    intro hx hy hx0 hy0
    have e2 := fltMisc_min hx hy fun e => absurd e hx0
    have e3 := fltMisc_max hx hy fun e => absurd e hx0
    rw [fltWord_fltOf hx hx0, fltWord_fltOf hy hy0] at e2 e3
    exact ⟨misc e2, misc e3⟩
  case nanRight =>
    intro hy hx hx0
    obtain ⟨e2, e3⟩ := fltMisc_nan_right (x := x) hy
    rw [fltWord_fltOf hx hx0] at e2 e3
    exact ⟨misc e2, misc e3⟩
  case nanLeft =>
    intro hx hy hy0
    obtain ⟨e2, e3⟩ := fltMisc_nan_left (y := y) hx
    rw [fltWord_fltOf hy hy0] at e2 e3
    exact ⟨misc e2, misc e3⟩
  case zeroLeft =>
    intro hx0 hy0 hy
    have hx : ¬nan x := fun e => by have := e.1; omega
    have e2 := fltMisc_min hx hy fun _ => hy0
    have e3 := fltMisc_max hx hy fun _ => hy0
    obtain ⟨neg, pos⟩ := fltNum_sign hy hy0
    rw [fltNum_zero hx0, fltWord_zero hx0, fltWord_fltOf hy hy0] at e2 e3
    simp only [neg] at e2
    simp only [pos] at e3
    refine ⟨misc e2, misc (e3.trans ?_)⟩
    cases y.msb <;> rfl
  case zeroRight =>
    intro hy0 hx0 hx
    have hy : ¬nan y := fun e => by have := e.1; omega
    have e2 := fltMisc_min hx hy fun e => absurd e hx0
    have e3 := fltMisc_max hx hy fun e => absurd e hx0
    obtain ⟨neg, pos⟩ := fltNum_sign hx hx0
    rw [fltNum_zero hy0, fltWord_zero hy0, fltWord_fltOf hx hx0] at e2 e3
    simp only [pos] at e2
    simp only [neg] at e3
    refine ⟨misc (e2.trans ?_), misc e3⟩
    cases x.msb <;> rfl
  case zeroNan =>
    intro hx0 hy
    obtain ⟨e2, e3⟩ := fltMisc_nan_right (x := x) hy
    rw [fltWord_zero hx0] at e2 e3
    exact ⟨misc e2, misc e3⟩
  case nanZero =>
    intro hx hy0
    obtain ⟨e2, e3⟩ := fltMisc_nan_left (y := y) hx
    rw [fltWord_zero hy0] at e2 e3
    exact ⟨misc e2, misc e3⟩

end Sys2Proof.Machine
end

section
/-!
Entry into HOLD, and the bedrock operations
-/

namespace Sys2Proof.Machine

/-! ### What leaving RUN keeps -/

section
open Bench
@[simp] theorem Bench.accepted_bn (c : Cmd) (b : Bench) : (Bench.accepted c b).bn = b.bn := rfl
@[simp] theorem Bench.unready_bn (keep : StreamReady → Bool) (b : Bench) : (Bench.unready keep b).bn = b.bn := rfl
@[simp] theorem Bench.guardClip_bn (b : Bench) : (Bench.guardClip b).bn = b.bn := rfl
@[simp] theorem Bench.guardDelay_bn (b : Bench) : (Bench.guardDelay b).bn = b.bn := rfl
@[simp] theorem Bench.faceEvent_bn (bit : Nat) (d1 : Word) (b : Bench) : (Bench.faceEvent bit d1 b).bn = b.bn := by
  simp [Bench.faceEvent]
@[simp] theorem Bench.faceHear_bn (n : FaceNews) (b : Bench) : (Bench.faceHear n b).bn = b.bn := by
  simp only [Bench.faceHear]; (repeat' split) <;> simp
@[simp] theorem Bench.faceSay_bn (n : FaceNews) (b : Bench) : (Bench.faceSay n b).bn = b.bn := by
  unfold Bench.faceSay; split <;> simp
@[simp] theorem Bench.outFaultEval_bn (b : Bench) : (Bench.outFaultEval b).bn = b.bn := by
  simp only [Bench.outFaultEval]; (repeat' split) <;> simp
@[simp] theorem Bench.faceReport_bn (b : Bench) : (Bench.faceReport b).bn = b.bn := by
  unfold Bench.faceReport; split <;> simp
@[simp] theorem Bench.applyAo_bn (m : Fin 2) (slewed : Bool) (v : Int) (b : Bench) : (Bench.applyAo m slewed v b).bn = b.bn := by
  simp only [Bench.applyAo]; (repeat' split) <;> simp
@[simp] theorem Bench.faceConf_bn (b : Bench) : (Bench.faceConf b).bn = b.bn := by
  unfold Bench.faceConf; split <;> simp
@[simp] theorem Bench.faceSafe_bn (b : Bench) : (Bench.faceSafe b).bn = b.bn := by
  unfold Bench.faceSafe; split <;> simp
@[simp] theorem Bench.axisEvent_bn (a bit : Nat) (b : Bench) : (Bench.axisEvent a bit b).bn = b.bn := by
  simp [Bench.axisEvent]
@[simp] theorem Bench.axisLimited_bn (a : Nat) (on : Bool) (b : Bench) : (Bench.axisLimited a on b).bn = b.bn := by
  simp only [Bench.axisLimited]; (repeat' split) <;> simp
@[simp] theorem Bench.axisDce_bn (a : Nat) (d : AxisDce) (b : Bench) : (Bench.axisDce a d b).bn = b.bn := by
  unfold Bench.axisDce; split <;> simp
@[simp] theorem Bench.axisChange_bn (a : Nat) (c : AxisChange) (b : Bench) : (Bench.axisChange a c b).bn = b.bn := by
  unfold Bench.axisChange; split <;> simp
@[simp] theorem Bench.axisTake_bn (a t : Nat) (b : Bench) : (Bench.axisTake a t b).bn = b.bn := by
  simp [Bench.axisTake]
@[simp] theorem Bench.axisCompute_bn (a t : Nat) (b : Bench) : (Bench.axisCompute a t b).bn = b.bn := by
  unfold Bench.axisCompute; split <;> simp
@[simp] theorem Bench.axisQueue_bn (a : Nat) (c : AxisChange) (b : Bench) : (Bench.axisQueue a c b).bn = b.bn := by
  simp only [Bench.axisQueue]; (repeat' split) <;> simp
@[simp] theorem Bench.axisBegin_bn (a m : Nat) (x : Axis) (b : Bench) : (Bench.axisBegin a m x b).bn = b.bn := by
  unfold Bench.axisBegin; split <;> simp
@[simp] theorem Bench.axisPhase_bn (a m : Nat) (ph : HomePhase) (b : Bench) : (Bench.axisPhase a m ph b).bn = b.bn := by
  simp [Bench.axisPhase]
@[simp] theorem Bench.stopsDone_bn (b : Bench) : (Bench.stopsDone b).bn = b.bn := by
  simp [Bench.stopsDone]
@[simp] theorem Bench.axisRest_bn (a : Nat) (l : List AxisChange) (b : Bench) : (b.axisRest a l).bn = b.bn :=
  foldl_bn (fun b c => by cases c.par <;> rfl) l b
@[simp] theorem Bench.axisIdle_bn (a : Nat) (st : AxisState) (b : Bench) : (b.axisIdle a st).bn = b.bn := by
  unfold Bench.axisIdle
  extract_lets x evt b₁ b₂ b₃ b₄
  have h₃ : b₃.bn = b.bn := (foldl_bn (fun _ _ => completeTag_bn ..) _ b₂).trans (axisRest_bn ..)
  have h₄ : b₄.bn = b₃.bn := by unfold b₄; split <;> simp
  rw [stopsDone_bn, h₄, h₃]
@[simp] theorem Bench.axisDoubt_bn (a : Nat) (b : Bench) : (Bench.axisDoubt a b).bn = b.bn := by
  simp only [Bench.axisDoubt]; (repeat' split) <;> simp
@[simp] theorem Bench.axisStops_bn (a : Nat) (b : Bench) : (Bench.axisStops a b).bn = b.bn := by
  simp only [Bench.axisStops]; (repeat' split) <;> simp
@[simp] theorem Bench.axisHard_bn (a : Nat) (b : Bench) : (Bench.axisHard a b).bn = b.bn := by
  simp only [Bench.axisHard]; (repeat' split) <;> simp
@[simp] theorem Bench.axisRamp_bn (a : Nat) (st : AxisState) (after : HomePhase) (b : Bench) : (Bench.axisRamp a st after b).bn = b.bn := by
  simp only [Bench.axisRamp]; (repeat' split) <;> simp
@[simp] theorem Bench.motionLeave_bn (b : Bench) : (Bench.motionLeave b).bn = b.bn := by
  simp [Bench.motionLeave, apply_ite Bench.bn]
@[simp] theorem Bench.axisStopOne_bn (hard : Bool) (a : Nat) (b : Bench) : (Bench.axisStopOne hard a b).bn = b.bn := by
  simp only [Bench.axisStopOne]; (repeat' split) <;> simp
@[simp] theorem Bench.fifoPush_bn (n : Fin 32) (w : Word) (eop : Bool) (b : Bench) : (Bench.fifoPush n w eop b).bn = b.bn := by
  simp only [Bench.fifoPush]; (repeat' split) <;> simp
@[simp] theorem Bench.fifoPushAll_bn (n : Fin 32) (ws : List Word) (b : Bench) : (Bench.fifoPushAll n ws b).bn = b.bn := by
  fun_induction Bench.fifoPushAll n ws b <;> simp_all
@[simp] theorem Bench.fifoPacket_bn (n : Fin 32) (cls : Nat) (ws : List Word) (b : Bench) : (Bench.fifoPacket n cls ws b).bn = b.bn := by
  simp only [Bench.fifoPacket]; (repeat' split) <;> simp
@[simp] theorem Bench.count_bn (n : Fin 10) (b : Bench) : (Bench.count n b).bn = b.bn := rfl
@[simp] theorem Bench.cancelItems_bn (k : Nat) (b : Bench) : (Bench.cancelItems k b).bn = b.bn := rfl
@[simp] theorem Bench.spoil_bn (n : Fin 10) (b : Bench) : (Bench.spoil n b).bn = b.bn := by
  simp only [Bench.spoil]; (repeat' split) <;> simp
@[simp] theorem Bench.enqueue_bn (i : Item) (b : Bench) : (Bench.enqueue i b).bn = b.bn := by
  unfold Bench.enqueue; split <;> simp
@[simp] theorem Bench.post_bn (i : Item) (b : Bench) : (Bench.post i b).2.bn = b.bn := by
  simp only [Bench.post]; (repeat' split) <;> simp
@[simp] theorem Bench.mergeSticky_bn (c : Core) (b : Bench) : (Bench.mergeSticky c b).bn = b.bn := by
  unfold Bench.mergeSticky; split <;> simp
@[simp] theorem Bench.spoilHeld_bn (i : Item) (b : Bench) : (Bench.spoilHeld i b).bn = b.bn := by
  unfold Bench.spoilHeld
  split
  · exact foldl_keeps (g := fun b : Bench => b.bn) (fun b n => by split <;> rfl) _ _
  · rfl
@[simp] theorem Bench.stopCore_bn (b : Bench) (k : Fin 4) : (Bench.stopCore b k).bn = b.bn := by
  simp [Bench.stopCore]
@[simp] theorem Bench.faultStop_bn (b : Bench) (k : Fin 4) : (Bench.faultStop b k).bn = b.bn := by
  simp only [Bench.faultStop]; (repeat' split) <;> simp
@[simp] theorem Bench.schedStop_bn (b : Bench) : (b.schedStop).bn = b.bn := by
  unfold Bench.schedStop
  extract_lets b₁ items b₂
  have h₂ : b₂.bn = b.bn :=
    (foldl_bn (fun _ _ => endHostItem_bn ..) _ _).trans ((cancelItems_bn ..).trans (foldl_bn (fun _ _ => faultStop_bn ..) _ b))
  exact h₂
@[simp] theorem Bench.restSupply_bn (b : Bench) : (Bench.restSupply b).bn = b.bn := by
  unfold Bench.restSupply; split <;> simp
@[simp] theorem Bench.arbitrate_bn (p : Nat) (b : Bench) : (Bench.arbitrate p b).bn = b.bn := by
  unfold Bench.arbitrate; split <;> simp
@[simp] theorem Bench.commitForce_bn (i : Nat) (en : Bool) (p : Nat) (v : Word) (b : Bench) :
    (b.commitForce i en p v).bn = b.bn := by
  unfold Bench.commitForce
  extract_lets old bad
  split
  extract_lets b₁ src b₂ b₃ b₄ b₅ dup b₆
  have h₂ : b₂.bn = b.bn := by unfold b₂; split <;> rfl
  have h₃ : b₃.bn = b₂.bn := by simp [b₃]
  have h₄ : b₄.bn = b₃.bn := by
    unfold b₄
    split
    · rfl
    · exact foldl_bn (fun _ _ => by rfl) _ _
  have h₆ : b₆.bn = b₄.bn := by unfold b₆; split <;> simp [b₅]
  rw [errorCause_bn, h₆, h₄, h₃, h₂]
@[simp] theorem Bench.applyHeld_bn (l : List (Nat × Word × Word)) (b : Bench) : (Bench.applyHeld l b).bn = b.bn := by
  fun_induction Bench.applyHeld l b <;> simp_all
@[simp] theorem Bench.endChange_bn (c : Change) (b : Bench) : (Bench.endChange c b).bn = b.bn := by
  simp [Bench.endChange]
@[simp] theorem Bench.cancelChange_bn (b : Bench) : (Bench.cancelChange b).bn = b.bn := by
  unfold Bench.cancelChange; (repeat' split) <;> simp
@[simp] theorem Bench.canSlot_bn (k : Fin 2) (a : Nat) (r : List Word × Bench) (p : Nat) : (Bench.canSlot k a r p).2.bn = r.2.bn := by
  unfold Bench.canSlot
  dsimp only
  split <;> simp
@[simp] theorem Bench.objData_bn (k : Fin 2) (n a : Nat) (live : Bool) (b : Bench) : (b.objData k n a live).2.bn = b.bn := by
  unfold Bench.objData
  dsimp only
  split
  · exact foldl_snd_bn (fun _ _ => canSlot_bn ..) _ _
  · rfl
@[simp] theorem Bench.canLeaveRun_bn (b : Bench) : (b.canLeaveRun).bn = b.bn := by
  refine foldl_bn (fun b k => ?_) _ b
  dsimp only
  (repeat' split) <;> simp
@[simp] theorem Bench.canFromShadow_bn (b : Bench) : (Bench.canFromShadow b).bn = b.bn := rfl
@[simp] theorem Bench.reduce_bn (p : Nat) (e : Point) (b : Bench) : (Bench.reduce p e b).bn = b.bn := rfl
@[simp] theorem Bench.digestOne_bn (b : Bench) : (Bench.digestOne b).bn = b.bn := by
  simp only [Bench.digestOne]; (repeat' split) <;> simp
@[simp] theorem Bench.digestDrain_bn (e k : Nat) (b : Bench) : (Bench.digestDrain e k b).bn = b.bn := by
  fun_induction Bench.digestDrain e k b <;> simp_all
@[simp] theorem Bench.digestLate_bn (b : Bench) : (Bench.digestLate b).bn = b.bn := by
  simp only [Bench.digestLate]; (repeat' split) <;> simp
@[simp] theorem Bench.digestClose_bn (e : Nat) (cut cont : Bool) (next : Option (Nat × Nat)) (b : Bench) : (Bench.digestClose e cut cont next b).bn = b.bn := by
  simp only [Bench.digestClose]; (repeat' split) <;> simp
@[simp] theorem Bench.digestLeave_bn (b : Bench) : (Bench.digestLeave b).bn = b.bn := by
  unfold Bench.digestLeave; split <;> simp
@[simp] theorem Bench.setChan_bn (c : Fin 32) (x : KfChan) (b : Bench) : (Bench.setChan c x b).bn = b.bn := rfl
@[simp] theorem Bench.setUnit_bn (u : Fin 8) (x : KfUnit) (b : Bench) : (Bench.setUnit u x b).bn = b.bn := rfl
@[simp] theorem Bench.kerfEvent_bn (bit ch : Nat) (b : Bench) : (Bench.kerfEvent bit ch b).bn = b.bn := by
  simp [Bench.kerfEvent]
@[simp] theorem Bench.recordEnd_bn (ch : Fin 32) (why : Nat) (b : Bench) : (Bench.recordEnd ch why b).bn = b.bn := by
  simp only [Bench.recordEnd]; (repeat' split) <;> simp
@[simp] theorem Bench.chanStore_bn (ch : Fin 32) (e : Point) (b : Bench) : (Bench.chanStore ch e b).bn = b.bn := by
  simp only [Bench.chanStore]; (repeat' split) <;> simp
@[simp] theorem Bench.chanTrigger_bn (u : Nat) (time : Nat) (b : Bench) (ch : Fin 32) : (Bench.chanTrigger u time b ch).bn = b.bn := by
  simp only [Bench.chanTrigger]; (repeat' split) <;> simp
@[simp] theorem Bench.unitFire_bn (u : Fin 8) (time : Nat) (b : Bench) : (Bench.unitFire u time b).bn = b.bn := by
  simp only [Bench.unitFire]; (repeat' split) <;> simp
@[simp] theorem Bench.unitSample_bn (u : Fin 8) (fmt : Nat) (w : Word) (stamp : Nat) (b : Bench) : (Bench.unitSample u fmt w stamp b).bn = b.bn := by
  simp only [Bench.unitSample]; (repeat' split) <;> simp
@[simp] theorem Bench.kerfSample_bn (stype ctype src fmt : Nat) (good : Bool) (unitWord : KfUnit → Option Word) (e : Point)
    (b : Bench) : (b.kerfSample stype ctype src fmt good unitWord e).bn = b.bn := by
  unfold Bench.kerfSample
  refine (foldl_bn (fun b ch => ?channel) _ _).trans (foldl_bn (fun b u => ?unit) _ b)
  case channel => dsimp only; split <;> simp
  case unit => dsimp only; (repeat' split) <;> simp
@[simp] theorem Bench.kerfPoint_bn (b : Bench) : (b.kerfPoint).bn = b.bn := by
  unfold Bench.kerfPoint
  split
  · rfl
  · exact kerfSample_bn ..
@[simp] theorem Bench.kerfDrain_bn (k : Nat) (b : Bench) : (Bench.kerfDrain k b).bn = b.bn := by
  fun_induction Bench.kerfDrain k b <;> simp_all
@[simp] theorem Bench.chanStop_bn (why : Nat) (r : Nat × Bench) (ch : Fin 32) : (Bench.chanStop why r ch).2.bn = r.2.bn := by
  unfold Bench.chanStop
  dsimp only
  split <;> simp
@[simp] theorem Bench.kerfLeave_bn (b : Bench) : (b.kerfLeave).bn = b.bn := by
  unfold Bench.kerfLeave
  rw [foldl_snd_bn (chanStop_bn 3), kerfDrain_bn]
@[simp] theorem Bench.setWords_bn (n : Nat) (ws : List (Nat × Word)) (b : Bench) : (b.setWords n ws).bn = b.bn :=
  foldl_bn (fun _ _ => by rfl) ws b
@[simp] theorem Bench.loopAgain_bn (n : Nat) (l : Loop) (u : LoopUpdate) (b : Bench) : (Bench.loopAgain n l u b).bn = b.bn := by
  simp [Bench.loopAgain]
@[simp] theorem Bench.loopsLeave_bn (b : Bench) : (b.loopsLeave).bn = b.bn := by
  refine foldl_bn (fun b n => ?_) _ b
  dsimp only
  split <;> simp
@[simp] theorem Bench.setLane_bn (laneB : Bool) (l : Lane) (b : Bench) : (Bench.setLane laneB l b).bn = b.bn := rfl
@[simp] theorem Bench.quoinHard_bn (b : Bench) : (Bench.quoinHard b).bn = b.bn := by
  simp [Bench.quoinHard]
@[simp] theorem Bench.quoinRamp_bn (b : Bench) : (Bench.quoinRamp b).bn = b.bn := by
  simp [Bench.quoinRamp, apply_ite Bench.bn]
@[simp] theorem Bench.laneRun_bn (laneB : Bool) (k : Nat) (fell : Bool) (b : Bench) : (Bench.laneRun laneB k fell b).bn = b.bn := by
  induction k generalizing fell b with
  | zero => rfl
  | succ k ih => unfold Bench.laneRun; (repeat' split) <;> simp [ih, apply_ite Bench.bn]
@[simp] theorem Bench.ossdFollow_bn (b : Bench) : (Bench.ossdFollow b).bn = b.bn := rfl
@[simp] theorem Bench.activate_bn (b : Bench) : (Bench.activate b).bn = b.bn := by
  simp [Bench.activate, apply_ite Bench.bn]
@[simp] theorem Bench.inputTrack_bn (laneB : Bool) (b : Bench) : (Bench.inputTrack laneB b).bn = b.bn := rfl
@[simp] theorem Bench.startupTrack_bn (b : Bench) : (Bench.startupTrack b).bn = b.bn := by
  unfold Bench.startupTrack; split <;> simp
@[simp] theorem Bench.pressTrack_bn (b : Bench) : (Bench.pressTrack b).bn = b.bn := rfl
@[simp] theorem Bench.demandEval_bn (b : Bench) : (Bench.demandEval b).bn = b.bn := by
  simp [Bench.demandEval, apply_ite Bench.bn]
@[simp] theorem Bench.noteOut_bn (b : Bench) : (Bench.noteOut b).bn = b.bn := rfl
@[simp] theorem Bench.eachRecipe_bn {f : Fin 16 → Bench → Bench} (h : ∀ n b, (f n b).bn = b.bn) (b : Bench) :
    (b.eachRecipe f).bn = b.bn := foldl_bn (fun b n => h n b) _ b
@[simp] theorem Bench.recipesHold_bn (z : Nat) (b : Bench) : (b.recipesHold z).bn = b.bn :=
  eachRecipe_bn (fun n b => by dsimp only; split <;> rfl) b
@[simp] theorem Bench.modeEvent_bn (b : Bench) : (Bench.modeEvent b).bn = b.bn := by
  simp [Bench.modeEvent]
@[simp] theorem Bench.endHandover_bn (st : Status) (b : Bench) : (Bench.endHandover st b).bn = b.bn := by
  unfold Bench.endHandover; (repeat' split) <;> simp
@[simp] theorem Bench.leaveRun_bn (b : Bench) : (b.leaveRun).bn = b.bn := by
  unfold Bench.leaveRun
  dsimp only
  rw [schedStop_bn, endHandover_bn, cancelChange_bn, motionLeave_bn, loopsLeave_bn, digestLeave_bn, kerfLeave_bn]
@[simp] theorem Bench.leaveShadow_bn (b : Bench) : (Bench.leaveShadow b).bn = b.bn := rfl
@[simp] theorem Bench.notify_cls (n : Notice) (b : Bench) : (b.notify n).nl.cls = b.nl.cls := by
  unfold Bench.notify; split <;> rfl
@[simp] theorem Bench.setFlags_cls (n : Fin 64) (f : Word) (b : Bench) : (b.setFlags n f).nl.cls = b.nl.cls := rfl
@[simp] theorem Bench.store_cls (a n v : Nat) (b : Bench) : (b.store a n v).nl.cls = b.nl.cls := by
  change (b.nl.note a n).cls = _
  unfold Nalry.note; dsimp only; split <;> rfl
@[simp] theorem Bench.errorCause_cls (bit : Nat) (detail : Word) (b : Bench) : (b.errorCause bit detail).nl.cls = b.nl.cls := by
  simp only [Bench.errorCause]; (repeat' split) <;> simp
@[simp] theorem Bench.conflict_cls (p : Nat) (b : Bench) : (b.conflict p).nl.cls = b.nl.cls := errorCause_cls ..
@[simp] theorem Bench.writePoint_cls (src : Source) (p : Nat) (v : Word) (q : Half) (st : Time) (b : Bench) :
    (b.writePoint src p v q st).nl.cls = b.nl.cls := by
  unfold Bench.writePoint; (repeat' split) <;> simp
@[simp] theorem foldl_nl {α : Type} {f : Bench → α → Bench} (h : ∀ b a, (f b a).nl = b.nl) (l : List α) (b : Bench) :
    (l.foldl f b).nl = b.nl := foldl_keeps (g := fun b : Bench => b.nl) h l b
@[simp] theorem foldl_snd_nl {α β : Type} {f : β × Bench → α → β × Bench} (h : ∀ r a, (f r a).2.nl = r.2.nl) (l : List α)
    (r : β × Bench) : (l.foldl f r).2.nl = r.2.nl := foldl_keeps (g := fun r : β × Bench => r.2.nl) h l r
@[simp] theorem Bench.eachRecipe_nl {f : Fin 16 → Bench → Bench} (h : ∀ n b, (f n b).nl = b.nl) (b : Bench) :
    (b.eachRecipe f).nl = b.nl := foldl_nl (fun b n => h n b) _ b
@[simp] theorem Bench.recipesHold_nl (z : Nat) (b : Bench) : (b.recipesHold z).nl = b.nl :=
  eachRecipe_nl (fun n b => by dsimp only; split <;> rfl) b
@[simp] theorem foldl_cls {α : Type} {f : Bench → α → Bench} (h : ∀ b a, (f b a).nl.cls = b.nl.cls) (l : List α) (b : Bench) :
    (l.foldl f b).nl.cls = b.nl.cls := foldl_keeps (g := fun b : Bench => b.nl.cls) h l b
@[simp] theorem foldl_snd_cls {α β : Type} {f : β × Bench → α → β × Bench} (h : ∀ r a, (f r a).2.nl.cls = r.2.nl.cls) (l : List α)
    (r : β × Bench) : (l.foldl f r).2.nl.cls = r.2.nl.cls := foldl_keeps (g := fun r : β × Bench => r.2.nl.cls) h l r
@[simp] theorem Bench.accepted_cls (c : Cmd) (b : Bench) : (Bench.accepted c b).nl.cls = b.nl.cls := rfl
@[simp] theorem Bench.unready_cls (keep : StreamReady → Bool) (b : Bench) : (Bench.unready keep b).nl.cls = b.nl.cls := rfl
@[simp] theorem Bench.guardClip_cls (b : Bench) : (Bench.guardClip b).nl.cls = b.nl.cls := rfl
@[simp] theorem Bench.guardDelay_cls (b : Bench) : (Bench.guardDelay b).nl.cls = b.nl.cls := rfl
@[simp] theorem Bench.faceEvent_cls (bit : Nat) (d1 : Word) (b : Bench) : (Bench.faceEvent bit d1 b).nl.cls = b.nl.cls := by
  simp [Bench.faceEvent]
@[simp] theorem Bench.faceHear_cls (n : FaceNews) (b : Bench) : (Bench.faceHear n b).nl.cls = b.nl.cls := by
  simp only [Bench.faceHear]; (repeat' split) <;> simp
@[simp] theorem Bench.faceSay_cls (n : FaceNews) (b : Bench) : (Bench.faceSay n b).nl.cls = b.nl.cls := by
  unfold Bench.faceSay; split <;> simp
@[simp] theorem Bench.outFaultEval_cls (b : Bench) : (Bench.outFaultEval b).nl.cls = b.nl.cls := by
  simp only [Bench.outFaultEval]; (repeat' split) <;> simp
@[simp] theorem Bench.faceReport_cls (b : Bench) : (Bench.faceReport b).nl.cls = b.nl.cls := by
  unfold Bench.faceReport; split <;> simp
@[simp] theorem Bench.applyAo_cls (m : Fin 2) (slewed : Bool) (v : Int) (b : Bench) : (Bench.applyAo m slewed v b).nl.cls = b.nl.cls := by
  simp only [Bench.applyAo]; (repeat' split) <;> simp
@[simp] theorem Bench.faceConf_cls (b : Bench) : (Bench.faceConf b).nl.cls = b.nl.cls := by
  unfold Bench.faceConf; split <;> simp
@[simp] theorem Bench.faceSafe_cls (b : Bench) : (Bench.faceSafe b).nl.cls = b.nl.cls := by
  unfold Bench.faceSafe; split <;> simp
@[simp] theorem Bench.axisEvent_cls (a bit : Nat) (b : Bench) : (Bench.axisEvent a bit b).nl.cls = b.nl.cls := by
  simp [Bench.axisEvent]
@[simp] theorem Bench.axisLimited_cls (a : Nat) (on : Bool) (b : Bench) : (Bench.axisLimited a on b).nl.cls = b.nl.cls := by
  simp only [Bench.axisLimited]; (repeat' split) <;> simp
@[simp] theorem Bench.axisDce_cls (a : Nat) (d : AxisDce) (b : Bench) : (Bench.axisDce a d b).nl.cls = b.nl.cls := by
  unfold Bench.axisDce; split <;> simp
@[simp] theorem Bench.axisChange_cls (a : Nat) (c : AxisChange) (b : Bench) : (Bench.axisChange a c b).nl.cls = b.nl.cls := by
  unfold Bench.axisChange; split <;> simp
@[simp] theorem Bench.axisTake_cls (a t : Nat) (b : Bench) : (Bench.axisTake a t b).nl.cls = b.nl.cls := by
  simp [Bench.axisTake]
@[simp] theorem Bench.axisCompute_cls (a t : Nat) (b : Bench) : (Bench.axisCompute a t b).nl.cls = b.nl.cls := by
  unfold Bench.axisCompute; split <;> simp
@[simp] theorem Bench.axisQueue_cls (a : Nat) (c : AxisChange) (b : Bench) : (Bench.axisQueue a c b).nl.cls = b.nl.cls := by
  simp only [Bench.axisQueue]; (repeat' split) <;> simp
@[simp] theorem Bench.axisBegin_cls (a m : Nat) (x : Axis) (b : Bench) : (Bench.axisBegin a m x b).nl.cls = b.nl.cls := by
  unfold Bench.axisBegin; split <;> simp
@[simp] theorem Bench.axisPhase_cls (a m : Nat) (ph : HomePhase) (b : Bench) : (Bench.axisPhase a m ph b).nl.cls = b.nl.cls := by
  simp [Bench.axisPhase]
@[simp] theorem Bench.stopsDone_cls (b : Bench) : (Bench.stopsDone b).nl.cls = b.nl.cls := by
  simp [Bench.stopsDone]
@[simp] theorem Bench.axisRest_cls (a : Nat) (l : List AxisChange) (b : Bench) : (b.axisRest a l).nl.cls = b.nl.cls :=
  foldl_cls (fun b c => by cases c.par <;> rfl) l b
@[simp] theorem Bench.axisIdle_cls (a : Nat) (st : AxisState) (b : Bench) : (b.axisIdle a st).nl.cls = b.nl.cls := by
  unfold Bench.axisIdle
  extract_lets x evt b₁ b₂ b₃ b₄
  have h₃ : b₃.nl.cls = b.nl.cls := (foldl_cls (fun _ _ => congrArg Nalry.cls (completeTag_nl ..)) _ b₂).trans (axisRest_cls ..)
  have h₄ : b₄.nl.cls = b₃.nl.cls := by unfold b₄; split <;> simp
  rw [stopsDone_cls, h₄, h₃]
@[simp] theorem Bench.axisDoubt_cls (a : Nat) (b : Bench) : (Bench.axisDoubt a b).nl.cls = b.nl.cls := by
  simp only [Bench.axisDoubt]; (repeat' split) <;> simp
@[simp] theorem Bench.axisStops_cls (a : Nat) (b : Bench) : (Bench.axisStops a b).nl.cls = b.nl.cls := by
  simp only [Bench.axisStops]; (repeat' split) <;> simp
@[simp] theorem Bench.axisHard_cls (a : Nat) (b : Bench) : (Bench.axisHard a b).nl.cls = b.nl.cls := by
  simp only [Bench.axisHard]; (repeat' split) <;> simp
@[simp] theorem Bench.axisRamp_cls (a : Nat) (st : AxisState) (after : HomePhase) (b : Bench) : (Bench.axisRamp a st after b).nl.cls = b.nl.cls := by
  simp only [Bench.axisRamp]; (repeat' split) <;> simp
@[simp] theorem Bench.motionLeave_cls (b : Bench) : (Bench.motionLeave b).nl.cls = b.nl.cls := by
  simp [Bench.motionLeave, apply_ite Bench.nl, apply_ite Nalry.cls]
@[simp] theorem Bench.axisStopOne_cls (hard : Bool) (a : Nat) (b : Bench) : (Bench.axisStopOne hard a b).nl.cls = b.nl.cls := by
  simp only [Bench.axisStopOne]; (repeat' split) <;> simp
@[simp] theorem Bench.fifoPush_cls (n : Fin 32) (w : Word) (eop : Bool) (b : Bench) : (Bench.fifoPush n w eop b).nl.cls = b.nl.cls := by
  simp only [Bench.fifoPush]; (repeat' split) <;> simp
@[simp] theorem Bench.fifoPushAll_cls (n : Fin 32) (ws : List Word) (b : Bench) : (Bench.fifoPushAll n ws b).nl.cls = b.nl.cls := by
  fun_induction Bench.fifoPushAll n ws b <;> simp_all
@[simp] theorem Bench.fifoPacket_cls (n : Fin 32) (cls : Nat) (ws : List Word) (b : Bench) : (Bench.fifoPacket n cls ws b).nl.cls = b.nl.cls := by
  simp only [Bench.fifoPacket]; (repeat' split) <;> simp
@[simp] theorem Bench.count_cls (n : Fin 10) (b : Bench) : (Bench.count n b).nl.cls = b.nl.cls := rfl
@[simp] theorem Bench.cancelItems_cls (k : Nat) (b : Bench) : (Bench.cancelItems k b).nl.cls = b.nl.cls := rfl
@[simp] theorem Bench.spoil_cls (n : Fin 10) (b : Bench) : (Bench.spoil n b).nl.cls = b.nl.cls := by
  simp only [Bench.spoil]; (repeat' split) <;> simp
@[simp] theorem Bench.enqueue_cls (i : Item) (b : Bench) : (Bench.enqueue i b).nl.cls = b.nl.cls := by
  unfold Bench.enqueue; split <;> simp
@[simp] theorem Bench.post_cls (i : Item) (b : Bench) : (Bench.post i b).2.nl.cls = b.nl.cls := by
  simp only [Bench.post]; (repeat' split) <;> simp
@[simp] theorem Bench.endHostItem_cls (st : Status) (b : Bench) (i : Item) : (Bench.endHostItem st b i).nl.cls = b.nl.cls := by
  unfold Bench.endHostItem; split <;> simp
@[simp] theorem Bench.mergeSticky_cls (c : Core) (b : Bench) : (Bench.mergeSticky c b).nl.cls = b.nl.cls := by
  unfold Bench.mergeSticky; split <;> simp
@[simp] theorem Bench.dropOpenOf_cls (k : Fin 4) (b : Bench) : (Bench.dropOpenOf k b).nl.cls = b.nl.cls := rfl
@[simp] theorem Bench.spoilHeld_cls (i : Item) (b : Bench) : (Bench.spoilHeld i b).nl.cls = b.nl.cls := by
  unfold Bench.spoilHeld
  split
  · exact foldl_keeps (g := fun b : Bench => b.nl.cls) (fun b n => by split <;> rfl) _ _
  · rfl
@[simp] theorem Bench.stopCore_cls (b : Bench) (k : Fin 4) : (Bench.stopCore b k).nl.cls = b.nl.cls := by
  simp [Bench.stopCore]
@[simp] theorem Bench.faultStop_cls (b : Bench) (k : Fin 4) : (Bench.faultStop b k).nl.cls = b.nl.cls := by
  simp only [Bench.faultStop]; (repeat' split) <;> simp
@[simp] theorem Bench.schedStop_cls (b : Bench) : (b.schedStop).nl.cls = b.nl.cls := by
  unfold Bench.schedStop
  extract_lets b₁ items b₂
  have h₂ : b₂.nl.cls = b.nl.cls :=
    (foldl_cls (fun _ _ => endHostItem_cls ..) _ _).trans ((cancelItems_cls ..).trans (foldl_cls (fun _ _ => faultStop_cls ..) _ b))
  exact h₂
@[simp] theorem Bench.restSupply_cls (b : Bench) : (Bench.restSupply b).nl.cls = b.nl.cls := by
  unfold Bench.restSupply; split <;> simp
@[simp] theorem Bench.arbitrate_cls (p : Nat) (b : Bench) : (Bench.arbitrate p b).nl.cls = b.nl.cls := by
  unfold Bench.arbitrate; split <;> simp
@[simp] theorem Bench.commitForce_cls (i : Nat) (en : Bool) (p : Nat) (v : Word) (b : Bench) :
    (b.commitForce i en p v).nl.cls = b.nl.cls := by
  unfold Bench.commitForce
  extract_lets old bad
  split
  extract_lets b₁ src b₂ b₃ b₄ b₅ dup b₆
  have h₂ : b₂.nl.cls = b.nl.cls := by unfold b₂; split <;> rfl
  have h₃ : b₃.nl.cls = b₂.nl.cls := by simp [b₃]
  have h₄ : b₄.nl.cls = b₃.nl.cls := by
    unfold b₄
    split
    · rfl
    · exact foldl_cls (fun _ _ => by rfl) _ _
  have h₆ : b₆.nl.cls = b₄.nl.cls := by unfold b₆; split <;> simp [b₅]
  rw [errorCause_cls, h₆, h₄, h₃, h₂]
@[simp] theorem Bench.applyHeld_cls (l : List (Nat × Word × Word)) (b : Bench) : (Bench.applyHeld l b).nl.cls = b.nl.cls := by
  fun_induction Bench.applyHeld l b <;> simp_all
@[simp] theorem Bench.endChange_cls (c : Change) (b : Bench) : (Bench.endChange c b).nl.cls = b.nl.cls := by
  simp [Bench.endChange]
@[simp] theorem Bench.cancelChange_cls (b : Bench) : (Bench.cancelChange b).nl.cls = b.nl.cls := by
  unfold Bench.cancelChange; (repeat' split) <;> simp
@[simp] theorem Bench.canSlot_cls (k : Fin 2) (a : Nat) (r : List Word × Bench) (p : Nat) : (Bench.canSlot k a r p).2.nl.cls = r.2.nl.cls := by
  unfold Bench.canSlot
  dsimp only
  split <;> simp
@[simp] theorem Bench.objData_cls (k : Fin 2) (n a : Nat) (live : Bool) (b : Bench) : (b.objData k n a live).2.nl.cls = b.nl.cls := by
  unfold Bench.objData
  dsimp only
  split
  · exact foldl_snd_cls (fun _ _ => canSlot_cls ..) _ _
  · rfl
@[simp] theorem Bench.canLeaveRun_cls (b : Bench) : (b.canLeaveRun).nl.cls = b.nl.cls := by
  refine foldl_cls (fun b k => ?_) _ b
  dsimp only
  (repeat' split) <;> simp
@[simp] theorem Bench.canFromShadow_cls (b : Bench) : (Bench.canFromShadow b).nl.cls = b.nl.cls := rfl
@[simp] theorem Bench.reduce_cls (p : Nat) (e : Point) (b : Bench) : (Bench.reduce p e b).nl.cls = b.nl.cls := rfl
@[simp] theorem Bench.digestOne_cls (b : Bench) : (Bench.digestOne b).nl.cls = b.nl.cls := by
  simp only [Bench.digestOne]; (repeat' split) <;> simp
@[simp] theorem Bench.digestDrain_cls (e k : Nat) (b : Bench) : (Bench.digestDrain e k b).nl.cls = b.nl.cls := by
  fun_induction Bench.digestDrain e k b <;> simp_all
@[simp] theorem Bench.digestLate_cls (b : Bench) : (Bench.digestLate b).nl.cls = b.nl.cls := by
  simp only [Bench.digestLate]; (repeat' split) <;> simp
@[simp] theorem Bench.digestClose_cls (e : Nat) (cut cont : Bool) (next : Option (Nat × Nat)) (b : Bench) : (Bench.digestClose e cut cont next b).nl.cls = b.nl.cls := by
  simp only [Bench.digestClose]; (repeat' split) <;> simp
@[simp] theorem Bench.digestLeave_cls (b : Bench) : (Bench.digestLeave b).nl.cls = b.nl.cls := by
  unfold Bench.digestLeave; split <;> simp
@[simp] theorem Bench.setChan_cls (c : Fin 32) (x : KfChan) (b : Bench) : (Bench.setChan c x b).nl.cls = b.nl.cls := rfl
@[simp] theorem Bench.setUnit_cls (u : Fin 8) (x : KfUnit) (b : Bench) : (Bench.setUnit u x b).nl.cls = b.nl.cls := rfl
@[simp] theorem Bench.kerfEvent_cls (bit ch : Nat) (b : Bench) : (Bench.kerfEvent bit ch b).nl.cls = b.nl.cls := by
  simp [Bench.kerfEvent]
@[simp] theorem Bench.recordEnd_cls (ch : Fin 32) (why : Nat) (b : Bench) : (Bench.recordEnd ch why b).nl.cls = b.nl.cls := by
  simp only [Bench.recordEnd]; (repeat' split) <;> simp
@[simp] theorem Bench.chanStore_cls (ch : Fin 32) (e : Point) (b : Bench) : (Bench.chanStore ch e b).nl.cls = b.nl.cls := by
  simp only [Bench.chanStore]; (repeat' split) <;> simp
@[simp] theorem Bench.chanTrigger_cls (u : Nat) (time : Nat) (b : Bench) (ch : Fin 32) : (Bench.chanTrigger u time b ch).nl.cls = b.nl.cls := by
  simp only [Bench.chanTrigger]; (repeat' split) <;> simp
@[simp] theorem Bench.unitFire_cls (u : Fin 8) (time : Nat) (b : Bench) : (Bench.unitFire u time b).nl.cls = b.nl.cls := by
  simp only [Bench.unitFire]; (repeat' split) <;> simp
@[simp] theorem Bench.unitSample_cls (u : Fin 8) (fmt : Nat) (w : Word) (stamp : Nat) (b : Bench) : (Bench.unitSample u fmt w stamp b).nl.cls = b.nl.cls := by
  simp only [Bench.unitSample]; (repeat' split) <;> simp
@[simp] theorem Bench.kerfSample_cls (stype ctype src fmt : Nat) (good : Bool) (unitWord : KfUnit → Option Word) (e : Point)
    (b : Bench) : (b.kerfSample stype ctype src fmt good unitWord e).nl.cls = b.nl.cls := by
  unfold Bench.kerfSample
  refine (foldl_cls (fun b ch => ?channel) _ _).trans (foldl_cls (fun b u => ?unit) _ b)
  case channel => dsimp only; split <;> simp
  case unit => dsimp only; (repeat' split) <;> simp
@[simp] theorem Bench.kerfPoint_cls (b : Bench) : (b.kerfPoint).nl.cls = b.nl.cls := by
  unfold Bench.kerfPoint
  split
  · rfl
  · exact kerfSample_cls ..
@[simp] theorem Bench.kerfDrain_cls (k : Nat) (b : Bench) : (Bench.kerfDrain k b).nl.cls = b.nl.cls := by
  fun_induction Bench.kerfDrain k b <;> simp_all
@[simp] theorem Bench.chanStop_cls (why : Nat) (r : Nat × Bench) (ch : Fin 32) : (Bench.chanStop why r ch).2.nl.cls = r.2.nl.cls := by
  unfold Bench.chanStop
  dsimp only
  split <;> simp
@[simp] theorem Bench.kerfLeave_cls (b : Bench) : (b.kerfLeave).nl.cls = b.nl.cls := by
  unfold Bench.kerfLeave
  rw [foldl_snd_cls (chanStop_cls 3), kerfDrain_cls]
@[simp] theorem Bench.setWords_cls (n : Nat) (ws : List (Nat × Word)) (b : Bench) : (b.setWords n ws).nl.cls = b.nl.cls :=
  foldl_cls (fun _ _ => by rfl) ws b
@[simp] theorem Bench.loopAgain_cls (n : Nat) (l : Loop) (u : LoopUpdate) (b : Bench) : (Bench.loopAgain n l u b).nl.cls = b.nl.cls := by
  simp [Bench.loopAgain]
@[simp] theorem Bench.loopsLeave_cls (b : Bench) : (b.loopsLeave).nl.cls = b.nl.cls := by
  refine foldl_cls (fun b n => ?_) _ b
  dsimp only
  split <;> simp
@[simp] theorem Bench.setLane_cls (laneB : Bool) (l : Lane) (b : Bench) : (Bench.setLane laneB l b).nl.cls = b.nl.cls := rfl
@[simp] theorem Bench.quoinHard_cls (b : Bench) : (Bench.quoinHard b).nl.cls = b.nl.cls := by
  simp [Bench.quoinHard]
@[simp] theorem Bench.quoinRamp_cls (b : Bench) : (Bench.quoinRamp b).nl.cls = b.nl.cls := by
  simp [Bench.quoinRamp, apply_ite Bench.nl, apply_ite Nalry.cls]
@[simp] theorem Bench.laneRun_cls (laneB : Bool) (k : Nat) (fell : Bool) (b : Bench) : (Bench.laneRun laneB k fell b).nl.cls = b.nl.cls := by
  induction k generalizing fell b with
  | zero => rfl
  | succ k ih => unfold Bench.laneRun; (repeat' split) <;> simp [ih, apply_ite Bench.nl, apply_ite Nalry.cls]
@[simp] theorem Bench.ossdFollow_cls (b : Bench) : (Bench.ossdFollow b).nl.cls = b.nl.cls := rfl
@[simp] theorem Bench.mirrorWrite_cls (b : Bench) : (b.mirrorWrite).nl.cls = b.nl.cls := by
  refine foldl_cls (fun b k => ?_) _ _
  (repeat' split) <;> simp
@[simp] theorem Bench.activate_cls (b : Bench) : (Bench.activate b).nl.cls = b.nl.cls := by
  simp [Bench.activate, apply_ite Bench.nl, apply_ite Nalry.cls]
@[simp] theorem Bench.inputTrack_cls (laneB : Bool) (b : Bench) : (Bench.inputTrack laneB b).nl.cls = b.nl.cls := rfl
@[simp] theorem Bench.startupTrack_cls (b : Bench) : (Bench.startupTrack b).nl.cls = b.nl.cls := by
  unfold Bench.startupTrack; split <;> simp
@[simp] theorem Bench.pressTrack_cls (b : Bench) : (Bench.pressTrack b).nl.cls = b.nl.cls := rfl
@[simp] theorem Bench.demandEval_cls (b : Bench) : (Bench.demandEval b).nl.cls = b.nl.cls := by
  simp [Bench.demandEval, apply_ite Bench.nl, apply_ite Nalry.cls]
@[simp] theorem Bench.noteOut_cls (b : Bench) : (Bench.noteOut b).nl.cls = b.nl.cls := rfl
@[simp] theorem Bench.laneBEval_cls (b : Bench) : (Bench.laneBEval b).nl.cls = b.nl.cls := by
  simp [Bench.laneBEval]
@[simp] theorem Bench.lanesEval_cls (b : Bench) : (Bench.lanesEval b).nl.cls = b.nl.cls := by
  simp [Bench.lanesEval]
@[simp] theorem Bench.quoinEval_cls (b : Bench) : (Bench.quoinEval b).nl.cls = b.nl.cls := by
  unfold Bench.quoinEval; split <;> simp
@[simp] theorem Bench.custody_cls (b : Bench) : (Bench.custody b).nl.cls = b.nl.cls := by
  simp [Bench.custody]
@[simp] theorem Bench.modeEvent_cls (b : Bench) : (Bench.modeEvent b).nl.cls = b.nl.cls := by
  simp [Bench.modeEvent]
@[simp] theorem Bench.endHandover_cls (st : Status) (b : Bench) : (Bench.endHandover st b).nl.cls = b.nl.cls := by
  unfold Bench.endHandover; (repeat' split) <;> simp
@[simp] theorem Bench.leaveRun_cls (b : Bench) : (b.leaveRun).nl.cls = b.nl.cls := by
  unfold Bench.leaveRun
  dsimp only
  rw [schedStop_cls, endHandover_cls, cancelChange_cls, motionLeave_cls, loopsLeave_cls, digestLeave_cls, kerfLeave_cls]
end

/-! ### Entry into HOLD -/

/-- The bench registers but for the count of producer conflicts. -/
def Bn.Alike (x y : Bn) : Prop := ∃ k, y = { x with producerConflict := k }

theorem Bn.Alike.refl (x : Bn) : x.Alike x := ⟨_, rfl⟩
theorem Bn.Alike.of_eq {x y : Bn} (h : y = x) : x.Alike y := h ▸ .refl x
theorem Bn.Alike.trans {x y z : Bn} (h : x.Alike y) (h' : y.Alike z) : x.Alike z := by
  obtain ⟨k, rfl⟩ := h
  obtain ⟨l, rfl⟩ := h'
  exact ⟨l, rfl⟩

theorem foldl_alike {α : Type} {f : Bench → α → Bench} (h : ∀ (b : Bench) (a : α), b.bn.Alike (f b a).bn) (l : List α) (b : Bench) :
    b.bn.Alike (l.foldl f b).bn := by
  induction l generalizing b with
  | nil => exact .refl _
  | cons a l ih => exact (h b a).trans (ih _)

section enterHold
open Bench
variable (b : Bench)

/-- A point written by the face may leave a producer conflict, and nothing else of the bench registers. -/
theorem Bench.writePoint_alike (src : Source) (p : Nat) (v : Word) (q : Half) (st : Time) :
    b.bn.Alike (b.writePoint src p v q st).bn := by
  unfold Bench.writePoint
  split
  · exact .refl _
  · split
    · unfold Bench.conflict
      rw [errorCause_bn]
      exact ⟨_, rfl⟩
    · exact .of_eq (putPoint_bn ..)

theorem Bench.mirrorWrite_alike : b.bn.Alike b.mirrorWrite.bn := by
  unfold Bench.mirrorWrite
  refine Bn.Alike.trans (.of_eq rfl) (foldl_alike (fun b k => ?_) _ _)
  split
  · split
    · exact .refl _
    · exact writePoint_alike ..
  · exact .refl _

theorem Bench.quoinEval_alike : b.bn.Alike b.quoinEval.bn := by
  unfold Bench.quoinEval
  split
  · refine .of_eq ?_
    simp [Bench.laneBEval]
  · unfold Bench.lanesEval
    refine Bn.Alike.trans (.of_eq ?_) (mirrorWrite_alike _)
    simp

theorem Bench.custody_alike : b.bn.Alike b.custody.bn := quoinEval_alike _

/-- The bench registers at entry into HOLD from RUN or SHADOW. -/
def Bench.holdBn (b : Bench) (cause : Word) (now : Time) : Bn :=
  { b.bn with
    prev := b.bn.mode, mode := .hold, holdCause := if b.midCycle then cause ||| 0x100#32 else cause, holdRail := now,
    snapBusy := true, resumed := false, trips := b.watchdogsDue }

/-- The first steps of an entry into HOLD after the mode's own work: the registers, and the face's safe outputs. -/
def Bench.holdMark (b : Bench) (cause : Word) (x : Bench) : Bench :=
  ((x.toMode .hold).setBn fun n => { n with
    holdCause := if b.midCycle then cause ||| 0x100#32 else cause, holdRail := (x.toMode .hold).rail.now, snapBusy := true,
    resumed := false, trips := b.watchdogsDue }).faceSafe

/-- The last steps. -/
def Bench.holdEnd (x : Bench) : Bench :=
  Bench.modeEvent { (x.restSupply.custody).health 24 with snap := some ((x.restSupply.custody).health 24).snapshot, snapOk := false }

theorem Bench.holdEnd_alike (x : Bench) : x.bn.Alike x.holdEnd.bn := by
  unfold Bench.holdEnd
  rw [modeEvent_bn]
  dsimp only
  rw [health_bn]
  exact Bn.Alike.trans (.of_eq (restSupply_bn x)) (custody_alike _)

variable {b}

theorem Bench.holdMark_bn (h : b.bn.mode ≠ .hold) (cause : Word) {x : Bench} (hx : x.bn = b.bn) :
    (b.holdMark cause x).bn = b.holdBn cause x.rail.now := by
  unfold Bench.holdMark
  rw [faceSafe_bn]
  simp only [Bench.setBn, Bench.toMode, Bench.holdBn, hx, h, decide_false, Bool.not_false, Bool.and_true]

theorem Bench.enterHold_run (h : b.bn.mode = .run) (cause : Word) (cls : Fin 4) : b.enterHold cause cls =
    (b.holdMark cause ((b.faultClass cls).leaveRun.recipesHold (b.faultClass cls).rail.now)).canLeaveRun.holdEnd := by
  unfold Bench.enterHold
  simp only [h, if_true]
  rfl

theorem Bench.enterHold_shadow (h : b.bn.mode = .shadow) (cause : Word) (cls : Fin 4) : b.enterHold cause cls =
    (b.holdMark cause (((b.faultClass cls).leaveShadow.motionLeave.schedStop).recipesHold
      (b.faultClass cls).rail.now)).canFromShadow.holdEnd := by
  unfold Bench.enterHold
  simp only [h, reduceCtorEq, if_false]
  rfl

theorem Bench.faultClass_bn (cls : Fin 4) (b : Bench) : (b.faultClass cls).bn = b.bn := by
  unfold Bench.faultClass
  split <;> simp

theorem Bench.enterHold_bn (h : b.bn.mode = .run ∨ b.bn.mode = .shadow) (cause : Word) (cls : Fin 4) :
    ∃ now, (b.holdBn cause now).Alike (b.enterHold cause cls).bn := by
  rcases h with h | h
  · have left : ((b.faultClass cls).leaveRun.recipesHold (b.faultClass cls).rail.now).bn = b.bn := by
      rw [recipesHold_bn, leaveRun_bn, faultClass_bn]
    rw [enterHold_run h]
    exact ⟨_, (Bn.Alike.of_eq ((canLeaveRun_bn _).trans (holdMark_bn (by simp [h]) cause left))).trans (holdEnd_alike _)⟩
  · have left : (((b.faultClass cls).leaveShadow.motionLeave.schedStop).recipesHold (b.faultClass cls).rail.now).bn = b.bn := by
      rw [recipesHold_bn, schedStop_bn, motionLeave_bn]
      exact faultClass_bn ..
    rw [enterHold_shadow h]
    exact ⟨_, (Bn.Alike.of_eq ((canFromShadow_bn _).trans (holdMark_bn (by simp [h]) cause left))).trans (holdEnd_alike _)⟩

/-- In HOLD a further cause is added, and nothing else changes. -/
theorem Bench.enterHold_hold (h : b.bn.mode = .hold) (cause : Word) (cls : Fin 4) :
    b.enterHold cause cls = b.setBn fun n => { n with holdCause := n.holdCause ||| cause } := by
  unfold Bench.enterHold
  rw [h]

/-- An active bench that leaves RUN keeps the class of its fault. -/
theorem Bench.enterHold_cls (h : b.bn.mode = .run) (cause : Word) (cls : Fin 4) : (b.enterHold cause cls).nl.cls = cls := by
  rw [enterHold_run h]
  simp [Bench.holdEnd, Bench.holdMark, Bench.toMode, Bench.setBn, Bench.faultClass, h]

end enterHold
/-! ### Bedrock operations -/

section
open Bench
@[simp] theorem foldl_snap {α : Type} {f : Bench → α → Bench} (h : ∀ b a, (f b a).snap = b.snap) (l : List α) (b : Bench) :
    (l.foldl f b).snap = b.snap := foldl_keeps (g := fun b : Bench => b.snap) h l b
@[simp] theorem foldl_snd_snap {α β : Type} {f : β × Bench → α → β × Bench} (h : ∀ r a, (f r a).2.snap = r.2.snap) (l : List α)
    (r : β × Bench) : (l.foldl f r).2.snap = r.2.snap := foldl_keeps (g := fun r : β × Bench => r.2.snap) h l r
@[simp] theorem Bench.accepted_snap (c : Cmd) (b : Bench) : (Bench.accepted c b).snap = b.snap := rfl
@[simp] theorem Bench.unready_snap (keep : StreamReady → Bool) (b : Bench) : (Bench.unready keep b).snap = b.snap := rfl
@[simp] theorem Bench.fifoPush_snap (n : Fin 32) (w : Word) (eop : Bool) (b : Bench) : (Bench.fifoPush n w eop b).snap = b.snap := by
  simp only [Bench.fifoPush]; (repeat' split) <;> simp
@[simp] theorem Bench.fifoPushAll_snap (n : Fin 32) (ws : List Word) (b : Bench) : (Bench.fifoPushAll n ws b).snap = b.snap := by
  fun_induction Bench.fifoPushAll n ws b <;> simp_all
@[simp] theorem Bench.fifoPacket_snap (n : Fin 32) (cls : Nat) (ws : List Word) (b : Bench) : (Bench.fifoPacket n cls ws b).snap = b.snap := by
  simp only [Bench.fifoPacket]; (repeat' split) <;> simp
@[simp] theorem Bench.count_snap (n : Fin 10) (b : Bench) : (Bench.count n b).snap = b.snap := rfl
@[simp] theorem Bench.cancelItems_snap (k : Nat) (b : Bench) : (Bench.cancelItems k b).snap = b.snap := rfl
@[simp] theorem Bench.spoil_snap (n : Fin 10) (b : Bench) : (Bench.spoil n b).snap = b.snap := by
  simp only [Bench.spoil]; (repeat' split) <;> simp
@[simp] theorem Bench.enqueue_snap (i : Item) (b : Bench) : (Bench.enqueue i b).snap = b.snap := by
  unfold Bench.enqueue; split <;> simp
@[simp] theorem Bench.post_snap (i : Item) (b : Bench) : (Bench.post i b).2.snap = b.snap := by
  simp only [Bench.post]; (repeat' split) <;> simp
@[simp] theorem Bench.arbitrate_snap (p : Nat) (b : Bench) : (Bench.arbitrate p b).snap = b.snap := by
  unfold Bench.arbitrate; split <;> simp
@[simp] theorem Bench.commitForce_snap (i : Nat) (en : Bool) (p : Nat) (v : Word) (b : Bench) :
    (b.commitForce i en p v).snap = b.snap := by
  unfold Bench.commitForce
  extract_lets old bad
  split
  extract_lets b₁ src b₂ b₃ b₄ b₅ dup b₆
  have h₂ : b₂.snap = b.snap := by unfold b₂; split <;> rfl
  have h₃ : b₃.snap = b₂.snap := by simp [b₃]
  have h₄ : b₄.snap = b₃.snap := by
    unfold b₄
    split
    · rfl
    · exact foldl_snap (fun _ _ => by rfl) _ _
  have h₆ : b₆.snap = b₄.snap := by unfold b₆; split <;> simp [b₅]
  rw [errorCause_snap, h₆, h₄, h₃, h₂]
@[simp] theorem Bench.applyHeld_snap (l : List (Nat × Word × Word)) (b : Bench) : (Bench.applyHeld l b).snap = b.snap := by
  fun_induction Bench.applyHeld l b <;> simp_all
@[simp] theorem Bench.endChange_snap (c : Change) (b : Bench) : (Bench.endChange c b).snap = b.snap := by
  simp [Bench.endChange]
@[simp] theorem Bench.cancelChange_snap (b : Bench) : (Bench.cancelChange b).snap = b.snap := by
  unfold Bench.cancelChange; (repeat' split) <;> simp
@[simp] theorem Bench.reduce_snap (p : Nat) (e : Point) (b : Bench) : (Bench.reduce p e b).snap = b.snap := rfl
@[simp] theorem Bench.digestOne_snap (b : Bench) : (Bench.digestOne b).snap = b.snap := by
  simp only [Bench.digestOne]; (repeat' split) <;> simp
@[simp] theorem Bench.digestDrain_snap (e k : Nat) (b : Bench) : (Bench.digestDrain e k b).snap = b.snap := by
  fun_induction Bench.digestDrain e k b <;> simp_all
@[simp] theorem Bench.digestLate_snap (b : Bench) : (Bench.digestLate b).snap = b.snap := by
  simp only [Bench.digestLate]; (repeat' split) <;> simp
@[simp] theorem Bench.digestClose_snap (e : Nat) (cut cont : Bool) (next : Option (Nat × Nat)) (b : Bench) : (Bench.digestClose e cut cont next b).snap = b.snap := by
  simp only [Bench.digestClose]; (repeat' split) <;> simp
@[simp] theorem Bench.digestLeave_snap (b : Bench) : (Bench.digestLeave b).snap = b.snap := by
  unfold Bench.digestLeave; split <;> simp
@[simp] theorem Bench.setChan_snap (c : Fin 32) (x : KfChan) (b : Bench) : (Bench.setChan c x b).snap = b.snap := rfl
@[simp] theorem Bench.setUnit_snap (u : Fin 8) (x : KfUnit) (b : Bench) : (Bench.setUnit u x b).snap = b.snap := rfl
@[simp] theorem Bench.kerfEvent_snap (bit ch : Nat) (b : Bench) : (Bench.kerfEvent bit ch b).snap = b.snap := by
  simp [Bench.kerfEvent]
@[simp] theorem Bench.recordEnd_snap (ch : Fin 32) (why : Nat) (b : Bench) : (Bench.recordEnd ch why b).snap = b.snap := by
  simp only [Bench.recordEnd]; (repeat' split) <;> simp
@[simp] theorem Bench.chanStore_snap (ch : Fin 32) (e : Point) (b : Bench) : (Bench.chanStore ch e b).snap = b.snap := by
  simp only [Bench.chanStore]; (repeat' split) <;> simp
@[simp] theorem Bench.chanTrigger_snap (u : Nat) (time : Nat) (b : Bench) (ch : Fin 32) : (Bench.chanTrigger u time b ch).snap = b.snap := by
  simp only [Bench.chanTrigger]; (repeat' split) <;> simp
@[simp] theorem Bench.unitFire_snap (u : Fin 8) (time : Nat) (b : Bench) : (Bench.unitFire u time b).snap = b.snap := by
  simp only [Bench.unitFire]; (repeat' split) <;> simp
@[simp] theorem Bench.unitSample_snap (u : Fin 8) (fmt : Nat) (w : Word) (stamp : Nat) (b : Bench) : (Bench.unitSample u fmt w stamp b).snap = b.snap := by
  simp only [Bench.unitSample]; (repeat' split) <;> simp
@[simp] theorem Bench.kerfSample_snap (stype ctype src fmt : Nat) (good : Bool) (unitWord : KfUnit → Option Word) (e : Point)
    (b : Bench) : (b.kerfSample stype ctype src fmt good unitWord e).snap = b.snap := by
  unfold Bench.kerfSample
  refine (foldl_snap (fun b ch => ?channel) _ _).trans (foldl_snap (fun b u => ?unit) _ b)
  case channel => dsimp only; split <;> simp
  case unit => dsimp only; (repeat' split) <;> simp
@[simp] theorem Bench.kerfPoint_snap (b : Bench) : (b.kerfPoint).snap = b.snap := by
  unfold Bench.kerfPoint
  split
  · rfl
  · exact kerfSample_snap ..
@[simp] theorem Bench.kerfDrain_snap (k : Nat) (b : Bench) : (Bench.kerfDrain k b).snap = b.snap := by
  fun_induction Bench.kerfDrain k b <;> simp_all
@[simp] theorem Bench.chanStop_snap (why : Nat) (r : Nat × Bench) (ch : Fin 32) : (Bench.chanStop why r ch).2.snap = r.2.snap := by
  unfold Bench.chanStop
  dsimp only
  split <;> simp
@[simp] theorem Bench.kerfLeave_snap (b : Bench) : (b.kerfLeave).snap = b.snap := by
  unfold Bench.kerfLeave
  rw [foldl_snd_snap (chanStop_snap 3), kerfDrain_snap]
end

section hub
variable (h : Hub)

theorem Hub.Told.vector (v : Nat) : h.Told (h.vector v) := by
  unfold Hub.vector
  split <;> exact ⟨_, _, _, rfl⟩

@[simp] theorem Hub.vector_bdCmd (v : Nat) : (h.vector v).bdCmd = h.bdCmd := by unfold Hub.vector; split <;> rfl
@[simp] theorem Hub.vector_bdOp (v : Nat) : (h.vector v).bdOp = h.bdOp := by unfold Hub.vector; split <;> rfl
@[simp] theorem Hub.vector_bdStat (v : Nat) : (h.vector v).bdStat = h.bdStat := by unfold Hub.vector; split <;> rfl
@[simp] theorem Hub.vector_bdBuf (v : Nat) : (h.vector v).bdBuf = h.bdBuf := by unfold Hub.vector; split <;> rfl
@[simp] theorem Hub.vector_bdLost (v : Nat) : (h.vector v).bdLost = h.bdLost := by unfold Hub.vector; split <;> rfl
@[simp] theorem Hub.vector_mgErr (v : Nat) : (h.vector v).mgErr = h.mgErr := by unfold Hub.vector; split <;> rfl
@[simp] theorem Hub.mgError_bdCmd (n : Nat) : (h.mgError n).bdCmd = h.bdCmd := Hub.vector_bdCmd ..
@[simp] theorem Hub.mgError_bdOp (n : Nat) : (h.mgError n).bdOp = h.bdOp := Hub.vector_bdOp ..
@[simp] theorem Hub.mgError_bdStat (n : Nat) : (h.mgError n).bdStat = h.bdStat := Hub.vector_bdStat ..
@[simp] theorem Hub.mgError_bdBuf (n : Nat) : (h.mgError n).bdBuf = h.bdBuf := Hub.vector_bdBuf ..
@[simp] theorem Hub.mgError_bdLost (n : Nat) : (h.mgError n).bdLost = h.bdLost := Hub.vector_bdLost ..
@[simp] theorem Hub.mgError_mgErr (n : Nat) : (h.mgError n).mgErr = putBit h.mgErr n true := Hub.vector_mgErr ..

theorem Hub.bedrockTakes_of_none (hf : h.bdOp = none) (op target : Nat) : h.bedrockTakes op target = true := by
  unfold Hub.bedrockTakes
  rw [hf]

theorem Hub.bedrockTakes_of_this {op target : Nat} (hf : h.bdOp = some (op, target)) : h.bedrockTakes op target = true := by
  unfold Hub.bedrockTakes
  rw [hf]
  exact decide_eq_true rfl

theorem Hub.bedrockTakes_of_other {x : Nat × Nat} {op target : Nat} (hx : h.bdOp = some x) (hn : x ≠ (op, target)) :
    h.bedrockTakes op target = false := by
  unfold Hub.bedrockTakes
  rw [hx]
  exact decide_eq_false hn

/-- The end of an operation whose result is lost, and of one whose result is kept (R505, R535). -/
theorem Hub.bedrockDone_lost (hl : h.bdLost = true) (cmd : Word) (result : Nat) (silent : Word) :
    (h.bedrockDone cmd result silent).bdCmd = (if bitOf h.bdCmd 31 then h.bdCmd &&& 0x7FFFFFFF#32 else cmd) ∧
    (h.bedrockDone cmd result silent).bdStat = 0 ∧ (h.bedrockDone cmd result silent).bdLost = false := by
  unfold Hub.bedrockDone
  simp only [hl, if_true]
  exact ⟨trivial, trivial, trivial⟩

theorem Hub.bedrockDone_kept (hl : h.bdLost = false) (cmd : Word) (result : Nat) (silent : Word) :
    (h.bedrockDone cmd result silent).bdCmd = (if bitOf h.bdCmd 31 then h.bdCmd &&& 0x7FFFFFFF#32 else cmd) ∧
    (h.bedrockDone cmd result silent).bdStat = at32 1 30 ||| at32 result 16 ||| silent ∧
    (h.bedrockDone cmd result silent).bdBuf = h.bdBuf ∧
    (silent ≠ 0 → bitOf (h.bedrockDone cmd result silent).mgErr 1 = true) := by
  unfold Hub.bedrockDone
  simp only [hl, Bool.false_eq_true, if_false, Hub.vector_bdCmd, Hub.vector_bdStat, Hub.vector_bdBuf, Hub.vector_mgErr]
  refine ⟨trivial, trivial, ?_, fun hs => ?_⟩
  · split
    · rfl
    · exact Hub.mgError_bdBuf ..
  · rw [if_neg hs, Hub.mgError_mgErr]
    exact bitOf_putBit_self _ _ (by decide)

end hub

/-- Words put into a buffer one after another stand there in order. -/
theorem getElem_foldl_set {l : List Word} {k : Nat} {v : Vector Word 64} {i : Nat} (hi : i < 64) :
    ((l.zipIdx k).foldl (fun v e => v.set! e.2 e.1) v)[i] = if h : k ≤ i ∧ i < k + l.length then l[i - k] else v[i] := by
  induction l generalizing k v with
  | nil => rw [dif_neg (by simp)]; rfl
  | cons a l ih =>
    rw [List.zipIdx_cons, List.foldl_cons, ih]
    by_cases e : k = i
    · subst e
      simp
    · by_cases h : k + 1 ≤ i ∧ i < k + 1 + l.length
      · have h' : k ≤ i ∧ i < k + (a :: l).length := by simp; omega
        rw [dif_pos h, dif_pos h', List.getElem_cons, dif_neg (by omega)]
        congr 1
      · have h' : ¬(k ≤ i ∧ i < k + (a :: l).length) := by simp; omega
        rw [dif_neg h, dif_neg h']
        simp [e]

theorem Hub.bedrockBuf_bdCmd (h : Hub) (l : List Word) : (h.bedrockBuf l).bdCmd = h.bdCmd := rfl
theorem Hub.bedrockBuf_bdLost (h : Hub) (l : List Word) : (h.bedrockBuf l).bdLost = h.bdLost := rfl

theorem Hub.bedrockBuf_get (h : Hub) {l : List Word} {i : Nat} (hi : i < 64) (hl : i < l.length) : (h.bedrockBuf l).bdBuf[i] = l[i] := by
  unfold Hub.bedrockBuf
  dsimp only
  rw [getElem_foldl_set hi, dif_pos ⟨Nat.zero_le i, by omega⟩]
  rfl

theorem Hub.bedrockBuf_toList (h : Hub) {l : List Word} (hl : l.length = 64) : (h.bedrockBuf l).bdBuf.toList = l := by
  apply List.ext_getElem
  · rw [Vector.length_toList, hl]
  · intro i hi hi'
    rw [Vector.getElem_toList]
    exact h.bedrockBuf_get (by omega) hi'

theorem bitOf_at32 {v lo i : Nat} (hi : i < 32) : bitOf (at32 v lo) i = (Decidable.decide (lo ≤ i) && v.testBit (i - lo)) := by
  rw [bitOf, at32, BitVec.getLsbD_ofNat, Nat.testBit_shiftLeft, decide_eq_true hi, Bool.true_and]
theorem bitOf_or (v w : Word) (i : Nat) : bitOf (v ||| w) i = (bitOf v i || bitOf w i) := BitVec.getLsbD_or

/-- BD_STAT of an operation that has ended. -/
theorem bdStat_fields {result : Nat} (hr : result < 8) {silent : Word} (hs : silent.toNat < 2 ^ 16) :
    bitOf (at32 1 30 ||| at32 result 16 ||| silent) 30 = true ∧ bitOf (at32 1 30 ||| at32 result 16 ||| silent) 31 = false ∧
    fld (at32 1 30 ||| at32 result 16 ||| silent) 18 16 = result ∧
    ∀ i < 16, bitOf (at32 1 30 ||| at32 result 16 ||| silent) i = bitOf silent i := by
  have high (i : Nat) (hi : 16 ≤ i) : bitOf silent i = false :=
    Nat.testBit_lt_two_pow (hs.trans_le (Nat.pow_le_pow_right (by decide) hi))
  have small (i : Nat) (hi : 3 ≤ i) : result.testBit i = false :=
    Nat.testBit_lt_two_pow (lt_of_lt_of_le hr (Nat.pow_le_pow_right (n := 2) (by decide) hi))
  refine ⟨?_, ?_, ?_, fun i hi => ?_⟩
  · rw [bitOf_or, bitOf_or, bitOf_at32 (by decide)]
    rfl
  · rw [bitOf_or, bitOf_or, bitOf_at32 (by decide), bitOf_at32 (by decide), high 31 (by decide), small (31 - 16) (by decide)]
    rfl
  · have result_fld : fld (at32 result 16) 18 16 = result := by
      have key : ∀ r < 8, fld (at32 r 16) 18 16 = r := by decide
      exact key result hr
    have silent_fld : fld silent 18 16 = 0 := by
      rw [fld, Nat.shiftRight_eq_div_pow, Nat.div_eq_of_lt hs, Nat.zero_mod]
    rw [fld_or, fld_or, result_fld, silent_fld]
    exact (Nat.or_zero _).trans (Nat.zero_or _)
  · rw [bitOf_or, bitOf_or, bitOf_at32 (by omega), bitOf_at32 (by omega), decide_eq_false (by omega : ¬30 ≤ i),
      decide_eq_false (by omega : ¬16 ≤ i)]
    rfl

theorem bitOf_foldl_putBit (l : List BenchIx) (w : Word) {i : Nat} (hi : i < 32) :
    bitOf (l.foldl (fun w n => putBit w n.val true) w) i = (bitOf w i || l.any fun n => Decidable.decide (n.val = i)) := by
  induction l generalizing w with
  | nil => simp
  | cons n l ih =>
    rw [List.foldl_cons, ih, bitOf_putBit, List.any_cons]
    by_cases h : n.val = i <;> simp [h, hi]

section silent
variable (s : State) (noResp mask : BitVec 16)

theorem mem_maskList {m : BenchIx} : m ∈ maskList mask ↔ bitOf mask m = true := by
  rw [maskList, List.mem_filter]
  exact and_iff_right (List.mem_finRange m)

theorem maskList_nodup : (maskList mask).Nodup := (List.nodup_finRange 16).filter _

/-- The bits of the benches that were asked and did not answer. -/
theorem State.silentOf_bit {i : Nat} (hi : i < 32) : bitOf (s.silentOf noResp (maskList mask)) i = true ↔
    ∃ m : BenchIx, m.val = i ∧ bitOf mask m = true ∧ s.answers noResp m = false := by
  rw [State.silentOf, bitOf_foldl_putBit _ _ hi, show bitOf (0 : Word) i = false from BitVec.getLsbD_zero, Bool.false_or,
    List.any_eq_true]
  simp only [List.mem_filter, mem_maskList, Bool.not_eq_true', decide_eq_true_eq]
  constructor
  · rintro ⟨m, ⟨hm, ha⟩, e⟩
    exact ⟨m, e, hm, ha⟩
  · rintro ⟨m, e, hm, ha⟩
    exact ⟨m, ⟨hm, ha⟩, e⟩

theorem State.silentOf_lt : (s.silentOf noResp (maskList mask)).toNat < 2 ^ 16 := by
  apply Nat.lt_pow_two_of_testBit
  intro i hi
  by_contra h
  rw [Bool.not_eq_false] at h
  by_cases hi' : i < 32
  · obtain ⟨m, rfl, -⟩ := (s.silentOf_bit noResp mask hi').mp h
    omega
  · have : (s.silentOf noResp (maskList mask)).getLsbD i = false := BitVec.getLsbD_of_ge _ _ (by omega)
    exact absurd (this.symm.trans h) Bool.false_ne_true

theorem State.silentOf_eq_zero : s.silentOf noResp (maskList mask) = 0 ↔
    ¬∃ m : BenchIx, bitOf mask m = true ∧ s.answers noResp m = false := by
  constructor
  · rintro h ⟨m, hm⟩
    have := (s.silentOf_bit noResp mask (i := m.val) (by omega)).mpr ⟨m, rfl, hm⟩
    rw [h] at this
    exact absurd this (by rw [bitOf, show (0 : Word).getLsbD m.val = false from BitVec.getLsbD_zero]; exact Bool.false_ne_true)
  · intro h
    apply BitVec.eq_of_getLsbD_eq
    intro i hi
    rw [show (0 : Word).getLsbD i = false from BitVec.getLsbD_zero]
    by_contra hb
    rw [Bool.not_eq_false] at hb
    obtain ⟨m, -, hm⟩ := (s.silentOf_bit noResp mask hi).mp hb
    exact h ⟨m, hm⟩

end silent

section operations
variable {s : State} {n : BenchIx} {noResp mask : BitVec 16} {op : Nat}

theorem State.bedrockOne_answers {f : State → State × Nat} (ht : s.hub.bedrockTakes op n.val = true) (ha : s.answers noResp n = true) :
    s.bedrockOne op n noResp f =
      { (f s).1 with hub := (f s).1.hub.bedrockDone (at32 op 24 ||| at32 n.val 16) (f s).2 0 } := by
  unfold State.bedrockOne
  rw [if_neg (by simp [ht]), if_pos ha]

theorem State.bedrockOne_silent {f : State → State × Nat} (ht : s.hub.bedrockTakes op n.val = true) (ha : s.answers noResp n = false) :
    s.bedrockOne op n noResp f =
      { s with hub := s.hub.bedrockDone (at32 op 24 ||| at32 n.val 16) 1 (putBit 0 n.val true) } := by
  unfold State.bedrockOne
  rw [if_neg (by simp [ht]), if_neg (by simp [ha])]

section answered
variable (ha : s.answers noResp n = true)
include ha

theorem readStatus_answers (ht : s.hub.bedrockTakes 1 n.val = true) : exec (.readStatus n noResp) s = .next { s with
    hub := (s.hub.bedrockBuf [(s.bench n).modeWord, (s.bench n).bn.holdCause, (s.bench n).tmStatus s.hub, (s.bench n).peStatus,
      (s.bench n).faceStatus, (s.bench n).quoinStatus, (s.bench n).nlStatus, (s.bench n).bn.selftest]).bedrockDone
      (at32 1 24 ||| at32 n.val 16) 0 0 } :=
  (exec_readStatus ..).trans (congrArg Host.Outcome.next (State.bedrockOne_answers ht ha))

theorem readTime_answers (ht : s.hub.bedrockTakes 7 n.val = true) : exec (.readTime n noResp) s = .next { s with
    hub := (s.hub.bedrockBuf [lo32 s.hub.mref, hi32 s.hub.mref, lo32 (s.bench n).rail.now, hi32 (s.bench n).rail.now,
      (s.bench n).tmStatus s.hub]).bedrockDone (at32 7 24 ||| at32 n.val 16) 0 0 } :=
  (exec_readTime ..).trans (congrArg Host.Outcome.next (State.bedrockOne_answers ht ha))

theorem bedrockReset_answers (ht : s.hub.bedrockTakes 4 n.val = true) : exec (.bedrockReset n noResp) s = .next
    { s.putBench n ((s.bench n).resetTo 2) with
      hub := (s.putBench n ((s.bench n).resetTo 2)).hub.bedrockDone (at32 4 24 ||| at32 n.val 16) 0 0 } :=
  (exec_bedrockReset ..).trans (congrArg Host.Outcome.next (State.bedrockOne_answers ht ha))

theorem readRecord_answers (ht : s.hub.bedrockTakes 6 n.val = true) {r : List Word}
    (hr : Tbl.get none (s.bench n).hl.slots (fld s.hub.bdSlot 13 0) = some r) : exec (.readRecord n noResp) s = .next { s with
      hub := (s.hub.bedrockBuf (r.take 64)).bedrockDone (at32 6 24 ||| at32 n.val 16) (if recordOk r then 0 else 3) 0 } := by
  rw [exec_readRecord, execReadRecord, State.bedrockOne_answers ht ha]
  simp only [hr]

theorem readRecord_empty (ht : s.hub.bedrockTakes 6 n.val = true)
    (hr : Tbl.get none (s.bench n).hl.slots (fld s.hub.bdSlot 13 0) = none) : ∃ (l : List Word) (k : Nat),
    exec (.readRecord n noResp) s = .next { s with
      hub := ({ s.hub.bedrockBuf l with free := k }).bedrockDone (at32 6 24 ||| at32 n.val 16) 3 0 } := by
  rw [exec_readRecord, execReadRecord, State.bedrockOne_answers ht ha]
  simp only [hr]
  exact ⟨_, _, rfl⟩

end answered

/-- An operation on one bench that does not answer leaves the benches alone and names it. -/
theorem one_silent (hf : s.hub.bdOp = none) (ha : s.answers noResp n = false) {i : Instr}
    (hi : i ∈ [Instr.readStatus n noResp, .readTime n noResp, .bedrockReset n noResp, .readRecord n noResp]) : ∃ op,
    exec i s = .next { s with hub := s.hub.bedrockDone (at32 op 24 ||| at32 n.val 16) 1 (putBit 0 n.val true) } := by
  simp only [List.mem_cons, List.not_mem_nil, or_false] at hi
  have ht (op : Nat) := s.hub.bedrockTakes_of_none hf op n.val
  rcases hi with rfl | rfl | rfl | rfl
  · exact ⟨1, (exec_readStatus ..).trans (congrArg Host.Outcome.next (State.bedrockOne_silent (ht 1) ha))⟩
  · exact ⟨7, (exec_readTime ..).trans (congrArg Host.Outcome.next (State.bedrockOne_silent (ht 7) ha))⟩
  · exact ⟨4, (exec_bedrockReset ..).trans (congrArg Host.Outcome.next (State.bedrockOne_silent (ht 4) ha))⟩
  · exact ⟨6, (exec_readRecord ..).trans (congrArg Host.Outcome.next (State.bedrockOne_silent (ht 6) ha))⟩

theorem putBit_lt {i : Nat} (hi : i < 16) : (putBit (0 : Word) i true).toNat < 2 ^ 16 := by
  have key : ∀ i < 16, (putBit (0 : Word) i true).toNat < 2 ^ 16 := by decide
  exact key i hi

/-- The state that an operation on a mask ends in, but for the hub. -/
def State.bedrockEach (mask noResp : BitVec 16) (f : Bench → Bench) (s : State) : State :=
  ((maskList mask).filter fun n => s.answers noResp n).foldl (fun s n => s.putBench n (f (s.bench n))) s

theorem State.bedrockMask_eq {f : Bench → Bench} (ht : s.hub.bedrockTakes op mask.toNat = true) (hm : mask ≠ 0) :
    s.bedrockMask op mask noResp f = { s.bedrockEach mask noResp f with
      hub := (s.bedrockEach mask noResp f).hub.bedrockDone (at32 op 24 ||| at32 mask.toNat 0)
        (if s.silentOf noResp (maskList mask) = 0 then 0 else 1) (s.silentOf noResp (maskList mask)) } := by
  unfold State.bedrockMask
  rw [if_neg (by simp [ht]), if_neg hm]
  rfl

theorem State.bedrockMask_none {f : Bench → Bench} (ht : s.hub.bedrockTakes op (0 : BitVec 16).toNat = true) :
    s.bedrockMask op 0 noResp f = { s with hub := s.hub.bedrockDone (at32 op 24 ||| at32 (0 : BitVec 16).toNat 0) 2 0 } := by
  unfold State.bedrockMask
  rw [ht, if_neg (by decide), if_pos rfl]

theorem State.bedrockEach_spec (f : Bench → Bench) (s : State) (m : BenchIx) :
    (¬(bitOf mask m = true ∧ s.answers noResp m = true) → (s.bedrockEach mask noResp f).bench m = s.bench m) ∧
    (bitOf mask m = true ∧ s.answers noResp m = true → ∃ q, (s.bedrockEach mask noResp f).bench m = { f (s.bench m) with qn := q }) ∧
    (s.bedrockEach mask noResp f).pending = s.pending ∧ s.hub.Told (s.bedrockEach mask noResp f).hub := by
  obtain ⟨out, in_⟩ := State.foldl_putBench (fun s n => f (s.bench n)) (fun _ _ _ h => by rw [h])
    ((maskList mask).filter fun n => s.answers noResp n) ((maskList_nodup mask).filter _) s m
  have mem : m ∈ (maskList mask).filter (fun n => s.answers noResp n) ↔ bitOf mask m = true ∧ s.answers noResp m = true := by
    rw [List.mem_filter, mem_maskList]
  exact ⟨fun h => out (mt mem.mp h), fun h => in_ (mem.mpr h),
    foldl_keeps (g := State.pending) (fun s n => s.putBench_pending n _) _ s, State.foldl_putBench_told (fun s n => f (s.bench n)) _ s⟩

end operations

/-! ### The hold that the bedrock unit brings about -/

section hold
variable {b : Bench} (cls : Fin 4) (off : Bool)

theorem Bench.holdDefaults_bn (b : Bench) : ∃ d, b.holdDefaults.bn = { b.bn with defaultsHeld := d } ∧ d = true := by
  unfold Bench.holdDefaults
  split
  next h => exact ⟨true, by rw [← h], rfl⟩
  next => exact ⟨true, rfl, rfl⟩

theorem Bench.holdDefaults_points (b : Bench) : b.holdDefaults.points = b.points := by
  unfold Bench.holdDefaults
  split <;> rfl

theorem Bench.holdDefaults_nl (b : Bench) : b.holdDefaults.nl = b.nl := by
  unfold Bench.holdDefaults
  split <;> rfl

/-- RUN, SHADOW and HOLD are taken to HOLD, or kept there. -/
theorem Bench.bedrockHold_eq (h : b.bn.mode = .run ∨ b.bn.mode = .shadow ∨ b.bn.mode = .hold) :
    b.bedrockHold cls off = if off then (b.enterHold 2 cls).holdDefaults else b.enterHold 2 cls := by
  unfold Bench.bedrockHold
  rw [if_neg (by rcases h with h | h | h <;> simp [h]), if_pos (by rcases h with h | h | h <;> simp [h])]

theorem Bench.bedrockHold_none (h : b.bn.mode = .wake ∨ (b.bn.mode = .configure ∧ b.bn.trans = none)) : b.bedrockHold cls off = b := by
  unfold Bench.bedrockHold
  rcases h with h | ⟨h, h'⟩
  · simp [h]
  · simp [h, h']

theorem Bench.bedrockHold_active (h : b.bn.mode = .run ∨ b.bn.mode = .shadow) : (b.bedrockHold cls off).bn.mode = .hold ∧
    (b.bedrockHold cls off).bn.prev = b.bn.mode ∧ bitOf (b.bedrockHold cls off).bn.holdCause 1 = true := by
  obtain ⟨now, k, e⟩ := Bench.enterHold_bn h 2 cls
  have cause : bitOf (if b.midCycle then 2 ||| 0x100#32 else (2 : Word)) 1 = true := by split <;> rfl
  rw [bedrockHold_eq cls off (by tauto)]
  split
  · obtain ⟨d, hd, -⟩ := (b.enterHold 2 cls).holdDefaults_bn
    rw [hd, e]
    exact ⟨rfl, rfl, cause⟩
  · rw [e]
    exact ⟨rfl, rfl, cause⟩

theorem Bench.bedrockHold_held (h : b.bn.mode = .hold) : (b.bedrockHold cls off).bn.mode = .hold ∧
    (b.bedrockHold cls off).bn.holdCause = b.bn.holdCause ||| 2 ∧ (b.bedrockHold cls off).points = b.points := by
  rw [bedrockHold_eq cls off (.inr (.inr h)), enterHold_hold h]
  split
  · obtain ⟨d, hd, -⟩ := (b.setBn fun n => { n with holdCause := n.holdCause ||| 2 }).holdDefaults_bn
    rw [hd, holdDefaults_points]
    exact ⟨h, rfl, rfl⟩
  · exact ⟨h, rfl, rfl⟩

theorem Bench.bedrockHold_off (h : b.bn.mode = .run ∨ b.bn.mode = .shadow ∨ b.bn.mode = .hold) :
    (b.bedrockHold cls true).bn.defaultsHeld = true := by
  rw [bedrockHold_eq cls true h, if_pos rfl]
  obtain ⟨d, hd, hd'⟩ := (b.enterHold 2 cls).holdDefaults_bn
  rw [hd, hd']

theorem Bench.bedrockHold_cls (h : b.bn.mode = .run) : (b.bedrockHold cls false).nl.cls = cls := by
  rw [bedrockHold_eq cls false (.inl h), if_neg Bool.false_ne_true, enterHold_cls h]

end hold

/-- A reset takes the bench to WAKE with its snapshot kept and nothing in progress. -/
theorem Bench.resetTo_spec (start : Nat) (b : Bench) : (b.resetTo start).bn.mode = .wake ∧ (b.resetTo start).bn.start = start ∧
    (b.resetTo start).qc.inflight = [] ∧ (b.resetTo start).snap = b.snap := by
  refine ⟨rfl, rfl, rfl, ?_⟩
  unfold Bench.resetTo
  extract_lets b₁ b₂
  have h₁ : b₁.snap = b.snap := by
    unfold b₁ Bench.faultClass
    split <;> simp
  have h₂ : b₂.snap = b₁.snap := by
    unfold b₂
    split <;> simp
  have h₃ : b₂.cancelAll.snap = b₂.snap := foldl_keeps (g := Bench.snap) (fun _ _ => completeTag_snap ..) _ _
  exact (healthLost_snap _).trans (h₃.trans (h₂.trans h₁))

section mask
variable {s : State} {noResp mask : BitVec 16} {op : Nat} {cls : Fin 4} {off : Bool} {m : BenchIx}

/-- The three operations on a mask hold the benches they name. -/
theorem mask_operation {i : Instr} (hi : i ∈ [Instr.bedrockHold mask noResp, .outputsOff mask noResp, .releaseCustody mask noResp]) :
    ∃ op cls off, exec i s = .next (s.bedrockMask op mask noResp (Bench.bedrockHold cls off)) := by
  simp only [List.mem_cons, List.not_mem_nil, or_false] at hi
  rcases hi with rfl | rfl | rfl
  · exact ⟨2, 2, false, exec_bedrockHold ..⟩
  · exact ⟨3, 2, true, exec_outputsOff ..⟩
  · exact ⟨5, 3, false, exec_releaseCustody ..⟩

theorem State.bedrockMask_asked (ht : s.hub.bedrockTakes op mask.toNat = true)
    (ha : bitOf mask m = true ∧ s.answers noResp m = true) (f : Bench → Bench) :
    ∃ q, (s.bedrockMask op mask noResp f).bench m = { f (s.bench m) with qn := q } := by
  have hm : mask ≠ 0 := by
    rintro rfl
    exact absurd (ha.1.symm.trans BitVec.getLsbD_zero) (by decide)
  obtain ⟨-, in_, -⟩ := State.bedrockEach_spec (mask := mask) (noResp := noResp) f s m
  rw [State.bedrockMask_eq ht hm]
  exact in_ ha

theorem State.bedrockMask_other (ht : s.hub.bedrockTakes op mask.toNat = true)
    (ha : ¬(bitOf mask m = true ∧ s.answers noResp m = true)) (f : Bench → Bench) :
    (s.bedrockMask op mask noResp f).bench m = s.bench m := by
  by_cases hm : mask = 0
  · subst hm
    rw [State.bedrockMask_none ht]
    rfl
  · rw [State.bedrockMask_eq ht hm]
    exact (State.bedrockEach_spec (mask := mask) (noResp := noResp) f s m).1 ha

theorem State.bedrockHoldMask_cmd {f : Bench → Bench} (ht : s.hub.bedrockTakes op mask.toNat = true) (hg : bitOf s.hub.bdCmd 31 = false)
    (hl : s.hub.bdLost = false) (hm : mask ≠ 0) : (s.bedrockMask op mask noResp f).hub.bdCmd = at32 op 24 ||| at32 mask.toNat 0 := by
  obtain ⟨-, -, -, fn, sent, ev, e⟩ := State.bedrockEach_spec (mask := mask) (noResp := noResp) f s 0
  rw [State.bedrockMask_eq ht hm]
  refine (Hub.bedrockDone_kept _ (by rw [e]; exact hl) ..).1.trans (if_neg ?_)
  rw [e]
  exact ne_of_eq_of_ne hg Bool.false_ne_true

theorem State.bedrockHoldMask_spec (ht : s.hub.bedrockTakes op mask.toNat = true) (hl : s.hub.bdLost = false) (m : BenchIx) :
    (s.bedrockMask op mask noResp (Bench.bedrockHold cls off)).pending = s.pending ∧
    fld (s.bedrockMask op mask noResp (Bench.bedrockHold cls off)).hub.bdStat 18 16 =
      (if mask = 0 then 2 else if ∃ k : BenchIx, bitOf mask k = true ∧ s.answers noResp k = false then 1 else 0) ∧
    (mask ≠ 0 → (bitOf (s.bedrockMask op mask noResp (Bench.bedrockHold cls off)).hub.bdStat m = true ↔
      bitOf mask m = true ∧ s.answers noResp m = false)) ∧
    (¬(bitOf mask m = true ∧ s.answers noResp m = true) →
      (s.bedrockMask op mask noResp (Bench.bedrockHold cls off)).bench m = s.bench m) ∧
    (bitOf mask m = true ∧ s.answers noResp m = true → (s.bench m).bn.mode = .run ∨ (s.bench m).bn.mode = .shadow →
      ((s.bedrockMask op mask noResp (Bench.bedrockHold cls off)).bench m).bn.mode = .hold ∧
      ((s.bedrockMask op mask noResp (Bench.bedrockHold cls off)).bench m).bn.prev = (s.bench m).bn.mode ∧
      bitOf ((s.bedrockMask op mask noResp (Bench.bedrockHold cls off)).bench m).bn.holdCause 1 = true ∧
      ((s.bedrockMask op mask noResp (Bench.bedrockHold cls off)).bench m).outEn = false) ∧
    (bitOf mask m = true ∧ s.answers noResp m = true → (s.bench m).bn.mode = .hold →
      ((s.bedrockMask op mask noResp (Bench.bedrockHold cls off)).bench m).bn.mode = .hold ∧
      ((s.bedrockMask op mask noResp (Bench.bedrockHold cls off)).bench m).bn.holdCause = (s.bench m).bn.holdCause ||| 2 ∧
      ((s.bedrockMask op mask noResp (Bench.bedrockHold cls off)).bench m).points = (s.bench m).points) ∧
    (bitOf mask m = true ∧ s.answers noResp m = true →
      (s.bench m).bn.mode = .wake ∨ ((s.bench m).bn.mode = .configure ∧ (s.bench m).bn.trans = none) →
      ((s.bedrockMask op mask noResp (Bench.bedrockHold cls off)).bench m).bn = (s.bench m).bn ∧
      ((s.bedrockMask op mask noResp (Bench.bedrockHold cls off)).bench m).points = (s.bench m).points) := by
  have stat : (s.bedrockMask op mask noResp (Bench.bedrockHold cls off)).pending = s.pending ∧
      fld (s.bedrockMask op mask noResp (Bench.bedrockHold cls off)).hub.bdStat 18 16 =
        (if mask = 0 then 2 else if ∃ k : BenchIx, bitOf mask k = true ∧ s.answers noResp k = false then 1 else 0) ∧
      (mask ≠ 0 → (bitOf (s.bedrockMask op mask noResp (Bench.bedrockHold cls off)).hub.bdStat m = true ↔
        bitOf mask m = true ∧ s.answers noResp m = false)) := by
    by_cases hm : mask = 0
    · subst hm
      rw [State.bedrockMask_none ht, if_pos rfl]
      refine ⟨rfl, ?_, fun h => absurd rfl h⟩
      exact (congrArg (fld · 18 16) (s.hub.bedrockDone_kept hl _ 2 0).2.1).trans
        (bdStat_fields (result := 2) (by decide) (silent := 0) (by decide)).2.2.1
    · obtain ⟨-, -, pending, fn, sent, ev, e⟩ := State.bedrockEach_spec (mask := mask) (noResp := noResp) (Bench.bedrockHold cls off) s m
      rw [State.bedrockMask_eq ht hm, if_neg hm]
      have done := ((s.bedrockEach mask noResp (Bench.bedrockHold cls off)).hub.bedrockDone_kept (by rw [e]; exact hl)
        (at32 op 24 ||| at32 mask.toNat 0) (if s.silentOf noResp (maskList mask) = 0 then 0 else 1)
        (s.silentOf noResp (maskList mask))).2.1
      obtain ⟨-, -, result, low⟩ := bdStat_fields (result := if s.silentOf noResp (maskList mask) = 0 then 0 else 1) (by split <;> decide)
        (s.silentOf_lt noResp mask)
      refine ⟨pending, (congrArg (fld · 18 16) done).trans (result.trans ?_), fun _ => ?_⟩
      · rw [← ite_not, if_congr (not_congr (s.silentOf_eq_zero noResp mask)) rfl rfl]
        simp only [not_not]
      · rw [show bitOf _ m.val = bitOf _ m.val from (congrArg (bitOf · m.val) done).trans (low _ m.isLt),
          s.silentOf_bit noResp mask (by omega)]
        constructor
        · rintro ⟨k, hk, h⟩
          rwa [Fin.ext hk] at h
        · exact fun h => ⟨m, rfl, h⟩
  refine ⟨stat.1, stat.2.1, stat.2.2, fun h => State.bedrockMask_other ht h _, fun ha hm => ?_, fun ha hm => ?_, fun ha hm => ?_⟩
  all_goals
    obtain ⟨q, e⟩ := State.bedrockMask_asked ht ha (Bench.bedrockHold cls off)
    rw [e]
  · obtain ⟨mode, prev, cause⟩ := Bench.bedrockHold_active cls off hm
    exact ⟨mode, prev, cause, by simp [Bench.outEn, mode]⟩
  · exact Bench.bedrockHold_held cls off hm
  · rw [Bench.bedrockHold_none cls off hm]
    exact ⟨rfl, rfl⟩

end mask

/-- Settles O53: the operations on one bench and on a mask, each from its write of GO to its end. -/
theorem bedrockActsOnTheBenchesThatAnswer : Obligations.BedrockActsOnTheBenchesThatAnswer := by
  intro s n m mask silent i j one two r v b asked before done tell oneCmd maskCmd free going
  -- the operation that ends keeps its command and its result
  have ended {h : Hub} {cmd : Word} {result : Nat} {u : State} (hu : u.hub = h.bedrockDone cmd result 0) (hp : u.pending = s.pending)
      (hf : bitOf h.bdCmd 31 = false) (hl : h.bdLost = false) (hr : result < 8) : done u cmd result := by
    obtain ⟨e1, e2, -⟩ := h.bedrockDone_kept hl cmd result 0
    obtain ⟨b30, b31, res, -⟩ := bdStat_fields hr (silent := 0) (by decide)
    rw [← hu] at e1 e2
    rw [← e2] at b30 b31 res
    exact ⟨hp, e1.trans (if_neg (by simp [hf])), b30, b31, res⟩
  have takes (hf : free) (op target : Nat) : s.hub.bedrockTakes op target = true := s.hub.bedrockTakes_of_none hf.1 op target
  refine ⟨?busy, ?write, ?status, ?answered, ?silent, ?masks, ?holds, ?offs, ?releases⟩
  case busy =>
    intro x hx
    have one {op : Nat} {k : BenchIx} {f : State → State × Nat} (hn : x ≠ (op, k.val)) : s.bedrockOne op k silent f = s := by
      unfold State.bedrockOne
      rw [if_pos (by simp [s.hub.bedrockTakes_of_other hx hn])]
    have many {op : Nat} {f : Bench → Bench} (hn : x ≠ (op, mask.toNat)) : s.bedrockMask op mask silent f = s := by
      unfold State.bedrockMask
      rw [if_pos (by simp [s.hub.bedrockTakes_of_other hx hn])]
    exact ⟨fun h => congrArg Host.Outcome.next (one h), fun h => congrArg Host.Outcome.next (one h),
      fun h => congrArg Host.Outcome.next (one h), fun h => congrArg Host.Outcome.next (one h),
      fun h => congrArg Host.Outcome.next (many h), fun h => congrArg Host.Outcome.next (many h),
      fun h => congrArg Host.Outcome.next (many h)⟩
  case write =>
    intro hb
    have hw : s.hub.bedrockWrite v = { s.hub with bdCmd := v &&& 0x070FFFFF#32 ||| at32 1 31 } := if_pos hb
    refine ⟨{ s with hub := s.hub.bedrockWrite v }, rfl, rfl, ?_⟩
    rw [hw]
    have field {hi lo : Nat} (h1 : fld (0x070FFFFF#32) hi lo = 2 ^ (hi - lo + 1) - 1) (h2 : fld (at32 1 31) hi lo = 0) :
        fld (v &&& 0x070FFFFF#32 ||| at32 1 31) hi lo = fld v hi lo := by
      rw [fld_or, fld_and, h1, h2, Nat.and_two_pow_sub_one_eq_mod]
      exact (Nat.or_zero _).trans (Nat.mod_eq_of_lt (fld_lt ..))
    refine ⟨rfl, rfl, ?_, field rfl rfl, field rfl rfl, field rfl rfl⟩
    rw [bitOf_or, bitOf_at32 (by decide)]
    exact Bool.or_true _
  case status =>
    rintro ⟨hop, hgo⟩
    have ht : s.hub.bedrockTakes 1 n.val = true := s.hub.bedrockTakes_of_this hop
    -- either way the hub ends the operation, with its other bedrock registers as they were
    have ends {h : Hub} {result : Nat} {unheard : Word} (hcmd : h.bdCmd = s.hub.bdCmd) (hlost : h.bdLost = s.hub.bdLost)
        (hr : result < 8) (hs : unheard.toNat < 2 ^ 16)
        (he : exec (.readStatus n silent) s = .next { s with hub := h.bedrockDone (oneCmd 1) result unheard }) :
        tell (.readStatus n silent) fun u => u.hub.bdCmd = s.hub.bdCmd &&& 0x7FFFFFFF#32 ∧ u.benches = s.benches ∧
          (s.hub.bdLost = false → bitOf u.hub.bdStat 30 = true) ∧ (s.hub.bdLost = true → u.hub.bdStat = 0 ∧ u.hub.bdLost = false) := by
      refine ⟨_, he, ?_, rfl, fun hl => ?_, fun hl => ?_⟩
      · cases hl : h.bdLost
        · exact (h.bedrockDone_kept hl _ result unheard).1.trans (by rw [hcmd, if_pos hgo])
        · exact (h.bedrockDone_lost hl _ result unheard).1.trans (by rw [hcmd, if_pos hgo])
      · have e := (h.bedrockDone_kept (hlost.trans hl) (oneCmd 1) result unheard).2.1
        exact (congrArg (bitOf · 30) e).trans (bdStat_fields hr hs).1
      · exact (h.bedrockDone_lost (hlost.trans hl) (oneCmd 1) result unheard).2
    cases ha : s.answers silent n
    · exact ends rfl rfl (by decide) (putBit_lt n.isLt) ((exec_readStatus ..).trans (congrArg Host.Outcome.next (State.bedrockOne_silent ht ha)))
    · exact ends (s.hub.bedrockBuf_bdCmd _) (s.hub.bedrockBuf_bdLost _) (by decide) (by decide) (readStatus_answers ha ht)
  case answered =>
    intro hf ha
    have ht (op : Nat) := takes hf op n.val
    obtain ⟨-, hgo, hlost⟩ := hf
    have buf (l : List Word) (op result : Nat) (k : Nat) (hk : k < 64) (hl : k < l.length) :
        ((s.hub.bedrockBuf l).bedrockDone (oneCmd op) result 0).bdBuf[k] = l[k] := by
      have e := ((s.hub.bedrockBuf l).bedrockDone_kept hlost (oneCmd op) result 0).2.2.1
      exact (congrArg (fun v : Vector Word 64 => v[k]) e).trans (s.hub.bedrockBuf_get hk hl)
    have endedHere {h : Hub} {cmd : Word} {result : Nat} (hc : h.bdCmd = s.hub.bdCmd) (hl : h.bdLost = s.hub.bdLost) (hr : result < 8) :
        done { s with hub := h.bedrockDone cmd result 0 } cmd result :=
      ended (u := { s with hub := h.bedrockDone cmd result 0 }) rfl rfl (by rw [hc]; exact hgo) (hl.trans hlost) hr
    refine ⟨?_, ?_, ?_, fun hr hlen => ?_, fun hr => ?_⟩
    · refine ⟨_, readStatus_answers ha (ht 1), endedHere (Hub.bedrockBuf_bdCmd ..) (Hub.bedrockBuf_bdLost ..) (by decide), rfl, ?_⟩
      refine (buf _ 1 0 j.val (by omega) ?_).trans ?_
      · exact j.isLt
      · fin_cases j <;> rfl
    · refine ⟨_, readTime_answers ha (ht 7), endedHere (Hub.bedrockBuf_bdCmd ..) (Hub.bedrockBuf_bdLost ..) (by decide), rfl, ?_⟩
      refine (buf _ 7 0 i.val (by omega) ?_).trans ?_
      · exact i.isLt
      · fin_cases i <;> rfl
    · have he := bedrockReset_answers ha (ht 4)
      have only := s.putBench_only n ((s.bench n).resetTo 2)
      have told := s.putBench_told n ((s.bench n).resetTo 2)
      have hb := s.putBench_bench n ((s.bench n).resetTo 2)
      obtain ⟨hm, hst, hin, hsn⟩ := b.resetTo_spec 2
      generalize s.putBench n ((s.bench n).resetTo 2) = t at he only told hb
      generalize (s.bench n).resetTo 2 = x at hb hm hst hin hsn
      obtain ⟨fn, sent, ev, e⟩ := told
      obtain ⟨q, hb⟩ := hb
      have hgo' : bitOf t.hub.bdCmd 31 = false := by rw [e]; exact hgo
      have hlost' : t.hub.bdLost = false := by rw [e]; exact hlost
      refine ⟨_, he, ended rfl only.2 hgo' hlost' (by decide), only, ?_⟩
      change (t.bench n).bn.mode = _ ∧ (t.bench n).bn.start = _ ∧ (t.bench n).qc.inflight = _ ∧ (t.bench n).snap = _
      rw [hb]
      exact ⟨hm, hst, hin, hsn⟩
    · refine ⟨_, readRecord_answers ha (ht 6) hr, endedHere (Hub.bedrockBuf_bdCmd ..) (Hub.bedrockBuf_bdLost ..) (by split <;> decide), rfl, ?_⟩
      have e := ((s.hub.bedrockBuf (r.take 64)).bedrockDone_kept hlost (oneCmd 6) (if recordOk r then 0 else 3) 0).2.2.1
      have all : r.take 64 = r := List.take_of_length_le hlen.le
      exact (congrArg Vector.toList e).trans ((s.hub.bedrockBuf_toList (by rw [all, hlen])).trans all)
    · obtain ⟨l, k, he⟩ := readRecord_empty ha (ht 6) hr
      exact ⟨_, he, endedHere (h := { s.hub.bedrockBuf l with free := k }) rfl rfl (by decide), rfl⟩
  case silent =>
    intro hf ha hi
    obtain ⟨op, he⟩ := one_silent hf.1 ha hi
    obtain ⟨-, e, -, err⟩ := s.hub.bedrockDone_kept hf.2.2 (oneCmd op) 1 (putBit 0 n.val true)
    have bit : bitOf (putBit (0 : Word) n.val true) n.val = true := bitOf_putBit_self _ _ (by omega)
    obtain ⟨-, -, res, low⟩ := bdStat_fields (result := 1) (by decide) (putBit_lt n.isLt)
    refine ⟨_, he, rfl, rfl, (congrArg (fld · 18 16) e).trans res, err fun h0 => ?_,
      (congrArg (bitOf · n.val) e).trans ((low _ n.isLt).trans bit)⟩
    rw [h0] at bit
    exact absurd bit (by rw [bitOf, show (0 : Word).getLsbD n.val = false from BitVec.getLsbD_zero]; exact Bool.false_ne_true)
  case masks =>
    intro hf hi
    obtain ⟨op, cls, off, he⟩ := mask_operation hi
    refine ⟨_, he, ?_⟩
    obtain ⟨pending, result, noresp, out, active, held, idle⟩ :=
      State.bedrockHoldMask_spec (op := op) (cls := cls) (off := off) (noResp := silent) (takes hf op mask.toNat) hf.2.2 m
    refine ⟨pending, out, fun h0 => ?_, fun h0 => ⟨?_, noresp h0⟩, active, held, idle⟩
    · rw [result, if_pos h0]
    · rw [result, if_neg h0]
  case holds =>
    intro hf
    exact ⟨_, exec_bedrockHold .., State.bedrockHoldMask_cmd (takes hf ..) hf.2.1 hf.2.2⟩
  case offs =>
    intro hf
    refine ⟨_, exec_outputsOff .., State.bedrockHoldMask_cmd (takes hf ..) hf.2.1 hf.2.2, fun ha hm => ?_⟩
    obtain ⟨q, e⟩ := State.bedrockMask_asked (takes hf 3 mask.toNat) ha (Bench.bedrockHold 2 true)
    rw [e]
    exact Bench.bedrockHold_off 2 hm
  case releases =>
    intro hf
    refine ⟨_, exec_releaseCustody .., State.bedrockHoldMask_cmd (takes hf ..) hf.2.1 hf.2.2, fun ha hm => ?_⟩
    obtain ⟨q, e⟩ := State.bedrockMask_asked (takes hf 5 mask.toNat) ha (Bench.bedrockHold 3 false)
    obtain ⟨mode, -⟩ := Bench.bedrockHold_active (b := s.bench m) 3 false (.inl hm)
    rw [e]
    refine ⟨?_, Bench.bedrockHold_cls 3 hm⟩
    simp [Bench.custOut, Bench.outEn, mode]

end Sys2Proof.Machine
end

section
/-!
Host writes, queues and function resets
-/

namespace Sys2Proof.Machine

/-! ### Registers without a row of their own -/

/-- Bench 0 in CONFIGURE. -/
def configuring : State :=
  State.reset.withBench 0 { Bench.atReset 0 with bn := { (Bench.atReset 0).bn with mode := .configure } }

/-- Writes that bench 0 has counted as rejected after an instruction. -/
def rejectedAfter (i : Instr) (s : State) : Option Word :=
  match exec i s with
  | .next t => some (t.bench 0).bn.windowRej
  | _ => none

/-- A reserved word of a loop's table entry: its mask is 0. -/
theorem configuring_reserved : confMask 0xA044 = some 0 ∧ (configuring.bench 0).bn.mode = .configure ∧
    faceReserved 0xA044 0 = false ∧ (configuring.bench 0).bn.windowRej = 0 := by
  decide +kernel

theorem configuring_counts : rejectedAfter (.registerWrite 1 0xA044 0) configuring = some 1 := by
  decide +kernel

/-- Refutes O47: in CONFIGURE too, a write of a reserved word of a loop's table entry, whose mask is 0, is counted as
rejected, and the clause of configuration words claims that the bench's registers stay. -/
theorem not_writesFollowTheirAccessCode : ¬ Obligations.WritesFollowTheirAccessCode := by
  intro h
  obtain ⟨hmask, hmode, hface, hrej⟩ := configuring_reserved
  obtain ⟨-, conf, -⟩ := h configuring 0 0xA044 0 0 0 0 0 0
  obtain ⟨u, he, -, -, -, -, hbn⟩ := (conf hmask).1 hmode hface
  have after : rejectedAfter (.registerWrite 1 0xA044 0) configuring = some (u.bench 0).bn.windowRej := by
    rw [rejectedAfter, show (1 : FnIx) = (0 : BenchIx).succ from rfl, he]
  rw [configuring_counts, hbn, hrej] at after
  exact absurd after (by decide)
/-! ### Doorbells, queues and coalesced vectors (R512 to R515, R534) -/

section queues
variable {s : State} {n : BenchIx} {b : Bench} {q : Fin 4} {v : Word}

@[simp] theorem upd_self {α : Type} {n : Nat} (w : Vector α n) (i : Fin n) (f : α → α) : (upd w i f)[i] = f w[i] := by simp [upd]
theorem upd_other {α : Type} {n : Nat} (w : Vector α n) {i j : Fin n} (f : α → α) (h : j ≠ i) : (upd w i f)[j] = w[j] := by
  simpa [upd] using Vector.getElem_set_ne i.isLt j.isLt fun e => h (Fin.ext e.symm)

@[simp] theorem Bench.vector_q (v : Nat) (b : Bench) : (b.vector v).qc.q = b.qc.q := by unfold Bench.vector; split <;> rfl
@[simp] theorem Bench.vector_inflight (v : Nat) (b : Bench) : (b.vector v).qc.inflight = b.qc.inflight := by
  unfold Bench.vector; split <;> rfl
@[simp] theorem Bench.vector_err (v : Nat) (b : Bench) : (b.vector v).qc.err = b.qc.err := by unfold Bench.vector; split <;> rfl
@[simp] theorem Bench.vector_dbBad (v : Nat) (b : Bench) : (b.vector v).qc.dbBad = b.qc.dbBad := by
  unfold Bench.vector; split <;> rfl
theorem Bench.vector_unmasked {v : Nat} (h : bitOf b.fn.mask v = false) : (b.vector v).qc.sent = b.qc.sent ++ [.vector v] := by
  unfold Bench.vector; rw [if_neg (by simp [h])]
theorem Bench.vector_masked {v : Nat} (hv : v < 8) (h : bitOf b.fn.mask v = true) :
    bitOf (b.vector v).fn.pend v = true ∧ (b.vector v).qc = b.qc := by
  unfold Bench.vector; rw [if_pos h]; exact ⟨bitOf_putBit_self _ _ hv, rfl⟩

@[simp] theorem Bench.qcError_q (i : Nat) (b : Bench) : (b.qcError i).qc.q = b.qc.q := vector_q ..
@[simp] theorem Bench.qcError_inflight (i : Nat) (b : Bench) : (b.qcError i).qc.inflight = b.qc.inflight := vector_inflight ..
@[simp] theorem Bench.qcError_dbBad (i : Nat) (b : Bench) : (b.qcError i).qc.dbBad = b.qc.dbBad := vector_dbBad ..
theorem Bench.qcError_bit {i : Nat} (hi : i < 32) (b : Bench) : bitOf (b.qcError i).qc.err i = true := by
  unfold Bench.qcError; rw [vector_err]; exact bitOf_putBit_self _ _ hi

@[simp] theorem Bench.setQueue_self (q : Fin 4) (f : Queue → Queue) (b : Bench) : (b.setQueue q f).qc.q[q] = f b.qc.q[q] := upd_self ..
theorem Bench.setQueue_other {q r : Fin 4} (f : Queue → Queue) (b : Bench) (h : r ≠ q) :
    (b.setQueue q f).qc.q[r] = b.qc.q[r] := upd_other _ _ h

theorem exec_bell {bell : Instr}
    (h : bell = (#v[.dbCmdTail n v, .dbCplHead n v, .dbStrHead n v, .dbEvtHead n v] : Vector Instr 4)[q]) :
    exec bell s = s.onBench n (Bench.doorbell q v) := by
  subst h
  match q with
  | 0 => rfl
  | 1 => rfl
  | 2 => rfl
  | 3 => rfl

theorem Queue.badBell_iff {x : Queue} {v : Nat} : x.badBell (Decidable.decide (q ≠ 0)) v = true ↔
    x.depth ≤ v ∨ (q ≠ 0 ∧ x.used < (v + x.depth - x.head) % x.depth) := by
  simp [badBell]

theorem Queue.badBell_of_good {x : Queue} {v : Nat} (hv : v < x.depth)
    (hh : q ≠ 0 → (v + x.depth - x.head) % x.depth ≤ x.used) : ¬x.badBell (Decidable.decide (q ≠ 0)) v = true := by
  rw [badBell_iff]
  rintro (h | ⟨h0, h⟩)
  · omega
  · exact absurd (hh h0) (by omega)

theorem Bench.doorbell_of_good (hen : (b.qc.q[q]).en = true) (hb : ¬(b.qc.q[q]).badBell (Decidable.decide (q ≠ 0)) v.toNat = true) :
    b.doorbell q v = b.doorbellSeen.setQueue q fun x =>
      if q ≠ 0 then { x with head := v.toNat } else { x with tail := v.toNat } := by
  unfold Bench.doorbell
  have hn : ¬(!(b.qc.q[q]).en) = true := by rw [hen]; decide
  exact (if_neg hb).trans (if_neg hn)

theorem Bench.doorbell_of_bad (hb : (b.qc.q[q]).badBell (Decidable.decide (q ≠ 0)) v.toNat = true) :
    b.doorbell q v = Bench.qcError 0 { b.doorbellSeen with qc := { b.doorbellSeen.qc with dbBad := inc b.qc.dbBad } } := by
  unfold Bench.doorbell
  exact if_pos hb

theorem Bench.doorbell_of_off (hen : (b.qc.q[q]).en = false) (hb : ¬(b.qc.q[q]).badBell (Decidable.decide (q ≠ 0)) v.toNat = true) :
    b.doorbell q v = b.doorbellSeen := by
  unfold Bench.doorbell
  have hn : (!(b.qc.q[q]).en) = true := by rw [hen]; decide
  exact (if_neg hb).trans (if_pos hn)

theorem Bench.enableQueue_of_bad (hb : (b.qc.q[q]).depth < 2 ∨ 4096 < (b.qc.q[q]).depth ∨
    (q = 2 ∧ (b.qc.q[q]).depth * (b.qc.q[q]).esz < 131072)) : b.enableQueue q v = b.qcError 4 := by
  unfold Bench.enableQueue
  exact if_pos (by simpa [or_assoc] using hb)

theorem Bench.enableQueue_of_good (h2 : 2 ≤ (b.qc.q[q]).depth) (h4 : (b.qc.q[q]).depth ≤ 4096)
    (hs : q = 2 → 131072 ≤ (b.qc.q[q]).depth * (b.qc.q[q]).esz) :
    b.enableQueue q v = b.setQueue q fun x => { x with ctrl := v &&& 0xC0FFFFFF, head := 0, tail := 0, phase := true } := by
  unfold Bench.enableQueue
  refine if_neg ?_
  simp only [Bool.or_eq_true, Bool.and_eq_true, decide_eq_true_eq]
  rintro ((h | h) | ⟨hq, h⟩)
  · omega
  · omega
  · exact absurd (hs hq) (by omega)

theorem Bench.writeQcCtrl_enables (hen : (b.qc.q[q]).en = false) (v : Word) :
    b.writeQcCtrl q (putBit v 31 true) = b.enableQueue q (putBit v 31 true) := by
  unfold Bench.writeQcCtrl
  dsimp only
  rw [hen, bitOf_putBit_self _ _ (by decide)]
  exact if_pos rfl

theorem Bench.writeQcCtrl_disables (hen : (b.qc.q[q]).en = true) (v : Word) :
    b.writeQcCtrl q (putBit v 31 false) = b.disableQueue q (putBit v 31 false) := by
  unfold Bench.writeQcCtrl
  dsimp only
  rw [hen, bitOf_putBit_self _ _ (by decide)]
  exact (if_neg (by decide)).trans (if_pos rfl)

theorem bitOf_and (v w : Word) (i : Nat) : bitOf (v &&& w) i = (bitOf v i && bitOf w i) := BitVec.getLsbD_and

@[simp] theorem Bench.counted_inflight (q : Fin 4) (v : Nat) (b : Bench) : (b.counted q v).qc.inflight = b.qc.inflight := by
  unfold Bench.counted
  extract_lets x y
  split
  · exact vector_inflight ..
  · rfl

@[simp] theorem Bench.postCompletion_inflight (tag : BitVec 16) (noirq : Bool) (st : Status) (r : Nat) (b : Bench) :
    (b.postCompletion tag noirq st r).qc.inflight = b.qc.inflight := by
  unfold Bench.postCompletion; dsimp only; (repeat' split) <;> simp

theorem Bench.completeTag_inflight (tag : BitVec 16) (noirq : Bool) (st : Status) (r : Nat) (b : Bench) :
    (b.completeTag tag noirq st r).qc.inflight = b.qc.inflight.eraseP fun f => f.tag == tag := by
  unfold Bench.completeTag
  split
  · split
    · rfl
    · rw [postCompletion_inflight]; rfl
  next h => rw [postCompletion_inflight, List.eraseP_of_forall_not (List.find?_eq_none.1 h)]

/-- A command of one's own that is in flight completes with its own interrupt choice. -/
theorem Bench.completeTag_sent {tag : BitVec 16} {f : InFlight} (noirq : Bool) (st : Status) (r : Nat)
    (hf : b.qc.findTag tag = some f) (ha : b.Answers { bench := n, tag := tag }) :
    Completed { bench := n, tag := tag } st r b (b.completeTag tag noirq st r) := by
  obtain ⟨hen, ho⟩ := ha
  have hm : f.tag = tag := by simpa using List.find?_some hf
  have hn : f.orphan = false := ho f (List.mem_of_find?_eq_some hf) hm
  unfold Bench.completeTag
  rw [hf]
  dsimp only
  rw [if_neg (by simp [hn])]
  obtain ⟨ph, hd, l, hl⟩ := Bench.postCompletion_sent (b := b.dropTag tag) tag noirq st r hen
  exact ⟨[], ph, hd, l, by rw [hl, List.append_nil]; rfl⟩

theorem Qc.findTag_tag {tag : BitVec 16} {f : InFlight} {x : Qc} (h : x.findTag tag = some f) : f.tag = tag := by
  simpa using List.find?_some h

theorem exec_hostReadError_entry : exec (.hostReadError n q none) s =
    s.onBench n fun b => (b.setQueue q fun x => { x with error := true }).qcError 1 := rfl

theorem exec_hostReadError_of_found {tag : BitVec 16} {f : InFlight} (hf : (s.bench n).qc.findTag tag = some f) :
    exec (.hostReadError n q (some tag)) s = s.onBench n fun b => b.completeTag tag f.noirq .checkFailed 0 := by
  obtain rfl := Qc.findTag_tag hf
  simp only [exec_hostReadError, execHostReadError, State.onBench, hf]

theorem exec_hostReadError_of_not_found {tag : BitVec 16} (hf : (s.bench n).qc.findTag tag = none) :
    exec (.hostReadError n q (some tag)) s = s.onBench n fun b => b := by
  simp only [exec_hostReadError, execHostReadError, State.onBench, hf]

theorem Bench.coalesced_due {v : Nat} (hi : (b.qc.q[q]).ien = true) (hc : 0 < (b.qc.q[q]).counted)
    (ht : (b.qc.q[q]).firstAt + (b.qc.q[q]).itime * 1000 ≤ b.rail.up) :
    b.coalesced q v = (b.setQueue q fun x => { x with counted := 0 }).vector v := by
  unfold Bench.coalesced
  refine if_pos ?_
  simp only [Bool.and_eq_true, decide_eq_true_eq]
  exact ⟨⟨hi, hc⟩, ht⟩

theorem Bench.coalesced_idle {v : Nat} (h : (b.qc.q[q]).ien = false ∨ (b.qc.q[q]).counted = 0 ∨
    b.rail.up < (b.qc.q[q]).firstAt + (b.qc.q[q]).itime * 1000) : b.coalesced q v = b := by
  unfold Bench.coalesced
  refine if_neg ?_
  simp only [Bool.and_eq_true, decide_eq_true_eq]
  rintro ⟨⟨hi, hc⟩, ht⟩
  rcases h with h | h | h
  · rw [h] at hi; cases hi
  · exact hc.ne' h
  · exact Nat.not_le.2 h ht

/-- The queue of an interrupt's timer: that of completions or that of events, whose vectors have their numbers. -/
def timedQueue (events : Bool) : Fin 4 := if events then 3 else 1

theorem exec_coalesceTimeout (t : Nat) (events : Bool) : exec (.interruptCoalesceTimeout n t events) s =
    s.onBench n fun b => (b.tick t).coalesced (timedQueue events) (timedQueue events).val := by
  cases events <;> rfl

end queues

/-- Settles O48. -/
theorem queuesFollowTheirDoorbells : Obligations.QueuesFollowTheirDoorbells := by
  intro s n t v q bell tag f events b x y e others
  refine ⟨fun hb => ⟨fun hen hv hh => ?_, fun hbad => ?_, fun hen hv hh => ?_⟩, fun hen h2 h4 hs => ?_, fun hen hbad => ?_,
    fun hen => ?_, ?_, fun hf ha => ?_, fun hf => ?_, fun hi hc ht => ?_, fun h => ?_⟩
  · have hd := Bench.doorbell_of_good hen (Queue.badBell_of_good hv hh)
    refine gives_of_onBench (exec_bell hb) fun _ => ?_
    rw [hd]
    refine ⟨⟨fun j hj => Bench.setQueue_other _ _ hj, rfl, rfl⟩, rfl, rfl, ?_⟩
    refine (Bench.setQueue_self ..).trans ?_
    by_cases h0 : q = 0
    · exact (if_neg fun h => h h0).trans (if_pos h0).symm
    · exact (if_pos h0).trans (if_neg h0).symm
  · have hd := Bench.doorbell_of_bad (Queue.badBell_iff.2 hbad)
    refine gives_of_onBench (exec_bell hb) fun _ => ?_
    rw [hd]
    refine ⟨Bench.qcError_q .., Bench.qcError_dbBad .., Bench.qcError_bit (by decide) _, ?_, Bench.qcError_points ..⟩
    exact congrArg Bn.hostAt (Bench.qcError_bn ..)
  · have hd := Bench.doorbell_of_off hen (Queue.badBell_of_good hv hh)
    refine gives_of_onBench (exec_bell hb) fun _ => ?_
    rw [hd]
    exact ⟨rfl, rfl, rfl⟩
  · refine gives_of_onBench (exec_queueEnable ..) fun _ => ?_
    rw [Bench.writeQcCtrl_enables hen, Bench.enableQueue_of_good h2 h4 hs]
    refine ⟨⟨fun j hj => Bench.setQueue_other _ _ hj, rfl, rfl⟩, ?_⟩
    dsimp only
    rw [Bench.setQueue_self]
    refine ⟨?_, rfl, rfl, rfl, rfl, rfl⟩
    simp [Queue.en, bitOf_and]
    decide
  · refine gives_of_onBench (exec_queueEnable ..) fun _ => ?_
    rw [Bench.writeQcCtrl_enables hen, Bench.enableQueue_of_bad hbad]
    exact ⟨Bench.qcError_q .., Bench.qcError_bit (by decide) _, Bench.qcError_bn ..⟩
  · refine gives_of_onBench (f := Bench.writeQcCtrl q (putBit v 31 false)) rfl fun _ => ?_
    rw [Bench.writeQcCtrl_disables hen]
    unfold Bench.disableQueue
    refine ⟨⟨fun j hj => Bench.setQueue_other _ _ hj, rfl, rfl⟩, ?_⟩
    dsimp only
    rw [Bench.setQueue_self]
    refine ⟨?_, rfl, rfl, rfl, rfl, rfl⟩
    simp [Queue.en, bitOf_and]
  · refine gives_of_onBench exec_hostReadError_entry fun _ => ?_
    refine ⟨⟨fun j hj => ?_, Bench.qcError_points .., congrArg Bn.mode (Bench.qcError_bn ..)⟩, ?_,
      Bench.qcError_bit (by decide) _, Bench.qcError_inflight .., Bench.qcError_bn ..⟩
    · dsimp only
      rw [Bench.qcError_q, Bench.setQueue_other _ _ hj]
    · dsimp only
      rw [Bench.qcError_q, Bench.setQueue_self]
  · refine gives_of_onBench (exec_hostReadError_of_found hf) fun _ => ?_
    refine ⟨Bench.completeTag_sent _ _ _ hf ha, ?_, Bench.completeTag_points .., Bench.completeTag_bn ..⟩
    dsimp only
    rw [Bench.completeTag_inflight]
    have hpos := List.length_pos_of_mem (List.mem_of_find?_eq_some hf)
    exact (congrArg (· + 1) (List.length_eraseP_of_mem (List.mem_of_find?_eq_some hf) (List.find?_some hf))).trans
      (Nat.sub_add_cancel hpos)
  · exact gives_of_onBench (exec_hostReadError_of_not_found hf) fun _ => ⟨rfl, rfl⟩
  · refine gives_of_onBench (exec_coalesceTimeout ..) fun _ => ?_
    have he : timedQueue events = e := rfl
    rw [he, show ((s.bench n).tick t).coalesced e e.val = _ from Bench.coalesced_due hi hc ht]
    refine ⟨?_, fun h => Bench.vector_unmasked h, fun h => ?_, Bench.vector_points ..⟩
    · dsimp only
      rw [Bench.vector_q, Bench.setQueue_self]
    · obtain ⟨hp, hq⟩ := Bench.vector_masked (b := y.setQueue e fun x => { x with counted := 0 }) (by omega) h
      exact ⟨hp, (congrArg Qc.sent hq :)⟩
  · refine gives_of_onBench (exec_coalesceTimeout ..) fun _ => ?_
    have he : timedQueue events = e := rfl
    rw [he, show ((s.bench n).tick t).coalesced e e.val = _ from Bench.coalesced_idle h]
    exact ⟨rfl, rfl, rfl⟩
/-! ### Taking a command while an item of the host waits -/

/-- Bench 0 in CONFIGURE with an entry in its command queue and room for completions, and with an item of the host that
still waits for its place in an event queue. -/
def hostItemWaits : State :=
  State.reset.withBench 0 { Bench.atReset 0 with
    bn := { (Bench.atReset 0).bn with mode := .configure }
    qc := { q := ((Vector.replicate 4 {}).set 0 { size := 16, ctrl := 0x80000000, tail := 1 }).set 1 { size := 16, ctrl := 0x80000000 } }
    sc := { hostItem := some {} } }

/-- A packet whose opcode only the mailbox takes. -/
def guardPacket : Packet := { w0 := 0x0E01, w1 := 0 }

/-- The head of the command queue of bench 0 after an instruction. -/
def commandHeadAfter (i : Instr) (s : State) : Option Nat :=
  match exec i s with
  | .next t => some (t.bench 0).qc.q[(0 : Fin 4)].head
  | _ => none

theorem hostItemWaits_ok :
    let b := hostItemWaits.bench 0
    let q := b.qc.q[(0 : Fin 4)]
    let cpl := b.qc.q[(1 : Fin 4)]
    (b.ix = 0 ∧ b.bn.mode ≠ .wake ∧ q.en = true ∧ q.error = false ∧ 0 < q.used ∧ cpl.en = true ∧ b.qc.reserved < cpl.room ∧
      b.qc.inflight.length < 64 ∧ (pktFence guardPacket = true → b.qc.inflight = [])) ∧
    pktOpcode guardPacket / 256 = 14 ∧ (q.head + 1) % q.depth = 1 := by
  decide +kernel

theorem hostItemWaits_takes_nothing : commandHeadAfter (.commandTake 0 guardPacket) hostItemWaits = some 0 := by
  decide +kernel

/-- Refutes O49: the conditions of a take leave out that no item of the host may wait. While one does, the entry stays in
the queue. -/
theorem not_commandsAreTakenAndRecordsWritten : ¬ Obligations.CommandsAreTakenAndRecordsWritten := by
  intro h
  obtain ⟨hok, hop, hnext⟩ := hostItemWaits_ok
  obtain ⟨-, denied, -⟩ := h hostItemWaits 0 0 guardPacket (0, false) [] [] 0
  obtain ⟨u, he, -, ⟨hq, -⟩, -⟩ := denied hok hop
  have after : commandHeadAfter (.commandTake 0 guardPacket) hostItemWaits = some (u.bench 0).qc.q[(0 : Fin 4)].head := by
    rw [commandHeadAfter, he]
  rw [hostItemWaits_takes_nothing, hq] at after
  exact absurd (Option.some.inj after) (by rw [hnext]; decide)
/-! ### Mailbox, firmware commands and resets of functions -/

section hub
variable (kind bit : Nat) (s : State)

/-- What a closed session leaves of the hub: everything but the session itself and what it tells the host. -/
theorem State.closeSession_hub {α : Type} (g : Hub → α)
    (hg : ∀ (h : Hub) fn sent ev x d gs, g { h with fn := fn, sent := sent, mgEvents := ev, session := x, debugBench := d, gsEvents := gs } = g h) :
    g (s.closeSession kind bit).hub = g s.hub := by
  obtain h | ⟨oper, t, rfl, h⟩ := s.closeSession_cases kind bit
  · rw [h]
  · obtain ⟨f1, s1, e1, hl⟩ := s.guardLogAll_told kind oper
    obtain ⟨f2, s2, e2, hd⟩ := State.mapBenches_told (fun b => { b with gd := { b.gd with debug := false } }) (s.guardLogAll kind oper)
    have hv (x : Hub) : g (x.gsEvent bit) = g x := by
      unfold Hub.gsEvent Hub.vector
      split
      · exact hg x _ x.sent x.mgEvents x.session x.debugBench _
      · exact hg x x.fn _ x.mgEvents x.session x.debugBench _
    rw [h]
    refine (hv _).trans ((hg _ _ _ _ none none _).trans ?_)
    rw [State.sessionLogged, hd, hl]
    exact hg s.hub f2 s2 e2 s.hub.session s.hub.debugBench s.hub.gsEvents

theorem State.closeSession_session : (s.closeSession kind bit).hub.session = none := by
  unfold State.closeSession
  split
  next h => exact h
  · dsimp only
    unfold Hub.gsEvent Hub.vector
    split <;> rfl

theorem State.closeSession_debugBench (h : s.hub.session.isSome) : (s.closeSession kind bit).hub.debugBench = none := by
  unfold State.closeSession
  split
  next hn => rw [hn] at h; cases h
  · dsimp only
    unfold Hub.gsEvent Hub.vector
    split <;> rfl

@[simp] theorem Hub.vector_mboxBusy (v : Nat) (h : Hub) : (h.vector v).mboxBusy = h.mboxBusy := by unfold Hub.vector; split <;> rfl
@[simp] theorem Hub.vector_mboxCpl (v : Nat) (h : Hub) : (h.vector v).mboxCpl = h.mboxCpl := by unfold Hub.vector; split <;> rfl
@[simp] theorem Hub.vector_mboxPhase (v : Nat) (h : Hub) : (h.vector v).mboxPhase = h.mboxPhase := by unfold Hub.vector; split <;> rfl
@[simp] theorem Hub.vector_mbox (v : Nat) (h : Hub) : (h.vector v).mbox = h.mbox := by unfold Hub.vector; split <;> rfl
theorem Hub.mgError_bit {n : Nat} (hn : n < 32) (h : Hub) : bitOf (h.mgError n).mgErr n = true := by
  rw [mgError_mgErr]; exact bitOf_putBit_self _ _ hn

/-- The hub once a mailbox packet has been taken: BUSY set, its list length known, a corrected memory error told. -/
def Hub.mboxTaken (v : MailBell) (h : Hub) : Hub :=
  { (if v.ecc then h.mgError 2 else h) with mboxBusy := true, mboxBytes := (pktBytes (mboxPacket v.list h)).getD 0 }

variable {s} {v : MailBell}

theorem exec_mboxDoorbell_busy (h : s.hub.mboxBusy = true) :
    exec (.mboxDoorbell v) s = .next { s with hub := s.hub.mgError 0 } := by
  rw [exec_mboxDoorbell, execMboxDoorbell, if_pos h]

theorem exec_mboxDoorbell_good {need : Nat × Bool} (h : s.hub.mboxBusy = false)
    (hn : mailboxNeeds (pktOpcode (mboxPacket v.list s.hub)) = some need)
    (hp : pktHeaderOk (mboxPacket v.list s.hub) (pktBench (mboxPacket v.list s.hub)) need = true) :
    exec (.mboxDoorbell v) s = .next { s with hub := s.hub.mboxTaken v } := by
  rw [exec_mboxDoorbell, execMboxDoorbell, if_neg (by simp [h])]
  dsimp only
  rw [hn]
  dsimp only
  rw [if_pos hp]
  cases hv : v.ecc <;> simp [Hub.mboxTaken, hv]

theorem exec_mboxDoorbell_unknown (h : s.hub.mboxBusy = false)
    (hn : mailboxNeeds (pktOpcode (mboxPacket v.list s.hub)) = none) :
    exec (.mboxDoorbell v) s =
      .next (({ s with hub := s.hub.mboxTaken v } : State).mboxDone (pktTag (mboxPacket v.list s.hub)) .badOpcode 0) := by
  rw [exec_mboxDoorbell, execMboxDoorbell, if_neg (by simp [h])]
  dsimp only
  rw [hn]
  dsimp only
  cases hv : v.ecc <;> simp [Hub.mboxTaken, hv]

theorem Hub.mboxTaken_frame (v : MailBell) (h : Hub) : (h.mboxTaken v).mbox = h.mbox ∧ (h.mboxTaken v).mboxCpl = h.mboxCpl ∧
    (h.mboxTaken v).mboxPhase = h.mboxPhase := by
  unfold Hub.mboxTaken
  split
  · exact ⟨vector_mbox .., vector_mboxCpl .., vector_mboxPhase ..⟩
  · exact ⟨rfl, rfl, rfl⟩

theorem Hub.mboxTaken_ecc {h : Hub} (he : v.ecc = true) : bitOf (h.mboxTaken v).mgErr 2 = true := by
  unfold Hub.mboxTaken
  rw [if_pos he]
  exact mgError_bit (by decide) h

theorem State.mboxDone_answer (tag : BitVec 16) (st : Status) (r : Nat) (s : State) :
    (s.mboxDone tag st r).benches = s.benches ∧ (s.mboxDone tag st r).pending = s.pending ∧
    (s.mboxDone tag st r).hub.mboxBusy = false ∧ (s.mboxDone tag st r).hub.mboxPhase = (!s.hub.mboxPhase) ∧
    (s.mboxDone tag st r).hub.mboxCpl =
      #v[lo32 r, hi32 r, at32 st.code 16 ||| at32 tag.toNat 0, at32 (b2n (!s.hub.mboxPhase)) 31] :=
  ⟨rfl, rfl, Hub.vector_mboxBusy .., Hub.vector_mboxPhase .., Hub.vector_mboxCpl ..⟩

end hub

section firmware
variable {i : Instr} {c : Cmd} {k : Bench → Bench} {s : State} {P : Bench → Prop} {b : Bench} {version : Word}

/-- A firmware command of a bench that is not in WAKE. -/
theorem serves_of_acceptFw (he : exec i s = s.onBench c.bench (Bench.acceptFw i c k)) (hm : (s.bench c.bench).bn.mode ≠ .wake)
    (hp : ∀ q, P { k ((s.bench c.bench).accepted c) with qn := q }) : Serves i c s P := fun hi =>
  gives_of_onBench he fun q => by rw [Bench.acceptFw, if_neg (by simp [hi]), if_neg hm]; exact hp q

/-- What the start of a firmware load does: the unit runs one at a time. -/
def Bench.fwStart (c : Cmd) (k : Bench → Bench) (b : Bench) : Bench := if b.bn.fwRun.isSome then b.refuse c .busy else k b

theorem exec_fwLoad_begins : exec (.fwLoad c version .begins) s = s.onBench c.bench
    (Bench.acceptFw (.fwLoad c version .begins) c (Bench.fwStart c fun b => b.setBn fun n => { n with fwRun := some c.tag })) := rfl

theorem exec_fwLoad_ends {good : Bool} (h : (s.bench c.bench).bn.fwRun = none) :
    exec (.fwLoad c version (.ends good)) s = s.onBench c.bench
      (Bench.acceptFw (.fwLoad c version (.ends good)) c (Bench.fwStart c (Bench.fwLoaded c version good))) := by
  simp only [exec_fwLoad, execFwLoad, State.onBench, h]
  rfl

theorem exec_fwLoad_ended {good : Bool} (h : (s.bench c.bench).bn.fwRun = some c.tag) :
    exec (.fwLoad c version (.ends good)) s = s.onBench c.bench (Bench.fwLoaded c version good) := by
  simp only [exec_fwLoad, execFwLoad, State.onBench, h, if_true]

theorem Bench.fwStart_idle (h : b.bn.fwRun = none) (k : Bench → Bench) : (b.accepted c).fwStart c k = k (b.accepted c) := by
  unfold Bench.fwStart
  rw [accepted_bn, h]
  rfl

theorem Bench.fwStart_busy {tag : BitVec 16} (h : b.bn.fwRun = some tag) (k : Bench → Bench) :
    (b.accepted c).fwStart c k = (b.accepted c).refuse c .busy := by
  unfold Bench.fwStart
  rw [accepted_bn, h]
  rfl

theorem Bench.fwLoaded_good : b.fwLoaded c version true =
    (b.setBn fun n => { n with fwRun := none, fwAlt := some version, fwAltBad := false }).complete c .ok version.toNat := by
  unfold Bench.fwLoaded
  exact (if_neg (by decide)).trans (congrArg (fun x => Bench.complete c .ok version.toNat x) rfl)

theorem Bench.fwLoaded_bad : b.fwLoaded c version false = (b.setBn fun n => { n with fwRun := none }).refuse c .checkFailed := by
  unfold Bench.fwLoaded
  simp only [Bool.not_false, if_true]

/-- What FW_SELECT makes of a bench that accepted it. -/
def Bench.fwSelected (c : Cmd) (b : Bench) : Bench :=
  match b.bn.fwAlt with
  | none => b.refuse c .checkFailed
  | some v => if b.bn.fwAltBad then b.refuse c .checkFailed else (b.setBn fun n => { n with fwSwap := true }).complete c .ok v.toNat

theorem exec_fwSelect_selected : exec (.fwSelect c) s = s.onBench c.bench (Bench.acceptFw (.fwSelect c) c (Bench.fwSelected c)) := rfl

theorem Bench.fwSelected_none (h : b.bn.fwAlt = none) : (b.accepted c).fwSelected c = (b.accepted c).complete c .checkFailed 0 := by
  unfold Bench.fwSelected
  rw [accepted_bn, h]
  rfl

theorem Bench.fwSelected_bad (h : b.bn.fwAlt = some version) (hb : b.bn.fwAltBad = true) :
    (b.accepted c).fwSelected c = (b.accepted c).complete c .checkFailed 0 := by
  unfold Bench.fwSelected
  rw [accepted_bn, h]
  exact if_pos hb

theorem Bench.fwSelected_good (h : b.bn.fwAlt = some version) (hb : b.bn.fwAltBad = false) : (b.accepted c).fwSelected c =
    ((b.accepted c).setBn fun n => { n with fwSwap := true }).complete c .ok version.toNat := by
  unfold Bench.fwSelected
  rw [accepted_bn, h]
  exact if_neg (by simp [hb])

theorem cat64_add (lo hi : Word) : cat64 lo hi = lo.toNat + 2 ^ 32 * hi.toNat := by
  unfold cat64
  rw [Nat.shiftLeft_eq]
  omega

end firmware

/-! #### A hub reset takes both references away -/

/-- What the loss of a reference leaves of a bench that tells its host nothing: its rail, its counts and its events apart. -/
def Bench.Silent (b b' : Bench) : Prop :=
  ∃ rail fn qc ev hl, b' = { b with rail := rail, fn := fn, qc := qc, ev := ev, hl := hl } ∧ qc.q = b.qc.q ∧ qc.sent = b.qc.sent ∧
    qc.inflight = b.qc.inflight ∧ fn.mask = b.fn.mask

namespace Bench.Silent
variable {b b' b'' : Bench}

theorem refl (b : Bench) : b.Silent b := ⟨_, _, _, _, _, rfl, rfl, rfl, rfl, rfl⟩
theorem trans (h : b.Silent b') (h' : b'.Silent b'') : b.Silent b'' := by
  obtain ⟨_, _, _, _, _, rfl, hq, hs, hi, hm⟩ := h
  obtain ⟨_, _, _, _, _, rfl, hq', hs', hi', hm'⟩ := h'
  exact ⟨_, _, _, _, _, rfl, hq'.trans hq, hs'.trans hs, hi'.trans hi, hm'.trans hm⟩
theorem setRail (b : Bench) (f : Rail → Rail) : b.Silent (b.setRail f) := ⟨_, _, _, _, _, rfl, rfl, rfl, rfl, rfl⟩
theorem health (b : Bench) (i : Fin 25) : b.Silent (b.health i) := by
  obtain ⟨hl, h⟩ := b.health_only i
  exact ⟨_, _, _, _, _, h, rfl, rfl, rfl, rfl⟩

/-- An event with its queue off and its vector masked. -/
theorem raise (he : (b.qc.q[(3 : Fin 4)]).en = false) (hm : bitOf b.fn.mask 4 = true) (k : Fin 18) (n : Nat) (d0 d1 d2 : Word) :
    b.Silent (b.raise k n d0 d1 d2) := by
  have hoff : ¬((b.qc.q[(3 : Fin 4)]).en && !(b.qc.q[(3 : Fin 4)]).error && Decidable.decide (0 < (b.qc.q[(3 : Fin 4)]).room)) = true := by
    rw [he]; simp
  unfold Bench.raise Bench.event
  rw [if_neg hoff]
  unfold Bench.qcError Bench.vector
  rw [if_pos hm]
  exact ⟨_, _, _, _, _, rfl, rfl, rfl, rfl, rfl⟩

end Bench.Silent

theorem Rail.good_iff (r : Rail) : (r.good false = r.refAGood) ∧ (r.good true = r.refBGood) := ⟨rfl, rfl⟩

theorem Bench.toHoldover_silent {b : Bench} (h : b.rail.state ≠ .locked) : b.Silent b.toHoldover := by
  unfold Bench.toHoldover
  dsimp only
  split
  · exact .refl b
  · exact .setRail ..

/-- A reference lost: its flag. -/
def Rail.loses (refB : Bool) (r : Rail) : Rail :=
  if refB then { r with refBGood := false, lossBAt := some r.up, refLossCnt := inc r.refLossCnt }
  else { r with refAGood := false, lossAAt := some r.up, refLossCnt := inc r.refLossCnt }

/-- The loss as it is counted and told, before the rail decides what to follow. -/
def Bench.lossTold (refB : Bool) (b : Bench) : Bench :=
  ((b.setRail (Rail.loses refB)).health 15).raise 2 (if refB then 1 else 0) 0 0 0

theorem Bench.lossTold_rail (refB : Bool) (b : Bench) : (b.lossTold refB).rail = b.rail.loses refB := by
  unfold Bench.lossTold
  rw [raise_rail, health_rail]
  rfl

theorem Bench.lossTold_silent {b : Bench} (he : (b.qc.q[(3 : Fin 4)]).en = false) (hm : bitOf b.fn.mask 4 = true) (refB : Bool) :
    b.Silent (b.lossTold refB) := by
  refine ((Silent.setRail b (Rail.loses refB)).trans (.health _ 15)).trans (.raise ?_ ?_ ..)
  · rw [health_qc]; exact he
  · rw [health_fn]; exact hm

theorem Bench.toHoldover_good (b : Bench) (x : Bool) : b.toHoldover.rail.good x = b.rail.good x := by
  unfold Bench.toHoldover
  dsimp only
  split
  · rfl
  · split
    · rw [errorCause_rail]; cases x <;> rfl
    · cases x <;> rfl

theorem Bench.toHoldover_state {b : Bench} (h : b.rail.state ≠ .locked) : b.toHoldover.rail.state ≠ .locked := by
  unfold Bench.toHoldover
  dsimp only
  split
  · exact h
  · simp [setRail]

theorem Bench.refLost_cases (mode : Nat) (refB : Bool) (b : Bench) :
    (b.rail.good refB = false ∧ b.refLost mode refB = b) ∨ b.refLost mode refB = (b.lossTold refB).toHoldover ∨
    b.refLost mode refB = b.lossTold refB ∨
    b.refLost mode refB = (b.lossTold refB).setRail fun r => { r with onB := !refB, nearAt := r.nearAt.map fun _ => r.up } := by
  unfold Bench.refLost
  split
  next h => exact .inl ⟨by simpa using h, rfl⟩
  next h =>
    refine .inr ?_
    extract_lets b₁ b₂ other both inUse
    have hb : b₂ = b.lossTold refB := rfl
    rw [hb]
    (repeat' split)
    · exact .inl rfl
    · exact .inr (.inr rfl)
    · exact .inl rfl
    · exact .inr (.inl rfl)

theorem Rail.loses_good (refB x : Bool) (r : Rail) : (r.loses refB).good x = (Decidable.decide (x ≠ refB) && r.good x) := by
  cases refB <;> cases x <;> simp [Rail.loses, Rail.good]

theorem Bench.refLost_good (mode : Nat) (refB : Bool) (b : Bench) (x : Bool) :
    (b.refLost mode refB).rail.good x = (Decidable.decide (x ≠ refB) && b.rail.good x) := by
  obtain ⟨hg, h⟩ | h | h | h := b.refLost_cases mode refB
  · rw [h]
    by_cases hx : x = refB
    · simp [hx, hg]
    · simp [hx]
  · rw [h, toHoldover_good, lossTold_rail, Rail.loses_good]
  · rw [h, lossTold_rail, Rail.loses_good]
  · rw [h, ← Rail.loses_good, ← lossTold_rail]
    cases x <;> rfl

theorem Bench.refLost_silent {b : Bench} (mode : Nat) (refB : Bool) (he : (b.qc.q[(3 : Fin 4)]).en = false)
    (hm : bitOf b.fn.mask 4 = true) (hs : b.rail.state ≠ .locked) :
    b.Silent (b.refLost mode refB) ∧ (b.refLost mode refB).rail.state ≠ .locked := by
  have ht := b.lossTold_silent he hm refB
  have hst : (b.lossTold refB).rail.state ≠ .locked := by
    rw [lossTold_rail]; cases refB <;> exact hs
  obtain ⟨-, h⟩ | h | h | h := b.refLost_cases mode refB
  · rw [h]; exact ⟨.refl b, hs⟩
  · rw [h]; exact ⟨ht.trans (toHoldover_silent hst), toHoldover_state hst⟩
  · rw [h]; exact ⟨ht, hst⟩
  · rw [h]; exact ⟨ht.trans (.setRail ..), hst⟩

theorem Bench.fnReset_off (b : Bench) : (b.fnReset.qc.q[(3 : Fin 4)]).en = false :=
  show ((Vector.replicate 4 ({} : Queue))[(3 : Fin 4)]).en = false by decide

/-- Both references lost after a function reset: the bench tells nothing. -/
theorem Bench.bothLost_silent (mode : Nat) {b : Bench} (hs : b.rail.state ≠ .locked) :
    b.fnReset.Silent ((b.fnReset.refLost mode false).refLost mode true) := by
  obtain ⟨h1, hs1⟩ := Bench.refLost_silent (b := b.fnReset) mode false b.fnReset_off (show bitOf (0xFF#8) 4 = true by decide) hs
  refine h1.trans (Bench.refLost_silent mode true ?_ ?_ hs1).1
  · obtain ⟨_, _, _, _, _, h, hq, -⟩ := h1
    rw [h]; dsimp only; rw [hq]; exact b.fnReset_off
  · obtain ⟨_, _, _, _, _, h, -, -, -, hm⟩ := h1
    rw [h]; dsimp only; rw [hm]
    show bitOf (0xFF#8) 4 = true
    decide

/-- A function reset of every bench, told of a state of its own name. -/
theorem State.fnResetAll_spec (s : State) : ∃ u, s.fnResetAll = u ∧ u.pending = s.pending ∧ u.hub.session = none ∧
    u.hub.mref = s.hub.mref ∧ u.hub.calNow = s.hub.calNow ∧
    ∀ m, ∃ q g, u.bench m = { (s.bench m).fnReset with qn := q, gd := g } := by
  refine ⟨_, rfl, (State.mapBenches_pending ..).trans (s.closeSession_pending 4 1), ?_, ?_, ?_, fun m => ?_⟩
  · obtain ⟨_, _, _, h⟩ := State.mapBenches_told Bench.fnReset s.fn0Reset
    rw [State.fnResetAll, h]
    exact s.closeSession_session 4 1
  · obtain ⟨_, _, _, h⟩ := State.mapBenches_told Bench.fnReset s.fn0Reset
    rw [State.fnResetAll, h]
    exact s.closeSession_hub 4 1 (g := Hub.mref) fun _ _ _ _ _ _ _ => rfl
  · obtain ⟨_, _, _, h⟩ := State.mapBenches_told Bench.fnReset s.fn0Reset
    rw [State.fnResetAll, h]
    exact s.closeSession_hub 4 1 (g := Hub.calNow) fun _ _ _ _ _ _ _ => rfl
  · obtain ⟨q, hq⟩ := State.mapBenches_bench Bench.fnReset s.fn0Reset m
    obtain ⟨q', g, hg⟩ := s.closeSession_bench 4 1 m
    refine ⟨q, g, hq.trans ?_⟩
    rw [show s.fn0Reset.bench m = _ from hg]
    rfl

theorem Bench.emptied_of_fnReset {b b' : Bench} (h : ∃ q g, b' = { b.fnReset with qn := q, gd := g }) :
    b'.qc.q = Vector.replicate 4 {} ∧ b'.qc.sent = b.qc.sent ∧
      b'.qc.inflight = b.qc.inflight.map (fun f => { f with orphan := true }) ∧ b'.bn = b.bn ∧ b'.points = b.points ∧
      b'.inst = b.inst ∧ b'.pe = b.pe ∧ b'.le = b.le ∧ b'.mx = b.mx ∧ b'.rs = b.rs ∧ b'.cores = b.cores := by
  obtain ⟨_, _, rfl⟩ := h
  exact ⟨rfl, rfl, rfl, rfl, rfl, rfl, rfl, rfl, rfl, rfl, rfl⟩

/-- Settles O50. -/
theorem mailboxFirmwareAndFunctionResets : Obligations.MailboxFirmwareAndFunctionResets := by
  intro s n m c v version need d3 b x p kept emptied
  refine ⟨fun hb => ?_, fun hb hn hp => ?_, fun hb hn => ?_, fun hm ha => ⟨fun hf => ?_, fun hf => ?_, fun hf => ?_,
    fun other hf _ => ?_, fun hf => ?_, fun hv hbad => ?_, fun hv hbad => ?_, fun hv => ?_, ?_⟩, ?_, ?_, ?_, ?_⟩
  · exact ⟨_, exec_mboxDoorbell_busy hb, rfl, rfl, (Hub.vector_mboxBusy ..).trans hb, Hub.vector_mboxCpl ..,
      Hub.mgError_bit (by decide) _⟩
  · obtain ⟨hmb, hc, -⟩ := s.hub.mboxTaken_frame v
    exact ⟨_, exec_mboxDoorbell_good hb hn hp, rfl, rfl, rfl, rfl, hmb, hc, Hub.mboxTaken_ecc⟩
  · obtain ⟨-, -, hph⟩ := s.hub.mboxTaken_frame v
    obtain ⟨h1, h2, h3, h4, h5⟩ :=
      ({ s with hub := s.hub.mboxTaken v } : State).mboxDone_answer (pktTag p) .badOpcode 0
    dsimp only at h4 h5
    rw [hph] at h4 h5
    rw [show lo32 0 = 0 from rfl, show hi32 0 = 0 from rfl, show Status.badOpcode.code = 0x100 from rfl] at h5
    exact ⟨_, exec_mboxDoorbell_unknown hb hn, h1, h2, h3, h4, h5⟩
  · refine serves_of_acceptFw (exec_fwLoad_ends hf) hm fun q => ?_
    rw [Bench.fwStart_idle hf, Bench.fwLoaded_good]
    refine ⟨completed_accepted ha (b₁ := ((s.bench c.bench).accepted c).setBn _) rfl rfl, ?_, ?_⟩
    · dsimp only
      rw [Bench.complete_bn, Bench.setBn_bn, Bench.accepted_bn]
      exact congrArg (fun r => { b.bn with fwRun := r, fwAlt := some version, fwAltBad := false }) hf.symm
    · dsimp only
      rw [Bench.complete_points]
      rfl
  · refine serves_of_acceptFw (exec_fwLoad_ends hf) hm fun q => ?_
    rw [Bench.fwStart_idle hf, Bench.fwLoaded_bad]
    refine ⟨completed_accepted ha (b₁ := ((s.bench c.bench).accepted c).setBn _) rfl rfl, ?_⟩
    dsimp only
    rw [Bench.refuse_bn, Bench.setBn_bn, Bench.accepted_bn]
    exact congrArg (fun r => { b.bn with fwRun := r }) hf.symm
  · refine serves_of_acceptFw exec_fwLoad_begins hm fun q => ?_
    rw [Bench.fwStart_idle hf]
    exact ⟨rfl, rfl, rfl⟩
  · refine serves_of_acceptFw exec_fwLoad_begins hm fun q => ?_
    rw [Bench.fwStart_busy hf]
    exact ⟨completed_accepted ha (b₁ := (s.bench c.bench).accepted c) rfl rfl, by dsimp only; rw [Bench.refuse_bn]; rfl⟩
  · refine gives_of_onBench (exec_fwLoad_ended hf) fun q => ?_
    rw [Bench.fwLoaded_good]
    refine ⟨completed_of_carries ha (.of_qc (b' := (s.bench c.bench).setBn _) rfl) (.of_qc rfl), ?_, ?_⟩
    · dsimp only
      rw [Bench.complete_bn]
      rfl
    · dsimp only
      rw [Bench.complete_points]
      rfl
  · refine serves_of_acceptFw exec_fwSelect_selected hm fun q => ?_
    rw [Bench.fwSelected_bad hv hbad]
    exact ⟨completed_accepted ha (b₁ := (s.bench c.bench).accepted c) rfl rfl, by dsimp only; rw [Bench.complete_bn]; rfl⟩
  · refine serves_of_acceptFw exec_fwSelect_selected hm fun q => ?_
    rw [Bench.fwSelected_good hv hbad]
    refine ⟨completed_accepted ha (b₁ := ((s.bench c.bench).accepted c).setBn _) rfl rfl, ?_, ?_⟩
    · dsimp only
      rw [Bench.complete_bn]
      rfl
    · dsimp only
      rw [Bench.complete_points]
      rfl
  · refine serves_of_acceptFw exec_fwSelect_selected hm fun q => ?_
    rw [Bench.fwSelected_none hv]
    exact ⟨completed_accepted ha (b₁ := (s.bench c.bench).accepted c) rfl rfl, by dsimp only; rw [Bench.complete_bn]; rfl⟩
  · refine serves_of_acceptFw (exec_fwInfo ..) hm fun q => ?_
    refine ⟨by dsimp only; rw [Bench.complete_bn]; rfl, by dsimp only; rw [Bench.complete_points]; rfl, ?_⟩
    rw [← cat64_add]
    exact completed_accepted ha (b₁ := (s.bench c.bench).accepted c) rfl rfl
  · have he : exec (.functionLevelReset n.succ d3) s = s.onBench n fun b => { b.fnReset with fn := { b.fnReset.fn with d3 := d3 } } := by
      rw [exec_functionLevelReset, execFunctionLevelReset, if_neg (Fin.succ_ne_zero n)]
      simp [mkIx]
    refine gives_of_onBench he fun q => ?_
    exact ⟨⟨rfl, rfl, rfl, rfl, rfl, rfl, rfl, rfl, rfl, rfl, rfl⟩, rfl⟩
  · obtain ⟨q, g, hq⟩ := s.closeSession_bench 4 1 m
    refine ⟨_, rfl, s.closeSession_pending 4 1, s.closeSession_session 4 1, s.closeSession_debugBench 4 1, rfl, rfl, ?_, ?_⟩
    · show kept (s.bench m) ((s.closeSession 4 1).bench m)
      rw [hq]
      exact ⟨rfl, rfl, rfl, rfl, rfl, rfl, rfl, rfl⟩
    · show ((s.closeSession 4 1).bench m).qc = _
      rw [hq]
  · obtain ⟨u, hu, hp, hs, -, -, hb⟩ := s.fnResetAll_spec
    refine ⟨u, by rw [exec_hotReset, execHotReset, hu], hp, hs, Bench.emptied_of_fnReset (hb m)⟩
  · obtain ⟨u, hu, hp, hs, hr, hc, hb⟩ := s.fnResetAll_spec
    obtain ⟨w, hw, hwp, ⟨_, _, _, hwh⟩, hwb⟩ :=
      State.mapBenches_spec (fun b => (b.refLost s.hub.refMode false).refLost s.hub.refMode true) u
    have he : exec .hubReset s = .next { w with hub := w.hub.restart } := by
      rw [exec_hubReset, execHubReset, hu]
      rw [hw]
    obtain ⟨q, hq⟩ := hwb m
    have hm : ({ w with hub := w.hub.restart } : State).bench m = w.bench m := rfl
    refine ⟨_, he, hwp.trans hp, rfl, rfl, ?_, ?_, ?_, ?_, fun hl => ?_⟩
    · exact (congrArg Hub.mref hwh).trans hr
    · exact (congrArg Hub.calNow hwh).trans hc
    · rw [hm, hq, ← (Rail.good_iff _).1, Bench.refLost_good, Bench.refLost_good]
      rfl
    · rw [hm, hq, ← (Rail.good_iff _).2, Bench.refLost_good]
      rfl
    · obtain ⟨q', g, hu'⟩ := hb m
      have hs0 : ({ s.bench m with qn := q', gd := g } : Bench).rail.state ≠ .locked := hl
      obtain ⟨rail, fn, qc, ev, hl', hb', hqq, hqs, hqi, -⟩ := Bench.bothLost_silent s.hub.refMode hs0
      rw [show u.bench m = Bench.fnReset { s.bench m with qn := q', gd := g } from hu', hb'] at hq
      rw [hm, hq]
      exact ⟨hqq, hqs, hqi, rfl, rfl, rfl, rfl, rfl, rfl, rfl, rfl⟩

end Sys2Proof.Machine
end

section
/-!
Guard sessions and their log
-/

namespace Sys2Proof.Machine

/-! ### Guard sessions and their log (R545, R546, R551) -/

/-- The next entry of a guard log, of a kind and an operator: it is chained to the one before, and the oldest of more than
4,096 goes. -/
def Guards.Logs (g g' : Guards) (kind : Nat) (id : BitVec 16) : Prop :=
  g'.seq = g.seq + 1 ∧ ∃ e, g'.log = (g.log ++ [e]).drop (g.log.length + 1 - 4096) ∧ e.length = 16 ∧ e.getD 0 0 = g.seq + 1 ∧
    e.getD 1 0 = (at32 kind 0 ||| at32 id.toNat 16) ∧
    e.getD 15 0 = crc32c (e.take 15 ++ [(g.log.getLast?.getD []).getD 15 0])

/-- What a log entry leaves of the guards: registers, effects and everything else that is not the log. -/
def Guards.SameRegs (g g' : Guards) : Prop := g'.reg = g.reg ∧ g'.eff = g.eff

theorem logEntry_eq (log : List (List Word)) (ws : List Word) : logEntry log ws = (ws ++ List.replicate 15 0).take 15 ++
    [crc32c ((ws ++ List.replicate 15 0).take 15 ++ [(log.getLast?.getD []).getD 15 0])] := by
  unfold logEntry
  cases log.getLast? <;> rfl

theorem logEntry_chained (log : List (List Word)) (a b : Word) (ws : List Word) :
    (logEntry log (a :: b :: ws)).length = 16 ∧ (logEntry log (a :: b :: ws)).getD 0 0 = a ∧ (logEntry log (a :: b :: ws)).getD 1 0 = b ∧
    (logEntry log (a :: b :: ws)).getD 15 0 =
      crc32c ((logEntry log (a :: b :: ws)).take 15 ++ [(log.getLast?.getD []).getD 15 0]) := by
  have hl : ((a :: b :: ws ++ List.replicate 15 0).take 15).length = 15 := by simp
  rw [logEntry_eq]
  generalize hb : (a :: b :: ws ++ List.replicate 15 0).take 15 = body at hl
  refine ⟨by simp [hl], ?_, ?_, ?_⟩
  · rw [← hb]; rfl
  · rw [← hb]; rfl
  · simp [hl]

theorem drop_length_snoc {α : Type} (l : List α) (e : α) (n : Nat) :
    (l ++ [e]).drop ((l ++ [e]).length - n) = (l ++ [e]).drop (l.length + 1 - n) := by
  rw [List.length_append]
  rfl

/-- A log entry changes the log, and nothing else of the bench. -/
theorem Bench.guardLogAs_logs (b : Bench) (mode : Word) (cal kind : Nat) (oper : BitVec 16) (stamp off : Nat) (before written : Word) :
    ∃ seq log, b.guardLogAs mode cal kind oper stamp off before written = { b with gd := { b.gd with seq := seq, log := log } } ∧
      b.gd.Logs { b.gd with seq := seq, log := log } kind oper := by
  obtain ⟨hlen, h0, h1, h15⟩ := logEntry_chained b.gd.log (b.gd.seq + 1) (at32 kind 0 ||| at32 oper.toNat 16)
    [lo32 stamp, hi32 stamp, lo32 cal, hi32 cal, b.bn.life.opHours, BitVec.ofNat 32 off, before, written, mode]
  unfold Bench.guardLogAs
  extract_lets g e log
  have hd : log.drop (log.length - 4096) = (b.gd.log ++ [e]).drop (b.gd.log.length + 1 - 4096) := drop_length_snoc g.log e 4096
  refine ⟨g.seq + 1, log.drop (log.length - 4096), rfl, rfl, e, ?_, hlen, h0, h1, h15⟩
  dsimp only
  exact hd

theorem Bench.guardLog_logs (b : Bench) (cal kind : Nat) (oper : BitVec 16) (stamp off : Nat) (before written : Word) :
    ∃ seq log, b.guardLog cal kind oper stamp off before written = { b with gd := { b.gd with seq := seq, log := log } } ∧
      b.gd.Logs { b.gd with seq := seq, log := log } kind oper := b.guardLogAs_logs ..

section sessions
variable (kind bit : Nat) (oper : BitVec 16) (s : State) (m : BenchIx)

/-- An event that every bench logs leaves the rest of each bench. -/
theorem State.guardLogAll_logs : ∃ q g, (s.guardLogAll kind oper).bench m = { s.bench m with qn := q, gd := g } ∧
    (s.bench m).gd.Logs g kind oper ∧ (s.bench m).gd.SameRegs g := by
  obtain ⟨q, hq⟩ := (State.foldl_putBench
    (fun s' n => (s'.bench n).guardLog s.hub.calNow kind oper (s'.bench n).rail.now 0 0 0) (fun _ _ _ h => by rw [h]) _
    (List.nodup_finRange 16) s m).2 (List.mem_finRange m)
  obtain ⟨seq, log, hg, hl⟩ := (s.bench m).guardLog_logs s.hub.calNow kind oper (s.bench m).rail.now 0 0 0
  rw [hg] at hq
  exact ⟨q, _, hq, hl, rfl, rfl⟩

theorem State.sessionLogged_logs : ∃ q g, (s.sessionLogged kind oper).bench m = { s.bench m with qn := q, gd := g } ∧
    g.debug = false ∧ (s.bench m).gd.Logs g kind oper ∧ (s.bench m).gd.SameRegs g := by
  obtain ⟨_, g, h, hl, hr⟩ := s.guardLogAll_logs kind oper m
  obtain ⟨q, hq⟩ := State.mapBenches_bench (fun b => { b with gd := { b.gd with debug := false } }) (s.guardLogAll kind oper) m
  rw [h] at hq
  exact ⟨q, _, hq, rfl, hl, hr⟩

theorem State.closeSession_of_some {x : GuardSession} (h : s.hub.session = some x) : ∃ t, s.sessionLogged kind x.oper = t ∧
    s.closeSession kind bit = { t with hub := Hub.gsEvent bit { t.hub with session := none, debugBench := none } } := by
  refine ⟨s.sessionLogged kind x.oper, rfl, ?_⟩
  unfold State.closeSession State.sessionLogged
  rw [h]

theorem State.closeSession_logs {x : GuardSession} (h : s.hub.session = some x) :
    ∃ q g, (s.closeSession kind bit).bench m = { s.bench m with qn := q, gd := g } ∧
      g.debug = false ∧ (s.bench m).gd.Logs g kind x.oper ∧ (s.bench m).gd.SameRegs g := by
  obtain ⟨t, ht, hc⟩ := s.closeSession_of_some kind bit h
  have hm := s.sessionLogged_logs kind x.oper m
  rw [ht] at hm
  rw [hc]
  exact hm

theorem Hub.vector_gsEvents (v : Nat) (h : Hub) : (h.vector v).gsEvents = h.gsEvents := by unfold Hub.vector; split <;> rfl
theorem Hub.vector_session (v : Nat) (h : Hub) : (h.vector v).session = h.session := by unfold Hub.vector; split <;> rfl
theorem Hub.vector_debugBench (v : Nat) (h : Hub) : (h.vector v).debugBench = h.debugBench := by unfold Hub.vector; split <;> rfl
theorem Hub.vector_gsRej (v : Nat) (h : Hub) : (h.vector v).gsRej = h.gsRej := by unfold Hub.vector; split <;> rfl
theorem Hub.gsEvent_bit {bit : Nat} (hb : bit < 32) (h : Hub) : bitOf (h.gsEvent bit).gsEvents bit = true := by
  rw [Hub.gsEvent, vector_gsEvents]; exact bitOf_putBit_self _ _ hb
theorem Hub.gsEvent_session (bit : Nat) (h : Hub) : (h.gsEvent bit).session = h.session := vector_session ..

theorem State.closeSession_event {x : GuardSession} {bit : Nat} (hb : bit < 32) (h : s.hub.session = some x) :
    bitOf (s.closeSession kind bit).hub.gsEvents bit = true := by
  unfold State.closeSession
  rw [h]
  exact Hub.gsEvent_bit hb _

end sessions

section mailbox
variable {i : Instr} {k : State → State} {s s' : State} {c : Cmd} {oper first count : Word} {pw : List Byte}

theorem State.mailed_of_true (h : s.hub.mailed i = true) : State.mailed i k s = .next (k s) := by
  rw [State.mailed, if_pos h]

theorem State.mailed_of_false (h : s.hub.mailed i = false) : State.mailed i k s = .next s := by
  rw [State.mailed, if_neg (by simp [h])]

/-- The answer of a mailbox command, as the host reads it. -/
def State.Answer (s u : State) (c : Cmd) (st : Status) (r : Nat) : Prop :=
  u.hub.mboxBusy = false ∧ u.hub.mboxPhase = (!s.hub.mboxPhase) ∧ bitOf u.hub.mboxCpl[3] 31 = (!s.hub.mboxPhase) ∧
    u.hub.mboxCpl[0] = lo32 r ∧ u.hub.mboxCpl[1] = hi32 r ∧ u.hub.mboxCpl[2] = (at32 st.code 16 ||| at32 c.tag.toNat 0)

theorem State.mboxDone_answers (c : Cmd) (st : Status) (r : Nat) (h : s'.hub.mboxPhase = s.hub.mboxPhase) :
    s.Answer (s'.mboxDone c.tag st r) c st r := by
  obtain ⟨-, -, hb, hp, hc⟩ := s'.mboxDone_answer c.tag st r
  unfold State.Answer
  rw [hb, hp, hc, h]
  refine ⟨rfl, rfl, ?_, rfl, rfl, rfl⟩
  show bitOf (at32 (b2n (!s.hub.mboxPhase)) 31) 31 = _
  rw [bitOf_at32 (by decide)]
  cases s.hub.mboxPhase <;> decide

/-- What a mailbox command leaves of every bench. -/
def State.GuardsKept (s u : State) (m : BenchIx) : Prop :=
  u.pending = s.pending ∧ (u.bench m).bn = (s.bench m).bn ∧ (u.bench m).points = (s.bench m).points ∧
    (u.bench m).gd.reg = (s.bench m).gd.reg ∧ (u.bench m).gd.eff = (s.bench m).gd.eff

theorem State.guardsKept_of_benches {u : State} (m : BenchIx) (hp : u.pending = s.pending) (hb : u.benches = s.benches) :
    s.GuardsKept u m := by
  have h : u.bench m = s.bench m := congrArg (fun v => v[m]) hb
  unfold State.GuardsKept
  rw [h]
  exact ⟨hp, rfl, rfl, rfl, rfl⟩

theorem State.guardsKept_of_logs {u : State} {m : BenchIx} {q : Quoin} {g : Guards} (hp : u.pending = s.pending)
    (h : u.bench m = { s.bench m with qn := q, gd := g }) (hg : (s.bench m).gd.SameRegs g) : s.GuardsKept u m := by
  unfold State.GuardsKept
  rw [h]
  exact ⟨hp, rfl, rfl, hg.1, hg.2⟩


theorem exec_mailboxRow (i : Instr)
    (hi : i ∈ [Instr.guardOpen c oper, .guardClose c, .guardLogRead c first count, .qnPasswordReplace c pw, .debugOpen c])
    (h : s.hub.mailed i = false) : exec i s = .next s := by
  simp only [List.mem_cons, List.not_mem_nil, or_false] at hi
  obtain rfl | rfl | rfl | rfl | rfl := hi
  · rw [exec_guardOpen, execGuardOpen, State.mailed_of_false h]
  · rw [exec_guardClose, execGuardClose, State.mailed_of_false h]
  · rw [exec_guardLogRead, execGuardLogRead, State.mailed_of_false h]
  · rw [exec_qnPasswordReplace, execQnPasswordReplace, State.mailed_of_false h]
  · rw [exec_debugOpen, execDebugOpen, State.mailed_of_false h]


/-- An event that every bench logs, told of a state of its own name. -/
theorem State.guardLogAll_spec (kind : Nat) (oper : BitVec 16) (s : State) : ∃ t, s.guardLogAll kind oper = t ∧
    t.pending = s.pending ∧ s.hub.Told t.hub ∧ ∀ m, ∃ q g, t.bench m = { s.bench m with qn := q, gd := g } ∧
      (s.bench m).gd.Logs g kind oper ∧ (s.bench m).gd.SameRegs g :=
  ⟨_, rfl, s.guardLogAll_pending kind oper, s.guardLogAll_told kind oper, s.guardLogAll_logs kind oper⟩

/-- A session that closes, told of a state of its own name. -/
theorem State.closeSession_spec (kind : Nat) {bit : Nat} (hb : bit < 32) {x : GuardSession} (h : s.hub.session = some x) :
    ∃ t, s.closeSession kind bit = t ∧ t.pending = s.pending ∧ t.hub.session = none ∧ t.hub.debugBench = none ∧
      bitOf t.hub.gsEvents bit = true ∧ t.hub.mboxPhase = s.hub.mboxPhase ∧
      ∀ m, ∃ q g, t.bench m = { s.bench m with qn := q, gd := g } ∧ g.debug = false ∧
        (s.bench m).gd.Logs g kind x.oper ∧ (s.bench m).gd.SameRegs g :=
  ⟨_, rfl, s.closeSession_pending kind bit, s.closeSession_session kind bit, s.closeSession_debugBench kind bit (by simp [h]),
    s.closeSession_event kind hb h, s.closeSession_hub kind bit (g := Hub.mboxPhase) fun _ _ _ _ _ _ _ => rfl,
    fun m => s.closeSession_logs kind bit m h⟩

section done
variable (tag : BitVec 16) (st : Status) (r : Nat) (s : State)
@[simp] theorem State.mboxDone_benches : (s.mboxDone tag st r).benches = s.benches := rfl
@[simp] theorem State.mboxDone_bench (m : BenchIx) : (s.mboxDone tag st r).bench m = s.bench m := rfl
@[simp] theorem State.mboxDone_pending : (s.mboxDone tag st r).pending = s.pending := rfl
@[simp] theorem State.mboxDone_session : (s.mboxDone tag st r).hub.session = s.hub.session := Hub.vector_session ..
@[simp] theorem State.mboxDone_debugBench : (s.mboxDone tag st r).hub.debugBench = s.hub.debugBench := Hub.vector_debugBench ..
@[simp] theorem State.mboxDone_gsEvents : (s.mboxDone tag st r).hub.gsEvents = s.hub.gsEvents := Hub.vector_gsEvents ..
theorem State.mboxDone_sent : ∃ l, (s.mboxDone tag st r).hub.sent = s.hub.sent ++ l := by
  unfold State.mboxDone Hub.vector
  dsimp only
  split
  · exact ⟨[], (List.append_nil _).symm⟩
  · exact ⟨_, rfl⟩
end done

/-- A mailbox command that only answers. -/
theorem State.answered_only (m : BenchIx) (st : Status) (r : Nat) {h : Hub} (hp : h.mboxPhase = s.hub.mboxPhase) :
    let u := ({ s with hub := h } : State).mboxDone c.tag st r
    s.GuardsKept u m ∧ s.Answer u c st r ∧ u.benches = s.benches ∧ u.hub.session = h.session ∧ u.hub.debugBench = h.debugBench :=
  ⟨s.guardsKept_of_benches m rfl rfl, State.mboxDone_answers c st r hp, rfl, State.mboxDone_session .., State.mboxDone_debugBench ..⟩

theorem Hub.guardActive_session {x : GuardSession} {h : Hub} (hs : h.session = some x) :
    h.guardActive.session = some { x with last := h.up } := by
  rw [Hub.guardActive, hs]
  rfl

theorem exec_guardOpen_free (hm : s.hub.mailed (.guardOpen c oper) = true) (hs : s.hub.session = none) :
    exec (.guardOpen c oper) s = .next ((State.guardLogAll 3 (oper.setWidth 16) { s with
      hub := Hub.gsEvent 0 { s.hub with session := some { oper := oper.setWidth 16, last := s.hub.up } } }).mboxDone c.tag .ok
        (s.bench c.bench).rail.now) := by
  rw [exec_guardOpen, execGuardOpen, State.mailed_of_true hm, if_neg (by simp [hs])]
  rfl

theorem exec_guardOpen_taken (hm : s.hub.mailed (.guardOpen c oper) = true) (hs : s.hub.session.isSome) :
    exec (.guardOpen c oper) s = .next (({ s with hub := s.hub.guardActive } : State).mboxDone c.tag .busy 0) := by
  rw [exec_guardOpen, execGuardOpen, State.mailed_of_true hm, if_pos hs]

theorem exec_guardClose_free (hm : s.hub.mailed (.guardClose c) = true) (hs : s.hub.session = none) :
    exec (.guardClose c) s = .next (s.mboxDone c.tag .badState 0) := by
  rw [exec_guardClose, execGuardClose, State.mailed_of_true hm, if_neg (by simp [hs])]

theorem exec_guardClose_open (hm : s.hub.mailed (.guardClose c) = true) (hs : s.hub.session.isSome) :
    exec (.guardClose c) s = .next ((s.closeSession 4 1).mboxDone c.tag .ok 0) := by
  rw [exec_guardClose, execGuardClose, State.mailed_of_true hm, if_pos hs]

theorem exec_qnPasswordReplace_free (hm : s.hub.mailed (.qnPasswordReplace c pw) = true) (hs : s.hub.session = none) :
    exec (.qnPasswordReplace c pw) s = .next (s.mboxDone c.tag .badState 0) := by
  rw [exec_qnPasswordReplace, execQnPasswordReplace, State.mailed_of_true hm]
  dsimp only
  rw [hs]

theorem exec_qnPasswordReplace_bad {x : GuardSession} (hm : s.hub.mailed (.qnPasswordReplace c pw) = true)
    (hs : s.hub.session = some x) (hp : passwordOk pw = false) :
    exec (.qnPasswordReplace c pw) s = .next (({ s with hub := s.hub.guardActive } : State).mboxDone c.tag .badParam 0) := by
  rw [exec_qnPasswordReplace, execQnPasswordReplace, State.mailed_of_true hm]
  dsimp only
  rw [hs]
  dsimp only
  rw [if_pos (by simp [hp])]

/-- A bench with its Quoin password replaced, in both logs. -/
def Bench.passwordReplaced (cal : Nat) (oper : BitVec 16) (pw : List Byte) (b : Bench) : Bench :=
  let b := b.setQuoin fun q => { q with password := some pw, failures := 0, waitAt := none }
  (b.quoinLog cal 10 oper b.qn.crc 0).guardLog cal 7 oper b.rail.now 0 0 0

theorem exec_qnPasswordReplace_good {x : GuardSession} (hm : s.hub.mailed (.qnPasswordReplace c pw) = true)
    (hs : s.hub.session = some x) (hp : passwordOk pw = true) :
    exec (.qnPasswordReplace c pw) s = .next ((State.putBench c.bench ((s.bench c.bench).passwordReplaced s.hub.calNow x.oper pw)
      { s with hub := s.hub.guardActive }).mboxDone c.tag .ok 0) := by
  rw [exec_qnPasswordReplace, execQnPasswordReplace, State.mailed_of_true hm]
  dsimp only
  rw [hs]
  dsimp only
  rw [if_neg (by simp [hp])]
  rfl

theorem Bench.passwordReplaced_logs (b : Bench) (cal : Nat) (oper : BitVec 16) (pw : List Byte) : ∃ q g,
    b.passwordReplaced cal oper pw = { b with qn := q, gd := g } ∧ q.password = some pw ∧ q.failures = 0 ∧
      b.gd.Logs g 7 oper ∧ b.gd.SameRegs g := by
  unfold Bench.passwordReplaced
  extract_lets b₁
  obtain ⟨seq, log, h, hl⟩ := (b₁.quoinLog cal 10 oper b₁.qn.crc 0).guardLog_logs cal 7 oper b₁.rail.now 0 0 0
  exact ⟨_, _, h, rfl, rfl, hl, rfl, rfl⟩

theorem exec_debugOpen_free (hm : s.hub.mailed (.debugOpen c) = true) (hs : s.hub.session = none) :
    exec (.debugOpen c) s = .next (s.mboxDone c.tag .badState 0) := by
  rw [exec_debugOpen, execDebugOpen, State.mailed_of_true hm]
  dsimp only
  rw [hs]

/-- A bench with its debug port open, as its log says. -/
def Bench.debugOpened (cal : Nat) (oper : BitVec 16) (b : Bench) : Bench :=
  Bench.guardLog cal 6 oper b.rail.now 0 0 0 { b with gd := { b.gd with debug := true } }

theorem Bench.debugOpened_logs (b : Bench) (cal : Nat) (oper : BitVec 16) : ∃ g,
    b.debugOpened cal oper = { b with gd := g } ∧ g.debug = true ∧ b.gd.Logs g 6 oper ∧ b.gd.SameRegs g := by
  unfold Bench.debugOpened
  obtain ⟨seq, log, h, hl⟩ := Bench.guardLog_logs { b with gd := { b.gd with debug := true } } cal 6 oper b.rail.now 0 0 0
  exact ⟨_, h, rfl, hl, rfl, rfl⟩

theorem exec_debugOpen_open {x : GuardSession} (hm : s.hub.mailed (.debugOpen c) = true) (hs : s.hub.session = some x) :
    exec (.debugOpen c) s = .next ((State.putBench c.bench ((s.bench c.bench).debugOpened s.hub.calNow x.oper)
      { s with hub := { s.hub.guardActive with debugBench := some c.bench } }).mboxDone c.tag .ok 0) := by
  rw [exec_debugOpen, execDebugOpen, State.mailed_of_true hm]
  dsimp only
  rw [hs]
  rfl

theorem exec_guardSessionTimeout_none {t : Nat} (hs : s.hub.session = none) :
    exec (.guardSessionTimeout t) s = .next { s with hub := s.hub.tick t } := by
  have : (s.hub.tick t).session = none := hs
  rw [exec_guardSessionTimeout, execGuardSessionTimeout]
  dsimp only
  rw [this]

theorem exec_guardSessionTimeout_some {t : Nat} {x : GuardSession} (hs : s.hub.session = some x) :
    exec (.guardSessionTimeout t) s = .next (if x.last + 600000000000 ≤ (s.hub.tick t).up then
      State.closeSession 5 2 { s with hub := s.hub.tick t } else { s with hub := s.hub.tick t }) := by
  have : (s.hub.tick t).session = some x := hs
  rw [exec_guardSessionTimeout, execGuardSessionTimeout]
  dsimp only
  rw [this]

/-- One bench put back with a log entry, by a mailbox command that succeeds. -/
theorem State.answered_put (m : BenchIx) {h : Hub} {b : Bench} {q : Quoin} {g : Guards} (hp : h.mboxPhase = s.hub.mboxPhase)
    (hb : b = { s.bench c.bench with qn := q, gd := g }) (hg : (s.bench c.bench).gd.SameRegs g) :
    ∃ u, (State.putBench c.bench b { s with hub := h }).mboxDone c.tag .ok 0 = u ∧ s.GuardsKept u m ∧ s.Answer u c .ok 0 ∧
      u.hub.debugBench = h.debugBench ∧ (m ≠ c.bench → u.bench m = s.bench m) ∧ (u.bench c.bench).gd = g ∧
      ∃ x w k l, (u.bench c.bench).qn = { q with session := x, staged := w, logSeq := k, log := l } := by
  obtain ⟨hother, hpend⟩ := s.putBench_only_hub h c.bench b
  obtain ⟨x, w, k, l, hq⟩ := State.putBench_quoin { s with hub := h } c.bench b
  obtain ⟨_, _, _, ht⟩ := State.putBench_told { s with hub := h } c.bench b
  subst hb
  refine ⟨_, rfl, ?_, State.mboxDone_answers c .ok 0 ?_, ?_, fun hm => hother m hm, ?_, x, w, k, l, ?_⟩
  · by_cases hm : m = c.bench
    · subst hm
      exact State.guardsKept_of_logs hpend hq hg
    · unfold State.GuardsKept
      rw [State.mboxDone_bench, hother m hm]
      exact ⟨hpend, rfl, rfl, rfl, rfl⟩
  · rw [ht]; exact hp
  · rw [State.mboxDone_debugBench, ht]
  · rw [State.mboxDone_bench, hq]
  · rw [State.mboxDone_bench, hq]

/-- GUARD_LOG_READ with a count in range: the buffer is sent before the answer. -/
theorem exec_guardLogRead_good (hm : s.hub.mailed (.guardLogRead c first count) = true) (h0 : count ≠ 0) (h1 : count.toNat ≤ 4096) :
    let found := logRead (s.bench c.bench).gd.log first.toNat count.toNat
    let h : Hub := { s.hub.guardActive with
      sent := s.hub.guardActive.sent ++ [HostMsg.buffer c.tag (found.1.flatten.take (c.buf / 4))] }
    let fits := found.1.flatten.length ≤ c.buf / 4
    exec (.guardLogRead c first count) s = .next (({ s with hub := h } : State).mboxDone c.tag
      (if fits then .ok else .partialDone) (if fits then found.2 else c.buf / 4 * 4)) := by
  intro found h fits
  rw [exec_guardLogRead, execGuardLogRead, State.mailed_of_true hm]
  dsimp only
  rw [if_neg (by simp only [Bool.or_eq_true, decide_eq_true_eq, not_or]; exact ⟨h0, by omega⟩)]
  unfold listHolds
  simp only [decide_eq_true_eq]
  by_cases hf : fits
  · rw [if_pos hf, if_pos hf]
    exact congrArg Host.Outcome.next (if_pos hf)
  · rw [if_neg hf, if_neg hf]
    exact congrArg Host.Outcome.next (if_neg hf)

theorem exec_guardLogRead_bad (hm : s.hub.mailed (.guardLogRead c first count) = true) (h : count = 0 ∨ 4096 < count.toNat) :
    exec (.guardLogRead c first count) s = .next (({ s with hub := s.hub.guardActive } : State).mboxDone c.tag .badParam 0) := by
  rw [exec_guardLogRead, execGuardLogRead, State.mailed_of_true hm]
  dsimp only
  rw [if_pos (by simpa using h)]

end mailbox

/-- Settles O51. -/
theorem guardSessionsAreLogged : Obligations.GuardSessionsAreLogged := by
  intro s m c t oper first count pw x h answer frame logged did tell found
  refine ⟨fun i hi hm => exec_mailboxRow i hi hm, fun hs => ⟨fun hm => ?_, fun hm => ?_, fun hm => ?_, fun hm => ?_, ?_⟩,
    fun hs => ⟨fun hm => ?_, fun hm => ?_, fun hp hm => ?_, fun hp hm => ?_, fun hm => ?_, fun hl => ?_, fun hl => ?_⟩,
    fun h0 h1 hm => ?_, fun hc hm => ?_⟩
  · obtain ⟨w, hw, hp, ⟨_, _, _, ht⟩, hb⟩ := State.guardLogAll_spec 3 (oper.setWidth 16)
      { s with hub := Hub.gsEvent 0 { s.hub with session := some { oper := oper.setWidth 16, last := s.hub.up } } }
    obtain ⟨q, g, hq, hl, hr⟩ := hb m
    have he := exec_guardOpen_free hm hs
    rw [hw] at he
    refine ⟨_, he, State.guardsKept_of_logs hp hq hr, State.mboxDone_answers c .ok _ ?_, ?_, ?_, ?_⟩
    · rw [ht]; exact Hub.vector_mboxPhase ..
    · rw [State.mboxDone_gsEvents, ht]; exact Hub.gsEvent_bit (by decide) _
    · rw [State.mboxDone_session, ht]; exact Hub.gsEvent_session ..
    · rw [State.mboxDone_bench, hq]; exact hl
  · obtain ⟨hk, ha, hb, hss, -⟩ := s.answered_only (c := c) m .badState 0 (h := s.hub) rfl
    exact ⟨_, exec_guardClose_free hm hs, hk, ha, hb, hss.trans hs⟩
  · obtain ⟨hk, ha, hb, -⟩ := s.answered_only (c := c) m .badState 0 (h := s.hub) rfl
    exact ⟨_, exec_qnPasswordReplace_free hm hs, hk, ha, hb⟩
  · obtain ⟨hk, ha, hb, -, hd⟩ := s.answered_only (c := c) m .badState 0 (h := s.hub) rfl
    exact ⟨_, exec_debugOpen_free hm hs, hk, ha, hb, hd⟩
  · exact ⟨_, exec_guardSessionTimeout_none hs, s.guardsKept_of_benches m rfl rfl, rfl, rfl⟩
  · obtain ⟨hk, ha, hb, hss, -⟩ := s.answered_only (c := c) m .busy 0 (h := s.hub.guardActive) rfl
    exact ⟨_, exec_guardOpen_taken hm (by simp [hs]), hk, ha, hb, hss.trans (Hub.guardActive_session hs)⟩
  · obtain ⟨w, hw, hp, h1, h2, h3, h4, hb⟩ := s.closeSession_spec 4 (bit := 1) (by decide) hs
    obtain ⟨q, g, hq, hg, hl, hr⟩ := hb m
    have he := exec_guardClose_open hm (by simp [hs])
    rw [hw] at he
    refine ⟨_, he, State.guardsKept_of_logs hp hq hr, State.mboxDone_answers c .ok 0 h4, (State.mboxDone_session ..).trans h1,
      (State.mboxDone_debugBench ..).trans h2, ?_, ?_, ?_⟩
    · rw [State.mboxDone_bench, hq]; exact hg
    · rw [State.mboxDone_gsEvents]; exact h3
    · rw [State.mboxDone_bench, hq]; exact hl
  · obtain ⟨q, g, hb, hpw, hf, hl, hr⟩ := (s.bench c.bench).passwordReplaced_logs s.hub.calNow x.oper pw
    obtain ⟨u, hu, hk, ha, -, ho, hgd, _, _, _, _, hqn⟩ := s.answered_put m (h := s.hub.guardActive) rfl hb hr
    have he := exec_qnPasswordReplace_good hm hs hp
    rw [hu] at he
    refine ⟨u, he, hk, ha, ?_, ?_, ?_, ho⟩
    · rw [hqn]; exact hpw
    · rw [hqn]; exact hf
    · show (s.bench c.bench).gd.Logs (u.bench c.bench).gd 7 x.oper
      rw [hgd]; exact hl
  · obtain ⟨hk, ha, hb, -⟩ := s.answered_only (c := c) m .badParam 0 (h := s.hub.guardActive) rfl
    exact ⟨_, exec_qnPasswordReplace_bad hm hs hp, hk, ha, hb⟩
  · obtain ⟨g, hb, hd, hl, hr⟩ := (s.bench c.bench).debugOpened_logs s.hub.calNow x.oper
    obtain ⟨u, hu, hk, ha, hdb, ho, hgd, -⟩ :=
      s.answered_put (q := (s.bench c.bench).qn) m (h := { s.hub.guardActive with debugBench := some c.bench }) rfl hb hr
    have he := exec_debugOpen_open hm hs
    rw [hu] at he
    refine ⟨u, he, hk, ha, hdb, by rw [hgd]; exact hd, ?_, ho⟩
    show (s.bench c.bench).gd.Logs (u.bench c.bench).gd 6 x.oper
    rw [hgd]; exact hl
  · obtain ⟨w, hw, hp, h1, h2, h3, -, hb⟩ :=
      State.closeSession_spec (s := { s with hub := h }) 5 (bit := 2) (by decide) (show h.session = some x from hs)
    obtain ⟨q, g, hq, -, hlog, hr⟩ := hb m
    have he := exec_guardSessionTimeout_some (t := t) hs
    rw [if_pos hl, hw] at he
    exact ⟨w, he, State.guardsKept_of_logs hp hq hr, h1, h2, h3, by rw [hq]; exact hlog⟩
  · have he := exec_guardSessionTimeout_some (t := t) hs
    rw [if_neg (Nat.not_le.2 hl)] at he
    exact ⟨_, he, s.guardsKept_of_benches m rfl rfl, rfl, rfl⟩
  · have he := exec_guardLogRead_good hm h0 h1
    dsimp only at he
    generalize hst : (if (logRead _ _ _).1.flatten.length ≤ c.buf / 4 then Status.ok else Status.partialDone) = st at he
    generalize hr : (if (logRead _ _ _).1.flatten.length ≤ c.buf / 4 then _ else _) = r at he
    obtain ⟨hk, ha, hb, -⟩ := s.answered_only (c := c) m st r (h := { s.hub.guardActive with
        sent := s.hub.guardActive.sent ++ [HostMsg.buffer c.tag (found.1.flatten.take (c.buf / 4))] }) rfl
    obtain ⟨l, hl⟩ := State.mboxDone_sent c.tag st r { s with hub := { s.hub.guardActive with
        sent := s.hub.guardActive.sent ++ [HostMsg.buffer c.tag (found.1.flatten.take (c.buf / 4))] } }
    refine ⟨_, he, hk, hb, fun hf => ?_, fun hf => ?_, l, hl.trans (List.append_assoc ..)⟩
    · rw [← hst.symm.trans (if_pos hf), ← hr.symm.trans (if_pos hf)]
      exact ha
    · rw [← hst.symm.trans (if_neg (Nat.not_le.2 hf)), ← hr.symm.trans (if_neg (Nat.not_le.2 hf))]
      exact ha
  · obtain ⟨hk, ha, hb, -⟩ := s.answered_only (c := c) m .badParam 0 (h := s.hub.guardActive) rfl
    exact ⟨_, exec_guardLogRead_bad hm hc, hk, hb, ha⟩

end Sys2Proof.Machine
end

section
/-!
Guard writes and their effects
-/

namespace Sys2Proof.Machine

section
open Bench
@[simp] theorem foldl_points {α : Type} {f : Bench → α → Bench} (h : ∀ b a, (f b a).points = b.points) (l : List α) (b : Bench) :
    (l.foldl f b).points = b.points := foldl_keeps (g := fun b : Bench => b.points) h l b
@[simp] theorem foldl_snd_points {α β : Type} {f : β × Bench → α → β × Bench} (h : ∀ r a, (f r a).2.points = r.2.points) (l : List α)
    (r : β × Bench) : (l.foldl f r).2.points = r.2.points := foldl_keeps (g := fun r : β × Bench => r.2.points) h l r
@[simp] theorem Bench.guardClip_points (b : Bench) : (Bench.guardClip b).points = b.points := rfl
@[simp] theorem Bench.guardDeny_points (b : Bench) : (Bench.guardDeny b).points = b.points := rfl
@[simp] theorem Bench.faceConf_points (b : Bench) : (Bench.faceConf b).points = b.points := by
  unfold Bench.faceConf; split <;> simp
@[simp] theorem Bench.axisEvent_points (a bit : Nat) (b : Bench) : (Bench.axisEvent a bit b).points = b.points := by
  simp [Bench.axisEvent]
@[simp] theorem Bench.axisLimited_points (a : Nat) (on : Bool) (b : Bench) : (Bench.axisLimited a on b).points = b.points := by
  simp only [Bench.axisLimited]; (repeat' split) <;> simp
@[simp] theorem Bench.axisDce_points (a : Nat) (d : AxisDce) (b : Bench) : (Bench.axisDce a d b).points = b.points := by
  unfold Bench.axisDce; split <;> simp
@[simp] theorem Bench.axisChange_points (a : Nat) (c : AxisChange) (b : Bench) : (Bench.axisChange a c b).points = b.points := by
  unfold Bench.axisChange; split <;> simp
@[simp] theorem Bench.axisTake_points (a t : Nat) (b : Bench) : (Bench.axisTake a t b).points = b.points := by
  simp [Bench.axisTake]
@[simp] theorem Bench.axisCompute_points (a t : Nat) (b : Bench) : (Bench.axisCompute a t b).points = b.points := by
  unfold Bench.axisCompute; split <;> simp
@[simp] theorem Bench.axisQueue_points (a : Nat) (c : AxisChange) (b : Bench) : (Bench.axisQueue a c b).points = b.points := by
  simp only [Bench.axisQueue]; (repeat' split) <;> simp
@[simp] theorem Bench.count_points (n : Fin 10) (b : Bench) : (Bench.count n b).points = b.points := rfl
@[simp] theorem Bench.canEvent_points (k : Fin 2) (bit : Nat) (b : Bench) : (Bench.canEvent k bit b).points = b.points := by
  simp [Bench.canEvent]
@[simp] theorem Bench.canDenied_points (k : Fin 2) (p : CanPending) (b : Bench) : (Bench.canDenied k p b).points = b.points := by
  unfold Bench.canDenied; split <;> simp
@[simp] theorem Bench.canOffer_points (k : Fin 2) (t n : Nat) (b : Bench) : (Bench.canOffer k t n b).points = b.points := by
  fun_induction Bench.canOffer k t n b <;> simp_all
@[simp] theorem Bench.canDue_points (k : Fin 2) (t n a : Nat) (b : Bench) : (Bench.canDue k t n a b).points = b.points := by
  fun_induction Bench.canDue k t n a b <;> simp_all
@[simp] theorem Bench.canOffers_points (t : Nat) (b : Bench) : (Bench.canOffers t b).points = b.points := by
  simp [Bench.canOffers]
end
section
open Bench
@[simp] theorem foldl_gdEff {α : Type} {f : Bench → α → Bench} (h : ∀ b a, (f b a).gd.eff = b.gd.eff) (l : List α) (b : Bench) :
    (l.foldl f b).gd.eff = b.gd.eff := foldl_keeps (g := fun b : Bench => b.gd.eff) h l b
@[simp] theorem foldl_snd_gdEff {α β : Type} {f : β × Bench → α → β × Bench} (h : ∀ r a, (f r a).2.gd.eff = r.2.gd.eff) (l : List α)
    (r : β × Bench) : (l.foldl f r).2.gd.eff = r.2.gd.eff := foldl_keeps (g := fun r : β × Bench => r.2.gd.eff) h l r
@[simp] theorem Bench.guardClip_gdEff (b : Bench) : (Bench.guardClip b).gd.eff = b.gd.eff := rfl
@[simp] theorem Bench.guardDeny_gdEff (b : Bench) : (Bench.guardDeny b).gd.eff = b.gd.eff := rfl
@[simp] theorem Bench.faceConf_gdEff (b : Bench) : (Bench.faceConf b).gd.eff = b.gd.eff := by
  unfold Bench.faceConf; split <;> simp
@[simp] theorem Bench.axisEvent_gdEff (a bit : Nat) (b : Bench) : (Bench.axisEvent a bit b).gd.eff = b.gd.eff := by
  simp [Bench.axisEvent]
@[simp] theorem Bench.axisLimited_gdEff (a : Nat) (on : Bool) (b : Bench) : (Bench.axisLimited a on b).gd.eff = b.gd.eff := by
  simp only [Bench.axisLimited]; (repeat' split) <;> simp
@[simp] theorem Bench.axisDce_gdEff (a : Nat) (d : AxisDce) (b : Bench) : (Bench.axisDce a d b).gd.eff = b.gd.eff := by
  unfold Bench.axisDce; split <;> simp
@[simp] theorem Bench.axisChange_gdEff (a : Nat) (c : AxisChange) (b : Bench) : (Bench.axisChange a c b).gd.eff = b.gd.eff := by
  unfold Bench.axisChange; split <;> simp
@[simp] theorem Bench.axisTake_gdEff (a t : Nat) (b : Bench) : (Bench.axisTake a t b).gd.eff = b.gd.eff := by
  simp [Bench.axisTake]
@[simp] theorem Bench.axisCompute_gdEff (a t : Nat) (b : Bench) : (Bench.axisCompute a t b).gd.eff = b.gd.eff := by
  unfold Bench.axisCompute; split <;> simp
@[simp] theorem Bench.axisQueue_gdEff (a : Nat) (c : AxisChange) (b : Bench) : (Bench.axisQueue a c b).gd.eff = b.gd.eff := by
  simp only [Bench.axisQueue]; (repeat' split) <;> simp
@[simp] theorem Bench.count_gdEff (n : Fin 10) (b : Bench) : (Bench.count n b).gd.eff = b.gd.eff := rfl
@[simp] theorem Bench.canEvent_gdEff (k : Fin 2) (bit : Nat) (b : Bench) : (Bench.canEvent k bit b).gd.eff = b.gd.eff := by
  simp [Bench.canEvent]
@[simp] theorem Bench.canDenied_gdEff (k : Fin 2) (p : CanPending) (b : Bench) : (Bench.canDenied k p b).gd.eff = b.gd.eff := by
  unfold Bench.canDenied; split <;> simp
@[simp] theorem Bench.canOffer_gdEff (k : Fin 2) (t n : Nat) (b : Bench) : (Bench.canOffer k t n b).gd.eff = b.gd.eff := by
  fun_induction Bench.canOffer k t n b <;> simp_all
@[simp] theorem Bench.canDue_gdEff (k : Fin 2) (t n a : Nat) (b : Bench) : (Bench.canDue k t n a b).gd.eff = b.gd.eff := by
  fun_induction Bench.canDue k t n a b <;> simp_all
@[simp] theorem Bench.canOffers_gdEff (t : Nat) (b : Bench) : (Bench.canOffers t b).gd.eff = b.gd.eff := by
  simp [Bench.canOffers]
end
section
open Bench
@[simp] theorem foldl_gdReg {α : Type} {f : Bench → α → Bench} (h : ∀ b a, (f b a).gd.reg = b.gd.reg) (l : List α) (b : Bench) :
    (l.foldl f b).gd.reg = b.gd.reg := foldl_keeps (g := fun b : Bench => b.gd.reg) h l b
@[simp] theorem foldl_snd_gdReg {α β : Type} {f : β × Bench → α → β × Bench} (h : ∀ r a, (f r a).2.gd.reg = r.2.gd.reg) (l : List α)
    (r : β × Bench) : (l.foldl f r).2.gd.reg = r.2.gd.reg := foldl_keeps (g := fun r : β × Bench => r.2.gd.reg) h l r
@[simp] theorem Bench.guardClip_gdReg (b : Bench) : (Bench.guardClip b).gd.reg = b.gd.reg := rfl
@[simp] theorem Bench.guardDeny_gdReg (b : Bench) : (Bench.guardDeny b).gd.reg = b.gd.reg := rfl
@[simp] theorem Bench.faceConf_gdReg (b : Bench) : (Bench.faceConf b).gd.reg = b.gd.reg := by
  unfold Bench.faceConf; split <;> simp
@[simp] theorem Bench.axisEvent_gdReg (a bit : Nat) (b : Bench) : (Bench.axisEvent a bit b).gd.reg = b.gd.reg := by
  simp [Bench.axisEvent]
@[simp] theorem Bench.axisLimited_gdReg (a : Nat) (on : Bool) (b : Bench) : (Bench.axisLimited a on b).gd.reg = b.gd.reg := by
  simp only [Bench.axisLimited]; (repeat' split) <;> simp
@[simp] theorem Bench.axisDce_gdReg (a : Nat) (d : AxisDce) (b : Bench) : (Bench.axisDce a d b).gd.reg = b.gd.reg := by
  unfold Bench.axisDce; split <;> simp
@[simp] theorem Bench.axisChange_gdReg (a : Nat) (c : AxisChange) (b : Bench) : (Bench.axisChange a c b).gd.reg = b.gd.reg := by
  unfold Bench.axisChange; split <;> simp
@[simp] theorem Bench.axisTake_gdReg (a t : Nat) (b : Bench) : (Bench.axisTake a t b).gd.reg = b.gd.reg := by
  simp [Bench.axisTake]
@[simp] theorem Bench.axisCompute_gdReg (a t : Nat) (b : Bench) : (Bench.axisCompute a t b).gd.reg = b.gd.reg := by
  unfold Bench.axisCompute; split <;> simp
@[simp] theorem Bench.axisQueue_gdReg (a : Nat) (c : AxisChange) (b : Bench) : (Bench.axisQueue a c b).gd.reg = b.gd.reg := by
  simp only [Bench.axisQueue]; (repeat' split) <;> simp
@[simp] theorem Bench.count_gdReg (n : Fin 10) (b : Bench) : (Bench.count n b).gd.reg = b.gd.reg := rfl
@[simp] theorem Bench.canEvent_gdReg (k : Fin 2) (bit : Nat) (b : Bench) : (Bench.canEvent k bit b).gd.reg = b.gd.reg := by
  simp [Bench.canEvent]
@[simp] theorem Bench.canDenied_gdReg (k : Fin 2) (p : CanPending) (b : Bench) : (Bench.canDenied k p b).gd.reg = b.gd.reg := by
  unfold Bench.canDenied; split <;> simp
@[simp] theorem Bench.canOffer_gdReg (k : Fin 2) (t n : Nat) (b : Bench) : (Bench.canOffer k t n b).gd.reg = b.gd.reg := by
  fun_induction Bench.canOffer k t n b <;> simp_all
@[simp] theorem Bench.canDue_gdReg (k : Fin 2) (t n a : Nat) (b : Bench) : (Bench.canDue k t n a b).gd.reg = b.gd.reg := by
  fun_induction Bench.canDue k t n a b <;> simp_all
@[simp] theorem Bench.canOffers_gdReg (t : Nat) (b : Bench) : (Bench.canOffers t b).gd.reg = b.gd.reg := by
  simp [Bench.canOffers]
end
section
open Bench
@[simp] theorem foldl_gdPend {α : Type} {f : Bench → α → Bench} (h : ∀ b a, (f b a).gd.pend = b.gd.pend) (l : List α) (b : Bench) :
    (l.foldl f b).gd.pend = b.gd.pend := foldl_keeps (g := fun b : Bench => b.gd.pend) h l b
@[simp] theorem foldl_snd_gdPend {α β : Type} {f : β × Bench → α → β × Bench} (h : ∀ r a, (f r a).2.gd.pend = r.2.gd.pend) (l : List α)
    (r : β × Bench) : (l.foldl f r).2.gd.pend = r.2.gd.pend := foldl_keeps (g := fun r : β × Bench => r.2.gd.pend) h l r
@[simp] theorem Bench.guardClip_gdPend (b : Bench) : (Bench.guardClip b).gd.pend = b.gd.pend := rfl
@[simp] theorem Bench.guardDeny_gdPend (b : Bench) : (Bench.guardDeny b).gd.pend = b.gd.pend := rfl
@[simp] theorem Bench.faceConf_gdPend (b : Bench) : (Bench.faceConf b).gd.pend = b.gd.pend := by
  unfold Bench.faceConf; split <;> simp
@[simp] theorem Bench.axisEvent_gdPend (a bit : Nat) (b : Bench) : (Bench.axisEvent a bit b).gd.pend = b.gd.pend := by
  simp [Bench.axisEvent]
@[simp] theorem Bench.axisLimited_gdPend (a : Nat) (on : Bool) (b : Bench) : (Bench.axisLimited a on b).gd.pend = b.gd.pend := by
  simp only [Bench.axisLimited]; (repeat' split) <;> simp
@[simp] theorem Bench.axisDce_gdPend (a : Nat) (d : AxisDce) (b : Bench) : (Bench.axisDce a d b).gd.pend = b.gd.pend := by
  unfold Bench.axisDce; split <;> simp
@[simp] theorem Bench.axisChange_gdPend (a : Nat) (c : AxisChange) (b : Bench) : (Bench.axisChange a c b).gd.pend = b.gd.pend := by
  unfold Bench.axisChange; split <;> simp
@[simp] theorem Bench.axisTake_gdPend (a t : Nat) (b : Bench) : (Bench.axisTake a t b).gd.pend = b.gd.pend := by
  simp [Bench.axisTake]
@[simp] theorem Bench.axisCompute_gdPend (a t : Nat) (b : Bench) : (Bench.axisCompute a t b).gd.pend = b.gd.pend := by
  unfold Bench.axisCompute; split <;> simp
@[simp] theorem Bench.axisQueue_gdPend (a : Nat) (c : AxisChange) (b : Bench) : (Bench.axisQueue a c b).gd.pend = b.gd.pend := by
  simp only [Bench.axisQueue]; (repeat' split) <;> simp
@[simp] theorem Bench.count_gdPend (n : Fin 10) (b : Bench) : (Bench.count n b).gd.pend = b.gd.pend := rfl
@[simp] theorem Bench.canEvent_gdPend (k : Fin 2) (bit : Nat) (b : Bench) : (Bench.canEvent k bit b).gd.pend = b.gd.pend := by
  simp [Bench.canEvent]
@[simp] theorem Bench.canDenied_gdPend (k : Fin 2) (p : CanPending) (b : Bench) : (Bench.canDenied k p b).gd.pend = b.gd.pend := by
  unfold Bench.canDenied; split <;> simp
@[simp] theorem Bench.canOffer_gdPend (k : Fin 2) (t n : Nat) (b : Bench) : (Bench.canOffer k t n b).gd.pend = b.gd.pend := by
  fun_induction Bench.canOffer k t n b <;> simp_all
@[simp] theorem Bench.canDue_gdPend (k : Fin 2) (t n a : Nat) (b : Bench) : (Bench.canDue k t n a b).gd.pend = b.gd.pend := by
  fun_induction Bench.canDue k t n a b <;> simp_all
@[simp] theorem Bench.canOffers_gdPend (t : Nat) (b : Bench) : (Bench.canOffers t b).gd.pend = b.gd.pend := by
  simp [Bench.canOffers]
end
section
open Bench
@[simp] theorem foldl_rail {α : Type} {f : Bench → α → Bench} (h : ∀ b a, (f b a).rail = b.rail) (l : List α) (b : Bench) :
    (l.foldl f b).rail = b.rail := foldl_keeps (g := fun b : Bench => b.rail) h l b
@[simp] theorem foldl_snd_rail {α β : Type} {f : β × Bench → α → β × Bench} (h : ∀ r a, (f r a).2.rail = r.2.rail) (l : List α)
    (r : β × Bench) : (l.foldl f r).2.rail = r.2.rail := foldl_keeps (g := fun r : β × Bench => r.2.rail) h l r
@[simp] theorem Bench.guardDeny_rail (b : Bench) : (Bench.guardDeny b).rail = b.rail := rfl
@[simp] theorem Bench.count_rail (n : Fin 10) (b : Bench) : (Bench.count n b).rail = b.rail := rfl
@[simp] theorem Bench.canEvent_rail (k : Fin 2) (bit : Nat) (b : Bench) : (Bench.canEvent k bit b).rail = b.rail := by
  simp [Bench.canEvent]
@[simp] theorem Bench.canDenied_rail (k : Fin 2) (p : CanPending) (b : Bench) : (Bench.canDenied k p b).rail = b.rail := by
  unfold Bench.canDenied; split <;> simp
@[simp] theorem Bench.canOffer_rail (k : Fin 2) (t n : Nat) (b : Bench) : (Bench.canOffer k t n b).rail = b.rail := by
  fun_induction Bench.canOffer k t n b <;> simp_all
@[simp] theorem Bench.canDue_rail (k : Fin 2) (t n a : Nat) (b : Bench) : (Bench.canDue k t n a b).rail = b.rail := by
  fun_induction Bench.canDue k t n a b <;> simp_all
@[simp] theorem Bench.canOffers_rail (t : Nat) (b : Bench) : (Bench.canOffers t b).rail = b.rail := by
  simp [Bench.canOffers]
end
section
open Bench
@[simp] theorem Bench.guardDeny_bn (b : Bench) : (Bench.guardDeny b).bn = b.bn := rfl
@[simp] theorem Bench.canEvent_bn (k : Fin 2) (bit : Nat) (b : Bench) : (Bench.canEvent k bit b).bn = b.bn := by
  simp [Bench.canEvent]
@[simp] theorem Bench.canDenied_bn (k : Fin 2) (p : CanPending) (b : Bench) : (Bench.canDenied k p b).bn = b.bn := by
  unfold Bench.canDenied; split <;> simp
@[simp] theorem Bench.canOffer_bn (k : Fin 2) (t n : Nat) (b : Bench) : (Bench.canOffer k t n b).bn = b.bn := by
  fun_induction Bench.canOffer k t n b <;> simp_all
@[simp] theorem Bench.canDue_bn (k : Fin 2) (t n a : Nat) (b : Bench) : (Bench.canDue k t n a b).bn = b.bn := by
  fun_induction Bench.canDue k t n a b <;> simp_all
@[simp] theorem Bench.canOffers_bn (t : Nat) (b : Bench) : (Bench.canOffers t b).bn = b.bn := by
  simp [Bench.canOffers]
end

/-! ### Guard writes and their effects (R547 to R549) -/

section store
variable {b : Bench} (y : GuardBy) (g : Nat) (l : List (Nat × Word))

/-- The words of a guard, as the log gets them. -/
def Bench.guardLogged (b : Bench) : Bench :=
  l.foldl (fun b e => b.guardLogAs y.mode y.cal 1 y.oper g e.1 (b.guardReg e.1) e.2) b

theorem Bench.guardLogged_only (b : Bench) : ∃ seq log,
    b.guardLogged y g l = { b with gd := { b.gd with seq := seq, log := log } } ∧ (l.length = 1 → seq = b.gd.seq + 1) := by
  unfold Bench.guardLogged
  induction l generalizing b with
  | nil => exact ⟨_, _, rfl, fun h => nomatch h⟩
  | cons e l ih =>
    obtain ⟨seq, log, h, hs, -⟩ := b.guardLogAs_logs y.mode y.cal 1 y.oper g e.1 (b.guardReg e.1) e.2
    obtain ⟨seq', log', h', -⟩ := ih { b with gd := { b.gd with seq := seq, log := log } }
    rw [List.foldl_cons, h, h']
    refine ⟨_, _, rfl, fun hl => ?_⟩
    have : l = [] := List.eq_nil_of_length_eq_zero (Nat.succ.inj hl)
    subst this
    rw [List.foldl_nil] at h'
    exact (congrArg (fun b : Bench => b.gd.seq) h').symm.trans hs

/-- The register set with the words of a guard in it. -/
def guardSet (reg : Tbl (Option Word)) (l : List (Nat × Word)) : Tbl (Option Word) :=
  l.foldl (fun m e => Tbl.set none m e.1 (some e.2)) reg

theorem Bench.guardStore_noLog (b : Bench) : b.guardStore y .noLog g l = { b with gd := { b.gd with logFail := true } } := rfl

theorem Bench.guardStore_noSet (b : Bench) (one two : Bool) : ∃ seq log, b.guardStore y (.noSet one two) g l =
    { b with gd := { b.gd with
        seq := seq, log := log, logFail := true
        copyA := if one then some (guardSet b.gd.reg l) else b.gd.copyA
        copyB := if two then some (guardSet b.gd.reg l) else b.gd.copyB } } ∧ (l.length = 1 → seq = b.gd.seq + 1) := by
  obtain ⟨seq, log, h, hs⟩ := b.guardLogged_only y g l
  refine ⟨seq, log, ?_, hs⟩
  have e : b.guardStore y (.noSet one two) g l = { b.guardLogged y g l with gd := { (b.guardLogged y g l).gd with
      logFail := true
      copyA := if one then some (guardSet b.gd.reg l) else b.gd.copyA
      copyB := if two then some (guardSet b.gd.reg l) else b.gd.copyB } } := rfl
  rw [e, h]

theorem Bench.guardStore_ok (b : Bench) : ∃ seq log, b.guardStore y .ok g l =
    { b with gd := { b.gd with
        seq := seq, log := log, reg := guardSet b.gd.reg l, copyA := some (guardSet b.gd.reg l)
        copyB := some (guardSet b.gd.reg l), pend := b.gd.pend ++ l.map (fun e => (g, e.1, e.2)), gbad := false } } ∧
      (l.length = 1 → seq = b.gd.seq + 1) := by
  obtain ⟨seq, log, h, hs⟩ := b.guardLogged_only y g l
  refine ⟨seq, log, ?_, hs⟩
  have e : b.guardStore y .ok g l = { b.guardLogged y g l with gd := { (b.guardLogged y g l).gd with
      reg := guardSet b.gd.reg l, copyA := some (guardSet b.gd.reg l), copyB := some (guardSet b.gd.reg l)
      pend := b.gd.pend ++ l.map (fun e => (g, e.1, e.2)), gbad := false } } := rfl
  rw [e, h]

/-- A store that failed keeps the registers and what is due. -/
theorem Bench.guardStore_failed (b : Bench) {mram : MramTry} (hm : mram ≠ .ok) : ∃ seq log c d,
    b.guardStore y mram g l = { b with gd := { b.gd with seq := seq, log := log, logFail := true, copyA := c, copyB := d } } := by
  match mram with
  | .ok => exact absurd rfl hm
  | .noLog => exact ⟨_, _, _, _, guardStore_noLog y g l b⟩
  | .noSet one two =>
    obtain ⟨_, _, h, -⟩ := b.guardStore_noSet y g l one two
    exact ⟨_, _, _, _, h⟩

end store

section write
variable {b : Bench} {y : GuardBy} {mram : MramTry} {g off : Nat} {v mask : Word}

theorem Bench.guardWrite_refused (hm : guardMask off = some mask) (hk : b.guardOk off mask v = false) :
    b.guardWrite y mram g off v = (b.guardLogAs y.mode y.cal 2 y.oper b.rail.now off (b.guardReg off) v, true, false) := by
  unfold Bench.guardWrite
  rw [hm]
  exact if_pos (by rw [hk]; rfl)

theorem Bench.guardWrite_low (hm : guardMask off = some mask) (hk : b.guardOk off mask v = true) (hl : guardLow off = true) :
    b.guardWrite y mram g off v = ({ b with gd := { b.gd with low := Tbl.set none b.gd.low off (some v) } }, false, false) := by
  unfold Bench.guardWrite
  rw [hm]
  exact (if_neg (by rw [hk]; decide)).trans (if_pos hl)

/-- The words that a write completes: both of a two-word guard whose lower word has come. -/
def Bench.guardWords (b : Bench) (off : Nat) (v : Word) : List (Nat × Word) :=
  match (if guardHigh off then Tbl.get none b.gd.low (off - 4) else none) with
  | some w => [(off - 4, w), (off, v)]
  | none => [(off, v)]

theorem Bench.guardWords_single (h : guardHigh off = false) : b.guardWords off v = [(off, v)] := by
  rw [guardWords, h]; rfl
theorem Bench.guardWords_pair {w : Word} (h : guardHigh off = true) (hw : Tbl.get none b.gd.low (off - 4) = some w) :
    b.guardWords off v = [(off - 4, w), (off, v)] := by
  rw [guardWords, if_pos h, hw]

theorem Bench.guardWrite_failed (hm : guardMask off = some mask) (hk : b.guardOk off mask v = true) (hl : guardLow off = false)
    (hr : mram ≠ .ok) : b.guardWrite y mram g off v = (b.guardStore y mram g (b.guardWords off v), false, true) := by
  unfold Bench.guardWrite
  rw [hm]
  refine ((if_neg (by rw [hk]; decide)).trans (if_neg (by simp [hl]))).trans ?_
  dsimp only
  rw [if_neg hr, decide_eq_true hr]
  rfl

theorem Bench.guardWrite_stored (hm : guardMask off = some mask) (hk : b.guardOk off mask v = true) (hl : guardLow off = false) :
    let c := b.guardStore y .ok g (b.guardWords off v)
    b.guardWrite y .ok g off v = ({ c with gd := { c.gd with low := Tbl.set none c.gd.low (off - 4) none } }, false, false) := by
  unfold Bench.guardWrite
  rw [hm]
  refine ((if_neg (by rw [hk]; decide)).trans (if_neg (by simp [hl]))).trans ?_
  dsimp only
  rw [if_pos rfl]
  rfl

end write

theorem guardLow_of_high {off : Nat} (h : guardHigh off = true) : guardLow off = false := by
  simp only [guardHigh, guardLow, Bool.and_eq_true, decide_eq_true_eq] at h ⊢
  simp [h.2]

section exec
variable {s : State} {off g : Nat} {v mask : Word} {mram : MramTry} {x : GuardSession}

/-- The bench that the guard window names. -/
def State.guardBench (s : State) : BenchIx := mkIx 15 (fld s.hub.gsSel 3 0)

theorem exec_guardWrite_denied (hs : s.hub.session = none) (hm : guardMask off = some mask) :
    exec (.guardWrite off v g mram) s = .next { s with hub := { s.hub with gsDenied := inc s.hub.gsDenied } } := by
  rw [exec_guardWrite, execGuardWrite]
  simp only [hs, hm]

theorem exec_guardWrite_nowhere (hm : guardMask off = none) : exec (.guardWrite off v g mram) s = .next s := by
  rw [exec_guardWrite, execGuardWrite]
  simp only [hm]

/-- A bench with a write held for the end of WAKE. -/
def Bench.guardHold (h : HeldWrite) (b : Bench) : Bench :=
  { b with gd := { b.gd with held := b.gd.held.filter (fun e => e.off ≠ h.off) ++ [h] } }

theorem exec_guardWrite_held (hs : s.hub.session = some x) (hm : guardMask off = some mask)
    (hw : (s.bench s.guardBench).bn.mode = .wake) : exec (.guardWrite off v g mram) s =
      .next (State.putBench s.guardBench ((s.bench s.guardBench).guardHold
        { off := off, value := v, oper := x.oper, mram := mram, mode := (s.bench s.guardBench).modeWord })
        { s with hub := s.hub.guardActive }) := by
  rw [exec_guardWrite, execGuardWrite]
  simp only [hs, hm]
  exact if_pos hw

/-- A write inside a session to a bench not in WAKE, as the log gets it. -/
def State.guardResult (s : State) (oper : BitVec 16) (mram : MramTry) (g off : Nat) (v : Word) : Bench × Bool × Bool :=
  let b := s.bench s.guardBench
  b.guardWrite ⟨s.hub.calNow, oper, b.modeWord⟩ mram (b.guardMoment g) off v

theorem exec_guardWrite_taken (hs : s.hub.session = some x) (hm : guardMask off = some mask)
    (hw : (s.bench s.guardBench).bn.mode ≠ .wake) :
    ∃ t, State.putBench s.guardBench (s.guardResult x.oper mram g off v).1 { s with hub := s.hub.guardActive } = t ∧
      exec (.guardWrite off v g mram) s =
        .next { t with hub := t.hub.guardOutcome (s.guardResult x.oper mram g off v).2.1 (s.guardResult x.oper mram g off v).2.2 } := by
  refine ⟨_, rfl, ?_⟩
  rw [exec_guardWrite, execGuardWrite]
  simp only [hs, hm]
  exact if_neg hw

/-- What a taken write leaves: its bench as its operation made it, but for an open Quoin session, and the hub's own outcome. -/
theorem exec_guardWrite_result (hs : s.hub.session = some x) (hm : guardMask off = some mask)
    (hw : (s.bench s.guardBench).bn.mode ≠ .wake) {b' : Bench} {rej fail : Bool}
    (hr : s.guardResult x.oper mram g off v = (b', rej, fail)) :
    ∃ u, exec (.guardWrite off v g mram) s = .next u ∧ OnlyBench s.guardBench s u ∧
      (∃ q, u.bench s.guardBench = { b' with qn := q }) ∧
      (rej = true → fail = false → u.hub.gsRej = inc s.hub.gsRej ∧ bitOf u.hub.gsEvents 3 = true) ∧
      (fail = true → bitOf u.hub.gsEvents 4 = true) := by
  obtain ⟨t, ht, he⟩ := exec_guardWrite_taken (v := v) (g := g) (mram := mram) hs hm hw
  rw [hr] at ht he
  obtain ⟨_, _, _, hub⟩ := State.putBench_told { s with hub := s.hub.guardActive } s.guardBench b'
  have ho := s.putBench_only_hub s.hub.guardActive s.guardBench b'
  obtain ⟨q, hq⟩ := State.putBench_bench { s with hub := s.hub.guardActive } s.guardBench b'
  dsimp only at ht
  rw [ht] at hub ho hq
  refine ⟨_, he, ho, ⟨q, hq⟩, fun hrej hfail => ?_, fun hfail => ?_⟩
  · subst hrej hfail
    refine ⟨(Hub.vector_gsRej ..).trans ?_, Hub.gsEvent_bit (by decide) _⟩
    rw [hub]
    rfl
  · subst hfail
    exact Hub.gsEvent_bit (by decide) _

/-- A refused write: the log alone. -/
theorem exec_guardWrite_refuses (hs : s.hub.session = some x) (hm : guardMask off = some mask)
    (hw : (s.bench s.guardBench).bn.mode ≠ .wake) (hk : (s.bench s.guardBench).guardOk off mask v = false) :
    ∃ u, exec (.guardWrite off v g mram) s = .next u ∧ OnlyBench s.guardBench s u ∧ u.hub.gsRej = inc s.hub.gsRej ∧
      bitOf u.hub.gsEvents 3 = true ∧ (u.bench s.guardBench).gd.reg = (s.bench s.guardBench).gd.reg ∧
      (u.bench s.guardBench).gd.eff = (s.bench s.guardBench).gd.eff ∧
      (u.bench s.guardBench).gd.seq = (s.bench s.guardBench).gd.seq + 1 := by
  obtain ⟨seq, log, hl, hseq, -⟩ := (s.bench s.guardBench).guardLogAs_logs (s.bench s.guardBench).modeWord s.hub.calNow 2 x.oper
    (s.bench s.guardBench).rail.now off ((s.bench s.guardBench).guardReg off) v
  have hr : s.guardResult x.oper mram g off v = _ := Bench.guardWrite_refused hm hk
  obtain ⟨u, he, ho, ⟨q, hq⟩, hrej, -⟩ := exec_guardWrite_result hs hm hw hr
  obtain ⟨h1, h2⟩ := hrej rfl rfl
  refine ⟨u, he, ho, h1, h2, ?_⟩
  rw [hl] at hq
  rw [hq]
  exact ⟨rfl, rfl, hseq⟩

/-- The lower word of a guard waits for the higher one. -/
theorem exec_guardWrite_waits (hs : s.hub.session = some x) (hm : guardMask off = some mask)
    (hw : (s.bench s.guardBench).bn.mode ≠ .wake) (hk : (s.bench s.guardBench).guardOk off mask v = true) (hl : guardLow off = true) :
    ∃ u, exec (.guardWrite off v g mram) s = .next u ∧ OnlyBench s.guardBench s u ∧
      (u.bench s.guardBench).gd.reg = (s.bench s.guardBench).gd.reg ∧
      (u.bench s.guardBench).gd.eff = (s.bench s.guardBench).gd.eff ∧ Tbl.get none (u.bench s.guardBench).gd.low off = some v := by
  have hres : s.guardResult x.oper mram g off v = _ := Bench.guardWrite_low hm hk hl
  obtain ⟨u, he, ho, ⟨q, hq⟩, -⟩ := exec_guardWrite_result hs hm hw hres
  refine ⟨u, he, ho, ?_⟩
  rw [hq]
  exact ⟨rfl, rfl, (Tbl.get_set_self (d := none) (t := (s.bench s.guardBench).gd.low) (k := off) (v := some v) :)⟩

/-- A write whose MRAM failed keeps the registers. -/
theorem exec_guardWrite_fails (hs : s.hub.session = some x) (hm : guardMask off = some mask)
    (hw : (s.bench s.guardBench).bn.mode ≠ .wake) (hk : (s.bench s.guardBench).guardOk off mask v = true) (hl : guardLow off = false)
    (hr : mram ≠ .ok) :
    ∃ u, exec (.guardWrite off v g mram) s = .next u ∧ OnlyBench s.guardBench s u ∧ bitOf u.hub.gsEvents 4 = true ∧
      (u.bench s.guardBench).gd.logFail = true ∧ (u.bench s.guardBench).gd.reg = (s.bench s.guardBench).gd.reg ∧
      (u.bench s.guardBench).gd.eff = (s.bench s.guardBench).gd.eff ∧
      (u.bench s.guardBench).gd.pend = (s.bench s.guardBench).gd.pend ∧
      (mram = .noLog → (u.bench s.guardBench).gd.log = (s.bench s.guardBench).gd.log) ∧
      (∀ one two, mram = .noSet one two → ∀ l, (s.bench s.guardBench).guardWords off v = l →
        (l.length = 1 → (u.bench s.guardBench).gd.seq = (s.bench s.guardBench).gd.seq + 1) ∧
        (u.bench s.guardBench).gd.copyA =
          (if one then some (guardSet (s.bench s.guardBench).gd.reg l) else (s.bench s.guardBench).gd.copyA) ∧
        (u.bench s.guardBench).gd.copyB =
          (if two then some (guardSet (s.bench s.guardBench).gd.reg l) else (s.bench s.guardBench).gd.copyB)) := by
  have hres : s.guardResult x.oper mram g off v = _ := Bench.guardWrite_failed hm hk hl hr
  obtain ⟨u, he, ho, ⟨q, hq⟩, -, hfail⟩ := exec_guardWrite_result hs hm hw hres
  refine ⟨u, he, ho, hfail rfl, ?_⟩
  generalize (s.bench s.guardBench).guardWords off v = l at hq ⊢
  generalize (s.bench s.guardBench).guardMoment g = moment at hq
  generalize GuardBy.mk _ _ _ = y at hq
  match mram with
  | .ok => exact absurd rfl hr
  | .noLog =>
    rw [Bench.guardStore_noLog] at hq
    rw [hq]
    exact ⟨rfl, rfl, rfl, rfl, fun _ => rfl, fun _ _ h => by cases h⟩
  | .noSet one two =>
    obtain ⟨seq, log, hns, hseq⟩ := (s.bench s.guardBench).guardStore_noSet y moment l one two
    rw [hns] at hq
    rw [hq]
    refine ⟨rfl, rfl, rfl, rfl, (fun h => by cases h), fun one' two' h l' hl' => ?_⟩
    cases h
    subst hl'
    exact ⟨hseq, rfl, rfl⟩

/-- A write that completes a guard, as its bench stands after it. -/
theorem exec_guardWrite_stores (hs : s.hub.session = some x) (hm : guardMask off = some mask)
    (hw : (s.bench s.guardBench).bn.mode ≠ .wake) (hk : (s.bench s.guardBench).guardOk off mask v = true) (hl : guardLow off = false)
    {l : List (Nat × Word)} (hwords : (s.bench s.guardBench).guardWords off v = l) :
    ∃ u, exec (.guardWrite off v g .ok) s = .next u ∧ OnlyBench s.guardBench s u ∧
      (u.bench s.guardBench).gd.reg = guardSet (s.bench s.guardBench).gd.reg l ∧
      (u.bench s.guardBench).gd.copyA = some (u.bench s.guardBench).gd.reg ∧
      (u.bench s.guardBench).gd.copyB = some (u.bench s.guardBench).gd.reg ∧
      (u.bench s.guardBench).gd.pend = (s.bench s.guardBench).gd.pend ++
        l.map (fun e => ((s.bench s.guardBench).guardMoment g, e.1, e.2)) ∧
      (u.bench s.guardBench).gd.eff = (s.bench s.guardBench).gd.eff ∧
      (l.length = 1 → (u.bench s.guardBench).gd.seq = (s.bench s.guardBench).gd.seq + 1) ∧
      (u.bench s.guardBench).gd.gbad = false ∧ (u.bench s.guardBench).points = (s.bench s.guardBench).points := by
  have hres : s.guardResult x.oper .ok g off v = _ := Bench.guardWrite_stored hm hk hl
  obtain ⟨u, he, ho, ⟨q, hq⟩, -⟩ := exec_guardWrite_result hs hm hw hres
  obtain ⟨seq, log, hst, hseq⟩ := (s.bench s.guardBench).guardStore_ok
    ⟨s.hub.calNow, x.oper, (s.bench s.guardBench).modeWord⟩ ((s.bench s.guardBench).guardMoment g) l
  rw [hwords, hst] at hq
  refine ⟨u, he, ho, ?_⟩
  rw [hq]
  exact ⟨rfl, rfl, rfl, rfl, rfl, hseq, rfl, rfl⟩

end exec

section effect
variable {b : Bench}

theorem Bench.canDue_nil {k : Fin 2} {t n a : Nat} (h : (b.can[k]).pending = []) : b.canDue k t n a = b := by
  cases n with
  | zero => rfl
  | succ n =>
    have : (b.can[k]).firstOffer a t = none := by rw [Can.firstOffer, h]; rfl
    rw [canDue, this]

theorem Bench.canOffers_nil {t : Nat} (h : ∀ k : Fin 2, (b.can[k]).pending = []) : b.canOffers t = b := by
  rw [canOffers, List.foldl_cons, List.foldl_cons, List.foldl_nil, canDue_nil (h 0), canDue_nil (h 1)]

/-- The stored values that are due, once the CAN frames on offer have met the list in force. -/
theorem Bench.guardEffect_offered {c : Bench} (hc : b.canOffers (b.rail.now - 1) = c) : b.guardEffect =
    (c.gd.pend.filter fun e => e.1 ≤ c.rail.now).foldl (fun b e => b.guardApply e.1 e.2.1 e.2.2)
      { c with gd := { c.gd with pend := c.gd.pend.filter fun e => c.rail.now < e.1 } } := by
  subst hc
  rfl

theorem Bench.guardEffect_idle (hp : ∀ e ∈ b.gd.pend, b.rail.now < e.1) (hc : ∀ k : Fin 2, (b.can[k]).pending = []) :
    b.guardEffect = b := by
  have due : b.gd.pend.filter (fun e => Decidable.decide (e.1 ≤ b.rail.now)) = [] :=
    List.filter_eq_nil_iff.2 fun e he => by simpa using hp e he
  have rest : b.gd.pend.filter (fun e => Decidable.decide (b.rail.now < e.1)) = b.gd.pend :=
    List.filter_eq_self.2 fun e he => by simpa using hp e he
  rw [guardEffect_offered (canOffers_nil hc), due, rest]
  rfl

theorem Bench.guardEffect_one {g off : Nat} {v : Word} (hp : b.gd.pend = [(g, off, v)]) (hg : g ≤ b.rail.now) :
    ∃ c, b.canOffers (b.rail.now - 1) = c ∧
      b.guardEffect = Bench.guardApply g off v { c with gd := { c.gd with pend := [] } } := by
  obtain ⟨c, hc⟩ : ∃ c, b.canOffers (b.rail.now - 1) = c := ⟨_, rfl⟩
  have hpend : c.gd.pend = [(g, off, v)] := by rw [← hc, canOffers_gdPend, hp]
  have hnow : c.rail.now = b.rail.now := by rw [← hc, canOffers_rail]
  refine ⟨c, hc, ?_⟩
  have due : [(g, off, v)].filter (fun e => Decidable.decide (e.1 ≤ b.rail.now)) = [(g, off, v)] := by simpa using hg
  have rest : [(g, off, v)].filter (fun e => Decidable.decide (b.rail.now < e.1)) = [] := by simpa using hg
  rw [guardEffect_offered hc, hpend, hnow, due, rest]
  rfl

theorem Bench.guardApply_spec (g off : Nat) (v : Word) (b : Bench) :
    (b.guardApply g off v).gd.eff = Tbl.set none b.gd.eff off (some v) ∧ (b.guardApply g off v).gd.reg = b.gd.reg ∧
    (b.guardApply g off v).gd.pend = b.gd.pend ∧ (b.guardApply g off v).points = b.points ∧ (b.guardApply g off v).bn = b.bn := by
  unfold Bench.guardApply
  dsimp only
  split
  · split
    · simp
    · exact ⟨rfl, rfl, rfl, rfl, rfl⟩
  · split
    · simp
    · exact ⟨rfl, rfl, rfl, rfl, rfl⟩

/-- One stored value that has come due, and what its effect leaves. -/
theorem Bench.guardEffect_one_spec {g off : Nat} {v : Word} (hp : b.gd.pend = [(g, off, v)]) (hg : g ≤ b.rail.now) :
    b.guardEffect.gd.eff = Tbl.set none b.gd.eff off (some v) ∧ b.guardEffect.gd.reg = b.gd.reg ∧ b.guardEffect.gd.pend = [] ∧
    b.guardEffect.points = b.points ∧ b.guardEffect.bn = b.bn := by
  obtain ⟨c, hc, he⟩ := guardEffect_one hp hg
  have heff : c.gd.eff = b.gd.eff := by rw [← hc, canOffers_gdEff]
  have hreg : c.gd.reg = b.gd.reg := by rw [← hc, canOffers_gdReg]
  have hpts : c.points = b.points := by rw [← hc, canOffers_points]
  have hbn : c.bn = b.bn := by rw [← hc, canOffers_bn]
  obtain ⟨h1, h2, h3, h4, h5⟩ := guardApply_spec g off v { c with gd := { c.gd with pend := [] } }
  rw [he, ← heff]
  exact ⟨h1, h2.trans hreg, h3, h4.trans hpts, h5.trans hbn⟩

theorem Bench.guard_set {c : Bench} {off : Nat} {v : Word} (h : c.gd.eff = Tbl.set none b.gd.eff off (some v)) :
    c.guard off = v ∧ ∀ o, o ≠ off → c.guard o = b.guard o := by
  unfold Bench.guard
  rw [h]
  exact ⟨by rw [Tbl.get_set_self]; rfl, fun o ho => by rw [Tbl.get_set_other ho]⟩

theorem Bench.guardReg_set {c : Bench} {off : Nat} {v : Word} (h : c.gd.reg = Tbl.set none b.gd.reg off (some v)) :
    c.guardReg off = v ∧ ∀ o, o ≠ off → c.guardReg o = b.guardReg o := by
  unfold Bench.guardReg
  rw [h]
  exact ⟨by rw [Tbl.get_set_self]; rfl, fun o ho => by rw [Tbl.get_set_other ho]⟩

/-- Both words of a two-word guard. -/
theorem Bench.guardReg_pair {c : Bench} {off : Nat} {v w : Word} (hh : guardHigh off = true)
    (h : c.gd.reg = guardSet b.gd.reg [(off - 4, w), (off, v)]) : c.guardReg off = v ∧ c.guardReg (off - 4) = w := by
  have hne : off - 4 ≠ off := by
    simp only [guardHigh, Bool.and_eq_true, decide_eq_true_eq] at hh
    omega
  have h' : c.gd.reg = Tbl.set none (Tbl.set none b.gd.reg (off - 4) (some w)) off (some v) := h
  unfold Bench.guardReg
  rw [h', Tbl.get_set_self, Tbl.get_set_other hne, Tbl.get_set_self]
  exact ⟨rfl, rfl⟩

end effect

/-- Settles O52. -/
theorem guardsChangeOnlyInASession : Obligations.GuardsChangeOnlyInASession := by
  intro s n t g off v mask mram x dst b soon at' y tell
  refine ⟨fun hs hm => ?_, fun hs hw hm => ?_, fun hs hw hm => ⟨fun hk => ?_, fun hk hl hr => ?_, fun hk hl => ?_,
    fun hk hl hh hr => ?_, fun hk hh hr w hlow => ?_⟩, fun hm => ?_, fun hp hg => ?_, fun hp hc => ?_⟩
  · exact ⟨_, exec_guardWrite_denied hs hm, ⟨fun _ _ => rfl, rfl⟩, rfl, rfl⟩
  · obtain ⟨q, hq⟩ := State.putBench_bench { s with hub := s.hub.guardActive } s.guardBench ((s.bench s.guardBench).guardHold
        { off := off, value := v, oper := x.oper, mram := mram, mode := (s.bench s.guardBench).modeWord })
    refine ⟨_, exec_guardWrite_held hs hm hw, s.putBench_only_hub .., ?_⟩
    beta_reduce
    rw [show dst = s.guardBench from rfl, hq]
    exact ⟨List.mem_append_right _ (List.mem_singleton.2 rfl), rfl, rfl⟩
  · exact exec_guardWrite_refuses hs hm hw hk
  · obtain ⟨u, he, ho, h4, hf, hreg, heff, hpend, hlog, hset⟩ := exec_guardWrite_fails (g := g) hs hm hw hk hl hr
    refine ⟨u, he, ho, h4, hf, hreg, heff, hpend, hlog, fun hh one two hn => ?_⟩
    obtain ⟨hseq, ha, hb⟩ := hset one two hn _ (Bench.guardWords_single hh)
    exact ⟨hseq rfl, ha, hb⟩
  · exact exec_guardWrite_waits hs hm hw hk hl
  · subst hr
    obtain ⟨u, he, ho, hreg, ha, hb, hpend, heff, hseq, hbad, hpts⟩ :=
      exec_guardWrite_stores hs hm hw hk hl (Bench.guardWords_single hh)
    obtain ⟨h1, h2⟩ := Bench.guardReg_set (b := s.bench s.guardBench) hreg
    exact ⟨u, he, ho, h1, h2, ha, hb, hpend, heff, hseq rfl, hbad, hpts⟩
  · subst hr
    obtain ⟨u, he, ho, hreg, -, -, hpend, heff, -⟩ :=
      exec_guardWrite_stores hs hm hw hk (guardLow_of_high hh) (Bench.guardWords_pair hh hlow)
    obtain ⟨h1, h2⟩ := Bench.guardReg_pair hh hreg
    exact ⟨u, he, ho, h1, h2, hpend, heff⟩
  · exact ⟨s, exec_guardWrite_nowhere hm, ⟨fun _ _ => rfl, rfl⟩, rfl⟩
  · refine gives_of_onBench (exec_guardEffect ..) fun q => ?_
    obtain ⟨heff, hreg, hpend, hpts, hbn⟩ := Bench.guardEffect_one_spec (b := y) hp hg
    rw [show (s.bench n).tick t = y from rfl]
    generalize Bench.guardEffect y = z at heff hreg hpend hpts hbn ⊢
    obtain ⟨hg1, hg2⟩ := Bench.guard_set (b := y) (c := { z with qn := q }) heff
    exact ⟨hg1, hg2, hpend, hreg, hpts, hbn⟩
  · refine gives_of_onBench (exec_guardEffect ..) fun _ => ?_
    rw [show ((s.bench n).tick t).guardEffect = _ from Bench.guardEffect_idle hp hc]
    exact ⟨rfl, rfl⟩

end Sys2Proof.Machine
end

section
/-!
The end of a snapshot
-/

namespace Sys2Proof.Machine

/-! ### The end of a snapshot -/

/-- Bench 0 in HOLD while its snapshot is written. -/
def snapshotUnderWay : State :=
  State.reset.withBench 0 { Bench.atReset 0 with
    bn := { (Bench.atReset 0).bn with mode := .hold, snapBusy := true }
    snap := some (Bench.atReset 0).snapshot }

/-- Whether the snapshot of bench 0 has its header after an instruction. -/
def headedAfter (i : Instr) (s : State) : Option Bool :=
  match exec i s with
  | .next t => (t.bench 0).snap.map (·.headed)
  | _ => none

theorem snapshotUnderWay_busy : ((snapshotUnderWay.bench 0).tick 0).bn.snapBusy = true ∧
    ((snapshotUnderWay.bench 0).tick 0).snap.map (·.headed) = some false := by
  decide +kernel

theorem snapshotUnderWay_headed : headedAfter (.snapshotComplete 0 0) snapshotUnderWay = some true := by
  decide +kernel

/-- Refutes O5: the end of a snapshot writes its header (R95), and the clause of SNAPSHOT_COMPLETE claims that the snapshot
stays as it was. -/
theorem not_benchLeavesItsMode : ¬ Obligations.BenchLeavesItsMode := by
  intro h
  obtain ⟨hbusy, hbefore⟩ := snapshotUnderWay_busy
  obtain ⟨-, -, -, -, -, -, -, -, complete, -⟩ := h snapshotUnderWay { bench := 0, tag := 0 } 0 0 0
  obtain ⟨u, he, -, -, -, hsnap, -⟩ := complete hbusy
  have after : headedAfter (.snapshotComplete 0 0) snapshotUnderWay = (u.bench 0).snap.map (·.headed) := by
    rw [headedAfter, he]
  rw [snapshotUnderWay_headed, hsnap, hbefore] at after
  exact absurd after (by decide)

end Sys2Proof.Machine
end

section
/-!
Entry into a mode
-/

namespace Sys2Proof.Machine

/-! ### Entry into a mode

What the entries into CONFIGURE, RUN, SHADOW and HOLD make of the bench registers: the mode, and at most one more
producer conflict. -/
section
open Bench
@[simp] theorem Bench.quoinLog_bn (cal kind : Nat) (oper : BitVec 16) (before detail : Word) (b : Bench) :
    (b.quoinLog cal kind oper before detail).bn = b.bn := by
  unfold Bench.quoinLog
  rfl
@[simp] theorem Bench.healthSev_bn (k : Nat) (b : Bench) : (Bench.healthSev k b).bn = b.bn := rfl
@[simp] theorem Bench.faceCheck_bn (b : Bench) : (Bench.faceCheck b).bn = b.bn := rfl
@[simp] theorem Bench.motionResume_bn (b : Bench) : (Bench.motionResume b).bn = b.bn := rfl
@[simp] theorem Bench.axesCheck_bn (b : Bench) : (b.axesCheck).bn = b.bn :=
  foldl_bn (fun _ _ => by rfl) _ _
@[simp] theorem Bench.fifosEmptied_bn (f : Fifos) (b : Bench) : (Bench.fifosEmptied f b).bn = b.bn := rfl
@[simp] theorem Bench.canImage_bn (l : List ((Nat × Nat) × Word)) (b : Bench) : (b.canImage l).bn = b.bn := by
  refine foldl_bn (fun b k => ?_) _ b
  exact foldl_bn (fun _ _ => by rfl) _ _
@[simp] theorem Bench.canStart_bn (b : Bench) : (Bench.canStart b).bn = b.bn := rfl
@[simp] theorem Bench.canReferencesEnd_bn (b : Bench) : (Bench.canReferencesEnd b).bn = b.bn := rfl
@[simp] theorem Bench.gaugeBlock_bn (i : Nat) (b : Bench) : (Bench.gaugeBlock i b).2.bn = b.bn := by
  simp only [Bench.gaugeBlock]; (repeat' split) <;> simp
@[simp] theorem Bench.recordWrite_bn (kind cls cause : Nat) (body : List Word) (b : Bench) :
    (b.recordWrite kind cls cause body).bn = b.bn := by
  unfold Bench.recordWrite
  dsimp only
  split <;> simp
@[simp] theorem Bench.periodOpen_bn (b : Bench) : (Bench.periodOpen b).bn = b.bn := rfl
@[simp] theorem Bench.periodClose_bn (cls cause : Nat) (b : Bench) : (b.periodClose cls cause).bn = b.bn := by
  unfold Bench.periodClose
  simp only [periodOpen_bn, recordWrite_bn, gaugeBlock_bn, setHealth_bn]
@[simp] theorem Bench.earlyClose_bn (cause : Nat) (b : Bench) : (Bench.earlyClose cause b).bn = b.bn := by
  simp only [Bench.earlyClose]; (repeat' split) <;> simp
@[simp] theorem Bench.haulLeave_bn (b : Bench) : (Bench.haulLeave b).bn = b.bn := rfl
@[simp] theorem Bench.haulLoads_bn (b : Bench) : (Bench.haulLoads b).bn = b.bn := by
  unfold Bench.haulLoads; split <;> simp
@[simp] theorem Bench.haulCheck_bn (b : Bench) : (Bench.haulCheck b).bn = b.bn := by
  simp only [Bench.haulCheck, haulLoads_bn]
  exact foldl_bn (fun _ _ => by rfl) _ b
@[simp] theorem Bench.firstInput_bn (b : Bench) : (Bench.firstInput b).2.bn = b.bn := by
  unfold Bench.firstInput; split <;> simp
@[simp] theorem Bench.canLoads_bn (b : Bench) : (Bench.canLoads b).bn = b.bn := rfl
@[simp] theorem Bench.canShadow_bn (b : Bench) : (Bench.canShadow b).bn = b.bn := rfl
@[simp] theorem Bench.kerfStart_bn (b : Bench) : (Bench.kerfStart b).bn = b.bn := rfl
@[simp] theorem Bench.loopsCheck_bn (b : Bench) : (b.loopsCheck).bn = b.bn :=
  foldl_bn (fun _ _ => by rfl) _ _
@[simp] theorem Bench.loopsEnter_bn (b : Bench) : (b.loopsEnter).bn = b.bn := foldl_bn (fun _ _ => by rfl) _ b
@[simp] theorem Bench.loopsResume_bn (driven : Nat → Option Int) (b : Bench) : (b.loopsResume driven).bn = b.bn :=
  foldl_bn (fun _ _ => by rfl) _ b
@[simp] theorem Bench.laneFault_bn (laneB : Bool) (bit : Nat) (b : Bench) : (Bench.laneFault laneB bit b).bn = b.bn := by
  simp only [Bench.laneFault]; (repeat' split) <;> simp
@[simp] theorem Bench.quoinFault_bn (bit : Nat) (b : Bench) : (Bench.quoinFault bit b).bn = b.bn := by
  simp [Bench.quoinFault]
@[simp] theorem Bench.safetyFlags_bn (b : Bench) : (b.safetyFlags).bn = b.bn := by
  unfold Bench.safetyFlags
  exact foldl_bn (fun _ _ => by rfl) _ _
@[simp] theorem Bench.recipesRestart_bn (first : Nat) (b : Bench) : (b.recipesRestart first).bn = b.bn :=
  eachRecipe_bn (fun n b => by dsimp only; split <;> rfl) b
@[simp] theorem Bench.guardLogAs_bn (mode : Word) (cal kind : Nat) (oper : BitVec 16) (stamp off : Nat) (before written : Word)
    (b : Bench) : (b.guardLogAs mode cal kind oper stamp off before written).bn = b.bn := by
  unfold Bench.guardLogAs
  rfl
@[simp] theorem Bench.guardLog_bn (cal kind : Nat) (oper : BitVec 16) (stamp off : Nat) (before written : Word) (b : Bench) :
    (b.guardLog cal kind oper stamp off before written).bn = b.bn := by
  rw [Bench.guardLog, guardLogAs_bn]
@[simp] theorem Bench.guardStore_bn (y : GuardBy) (mram : MramTry) (g : Nat) (l : List (Nat × Word)) (b : Bench) :
    (b.guardStore y mram g l).bn = b.bn := by
  unfold Bench.guardStore
  extract_lets logged reg
  have h : logged.bn = b.bn := by
    refine foldl_bn (fun b e => ?_) _ b
    exact guardLogAs_bn ..
  cases mram
  · exact h
  · rfl
  · exact h
@[simp] theorem Bench.guardWrite_bn (y : GuardBy) (mram : MramTry) (g off : Nat) (v : Word) (b : Bench) :
    (b.guardWrite y mram g off v).1.bn = b.bn := by
  unfold Bench.guardWrite
  dsimp only
  split
  · rfl
  · split
    · exact guardLogAs_bn ..
    · split
      · rfl
      · split <;> exact guardStore_bn ..
@[simp] theorem Bench.guardApply_bn (g off : Nat) (v : Word) (b : Bench) : (Bench.guardApply g off v b).bn = b.bn := by
  simp only [Bench.guardApply]; (repeat' split) <;> simp
@[simp] theorem Bench.guardEffect_bn (b : Bench) : (Bench.guardEffect b).bn = b.bn := by
  simp [Bench.guardEffect]
@[simp] theorem Bench.guardStart_bn (okA okB : Bool) (cal : Nat) (oper : BitVec 16) (b : Bench) : (Bench.guardStart okA okB cal oper b).bn = b.bn := by
  simp only [Bench.guardStart]; (repeat' split) <;> simp
@[simp] theorem Bench.loadImage_bn (b : Bench) : (Bench.loadImage b).bn = b.bn := by
  unfold Bench.loadImage; split <;> simp
@[simp] theorem Bench.noteLoad_bn (l : Nat × Nat) (b : Bench) : (Bench.noteLoad l b).bn = b.bn := rfl
@[simp] theorem Bench.copyCheck_bn (b : Bench) : (Bench.copyCheck b).2.bn = b.bn := by
  unfold Bench.copyCheck; split <;> simp
@[simp] theorem Bench.runMarks_bn (b : Bench) : (Bench.runMarks b).bn = b.bn := by
  simp [Bench.runMarks]
@[simp] theorem Bench.safeOutputs_bn (b : Bench) : (Bench.safeOutputs b).bn = b.bn := by
  simp [Bench.safeOutputs, apply_ite Bench.bn]
end
section
open Bench
@[simp] theorem Bench.faceCheck_points (b : Bench) : (Bench.faceCheck b).points = b.points := rfl
@[simp] theorem Bench.axesCheck_points (b : Bench) : (b.axesCheck).points = b.points :=
  foldl_points (fun _ _ => by rfl) _ _
@[simp] theorem Bench.haulLoads_points (b : Bench) : (Bench.haulLoads b).points = b.points := by
  unfold Bench.haulLoads; split <;> simp
@[simp] theorem Bench.haulCheck_points (b : Bench) : (Bench.haulCheck b).points = b.points := by
  simp only [Bench.haulCheck, haulLoads_points]
  exact foldl_points (fun _ _ => by rfl) _ b
@[simp] theorem Bench.canLoads_points (b : Bench) : (Bench.canLoads b).points = b.points := rfl
@[simp] theorem Bench.loopsCheck_points (b : Bench) : (b.loopsCheck).points = b.points :=
  foldl_points (fun _ _ => by rfl) _ _
@[simp] theorem Bench.noteLoad_points (l : Nat × Nat) (b : Bench) : (Bench.noteLoad l b).points = b.points := rfl
@[simp] theorem Bench.copyCheck_points (b : Bench) : (Bench.copyCheck b).2.points = b.points := by
  unfold Bench.copyCheck; split <;> simp
@[simp] theorem Bench.runMarks_points (b : Bench) : (Bench.runMarks b).points = b.points := by
  simp [Bench.runMarks]
end
section
open Bench
@[simp] theorem Bench.quoinLog_snap (cal kind : Nat) (oper : BitVec 16) (before detail : Word) (b : Bench) :
    (b.quoinLog cal kind oper before detail).snap = b.snap := by
  unfold Bench.quoinLog
  rfl
@[simp] theorem Bench.healthSev_snap (k : Nat) (b : Bench) : (Bench.healthSev k b).snap = b.snap := rfl
@[simp] theorem Bench.guardClip_snap (b : Bench) : (Bench.guardClip b).snap = b.snap := rfl
@[simp] theorem Bench.axisEvent_snap (a bit : Nat) (b : Bench) : (Bench.axisEvent a bit b).snap = b.snap := by
  simp [Bench.axisEvent]
@[simp] theorem Bench.axisLimited_snap (a : Nat) (on : Bool) (b : Bench) : (Bench.axisLimited a on b).snap = b.snap := by
  simp only [Bench.axisLimited]; (repeat' split) <;> simp
@[simp] theorem Bench.axisDce_snap (a : Nat) (d : AxisDce) (b : Bench) : (Bench.axisDce a d b).snap = b.snap := by
  unfold Bench.axisDce; split <;> simp
@[simp] theorem Bench.axisChange_snap (a : Nat) (c : AxisChange) (b : Bench) : (Bench.axisChange a c b).snap = b.snap := by
  unfold Bench.axisChange; split <;> simp
@[simp] theorem Bench.axisTake_snap (a t : Nat) (b : Bench) : (Bench.axisTake a t b).snap = b.snap := by
  simp [Bench.axisTake]
@[simp] theorem Bench.axisCompute_snap (a t : Nat) (b : Bench) : (Bench.axisCompute a t b).snap = b.snap := by
  unfold Bench.axisCompute; split <;> simp
@[simp] theorem Bench.axisQueue_snap (a : Nat) (c : AxisChange) (b : Bench) : (Bench.axisQueue a c b).snap = b.snap := by
  simp only [Bench.axisQueue]; (repeat' split) <;> simp
@[simp] theorem Bench.axisBegin_snap (a m : Nat) (x : Axis) (b : Bench) : (Bench.axisBegin a m x b).snap = b.snap := by
  unfold Bench.axisBegin; split <;> simp
@[simp] theorem Bench.axisPhase_snap (a m : Nat) (ph : HomePhase) (b : Bench) : (Bench.axisPhase a m ph b).snap = b.snap := by
  simp [Bench.axisPhase]
@[simp] theorem Bench.stopsDone_snap (b : Bench) : (Bench.stopsDone b).snap = b.snap := by
  simp [Bench.stopsDone]
@[simp] theorem Bench.axisRest_snap (a : Nat) (l : List AxisChange) (b : Bench) : (b.axisRest a l).snap = b.snap :=
  foldl_snap (fun b c => by cases c.par <;> rfl) l b
@[simp] theorem Bench.axisIdle_snap (a : Nat) (st : AxisState) (b : Bench) : (b.axisIdle a st).snap = b.snap := by
  unfold Bench.axisIdle
  extract_lets x evt b₁ b₂ b₃ b₄
  have h₃ : b₃.snap = b.snap := (foldl_snap (fun _ _ => completeTag_snap ..) _ b₂).trans (axisRest_snap ..)
  have h₄ : b₄.snap = b₃.snap := by unfold b₄; split <;> simp
  rw [stopsDone_snap, h₄, h₃]
@[simp] theorem Bench.axisDoubt_snap (a : Nat) (b : Bench) : (Bench.axisDoubt a b).snap = b.snap := by
  simp only [Bench.axisDoubt]; (repeat' split) <;> simp
@[simp] theorem Bench.axisStops_snap (a : Nat) (b : Bench) : (Bench.axisStops a b).snap = b.snap := by
  simp only [Bench.axisStops]; (repeat' split) <;> simp
@[simp] theorem Bench.axisHard_snap (a : Nat) (b : Bench) : (Bench.axisHard a b).snap = b.snap := by
  simp only [Bench.axisHard]; (repeat' split) <;> simp
@[simp] theorem Bench.axisRamp_snap (a : Nat) (st : AxisState) (after : HomePhase) (b : Bench) : (Bench.axisRamp a st after b).snap = b.snap := by
  simp only [Bench.axisRamp]; (repeat' split) <;> simp
@[simp] theorem Bench.axisStopOne_snap (hard : Bool) (a : Nat) (b : Bench) : (Bench.axisStopOne hard a b).snap = b.snap := by
  simp only [Bench.axisStopOne]; (repeat' split) <;> simp
@[simp] theorem Bench.canImage_snap (l : List ((Nat × Nat) × Word)) (b : Bench) : (b.canImage l).snap = b.snap := by
  refine foldl_snap (fun b k => ?_) _ b
  exact foldl_snap (fun _ _ => by rfl) _ _
@[simp] theorem Bench.gaugeBlock_snap (i : Nat) (b : Bench) : (Bench.gaugeBlock i b).2.snap = b.snap := by
  simp only [Bench.gaugeBlock]; (repeat' split) <;> simp
@[simp] theorem Bench.recordWrite_snap (kind cls cause : Nat) (body : List Word) (b : Bench) :
    (b.recordWrite kind cls cause body).snap = b.snap := by
  unfold Bench.recordWrite
  dsimp only
  split <;> simp
@[simp] theorem Bench.periodOpen_snap (b : Bench) : (Bench.periodOpen b).snap = b.snap := rfl
@[simp] theorem Bench.periodClose_snap (cls cause : Nat) (b : Bench) : (b.periodClose cls cause).snap = b.snap := by
  unfold Bench.periodClose
  simp only [periodOpen_snap, recordWrite_snap, gaugeBlock_snap, setHealth_snap]
@[simp] theorem Bench.earlyClose_snap (cause : Nat) (b : Bench) : (Bench.earlyClose cause b).snap = b.snap := by
  simp only [Bench.earlyClose]; (repeat' split) <;> simp
@[simp] theorem Bench.kerfStart_snap (b : Bench) : (Bench.kerfStart b).snap = b.snap := rfl
@[simp] theorem Bench.setLane_snap (laneB : Bool) (l : Lane) (b : Bench) : (Bench.setLane laneB l b).snap = b.snap := rfl
@[simp] theorem Bench.quoinHard_snap (b : Bench) : (Bench.quoinHard b).snap = b.snap := by
  simp [Bench.quoinHard]
@[simp] theorem Bench.quoinRamp_snap (b : Bench) : (Bench.quoinRamp b).snap = b.snap := by
  simp [Bench.quoinRamp, apply_ite Bench.snap]
@[simp] theorem Bench.laneFault_snap (laneB : Bool) (bit : Nat) (b : Bench) : (Bench.laneFault laneB bit b).snap = b.snap := by
  simp only [Bench.laneFault]; (repeat' split) <;> simp
@[simp] theorem Bench.quoinFault_snap (bit : Nat) (b : Bench) : (Bench.quoinFault bit b).snap = b.snap := by
  simp [Bench.quoinFault]
@[simp] theorem Bench.laneRun_snap (laneB : Bool) (k : Nat) (fell : Bool) (b : Bench) : (Bench.laneRun laneB k fell b).snap = b.snap := by
  induction k generalizing fell b with
  | zero => rfl
  | succ k ih => unfold Bench.laneRun; (repeat' split) <;> simp [ih, apply_ite Bench.snap]
@[simp] theorem Bench.ossdFollow_snap (b : Bench) : (Bench.ossdFollow b).snap = b.snap := rfl
@[simp] theorem Bench.mirrorWrite_snap (b : Bench) : (b.mirrorWrite).snap = b.snap := by
  refine foldl_snap (fun b k => ?_) _ _
  (repeat' split) <;> simp
@[simp] theorem Bench.activate_snap (b : Bench) : (Bench.activate b).snap = b.snap := by
  simp [Bench.activate, apply_ite Bench.snap]
@[simp] theorem Bench.inputTrack_snap (laneB : Bool) (b : Bench) : (Bench.inputTrack laneB b).snap = b.snap := rfl
@[simp] theorem Bench.startupTrack_snap (b : Bench) : (Bench.startupTrack b).snap = b.snap := by
  unfold Bench.startupTrack; split <;> simp
@[simp] theorem Bench.pressTrack_snap (b : Bench) : (Bench.pressTrack b).snap = b.snap := rfl
@[simp] theorem Bench.demandEval_snap (b : Bench) : (Bench.demandEval b).snap = b.snap := by
  simp [Bench.demandEval, apply_ite Bench.snap]
@[simp] theorem Bench.noteOut_snap (b : Bench) : (Bench.noteOut b).snap = b.snap := rfl
@[simp] theorem Bench.lanesEval_snap (b : Bench) : (Bench.lanesEval b).snap = b.snap := by
  simp [Bench.lanesEval]
@[simp] theorem Bench.safetyFlags_snap (b : Bench) : (b.safetyFlags).snap = b.snap := by
  unfold Bench.safetyFlags
  exact foldl_snap (fun _ _ => by rfl) _ _
@[simp] theorem Bench.quoinRestart_snap (b : Bench) : (Bench.quoinRestart b).snap = b.snap := by
  simp [Bench.quoinRestart]
@[simp] theorem Bench.quoinStart_snap (okA okB : Bool) (cal : Nat) (b : Bench) : (Bench.quoinStart okA okB cal b).snap = b.snap := by
  simp only [Bench.quoinStart]; (repeat' split) <;> simp
@[simp] theorem Bench.guardLogAs_snap (mode : Word) (cal kind : Nat) (oper : BitVec 16) (stamp off : Nat) (before written : Word)
    (b : Bench) : (b.guardLogAs mode cal kind oper stamp off before written).snap = b.snap := by
  unfold Bench.guardLogAs
  rfl
@[simp] theorem Bench.guardLog_snap (cal kind : Nat) (oper : BitVec 16) (stamp off : Nat) (before written : Word) (b : Bench) :
    (b.guardLog cal kind oper stamp off before written).snap = b.snap := by
  rw [Bench.guardLog, guardLogAs_snap]
@[simp] theorem Bench.guardStart_snap (okA okB : Bool) (cal : Nat) (oper : BitVec 16) (b : Bench) : (Bench.guardStart okA okB cal oper b).snap = b.snap := by
  simp only [Bench.guardStart]; (repeat' split) <;> simp
@[simp] theorem Bench.loadImage_snap (b : Bench) : (Bench.loadImage b).snap = b.snap := by
  unfold Bench.loadImage; split <;> simp
end
section
open Bench
@[simp] theorem Bench.faceCheck_nl (b : Bench) : (Bench.faceCheck b).nl = b.nl := rfl
@[simp] theorem Bench.axesCheck_nl (b : Bench) : (b.axesCheck).nl = b.nl :=
  foldl_nl (fun _ _ => by rfl) _ _
@[simp] theorem Bench.haulLoads_nl (b : Bench) : (Bench.haulLoads b).nl = b.nl := by
  unfold Bench.haulLoads; split <;> simp
@[simp] theorem Bench.haulCheck_nl (b : Bench) : (Bench.haulCheck b).nl = b.nl := by
  simp only [Bench.haulCheck, haulLoads_nl]
  exact foldl_nl (fun _ _ => by rfl) _ b
@[simp] theorem Bench.canLoads_nl (b : Bench) : (Bench.canLoads b).nl = b.nl := rfl
@[simp] theorem Bench.loopsCheck_nl (b : Bench) : (b.loopsCheck).nl = b.nl :=
  foldl_nl (fun _ _ => by rfl) _ _
@[simp] theorem Bench.runMarks_nl (b : Bench) : (Bench.runMarks b).nl = b.nl := by
  simp [Bench.runMarks]
@[simp] theorem Bench.faceCheck_rail (b : Bench) : (Bench.faceCheck b).rail = b.rail := rfl
@[simp] theorem Bench.axesCheck_rail (b : Bench) : (b.axesCheck).rail = b.rail :=
  foldl_rail (fun _ _ => by rfl) _ _
@[simp] theorem Bench.haulLoads_rail (b : Bench) : (Bench.haulLoads b).rail = b.rail := by
  unfold Bench.haulLoads; split <;> simp
@[simp] theorem Bench.haulCheck_rail (b : Bench) : (Bench.haulCheck b).rail = b.rail := by
  simp only [Bench.haulCheck, haulLoads_rail]
  exact foldl_rail (fun _ _ => by rfl) _ b
@[simp] theorem Bench.canLoads_rail (b : Bench) : (Bench.canLoads b).rail = b.rail := rfl
@[simp] theorem Bench.loopsCheck_rail (b : Bench) : (b.loopsCheck).rail = b.rail :=
  foldl_rail (fun _ _ => by rfl) _ _
@[simp] theorem Bench.runMarks_rail (b : Bench) : (Bench.runMarks b).rail = b.rail := by
  simp [Bench.runMarks]
end
section
open Bench
variable (b : Bench)

theorem Bench.substStation_alike (n : Nat) (stamp : Time) : b.bn.Alike (b.substStation n stamp).bn :=
  foldl_alike (fun _ _ => writePoint_alike ..) _ b

theorem Bench.stationInit_alike (n : Nat) : b.bn.Alike (Bench.stationInit n b).bn := substStation_alike ..

theorem Bench.haulEnter_alike : b.bn.Alike b.haulEnter.bn := by
  unfold Bench.haulEnter
  split
  · exact foldl_alike (fun b n => stationInit_alike b n) _ b
  · exact .refl _

theorem Bench.faceWrite_alike (c : Nat) (v : Word) (q : Half) (st : Time) : b.bn.Alike (Bench.faceWrite c v q st b).bn := by
  unfold Bench.faceWrite
  split
  · split
    · exact writePoint_alike ..
    · exact .refl _
  · exact .refl _

theorem Bench.faceEnter_alike : b.bn.Alike b.faceEnter.bn := by
  unfold Bench.faceEnter
  refine Bn.Alike.trans ?_ (faceWrite_alike ..)
  refine Bn.Alike.trans ?_ (foldl_alike (fun b _ => (faceWrite_alike b ..).trans (faceWrite_alike ..)) _ _)
  refine Bn.Alike.trans (foldl_alike (fun b _ => faceWrite_alike b ..) _ _) (foldl_alike (fun b k => ?_) _ _)
  split
  · exact .refl _
  · exact faceWrite_alike ..

theorem Bench.quoinEnter_alike : b.bn.Alike b.quoinEnter.bn := quoinEval_alike _

/-- The registers of a bench that changes its mode. -/
def Bn.into (m : Mode) (n : Bn) : Bn :=
  { n with
    prev := n.mode, mode := m, holdCause := if n.mode = .hold then 0 else n.holdCause
    defaultsHeld := n.defaultsHeld && !(n.mode = .hold) }

@[simp] theorem Bench.toMode_bn (m : Mode) : (b.toMode m).bn = b.bn.into m := rfl
@[simp] theorem Bench.runFrom_bn (start : Nat) : (b.runFrom start).bn = b.bn.into .run := rfl

/-- The last steps of an entry into RUN. -/
theorem Bench.runEntered_alike : b.bn.Alike (((b.haulEnter.faceEnter).custody.quoinEnter).modeEvent).bn := by
  rw [modeEvent_bn]
  exact (haulEnter_alike b).trans <| (faceEnter_alike _).trans <| (custody_alike _).trans <| quoinEnter_alike _

theorem Bench.enterRun_alike : (b.bn.into .run).Alike b.enterRun.bn := by
  unfold Bench.enterRun
  exact Bn.Alike.trans (.of_eq (by simp)) (runEntered_alike _)

theorem Bench.resumeRun_alike (start : Nat) : { b.bn.into .run with resumed := true }.Alike (b.resumeRun start).bn := by
  unfold Bench.resumeRun
  exact Bn.Alike.trans (.of_eq (by simp)) (runEntered_alike _)

theorem Bench.enterShadow_alike : (b.bn.into .shadow).Alike b.enterShadow.bn := by
  unfold Bench.enterShadow
  rw [modeEvent_bn]
  exact Bn.Alike.trans (.of_eq (by simp)) (custody_alike _)

/-! ### The end of an entry into RUN -/

variable {b}

theorem Bench.holdAfter_none (h : b.bn.holdWait = 0) : b.holdAfter = b := by
  unfold Bench.holdAfter
  simp [h]

/-- A bench that has entered RUN with no cause of a hold waiting. -/
theorem Bench.finishRun_cold (h : b.bn.holdWait = 0) (tag : BitVec 16) (noirq : Bool) :
    ({ b.bn with trans := none }.into .run).Alike (b.finishRun tag noirq none).bn := by
  unfold Bench.finishRun
  dsimp only
  generalize hc : b.setBn _ = c
  have hcb : c.bn = { b.bn with trans := none } := by rw [← hc]; rfl
  have ha := enterRun_alike c.firstInput.2
  rw [firstInput_bn, hcb] at ha
  generalize c.firstInput.2.enterRun = r at ha ⊢
  obtain ⟨k, hk⟩ := ha
  rw [holdAfter_none (by rw [completeTag_bn, hk]; exact h), completeTag_bn]
  exact ⟨k, hk⟩

theorem Bench.finishRun_warm (h : b.bn.holdWait = 0) (tag : BitVec 16) (noirq : Bool) (e : Nat) :
    { ({ b.bn with trans := none } : Bn).into .run with resumed := true }.Alike (b.finishRun tag noirq (some e)).bn := by
  unfold Bench.finishRun
  dsimp only
  generalize hc : b.setBn _ = c
  have hcb : c.bn = { b.bn with trans := none } := by rw [← hc]; rfl
  have done (x : Bench) (hx : x.bn = c.bn) (start res : Nat) :
      { ({ b.bn with trans := none } : Bn).into .run with resumed := true }.Alike
        ((x.resumeRun start).completeTag tag noirq .ok res).holdAfter.bn := by
    have ha := resumeRun_alike x start
    rw [hx, hcb] at ha
    generalize x.resumeRun start = r at ha ⊢
    obtain ⟨k, hk⟩ := ha
    rw [holdAfter_none (by rw [completeTag_bn, hk]; exact h), completeTag_bn]
    exact ⟨k, hk⟩
  split
  · exact done c rfl _ _
  · exact done _ (fresh_bn c) _ _

theorem Bench.holdAfter_trans (h : b.bn.mode = .run) : b.holdAfter.bn.trans = b.bn.trans := by
  unfold Bench.holdAfter
  dsimp only
  split
  · rfl
  · obtain ⟨now, k, hk⟩ := enterHold_bn (b := b.setBn fun n => { n with holdWait := 0, holdOff := false }) (.inl h) b.bn.holdWait
      b.bn.holdCls
    split
    · obtain ⟨d, hd, -⟩ := holdDefaults_bn (((b.setBn fun n => { n with holdWait := 0, holdOff := false }).enterHold
        b.bn.holdWait b.bn.holdCls).setBn fun n => { n with holdCls := 2 })
      exact (congrArg Bn.trans hd).trans (congrArg Bn.trans hk :)
    · exact (congrArg Bn.trans hk :)

/-- However the entry ends, the change of mode is over. -/
theorem Bench.finishRun_trans (tag : BitVec 16) (noirq : Bool) (warm : Option Nat) : (b.finishRun tag noirq warm).bn.trans = none := by
  have done (x : Bench) {y : Bn} (hx : y.Alike x.bn) (hm : y.mode = .run) (ht : y.trans = none) (res : Nat) :
      (x.completeTag tag noirq .ok res).holdAfter.bn.trans = none := by
    obtain ⟨k, hk⟩ := hx
    rw [holdAfter_trans (by rw [completeTag_bn, hk]; exact hm), completeTag_bn, hk]
    exact ht
  unfold Bench.finishRun
  dsimp only
  split
  · exact done _ (enterRun_alike _) rfl (by rw [firstInput_bn]; rfl) _
  · split
    · exact done _ (resumeRun_alike ..) rfl rfl _
    · exact done _ (resumeRun_alike ..) rfl (by rw [fresh_bn]; rfl) _

end
/-! ### The conditions of an entry -/

section
open Bench
variable (b : Bench)

/-- The check of the copy load notes the load and nothing else. -/
theorem Bench.copyCheck_only : ∃ w, b.copyCheck.2 = { b with nl := { b.nl with copyLoad := w } } := by
  unfold Bench.copyCheck
  split
  · exact ⟨_, rfl⟩
  · exact ⟨b.nl.copyLoad, rfl⟩

theorem Bench.copyCheck_fits : b.copyCheck.1 = true ↔ (b.paired = true → copyOver (copyLoad b.copyBytes b.lead b.copyTasks) = false) := by
  unfold Bench.copyCheck
  split
  next h => simp [h]
  next h => simp [h]

theorem Bench.selftestOk_iff : b.selftestOk = true ↔ b.SelftestPassed := by simp [Bench.selftestOk]

theorem Bench.leaveOk_iff : b.leaveOk = true ↔ b.PointsSound ∧ (b.paired = true → b.lead ≠ 0) := by
  simp [Bench.leaveOk, imp_iff_not_or]

theorem Bench.descriptorsOk_iff : b.descriptorsOk = true ↔ (∀ n ∈ b.usedLoops, b.loopOk n = true) ∧
    (∀ a ∈ allAxes, b.axisUsed a = true → b.axisOk a = true) ∧ b.faceOk = true ∧ b.haulOk = true ∧ b.canOk = true ∧
    b.kerfOk = true := by
  simp [Bench.descriptorsOk, Bench.loopsOk, Bench.axesOk, and_assoc, ← Bool.not_eq_true, ← imp_iff_not_or]

theorem Bench.budgetOk_iff : b.budgetOk = true ↔ (∀ i ∈ b.pe.cur, tasksFit i b.pe.tasks = true) ∧ loopRateOk b.conf = true ∧
    b.stepRate ≤ 25000000 ∧ b.haulFits = true ∧ b.canFits = true := by
  unfold Bench.budgetOk Bench.enginesFit
  cases b.pe.cur <;> simp [and_assoc]

theorem Bench.runRefusal_only : ∃ w, b.runRefusal.2 = { b with nl := { b.nl with copyLoad := w } } := by
  have hc := copyCheck_only b
  unfold Bench.runRefusal
  dsimp only
  split
  · exact ⟨b.nl.copyLoad, rfl⟩
  · split
    · exact ⟨b.nl.copyLoad, rfl⟩
    · split
      · exact hc
      · split
        · exact hc
        · exact hc

theorem Bench.shadowRefusal_only : ∃ w, b.shadowRefusal.2 = { b with nl := { b.nl with copyLoad := w } } := by
  have hc := copyCheck_only b
  unfold Bench.shadowRefusal
  dsimp only
  split
  · exact ⟨b.nl.copyLoad, rfl⟩
  · split
    · exact ⟨b.nl.copyLoad, rfl⟩
    · split
      · exact ⟨b.nl.copyLoad, rfl⟩
      · split
        · exact hc
        · exact hc

/-- The checks of BENCH_RUN in their order. -/
theorem Bench.runRefusal_checks : b.runRefusal.1 = none ↔ b.selftestOk = true ∧ (b.leaveOk = true ∧ b.descriptorsOk = true) ∧
    (b.budgetOk = true ∧ b.copyCheck.1 = true) ∧ b.nl.custIn = false := by
  unfold Bench.runRefusal
  dsimp only
  repeat' split
  all_goals grind

theorem Bench.shadowRefusal_checks : b.shadowRefusal.1 = none ↔ b.selftestOk = true ∧ (b.paired = true ∧ b.nl.laneUp = true) ∧
    b.leaveOk = true ∧ b.copyCheck.1 = true := by
  unfold Bench.shadowRefusal
  dsimp only
  repeat' split
  all_goals grind

/-- BENCH_RUN is refused exactly where a condition of the entry fails. -/
theorem Bench.runRefusal_none : b.runRefusal.1 = none ↔ b.MayRun := by
  rw [runRefusal_checks, selftestOk_iff, leaveOk_iff, descriptorsOk_iff, budgetOk_iff, copyCheck_fits]
  unfold Bench.MayRun Bench.CopyFits
  rw [imp_and]
  tauto

/-- BENCH_SHADOW is refused exactly where a condition of the entry fails. -/
theorem Bench.shadowRefusal_none : b.shadowRefusal.1 = none ↔ b.MayShadow := by
  rw [shadowRefusal_checks, selftestOk_iff, leaveOk_iff, copyCheck_fits]
  unfold Bench.MayShadow Bench.CopyFits
  rw [imp_and]
  tauto
end
/-! ### The commands and events of the entries -/

section
open Bench
variable {b : Bench}

theorem Bench.claimOrRun_alone (h : b.paired = false) (tag : BitVec 16) (noirq : Bool) (warm : Option Nat) :
    b.claimOrRun tag noirq warm = b.finishRun tag noirq warm := by
  unfold Bench.claimOrRun
  simp [h]

theorem Bench.claimOrRun_paired (h : b.paired = true) (tag : BitVec 16) (noirq : Bool) (warm : Option Nat) :
    b.claimOrRun tag noirq warm = (b.setBn fun n => { n with trans := some (.runClaim tag noirq b.rail.now warm.isSome) }).setNl
      fun x => { x with sent := x.sent ++ [.claim b.bn.pair], pairConflict := false } := by
  unfold Bench.claimOrRun
  simp [h]

/-- The bench after the checks of BENCH_RUN have passed. -/
def Bench.runChecked (b : Bench) : Bench := b.runRefusal.2.runMarks

theorem Bench.runRefusal_nl (b : Bench) : ∃ w, b.runRefusal.2.nl = { b.nl with copyLoad := w } := by
  obtain ⟨w, h⟩ := runRefusal_only b
  exact ⟨w, by rw [h]⟩

theorem Bench.runRefusal_paired (b : Bench) : b.runRefusal.2.paired = b.paired := by
  obtain ⟨w, h⟩ := runRefusal_only b
  rw [h]
  rfl

theorem Bench.runRefusal_bn (b : Bench) : b.runRefusal.2.bn = b.bn := by
  obtain ⟨w, h⟩ := runRefusal_only b
  rw [h]

theorem Bench.runChecked_bn (b : Bench) : b.runChecked.bn = b.bn := by
  rw [Bench.runChecked, runMarks_bn, runRefusal_bn]

theorem Bench.runChecked_rail (b : Bench) : b.runChecked.rail = b.rail := by
  obtain ⟨w, h⟩ := runRefusal_only b
  rw [Bench.runChecked, runMarks_rail, h]

theorem Bench.runChecked_points (b : Bench) : b.runChecked.points = b.points := by
  obtain ⟨w, h⟩ := runRefusal_only b
  rw [Bench.runChecked, runMarks_points, h]

theorem Bench.runChecked_paired (b : Bench) : b.runChecked.paired = b.paired := by
  unfold Bench.runChecked Bench.paired
  rw [runMarks_nl]
  exact runRefusal_paired b

theorem Bench.casCycle_congr {x y : Bench} (h : x.conf = y.conf) (n fuel m : Nat) : x.casCycle n fuel m = y.casCycle n fuel m := by
  have hp (m : Nat) : x.loopCasPoint m = y.loopCasPoint m := by simp only [Bench.loopCasPoint, Bench.lw, Bench.cfg, h]
  have hs (m : Nat) : x.loopCass m = y.loopCass m := by simp only [Bench.loopCass, Bench.lw, Bench.cfg, h]
  induction fuel generalizing m with
  | zero => rfl
  | succ fuel ih => simp only [Bench.casCycle, hp, hs, ih]

theorem Bench.loopsOk_congr {x y : Bench} (hc : x.conf = y.conf) (hp : x.points = y.points) : x.loopsOk = y.loopsOk := by
  have hk : x.casCycle = y.casCycle := by funext n fuel m; exact casCycle_congr hc n fuel m
  unfold Bench.loopsOk
  congr 1
  · simp only [Bench.usedLoops, hc]
  · funext n
    unfold Bench.loopOk
    rw [hk]
    obtain ⟨⟩ := x
    obtain ⟨⟩ := y
    dsimp only at hc hp
    subst hc hp
    rfl

/-- What the checks of an entry look at, which neither an acceptance nor the end of a restart check touches. -/
structure Bench.SameChecks (x y : Bench) : Prop where
  selftest : x.selftestOk = y.selftestOk
  leave : x.leaveOk = y.leaveOk
  loops : x.loopsOk = y.loopsOk
  axes : x.axesOk = y.axesOk
  face : x.faceOk = y.faceOk
  haul : x.haulOk = y.haulOk
  can : x.canOk = y.canOk
  kerf : x.kerfOk = y.kerfOk
  budget : x.budgetOk = y.budgetOk
  nalry : x.nl = y.nl
  copy : copyLoad x.copyBytes x.lead x.copyTasks = copyLoad y.copyBytes y.lead y.copyTasks

theorem Bench.accepted_sameChecks (b : Bench) (c : Cmd) : (b.accepted c).SameChecks b where
  selftest := rfl
  leave := rfl
  loops := loopsOk_congr rfl rfl
  axes := rfl
  face := rfl
  haul := rfl
  can := rfl
  kerf := rfl
  budget := rfl
  nalry := rfl
  copy := rfl

theorem Bench.SameChecks.mayRun {x y : Bench} (h : x.SameChecks y) : x.MayRun ↔ y.MayRun := by
  have hp : x.paired = y.paired := by unfold Bench.paired; rw [h.nalry]
  rw [← runRefusal_none, ← runRefusal_none, runRefusal_checks, runRefusal_checks, copyCheck_fits, copyCheck_fits]
  simp only [Bench.descriptorsOk, h.selftest, h.leave, h.loops, h.axes, h.face, h.haul, h.can, h.kerf, h.budget, h.copy, hp, h.nalry]

theorem Bench.SameChecks.mayShadow {x y : Bench} (h : x.SameChecks y) : x.MayShadow ↔ y.MayShadow := by
  have hp : x.paired = y.paired := by unfold Bench.paired; rw [h.nalry]
  rw [← shadowRefusal_none, ← shadowRefusal_none, shadowRefusal_checks, shadowRefusal_checks, copyCheck_fits, copyCheck_fits]
  simp only [h.selftest, h.leave, h.copy, hp, h.nalry]

/-- What BENCH_RUN does once it is accepted and nothing keeps the bench from running. -/
theorem benchRun_accepted {s : State} {c : Cmd} (hb : (s.bench c.bench).bn.bootRom = false) (hm : (s.bench c.bench).bn.mode = .configure)
    (ht : (s.bench c.bench).bn.trans = none) (h : (s.bench c.bench).MayRun) {P : Bench → Prop}
    (hp : ∀ q, P { ((s.bench c.bench).accepted c).runChecked.claimOrRun c.tag c.noirq none with qn := q }) :
    Serves (.benchRun c) c s P := by
  refine serves_of_accept (exec_benchRun ..) ⟨hb, by simp [hm], by simp [hm, modesCfg]⟩ fun q => ?_
  have hp := hp q
  have hr := (accepted_sameChecks _ c).mayRun.2 h
  have ht : ((s.bench c.bench).accepted c).bn.trans = none := ht
  generalize (s.bench c.bench).accepted c = b at hp hr ht ⊢
  have hs : b.selftestOk = true := b.selftestOk_iff.2 hr.1
  have hn := b.runRefusal_none.2 hr
  rw [ht]
  simp only [Option.isSome_none, Bool.false_eq_true, if_false, hs, if_true, hn]
  exact hp

/-- The registers of a bench whose restart check has ended. -/
def Bench.checked (b : Bench) (fail rest : Nat) : Bench :=
  b.setBn fun n => { n with trans := none, pageFail := BitVec.ofNat 32 fail, pageRest := BitVec.ofNat 32 rest }

theorem Bench.checked_sameChecks (b : Bench) (fail rest : Nat) : (b.checked fail rest).SameChecks b where
  selftest := rfl
  leave := rfl
  loops := loopsOk_congr rfl rfl
  axes := rfl
  face := rfl
  haul := rfl
  can := rfl
  kerf := rfl
  budget := rfl
  nalry := rfl
  copy := rfl

section restart
variable {tag : BitVec 16} {noirq toShadow : Bool} {since fail rest : Nat}

theorem Bench.restartChecked_failed (h : b.bn.trans = some (.pageCheck tag noirq toShadow since)) (hf : fail ≠ 0) :
    b.restartChecked fail rest = (b.checked fail rest).completeTag tag noirq .checkFailed 0 := by
  unfold Bench.restartChecked
  rw [h]
  simp [hf]
  rfl

/-- What a restart check without a failed page does after the checks of its target. -/
def Bench.restartOutcome (tag : BitVec 16) (noirq toShadow : Bool) : Option Status × Bench → Bench
  | (some st, b) => b.completeTag tag noirq st 0
  | (none, b) =>
    if toShadow then (b.fifosEmptied b.fq).enterShadow.completeTag tag noirq .ok (b.fifosEmptied b.fq).rail.now
    else b.claimOrRun tag noirq (some b.rail.now)

theorem Bench.restartOutcome_some {st : Status} {r : Option Status × Bench} (h : r.1 = some st) :
    Bench.restartOutcome tag noirq toShadow r = r.2.completeTag tag noirq st 0 := by
  obtain ⟨_, y⟩ := r
  subst h
  rfl

theorem Bench.restartOutcome_run {r : Option Status × Bench} (h : r.1 = none) :
    Bench.restartOutcome tag noirq false r = r.2.claimOrRun tag noirq (some r.2.rail.now) := by
  obtain ⟨_, y⟩ := r
  subst h
  rfl

theorem Bench.restartOutcome_shadow {r : Option Status × Bench} (h : r.1 = none) :
    Bench.restartOutcome tag noirq true r =
      (r.2.fifosEmptied r.2.fq).enterShadow.completeTag tag noirq .ok (r.2.fifosEmptied r.2.fq).rail.now := by
  obtain ⟨_, y⟩ := r
  subst h
  rfl

theorem Bench.restartChecked_run (h : b.bn.trans = some (.pageCheck tag noirq false since)) :
    b.restartChecked 0 rest = Bench.restartOutcome tag noirq false (b.checked 0 rest).runRefusal := by
  unfold Bench.restartChecked
  rw [h]
  rfl

theorem Bench.restartChecked_shadow (h : b.bn.trans = some (.pageCheck tag noirq true since)) :
    b.restartChecked 0 rest = Bench.restartOutcome tag noirq true (b.checked 0 rest).shadowRefusal := by
  unfold Bench.restartChecked
  rw [h]
  rfl
end restart
end
/-! ### Bench start -/

section
open Bench
variable (b : Bench)

theorem Bench.lanesEval_alike : b.bn.Alike b.lanesEval.bn := by
  unfold Bench.lanesEval
  exact Bn.Alike.trans (.of_eq (by simp)) (mirrorWrite_alike _)

theorem Bench.quoinRestart_alike : b.bn.Alike b.quoinRestart.bn := by
  unfold Bench.quoinRestart
  extract_lets st
  generalize hx : b.setQuoin _ = x
  have h : x.bn = b.bn := by rw [← hx]; rfl
  rw [← h]
  exact lanesEval_alike x

theorem Bench.quoinStart_alike (okA okB : Bool) (cal : Nat) : b.bn.Alike (Bench.quoinStart okA okB cal b).bn := by
  unfold Bench.quoinStart
  extract_lets copy never fresh b₁ b₂
  have h₂ : b₂.bn = b.bn := rfl
  clear_value b₂
  rw [← h₂]
  split
  · have h := quoinRestart_alike b₂.safetyFlags
    rwa [safetyFlags_bn] at h
  · split
    · have h := lanesEval_alike b₂.safetyFlags
      rwa [safetyFlags_bn] at h
    · have h := lanesEval_alike ((b₂.quoinFault 10).quoinLog cal 7 0 0 0).safetyFlags
      rwa [safetyFlags_bn, quoinLog_bn, quoinFault_bn] at h

/-- Leaving WAKE changes the mode, to CONFIGURE or to HOLD, and leaves the choice of the firmware. -/
theorem Bench.leaveWake_bn (headerOk : Bool) :
    ((b.leaveWake headerOk).bn.mode = .configure ∨ (b.leaveWake headerOk).bn.mode = .hold) ∧
      (b.leaveWake headerOk).bn.bootRom = b.bn.bootRom ∧ (b.snap = none → (b.leaveWake headerOk).bn.mode = .configure) := by
  unfold Bench.leaveWake
  extract_lets bad c
  have hc : c.bn.bootRom = b.bn.bootRom := by unfold c; split <;> rfl
  have hs : c.snap = b.snap := by unfold c; split <;> rfl
  clear_value c
  rw [← hc, ← hs]
  cases c.snap with
  | none => exact ⟨.inl rfl, rfl, fun _ => rfl⟩
  | some sn =>
    dsimp only
    split
    · exact ⟨.inr rfl, rfl, nofun⟩
    · exact ⟨.inl rfl, rfl, nofun⟩

theorem Bench.guardHeld_bn (cal : Nat) : (b.guardHeld cal).1.bn = b.bn := by
  unfold Bench.guardHeld
  dsimp only
  rw [guardEffect_bn]
  exact foldl_keeps (g := fun r : Bench × Nat × Nat => r.1.bn) (fun r e => guardWrite_bn ..) _ _

theorem Bn.startFw_bootRom (f1 f2 : Bool) (n : Bn) (h : n.fwSwap = false) :
    (n.startFw f1 f2).bootRom = (!(f1 && n.fwCur.isSome) && !(f2 && n.fwAlt.isSome)) := by
  unfold Bn.startFw
  simp only [h, Bool.false_eq_true, if_false]
  split <;> rfl

/-- The three parts of a bench start: the firmware and the tests, the image and the stored configurations, and the mode. -/
def Bench.startTests (selftest : BitVec 5) (f1 f2 imgOk : Bool) (b : Bench) : Bench :=
  let face := !(b.fc.powered && 18000 ≤ b.fc.lplus)
  let b := b.setBn fun n => Bn.startFw f1 f2
    { n with selftest := n.selftest ||| selftest.setWidth 32 ||| at32 (b2n face) 3, coreOk := true }
  if b.pe.cur.isSome && !imgOk then
    { b with pe := { b.pe with imgBad := true }, bn := { b.bn with selftest := putBit b.bn.selftest 6 true } }
  else b
def Bench.startStores (cal : Nat) (oper : BitVec 16) (gA gB qA qB : Bool) (b : Bench) : Bench :=
  let b := (b.loadImage.guardStart gA gB cal oper).quoinStart qA qB cal
  b.setBn fun n => { n with safeLoaded := b.pe.cur.isSome, hostAt := b.rail.up }
def Bench.startEnd (hdr : Bool) (b : Bench) : Bench :=
  let b := b.kerfStart.leaveWake hdr
  (((b.periodOpen.faceSafe.canStart).restSupply).custody).event 0x180 0 b.modeWord b.bn.selftest

theorem Bench.startUp_eq (cal : Nat) (oper : BitVec 16) (selftest : BitVec 5) (f1 f2 img hdr gA gB qA qB : Bool) :
    b.startUp cal oper selftest f1 f2 img hdr gA gB qA qB =
      ((b.startTests selftest f1 f2 img).startStores cal oper gA gB qA qB).startEnd hdr := rfl

theorem Bench.startTests_spec (selftest : BitVec 5) (f1 f2 img : Bool) (h : b.bn.fwSwap = false) :
    (b.startTests selftest f1 f2 img).bn.bootRom = (!(f1 && b.bn.fwCur.isSome) && !(f2 && b.bn.fwAlt.isSome)) := by
  unfold Bench.startTests
  extract_lets face x
  have hx : x.bn.bootRom = (!(f1 && b.bn.fwCur.isSome) && !(f2 && b.bn.fwAlt.isSome)) := Bn.startFw_bootRom f1 f2 _ h
  split
  · exact hx
  · exact hx

theorem Bench.startTests_snap (selftest : BitVec 5) (f1 f2 img : Bool) : (b.startTests selftest f1 f2 img).snap = b.snap := by
  unfold Bench.startTests
  dsimp only
  split <;> rfl

theorem Bench.startStores_bootRom (cal : Nat) (oper : BitVec 16) (gA gB qA qB : Bool) :
    (b.startStores cal oper gA gB qA qB).bn.bootRom = b.bn.bootRom := by
  obtain ⟨k, hk⟩ := quoinStart_alike (b.loadImage.guardStart gA gB cal oper) qA qB cal
  have hb : (b.loadImage.guardStart gA gB cal oper).bn = b.bn := by rw [guardStart_bn, loadImage_bn]
  have h := congrArg Bn.bootRom hk
  rw [hb] at h
  exact h

theorem Bench.startStores_snap (cal : Nat) (oper : BitVec 16) (gA gB qA qB : Bool) :
    (b.startStores cal oper gA gB qA qB).snap = b.snap := by
  simp [Bench.startStores, Bench.setBn]

theorem Bench.startEnd_spec (hdr : Bool) : ((b.startEnd hdr).bn.mode = .configure ∨ (b.startEnd hdr).bn.mode = .hold) ∧
    (b.startEnd hdr).bn.bootRom = b.bn.bootRom ∧ (b.snap = none → (b.startEnd hdr).bn.mode = .configure) := by
  obtain ⟨hm, hb, hn⟩ := leaveWake_bn b.kerfStart hdr
  unfold Bench.startEnd
  rw [kerfStart_bn] at hb
  rw [kerfStart_snap] at hn
  generalize b.kerfStart.leaveWake hdr = c at hm hb hn ⊢
  dsimp only
  obtain ⟨k, hk⟩ := custody_alike (c.periodOpen.faceSafe.canStart).restSupply
  rw [event_bn, hk]
  simp only [restSupply_bn, canStart_bn, faceSafe_bn, periodOpen_bn]
  exact ⟨hm, hb, hn⟩

end
/-! ### The obligation -/

section
open Bench
variable {s : State} {c : Cmd} {n : BenchIx} {t : Nat}

theorem gives_benchStart {self : BitVec 5} {f1 f2 i h g1 g2 q1 q2 : Bool} (hm : ((s.bench n).tick t).bn.mode = .wake)
    (hu : ((s.bench n).tick t).rail.state ≠ .unlocked) (hv : s.hub.vinGood = true) (hr : s.hub.inReset = false) :
    Gives (.benchStartComplete n t self f1 f2 i h g1 g2 q1 q2) n s fun b' =>
      (b'.bn.mode = .configure ∨ b'.bn.mode = .hold) ∧ (((s.bench n).tick t).snap = none → b'.bn.mode = .configure) ∧
      (((s.bench n).tick t).bn.fwSwap = false → b'.bn.bootRom =
        (!(f1 && ((s.bench n).tick t).bn.fwCur.isSome) && !(f2 && ((s.bench n).tick t).bn.fwAlt.isSome))) := by
  rw [Gives, exec_benchStartComplete]
  unfold execBenchStartComplete
  extract_lets b cal oper r u w
  have hm' : b.bn.mode = .wake := hm
  have hu' : b.rail.state ≠ .unlocked := hu
  rw [if_pos (by simp only [hm', hv, hr, ne_eq, hu']; decide)]
  have hb : (u.bench n).bn = ((b.startUp cal oper self f1 f2 i h g1 g2 q1 q2)).bn := by
    unfold u
    rw [State.putBench_bn]
    exact Bench.guardHeld_bn ..
  obtain ⟨hm, hc, hn⟩ := startEnd_spec ((b.startTests self f1 f2 i).startStores cal oper g1 g2 q1 q2) h
  rw [← startUp_eq] at hm hc hn
  refine ⟨_, rfl, s.putBench_only n _, ?_⟩
  change ((u.bench n).bn.mode = _ ∨ (u.bench n).bn.mode = _) ∧ (_ → (u.bench n).bn.mode = _) ∧ (_ → (u.bench n).bn.bootRom = _)
  rw [hb]
  refine ⟨hm, fun hs => hn ?_, fun hs => hc.trans ?_⟩
  · rw [startStores_snap, startTests_snap, hs]
  · rw [startStores_bootRom, startTests_spec _ _ _ _ _ hs]

theorem serves_benchRun (hb : (s.bench c.bench).bn.bootRom = false) (hm : (s.bench c.bench).bn.mode = .configure)
    (ht : (s.bench c.bench).bn.trans = none) (h : (s.bench c.bench).MayRun) (hp : (s.bench c.bench).paired = false)
    (hw : (s.bench c.bench).bn.holdWait = 0) :
    Serves (.benchRun c) c s fun b' => b'.bn.mode = .run ∧ b'.bn.prev = .configure ∧ b'.bn.trans = none := by
  refine benchRun_accepted hb hm ht h fun q => ?_
  have hn := ((s.bench c.bench).accepted c).runChecked_bn
  rw [accepted_bn] at hn
  rw [claimOrRun_alone (((s.bench c.bench).accepted c).runChecked_paired.trans hp)]
  obtain ⟨k, hk⟩ := finishRun_cold (b := ((s.bench c.bench).accepted c).runChecked) (by rw [hn]; exact hw) c.tag c.noirq
  generalize ((s.bench c.bench).accepted c).runChecked.finishRun c.tag c.noirq none = y at hk ⊢
  rw [hn] at hk
  simp only [hk]
  exact ⟨rfl, hm, rfl⟩

theorem serves_benchRun_paired (hb : (s.bench c.bench).bn.bootRom = false) (hm : (s.bench c.bench).bn.mode = .configure)
    (ht : (s.bench c.bench).bn.trans = none) (h : (s.bench c.bench).MayRun) (hp : (s.bench c.bench).paired = true) :
    Serves (.benchRun c) c s fun b' => b'.bn.mode = .configure ∧
      b'.bn.trans = some (.runClaim c.tag c.noirq (s.bench c.bench).rail.now false) ∧ b'.points = (s.bench c.bench).points := by
  refine benchRun_accepted hb hm ht h fun q => ?_
  have hn := ((s.bench c.bench).accepted c).runChecked_bn
  have hr := ((s.bench c.bench).accepted c).runChecked_rail
  have hps := ((s.bench c.bench).accepted c).runChecked_points
  rw [claimOrRun_paired (((s.bench c.bench).accepted c).runChecked_paired.trans hp)]
  generalize ((s.bench c.bench).accepted c).runChecked = y at hn hr hps ⊢
  refine ⟨(congrArg Bn.mode hn).trans hm, ?_, hps⟩
  simp only [Bench.setNl, Bench.setBn, hr]
  rfl

theorem serves_benchShadow (hb : (s.bench c.bench).bn.bootRom = false) (hm : (s.bench c.bench).bn.mode = .configure)
    (ht : (s.bench c.bench).bn.trans = none) (h : (s.bench c.bench).MayShadow) :
    Serves (.benchShadow c) c s fun b' => b'.bn.mode = .shadow ∧ b'.bn.prev = .configure := by
  refine serves_of_accept (exec_benchShadow ..) ⟨hb, by simp [hm], by simp [hm, modesCfg]⟩ fun q => ?_
  have hn := ((s.bench c.bench).accepted c).shadowRefusal_none.2 ((accepted_sameChecks _ c).mayShadow.2 h)
  obtain ⟨w, hw⟩ := ((s.bench c.bench).accepted c).shadowRefusal_only
  have ht : ((s.bench c.bench).accepted c).bn.trans = none := ht
  have hm : ((s.bench c.bench).accepted c).bn.mode = .configure := hm
  generalize (s.bench c.bench).accepted c = b at hn hw ht hm ⊢
  rw [ht]
  rcases hx : b.shadowRefusal with ⟨st, y⟩
  rw [hx] at hn hw
  subst hn
  simp only [Option.isSome_none, Bool.false_eq_true, if_false, complete_bn]
  dsimp only at hw
  obtain ⟨k, hk⟩ := enterShadow_alike y
  rw [hk, hw]
  exact ⟨rfl, hm⟩

theorem serves_warmRestart (hb : (s.bench c.bench).bn.bootRom = false) (hm : (s.bench c.bench).bn.mode = .hold)
    (hs : (s.bench c.bench).bn.snapBusy = false) (ht : (s.bench c.bench).bn.trans = none) {target : Word} (hx : target.toNat ≤ 1) :
    Serves (.benchWarmRestart c target) c s fun b' =>
      b'.bn = { (s.bench c.bench).bn with
        trans := some (.pageCheck c.tag c.noirq (target ≠ 0) (s.bench c.bench).rail.now) } ∧
      b'.inst = (s.bench c.bench).inst ∧ b'.points = (s.bench c.bench).points := by
  refine serves_of_accept (exec_benchWarmRestart ..) ⟨hb, by simp [hm], by simp [hm, modesHold]⟩ fun q => ?_
  have hs : ((s.bench c.bench).accepted c).bn.snapBusy = false := hs
  have ht : ((s.bench c.bench).accepted c).bn.trans = none := ht
  rw [if_neg (by omega), hs, ht]
  exact ⟨rfl, rfl, rfl⟩

section restart
variable {fail rest since : Nat} {tag : BitVec 16} {noirq warm : Bool} {x : Bench}

theorem Bench.restartChecked_failed_bn {toShadow : Bool} (h : x.bn.trans = some (.pageCheck tag noirq toShadow since)) (hf : fail ≠ 0) :
    (x.restartChecked fail rest).bn.mode = x.bn.mode ∧ (x.restartChecked fail rest).bn.trans = none ∧
      (x.restartChecked fail rest).bn.pageFail = BitVec.ofNat 32 fail := by
  rw [restartChecked_failed h hf, completeTag_bn]
  exact ⟨rfl, rfl, rfl⟩

theorem Bench.restartChecked_run_bn (h : x.bn.trans = some (.pageCheck tag noirq false since)) (hr : x.MayRun) :
    (x.paired = false → x.bn.holdWait = 0 → (x.restartChecked 0 rest).bn.mode = .run ∧
      (x.restartChecked 0 rest).bn.resumed = true ∧ (x.restartChecked 0 rest).bn.pageRest = BitVec.ofNat 32 rest) ∧
    (x.paired = true → (x.restartChecked 0 rest).bn.mode = x.bn.mode ∧
      (x.restartChecked 0 rest).bn.trans = some (.runClaim tag noirq x.rail.now true)) := by
  have hn := (x.checked 0 rest).runRefusal_none.2 ((checked_sameChecks ..).mayRun.2 hr)
  have hb := runRefusal_bn (x.checked 0 rest)
  have hrail : (x.checked 0 rest).runRefusal.2.rail = x.rail := by
    obtain ⟨w, hw⟩ := (x.checked 0 rest).runRefusal_only
    rw [hw]
    rfl
  have hpair : (x.checked 0 rest).runRefusal.2.paired = x.paired := runRefusal_paired _
  rw [restartChecked_run h, restartOutcome_run hn]
  generalize (x.checked 0 rest).runRefusal.2 = y at hb hrail hpair ⊢
  constructor
  · intro hp h0
    rw [claimOrRun_alone (hpair.trans hp)]
    obtain ⟨k, hk⟩ := finishRun_warm (b := y) (by rw [hb]; exact h0) tag noirq y.rail.now
    rw [hk, hb]
    exact ⟨rfl, rfl, rfl⟩
  · intro hp
    rw [claimOrRun_paired (hpair.trans hp)]
    simp only [Bench.setNl, Bench.setBn, hb, hrail]
    exact ⟨rfl, rfl⟩

theorem Bench.restartOutcome_refused {toShadow : Bool} {r : Option Status × Bench} (h : r.1 ≠ none) :
    (Bench.restartOutcome tag noirq toShadow r).bn = r.2.bn := by
  obtain ⟨_ | st, y⟩ := r
  · exact absurd rfl h
  · exact completeTag_bn ..

theorem Bench.restartChecked_noRun_bn (h : x.bn.trans = some (.pageCheck tag noirq false since)) (hr : ¬ x.MayRun) :
    (x.restartChecked 0 rest).bn.mode = x.bn.mode ∧ (x.restartChecked 0 rest).bn.trans = none := by
  rw [restartChecked_run h, restartOutcome_refused fun hn =>
    hr ((checked_sameChecks ..).mayRun.1 ((x.checked 0 rest).runRefusal_none.1 hn)), runRefusal_bn]
  exact ⟨rfl, rfl⟩

theorem Bench.shadowRefusal_bn (b : Bench) : b.shadowRefusal.2.bn = b.bn := by
  obtain ⟨w, h⟩ := shadowRefusal_only b
  rw [h]

theorem Bench.restartChecked_shadow_bn (h : x.bn.trans = some (.pageCheck tag noirq true since)) (hr : x.MayShadow) :
    (x.restartChecked 0 rest).bn.mode = .shadow ∧ (x.restartChecked 0 rest).bn.trans = none := by
  have hn := (x.checked 0 rest).shadowRefusal_none.2 ((checked_sameChecks ..).mayShadow.2 hr)
  have hb := shadowRefusal_bn (x.checked 0 rest)
  rw [restartChecked_shadow h, restartOutcome_shadow hn, completeTag_bn]
  obtain ⟨k, hk⟩ := enterShadow_alike ((x.checked 0 rest).shadowRefusal.2.fifosEmptied (x.checked 0 rest).shadowRefusal.2.fq)
  rw [hk, fifosEmptied_bn, hb]
  exact ⟨rfl, rfl⟩

theorem Bench.restartChecked_noShadow_bn (h : x.bn.trans = some (.pageCheck tag noirq true since)) (hr : ¬ x.MayShadow) :
    (x.restartChecked 0 rest).bn.mode = x.bn.mode ∧ (x.restartChecked 0 rest).bn.trans = none := by
  rw [restartChecked_shadow h, restartOutcome_refused fun hn =>
    hr ((checked_sameChecks ..).mayShadow.1 ((x.checked 0 rest).shadowRefusal_none.1 hn)), shadowRefusal_bn]
  exact ⟨rfl, rfl⟩

theorem Bench.decideClaim_bn (h : x.bn.trans = some (.runClaim tag noirq since warm)) (ht : since + 4000 ≤ x.rail.now)
    (claim : Option Bool) : (x.decideClaim claim).bn.trans = none ∧
      (x.claimFails claim = true → (x.decideClaim claim).bn.mode = x.bn.mode) ∧
      (x.claimFails claim = false → x.bn.holdWait = 0 → (x.decideClaim claim).bn.mode = .run) := by
  unfold Bench.decideClaim
  rw [h]
  dsimp only
  rw [if_pos ht]
  split
  next hc =>
    rw [completeTag_bn]
    refine ⟨?_, fun _ => ?_, fun h => absurd h (by simp [hc])⟩
    · split
      · rw [raise_bn]
        rfl
      · rfl
    · split
      · rw [raise_bn]
        rfl
      · rfl
  next hc =>
    refine ⟨finishRun_trans .., fun h => absurd h hc, fun _ h0 => ?_⟩
    cases warm with
    | false =>
      obtain ⟨k, hk⟩ := finishRun_cold h0 tag noirq
      exact (congrArg Bn.mode hk :)
    | true =>
      obtain ⟨k, hk⟩ := finishRun_warm h0 tag noirq since
      exact (congrArg Bn.mode hk :)

end restart
end

/-- Settles O6. -/
theorem benchEntersItsMode : Obligations.BenchEntersItsMode := by
  intro s c n t fail rest self f1 f2 i h g1 g2 q1 q2 claim tag noirq warm since b x
  refine ⟨gives_benchStart, fun hb hm ht hr => ⟨serves_benchRun hb hm ht hr, serves_benchRun_paired hb hm ht hr⟩,
    serves_benchShadow, fun hb hm hs ht => serves_warmRestart hb hm hs ht (by decide), fun hb hm hs ht => ?_, fun hp => ?_,
    fun hp => ?_, fun hp ht => ?_⟩
  · exact fun hi => (serves_warmRestart hb hm hs ht (by decide) hi).mono fun _ h => h.1
  · refine gives_of_onBench (exec_restartCheckDone ..) fun q => ⟨Bench.restartChecked_failed_bn hp, ?_, ?_, ?_⟩
    · intro hf hr
      subst hf
      exact (Bench.restartChecked_run_bn hp hr).1
    · intro hf hr
      subst hf
      exact (Bench.restartChecked_run_bn hp hr).2
    · intro hf hr
      subst hf
      exact Bench.restartChecked_noRun_bn hp hr
  · refine gives_of_onBench (exec_restartCheckDone ..) fun q => ⟨?_, ?_⟩
    · intro hf hr
      subst hf
      exact Bench.restartChecked_shadow_bn hp hr
    · intro hf hr
      subst hf
      exact Bench.restartChecked_noShadow_bn hp hr
  · exact gives_of_onBench (exec_runClaimDone ..) fun q => Bench.decideClaim_bn hp ht claim

end Sys2Proof.Machine
end

section
/-!
FIFOs, and states that statements leave out
-/

namespace Sys2Proof.Machine

/-! ### FIFOs -/

section
variable (b : Bench) (f : Fin 32)

@[simp] theorem Bench.setFifo_self (g : Fifo → Fifo) : (b.setFifo f g).fifo f = g (b.fifo f) := upd_self ..
theorem Bench.setFifo_other (g : Fifo → Fifo) {m : Fin 32} (h : m ≠ f) : (b.setFifo f g).fifo m = b.fifo m := upd_other _ _ h

/-- Moving words towards the head changes only where they stand. -/
theorem Fifo.settle_only (x : Fifo) : ∃ h m, x.settle = { x with headN := h, midN := m } := by
  unfold Fifo.settle
  extract_lets k x₁ x₂
  have h₁ : ∃ h m, x₁ = { x with headN := h, midN := m } := by
    unfold x₁
    split
    · exact ⟨_, _, rfl⟩
    · exact ⟨x.headN, x.midN, rfl⟩
  have h₂ : ∃ h m, x₂ = { x with headN := h, midN := m } := by
    obtain ⟨h, m, h₁⟩ := h₁
    unfold x₂
    rw [h₁]
    split
    · exact ⟨_, _, rfl⟩
    · exact ⟨h, m, rfl⟩
  obtain ⟨h, m, h₂⟩ := h₂
  rw [h₂]
  split
  · exact ⟨_, _, rfl⟩
  · exact ⟨h, m, rfl⟩

theorem Fifo.push_spec {x : Fifo} (h : x.dropping = false) (w : Word) (e : Bool) :
    (x.push w e).words = x.words ++ [(w, e)] ∧ (x.push w e).wrOpen = !e ∧
      (x.push w e).notify = if e && x.notifies then x.notify ++ [x.wrLen + 1] else x.notify := by
  unfold Fifo.push
  rw [h]
  obtain ⟨h, m, hs⟩ := Fifo.settle_only _
  simp only [Bool.false_eq_true, if_false]
  rw [hs]
  exact ⟨rfl, rfl, rfl⟩

/-- What a pop takes and leaves. -/
theorem Fifo.pop_spec {x : Fifo} {w : Word} {e : Bool} {r : List (Word × Bool)} (h : x.words = (w, e) :: r) :
    x.pop.words = r ∧ x.pop.rdOpen = !e := by
  unfold Fifo.pop
  rw [h]
  dsimp only
  obtain ⟨h, m, hs⟩ := Fifo.settle_only { x with words := r, rdOpen := !e, headN := x.headN - 1 }
  rw [hs]
  exact ⟨rfl, rfl⟩

theorem Bench.fifoPush_fifo (w : Word) (e : Bool) : (b.fifoPush f w e).fq = (b.setFifo f (Fifo.push w e)).fq := by
  unfold Bench.fifoPush
  dsimp only
  split <;> rfl

/-- Pops through the end mark take the packet. -/
theorem Fifo.pops_spec (p r : List (Word × Bool)) (w : Word) (l : List Word) (x : Fifo) (h : x.words = p ++ (w, true) :: r)
    (hl : l.length = p.length + 1) : (l.foldl (fun y _ => y.pop) x).words = r ∧ (l.foldl (fun y _ => y.pop) x).rdOpen = false := by
  induction p generalizing l x with
  | nil =>
    obtain ⟨a, rfl⟩ := List.length_eq_one_iff.1 hl
    exact Fifo.pop_spec h
  | cons y p ih =>
    cases l with
    | nil => simp at hl
    | cons a l => exact ih l x.pop (Fifo.pop_spec h).1 (Nat.succ.inj hl)

theorem Fifo.dropPacket_spec {x : Fifo} (h : 0 < x.pkts) :
    x.dropPacket.words = (x.words.dropWhile fun y => !y.2).drop 1 ∧ x.dropPacket.rdOpen = false := by
  unfold Fifo.dropPacket Fifo.firstPacket
  have hsplit := (List.takeWhile_append_dropWhile (p := fun y : Word × Bool => !y.2) (l := x.words)).symm
  cases hd : x.words.dropWhile fun y => !y.2 with
  | nil =>
    have hall : ∀ y ∈ x.words, (!y.2) = true := List.dropWhile_eq_nil_iff.1 hd
    have : x.pkts = 0 := by
      unfold Fifo.pkts
      rw [List.length_eq_zero_iff, List.filter_eq_nil_iff]
      intro y hy
      simpa using hall y hy
    omega
  | cons y r =>
    obtain ⟨w, e⟩ := y
    have he : e = true := by
      have := List.head_dropWhile_not (p := fun y : Word × Bool => !y.2) (l := x.words) (by simp [hd])
      simpa [hd] using this
    subst he
    rw [hd] at hsplit
    exact Fifo.pops_spec _ r w _ x hsplit (by simp)

theorem Bench.setFifo_fq_congr {x y : Bench} (h : x.fq = y.fq) (m : Fin 32) : x.fifo m = y.fifo m := by
  unfold Bench.fifo
  rw [h]

/-- A write of the host that the FIFO takes. -/
theorem Bench.hostWrite_taken (hen : (b.fifo f).en = true) (hp : (b.fifo f).prod = 1) (hf : (b.fifo f).full = false)
    (hd : (b.fifo f).dropping = false) (w : Word) (e : Bool) :
    ((Bench.hostWrite f w e b).fifo f).words = (b.fifo f).words ++ [(w, e)] ∧ ((Bench.hostWrite f w e b).fifo f).wrOpen = !e ∧
      ((Bench.hostWrite f w e b).fifo f).notify =
        (if e && (b.fifo f).notifies then (b.fifo f).notify ++ [(b.fifo f).wrLen + 1] else (b.fifo f).notify) ∧
      ∀ m, m ≠ f → (Bench.hostWrite f w e b).fifo m = b.fifo m := by
  have h : (Bench.hostWrite f w e b).fq = (b.setFifo f (Fifo.push w e)).fq := by
    unfold Bench.hostWrite
    dsimp only
    rw [hf, hp, hen]
    exact fifoPush_fifo ..
  simp only [setFifo_fq_congr h, setFifo_self]
  obtain ⟨h1, h2, h3⟩ := Fifo.push_spec hd w e
  exact ⟨h1, h2, h3, fun m hm => setFifo_other _ _ _ hm⟩

theorem Bench.hostWrite_spoiled (h : (b.fifo f).full = true ∨ (b.fifo f).prod ≠ 1 ∨ (b.fifo f).en = false) (w : Word) (e : Bool) :
    ((Bench.hostWrite f w e b).fifo f).words = (b.fifo f).words ∧ ((Bench.hostWrite f w e b).fifo f).spoil = inc (b.fifo f).spoil := by
  unfold Bench.hostWrite
  dsimp only
  rw [if_pos (by simpa [or_assoc] using h), setFifo_self]
  exact ⟨rfl, rfl⟩

theorem Bench.hostPop_some {w : Word} {e : Bool} {r : List (Word × Bool)} (h : (b.fifo f).words = (w, e) :: r)
    (hc : (b.fifo f).cons = 1) (hen : (b.fifo f).en = true) (hl : (b.fifo f).headLocked = false) :
    ((Bench.hostPop f b).fifo f).words = r ∧ (Bench.hostPop f b).fq.hostWord = w ∧ (Bench.hostPop f b).fq.hostValid = true ∧
      (Bench.hostPop f b).fq.hostEop = e := by
  unfold Bench.hostPop
  dsimp only
  rw [h]
  dsimp only
  rw [if_pos (by simp [hc, hen, hl])]
  refine ⟨?_, rfl, rfl, rfl⟩
  exact (congrArg Fifo.words (setFifo_self b f Fifo.pop)).trans (Fifo.pop_spec h).1

theorem Bench.hostPop_none (h : (b.fifo f).words = []) :
    (Bench.hostPop f b).fq.hostValid = false ∧ (Bench.hostPop f b).fq.f = b.fq.f := by
  unfold Bench.hostPop
  dsimp only
  rw [h]
  exact ⟨rfl, rfl⟩

theorem Bench.dropRemainder_whole (hen : (b.fifo f).en = true) (ho : (b.fifo f).rdOpen = true) (hp : 0 < (b.fifo f).pkts) :
    ((Bench.dropRemainder f b).fifo f).words = ((b.fifo f).words.dropWhile fun y => !y.2).drop 1 ∧
      ((Bench.dropRemainder f b).fifo f).rdOpen = false ∧ (Bench.dropRemainder f b).fq.cmdStat = 0 := by
  have h : Bench.dropRemainder f b = (b.setFifo f Fifo.dropPacket).cmdStat 0 := by
    unfold Bench.dropRemainder
    simp [hen, ho, hp]
  have hf := setFifo_self b f Fifo.dropPacket
  obtain ⟨hw, hr⟩ := Fifo.dropPacket_spec hp
  rw [h]
  exact ⟨(congrArg Fifo.words hf).trans hw, (congrArg Fifo.rdOpen hf).trans hr, rfl⟩

theorem Bench.dropRemainder_open (hen : (b.fifo f).en = true) (ho : (b.fifo f).rdOpen = true) (hp : (b.fifo f).pkts = 0) :
    ((Bench.dropRemainder f b).fifo f).words = [] ∧ ((Bench.dropRemainder f b).fifo f).dropping = true ∧
      (Bench.dropRemainder f b).fq.cmdStat = 2 := by
  unfold Bench.dropRemainder
  dsimp only
  rw [hen, ho, hp]
  refine ⟨?_, ?_, rfl⟩
  · exact congrArg Fifo.words (setFifo_self b f _)
  · exact congrArg Fifo.dropping (setFifo_self b f _)

theorem Bench.dropRemainder_closed (hen : (b.fifo f).en = true) (ho : (b.fifo f).rdOpen = false) :
    Bench.dropRemainder f b = b.cmdStat 1 := by
  unfold Bench.dropRemainder
  simp [hen, ho]

theorem Bench.flush_on (hen : (b.fifo f).en = true) : Bench.flushFifo f b = b.cmdStat 3 := by
  unfold Bench.flushFifo
  simp [hen]

theorem Bench.flush_off (hen : (b.fifo f).en = false) : ((Bench.flushFifo f b).fifo f).words = [] ∧
    ((Bench.flushFifo f b).fifo f).dropping = false ∧ ((Bench.flushFifo f b).fifo f).cfg = (b.fifo f).cfg ∧
      (Bench.flushFifo f b).fq.cmdStat = 0 := by
  have h : ((Bench.flushFifo f b).fifo f) = (b.fifo f).flush := by
    unfold Bench.flushFifo
    rw [hen]
    exact setFifo_self b f _
  rw [h]
  refine ⟨rfl, rfl, rfl, ?_⟩
  unfold Bench.flushFifo
  rw [hen]
  rfl

/-! ### Configuration of FIFOs -/

theorem fld_cfgMask {v : Word} {hi lo : Nat} (h : fld (0x877F00FF : Word) hi lo = 2 ^ (hi - lo + 1) - 1) :
    fld (v &&& 0x877F00FF) hi lo = fld v hi lo := by
  rw [fld_and, h, Nat.and_two_pow_sub_one_eq_mod]
  exact Nat.mod_eq_of_lt (Nat.mod_lt _ (by positivity))

/-- A write of FQ_CFG to a FIFO that is off and empty takes all fields, where the bounds of R139 permit them. -/
theorem Bench.writeFqCfg_taken {v : Word} (h1 : fld v 26 24 ≤ 5) (h2 : fld v 22 20 ≤ 5) (hen : (b.fifo f).en = false)
    (hw : (b.fifo f).words = [])
    (hb : v.getLsbD 31 = false ∨ b.boundTo f 26 24 (fld v 26 24) < 8 ∧ b.boundTo f 22 20 (fld v 22 20) < 8) :
    (Bench.writeFqCfg f v b).fifo f = { b.fifo f with cfg := v &&& 0x877F00FF } := by
  have hn : (b.fifo f).newCfg v = v &&& 0x877F00FF := by
    unfold Fifo.newCfg
    simp [hen, hw]
  unfold Bench.writeFqCfg
  dsimp only
  rw [hn, fld_cfgMask (by decide), fld_cfgMask (by decide), if_neg (by simp; omega), if_neg ?_, setFifo_self]
  rcases hb with hv | ⟨hb1, hb2⟩
  · rw [show bitOf v 31 = false from hv]
    simp
  · simp [hb1, hb2]

theorem Bench.writeFqSpill_taken {v : Word} (h1 : fld v 6 0 ≤ 64)
    (h2 : b.spillUsed - (b.fifo f).spillMib + fld v 6 0 + b.bn.dramCapture.toNat ≤ 896) (hen : (b.fifo f).en = false)
    (hw : (b.fifo f).words = []) : (Bench.writeFqSpill f v b).fifo f = { b.fifo f with spill := at32 (fld v 6 0) 0 } := by
  unfold Bench.writeFqSpill
  dsimp only
  rw [if_neg (by simp [hen, hw]; omega), setFifo_self]

theorem Bench.writeDramCapture_taken {v : Word} (hm : b.bn.mode = .configure) (h1 : v.toNat ≤ 512)
    (h2 : v.toNat + b.spillUsed ≤ 896) : Bench.writeDramCapture v b = { b with bn := { b.bn with dramCapture := v } } := by
  unfold Bench.writeDramCapture
  rw [if_neg (by simp [hm]), if_neg (by simp; omega)]

theorem fld_at32_seven {m : Nat} (h : m < 128) : fld (at32 m 0) 6 0 = m := by
  unfold fld at32
  simp
  omega

theorem Bench.writeFqSpill_fields {v : Word} (h1 : fld v 6 0 ≤ 64)
    (h2 : b.spillUsed - (b.fifo f).spillMib + fld v 6 0 + b.bn.dramCapture.toNat ≤ 896) (hen : (b.fifo f).en = false)
    (hw : (b.fifo f).words = []) : ((Bench.writeFqSpill f v b).fifo f).spillMib = fld v 6 0 ∧
      ((Bench.writeFqSpill f v b).fifo f).cfg = (b.fifo f).cfg := by
  rw [writeFqSpill_taken b f h1 h2 hen hw]
  exact ⟨fld_at32_seven (by omega), rfl⟩
end

/-- What becomes of a Quoin session changes no FIFO. -/
theorem Bench.fifo_qn (b : Bench) (q : Quoin) (f : Fin 32) : Bench.fifo { b with qn := q } f = b.fifo f := rfl

/-- Settles O8. -/
theorem fifosKeepTheirPackets : Obligations.FifosKeepTheirPackets := by
  intro s n f w v e r b x
  refine ⟨fun hen hp hf hd => ⟨?_, ?_⟩, fun h => ?_, fun hw hc hen hl => ?_, fun hw => ?_, fun hen ho hp => ?_, fun hen ho hp => ?_,
    fun hen ho => ?_, fun hen => ?_, fun hen => ?_, fun h1 h2 hv hen hw => ?_, fun h1 h2 hv hw hen hb1 hb2 => ?_,
    fun h1 h2 hen hw => ?_, fun hm h1 h2 => ?_⟩
  · refine gives_of_onBench (exec_fqWr ..) fun q => ?_
    obtain ⟨h1, h2, -, h4⟩ := Bench.hostWrite_taken b f hen hp hf hd w false
    simp only [Bench.fifo_qn]
    exact ⟨h1, h2, h4⟩
  · refine gives_of_onBench (exec_fqWrEop ..) fun q => ?_
    obtain ⟨h1, h2, h3, h4⟩ := Bench.hostWrite_taken b f hen hp hf hd w true
    simp only [Bench.fifo_qn]
    exact ⟨h1, h2, fun hn => h3.trans (if_pos (by simp [x] at hn; simp [hn])), h4⟩
  · refine gives_of_onBench (exec_fqWr ..) fun q => ?_
    simp only [Bench.fifo_qn]
    exact Bench.hostWrite_spoiled b f h w false
  · refine gives_of_onBench (exec_fqHostPop ..) fun q => ?_
    simp only [Bench.fifo_qn]
    exact Bench.hostPop_some b f hw hc hen hl
  · refine gives_of_onBench (exec_fqHostPop ..) fun q => ?_
    dsimp only
    exact Bench.hostPop_none b f hw
  · refine gives_of_onBench (exec_dropRemainder ..) fun q => ?_
    simp only [Bench.fifo_qn]
    exact Bench.dropRemainder_whole b f hen ho hp
  · refine gives_of_onBench (exec_dropRemainder ..) fun q => ?_
    simp only [Bench.fifo_qn]
    exact Bench.dropRemainder_open b f hen ho hp
  · refine gives_of_onBench (exec_dropRemainder ..) fun q => ?_
    rw [Bench.dropRemainder_closed _ f hen ho]
    rfl
  · refine gives_of_onBench (exec_flush ..) fun q => ?_
    simp only [Bench.fifo_qn]
    exact Bench.flush_off b f hen
  · refine gives_of_onBench (exec_flush ..) fun q => ?_
    rw [Bench.flush_on _ f hen]
    rfl
  · refine gives_of_onBench (exec_fqCfgWrite ..) fun q => ?_
    have h := Bench.writeFqCfg_taken b f h1 h2 hen hw (.inl hv)
    simp only [Bench.fifo_qn]
    exact ⟨congrArg Fifo.cfg h, (congrArg Fifo.words h).trans hw⟩
  · refine gives_of_onBench (exec_fqCfgWrite ..) fun q => ?_
    have h := congrArg Fifo.cfg (Bench.writeFqCfg_taken b f h1 h2 hen hw (.inr ⟨hb1, hb2⟩))
    simp only [Bench.fifo_qn]
    refine ⟨(congrArg (bitOf · 31) h).trans ?_, (congrArg (fld · 26 24) h).trans (fld_cfgMask (by decide)),
      (congrArg (fld · 22 20) h).trans (fld_cfgMask (by decide))⟩
    rw [bitOf_and, show bitOf v 31 = true from hv]
    decide
  · refine gives_of_onBench (exec_fqSpillWrite ..) fun q => ?_
    simp only [Bench.fifo_qn]
    exact Bench.writeFqSpill_fields b f h1 h2 hen hw
  · refine gives_of_onBench (exec_bnDramCaptureWrite ..) fun q => ?_
    rw [Bench.writeDramCapture_taken _ hm h1 h2]
    exact ⟨rfl, rfl⟩
-- The kernel evaluates the states below one after another.
set_option Elab.async false

/-! ### A task's timing while the loops exceed their rate -/

/-- An image with one task, task 1. -/
def oneTask : Image := {
  id := 7
  tasks := [{ task := 1, p := 100, ph := 10, off := 50, d := 20, g := 25, pri := 1, startSlot := 1, c := 1, u := 1 }] }

/-- The command that sets the timing of task 1. -/
def setTiming : Instr := .progSetTiming { bench := 0, tag := 5 } 1 50 49 50 46 0

/-- Bench 0 in CONFIGURE with that image and with 201 loops of period 2 µs, and with the command in progress. -/
def tooManyLoops : State :=
  State.reset.withBench 0 { Bench.atReset 0 with
    bn := { (Bench.atReset 0).bn with mode := .configure }
    conf := (List.range 201).map fun n => (loopAt n, 2)
    pe := { img0 := some oneTask }
    qc := {
      q := Vector.replicate 4 { size := 16, ctrl := 0x80000000 }
      inflight := [{ tag := 5, opcode := 0x0205, noirq := false, params := [1, 50, 49, 50, 46, 0], bytes := none }] } }

/-- What a message says of a command's end. -/
def endOf : HostMsg → Option Status
  | .completion _ st _ _ _ => some st
  | _ => none

/-- The ends of commands that bench 0 has reported after an instruction. -/
def endsAfter (i : Instr) (s : State) : Option (List Status) :=
  match exec i s with
  | .next t => some ((t.bench 0).qc.sent.filterMap endOf)
  | _ => none

theorem Completed.mem_ends {c : Cmd} {st : Status} {r : Nat} {b b' : Bench} (h : Completed c st r b b') :
    st ∈ b'.qc.sent.filterMap endOf := by
  obtain ⟨l, ph, hd, l', h⟩ := h
  rw [h]
  simp [endOf]

theorem tooManyLoops_ok :
    let b := tooManyLoops.bench 0
    let m : Fin 16 := 1
    (b.bn.bootRom = false ∧ b.bn.mode = .configure ∧ b.Answers { bench := 0, tag := 5 } ∧ b.pe.cur = some oneTask) ∧
    timingOk 50 49 50 46 0 = true ∧ oneTask.tasks.any (fun y => y.task = m) = true ∧
    tasksFit oneTask (b.pe.tasks.set m { b.pe.tasks[m] with p := 50, ph := 49, off := 50, d := 46, g := 0 }) = true ∧
    b.issued setTiming = true := by
  decide +kernel

theorem tooManyLoops_refused : endsAfter setTiming tooManyLoops = some [.overBudget] := by
  decide +kernel

/-- Refutes O9: the clause of PROG_SET_TIMING leaves out that the loops and axes must fit too (R73). With 201 loops of 2 µs
they do not, and the command ends with OVER_BUDGET. -/
theorem not_cyclesRunFromTheImage : ¬ Obligations.CyclesRunFromTheImage := by
  intro h
  obtain ⟨⟨hb, hm, ha, hi⟩, ht, hmem, hfit, his⟩ := tooManyLoops_ok
  obtain ⟨-, -, -, timing, -⟩ := h tooManyLoops { bench := 0, tag := 5 } oneTask 1 50 49 50 46 0 0 0 0
  obtain ⟨u, he, -, hdone, -⟩ := timing hb hm ha (by decide) (by decide) ht oneTask hi hmem hfit his
  have after : endsAfter setTiming tooManyLoops = some ((u.bench 0).qc.sent.filterMap endOf) := by
    rw [endsAfter, setTiming, he]
  have hok := hdone.mem_ends
  rw [tooManyLoops_refused] at after
  rw [← Option.some.inj after] at hok
  exact absurd hok (by decide)
/-! ### A page of an online change while a migration ends -/

/-- An image whose program keeps 16 bytes of data. -/
def sixteenBytes : Image := { id := 7, instSize := 16 }

/-- Bench 0 in an online change with one page to copy, while the last page of a shadow's migration is done. -/
def changeAndMigration : State :=
  State.reset.withBench 0 { Bench.atReset 0 with
    pe := { img0 := some sixteenBytes, img1 := some sixteenBytes
            chg := some { tag := 5, noirq := false, maxDefer := 2, todo := [0] } }
    nl := { migr := some { old := sixteenBytes, newInst := [(0, 1)], todo := [] } } }

/-- Instance memory of bench 0 after an instruction. -/
def instAfter (i : Instr) (s : State) : Option (Tbl Byte) :=
  match exec i s with
  | .next t => some (t.bench 0).inst
  | _ => none

theorem changeAndMigration_ok :
    let x := (changeAndMigration.bench 0).tick 0
    x.pe.chg = some { tag := 5, noirq := false, maxDefer := 2, todo := [0] } ∧ x.pe.cur = some sixteenBytes ∧
      x.pe.freeImg = some sixteenBytes ∧ x.noLogic = true ∧ x.inst = [] := by
  decide +kernel

theorem changeAndMigration_moves : instAfter (.moverPageCopy 0 0) changeAndMigration = some [(0, 1)] := by
  decide +kernel

/-- Refutes O10: the page mover serves a migration in the same gap (R484), whose end writes the program's data, and the clause
of MOVER_PAGE_COPY claims that these data stay as they were. -/
theorem not_forcesAndOnlineChange : ¬ Obligations.ForcesAndOnlineChange := by
  intro h
  obtain ⟨hch, hcur, hfree, hlog, hinst⟩ := changeAndMigration_ok
  obtain ⟨-, -, -, -, -, -, mover, -⟩ := h changeAndMigration { bench := 0, tag := 0 } 0 0 0 0 0 0 0 0
  obtain ⟨u, he, -, hkept, -⟩ := mover _ _ _ 0 [] hch hcur hfree rfl hlog rfl
  have after : instAfter (.moverPageCopy 0 0) changeAndMigration = some (u.bench 0).inst := by
    rw [instAfter, he]
  rw [changeAndMigration_moves, hkept, hinst] at after
  exact absurd after (by decide)
/-! ### A missed loop update whose restored words name another output -/

/-- An update due at 5 ns that has replaced word 8 of its loop's descriptor, where the output point stands. -/
def movedOutput : LoopUpdate := { due := 5, state := {}, out := none, spl := none, req := {}, took := [], undo := [(8, 0x10000)] }

/-- Bench 0 in RUN with that update of loop 0 in progress, the loop in MAN with output point 0. -/
def outputMoves : State :=
  State.reset.withBench 0 { Bench.atReset 0 with
    bn := { (Bench.atReset 0).bn with mode := .run }
    points := [(0, { flags := 0xA000 })]
    le := { loops := [(0, { st := { mode := .man }, upd := some movedOutput })] } }

/-- The stamp of point 0 of bench 0 after an instruction. -/
def stampAfter (i : Instr) (s : State) : Option Time :=
  match exec i s with
  | .next t => some ((t.bench 0).point 0).stamp
  | _ => none

theorem outputMoves_ok :
    let x := (outputMoves.bench 0).tick 0
    x.bn.mode = .run ∧ (x.loop 0).upd = some movedOutput ∧ movedOutput.due ≤ x.rail.now + 2000 ∧ x.loopOutp 0 = 0 ∧
      (x.loop 0).st.mode ≠ .off ∧ (x.point 0).source = 5 := by
  decide +kernel

theorem outputMoves_missed : stampAfter (.loopRelease 0 0 0 none) outputMoves = some 0 := by
  decide +kernel

/-- Refutes O22: a missed update first puts the descriptor words back that its commands had replaced (R218), and the output
is refreshed at the point that they name; the clause names the point of the words before, and no premise says that the output
point is none of them. -/
theorem not_loopUpdatesReadThenRelease : ¬ Obligations.LoopUpdatesReadThenRelease := by
  intro h
  obtain ⟨hm, hu, hd, hp, ho, hs⟩ := outputMoves_ok
  obtain ⟨-, release⟩ := h outputMoves 0 0 0 0 movedOutput
  obtain ⟨-, u, he, -, -, -, -, -, -, hstamp⟩ := release hm hu hd
  have after : stampAfter (.loopRelease 0 0 0 none) outputMoves = some ((u.bench 0).point 0).stamp := by
    rw [stampAfter, he]
  have hstamp := (hstamp ho (by rw [show ((0 : Fin 512).val) = 0 from rfl, hp]; exact hs)).1
  rw [show ((0 : Fin 512).val) = 0 from rfl, hp] at hstamp
  rw [outputMoves_missed, hstamp] at after
  exact absurd after (by decide)
/-! ### A held recipe that a resume instant waits for -/

/-- Bench 0 in RUN, its recipes going on in PAUSED after a warm restart, with slot 0 held at its restart instant and the
instant of a resume over. -/
def restartAndResume : State :=
  State.reset.withBench 0 { Bench.atReset 0 with
    bn := { (Bench.atReset 0).bn with mode := .run }
    rs := { cfg := 1, slots := (Vector.replicate 16 {}).set 0 { state := .held, restartAt := some 0, resumeAt := some 0 } } }

/-- The state of recipe slot 0 of bench 0 after an instruction. -/
def recipeStateAfter (i : Instr) (s : State) : Option RecipeState :=
  match exec i s with
  | .next t => some ((t.bench 0).recipe 0).state
  | _ => none

theorem restartAndResume_ok :
    let x := (restartAndResume.bench 0).tick 0
    x.bn.mode = .run ∧ (x.recipe 0).state = .held ∧ (x.recipe 0).restartAt = some 0 ∧ 0 ≤ x.rail.now ∧
      x.rs.cfg.getLsbD 0 = true := by
  decide +kernel

theorem restartAndResume_runs : recipeStateAfter (.resumeInstant 0 0 0) restartAndResume = some .running := by
  decide +kernel

/-- Refutes O25: a held recipe whose restart leaves it PAUSED is resumed in the same step where a resume instant is over, and
the clause of RESUME_INSTANT has no premise that none waits. -/
theorem not_recipesRunStepByStep : ¬ Obligations.RecipesRunStepByStep := by
  intro h
  obtain ⟨hm, hs, hr, hz, hc⟩ := restartAndResume_ok
  obtain ⟨-, -, -, -, -, -, -, -, held, -⟩ := h restartAndResume 0 0 0 0 0 { role := .first, step := 0, words := [] } .first hm
  obtain ⟨u, he, -, hstate, -⟩ := held hs hr hz
  have after : recipeStateAfter (.resumeInstant 0 0 0) restartAndResume = some ((u.bench 0).recipe 0).state := by
    rw [recipeStateAfter, he]
  rw [restartAndResume_runs, hstate, if_pos hc] at after
  exact absurd after (by decide)
/-! ### A move that begins while a change of its limit waits -/

/-- Bench 0 in RUN with axis 0 armed to move to 10, and with a change that takes its upper limit down to 0. The axis needs
1 µs between its direction and its first edge. -/
def limitWaits : State :=
  State.reset.withBench 0 { Bench.atReset 0 with
    bn := { (Bench.atReset 0).bn with mode := .run }
    conf := [(axisAt 0 + 0x20, 1000)]
    mx := { axes := [(0, { state := .armed, armed := some (0, .move 10), changes := [{ time := 0, par := .pmax, value := 0 }] })] } }

/-- The state of axis 0 of bench 0 after an instruction. -/
def axisStateAfter (i : Instr) (s : State) : Option AxisState :=
  match exec i s with
  | .next t => some ((t.bench 0).axis 0).state
  | _ => none

theorem limitWaits_ok :
    let x := (limitWaits.bench 0).tick 0
    let y := x.axis 0
    x.bn.mode = .run ∧ y.state = .armed ∧ y.armed = some (0, .move 10) ∧ 0 ≤ x.rail.now ∧ 10 ≠ y.pos ∧ x.guardPmin 0 ≤ 10 ∧
      10 ≤ x.guardPmax 0 := by
  decide +kernel

theorem limitWaits_idle : axisStateAfter (.moveStart 0 0 0) limitWaits = some .idle := by
  decide +kernel

/-- Refutes O27: the first computation of a move takes the changes that wait for the axis (R286). A lower limit that leaves no
way ends the move at once, and the clause of MOVE_START has no premise that no change waits. -/
theorem not_axesMoveStepByStep : ¬ Obligations.AxesMoveStepByStep := by
  intro h
  obtain ⟨hm, hs, ha, ht, hp, hlo, hhi⟩ := limitWaits_ok
  obtain ⟨start, -⟩ := h limitWaits 0 0 0 0 0 10 0 0 0 0 0 false
  obtain ⟨u, he, -, hstate, -⟩ := start hm hs ha ht hp hlo hhi
  have after : axisStateAfter (.moveStart 0 0 0) limitWaits = some ((u.bench 0).axis 0).state := by
    rw [axisStateAfter, he]
  rw [limitWaits_idle, show ((u.bench 0).axis 0).state = .moving from hstate] at after
  exact absurd after (by decide)
/-! ### A sample of the face that ends a lost drive of Quoin -/

/-- Bench 0 in RUN with face power, lane B of Quoin without its drive since the last toggle, and point 5 as a mirror point. -/
def driveComesBack : State :=
  State.reset.withBench 0 { Bench.atReset 0 with
    bn := { (Bench.atReset 0).bn with mode := .run }
    points := [(5, { flags := 0x2000 })]
    fc := { (Bench.atReset 0).fc with powered := true }
    qn := { (Bench.atReset 0).qn with
      cfg := some ((Vector.replicate 24 0).set 6 0x8005), b := { (Bench.atReset 0).qn.b with driveLost := true } } }

/-- The quality of point 5 of bench 0 after an instruction. -/
def qualityAfter (i : Instr) (s : State) : Option Half :=
  match exec i s with
  | .next t => some ((t.bench 0).point 5).quality
  | _ => none

theorem driveComesBack_ok :
    let x := (driveComesBack.bench 0).tick 0
    x.faceNow % 1000 = 0 ∧ x.fc.powered = true ∧ x.forcePoints = [] ∧ x.facePoint 34 ≠ some 5 ∧ (x.point 5).quality = 0 := by
  decide +kernel

theorem driveComesBack_mirrors : qualityAfter (.diSample 0 0 0 0 0 24000) driveComesBack = some 1 := by
  decide +kernel

/-- Refutes O29: a DI sample carries the toggle of Quoin's lane B. Where it ends a lost drive, the lanes evaluate and write
their mirror points (R367), and the clause of DI_SAMPLE claims that every point but that of the read-backs stays. -/
theorem not_faceInputsReachTheirPoints : ¬ Obligations.FaceInputsReachTheirPoints := by
  intro h
  obtain ⟨hn, hp, hf, hr, hq⟩ := driveComesBack_ok
  obtain ⟨-, sample, -⟩ := h driveComesBack 0 0 0 0 0 0 0 24000 0 0 0 false false false 0 0
  obtain ⟨u, he, -, -, -, -, -, -, -, -, -, hkept⟩ := sample hn hp (by decide)
  have after : qualityAfter (.diSample 0 0 0 0 0 24000) driveComesBack = some ((u.bench 0).point 5).quality := by
    rw [qualityAfter, he]
  rw [driveComesBack_mirrors, hkept hf 5 hr, hq] at after
  exact absurd after (by decide)

end Sys2Proof.Machine
end

section
/-!
More states that statements leave out
-/

namespace Sys2Proof.Machine

-- The kernel evaluates the states below one after another.
set_option Elab.async false

/-! ### An analog output that loses its current and its wire at one sample -/

/-- Bench 0 without face frames, its analog output 0 at the safe value 4 mA, one sample low, and one sample short of a broken
wire. -/
def wireBreaksToo : State :=
  State.reset.withBench 0 { Bench.atReset 0 with
    fc := { (Bench.atReset 0).fc with
      powered := true, safeAo := Vector.replicate 2 0, ao := (Vector.replicate 2 {}).set 0 { nLow := 1, nWire := 19 } } }

/-- What the face of bench 0 has to tell after an instruction. -/
def newsAfter (i : Instr) (s : State) : Option (List FaceNews) :=
  match exec i s with
  | .next t => some (t.bench 0).fc.news
  | _ => none

theorem wireBreaksToo_ok :
    let x := (wireBreaksToo.bench 0).tick 0
    x.fc.powered = true ∧ x.faceNow % 50000 = 0 ∧ x.aoLand 0 = some 0 ∧ (x.fc.ao[(0 : Fin 2)]).compl = false ∧
      (x.fc.ao[(0 : Fin 2)]).nLow = 1 ∧ x.fc.linkOk = false ∧ x.fc.news = [] := by
  decide +kernel

theorem wireBreaksToo_tells : newsAfter (.aoSample 0 0 0 0) wireBreaksToo = some [.compliance, .wire] := by
  decide +kernel

/-- Refutes O30: the sample that shows the missing current may be the twentieth without any, which is a broken wire as well
(R338, R341). Without the link the face then has both to tell, and the clause claims that it has only the first. -/
theorem not_faceOutputsFollowTheSupply : ¬ Obligations.FaceOutputsFollowTheSupply := by
  intro h
  obtain ⟨hp, hn, hl, hc, hlow, hlink, hnews⟩ := wireBreaksToo_ok
  obtain ⟨-, -, -, -, -, -, sample, -⟩ := h wireBreaksToo 0 0 0 0 0 0 0 0 { bench := 0, tag := 0 }
  obtain ⟨u, he, -, -, ⟨-, htold⟩, -⟩ := sample hp hn hl hc hlow (by decide)
  have after : newsAfter (.aoSample 0 0 0 0) wireBreaksToo = some (u.bench 0).fc.news := by
    rw [newsAfter, he]
  rw [wireBreaksToo_tells, htold hlink, hnews] at after
  exact absurd after (by decide)
/-! ### A test pulse without a length -/

/-- Bench 0 with a Quoin configuration whose test period is 10 and whose test pulses have no length, and with 3 V on L+. -/
def pulseWithoutLength : State :=
  State.reset.withBench 0 { Bench.atReset 0 with
    fc := { (Bench.atReset 0).fc with powered := true, lplus := 3000 }
    qn := { (Bench.atReset 0).qn with cfg := some ((Vector.replicate 24 0).set 1 0x00A00000) } }

/-- The faults that Quoin of bench 0 has latched after an instruction. -/
def quoinFaultAfter (i : Instr) (s : State) : Option Word :=
  match exec i s with
  | .next t => some (t.bench 0).qn.fault
  | _ => none

theorem pulseWithoutLength_ok :
    let x := (pulseWithoutLength.bench 0).tick 0
    x.qTpp ≠ 0 ∧ x.rail.now % x.qTpp = (if false then x.qTpp / 2 else 0) ∧ x.fc.powered = true ∧ 0 + 3000 ≤ x.fc.lplus := by
  decide +kernel

theorem pulseWithoutLength_passes : quoinFaultAfter (.testPulse 0 0 false 0) pulseWithoutLength = some 0 := by
  decide +kernel

/-- Refutes O34: where an off-pulse has no length, its first moment is its end, at which the source's read-back has to be
low (R359). The clause of TEST_PULSE asks for a fault of every low read-back and has no premise that the pulse has a length. -/
theorem not_quoinLanesDecide : ¬ Obligations.QuoinLanesDecide := by
  intro h
  obtain ⟨hp, hn, hw, hv⟩ := pulseWithoutLength_ok
  obtain ⟨-, -, -, -, -, -, -, pulse, -⟩ := h pulseWithoutLength 0 0 0 0 0 false false false false 0 0 0 0 0
  obtain ⟨u, he, -, ⟨-, hfault⟩, -⟩ := pulse hp hn hw
  have after : quoinFaultAfter (.testPulse 0 0 false 0) pulseWithoutLength = some (u.bench 0).qn.fault := by
    rw [quoinFaultAfter, he]
  obtain ⟨hbit, -⟩ := hfault hv
  rw [pulseWithoutLength_passes] at after
  rw [← Option.some.inj after] at hbit
  exact absurd hbit (by decide)
/-! ### An FD frame at a controller without FD -/

/-- Bench 0 in CONFIGURE with CAN controller 0 on the bus, without FD, and with a reference message of identifier 0. -/
def classicController : State :=
  State.reset.withBench 0 { Bench.atReset 0 with
    bn := { (Bench.atReset 0).bn with mode := .configure }
    conf := [(canAt 0 8, 0x80000000), (canAt 0 0x1C, 0x80000000)]
    can := (Bench.atReset 0).can.set 0 { (Bench.atReset 0).can[(0 : Fin 2)] with state := .active } }

/-- The count of identifier collisions of CAN controller 0 of bench 0 after an instruction. -/
def collisionsAfter (i : Instr) (s : State) : Option Word :=
  match exec i s with
  | .next t => some ((t.bench 0).can[(0 : Fin 2)]).cnt[(2 : Fin 12)]
  | _ => none

theorem classicController_ok :
    let x := (classicController.bench 0).tick 0
    x.canEn 0 = true ∧ (x.can[(0 : Fin 2)]).state.normal = true ∧ x.bn.mode ≠ .wake ∧
      x.canOwnId 0 { h0 := putBit 0 31 false, h1 := 0x80000000, data := [] } = true ∧
      (x.can[(0 : Fin 2)]).cnt[(2 : Fin 12)] = 0 := by
  decide +kernel

theorem classicController_ignores : collisionsAfter (.canFrameRx 0 0 0 0 0x80000000 [] 0) classicController = some 0 := by
  decide +kernel

/-- Refutes O36: a controller whose FD_EN is 0 receives no FD frame (R415), so none collides with its identifiers; the clause
of CAN_FRAME_RX has no premise that the frame is classic or FD_EN is 1. -/
theorem not_canReceivesIntoBuffers : ¬ Obligations.CanReceivesIntoBuffers := by
  intro h
  obtain ⟨hen, hs, hm, hid, hcnt⟩ := classicController_ok
  obtain ⟨-, -, -, -, -, -, receive⟩ := h classicController 0 0 0 0 0 0 0 0 0x80000000 [] 0 0 (0, 0) { slot := 0, buf := 0 }
  obtain ⟨-, -, -, collide⟩ := receive hen (.inl hs) hm
  obtain ⟨u, he, -, hinc, -⟩ := collide hid
  have after : collisionsAfter (.canFrameRx 0 0 0 0 0x80000000 [] 0) classicController =
      some ((u.bench 0).can[(0 : Fin 2)]).cnt[(2 : Fin 12)] := by
    rw [collisionsAfter, he]
  rw [classicController_ignores, hinc, hcnt] at after
  exact absurd after (by decide)

end Sys2Proof.Machine
end

section
/-!
What a measurement, a waiting task set and a decision change
-/

namespace Sys2Proof.Machine

-- The kernel evaluates the states below one after another.
set_option Elab.async false

/-! ### An error in the frame in which the loop delay is measured -/

/-- The frame that controller 0 sends: FD, with BRS. -/
def ownFrame : CanPending := { src := .object 0, frame := { h0 := 0, h1 := 0xC0000000, data := [] }, time := 0 }

/-- Bench 0 in CONFIGURE with CAN controller 0 on the bus, with FD and with the secondary sample point at the loop delay, and
with the frame that it sends. -/
def delayedSender : State :=
  State.reset.withBench 0 { Bench.atReset 0 with
    bn := { (Bench.atReset 0).bn with mode := .configure }
    conf := [(canAt 0 8, 0xC0000000), (canAt 0 0x14, 0x80000000)]
    can := (Bench.atReset 0).can.set 0
      { (Bench.atReset 0).can[(0 : Fin 2)] with state := .active, urgent := some ownFrame } }

/-- The bit of the data phase as it returned: recessive, and dominant from step 5 on. -/
def returnedBit : CanSite := .frame false { level := true, changes := [5] }

/-- The count of errors of CAN controller 0 of bench 0 after an instruction. -/
def canErrorsAfter (i : Instr) (s : State) : Option Word :=
  match exec i s with
  | .next t => some ((t.bench 0).can[(0 : Fin 2)]).cnt[(0 : Fin 12)]
  | _ => none

theorem delayedSender_ok :
    let x := (delayedSender.bench 0).canTick 0
    let z := x.can[(0 : Fin 2)]
    x.canEn 0 = true ∧ z.state.normal = true ∧ (some 0).bind z.offer = some ownFrame ∧
      x.canErrs 0 ownFrame.frame 6 true returnedBit = true ∧ z.cnt[(0 : Fin 12)] = 0 := by
  decide +kernel

/-- The loop delay measured in the frame is 5 steps. -/
theorem delayedSender_noError :
    canErrorsAfter (.canError 0 0 0 (.error 6) true (some 0) false returnedBit (some 5)) delayedSender = some 0 := by decide +kernel

/-- Refutes O38: the secondary sample point uses the loop delay measured in the same frame (R417), so whether the bit is an
error is decided after the measurement; the clause asks it of the state before, where the sample lies at step 0. -/
theorem not_canErrorsAndRecovery : ¬ Obligations.CanErrorsAndRecovery := by
  intro h
  obtain ⟨hen, hs, hmine, herr, hcnt⟩ := delayedSender_ok
  obtain ⟨errors, -⟩ := h delayedSender 0 0 0 6 true false (some 0) returnedBit (some 5) { bench := 0, tag := 5 }
  obtain ⟨u, he, -, hinc, -⟩ := errors hen hs fun p hp => by
    rw [hmine] at hp
    exact Option.some.inj hp ▸ herr
  have after : canErrorsAfter (.canError 0 0 0 (.error 6) true (some 0) false returnedBit (some 5)) delayedSender =
      some ((u.bench 0).can[(0 : Fin 2)]).cnt[(0 : Fin 12)] := by
    rw [canErrorsAfter, he]
  rw [delayedSender_noError, hinc, hcnt] at after
  exact absurd after (by decide)
/-! ### A task set that waits for the lane -/

/-- A task set of task 1 without pages, and its bytes. -/
def waitingSet : Nat × NalryMsg := (16, .copy (.set { task := 1, pages := [], flags := 0 }))

/-- Bench 0 of a pair in CONFIGURE with its lane up and its tokens issued, and with a task set that waits for the lane. -/
def laneWaiting : State :=
  State.reset.withBench 0 { Bench.atReset 0 with
    bn := { (Bench.atReset 0).bn with mode := .configure }
    nl := { cfg := 0x80000000, laneUp := true, tokenAt := some 0, waiting := [waitingSet] } }

/-- How many messages bench 0 has sent on the lane after an instruction. -/
def sentAfter (i : Instr) (s : State) : Option Nat :=
  match exec i s with
  | .next t => some (t.bench 0).nl.sent.length
  | _ => none

theorem laneWaiting_ok :
    let x := (laneWaiting.bench 0).tick 0
    x.paired = true ∧ x.nl.laneUp = true ∧ x.bn.mode ≠ .wake ∧ x.rail.now % 1000 = 0 ∧ x.pulsing = true ∧
      x.nl.sent = [] := by
  decide +kernel

/-- The task set goes first, then the heartbeat. -/
theorem laneWaiting_sends : sentAfter (.heartbeatTx 0 0) laneWaiting = some 2 := by decide +kernel

/-- Refutes O42: a task set that waits goes onto the lane as soon as it is free (R482), here at the moment of the heartbeat;
the clause of HEARTBEAT_TX says that the heartbeat alone is sent. -/
theorem not_pairPathsAreWatched : ¬ Obligations.PairPathsAreWatched := by
  intro h
  obtain ⟨hp, hl, hm, hn, ht, hs⟩ := laneWaiting_ok
  obtain ⟨heartbeat, -⟩ := h laneWaiting 0 0 0
    { mode := 0, custody := false, cls := 0, eligible := false, stale := false, freeId := none, seq := 0 } false false
  obtain ⟨u, he, -, -, _, hsent, -⟩ := heartbeat hp hl hm hn ht
  have after : sentAfter (.heartbeatTx 0 0) laneWaiting = some (u.bench 0).nl.sent.length := by rw [sentAfter, he]
  rw [laneWaiting_sends, hsent, hs] at after
  exact absurd after (by simp)

/-! ### A drive moment of a shadow that has become STALE -/

/-- Bench 0 in SHADOW with a drive moment decided, made STALE since. -/
def staleDriver : State :=
  State.reset.withBench 0 { Bench.atReset 0 with
    bn := { (Bench.atReset 0).bn with mode := .shadow }
    nl := { cfg := 0x80000000, drive := some (0, false), stale := true } }

/-- The mode of bench 0 after an instruction. -/
def modeAfter (i : Instr) (s : State) : Option Mode :=
  match exec i s with
  | .next t => some (t.bench 0).bn.mode
  | _ => none

theorem staleDriver_ok :
    let x := (staleDriver.bench 0).tick 0
    x.bn.mode = .shadow ∧ x.nl.drive = some (0, false) ∧ 0 ≤ x.rail.now ∧ x.nl.custIn = false := by
  decide +kernel

theorem staleDriver_stays : modeAfter (.driveMoment 0 0) staleDriver = some .shadow := by decide +kernel

/-- Refutes O43: a shadow that has become STALE since the decision drives nothing (R477); the clause of DRIVE_MOMENT asks for
custody released alone. -/
theorem not_shadowTakesOver : ¬ Obligations.ShadowTakesOver := by
  intro h
  obtain ⟨hm, hd, hn, hc⟩ := staleDriver_ok
  obtain ⟨-, -, moment⟩ := h staleDriver 0 0 0 false
  obtain ⟨drives, -⟩ := moment hm hd hn
  obtain ⟨u, he, -, hrun, -⟩ := drives hc
  have after : modeAfter (.driveMoment 0 0) staleDriver = some (u.bench 0).bn.mode := by rw [modeAfter, he]
  rw [staleDriver_stays, hrun] at after
  exact absurd after (by decide)

/-! ### A switch gap in which the lane sends a task set that waited -/

/-- Bench 0 in RUN with a hand-over whose gap began at 0, and with a task set that waits for the lane. -/
def handoverWaiting : State :=
  State.reset.withBench 0 { Bench.atReset 0 with
    bn := { (Bench.atReset 0).bn with mode := .run }
    nl := {
      cfg := 0x80000000, laneUp := true, waiting := [waitingSet]
      ho := some { tag := 5, noirq := false, start := 0, maxDefer := 3, gapAt := some 0 } } }

/-- X of the hand-over of bench 0 after an instruction. -/
def handoverXAfter (i : Instr) (s : State) : Option (Option Time) :=
  match exec i s with
  | .next t => some ((t.bench 0).nl.ho.bind (·.x))
  | _ => none

theorem handoverWaiting_ok :
    let x := (handoverWaiting.bench 0).tick 0
    let h : Handover := { tag := 5, noirq := false, start := 0, maxDefer := 3, gapAt := some 0 }
    (x.nl.ho = some h ∧ h.x = none ∧ x.bn.mode = .run ∧ x.handoverGap h = some 0 ∧ x.noLogic = true ∧
      x.switching = false ∧ x.nl.busyUntil ≤ x.rail.now) ∧
    x.localIdle = true ∧ x.handoverFits 0 (6000 + laneTime (partBytes (x.enginePart false))) = true := by
  decide +kernel

/-- The gap is not tested: the task set takes the lane. -/
theorem handoverWaiting_stays : handoverXAfter (.handoverGapTest 0 0) handoverWaiting = some none := by decide +kernel

/-- Refutes O45: a task set that waits takes the lane first (R482), and the gap is not tested while copy data is on it (R494);
the clause of HANDOVER_GAP_TEST asks only that the lane is through with what it sent before. -/
theorem not_plannedHandoverRuns : ¬ Obligations.PlannedHandoverRuns := by
  intro h
  obtain ⟨⟨ho, hx, hm, hg, hl, hs, hb⟩, hi, hf⟩ := handoverWaiting_ok
  obtain ⟨-, gap, -⟩ := h handoverWaiting 0 0 0 0 false
    { tag := 5, noirq := false, start := 0, maxDefer := 3, gapAt := some 0 } { bench := 0, tag := 5 } 0 0 0
  obtain ⟨test, -⟩ := gap ho hx hm hg hl hs hb
  obtain ⟨u, he, -, hu, -⟩ := test hi hf
  have after : handoverXAfter (.handoverGapTest 0 0) handoverWaiting = some ((u.bench 0).nl.ho.bind (·.x)) := by
    rw [handoverXAfter, he]
  rw [handoverWaiting_stays, hu] at after
  exact absurd after (by simp)

end Sys2Proof.Machine
end

section
/-!
The health recorder and the digest
-/

namespace Sys2Proof.Machine

/-! ### A list that a command reads into its buffer -/

section readDone
variable (b : Bench) (c : Cmd) (ws : List Word) (r : Nat)

theorem Bench.readDone_only : ∃ fn qc, b.readDone c ws r = { b with fn := fn, qc := qc } := by
  unfold Bench.readDone
  split
  · obtain ⟨fn, qc, h⟩ := (b.writeList c ws).complete_only c .ok r
    exact ⟨fn, qc, h⟩
  · obtain ⟨fn, qc, h⟩ := (b.writeList c ws).complete_only c .partialDone (c.buf / 4 * 4)
    exact ⟨fn, qc, h⟩
@[simp] theorem Bench.readDone_points : (b.readDone c ws r).points = b.points := by
  obtain ⟨fn, qc, h⟩ := b.readDone_only c ws r
  rw [h]
@[simp] theorem Bench.readDone_hl : (b.readDone c ws r).hl = b.hl := by
  obtain ⟨fn, qc, h⟩ := b.readDone_only c ws r
  rw [h]
@[simp] theorem Bench.readDone_kf : (b.readDone c ws r).kf = b.kf := by
  obtain ⟨fn, qc, h⟩ := b.readDone_only c ws r
  rw [h]
@[simp] theorem Bench.readDone_qn : (b.readDone c ws r).qn = b.qn := by
  obtain ⟨fn, qc, h⟩ := b.readDone_only c ws r
  rw [h]
@[simp] theorem Bench.readDone_bn : (b.readDone c ws r).bn = b.bn := by
  obtain ⟨fn, qc, h⟩ := b.readDone_only c ws r
  rw [h]

theorem Bench.Carries.writeList : b.Carries (b.writeList c ws) := .of_sent (l := [_]) rfl rfl rfl

variable {b c ws r} {b₀ b' : Bench}

/-- A list that the buffer holds is written, and the command completes. -/
theorem Bench.readDone_ok (ha : b₀.Answers c) (h : b₀.Carries b) (hl : ws.length ≤ c.buf / 4)
    (hq : b'.qc = (b.readDone c ws r).qc) : Completed c .ok r b₀ b' ∧ .buffer c.tag ws ∈ b'.qc.sent := by
  have he : b.readDone c ws r = (b.writeList c ws).complete c .ok r := if_pos (decide_eq_true hl)
  have hw := h.trans (.writeList b c ws)
  rw [he] at hq
  refine ⟨completed_of_carries ha hw (.of_qc hq), ?_⟩
  obtain ⟨ph, hd, l, hs⟩ := Bench.complete_sent .ok r (hw.answers ha)
  rw [hq, hs]
  simp [Bench.writeList, List.take_of_length_le hl]

/-- Of a longer list the buffer holds the beginning, and the command ends as partly done. -/
theorem Bench.readDone_partial (ha : b₀.Answers c) (h : b₀.Carries b) (hl : c.buf / 4 < ws.length)
    (hq : b'.qc = (b.readDone c ws r).qc) :
    Completed c .partialDone (c.buf / 4 * 4) b₀ b' ∧ .buffer c.tag (ws.take (c.buf / 4)) ∈ b'.qc.sent := by
  have he : b.readDone c ws r = (b.writeList c ws).complete c .partialDone (c.buf / 4 * 4) :=
    if_neg (by simpa [listHolds] using hl)
  have hw := h.trans (.writeList b c ws)
  rw [he] at hq
  refine ⟨completed_of_carries ha hw (.of_qc hq), ?_⟩
  obtain ⟨ph, hd, l, hs⟩ := Bench.complete_sent .partialDone (c.buf / 4 * 4) (hw.answers ha)
  rw [hq, hs]
  simp [Bench.writeList]

end readDone

/-! ### Gauges and counts of the health recorder -/

theorem incBy_zero (w : Word) : incBy w 0 = w := by
  unfold incBy
  rw [if_pos (by have := w.isLt; omega)]
  simp

/-- The counts while a period runs: one count rises. -/
theorem Bench.healthBy_running {b : Bench} (i : Fin 25) (m : Nat) (h : b.hl.running = true) :
    ∃ s, b.healthBy i m = { b with hl := { b.hl with counts := upd b.hl.counts i fun w => incBy w m, sev := s } } := by
  unfold Bench.healthBy
  rw [h]
  by_cases hm : 0 < m
  · rw [if_pos (by simpa using hm)]
    exact ⟨_, rfl⟩
  · obtain rfl : m = 0 := by omega
    rw [if_neg (by simp)]
    refine ⟨b.hl.sev, ?_⟩
    simp [upd, incBy_zero]

theorem Bench.healthSev_only (b : Bench) (k : Nat) : ∃ s, b.healthSev k = { b with hl := { b.hl with sev := s } } := ⟨_, rfl⟩

theorem Gauge.sample_max {i o : Nat} {v : Int} {g : Gauge} (h : g.count ≠ 0) : (g.sample i o v).max = Max.max g.max v := by
  simp only [Gauge.sample, h, decide_false, Bool.false_or]
  split
  · simp_all; omega
  · simp_all

theorem Gauge.sample_min {i o : Nat} {v : Int} {g : Gauge} (h : g.count ≠ 0) : (g.sample i o v).min = Min.min g.min v := by
  simp only [Gauge.sample, h, decide_false, Bool.false_or]
  split
  · simp_all; omega
  · simp_all

/-- What a sample of all gauges leaves. -/
theorem execGaugeSample_gives {s : State} {n : BenchIx} {t es ed em : Nat} {P : Bench → Prop}
    (hr : ((s.bench n).tick t).hl.running = true) (hm : ((s.bench n).tick t).bn.mode ≠ .wake)
    (hp : ∀ b' : Bench, b'.points = ((s.bench n).tick t).points →
      (b'.hl.counts = upd (upd (upd ((s.bench n).tick t).hl.counts 21 (incBy · es)) 22 (incBy · ed)) 23 (incBy · em)) →
      (b'.hl.gauges = ((s.bench n).tick t).hl.gauges.mapFinIdx fun i g _ =>
        g.sample i ((((s.bench n).tick t).rail.up - ((s.bench n).tick t).hl.up) / 1000000) (((s.bench n).tick t).gaugeNow i)) → P b') :
    Gives (.gaugeSample n ⟨t, es, ed, em⟩) n s P := by
  refine gives_of_onBench (exec_gaugeSample ..) fun q => ?_
  generalize (s.bench n).tick t = x at hr hm hp ⊢
  obtain ⟨s₁, h₁⟩ := Bench.healthBy_running 21 es hr
  generalize x.healthBy 21 es = b₁ at h₁ ⊢
  obtain ⟨s₂, h₂⟩ := Bench.healthBy_running (b := b₁) 22 ed (by rw [h₁]; exact hr)
  generalize b₁.healthBy 22 ed = b₂ at h₂ ⊢
  obtain ⟨s₃, h₃⟩ := Bench.healthBy_running (b := b₂) 23 em (by rw [h₂, h₁]; exact hr)
  generalize b₂.healthBy 23 em = b₃ at h₃ ⊢
  subst h₁ h₂ h₃
  dsimp only
  rw [if_neg (by simp [hr, hm])]
  split <;> exact hp _ rfl rfl rfl

/-! ### Records -/

theorem recordSev_le {r : List Word} {kind sev cls : Nat} (hk : kind < 4) (hc : cls < 4)
    (h : r.getD 0 0 = at32 kind 24 ||| at32 sev 18 ||| at32 cls 16) : recordSev r ≤ sev := by
  have small : ∀ kind sev cls : Fin 4, fld (at32 kind 24 ||| at32 sev 18 ||| at32 cls 16) 19 18 = sev := by decide +kernel
  unfold recordSev
  rw [h]
  by_cases hs : sev < 4
  · exact (small ⟨kind, hk⟩ ⟨sev, hs⟩ ⟨cls, hc⟩).le
  · have : fld (at32 kind 24 ||| at32 sev 18 ||| at32 cls 16) 19 18 < 4 := Nat.mod_lt _ (by decide)
    omega

theorem Tbl.mem_of_get {α : Type} {d v : α} {k : Nat} : ∀ {t : Tbl α}, Tbl.get d t k = v → v ≠ d → (k, v) ∈ t
  | [], h, hv => absurd h.symm hv
  | (i, u) :: r, h, hv => by
    unfold Tbl.get at h
    split at h
    next hi => subst hi h; exact List.mem_cons_self
    next => exact List.mem_cons_of_mem _ (Tbl.mem_of_get h hv)

/-- A fold whose every step has a result has one, but for the empty list. -/
theorem foldl_isSome {α β : Type} {f : Option β → α → Option β} (hf : ∀ m a, (f m a).isSome = true) :
    ∀ {l : List α} (m : Option β), l ≠ [] → (l.foldl f m).isSome = true
  | [], _, h => absurd rfl h
  | [_], m, _ => hf m _
  | a :: _ :: _, m, _ => foldl_isSome hf (f m a) (List.cons_ne_nil _ _)

/-- Where a record of a severity at most k stands, one of severity k finds a slot. -/
theorem Health.slotFor_of_record {h : Health} {k m : Nat} {r : List Word} (hm : Tbl.get none h.slots m = some r)
    (hk : recordSev r ≤ k) : (h.slotFor k).isSome = true := by
  unfold Health.slotFor
  split
  · rfl
  · rw [Option.isSome_map]
    refine foldl_isSome (fun best e => ?_) none ?_
    · cases best with
      | none => rfl
      | some x => dsimp only; split <;> rfl
    have hmem := Tbl.mem_of_get hm (Option.some_ne_none r)
    exact List.ne_nil_of_mem (List.mem_filterMap.2 ⟨_, hmem, if_pos hk⟩)

/-- Which slot a record finds depends on the slots alone. -/
theorem Health.slotFor_congr {h h' : Health} (k : Nat) (he : h.slots = h'.slots) : h.slotFor k = h'.slotFor k := by
  have hf : h.free = h'.free := by
    funext n
    unfold Health.free
    rw [he]
  unfold Health.slotFor
  rw [hf, he]

/-- A record that finds a slot is written, and another of the same severity finds a slot after it. -/
theorem Bench.recordWrite_slot {b : Bench} {kind cls cause : Nat} {body : List Word} (hk : kind < 4) (hc : cls < 4)
    (h : (b.hl.slotFor b.hl.sev).isSome = true) :
    ∃ l, b.recordWrite kind cls cause body = { b with hl := l } ∧ l.seq = b.hl.seq + 1 ∧ l.drop = b.hl.drop ∧
      (l.slotFor l.sev).isSome = true := by
  obtain ⟨n, hn⟩ := Option.isSome_iff_exists.1 h
  unfold Bench.recordWrite
  extract_lets h len seq words ws
  rw [hn]
  refine ⟨_, rfl, rfl, rfl, Health.slotFor_of_record (m := n) (r := ws ++ [crc32c ws]) ?_ (recordSev_le hk hc rfl)⟩
  change Tbl.get none (Tbl.set none b.hl.slots n (some (ws ++ [crc32c ws]))) n = _
  exact Tbl.get_set_self

theorem Bench.gaugeBlock_only (b : Bench) (i : Nat) : ∃ f, (b.gaugeBlock i).2 = { b with free := f } := by
  unfold Bench.gaugeBlock
  extract_lets g s tail
  split
  · simp only [Bench.fresh]
    exact ⟨_, rfl⟩
  · exact ⟨b.free, rfl⟩

/-- What the end of a period leaves: three records more, and a new period. -/
structure Health.Renewed (old : Health) (now : Nat) (new : Health) : Prop where
  seq : new.seq = old.seq + 3
  drop : new.drop = old.drop
  running : new.running = true
  counts : new.counts = Vector.replicate 25 0
  gauges : new.gauges = Vector.replicate 4 {}
  sev : new.sev = 0
  rail : new.rail = now

theorem Bench.periodClose_renews {b : Bench} {cls cause m : Nat} (hc : cls < 4) (h : b.hl.slotFor b.hl.sev = some m) :
    ∃ l f, b.periodClose cls cause = { b with hl := l, free := f } ∧ b.hl.Renewed b.rail.now l := by
  unfold Bench.periodClose
  extract_lets b₀
  have h₀ : (b₀.hl.slotFor b₀.hl.sev).isSome = true := by
    rw [Health.slotFor_congr (h := b₀.hl) (h' := b.hl) _ rfl]
    exact Option.isSome_iff_exists.2 ⟨m, h⟩
  have e₀ : ∃ l, b₀ = { b with hl := l } ∧ l.seq = b.hl.seq ∧ l.drop = b.hl.drop := ⟨_, rfl, rfl, rfl⟩
  clear_value b₀
  obtain ⟨l₀, rfl, hs₀, hd₀⟩ := e₀
  dsimp only
  obtain ⟨f₁, e₁⟩ := Bench.gaugeBlock_only { b with hl := l₀ } 0
  rw [e₁]
  obtain ⟨f₂, e₂⟩ := Bench.gaugeBlock_only { b with hl := l₀, free := f₁ } 1
  rw [e₂]
  obtain ⟨l₁, e₃, hs₁, hd₁, h₁⟩ := Bench.recordWrite_slot (b := { b with hl := l₀, free := f₂ }) (kind := 1) (cls := cls)
    (cause := cause) (body := (Bench.gaugeBlock 0 { b with hl := l₀ }).1 ++ (Bench.gaugeBlock 1 { b with hl := l₀, free := f₁ }).1)
    (by decide) hc h₀
  rw [e₃]
  obtain ⟨f₃, e₄⟩ := Bench.gaugeBlock_only { b with hl := l₁, free := f₂ } 2
  rw [e₄]
  obtain ⟨f₄, e₅⟩ := Bench.gaugeBlock_only { b with hl := l₁, free := f₃ } 3
  rw [e₅]
  obtain ⟨l₂, e₆, hs₂, hd₂, h₂⟩ := Bench.recordWrite_slot (b := { b with hl := l₁, free := f₄ }) (kind := 2) (cls := cls)
    (cause := cause) (body := (Bench.gaugeBlock 2 { b with hl := l₁, free := f₂ }).1 ++
      (Bench.gaugeBlock 3 { b with hl := l₁, free := f₃ }).1) (by decide) hc h₁
  rw [e₆]
  obtain ⟨l₃, e₇, hs₃, hd₃, -⟩ := Bench.recordWrite_slot (b := { b with hl := l₂, free := f₄ }) (kind := 3) (cls := cls)
    (cause := cause) (body := l₂.counts.toList) (by decide) hc h₂
  rw [e₇]
  refine ⟨_, _, rfl, ?_, ?_, rfl, rfl, rfl, rfl, rfl⟩
  · change l₃.seq = _
    rw [hs₃, hs₂, hs₁, hs₀]
    ring
  · change l₃.drop = _
    rw [hd₃, hd₂, hd₁, hd₀]

/-- The records of the slots named. -/
def Health.records (h : Health) (first count : Word) : List (List Word) :=
  ((List.range count.toNat).map (first.toNat + ·)).filterMap fun k => Tbl.get none h.slots k

/-- HL_READ of slots that exist reads their records into the buffer, on a bench whose slots and points are as before. -/
theorem execHlRead_reads {s : State} {c : Cmd} {first count : Word} {P : Bench → Prop} (ht : (s.bench c.bench).Takes modesAny)
    (h0 : count ≠ 0) (h64 : count.toNat ≤ 64) (hend : first.toNat + count.toNat ≤ 16384)
    (hp : ∀ b₁ q, (s.bench c.bench).Carries b₁ → b₁.hl.slots = (s.bench c.bench).hl.slots →
      b₁.points = (s.bench c.bench).points →
      P { b₁.readDone c ((s.bench c.bench).hl.records first count).flatten
        (((s.bench c.bench).hl.records first count).length +
          65536 * (((s.bench c.bench).hl.records first count).filter fun r => !recordOk r).length) with qn := q }) :
    Serves (.hlRead c first count) c s P := by
  refine serves_of_accept (exec_hlRead ..) ht fun q => ?_
  have hn : ¬ (decide (count = 0) || decide (64 < count.toNat) || decide (16384 < first.toNat + count.toNat)) = true := by
    simp only [Bool.or_eq_true, decide_eq_true_eq]
    rintro ((h | h) | h)
    · exact h0 h
    · omega
    · omega
  rw [if_neg hn]
  exact hp _ q ((Bench.Carries.accepted ..).trans (.of_qc rfl)) rfl rfl

/-- Settles O41: a record that finds a slot leaves one for the next, so three follow each other; a read changes no slot. -/
theorem healthPeriodsAreRecorded : Obligations.HealthPeriodsAreRecorded := by
  intro s n t m i c first count es ed em x g y b recs closed
  refine ⟨fun hr hm => ?_, fun hr hdue hs => ?_, fun hnot => ?_, fun ht ha => ⟨fun hs => ?_, fun h0 h64 hend hl => ?_,
    fun h0 h64 hend hl => ?_, fun h64 => ?_⟩⟩
  · refine execGaugeSample_gives hr hm fun b' hpt hcnt hg => ?_
    have hgi : b'.hl.gauges[i] = g.sample i ((x.rail.up - x.hl.up) / 1000000) y := by
      rw [hg]
      simp [g, y, x]
    refine ⟨by rw [hgi]; rfl, by rw [hgi]; rfl, fun j => ?_, hpt, fun hc => ⟨?_, ?_⟩⟩
    · rw [hcnt]
      by_cases h3 : j = 23
      · subst h3; rw [upd_self, upd_other _ _ (by decide), upd_other _ _ (by decide)]; rfl
      rw [upd_other _ _ h3]
      by_cases h2 : j = 22
      · subst h2; rw [upd_self, upd_other _ _ (by decide)]; rfl
      rw [upd_other _ _ h2]
      by_cases h1 : j = 21
      · subst h1; rw [upd_self]; rfl
      rw [upd_other _ _ h1]
      simp [h1, h2, h3, incBy_zero, x]
    · rw [hgi]; exact Gauge.sample_max hc
    · rw [hgi]; exact Gauge.sample_min hc
  · refine gives_of_onBench (exec_periodEnd ..) fun q => ?_
    obtain ⟨l, f, he, hn⟩ := Bench.periodClose_renews (b := x) (cls := 0) (cause := 0) (by decide) hs
    have hd : (x.hl.running && decide (x.hl.up + fld x.hl.cfg 10 0 * 60000000000 ≤ x.rail.up)) = true := by
      rw [hr, decide_eq_true hdue]; rfl
    change closed x { (if _ then x.periodClose 0 0 else x) with qn := q }
    rw [if_pos hd, he]
    exact ⟨hn.seq, hn.drop, hn.running, hn.counts, hn.gauges, hn.sev, hn.rail, rfl, rfl⟩
  · refine gives_of_onBench (exec_periodEnd ..) fun q => ?_
    have hd : ¬ (x.hl.running && decide (x.hl.up + fld x.hl.cfg 10 0 * 60000000000 ≤ x.rail.up)) = true := by
      simp only [Bool.and_eq_true, decide_eq_true_eq]
      exact fun h => Nat.not_le.2 hnot h.2
    change (if _ then x.periodClose 0 0 else x).hl = _
    rw [if_neg hd]
  · refine serves_of_accept (exec_hlCloseNow ..) ht fun q => ?_
    obtain ⟨l, f, he, hn⟩ := Bench.periodClose_renews (b := b.accepted c) (cls := 2) (cause := 0) (by decide) hs
    dsimp only
    rw [he]
    refine ⟨?_, ?_, ?_, ?_, ?_⟩
    · rw [show l.seq = b.hl.seq + 3 from hn.seq]
      exact completed_accepted ha (b₁ := { b.accepted c with hl := l, free := f }) rfl rfl
    all_goals simp only [Bench.complete_hl, Bench.complete_points]
    exacts [hn.seq, hn.running, hn.counts, rfl]
  · refine execHlRead_reads ht h0 h64 hend fun b₁ q hb hs hpt => ?_
    obtain ⟨hok, hmem⟩ := Bench.readDone_ok (b' := { b₁.readDone c recs.flatten _ with qn := q }) ha hb hl rfl
    exact ⟨hok, hmem, (congrArg Health.slots (Bench.readDone_hl ..)).trans hs, (Bench.readDone_points ..).trans hpt⟩
  · refine execHlRead_reads ht h0 h64 hend fun b₁ q hb hs hpt => ?_
    obtain ⟨hok, hmem⟩ := Bench.readDone_partial (b' := { b₁.readDone c recs.flatten _ with qn := q }) ha hb hl rfl
    exact ⟨hok, hmem, (congrArg Health.slots (Bench.readDone_hl ..)).trans hs, (Bench.readDone_points ..).trans hpt⟩
  · refine serves_of_accept (exec_hlRead ..) ht fun q => ?_
    have hn : (decide (count = 0) || decide (64 < count.toNat) || decide (16384 < first.toNat + count.toNat)) = true := by
      simp [h64]
    rw [if_pos hn]
    exact ⟨completed_accepted ha (b₁ := b.accepted c) rfl rfl, Bench.refuse_hl ..⟩
/-! ### An update enters its reduction -/

/-- The reduction of a point after an update. -/
def Bench.reduced (b : Bench) (e : Point) (old : Reduction) (p : Nat) : Reduction :=
  let r := { old with qor := old.qor ||| fld e.quality 11 0 }
  match numOf e.format e.value with
  | some v => if badQuality e.quality then r else r.good e.format (b.profileOf p e.format) e.value v
  | none => r

theorem Bench.reduce_eq (b : Bench) (p : Nat) (e : Point) : b.reduce p e =
    { b with dg := { b.dg with red := Tbl.set {} b.dg.red p (b.reduced e (Tbl.get {} b.dg.red p) p) } } := rfl

theorem Reduction.good_qor (fmt : Nat) (prof : Int × Int) (w : Word) (v : Int) (r : Reduction) :
    (r.good fmt prof w v).qor = r.qor := by
  unfold Reduction.good
  split <;> rfl

theorem Bench.reduced_qor (b : Bench) (e : Point) (old : Reduction) (p : Nat) :
    (b.reduced e old p).qor = old.qor ||| fld e.quality 11 0 := by
  unfold Bench.reduced
  split
  · split
    · rfl
    · exact Reduction.good_qor ..
  · rfl

/-- A bad value leaves count, sum and last value. -/
theorem Bench.reduced_bad {b : Bench} {e : Point} {old : Reduction} {p : Nat} (h : badQuality e.quality = true) :
    b.reduced e old p = { old with qor := old.qor ||| fld e.quality 11 0 } := by
  unfold Bench.reduced
  split
  · rw [if_pos h]
  · rfl

/-- A good value of a format that is a signed word is counted and summed. -/
theorem Bench.reduced_good {b : Bench} {e : Point} {old : Reduction} {p : Nat} (h : badQuality e.quality = false)
    (hf : e.format = 0) : b.reduced e old p =
      Reduction.good 0 (b.profileOf p 0) e.value (s32 e.value) { old with qor := old.qor ||| fld e.quality 11 0 } := by
  unfold Bench.reduced
  rw [hf]
  exact if_neg (by rw [h]; decide)

section good
variable {prof : Int × Int} {w : Word} {r : Reduction} (h : r.count ≠ BitVec.allOnes 32)
include h

theorem Reduction.good_count : (r.good 0 prof w (s32 w)).count = r.count + 1 := by
  unfold Reduction.good
  rw [if_neg h]

theorem Reduction.good_sum : (r.good 0 prof w (s32 w)).sum = r.sum + s32 w := by
  unfold Reduction.good
  rw [if_neg h]
  rfl

theorem Reduction.good_last : (r.good 0 prof w (s32 w)).last = w := by
  unfold Reduction.good
  rw [if_neg h]

theorem Reduction.good_min (h0 : r.count ≠ 0) : s32 (r.good 0 prof w (s32 w)).min = Min.min (s32 w) (s32 r.min) := by
  unfold Reduction.good
  rw [if_neg h]
  simp only [h0, decide_false, Bool.false_or, decide_eq_true_eq, numOf, Option.getD_some]
  split <;> omega

theorem Reduction.good_max (h0 : r.count ≠ 0) : s32 (r.good 0 prof w (s32 w)).max = Max.max (s32 w) (s32 r.max) := by
  unfold Reduction.good
  rw [if_neg h]
  simp only [h0, decide_false, Bool.false_or, decide_eq_true_eq, numOf, Option.getD_some]
  split <;> omega
end good

/-- The interval that is open once an update has entered. -/
def Bench.opened (b : Bench) (x : Tap) : Option (Nat × Nat) :=
  if b.dg.open_.isNone then some (x.time, b.rs.slots[b.dgSlot].step) else b.dg.open_

/-- The oldest update enters the reduction of its point, and nothing else of the bench changes but when the first interval
opens. -/
theorem Bench.digestOne_cons {b : Bench} {x : Tap} {rest : List Tap} (h : b.dgTaps = x :: rest) : b.digestOne =
    { b with dgTaps := rest, dg := { b.dg with
      open_ := b.opened x
      red := Tbl.set {} b.dg.red x.point (b.reduced x.entry (Tbl.get {} b.dg.red x.point) x.point) } } := by
  unfold Bench.digestOne Bench.opened
  rw [h]
  dsimp only
  split <;> rfl

theorem Bench.digestOne_nil {b : Bench} (h : b.dgTaps = []) : b.digestOne = b := by
  unfold Bench.digestOne
  rw [h]

/-! ### Updates drained into an interval -/

/-- No update written before e waits. -/
def Bench.Drained (e : Nat) (b : Bench) : Prop := ∀ x rest, b.dgTaps = x :: rest → ¬ x.time < e

theorem Bench.digestDrain_drained {e : Nat} {b : Bench} (h : b.Drained e) : ∀ k, b.digestDrain e k = b
  | 0 => rfl
  | k + 1 => by
    unfold Bench.digestDrain
    split
    · next x rest hx => rw [if_neg (h x rest hx)]
    · rfl

theorem Bench.drained_digestDrain (e : Nat) : ∀ (k : Nat) (b : Bench), b.dgTaps.length ≤ k → (b.digestDrain e k).Drained e
  | 0, b, h => fun x rest hx => by
    change b.dgTaps = _ at hx
    rw [hx] at h
    exact absurd h (by simp)
  | k + 1, b, h => by
    unfold Bench.digestDrain
    split
    · next x rest hx =>
      split
      · have ho := Bench.digestOne_cons hx
        refine Bench.drained_digestDrain e k _ ?_
        rw [hx, List.length_cons] at h
        rw [ho]
        exact Nat.le_of_succ_le_succ h
      · next ht =>
        intro y rest' hy
        rw [hx] at hy
        obtain ⟨rfl, -⟩ := List.cons.inj hy
        exact ht
    · next hx => exact fun x rest hy => absurd (hx.symm.trans hy) (by simp)

theorem Bench.digestDrain_only (e : Nat) : ∀ (k : Nat) (b : Bench), ∃ l o r,
    b.digestDrain e k = { b with dgTaps := l, dg := { b.dg with open_ := o, red := r } }
  | 0, _ => ⟨_, _, _, rfl⟩
  | k + 1, b => by
    unfold Bench.digestDrain
    split
    · next x rest hx =>
      split
      · have ho := Bench.digestOne_cons hx
        obtain ⟨l, o', r, h⟩ := Bench.digestDrain_only e k b.digestOne
        rw [h, ho]
        exact ⟨_, _, _, rfl⟩
      · exact ⟨_, _, _, rfl⟩
    · exact ⟨_, _, _, rfl⟩

/-- What the queues hold has no part in it. -/
theorem Bench.digestOne_qc (b : Bench) (q : Qc) : Bench.digestOne { b with qc := q } = { b.digestOne with qc := q } := by
  by_cases h : b.dgTaps = []
  · rw [Bench.digestOne_nil h, Bench.digestOne_nil (b := { b with qc := q }) h]
  · obtain ⟨x, rest, h⟩ := List.exists_cons_of_ne_nil h
    rw [Bench.digestOne_cons h, Bench.digestOne_cons (b := { b with qc := q }) h]
    rfl

theorem Bench.digestDrain_qc (e : Nat) (q : Qc) : ∀ (k : Nat) (b : Bench),
    Bench.digestDrain e k { b with qc := q } = { b.digestDrain e k with qc := q }
  | 0, _ => rfl
  | k + 1, b => by
    unfold Bench.digestDrain
    dsimp only
    split
    · split
      · rw [Bench.digestOne_qc, Bench.digestDrain_qc e q k]
      · rfl
    · rfl

/-! ### The end of an interval -/

/-- Discarding parts changes the counts of what is lost, and sends an event. -/
theorem Bench.digestLate_only (b : Bench) : ∃ fn qc ev g l, b.digestLate =
    { b with fn := fn, qc := qc, ev := ev, dg := { b.dg with gap := g, lost := l } } := by
  unfold Bench.digestLate
  dsimp only
  split
  · exact ⟨b.fn, b.qc, b.ev, b.dg.gap, b.dg.lost, rfl⟩
  · obtain ⟨fn, qc, ev, h⟩ := Bench.raise_only ((b.unready fun x => !x.isDigest).setDigest fun d =>
      { d with lost := incBy d.lost (b.qc.ready.filter StreamReady.isDigest).length, gap := true }) 11 0 0 0 0
    rw [h]
    exact ⟨fn, qc, ev, _, _, rfl⟩

theorem Bench.Carries.digestLate (b : Bench) : b.Carries b.digestLate := by
  unfold Bench.digestLate
  dsimp only
  split
  · exact .refl
  · refine .trans ?_ (.raise ..)
    exact .of_sent (l := []) (List.append_nil _).symm rfl rfl

/-- What the close of an interval leaves. -/
structure Bench.Closed (b : Bench) (next : Option (Nat × Nat)) (b' : Bench) : Prop where
  iseq : b'.dg.iseq = b.dg.iseq + 1
  red : b'.dg.red = []
  open_ : b'.dg.open_ = next
  points : b'.points = b.points
  carries : b.Carries b'

theorem Bench.digestClose_open {b : Bench} {e : Nat} {cut cont : Bool} {next : Option (Nat × Nat)} {o : Nat × Nat}
    (hd : b.Drained e) (ho : b.dg.open_ = some o) : b.Closed next (b.digestClose e cut cont next) := by
  unfold Bench.digestClose
  rw [Bench.digestDrain_drained hd]
  dsimp only
  rw [ho]
  have hc := Bench.Carries.digestLate b
  obtain ⟨fn, qc, ev, g, l, h⟩ := b.digestLate_only
  generalize b.digestLate = y at h hc ⊢
  exact {
    iseq := by rw [h]; rfl
    red := rfl
    open_ := rfl
    points := by rw [h]; rfl
    carries := hc.trans (.of_sent (l := []) (List.append_nil _).symm rfl rfl) }

/-- The drain, and the close of the interval that is open after it. -/
theorem Bench.digestClose_drain {b : Bench} {e : Nat} {cut cont : Bool} {next : Option (Nat × Nat)} {o : Nat × Nat}
    (ho : (b.digestDrain e b.dgTaps.length).dg.open_ = some o) :
    b.Closed next ((b.digestDrain e b.dgTaps.length).digestClose e cut cont next) := by
  obtain ⟨hi, hr, hop, hp, hc⟩ :=
    Bench.digestClose_open (cut := cut) (cont := cont) (next := next) (Bench.drained_digestDrain e _ b le_rfl) ho
  obtain ⟨l, o', r, h⟩ := Bench.digestDrain_only e b.dgTaps.length b
  generalize b.digestDrain e b.dgTaps.length = y at *
  have hb : b.Carries y := .of_qc (by rw [h])
  subst h
  exact ⟨hi, hr, hop, hp, hb.trans hc⟩

/-! ### Profiles -/

/-- The table of the profiles other than 0 reads as the list of all. -/
theorem get_profiles (l : List Byte) (p : Nat) :
    Tbl.get 0 (l.zipIdx.filterMap fun x => let v := fld x.1 5 0; if v = 0 then none else some (x.2, v)) p =
      fld (l.getD p 0) 5 0 := by
  have go : ∀ (l : List Byte) (i : Nat), i ≤ p →
      Tbl.get 0 ((l.zipIdx i).filterMap fun x => let v := fld x.1 5 0; if v = 0 then none else some (x.2, v)) p =
        fld (l.getD (p - i) 0) 5 0 := by
    have after : ∀ (l : List Byte) (i : Nat), p < i →
        Tbl.get 0 ((l.zipIdx i).filterMap fun x => let v := fld x.1 5 0; if v = 0 then none else some (x.2, v)) p = 0 := by
      intro l
      induction l with
      | nil => intro i _; rfl
      | cons a l ih =>
        intro i hi
        rw [List.zipIdx_cons, List.filterMap_cons]
        dsimp only
        split
        · exact ih (i + 1) (by omega)
        · next h =>
          split at h
          · cases h
          · cases h
            rw [Tbl.get, if_neg (by omega)]
            exact ih (i + 1) (by omega)
    intro l
    induction l with
    | nil => intro i _; rfl
    | cons a l ih =>
      intro i hi
      rw [List.zipIdx_cons, List.filterMap_cons]
      dsimp only
      by_cases h : i = p
      · subst h
        rw [Nat.sub_self, List.getD_cons_zero]
        split
        · next hz =>
          split at hz
          · next hv => rw [after l _ (by omega), hv]
          · cases hz
        · next hz =>
          split at hz
          · cases hz
          · cases hz
            rw [Tbl.get, if_pos rfl]
      · rw [show p - i = (p - (i + 1)) + 1 by omega, List.getD_cons_succ]
        split
        · exact ih (i + 1) (by omega)
        · next hz =>
          split at hz
          · cases hz
          · cases hz
            rw [Tbl.get, if_neg h]
            exact ih (i + 1) (by omega)
  exact go l 0 (Nat.zero_le p)

/-- Settles O40: one update changes one reduction, the drain before the end of an interval leaves nothing older than the end,
and the close starts the reductions anew. -/
theorem digestReducesEveryUpdate : Obligations.DigestReducesEveryUpdate := by
  intro s n t e rest c profs o x now old h per d
  refine ⟨fun htap => ?_, fun htap => ?_, fun hm hb hmode hper => ⟨fun hdue ho => ?_, fun hnot => ?_⟩,
    fun ha => ⟨fun ht hl => ?_, fun ht hl => ?_, fun ht ho => ?_⟩⟩
  · refine gives_of_onBench (exec_digestUpdate ..) fun q => ?_
    have he := Bench.digestOne_cons htap
    change (fun b' : Bench => _) { x.digestOne with qn := q }
    rw [he]
    dsimp only
    rw [Tbl.get_set_self]
    refine ⟨rfl, rfl, Bench.reduced_qor .., fun p hp => Tbl.get_set_other hp, fun hbad => ?_, fun hgood hf hc => ?_⟩
    · rw [Bench.reduced_bad hbad]
      exact ⟨rfl, rfl, rfl⟩
    · rw [Bench.reduced_good hgood hf]
      exact ⟨Reduction.good_count hc, Reduction.good_sum hc, Reduction.good_last hc, fun h0 =>
        ⟨Reduction.good_min hc h0, Reduction.good_max hc h0⟩⟩
  · refine gives_of_onBench (exec_digestUpdate ..) fun q => ?_
    have he : x.digestOne = x := Bench.digestOne_nil htap
    change x.digestOne.dg = x.dg ∧ x.digestOne.points = x.points
    rw [he]
    exact ⟨rfl, rfl⟩
  · refine gives_of_onBench (exec_intervalEnd ..) fun q => ?_
    have hc := Bench.digestClose_drain (b := x) (cut := false) (cont := false) (next := some (now, 0)) ho
    have h1 : ¬ (decide (x.bn.mode ≠ .run) || !bitOf x.dg.cfg 31) = true := by simp [hm, hb]
    have h2 : ¬ (decide (per = 0) || decide (now % per ≠ 0)) = true := by simp [hper, hdue]
    dsimp only
    rw [if_neg h1, if_neg (show ¬ x.dgMode = true by simp [hmode]), if_neg h2,
      show (x.digestDrain now x.dgTaps.length).dg.open_ = some o from ho]
    exact ⟨hc.iseq, hc.red, hc.open_, hc.points⟩
  · refine gives_of_onBench (exec_intervalEnd ..) fun q => ?_
    have h1 : ¬ (decide (x.bn.mode ≠ .run) || !bitOf x.dg.cfg 31) = true := by simp [hm, hb]
    have h2 : (decide (per = 0) || decide (now % per ≠ 0)) = true := by simp [hnot]
    dsimp only
    rw [if_neg h1, if_neg (show ¬ x.dgMode = true by simp [hmode]), if_pos h2]
  · refine serves_of_accept (exec_dgSetProfiles ..) ht fun q => ?_
    rw [if_neg (by simpa using hl)]
    refine ⟨completed_accepted ha (b₁ := (h.accepted c).setDigest _) rfl rfl, Bench.complete_points ..,
      fun p => ?_⟩
    simp only [Bench.complete_dg]
    exact get_profiles profs p
  · refine serves_of_accept (exec_dgSetProfiles ..) ht fun q => ?_
    rw [if_pos (by simpa using hl)]
    exact ⟨completed_accepted ha (b₁ := h.accepted c) rfl rfl, Bench.refuse_dg ..⟩
  · refine serves_of_accept (exec_dgCloseNow ..) ht fun q => ?_
    have hq := Bench.digestDrain_qc h.acceptance (h.accepted c).qc h.dgTaps.length h
    have ho' : ((h.accepted c).digestDrain h.acceptance (h.accepted c).dgTaps.length).dg.open_ = some o := by
      rw [← ho]
      exact congrArg (fun b => b.dg.open_) hq
    have hc := Bench.digestClose_drain (cut := true) (cont := false) (next := some (h.acceptance, o.2)) ho'
    dsimp only
    rw [show (h.accepted c).acc = h.acceptance from rfl, ho']
    exact ⟨completed_of_carries ha ((Bench.Carries.accepted h c).trans hc.carries) (.of_qc rfl),
      (congrArg Digest.iseq (Bench.complete_dg ..)).trans hc.iseq, (congrArg Digest.red (Bench.complete_dg ..)).trans hc.red,
      (congrArg Digest.open_ (Bench.complete_dg ..)).trans hc.open_, (Bench.complete_points ..).trans hc.points⟩

end Sys2Proof.Machine
end

section
/-!
The state copy at a shadow
-/

namespace Sys2Proof.Machine

/-! ### What work on an axis may change -/

/-- The second bench is the first but for what work on an axis changes: axes, their parameters, the count of clipped
values, and events. -/
def Bench.AxisWork (b b' : Bench) : Prop :=
  ∃ fn qc ev conf gd mx, b' = { b with fn := fn, qc := qc, ev := ev, conf := conf, gd := gd, mx := mx }

namespace Bench.AxisWork
variable {b b' b'' : Bench}

theorem refl : b.AxisWork b := ⟨_, _, _, _, _, _, rfl⟩
theorem trans (h : b.AxisWork b') (g : b'.AxisWork b'') : b.AxisWork b'' := by
  obtain ⟨_, _, _, _, _, _, rfl⟩ := h
  obtain ⟨_, _, _, _, _, _, rfl⟩ := g
  exact ⟨_, _, _, _, _, _, rfl⟩
theorem foldl {α : Type} {f : Bench → α → Bench} (h : ∀ b a, Bench.AxisWork b (f b a)) :
    ∀ (l : List α) (b : Bench), b.AxisWork (l.foldl f b)
  | [], _ => refl
  | a :: l, b => (h b a).trans (foldl h l (f b a))

theorem setAxis (b : Bench) (a : Nat) (x : Axis) : b.AxisWork (b.setAxis a x) := ⟨_, _, _, _, _, _, rfl⟩
theorem setCfg (b : Bench) (o : Nat) (v : Word) : b.AxisWork (b.setCfg o v) := ⟨_, _, _, _, _, _, rfl⟩
theorem guardClip (b : Bench) : b.AxisWork b.guardClip := ⟨_, _, _, _, _, _, rfl⟩
theorem axisEvent (b : Bench) (a i : Nat) : b.AxisWork (b.axisEvent a i) := by
  obtain ⟨fn, qc, ev, h⟩ := b.raise_only 6 i (BitVec.ofNat 32 a) 0 0
  exact ⟨fn, qc, ev, _, _, _, h⟩
theorem axisLimited (b : Bench) (a : Nat) (on : Bool) : b.AxisWork (b.axisLimited a on) := by
  unfold Bench.axisLimited
  dsimp only
  split
  · exact ((setAxis ..).trans (guardClip _)).trans (axisEvent ..)
  · exact refl
theorem axisDce (b : Bench) (a : Nat) (d : AxisDce) : b.AxisWork (b.axisDce a d) := by
  unfold Bench.axisDce
  dsimp only
  split
  · exact ((setAxis ..).trans (axisLimited ..)).trans (axisEvent ..)
  · exact (setAxis ..).trans (axisLimited ..)
theorem axisChange (b : Bench) (a : Nat) (c : AxisChange) : b.AxisWork (b.axisChange a c) := by
  unfold Bench.axisChange
  dsimp only
  split
  · exact setCfg ..
  · exact setCfg ..
  · exact (setCfg ..).trans (axisDce ..)
  · exact setAxis ..
  · exact setAxis ..
  · exact (setAxis ..).trans (axisDce ..)
  · exact (setAxis ..).trans (axisDce ..)
theorem axisTake (b : Bench) (a t : Nat) : b.AxisWork (b.axisTake a t) := by
  unfold Bench.axisTake
  exact (setAxis ..).trans (foldl (fun b c => axisChange b a c) _ _)
theorem axisCompute (b : Bench) (a t : Nat) : b.AxisWork (b.axisCompute a t) := by
  unfold Bench.axisCompute
  split
  · exact refl
  · exact ((axisTake ..).trans (setAxis ..)).trans (axisLimited ..)
theorem putAxis (b : Bench) (a c : Nat) (l : List Word) : b.AxisWork (b.putAxis a c l) := by
  unfold Bench.putAxis
  extract_lets w st state phase homing target pos neg past b₁ x e x' k
  have h₁ : b.AxisWork b₁ := ((setCfg ..).trans (setCfg ..)).trans (setCfg ..)
  clear_value b₁ x e x' k
  split
  · exact (h₁.trans (setAxis ..)).trans (axisCompute ..)
  · exact h₁.trans (setAxis ..)

end Bench.AxisWork

/-! ### An engine part at a shadow -/

section copied
variable (b : Bench)

/-- One copied point: its value, and as an output its preload. -/
def Bench.takePoint (i : Nat × List Word) : Bench :=
  let e := pointOf i.2
  let b := b.setPoint i.1 { e with flags := putBit e.flags 9 false }
  if e.output then b.preload i.1 e else b

/-- One copied loop. -/
def Bench.takeLoop (i : Nat × List Word) : Bench :=
  let l := b.loop i.1
  b.setLoop i.1 { l with st := loopOf i.2 l.st, upd := none }

/-- One copied recipe, unless a notice was later. -/
def Bench.takeRecipe (time : Nat) (b : Bench) (i : Nat × List Word) : Bench :=
  let n : Fin 16 := mkIx 15 i.1
  if time < b.nl.recAt[n] then b else b.putRecipe n i.2

/-- The copied points, and what then is copied of loops, axes, recipes and stations. -/
def Bench.takeRest (p : EnginePart) : Bench :=
  p.stations.foldl (fun b i => b.putStation i.1 i.2)
    (p.recipes.foldl (Bench.takeRecipe p.time)
      (p.axes.foldl (fun b i => b.putAxis i.1 p.time i.2) (p.loops.foldl Bench.takeLoop b)))

theorem Bench.commitPart_eq (p : EnginePart) : b.commitPart p =
    ((p.points.foldl Bench.takePoint b).takeRest p).setNl fun x => { x with seq := BitVec.ofNat 32 p.seq, copyAt := p.time } :=
  rfl

theorem Bench.putRecipe_only (n : Fin 16) (l : List Word) : ∃ r, b.putRecipe n l = b.setRecipe n r := by
  unfold Bench.putRecipe
  dsimp only
  split
  · exact ⟨_, rfl⟩
  · split
    · exact ⟨_, rfl⟩
    · exact ⟨_, rfl⟩

/-- What a copied part leaves as it was. -/
structure Bench.SameStore (b b' : Bench) : Prop where
  inst : b'.inst = b.inst
  bn : b'.bn = b.bn
  rail : b'.rail = b.rail

theorem Bench.SameStore.trans {b b' b'' : Bench} (h : b.SameStore b') (g : b'.SameStore b'') : b.SameStore b'' :=
  ⟨g.inst.trans h.inst, g.bn.trans h.bn, g.rail.trans h.rail⟩

theorem Bench.takeRest_keeps (p : EnginePart) : b.SameStore (b.takeRest p) ∧ (b.takeRest p).points = b.points ∧
    (b.takeRest p).nl = b.nl := by
  have fold {α : Type} {f : Bench → α → Bench}
      (h : ∀ b a, Bench.SameStore b (f b a) ∧ (f b a).points = b.points ∧ (f b a).nl = b.nl) (l : List α) (b : Bench) :
      b.SameStore (l.foldl f b) ∧ (l.foldl f b).points = b.points ∧ (l.foldl f b).nl = b.nl :=
    ⟨⟨foldl_keeps (fun b a => (h b a).1.inst) l b, foldl_keeps (fun b a => (h b a).1.bn) l b,
      foldl_keeps (fun b a => (h b a).1.rail) l b⟩, foldl_keeps (fun b a => (h b a).2.1) l b,
      foldl_keeps (fun b a => (h b a).2.2) l b⟩
  have loops := fold (f := Bench.takeLoop) (fun _ _ => ⟨⟨rfl, rfl, rfl⟩, rfl, rfl⟩) p.loops b
  have axes := fold (f := fun b i => b.putAxis i.1 p.time i.2) (fun b i => by
    obtain ⟨_, _, _, _, _, _, h⟩ := Bench.AxisWork.putAxis b i.1 p.time i.2
    rw [h]
    exact ⟨⟨rfl, rfl, rfl⟩, rfl, rfl⟩) p.axes (p.loops.foldl Bench.takeLoop b)
  have recipes := fold (f := Bench.takeRecipe p.time) (fun b i => by
    unfold Bench.takeRecipe
    dsimp only
    split
    · exact ⟨⟨rfl, rfl, rfl⟩, rfl, rfl⟩
    · obtain ⟨r, h⟩ := b.putRecipe_only (mkIx 15 i.1) i.2
      rw [h]
      exact ⟨⟨rfl, rfl, rfl⟩, rfl, rfl⟩) p.recipes
  have stations := fold (f := fun b i => Bench.putStation i.1 i.2 b) (fun _ _ => ⟨⟨rfl, rfl, rfl⟩, rfl, rfl⟩) p.stations
  unfold Bench.takeRest
  generalize p.axes.foldl _ _ = b₂ at axes ⊢
  have hr := recipes b₂
  generalize p.recipes.foldl _ _ = b₃ at hr ⊢
  have hs := stations b₃
  exact ⟨((loops.1.trans axes.1).trans hr.1).trans hs.1, ((hs.2.1.trans hr.2.1).trans axes.2.1).trans loops.2.1,
    ((hs.2.2.trans hr.2.2).trans axes.2.2).trans loops.2.2⟩

theorem Bench.takePoint_only (i : Nat × List Word) : ∃ w, b.takePoint i =
    { b with points := Tbl.set {} b.points i.1 { pointOf i.2 with flags := putBit (pointOf i.2).flags 9 false },
             nl := { b.nl with preload := w } } := by
  unfold Bench.takePoint
  dsimp only
  split
  · exact ⟨_, rfl⟩
  · exact ⟨_, rfl⟩

theorem Bench.takePoints_keeps : ∀ (l : List (Nat × List Word)) (b : Bench), b.SameStore (l.foldl Bench.takePoint b) ∧
    ∃ w, (l.foldl Bench.takePoint b).nl = { b.nl with preload := w }
  | [], _ => ⟨⟨rfl, rfl, rfl⟩, _, rfl⟩
  | i :: l, b => by
    obtain ⟨w, h⟩ := b.takePoint_only i
    obtain ⟨hs, w', hn⟩ := Bench.takePoints_keeps l (b.takePoint i)
    refine ⟨.trans (by rw [h]; exact ⟨rfl, rfl, rfl⟩) hs, w', hn.trans ?_⟩
    rw [h]

/-- A point that is not copied stays. -/
theorem Bench.takePoints_other {q : Nat} : ∀ {l : List (Nat × List Word)} {b : Bench}, q ∉ l.map (·.1) →
    (l.foldl Bench.takePoint b).point q = b.point q
  | [], _, _ => rfl
  | i :: l, b, h => by
    rw [List.map_cons, List.mem_cons, not_or] at h
    obtain ⟨w, hw⟩ := b.takePoint_only i
    rw [List.foldl_cons, Bench.takePoints_other h.2, hw]
    exact Tbl.get_set_other h.1

/-- A point copied once takes the value and the stamp of its words. -/
theorem Bench.takePoints_copied {q : Nat} {w : List Word} {l : List (Nat × List Word)} (hd : (l.map (·.1)).Nodup)
    (h : (q, w) ∈ l) :
    (l.foldl Bench.takePoint b).point q = { pointOf w with flags := putBit (pointOf w).flags 9 false } := by
  induction l generalizing b with
  | nil => cases h
  | cons i l ih =>
    rw [List.map_cons, List.nodup_cons] at hd
    rw [List.foldl_cons]
    rcases List.mem_cons.1 h with rfl | h
    · obtain ⟨p, hp⟩ := b.takePoint_only (q, w)
      rw [Bench.takePoints_other hd.1, hp]
      exact Tbl.get_set_self
    · exact ih _ hd.2 h

/-- What an engine part leaves: the points it copies and its own number and time. -/
theorem Bench.commitPart_keeps (p : EnginePart) : b.SameStore (b.commitPart p) ∧
    (b.commitPart p).points = (p.points.foldl Bench.takePoint b).points ∧
    ∃ w, (b.commitPart p).nl = { b.nl with preload := w, seq := BitVec.ofNat 32 p.seq, copyAt := p.time } := by
  obtain ⟨hs, w, hn⟩ := Bench.takePoints_keeps p.points b
  obtain ⟨hs', hp', hn'⟩ := (p.points.foldl Bench.takePoint b).takeRest_keeps p
  rw [Bench.commitPart_eq]
  generalize p.points.foldl Bench.takePoint b = b₁ at *
  generalize b₁.takeRest p = b₂ at *
  exact ⟨(hs.trans hs').trans ⟨rfl, rfl, rfl⟩, hp', w, by rw [Bench.setNl_nl, hn', hn]⟩

end copied

theorem Bench.handoverAck_keeps (b : Bench) : b.SameStore b.handoverAck ∧ b.handoverAck.points = b.points ∧
    b.handoverAck.nl.seq = b.nl.seq ∧ b.handoverAck.nl.copyAt = b.nl.copyAt := by
  unfold Bench.handoverAck
  split
  · split
    · exact ⟨⟨rfl, rfl, rfl⟩, rfl, rfl, rfl⟩
    · exact ⟨⟨rfl, rfl, rfl⟩, rfl, rfl, rfl⟩
  · exact ⟨⟨rfl, rfl, rfl⟩, rfl, rfl, rfl⟩

/-- The acknowledgement of a hand-over announced, in time. -/
theorem Bench.handoverAck_sent {b : Bench} {m : Nat} (h : b.nl.hoX = some (m, false)) (hm : b.rail.now + 1000 ≤ m) :
    b.handoverAck.nl.hoX = some (m, true) ∧ .notice .ack ∈ b.handoverAck.nl.sent := by
  unfold Bench.handoverAck
  rw [h]
  dsimp only
  rw [if_pos hm]
  exact ⟨rfl, List.mem_append_right _ List.mem_cons_self⟩

theorem pointOf_value (l : List Word) : (pointOf l).value = l.getD 0 0 := rfl
theorem pointOf_stamp (l : List Word) : (pointOf l).stamp = cat64 (l.getD 2 0) (l.getD 3 0) := rfl

/-- What an engine part leaves, and the acknowledgement of a hand-over with it. -/
theorem Bench.handoverPart_gives (b : Bench) {p : EnginePart} (hd : (p.points.map (·.1)).Nodup) :
    let y := (b.commitPart p).handoverAck
    y.nl.seq = BitVec.ofNat 32 p.seq ∧ y.nl.copyAt = p.time ∧ y.inst = b.inst ∧ y.bn = b.bn ∧
    (∀ q l, (q, l) ∈ p.points → (y.point q).value = l.getD 0 0 ∧ (y.point q).stamp = cat64 (l.getD 2 0) (l.getD 3 0)) ∧
    (∀ q, q ∉ p.points.map (·.1) → y.point q = b.point q) ∧
    (∀ m, b.nl.hoX = some (m, false) → b.rail.now + 1000 ≤ m → y.nl.hoX = some (m, true) ∧ .notice .ack ∈ y.nl.sent) := by
  obtain ⟨hs, hpt, pre, hnl⟩ := b.commitPart_keeps p
  generalize b.commitPart p = x at hs hpt hnl ⊢
  obtain ⟨gs, gpt, gq, gc⟩ := x.handoverAck_keeps
  have point (q : Nat) : x.handoverAck.point q = (p.points.foldl Bench.takePoint b).point q := by
    unfold Bench.point
    rw [gpt, hpt]
  refine ⟨gq.trans (by rw [hnl]), gc.trans (by rw [hnl]), gs.inst.trans hs.inst, gs.bn.trans hs.bn, fun q l hmem => ?_,
    fun q hmem => (point q).trans (Bench.takePoints_other hmem), fun m hx hn => ?_⟩
  · have he := (point q).trans (Bench.takePoints_copied b hd hmem)
    rw [he]
    exact ⟨pointOf_value l, pointOf_stamp l⟩
  · exact Bench.handoverAck_sent (by rw [hnl]; exact hx) (by rw [hs.rail]; exact hn)

/-! ### A task set at a shadow -/

theorem Tbl.get_filter {α : Type} {d : α} {f : Nat → Bool} {k : Nat} (hk : f k = true) :
    ∀ t : Tbl α, Tbl.get d (t.filter fun e => f e.1) k = Tbl.get d t k
  | [] => rfl
  | (i, v) :: r => by
    rw [List.filter_cons]
    dsimp only
    split
    · rw [Tbl.get, Tbl.get, Tbl.get_filter hk r]
    · next h => rw [Tbl.get_filter hk r, Tbl.get, if_neg (by rintro rfl; exact h hk)]

/-- A page changes no byte of another. -/
theorem putPage_other {m : Tbl Byte} {p : Nat × List (Nat × Byte)} {a : Nat} (h : a / 4096 ≠ p.1) :
    Tbl.get 0 (putPage m p) a = Tbl.get 0 m a := by
  have fold : ∀ (l : List (Nat × Byte)) (m : Tbl Byte),
      Tbl.get 0 (l.foldl (fun m e => Tbl.set 0 m (4096 * p.1 + e.1 % 4096) e.2) m) a = Tbl.get 0 m a :=
    fun l m => foldl_keeps (g := fun m => Tbl.get 0 m a) (fun m e => Tbl.get_set_other (by omega)) l m
  unfold putPage
  rw [fold]
  exact Tbl.get_filter (f := fun i => decide (i / 4096 ≠ p.1)) (decide_eq_true h) m

theorem Bench.commitSet_keeps (b : Bench) (d : TaskSet) : (b.commitSet d).points = b.points ∧ (b.commitSet d).bn = b.bn ∧
    ∀ a, a / 4096 ∉ d.pages.map (·.1) → (b.commitSet d).byte a = b.byte a := by
  have pages : ∀ (l : List (Nat × List (Nat × Byte))) (m : Tbl Byte) (a : Nat), a / 4096 ∉ l.map (·.1) →
      Tbl.get 0 (l.foldl putPage m) a = Tbl.get 0 m a := by
    intro l
    induction l with
    | nil => exact fun m a _ => rfl
    | cons p l ih =>
      intro m a ha
      rw [List.map_cons, List.mem_cons, not_or] at ha
      rw [List.foldl_cons, ih _ a ha.2, putPage_other ha.1]
  unfold Bench.commitSet
  dsimp only
  split
  · exact ⟨rfl, rfl, pages d.pages b.inst⟩
  · split
    · exact ⟨rfl, rfl, pages d.pages b.inst⟩
    · exact ⟨rfl, rfl, pages d.pages b.inst⟩

/-! ### A force entry at a shadow -/

theorem Force.settle_order (p t : Nat) (f : Force) :
    (f.settle p t).en = f.en ∧ (f.settle p t).point = f.point ∧ (f.settle p t).value = f.value := by
  unfold Force.settle
  dsimp only
  split
  · exact ⟨rfl, rfl, rfl⟩
  · split
    · split <;> exact ⟨rfl, rfl, rfl⟩
    · split <;> exact ⟨rfl, rfl, rfl⟩

/-- Every force entry names the same point with the same value, and is enabled as before; modes and points stay. -/
structure Bench.SameOrders (b b' : Bench) : Prop where
  orders : ∀ i, (b'.forceEntry i).en = (b.forceEntry i).en ∧ (b'.forceEntry i).point = (b.forceEntry i).point ∧
    (b'.forceEntry i).value = (b.forceEntry i).value
  bn : b'.bn = b.bn
  points : b'.points = b.points

namespace Bench.SameOrders
variable {b b' b'' : Bench}

theorem of_pe (h : b'.pe = b.pe) (hb : b'.bn = b.bn) (hp : b'.points = b.points) : b.SameOrders b' where
  orders i := by
    unfold Bench.forceEntry
    rw [h]
    exact ⟨rfl, rfl, rfl⟩
  bn := hb
  points := hp

theorem trans (h : b.SameOrders b') (g : b'.SameOrders b'') : b.SameOrders b'' where
  orders i := by
    obtain ⟨he, hp, hv⟩ := h.orders i
    obtain ⟨ge, gp, gv⟩ := g.orders i
    exact ⟨ge.trans he, gp.trans hp, gv.trans hv⟩
  bn := g.bn.trans h.bn
  points := g.points.trans h.points

theorem foldl {α : Type} {f : Bench → α → Bench} (h : ∀ b a, Bench.SameOrders b (f b a)) :
    ∀ (l : List α) (b : Bench), b.SameOrders (l.foldl f b)
  | [], _ => of_pe rfl rfl rfl
  | a :: l, b => (h b a).trans (foldl h l (f b a))

/-- A change of all entries that leaves what each orders. -/
theorem mapAll {f : Nat → Force → Force} (h0 : ∀ i, f i {} = {})
    (h : ∀ i x, (f i x).en = x.en ∧ (f i x).point = x.point ∧ (f i x).value = x.value) :
    b.SameOrders { b with pe := { b.pe with forces := Tbl.mapAll {} f b.pe.forces } } where
  orders i := by
    unfold Bench.forceEntry
    dsimp only
    rw [Tbl.get_mapAll (h0 i)]
    exact h i _
  bn := rfl
  points := rfl

theorem settleForces (b : Bench) (p t : Nat) : b.SameOrders (b.settleForces p t) :=
  mapAll (fun _ => by unfold Force.settle; dsimp only; split <;> rfl) fun _ f => Force.settle_order p t f

theorem arbitrate (b : Bench) (p : Nat) : b.SameOrders (b.arbitrate p) := by
  unfold Bench.arbitrate
  split
  · exact of_pe rfl rfl rfl
  · exact mapAll (fun i => if_neg (by simp)) fun i f => by split <;> exact ⟨rfl, rfl, rfl⟩

/-- A commit in SHADOW, but for the entry itself. -/
theorem commitForce {b₁ : Bench} (hm : b₁.bn.mode = .shadow) (i p q : Nat) (n : Notice) (gone : List (Nat × Word)) :
    let b₂ := (b₁.arbitrate q).arbitrate p
    let b₃ := if b₂.bn.mode = .run then b₂ else
      ((gone.foldl (fun b e => b.settleForces e.1 b.rail.now) b₂).settleForces q b₂.rail.now).settleForces p b₂.rail.now
    let b₄ := b₃.notify n
    b₁.SameOrders (Bench.errorCause 8 (BitVec.ofNat 32 i)
      (if 1 < b₄.naming p || 1 < b₄.naming q then b₄.raise 4 3 0 (BitVec.ofNat 32 i) 0 else b₄)) := by
  intro b₂ b₃ b₄
  have h₂ : b₁.SameOrders b₂ := (arbitrate ..).trans (arbitrate ..)
  have h₃ : b₂.SameOrders b₃ := by
    unfold b₃
    split
    · exact of_pe rfl rfl rfl
    · exact ((foldl (fun b e => settleForces b e.1 b.rail.now) gone b₂).trans (settleForces ..)).trans (settleForces ..)
  have h₄ : b₃.SameOrders b₄ := of_pe (b₃.notify_pe n) (b₃.notify_bn n) (b₃.notify_points n)
  have h := (h₂.trans h₃).trans h₄
  clear_value b₄
  have h₅ : b₁.SameOrders
      (if 1 < b₄.naming p || 1 < b₄.naming q then b₄.raise 4 3 0 (BitVec.ofNat 32 i) 0 else b₄) := by
    split
    · exact h.trans (of_pe (Bench.raise_pe ..) (Bench.raise_bn ..) (Bench.raise_points ..))
    · exact h
  generalize (if 1 < b₄.naming p || 1 < b₄.naming q then b₄.raise 4 3 0 (BitVec.ofNat 32 i) 0 else b₄) = b₅ at h₅ ⊢
  unfold Bench.errorCause
  rw [if_pos (by rw [h₅.bn, hm]; decide)]
  exact h₅

end Bench.SameOrders

/-- The entry that a commit in SHADOW leaves, and the points as they were. -/
theorem Bench.commitForce_shadow {b : Bench} (hm : b.bn.mode = .shadow) (i : Nat) (en : Bool) (p : Nat) (v : Word) :
    ((b.commitForce i en p v).forceEntry i).en = en ∧ ((b.commitForce i en p v).forceEntry i).point = p ∧
      ((b.commitForce i en p v).forceEntry i).value = v ∧ (b.commitForce i en p v).points = b.points := by
  unfold Bench.commitForce
  extract_lets old bad
  dsimp only
  generalize h₁ : (if bad then _ else _) = b₁
  have e₁ : ((b₁.forceEntry i).en = en ∧ (b₁.forceEntry i).point = p ∧ (b₁.forceEntry i).value = v) ∧
      b₁.bn = b.bn ∧ b₁.points = b.points := by
    rw [← h₁]
    split <;>
    · unfold Bench.forceEntry Bench.setForce
      dsimp only
      rw [Tbl.get_set_self]
      exact ⟨⟨rfl, rfl, rfl⟩, rfl, rfl⟩
  clear h₁
  obtain ⟨⟨he, hp, hv⟩, hb, hpt⟩ := e₁
  have rest : ∀ b', b₁.SameOrders b' → (b'.forceEntry i).en = en ∧ (b'.forceEntry i).point = p ∧
      (b'.forceEntry i).value = v ∧ b'.points = b.points := fun b' h => by
    obtain ⟨ge, gp, gv⟩ := h.orders i
    exact ⟨ge.trans he, gp.trans hp, gv.trans hv, h.points.trans hpt⟩
  exact rest _ (Bench.SameOrders.commitForce (hb ▸ hm) i p old.point _ _)

/-! ### Blocks, full copies and requests -/

theorem Bench.laneError_only (b : Bench) : ∃ h, b.laneError =
    { b with nl := { b.nl with cnt := upd b.nl.cnt 2 inc }, hl := h } := by
  obtain ⟨h, hh⟩ := (b.setNl fun x => { x with cnt := upd x.cnt 2 inc }).health_only 19
  exact ⟨h, hh⟩

/-- A shadow becomes STALE, or was: its lane is as before but for the copy. -/
theorem Bench.becomeStale_only {b : Bench} (hm : b.bn.mode = .shadow) : ∃ fn qc ev f r, b.becomeStale =
    { b with fn := fn, qc := qc, ev := ev, nl := { b.nl with stale := true, full := f, resync := r } } := by
  unfold Bench.becomeStale
  cases hs : b.nl.stale with
  | true =>
    rw [if_pos (by simp)]
    refine ⟨b.fn, b.qc, b.ev, b.nl.full, b.nl.resync, ?_⟩
    rw [← hs]
  | false =>
    rw [if_neg (by simp [hm])]
    obtain ⟨fn, qc, ev, h⟩ := (b.setNl fun x => { x with stale := true, full := false, resync := false }).raise_only 16 3 0 0 0
    rw [h]
    exact ⟨fn, qc, ev, false, false, rfl⟩

theorem Bench.askFull_points (b : Bench) : b.askFull.points = b.points := by
  unfold Bench.askFull
  split <;> rfl

theorem Bench.askFull_nl (b : Bench) : b.askFull.nl.retry = b.nl.retry ∧ b.askFull.nl.stale = b.nl.stale ∧
    b.askFull.nl.cnt = b.nl.cnt := by
  unfold Bench.askFull
  split <;> exact ⟨rfl, rfl, rfl⟩

theorem Bench.askFull_asks {b : Bench} (hp : b.partnerRun = true) (hl : b.nl.laneUp = true) (hs : b.nl.stale = true)
    (hr : b.nl.resync = false) : b.askFull.nl.resync = true ∧ b.askFull.nl.sent = b.nl.sent ++ [.fullRequest] := by
  unfold Bench.askFull
  rw [if_pos (by simp [hp, hl, hs, hr])]
  exact ⟨rfl, rfl⟩

/-- A full copy commits: the shadow is current, and says so. -/
theorem Bench.commitFull_keeps (b : Bench) (f : FullCopy) : (b.commitFull f).nl.full = true ∧
    (b.commitFull f).nl.stale = false ∧ (b.commitFull f).nl.resync = false ∧
    bitOf ((b.commitFull f).ev[(16 : Fin 18)]) 4 = true ∧ (b.commitFull f).bn = b.bn := by
  unfold Bench.commitFull
  extract_lets b₁ pe b₂ b₃
  have h₁ : b₁.bn = b.bn := (b.commitPart_keeps f.part).1.bn
  have h₃ : b₃.bn = b₂.bn := foldl_keeps (g := Bench.bn) (fun b e => Bench.commitForce_bn ..) f.forces b₂
  have h₂ : b₂.bn = b₁.bn := rfl
  clear_value b₃
  refine ⟨?_, ?_, ?_, Bench.raise_bit _ 16 (by decide) .., ?_⟩
  · rw [Bench.raise_nl]; rfl
  · rw [Bench.raise_nl]; rfl
  · rw [Bench.raise_nl]; rfl
  · rw [Bench.raise_bn]
    exact (h₃.trans h₂).trans h₁

/-- A second block in error: the shadow is STALE, and asks anew where its partner runs. -/
theorem Bench.secondError {b : Bench} (hm : b.bn.mode = .shadow) :
    let b' := ((b.becomeStale).setNl fun x => { x with full := false, resync := false }).askFull
    b'.nl.retry = b.nl.retry ∧ b'.nl.stale = true ∧ b'.nl.cnt = b.nl.cnt ∧ b'.points = b.points ∧
      (b.partnerRun = true → b.nl.laneUp = true → b'.nl.resync = true ∧ b'.nl.sent = b.nl.sent ++ [.fullRequest]) := by
  obtain ⟨fn, qc, ev, f, r, h⟩ := Bench.becomeStale_only hm
  rw [h]
  generalize hy : Bench.setNl _ _ = y
  have hn : y.nl = { b.nl with stale := true, full := false, resync := false } := by rw [← hy]; rfl
  have hp : y.points = b.points := by rw [← hy]; rfl
  obtain ⟨h1, h2, h3⟩ := y.askFull_nl
  refine ⟨h1.trans (by rw [hn]), h2.trans (by rw [hn]), h3.trans (by rw [hn]), y.askFull_points.trans hp, fun hr hl => ?_⟩
  have hr' : y.partnerRun = true := by
    rw [← hr]
    unfold Bench.partnerRun
    rw [hn]
  obtain ⟨h4, h5⟩ := Bench.askFull_asks hr' (by rw [hn]; exact hl) (by rw [hn]) (by rw [hn])
  exact ⟨h4, h5.trans (by rw [hn])⟩

/-! What becomes of a Quoin session changes no point, no byte and no force entry. -/

theorem Bench.point_qn (b : Bench) (q : Quoin) (p : Nat) : Bench.point { b with qn := q } p = b.point p := rfl
theorem Bench.byte_qn (b : Bench) (q : Quoin) (a : Nat) : Bench.byte { b with qn := q } a = b.byte a := rfl
theorem Bench.forceEntry_qn (b : Bench) (q : Quoin) (i : Nat) : Bench.forceEntry { b with qn := q } i = b.forceEntry i := rfl

/-- Settles O44: parts, sets and full copies through what each leaves, and notices one by one. -/
theorem stateCopyReachesTheShadow : Obligations.StateCopyReachesTheShadow := by
  intro s n t m p d f item q l h c slot at' i w v words x now b shadow
  refine ⟨fun hm => ?commit, fun hm hd => ?part, fun hm hg => ?set, fun hm => ?good, fun hm hr => ?first, fun hm hr => ?second,
    ?other, fun hm => ?full, fun hp hl hm => ?request, fun ht ha => ⟨fun hr => ?resync, fun hr => ?busy⟩, fun hm => ?handover,
    fun hm => ?recipe, fun hm => ?force, fun hh hx hn => ?ack⟩
  case commit =>
    refine gives_of_onBench (exec_copyCommit ..) fun z => ?_
    dsimp only
    rw [if_pos (show x.bn.mode ≠ .shadow from hm)]
    exact ⟨rfl, rfl, rfl⟩
  case part =>
    refine gives_of_onBench (exec_copyCommit ..) fun z => ?_
    dsimp only
    rw [if_neg (show ¬ x.bn.mode ≠ .shadow from fun hn => hn hm)]
    simp only [Bench.point_qn]
    obtain ⟨h1, h2, h3, h4, h5, h6, h7⟩ := x.handoverPart_gives (p := p) hd
    exact ⟨h1, h2, h3, h4, h5 q l, h6 q, h7 m⟩
  case set =>
    refine gives_of_onBench (exec_copyCommit ..) fun z => ?_
    dsimp only
    rw [if_neg (show ¬ x.bn.mode ≠ .shadow from fun hn => hn hm), show x.nl.migr = none from hg]
    simp only [Bench.byte_qn]
    exact x.commitSet_keeps d
  case good =>
    refine gives_of_onBench (exec_copyBlock ..) fun z => ?_
    dsimp only
    rw [if_pos (show x.bn.mode = .shadow from hm)]
    exact ⟨rfl, rfl⟩
  case first =>
    refine gives_of_onBench (exec_copyBlock ..) fun z => ?_
    obtain ⟨k, hk⟩ := x.laneError_only
    dsimp only
    rw [show (Bench.tick t (s.bench n)).laneError = _ from hk, show (Bench.tick t (s.bench n)).nl.retry = false from hr,
      if_neg (show ¬ x.bn.mode ≠ .shadow from fun hn => hn hm)]
    exact ⟨rfl, rfl, upd_self .., rfl⟩
  case second =>
    refine gives_of_onBench (exec_copyBlock ..) fun z => ?_
    obtain ⟨k, hk⟩ := x.laneError_only
    dsimp only
    rw [show (Bench.tick t (s.bench n)).laneError = _ from hk, show (Bench.tick t (s.bench n)).nl.retry = true from hr,
      if_neg (show ¬ x.bn.mode ≠ .shadow from fun hn => hn hm)]
    have h2 := Bench.secondError (b := { x with nl := { x.nl with cnt := upd x.nl.cnt 2 inc, retry := false }, hl := k }) hm
    obtain ⟨h1, h2, h3, h4, h5⟩ := h2
    exact ⟨h1, h2, (congrArg (fun y : Vector Word 5 => y[(2 : Fin 5)]) h3).trans (upd_self ..), h4, h5⟩
  case other =>
    refine gives_of_onBench (exec_copyBlock ..) fun z => ?_
    obtain ⟨k, hk⟩ := x.laneError_only
    dsimp only
    rw [show (Bench.tick t (s.bench n)).laneError = _ from hk]
    exact ⟨rfl, rfl⟩
  case full =>
    refine gives_of_onBench (exec_fullCopyCommit ..) fun z => ?_
    dsimp only
    rw [if_pos (show x.bn.mode = .shadow from hm)]
    exact x.commitFull_keeps f
  case request =>
    refine gives_of_onBench (exec_fullCopyRequest ..) fun z => ?_
    dsimp only
    rw [if_neg (show ¬ (!(x.paired && x.nl.laneUp && x.bn.mode = .run)) = true by simp [hp, hl, hm])]
    exact ⟨rfl, rfl, _, rfl⟩
  case resync =>
    refine serves_of_accept (exec_redunResync ..) ht fun z => ?_
    rw [if_neg (show ¬ (b.accepted c).nl.resync = true from fun h => by cases hr.symm.trans h)]
    refine ⟨completed_accepted ha (b₁ := (b.accepted c).setNl _) rfl rfl, ?_, ?_, ?_⟩
    · simp only [Bench.complete_nl]; rfl
    · simp only [Bench.complete_nl]; rfl
    · exact Bench.complete_points ..
  case busy =>
    refine serves_of_accept (exec_redunResync ..) ht fun z => ?_
    rw [if_pos (show (b.accepted c).nl.resync = true from hr)]
    exact ⟨completed_accepted ha (b₁ := b.accepted c) rfl rfl, Bench.refuse_nl ..⟩
  case handover =>
    refine gives_of_onBench (exec_notice ..) fun z => ?_
    have he : x.notice (.handover m) = x.setNl fun y => { y with hoX := some (m, false) } := if_neg (fun hn => hn hm)
    dsimp only
    rw [he]
    exact ⟨rfl, rfl⟩
  case recipe =>
    refine gives_of_onBench (exec_notice ..) fun z => ?_
    obtain ⟨r, hr⟩ := x.putRecipe_only slot words
    have he : x.notice (.recipe slot at' words) = (x.putRecipe slot words).setNl fun y => { y with recAt := y.recAt.set slot at' } :=
      if_neg (fun hn => hn hm)
    dsimp only
    rw [he, hr]
    refine ⟨?_, rfl, fun k hk => ?_⟩
    · exact Vector.getElem_set_self ..
    · exact Vector.getElem_set_ne slot.isLt k.isLt fun hv => hk (Fin.ext hv.symm)
  case force =>
    refine gives_of_onBench (exec_notice ..) fun z => ?_
    have he : x.notice (.force i w v) = x.commitForce i.val (bitOf w 31) (fld w 13 0) v := if_neg (fun hn => hn hm)
    dsimp only
    rw [he]
    simp only [Bench.forceEntry_qn]
    exact Bench.commitForce_shadow hm ..
  case ack =>
    refine gives_of_onBench (exec_notice ..) fun z => ?_
    have he : x.notice .ack = x.setNl fun y => { y with ho := some { h with acked := true } } := by
      unfold Bench.notice Bench.ackSeen
      rw [hh]
      dsimp only
      rw [hx]
      exact if_pos hn
    dsimp only
    rw [he]
    exact ⟨rfl, rfl⟩

end Sys2Proof.Machine
end

section
/-!
Kerf
-/

namespace Sys2Proof.Machine

/-! ### What an item or a packet that is posted changes -/

theorem Bench.fifoPush_only (b : Bench) (n : Fin 32) (w : Word) (e : Bool) : ∃ fq r, b.fifoPush n w e =
    { b with fq := fq, qc := { b.qc with ready := r } } := by
  unfold Bench.fifoPush
  dsimp only
  split <;> exact ⟨_, _, rfl⟩

theorem Bench.fifoPushAll_only (n : Fin 32) : ∀ (l : List Word) (b : Bench), ∃ fq r, b.fifoPushAll n l =
    { b with fq := fq, qc := { b.qc with ready := r } }
  | [], _ => ⟨_, _, rfl⟩
  | [w], b => b.fifoPush_only n w true
  | w :: v :: l, b => by
    obtain ⟨fq, r, h⟩ := b.fifoPush_only n w false
    obtain ⟨fq', r', h'⟩ := Bench.fifoPushAll_only n (v :: l) (b.fifoPush n w false)
    exact ⟨fq', r', by rw [Bench.fifoPushAll, h', h]; exact List.cons_ne_nil v l⟩

/-- The second bench is the first but for Kerf, the queues, the FIFOs and what is sent, and carries on what was sent. -/
def Bench.KerfWork (b b' : Bench) : Prop :=
  (∃ fn qc ev sc fq hl kf taps, b' =
    { b with fn := fn, qc := qc, ev := ev, sc := sc, fq := fq, hl := hl, kf := kf, kfTaps := taps }) ∧ b.Carries b'

/-- The second bench is the first but for the queues, the FIFOs and what is sent. -/
def Bench.Beside (b b' : Bench) : Prop :=
  ∃ fn qc ev sc fq hl, b' = { b with fn := fn, qc := qc, ev := ev, sc := sc, fq := fq, hl := hl }

namespace Bench.Beside
variable {b b' b'' : Bench}

theorem refl : b.Beside b := ⟨_, _, _, _, _, _, rfl⟩
theorem symm (h : b.Beside b') : b'.Beside b := by
  obtain ⟨_, _, _, _, _, _, rfl⟩ := h
  exact ⟨b.fn, b.qc, b.ev, b.sc, b.fq, b.hl, rfl⟩
theorem trans (h : b.Beside b') (g : b'.Beside b'') : b.Beside b'' := by
  obtain ⟨_, _, _, _, _, _, rfl⟩ := h
  obtain ⟨_, _, _, _, _, _, rfl⟩ := g
  exact ⟨_, _, _, _, _, _, rfl⟩
theorem kf (h : b.Beside b') : b'.kf = b.kf := by
  obtain ⟨_, _, _, _, _, _, rfl⟩ := h
  rfl
theorem work (h : b.Beside b') (hc : b.Carries b') : b.KerfWork b' := by
  refine ⟨?_, hc⟩
  obtain ⟨_, _, _, _, _, _, rfl⟩ := h
  exact ⟨_, _, _, _, _, _, _, _, rfl⟩

theorem raise (b : Bench) (k : Fin 18) (i : Nat) (d0 d1 d2 : Word) : b.Beside (b.raise k i d0 d1 d2) := by
  obtain ⟨fn, qc, ev, h⟩ := b.raise_only k i d0 d1 d2
  exact ⟨fn, qc, ev, _, _, _, h⟩
theorem kerfEvent (b : Bench) (i ch : Nat) : b.Beside (b.kerfEvent i ch) := raise ..
theorem health (b : Bench) (i : Fin 25) : b.Beside (b.health i) := by
  obtain ⟨hl, h⟩ := b.health_only i
  exact ⟨_, _, _, _, _, hl, h⟩
theorem fifoPacket (b : Bench) (n : Fin 32) (cls : Nat) (ws : List Word) : b.Beside (b.fifoPacket n cls ws) := by
  unfold Bench.fifoPacket
  dsimp only
  split
  · obtain ⟨fq, r, h⟩ := Bench.fifoPushAll_only n ws b
    exact ⟨_, _, _, _, fq, _, h⟩
  · exact ⟨_, _, _, _, _, _, rfl⟩
theorem spoil (b : Bench) (n : Fin 10) : b.Beside (b.spoil n) := by
  have h : b.Beside ((b.count n).health 2) := .trans ⟨_, _, _, _, _, _, rfl⟩ (health ..)
  unfold Bench.spoil
  dsimp only
  split
  · exact h.trans (raise ..)
  · exact h
theorem enqueue (b : Bench) (i : Item) : b.Beside (b.enqueue i) := by
  unfold Bench.enqueue
  split <;> exact ⟨_, _, _, _, _, _, rfl⟩
theorem post (b : Bench) (i : Item) : b.Beside (b.post i).2 := by
  unfold Bench.post
  dsimp only
  split
  · exact ⟨_, _, _, _, _, _, rfl⟩
  split
  · exact ⟨_, _, _, _, _, _, rfl⟩
  split
  · exact ⟨_, _, _, _, _, _, rfl⟩
  by_cases hr : b.hasRoom (if i.ord then (b.flow i.flow).queue else i.queue) = true
  · rw [if_pos hr]
    exact enqueue ..
  rw [if_neg hr]
  split
  · exact spoil ..
  · dsimp only
    split
    · exact ⟨_, _, _, _, _, _, rfl⟩
    · exact refl

end Bench.Beside

namespace Bench.Carries

theorem kerfEvent (b : Bench) (i ch : Nat) : b.Carries (b.kerfEvent i ch) := raise ..
theorem health (b : Bench) (i : Fin 25) : b.Carries (b.health i) := .of_qc (b.health_qc i)
theorem fifoPacket (b : Bench) (n : Fin 32) (cls : Nat) (ws : List Word) : b.Carries (b.fifoPacket n cls ws) := by
  unfold Bench.fifoPacket
  dsimp only
  split
  · obtain ⟨fq, r, h⟩ := Bench.fifoPushAll_only n ws b
    rw [h]
    exact .of_sent (l := []) (List.append_nil _).symm rfl rfl
  · exact .of_qc rfl
theorem spoil (b : Bench) (n : Fin 10) : b.Carries (b.spoil n) := by
  have h : b.Carries ((b.count n).health 2) := (show b.Carries (b.count n) from .of_qc rfl).trans (health ..)
  unfold Bench.spoil
  dsimp only
  split
  · exact h.trans (raise ..)
  · exact h
theorem enqueue (b : Bench) (i : Item) : b.Carries (b.enqueue i) := by
  unfold Bench.enqueue
  split <;> exact .of_qc rfl
theorem post (b : Bench) (i : Item) : b.Carries (b.post i).2 := by
  unfold Bench.post
  dsimp only
  split
  · exact .of_qc rfl
  split
  · exact .of_qc rfl
  split
  · exact .of_qc rfl
  by_cases hr : b.hasRoom (if i.ord then (b.flow i.flow).queue else i.queue) = true
  · rw [if_pos hr]
    exact enqueue ..
  rw [if_neg hr]
  split
  · exact spoil ..
  · dsimp only
    split
    · exact .of_qc rfl
    · exact refl

end Bench.Carries

/-! ### The end of a record -/

/-- The record that stands at the end of a capture. -/
def KfChan.recordAt (ch : Fin 32) (why : Nat) (c : KfChan) : KfRecord :=
  let pre := (c.before.take c.pre).reverse
  { header := [at32 why 28 ||| at32 (b2n (pre.length < c.pre)) 27 ||| at32 c.unit 24 ||| at32 ch.val 16 ||| at32 c.ctype 8,
      c.seq, lo32 c.time, hi32 c.time, BitVec.ofNat 32 pre.length, BitVec.ofNat 32 c.after.length, c.recMissed,
      BitVec.ofNat 32 c.pre, BitVec.ofNat 32 c.post] ++ List.replicate 7 0
    samples := pre ++ c.after }

/-- The channel after it. -/
def KfChan.ended (ch : Fin 32) (why : Nat) (c : KfChan) : KfChan :=
  { c with
    records := Tbl.set none c.records c.next (some (c.recordAt ch why)), next := if c.nseg = 0 then 0 else (c.next + 1) % c.nseg,
    seq := c.seq + 1, before := [], after := [], state := if why = 2 || why = 3 || !c.auto then .idle else .rearm }

theorem Bench.recordEnd_beside (b : Bench) (ch : Fin 32) (why : Nat) :
    Bench.Beside (b.setChan ch (b.kf.chans[ch].ended ch why)) (b.recordEnd ch why) ∧
      Bench.Carries (b.setChan ch (b.kf.chans[ch].ended ch why)) (b.recordEnd ch why) := by
  unfold Bench.recordEnd
  extract_lets c pre short header rec_ seg seq b₁ b₂ b₃ k n ws f stored b₄
  have h₁ : b.setChan ch (b.kf.chans[ch].ended ch why) = b₁ := rfl
  rw [h₁]
  clear_value b₁
  have h₂ : b₁.Beside b₂ ∧ b₁.Carries b₂ := by
    unfold b₂
    split
    · exact ⟨.kerfEvent .., .kerfEvent ..⟩
    · exact ⟨.refl, .refl⟩
  clear_value b₂
  have h₃ : b₁.Beside b₃ ∧ b₁.Carries b₃ := ⟨h₂.1.trans (.kerfEvent ..), h₂.2.trans (.kerfEvent ..)⟩
  clear_value b₃
  split
  · exact h₃
  · exact ⟨(h₃.1.trans (.fifoPacket ..)).trans (.post ..), (h₃.2.trans (.fifoPacket ..)).trans (.post ..)⟩

/-! ### Samples, triggers and drains -/

namespace Bench.KerfWork
variable {b b' b'' : Bench}

theorem refl : b.KerfWork b := ⟨⟨_, _, _, _, _, _, _, _, rfl⟩, .refl⟩
theorem trans (h : b.KerfWork b') (g : b'.KerfWork b'') : b.KerfWork b'' := by
  refine ⟨?_, h.2.trans g.2⟩
  obtain ⟨⟨_, _, _, _, _, _, _, _, rfl⟩, -⟩ := h
  obtain ⟨⟨_, _, _, _, _, _, _, _, rfl⟩, -⟩ := g
  exact ⟨_, _, _, _, _, _, _, _, rfl⟩
theorem foldl {α : Type} {f : Bench → α → Bench} (h : ∀ b a, Bench.KerfWork b (f b a)) :
    ∀ (l : List α) (b : Bench), b.KerfWork (l.foldl f b)
  | [], _ => refl
  | a :: l, b => (h b a).trans (foldl h l (f b a))
theorem points (h : b.KerfWork b') : b'.points = b.points := by
  obtain ⟨⟨_, _, _, _, _, _, _, _, rfl⟩, -⟩ := h
  rfl
theorem rail (h : b.KerfWork b') : b'.rail = b.rail := by
  obtain ⟨⟨_, _, _, _, _, _, _, _, rfl⟩, -⟩ := h
  rfl

theorem setKerf (b : Bench) (f : Kerf → Kerf) : b.KerfWork (b.setKerf f) := ⟨⟨_, _, _, _, _, _, _, _, rfl⟩, .of_qc rfl⟩
theorem setChan (b : Bench) (ch : Fin 32) (x : KfChan) : b.KerfWork (b.setChan ch x) := setKerf ..
theorem setUnit (b : Bench) (u : Fin 8) (x : KfUnit) : b.KerfWork (b.setUnit u x) := setKerf ..
theorem kerfEvent (b : Bench) (i ch : Nat) : b.KerfWork (b.kerfEvent i ch) := (Beside.kerfEvent ..).work (.kerfEvent ..)
theorem recordEnd (b : Bench) (ch : Fin 32) (why : Nat) : b.KerfWork (b.recordEnd ch why) :=
  (setChan ..).trans ((b.recordEnd_beside ch why).1.work (b.recordEnd_beside ch why).2)
theorem chanStore (b : Bench) (ch : Fin 32) (e : Point) : b.KerfWork (b.chanStore ch e) := by
  unfold Bench.chanStore
  extract_lets c b₁ b₂ c' b₃
  have h₁ : b.KerfWork b₁ := (setKerf ..).trans (kerfEvent ..)
  have h₂ : b.KerfWork b₂ := setKerf ..
  clear_value b₁ b₂
  split
  · exact refl
  split
  · split
    · exact h₁.trans (setChan ..)
    · exact h₁.trans (recordEnd ..)
  split
  · exact h₂.trans (setChan ..)
  split
  · exact h₂.trans (setChan ..)
  split
  · exact (h₂.trans (setChan ..)).trans (recordEnd ..)
  · exact h₂.trans (setChan ..)
theorem chanTrigger (u time : Nat) (b : Bench) (ch : Fin 32) : b.KerfWork (Bench.chanTrigger u time b ch) := by
  unfold Bench.chanTrigger
  dsimp only
  split
  · exact refl
  split
  · split
    · exact (setChan ..).trans (recordEnd ..)
    · exact setChan ..
  · exact (setKerf ..).trans (setChan ..)
theorem unitFire (b : Bench) (u : Fin 8) (time : Nat) : b.KerfWork (b.unitFire u time) := by
  unfold Bench.unitFire
  extract_lets x inHold left b₁
  have h₁ : b.KerfWork b₁ := setUnit ..
  clear_value b₁
  split
  · exact (setUnit ..).trans (setKerf ..)
  · exact h₁.trans (foldl (fun b ch => chanTrigger ..) ..)
theorem unitSample (b : Bench) (u : Fin 8) (fmt : Nat) (w : Word) (stamp : Nat) : b.KerfWork (b.unitSample u fmt w stamp) := by
  unfold Bench.unitSample
  dsimp only
  split
  · split
    · exact (setUnit ..).trans (unitFire ..)
    · split
      · exact setUnit ..
      · split <;> exact setUnit ..
  · exact refl
theorem kerfSample (b : Bench) (st ct src fmt : Nat) (good : Bool) (w : KfUnit → Option Word) (e : Point) :
    b.KerfWork (b.kerfSample st ct src fmt good w e) := by
  unfold Bench.kerfSample
  refine (foldl (fun b u => ?_) ..).trans (foldl (fun b ch => ?_) ..)
  · dsimp only
    split
    · split
      · exact refl
      · split
        · exact (setUnit ..).trans (unitSample ..)
        · exact setUnit ..
    · exact refl
  · dsimp only
    split
    · exact chanStore ..
    · exact refl
theorem kerfPoint (b : Bench) : b.KerfWork b.kerfPoint := by
  unfold Bench.kerfPoint
  split
  · exact refl
  · next x rest h =>
    exact (show b.KerfWork { b with kfTaps := rest } from ⟨⟨_, _, _, _, _, _, _, _, rfl⟩, .of_qc rfl⟩).trans (kerfSample ..)
theorem kerfDrain : ∀ (k : Nat) (b : Bench), b.KerfWork (b.kerfDrain k)
  | 0, _ => refl
  | k + 1, b => (kerfPoint b).trans (kerfDrain k b.kerfPoint)

end Bench.KerfWork

/-! What the queues hold and what has been sent has no part in what Kerf does. -/

namespace Bench.Beside
variable {b b' : Bench} (h : b.Beside b')
include h

theorem onSetKerf (f : Kerf → Kerf) : (b.setKerf f).Beside (b'.setKerf f) := by
  obtain ⟨_, _, _, _, _, _, rfl⟩ := h
  exact ⟨_, _, _, _, _, _, rfl⟩
theorem onSetUnit (u : Fin 8) (x : KfUnit) : (b.setUnit u x).Beside (b'.setUnit u x) := h.onSetKerf _
theorem onRecordEnd (ch : Fin 32) (why : Nat) : (b.recordEnd ch why).Beside (b'.recordEnd ch why) := by
  refine (b.recordEnd_beside ch why).1.symm.trans (.trans ?_ (b'.recordEnd_beside ch why).1)
  rw [h.kf]
  exact h.onSetKerf _
theorem onChanStore (ch : Fin 32) (e : Point) : (b.chanStore ch e).Beside (b'.chanStore ch e) := by
  obtain ⟨fn, qc, ev, sc, fq, hl, rfl⟩ := h
  have h : b.Beside { b with fn := fn, qc := qc, ev := ev, sc := sc, fq := fq, hl := hl } := ⟨_, _, _, _, _, _, rfl⟩
  unfold Bench.chanStore Bench.kerfRoom
  dsimp only
  split
  · exact h
  split
  · have h₁ := (Beside.kerfEvent (b.setKerf fun k => { k with ovf := inc k.ovf }) 1 ch.val).symm.trans
      ((h.onSetKerf fun k => { k with ovf := inc k.ovf }).trans (.kerfEvent _ 1 ch.val))
    split
    · exact h₁.onSetKerf _
    · exact h₁.onRecordEnd ..
  have h₂ := h.onSetKerf fun k => { k with busy := max k.busy b.rail.now + 40 }
  split
  · exact h₂.onSetKerf _
  split
  · exact h₂.onSetKerf _
  split
  · exact (h₂.onSetKerf _).onRecordEnd ..
  · exact h₂.onSetKerf _
theorem onChanTrigger (u time : Nat) (ch : Fin 32) :
    (Bench.chanTrigger u time b ch).Beside (Bench.chanTrigger u time b' ch) := by
  obtain ⟨fn, qc, ev, sc, fq, hl, rfl⟩ := h
  have h : b.Beside { b with fn := fn, qc := qc, ev := ev, sc := sc, fq := fq, hl := hl } := ⟨_, _, _, _, _, _, rfl⟩
  unfold Bench.chanTrigger
  dsimp only
  split
  · exact h
  split
  · split
    · exact (h.onSetKerf _).onRecordEnd ..
    · exact h.onSetKerf _
  · exact (h.onSetKerf _).onSetKerf _

omit h in
theorem onFoldl {α : Type} {f : Bench → α → Bench} (hf : ∀ {b b'}, Bench.Beside b b' → ∀ a, (f b a).Beside (f b' a)) :
    ∀ (l : List α) {b b' : Bench}, b.Beside b' → (l.foldl f b).Beside (l.foldl f b')
  | [], _, _, h => h
  | a :: l, _, _, h => onFoldl hf l (hf h a)

theorem onUnitFire (u : Fin 8) (time : Nat) : (b.unitFire u time).Beside (b'.unitFire u time) := by
  obtain ⟨fn, qc, ev, sc, fq, hl, rfl⟩ := h
  have h : b.Beside { b with fn := fn, qc := qc, ev := ev, sc := sc, fq := fq, hl := hl } := ⟨_, _, _, _, _, _, rfl⟩
  unfold Bench.unitFire
  dsimp only
  generalize (if (b.kf.units[u]).hmode then (b.kf.units[u]).left.isSome else (b.kf.units[u]).until_.isSome) = hold
  cases hold with
  | true =>
    rw [if_pos rfl, if_pos rfl]
    exact (h.onSetUnit ..).onSetKerf _
  | false =>
    rw [if_neg Bool.false_ne_true, if_neg Bool.false_ne_true]
    exact onFoldl (f := Bench.chanTrigger u.val time) (fun h ch => h.onChanTrigger ..) _ (h.onSetUnit ..)
theorem onUnitSample (u : Fin 8) (fmt : Nat) (w : Word) (stamp : Nat) :
    (b.unitSample u fmt w stamp).Beside (b'.unitSample u fmt w stamp) := by
  obtain ⟨fn, qc, ev, sc, fq, hl, rfl⟩ := h
  have h : b.Beside { b with fn := fn, qc := qc, ev := ev, sc := sc, fq := fq, hl := hl } := ⟨_, _, _, _, _, _, rfl⟩
  unfold Bench.unitSample
  dsimp only
  split
  · split
    · exact (h.onSetUnit ..).onUnitFire ..
    split
    · exact h.onSetKerf _
    split
    · exact h.onSetKerf _
    · exact h.onSetKerf _
  · exact h
theorem onKerfSample (st ct src fmt : Nat) (good : Bool) (w : KfUnit → Option Word) (e : Point) :
    (b.kerfSample st ct src fmt good w e).Beside (b'.kerfSample st ct src fmt good w e) := by
  unfold Bench.kerfSample
  refine onFoldl (fun h ch => ?_) _ (onFoldl (fun h u => ?_) _ h)
  · dsimp only
    rw [h.kf]
    split
    · exact h.onChanStore ..
    · exact h
  · dsimp only
    rw [h.kf]
    split
    · split
      · exact h
      split
      · exact (h.onSetKerf _).onUnitSample ..
      · exact h.onSetKerf _
    · exact h
theorem onKerfPoint : b.kerfPoint.Beside b'.kerfPoint := by
  obtain ⟨fn, qc, ev, sc, fq, hl, rfl⟩ := h
  unfold Bench.kerfPoint
  dsimp only
  split
  · exact ⟨_, _, _, _, _, _, rfl⟩
  · exact onKerfSample ⟨_, _, _, _, _, _, rfl⟩ ..
omit h in
theorem onKerfDrain : ∀ (k : Nat) {b b' : Bench}, b.Beside b' → (b.kerfDrain k).Beside (b'.kerfDrain k)
  | 0, _, _, h => h
  | k + 1, _, _, h => onKerfDrain k h.onKerfPoint

end Bench.Beside

/-! ### Units and channels after each operation -/

section kerf
variable (b : Bench)

theorem Bench.recordEnd_kf (ch : Fin 32) (why : Nat) :
    (b.recordEnd ch why).kf = { b.kf with chans := b.kf.chans.set ch (b.kf.chans[ch].ended ch why) } :=
  (b.recordEnd_beside ch why).1.kf

/-- Work on one channel, by what it leaves: the units, the other channels, and a write queue that one sample has lengthened
at most. -/
structure Bench.ChanWork (b : Bench) (ch : Fin 32) (b' : Bench) : Prop where
  units : b'.kf.units = b.kf.units
  chans : ∀ j, j ≠ ch → b'.kf.chans[j] = b.kf.chans[j]
  busy : b'.kf.busy ≤ max b.kf.busy b.rail.now + 40
  rail : b'.rail = b.rail

namespace Bench.ChanWork
variable {b} {b' : Bench} {ch : Fin 32}

theorem refl : b.ChanWork ch b := ⟨rfl, fun _ _ => rfl, by omega, rfl⟩
theorem setChan (h : b.ChanWork ch b') (x : KfChan) : b.ChanWork ch (b'.setChan ch x) where
  units := h.units
  chans j hj := (Vector.getElem_set_ne ch.isLt j.isLt fun hv => hj (Fin.ext hv.symm)).trans (h.chans j hj)
  busy := h.busy
  rail := h.rail
theorem recordEnd (h : b.ChanWork ch b') (why : Nat) : b.ChanWork ch (b'.recordEnd ch why) where
  units := by rw [Bench.recordEnd_kf]; exact h.units
  chans j hj := by
    rw [Bench.recordEnd_kf]
    exact (Vector.getElem_set_ne ch.isLt j.isLt fun hv => hj (Fin.ext hv.symm)).trans (h.chans j hj)
  busy := by rw [Bench.recordEnd_kf]; exact h.busy
  rail := (KerfWork.recordEnd ..).rail.trans h.rail

theorem chanStore (b : Bench) (ch : Fin 32) (e : Point) : b.ChanWork ch (b.chanStore ch e) := by
  unfold Bench.chanStore
  extract_lets c b₁ b₂ c' b₃
  have h₁ : b.ChanWork ch b₁ := by
    have hk : b₁.kf = { b.kf with ovf := inc b.kf.ovf } := Bench.raise_kf ..
    exact ⟨by rw [hk], fun j _ => by rw [hk], by rw [hk]; exact (refl (ch := ch)).busy, Bench.raise_rail ..⟩
  have h₂ : b.ChanWork ch b₂ := ⟨rfl, fun _ _ => rfl, le_rfl, rfl⟩
  clear_value b₁ b₂
  split
  · exact refl
  split
  · split
    · exact h₁.setChan _
    · exact h₁.recordEnd _
  split
  · exact h₂.setChan _
  split
  · exact h₂.setChan _
  split
  · exact (h₂.setChan _).recordEnd _
  · exact h₂.setChan _

end Bench.ChanWork

theorem Bench.chanTrigger_units (u time : Nat) (ch : Fin 32) : (Bench.chanTrigger u time b ch).kf.units = b.kf.units := by
  unfold Bench.chanTrigger
  dsimp only
  split
  · rfl
  split
  · split
    · rw [Bench.recordEnd_kf]; rfl
    · rfl
  · rfl

theorem Bench.setUnit_self (u : Fin 8) (x : KfUnit) : (b.setUnit u x).kf.units[u] = x := Vector.getElem_set_self ..
theorem Bench.setUnit_other {u j : Fin 8} (x : KfUnit) (h : j ≠ u) : (b.setUnit u x).kf.units[j] = b.kf.units[j] :=
  Vector.getElem_set_ne u.isLt j.isLt fun hv => h (Fin.ext hv.symm)
theorem Bench.setChan_self (ch : Fin 32) (x : KfChan) : (b.setChan ch x).kf.chans[ch] = x := Vector.getElem_set_self ..
theorem Bench.setChan_other {ch j : Fin 32} (x : KfChan) (h : j ≠ ch) : (b.setChan ch x).kf.chans[j] = b.kf.chans[j] :=
  Vector.getElem_set_ne ch.isLt j.isLt fun hv => h (Fin.ext hv.symm)

theorem Bench.triggers_units (u time : Nat) (l : List (Fin 32)) :
    (l.foldl (Bench.chanTrigger u time) b).kf.units = b.kf.units :=
  foldl_keeps (g := fun b : Bench => b.kf.units) (fun b _ => b.chanTrigger_units ..) l b

/-- A unit in its hold-off; after a trigger that it misses; and after one that it accepts. -/
def KfUnit.holds (x : KfUnit) : Bool := if x.hmode then x.left.isSome else x.until_.isSome
def KfUnit.missed (x : KfUnit) : KfUnit :=
  { x with miss := inc x.miss, left := if x.left.map (· - 1) = some 0 then none else x.left.map (· - 1) }
def KfUnit.fired (time : Nat) (x : KfUnit) : KfUnit :=
  { x with
    count := inc x.count, until_ := if x.hmode then none else some (time + x.hold.toNat * 1000),
    left := if x.hmode then some x.hold.toNat else none }

theorem Bench.unitFire_eq (u : Fin 8) (time : Nat) : b.unitFire u time =
    if (b.kf.units[u]).holds then (b.setUnit u (b.kf.units[u]).missed).setKerf fun k => { k with missed := inc k.missed }
    else (List.finRange 32).foldl (Bench.chanTrigger u.val time) (b.setUnit u ((b.kf.units[u]).fired time)) := rfl

/-- Outside its hold-off a unit fires. -/
theorem Bench.unitFire_free {u : Fin 8} {time : Nat} (hm : (b.kf.units[u]).hmode = false) (hu : (b.kf.units[u]).until_ = none) :
    (b.unitFire u time).kf.units[u] = (b.kf.units[u]).fired time := by
  have hh : (b.kf.units[u]).holds = false := by
    unfold KfUnit.holds
    rw [hm, hu]
    rfl
  rw [Bench.unitFire_eq, hh, if_neg Bool.false_ne_true, Bench.triggers_units, Bench.setUnit_self]

/-- Within it the trigger is missed. -/
theorem Bench.unitFire_held {u : Fin 8} {time e : Nat} (hm : (b.kf.units[u]).hmode = false) (hu : (b.kf.units[u]).until_ = some e) :
    (b.unitFire u time).kf.units[u] = (b.kf.units[u]).missed ∧
    (b.unitFire u time).kf.missed = inc b.kf.missed ∧ (b.unitFire u time).kf.chans = b.kf.chans := by
  have hh : (b.kf.units[u]).holds = true := by
    unfold KfUnit.holds
    rw [hm, hu]
    rfl
  rw [Bench.unitFire_eq, hh, if_pos rfl]
  exact ⟨Bench.setUnit_self .., rfl, rfl⟩

theorem Bench.unitFire_other {u j : Fin 8} {time : Nat} (h : j ≠ u) : (b.unitFire u time).kf.units[j] = b.kf.units[j] := by
  cases hh : (b.kf.units[u]).holds with
  | true =>
    rw [Bench.unitFire_eq, hh, if_pos rfl]
    exact Bench.setUnit_other b _ h
  | false =>
    rw [Bench.unitFire_eq, hh, if_neg Bool.false_ne_true, Bench.triggers_units]
    exact Bench.setUnit_other b _ h

theorem Bench.unitSample_other {u j : Fin 8} {fmt stamp : Nat} {w : Word} (h : j ≠ u) :
    (b.unitSample u fmt w stamp).kf.units[j] = b.kf.units[j] := by
  have other (x : KfUnit) : (b.setUnit u x).kf.units[j] = b.kf.units[j] := Bench.setUnit_other b x h
  unfold Bench.unitSample
  dsimp only
  split
  · split
    · exact (Bench.unitFire_other _ h).trans (other _)
    split
    · exact other _
    split
    · exact other _
    · exact other _
  · rfl

/-- A unit that is ready and sees a value at its level or above fires, and is no longer ready. -/
theorem Bench.unitSample_rises {u : Fin 8} {fmt stamp : Nat} {w : Word} {v lev hy : Int} (hv : numOf fmt w = some v)
    (hl : numOf fmt (b.kf.units[u]).level = some lev) (hh : numOf fmt (b.kf.units[u]).hyst = some hy) (hle : lev ≤ v)
    (h0 : 0 ≤ hy) (hup : (b.kf.units[u]).up = true) (hm : (b.kf.units[u]).hmode = false) (hu : (b.kf.units[u]).until_ = none) :
    ((b.unitSample u fmt w stamp).kf.units[u]).count = inc (b.kf.units[u]).count ∧
      ((b.unitSample u fmt w stamp).kf.units[u]).up = false := by
  generalize hx : b.kf.units[u] = x at *
  have ready (y : KfUnit) (hc : y.count = x.count) (hy : y.up = false) (hs : y.hmode = false) (ht : y.until_ = none) :
      (((b.setUnit u y).unitFire u stamp).kf.units[u]).count = inc x.count ∧
        (((b.setUnit u y).unitFire u stamp).kf.units[u]).up = false := by
    rw [Bench.unitFire_free _ (by rw [Bench.setUnit_self]; exact hs) (by rw [Bench.setUnit_self]; exact ht),
      Bench.setUnit_self]
    exact ⟨congrArg inc hc, hy⟩
  unfold Bench.unitSample
  dsimp only
  rw [hx, hv, hl, hh]
  dsimp only
  rw [if_pos (show _ = true by simp [hup, hle]), if_neg (by simp; omega)]
  split
  · exact ready _ rfl rfl hm hu
  · exact ready _ rfl (by simp [hle, hup]) hm hu

/-- What one unit, and one channel, does with a sample. -/
def Bench.seeUnit (stype fmt : Nat) (good : Bool) (word : KfUnit → Option Word) (e : Point) (b : Bench) (u : Fin 8) : Bench :=
  let x := b.kf.units[u]
  match word x with
  | some w =>
    if x.stype ≠ stype then b
    else
      let b := b.setUnit u (x.holdEnds e.stamp)
      if good then b.unitSample u fmt w e.stamp else b
  | none => b
def Bench.seeChan (ctype src : Nat) (e : Point) (b : Bench) (ch : Fin 32) : Bench :=
  let c := b.kf.chans[ch]
  if c.en && c.ctype = ctype && (ctype = 2 || c.source = src) then b.chanStore ch e else b

theorem Bench.kerfSample_eq (st ct src fmt : Nat) (good : Bool) (w : KfUnit → Option Word) (e : Point) :
    b.kerfSample st ct src fmt good w e =
      (List.finRange 32).foldl (Bench.seeChan ct src e) ((List.finRange 8).foldl (Bench.seeUnit st fmt good w e) b) := rfl

variable {b} {st ct src fmt : Nat} {good : Bool} {w : KfUnit → Option Word} {e : Point}

theorem Bench.seeUnit_other {u j : Fin 8} (h : j ≠ u) : (b.seeUnit st fmt good w e u).kf.units[j] = b.kf.units[j] := by
  unfold Bench.seeUnit
  dsimp only
  split
  · split
    · rfl
    split
    · rw [Bench.unitSample_other _ h, Bench.setUnit_other _ _ h]
    · rw [Bench.setUnit_other _ _ h]
  · rfl

theorem Bench.seeUnits_other {u : Fin 8} : ∀ {l : List (Fin 8)} {b : Bench}, u ∉ l →
    (l.foldl (Bench.seeUnit st fmt good w e) b).kf.units[u] = b.kf.units[u]
  | [], _, _ => rfl
  | v :: l, b, h => by
    rw [List.mem_cons, not_or] at h
    rw [List.foldl_cons, Bench.seeUnits_other h.2, Bench.seeUnit_other h.1]

/-- Where no unit watches a source of the kind, the units do nothing. -/
theorem Bench.seeUnits_none (h : ∀ j : Fin 8, (b.kf.units[j]).stype ≠ st) (l : List (Fin 8)) :
    l.foldl (Bench.seeUnit st fmt good w e) b = b := by
  have one (u : Fin 8) : b.seeUnit st fmt good w e u = b := by
    unfold Bench.seeUnit
    dsimp only
    split
    · exact if_pos (h u)
    · rfl
  induction l with
  | nil => rfl
  | cons u l ih => rw [List.foldl_cons, one, ih]

theorem Bench.ChanWork.seeChan (b : Bench) (ch : Fin 32) : b.ChanWork ch (b.seeChan ct src e ch) := by
  unfold Bench.seeChan
  dsimp only
  split
  · exact .chanStore ..
  · exact .refl

/-- Samples of other channels leave the units and the channel, and lengthen the write queue by one sample each at most. -/
theorem Bench.seeChans_other {ch : Fin 32} : ∀ {l : List (Fin 32)} {b : Bench}, ch ∉ l →
    (l.foldl (Bench.seeChan ct src e) b).kf.chans[ch] = b.kf.chans[ch] ∧
    (l.foldl (Bench.seeChan ct src e) b).rail = b.rail ∧
    (l.foldl (Bench.seeChan ct src e) b).kf.busy ≤ max b.kf.busy b.rail.now + 40 * l.length
  | [], b, _ => ⟨rfl, rfl, by simp⟩
  | v :: l, b, h => by
    rw [List.mem_cons, not_or] at h
    obtain ⟨h1, h2, h3⟩ := Bench.seeChans_other (b := b.seeChan ct src e v) h.2
    obtain ⟨-, hc, hb, hr⟩ := Bench.ChanWork.seeChan (ct := ct) (src := src) (e := e) b v
    refine ⟨h1.trans (hc ch h.1), h2.trans hr, h3.trans ?_⟩
    rw [hr, List.length_cons]
    omega

theorem Bench.seeChans_units (l : List (Fin 32)) (b : Bench) :
    (l.foldl (Bench.seeChan ct src e) b).kf.units = b.kf.units :=
  foldl_keeps (g := fun b : Bench => b.kf.units) (fun b ch => (Bench.ChanWork.seeChan b ch).units) l b

/-- With room in the write queue an armed channel keeps the sample. -/
theorem Bench.chanStore_armed {ch : Fin 32} (hr : b.kf.busy ≤ b.rail.now + 4095 * 40) (hs : (b.kf.chans[ch]).state = .armed) :
    (b.chanStore ch e).kf.chans[ch] =
      { b.kf.chans[ch] with before := (e :: (b.kf.chans[ch]).before).take (b.kf.chans[ch]).cap } := by
  generalize hc : b.kf.chans[ch] = c at *
  unfold Bench.chanStore
  dsimp only
  rw [hc, if_neg (by simp [hs]), if_neg (by simp [Bench.kerfRoom, hr]), if_pos hs, Bench.setChan_self]

/-- With room in the write queue a capturing channel that is not complete stores a sample from the trigger on. -/
theorem Bench.chanStore_capturing {ch : Fin 32} (hr : b.kf.busy ≤ b.rail.now + 4095 * 40)
    (hs : (b.kf.chans[ch]).state = .capturing) (ht : (b.kf.chans[ch]).time ≤ e.stamp)
    (hp : (b.kf.chans[ch]).after.length + 1 < (b.kf.chans[ch]).post) :
    (b.chanStore ch e).kf.chans[ch] = { b.kf.chans[ch] with after := (b.kf.chans[ch]).after ++ [e] } := by
  generalize hc : b.kf.chans[ch] = c at *
  unfold Bench.chanStore
  dsimp only
  rw [hc, if_neg (by simp [hs]), if_neg (by simp [Bench.kerfRoom, hr]), if_neg (by simp [hs]),
    if_neg (Nat.not_lt.2 ht),
    if_neg (show ¬ c.post ≤ (c.after ++ [e]).length by rw [List.length_append, List.length_singleton]; omega),
    Bench.setChan_self]

/-- What one sample leaves of a channel that is due to it. -/
theorem Bench.kerfSample_chan {ch : Fin 32} {x : KfChan} (hn : ∀ j : Fin 8, (b.kf.units[j]).stype ≠ st)
    (hen : (b.kf.chans[ch]).en = true) (hc : (b.kf.chans[ch]).ctype = 2) (hb : b.kf.busy ≤ b.rail.now)
    (hx : ∀ b' : Bench, b'.kf.chans[ch] = b.kf.chans[ch] → b'.kf.busy ≤ b'.rail.now + 4095 * 40 →
      (b'.chanStore ch e).kf.chans[ch] = x) : (b.kerfSample st 2 0 fmt good w e).kf.chans[ch] = x := by
  rw [Bench.kerfSample_eq, Bench.seeUnits_none hn]
  have hd := List.nodup_finRange 32
  have hlen := List.length_finRange (n := 32)
  obtain ⟨l₁, l₂, hl⟩ := List.append_of_mem (List.mem_finRange ch)
  rw [hl] at hd hlen ⊢
  rw [List.length_append, List.length_cons] at hlen
  rw [List.nodup_append, List.nodup_cons] at hd
  obtain ⟨-, ⟨h₂, -⟩, hd⟩ := hd
  have h₁ : ch ∉ l₁ := fun h => hd ch h ch List.mem_cons_self rfl
  obtain ⟨c₁, r₁, b₁⟩ := Bench.seeChans_other (ct := 2) (src := 0) (e := e) (b := b) h₁
  rw [List.foldl_append, List.foldl_cons, (Bench.seeChans_other h₂).1]
  generalize l₁.foldl _ b = y at c₁ r₁ b₁ ⊢
  unfold Bench.seeChan
  dsimp only
  rw [c₁, hen, hc, if_pos (by simp)]
  refine hx y c₁ ?_
  rw [r₁]
  omega

/-- What one sample leaves of a unit that watches its source. -/
theorem Bench.kerfSample_unit {u : Fin 8} {v : Word} {P : KfUnit → Prop} (hw : w (b.kf.units[u]) = some v)
    (hs : (b.kf.units[u]).stype = st) (hu : (b.kf.units[u]).until_ = none)
    (hp : ∀ b' : Bench, b'.kf.units[u] = b.kf.units[u] → P ((b'.unitSample u fmt v e.stamp).kf.units[u])) :
    P ((b.kerfSample st ct src fmt true w e).kf.units[u]) := by
  rw [Bench.kerfSample_eq, Bench.seeChans_units]
  have hd := List.nodup_finRange 8
  obtain ⟨l₁, l₂, hl⟩ := List.append_of_mem (List.mem_finRange u)
  rw [hl] at hd ⊢
  rw [List.nodup_append, List.nodup_cons] at hd
  obtain ⟨-, ⟨h₂, -⟩, hd⟩ := hd
  have h₁ : u ∉ l₁ := fun h => hd u h u List.mem_cons_self rfl
  rw [List.foldl_append, List.foldl_cons, Bench.seeUnits_other h₂]
  have c₁ := Bench.seeUnits_other (st := st) (fmt := fmt) (good := true) (w := w) (e := e) (b := b) h₁
  generalize l₁.foldl _ b = y at c₁ ⊢
  have hold : (b.kf.units[u]).holdEnds e.stamp = b.kf.units[u] := by
    unfold KfUnit.holdEnds
    rw [hu]
  unfold Bench.seeUnit
  dsimp only
  rw [c₁, hw]
  dsimp only
  rw [if_neg (not_not.2 hs), if_pos rfl, hold]
  exact hp _ (Bench.setUnit_self ..)

/-! ### Channels disarmed -/

theorem Bench.chanStop_keeps (why : Nat) (r : Nat × Bench) (ch : Fin 32) : r.2.KerfWork (Bench.chanStop why r ch).2 ∧
    ∀ j, j ≠ ch → (Bench.chanStop why r ch).2.kf.chans[j] = r.2.kf.chans[j] := by
  unfold Bench.chanStop
  dsimp only
  split
  · exact ⟨.recordEnd .., (Bench.ChanWork.refl.recordEnd _).chans⟩
  · exact ⟨.setChan .., fun j hj => Bench.setChan_other _ _ hj⟩

theorem Bench.chanStop_capturing {r : Nat × Bench} {ch : Fin 32} (h : (r.2.kf.chans[ch]).state = .capturing) :
    (Bench.chanStop 2 r ch).1 = r.1 + 1 ∧ (Bench.chanStop 2 r ch).2.kf.chans[ch] = (r.2.kf.chans[ch]).ended ch 2 := by
  unfold Bench.chanStop
  dsimp only
  rw [if_pos h]
  refine ⟨rfl, ?_⟩
  dsimp only
  rw [Bench.recordEnd_kf]
  exact Vector.getElem_set_self ..

theorem Bench.chanStop_other {r : Nat × Bench} {ch : Fin 32} (h : (r.2.kf.chans[ch]).state ≠ .capturing) :
    (Bench.chanStop 2 r ch).1 = r.1 ∧
      (Bench.chanStop 2 r ch).2.kf.chans[ch] = { r.2.kf.chans[ch] with state := .idle, before := [], after := [] } := by
  unfold Bench.chanStop
  dsimp only
  rw [if_neg h]
  exact ⟨rfl, Bench.setChan_self ..⟩

theorem Bench.chanStop_idle (r : Nat × Bench) (ch : Fin 32) : ((Bench.chanStop 2 r ch).2.kf.chans[ch]).state = .idle := by
  by_cases h : (r.2.kf.chans[ch]).state = .capturing
  · rw [(Bench.chanStop_capturing h).2]; rfl
  · rw [(Bench.chanStop_other h).2]

/-- All channels of a list disarmed: those that captured are counted. -/
theorem Bench.chanStops (l : List (Fin 32)) (hd : l.Nodup) (r : Nat × Bench) :
    let r' := l.foldl (Bench.chanStop 2) r
    r'.1 = r.1 + (l.filter fun j => (r.2.kf.chans[j]).state = .capturing).length ∧ r.2.KerfWork r'.2 ∧
      (∀ j ∈ l, (r'.2.kf.chans[j]).state = .idle) ∧ ∀ j, j ∉ l → r'.2.kf.chans[j] = r.2.kf.chans[j] := by
  induction l generalizing r with
  | nil => exact ⟨rfl, .refl, fun j h => absurd h List.not_mem_nil, fun j _ => rfl⟩
  | cons ch l ih =>
    rw [List.nodup_cons] at hd
    obtain ⟨hch, hd⟩ := hd
    obtain ⟨hk, hother⟩ := Bench.chanStop_keeps 2 r ch
    obtain ⟨h1, h2, h3, h4⟩ := ih hd (Bench.chanStop 2 r ch)
    have same : (l.filter fun j => ((Bench.chanStop 2 r ch).2.kf.chans[j]).state = .capturing) =
        l.filter fun j => (r.2.kf.chans[j]).state = .capturing :=
      List.filter_congr fun j hj => by rw [hother j fun h => hch (h ▸ hj)]
    have count : (Bench.chanStop 2 r ch).1 + (l.filter fun j => (r.2.kf.chans[j]).state = .capturing).length =
        r.1 + ((ch :: l).filter fun j => (r.2.kf.chans[j]).state = .capturing).length := by
      by_cases h : (r.2.kf.chans[ch]).state = .capturing
      · rw [(Bench.chanStop_capturing h).1, List.filter_cons_of_pos (by simpa using h), List.length_cons]
        omega
      · rw [(Bench.chanStop_other h).1, List.filter_cons_of_neg (by simpa using h)]
    refine ⟨by rw [List.foldl_cons, h1, same, count], hk.trans h2, fun j hj => ?_, fun j hj => ?_⟩
    · rcases List.mem_cons.1 hj with rfl | hj
      · rw [List.foldl_cons, h4 j hch]
        exact Bench.chanStop_idle r j
      · exact h3 j hj
    · rw [List.mem_cons, not_or] at hj
      rw [List.foldl_cons, h4 j hj.2, hother j hj.1]

end kerf

/-! ### Commands and samples -/

theorem channel_of_word : ∀ ch : Fin 32, (mkIx 31 (fld (BitVec.ofNat 32 ch.val) 4 0) : Fin 32) = ch ∧
    (mkIx 31 (BitVec.ofNat 32 ch.val).toNat : Fin 32) = ch ∧ ¬ 31 < (BitVec.ofNat 32 ch.val).toNat ∧
    BitVec.ofNat 32 ch.val ≠ 0xFF := by decide
theorem unit_of_word : ∀ u : Fin 8, (mkIx 7 (BitVec.ofNat 32 u.val).toNat : Fin 8) = u ∧ ¬ 7 < (BitVec.ofNat 32 u.val).toNat := by
  decide

/-- A command drains the updates into Kerf as the bench would have done before. -/
theorem Bench.drained (b : Bench) (c : Cmd) :
    ((b.accepted c).kerfDrain (b.accepted c).kfTaps.length).kf = (b.kerfDrain b.kfTaps.length).kf ∧
      b.Carries ((b.accepted c).kerfDrain (b.accepted c).kfTaps.length) := by
  have h : b.Beside (b.accepted c) := ⟨_, _, _, _, _, _, rfl⟩
  exact ⟨(Bench.Beside.onKerfDrain b.kfTaps.length h).kf,
    (Bench.Carries.accepted b c).trans (Bench.KerfWork.kerfDrain b.kfTaps.length (b.accepted c)).2⟩

/-- Whatever is then done to Kerf by a command, and its completion. -/
theorem completed_kerf {c : Cmd} {st : Status} {r : Nat} {b y z b' : Bench} (ha : b.Answers c) (h : b.Carries y)
    (hz : y.Carries z) (hq : b'.qc = (z.complete c st r).qc) : Completed c st r b b' :=
  completed_of_carries ha (h.trans hz) (.of_qc hq)

/-- The command KF_ARM on a channel, with the updates drained. -/
theorem execKfArm_serves {s : State} {c : Cmd} {w : Word} {ch : Fin 32} {pre post : Word} {P : Bench → Prop}
    (hw : mkIx 31 (fld w 4 0) = ch) (h31 : ¬ 31 < w.toNat) (ht : (s.bench c.bench).Takes modesRun)
    (hp : ∀ y q, (s.bench c.bench).Carries y →
      y.kf = ((s.bench c.bench).kerfDrain (s.bench c.bench).kfTaps.length).kf →
      P { (if post = 0 || (y.kf.chans[ch]).cap ≤ pre.toNat then y.refuse c .badParam
          else if (y.kf.chans[ch]).state ≠ .idle || !(y.kf.chans[ch]).en then y.refuse c .badState
          else if (y.kf.chans[ch]).cap < pre.toNat + post.toNat then
            y.complete c .postExceeds ((y.kf.chans[ch]).cap - pre.toNat)
          else (y.setChan ch { y.kf.chans[ch] with pre := pre.toNat, post := post.toNat }.arm).complete c .ok 0) with qn := q }) :
    Serves (.kfArm c w pre post) c s P := by
  subst hw
  refine serves_of_accept (exec_kfArm ..) ht fun q => ?_
  obtain ⟨hk, hc⟩ := (s.bench c.bench).drained c
  have h := hp _ q hc hk
  dsimp only
  rw [decide_eq_false h31, Bool.false_or]
  exact h

theorem execKfDisarm_serves {s : State} {c : Cmd} {w : Word} {ch : Fin 32} {P : Bench → Prop}
    (hw : mkIx 31 w.toNat = ch) (h31 : ¬ 31 < w.toNat) (hff : w ≠ 0xFF) (ht : (s.bench c.bench).Takes modesRun)
    (hp : ∀ y q, (s.bench c.bench).Carries y →
      y.kf = ((s.bench c.bench).kerfDrain (s.bench c.bench).kfTaps.length).kf →
      P { (Bench.chanStop 2 (0, y) ch).2.complete c .ok (Bench.chanStop 2 (0, y) ch).1 with qn := q }) :
    Serves (.kfDisarm c w) c s P := by
  subst hw
  refine serves_of_accept (exec_kfDisarm ..) ht fun q => ?_
  obtain ⟨hk, hc⟩ := (s.bench c.bench).drained c
  have h := hp _ q hc hk
  dsimp only
  rw [if_neg hff, if_neg h31]
  exact h

theorem execKfTrigger_serves {s : State} {c : Cmd} {w : Word} {u : Fin 8} {P : Bench → Prop}
    (hw : mkIx 7 w.toNat = u) (h7 : ¬ 7 < w.toNat) (ht : (s.bench c.bench).Takes modesRun)
    (hp : ∀ y q, (s.bench c.bench).Carries y →
      y.kf = ((s.bench c.bench).kerfDrain (s.bench c.bench).kfTaps.length).kf →
      P { ((y.setUnit u { y.kf.units[u] with up := false, down := false }).unitFire u
        ((s.bench c.bench).acceptance / 10 * 10)).complete c .ok ((s.bench c.bench).acceptance / 10 * 10) with qn := q }) :
    Serves (.kfTrigger c w) c s P := by
  subst hw
  refine serves_of_accept (exec_kfTrigger ..) ht fun q => ?_
  obtain ⟨hk, hc⟩ := (s.bench c.bench).drained c
  have h := hp _ q hc hk
  dsimp only
  rw [if_neg h7]
  exact h

theorem KfChan.ended_record (ch : Fin 32) (why : Nat) (c : KfChan) :
    Tbl.get none (c.ended ch why).records c.next = some (c.recordAt ch why) := by
  change Tbl.get none (Tbl.set none c.records c.next (some (c.recordAt ch why))) c.next = _
  exact Tbl.get_set_self

/-- The record in which a capture that is disarmed ends. -/
theorem KfChan.recordAt_disarmed (ch : Fin 32) (c : KfChan) :
    fld ((c.recordAt ch 2).header.headD 0) 31 28 = 2 ∧ (c.recordAt ch 2).unread = true := by
  have code : ∀ (short : Fin 2) (unit : Fin 8) (ct : Fin 4) (ch : Fin 32),
      fld (at32 2 28 ||| at32 short.val 27 ||| at32 unit 24 ||| at32 ch.val 16 ||| at32 ct 8) 31 28 = 2 := by
    decide +kernel
  refine ⟨?_, rfl⟩
  have hu : c.unit < 8 := Nat.mod_lt _ (by decide)
  have ht : c.ctype < 4 := Nat.mod_lt _ (by decide)
  have hb (x : Bool) : b2n x < 2 := by cases x <;> decide
  exact code ⟨_, hb _⟩ ⟨_, hu⟩ ⟨_, ht⟩ ch

/-- The channel after KF_READ of a record. -/
def KfChan.read (c : Cmd) (w : Word) (r : KfRecord) (x : KfChan) : KfChan :=
  let x := if bitOf w 16 && listHolds c r.words then
    { x with records := Tbl.set none x.records (fld w 15 8) (some { r with unread := false }) } else x
  if x.state = .full then x.arm else x

theorem execKfRead_serves {s : State} {c : Cmd} {w : Word} {r : KfRecord} {P : Bench → Prop}
    (ht : (s.bench c.bench).Takes modesAny) (hw : w &&& 0xFFFE00E0#32 = 0)
    (hr : Tbl.get none ((s.bench c.bench).kf.chans[(mkIx 31 (fld w 4 0) : Fin 32)]).records (fld w 15 8) = some r)
    (hp : ∀ q, P { (((s.bench c.bench).accepted c).setChan (mkIx 31 (fld w 4 0))
      (((s.bench c.bench).kf.chans[(mkIx 31 (fld w 4 0) : Fin 32)]).read c w r)).readDone c r.words (4 * r.words.length)
      with qn := q }) : Serves (.kfRead c w) c s P := by
  refine serves_of_accept (exec_kfRead ..) ht fun q => ?_
  rw [if_neg (not_not.2 hw)]
  rw [show Tbl.get none (((s.bench c.bench).accepted c).kf.chans[(mkIx 31 (fld w 4 0) : Fin 32)]).records (fld w 15 8) = some r
    from hr]
  exact hp q

theorem KfChan.read_unread {c : Cmd} {w : Word} {r : KfRecord} {x : KfChan} (h : bitOf w 16 = true)
    (hl : r.words.length ≤ c.buf / 4) (hs : x.state ≠ .full) :
    Tbl.get none (x.read c w r).records (fld w 15 8) = some { r with unread := false } := by
  unfold KfChan.read
  rw [h, show listHolds c r.words = true from decide_eq_true hl, Bool.and_self]
  dsimp only
  rw [if_pos rfl, if_neg hs]
  change Tbl.get none (Tbl.set none x.records (fld w 15 8) (some { r with unread := false })) (fld w 15 8) = _
  exact Tbl.get_set_self

theorem KfChan.read_partial {c : Cmd} {w : Word} {r : KfRecord} {x : KfChan} (hl : c.buf / 4 < r.words.length)
    (hs : x.state ≠ .full) : x.read c w r = x := by
  unfold KfChan.read
  rw [show listHolds c r.words = false from decide_eq_false (Nat.not_le.2 hl), Bool.and_false]
  dsimp only
  rw [if_neg Bool.false_ne_true, if_neg hs]

theorem Bench.Carries.acceptedChan (b : Bench) (c : Cmd) (ch : Fin 32) (x : KfChan) :
    b.Carries ((b.accepted c).setChan ch x) := (Bench.Carries.accepted b c).trans (.of_qc rfl)

theorem Bench.setChan_same (b : Bench) (ch : Fin 32) : (b.setChan ch b.kf.chans[ch]).kf = b.kf := by
  unfold Bench.setChan Bench.setKerf
  dsimp only
  rw [show b.kf.chans.set ch.val b.kf.chans[ch] ch.isLt = b.kf.chans from Vector.set_getElem_self ..]

/-- A unit that is ready and watches a digital input fires when the input is 1. -/
theorem Bench.digital_fires {z : Bench} {u : Fin 8} {raw : Word} {e : Point} (hs : (z.kf.units[u]).stype = 2)
    (hsrc : (z.kf.units[u]).source < 16) (hbit : bitOf raw (z.kf.units[u]).source = true) (hup : (z.kf.units[u]).up = true)
    (hm : (z.kf.units[u]).hmode = false) (hu : (z.kf.units[u]).until_ = none) :
    ((z.kerfSample 2 2 0 3 true
      (fun x => if x.source < 16 then some (if bitOf raw x.source then 1 else 0) else none) e).kf.units[u]).count =
        inc (z.kf.units[u]).count ∧
    ((z.kerfSample 2 2 0 3 true
      (fun x => if x.source < 16 then some (if bitOf raw x.source then 1 else 0) else none) e).kf.units[u]).up = false := by
  refine Bench.kerfSample_unit (v := 1) (P := fun x => x.count = inc (z.kf.units[u]).count ∧ x.up = false)
    (by rw [if_pos hsrc, if_pos hbit]) hs hu fun b' hb' => ?_
  have hlev (y : Word) : (if bitOf y 0 then (1 : Int) else 0) ≤ 1 := by split <;> decide
  have hhys (y : Word) : 0 ≤ (if bitOf y 0 then (1 : Int) else 0) := by split <;> decide
  rw [← hb'] at hup hm hu ⊢
  exact Bench.unitSample_rises b' (fmt := 3) rfl rfl rfl (hlev _) (hhys _) hup hm hu

/-- The microsecond's sample of the digital inputs, in RUN. -/
theorem execTriggerSample_digital {s : State} {n : BenchIx} {t : Nat} {P : Bench → Prop}
    (hm : ((s.bench n).tick t).bn.mode = .run)
    (hp : ∀ q, P { ((s.bench n).tick t).kerfSample 2 2 0 3 true
      (fun u => if u.source < 16 then some (if bitOf ((s.bench n).tick t).fc.seen.raw u.source then 1 else 0) else none)
      { value := ((s.bench n).tick t).fc.seen.raw, quality := qLive, flags := 0,
        stamp := ((s.bench n).tick t).rail.now / 1000 * 1000 } with qn := q }) : Gives (.triggerSample n t .digital) n s P := by
  refine gives_of_onBench (exec_triggerSample ..) fun q => ?_
  dsimp only
  rw [if_neg (not_not.2 hm)]
  exact hp q

/-- Settles O39: drains, triggers and samples channel by channel; a channel that is disarmed ends its record. -/
theorem kerfCapturesAroundTheTrigger : Obligations.KerfCapturesAroundTheTrigger := by
  intro s c n t ch u w pre post r b d x y at' z raw k v l seg
  obtain ⟨w1, w2, w3, w4⟩ := channel_of_word ch
  obtain ⟨u1, u2⟩ := unit_of_word u
  refine ⟨fun ht ha => ⟨fun h0 hpre hs hen => ⟨fun hfit => ?arm, fun hfit => ?exceeds⟩, fun hcap => ?badArm, fun hs => ?stop,
    fun hs => ?stopIdle, ?stopAll, fun hm hu => ?fire, fun e hm hu he => ?miss⟩, fun ht ha hw => ⟨fun hr hl => ?read,
    fun hr hl hs => ?readPart, fun hr => ?readNone⟩, fun hm src => ?notRun, fun hm => ⟨fun hst hsrc hbit hup hh hu => ?digital,
    fun hn hen hct hb => ⟨fun hs => ?armed, fun hs htm hpost => ?capturing⟩⟩, fun hs => ?rearm⟩
  case arm =>
    refine execKfArm_serves w1 w3 ht fun y q hc hk => ?_
    rw [show y.kf = d.kf from hk]
    have e1 : ¬ (decide (post = 0) || decide ((d.kf.chans[ch]).cap ≤ pre.toNat)) = true := by
      rw [decide_eq_false h0, decide_eq_false (show ¬ (d.kf.chans[ch]).cap ≤ pre.toNat from Nat.not_le.2 hpre)]
      decide
    have e2 : ¬ (decide ((d.kf.chans[ch]).state ≠ .idle) || !(d.kf.chans[ch]).en) = true := by
      rw [show (d.kf.chans[ch]).state = .idle from hs, show (d.kf.chans[ch]).en = true from hen]
      decide
    rw [if_neg e1, if_neg e2, if_neg (Nat.not_lt.2 hfit)]
    refine ⟨completed_kerf ha hc (Bench.KerfWork.setChan ..).2 rfl, ?_⟩
    simp only [Bench.complete_kf, Bench.setChan_self]
    unfold KfChan.arm KfChan.blocked
    dsimp only
    generalize Tbl.get none (d.kf.chans[ch]).records (d.kf.chans[ch]).next = rec_
    cases rec_ with
    | none => exact ⟨rfl, rfl, rfl, rfl⟩
    | some rec_ => dsimp only; split <;> exact ⟨rfl, rfl, rfl, rfl⟩
  case exceeds =>
    refine execKfArm_serves w1 w3 ht fun y q hc hk => ?_
    rw [show y.kf = d.kf from hk]
    have e1 : ¬ (decide (post = 0) || decide ((d.kf.chans[ch]).cap ≤ pre.toNat)) = true := by
      rw [decide_eq_false h0, decide_eq_false (show ¬ (d.kf.chans[ch]).cap ≤ pre.toNat from Nat.not_le.2 hpre)]
      decide
    have e2 : ¬ (decide ((d.kf.chans[ch]).state ≠ .idle) || !(d.kf.chans[ch]).en) = true := by
      rw [show (d.kf.chans[ch]).state = .idle from hs, show (d.kf.chans[ch]).en = true from hen]
      decide
    rw [if_neg e1, if_neg e2, if_pos hfit]
    exact ⟨completed_kerf ha hc .refl rfl, (Bench.complete_kf ..).trans hk⟩
  case badArm =>
    refine execKfArm_serves w1 w3 ht fun y q hc hk => ?_
    rw [show y.kf = d.kf from hk, 
      decide_eq_true (show (d.kf.chans[ch]).cap ≤ pre.toNat from hcap), Bool.or_true, if_pos rfl]
    exact ⟨completed_kerf ha hc .refl rfl, (Bench.refuse_kf ..).trans hk⟩
  case stop =>
    refine execKfDisarm_serves w2 w3 w4 ht fun y q hc hk => ?_
    have hs' : (y.kf.chans[ch]).state = .capturing := by rw [hk]; exact hs
    obtain ⟨h1, h2⟩ := Bench.chanStop_capturing (r := (0, y)) hs'
    have hw := (Bench.chanStop_keeps 2 (0, y) ch).1
    generalize Bench.chanStop 2 (0, y) ch = r' at *
    obtain ⟨h3, h4⟩ := KfChan.recordAt_disarmed ch x
    rw [h1]
    refine ⟨completed_kerf ha hc hw.2 rfl, ?_⟩
    simp only [Bench.complete_kf]
    rw [h2, hk]
    exact ⟨rfl, _, KfChan.ended_record .., h3, h4⟩
  case stopIdle =>
    refine execKfDisarm_serves w2 w3 w4 ht fun y q hc hk => ?_
    have hs' : (y.kf.chans[ch]).state ≠ .capturing := by rw [hk]; exact hs
    obtain ⟨h1, h2⟩ := Bench.chanStop_other (r := (0, y)) hs'
    have hw := (Bench.chanStop_keeps 2 (0, y) ch).1
    generalize Bench.chanStop 2 (0, y) ch = r' at *
    rw [h1]
    refine ⟨completed_kerf ha hc hw.2 rfl, ?_⟩
    simp only [Bench.complete_kf]
    rw [h2, hk]
    exact ⟨rfl, rfl⟩
  case stopAll =>
    refine serves_of_accept (exec_kfDisarm ..) ht fun q => ?_
    obtain ⟨hk, hc⟩ := b.drained c
    dsimp only
    rw [if_pos rfl]
    generalize Bench.kerfDrain _ (Bench.accepted c (s.bench c.bench)) = y at *
    obtain ⟨h1, h2, h3, -⟩ := Bench.chanStops (List.finRange 32) (List.nodup_finRange 32) (0, y)
    generalize (List.finRange 32).foldl (Bench.chanStop 2) (0, y) = r' at *
    rw [h1, Nat.zero_add, hk]
    refine ⟨completed_kerf ha hc h2.2 rfl, fun j => ?_⟩
    simp only [Bench.complete_kf]
    exact h3 j (List.mem_finRange j)
  case fire =>
    refine execKfTrigger_serves u1 u2 ht fun y' q hc hk => ?_
    have hy : y'.kf.units[u] = y := by rw [hk]
    have hf := Bench.unitFire_free (b := y'.setUnit u { y'.kf.units[u] with up := false, down := false }) (u := u)
      (time := at') (by rw [Bench.setUnit_self, hy]; exact hm) (by rw [Bench.setUnit_self, hy]; exact hu)
    rw [Bench.setUnit_self, hy] at hf
    have hw := (Bench.KerfWork.setUnit y' u { y'.kf.units[u] with up := false, down := false }).trans (.unitFire _ u at')
    rw [hy] at hw ⊢
    refine ⟨completed_kerf ha hc hw.2 rfl, ?_⟩
    simp only [Bench.complete_kf]
    rw [hf]
    exact ⟨rfl, rfl, rfl, if_neg (by simpa [KfUnit.hmode] using hm)⟩
  case miss =>
    refine execKfTrigger_serves u1 u2 ht fun y' q hc hk => ?_
    have hy : y'.kf.units[u] = y := by rw [hk]
    obtain ⟨h1, h2, h3⟩ := Bench.unitFire_held (b := y'.setUnit u { y'.kf.units[u] with up := false, down := false }) (u := u)
      (time := at') (e := e) (by rw [Bench.setUnit_self, hy]; exact hm) (by rw [Bench.setUnit_self, hy]; exact hu)
    rw [Bench.setUnit_self, hy] at h1
    have hw := (Bench.KerfWork.setUnit y' u { y'.kf.units[u] with up := false, down := false }).trans (.unitFire _ u at')
    rw [hy] at hw h2 h3 ⊢
    refine ⟨completed_kerf ha hc hw.2 rfl, ?_⟩
    simp only [Bench.complete_kf]
    rw [h1, h2, h3]
    exact ⟨rfl, rfl, by rw [← hk]; rfl, by rw [← hk]; rfl⟩
  case read =>
    refine execKfRead_serves ht hw hr fun q => ?_
    obtain ⟨h1, h2⟩ := Bench.readDone_ok ha (Bench.Carries.acceptedChan b c (mkIx 31 (fld w 4 0)) (l.read c w r)) hl rfl
    refine ⟨h1, h2, Bench.readDone_points .., fun h16 hs => ?_⟩
    simp only [Bench.readDone_kf]
    exact (congrArg (fun y => Tbl.get none y.records seg) (Bench.setChan_self ..)).trans (KfChan.read_unread h16 hl hs)
  case readPart =>
    refine execKfRead_serves ht hw hr fun q => ?_
    obtain ⟨h1, h2⟩ := Bench.readDone_partial ha (Bench.Carries.acceptedChan b c (mkIx 31 (fld w 4 0)) (l.read c w r)) hl rfl
    refine ⟨h1, h2, ?_, Bench.readDone_points ..⟩
    simp only [Bench.readDone_kf]
    rw [show l.read c w r = l from KfChan.read_partial hl hs]
    exact Bench.setChan_same (b.accepted c) _
  case readNone =>
    refine serves_of_accept (exec_kfRead ..) ht fun q => ?_
    rw [if_neg (not_not.2 hw)]
    rw [show Tbl.get none ((b.accepted c).kf.chans[(mkIx 31 (fld w 4 0) : Fin 32)]).records (fld w 15 8) = none from hr]
    exact ⟨completed_accepted ha (b₁ := b.accepted c) rfl rfl, Bench.refuse_kf ..⟩
  case notRun =>
    refine gives_of_onBench (exec_triggerSample ..) fun q => ?_
    dsimp only
    rw [if_pos (show z.bn.mode ≠ .run from hm)]
    exact ⟨rfl, rfl⟩
  case digital =>
    refine execTriggerSample_digital hm fun q => ?_
    obtain ⟨h1, h2⟩ := Bench.digital_fires (e := raw) hst hsrc hbit hup hh hu
    have hw := Bench.KerfWork.kerfSample z 2 2 0 3 true
      (fun u => if u.source < 16 then some (if bitOf z.fc.seen.raw u.source then 1 else 0) else none) raw
    exact ⟨h1, h2, hw.points⟩
  case armed =>
    refine execTriggerSample_digital hm fun q => ?_
    have h := Bench.kerfSample_chan (b := z) (st := 2) (fmt := 3) (good := true) (e := raw) (ch := ch)
      (w := fun u => if u.source < 16 then some (if bitOf z.fc.seen.raw u.source then 1 else 0) else none)
      (x := { k with before := (raw :: k.before).take k.cap }) hn hen hct hb fun b' hc hr => by
        rw [Bench.chanStore_armed hr (by rw [hc]; exact hs), hc]
    dsimp only
    rw [h]
    exact ⟨rfl, hs⟩
  case capturing =>
    refine execTriggerSample_digital hm fun q => ?_
    have h := Bench.kerfSample_chan (b := z) (st := 2) (fmt := 3) (good := true) (e := raw) (ch := ch)
      (w := fun u => if u.source < 16 then some (if bitOf z.fc.seen.raw u.source then 1 else 0) else none)
      (x := { k with after := k.after ++ [raw] }) hn hen hct hb fun b' hc hr => by
        rw [Bench.chanStore_capturing hr (by rw [hc]; exact hs) (by rw [hc]; exact htm) (by rw [hc]; exact hpost), hc]
    dsimp only
    rw [h]
    exact ⟨rfl, hs⟩
  case rearm =>
    refine gives_of_onBench (exec_rearmDone ..) fun q => ?_
    dsimp only
    rw [if_pos (show (z.kf.chans[ch]).state = .rearm from hs)]
    refine ⟨rfl, ?_⟩
    rw [Bench.setChan_self]
    unfold KfChan.arm
    split <;> simp_all [k, z]

end Sys2Proof.Machine
end

section
/-!
CAN frames: pending, offered, sent
-/

namespace Sys2Proof.Machine

/-! ### Pending frames that pass their test -/

/-- Frames without the note that they have passed. -/
def barePending (l : List CanPending) : List CanPending := l.map fun q => { q with passed := false }

/-- The controller after offers that all passed: no frame is gone, and nothing but the note has changed. -/
def Can.Tested (c c' : Can) : Prop :=
  ∃ l u, c' = { c with pending := l, urgent := u } ∧ barePending l = barePending c.pending

theorem Can.Tested.refl (c : Can) : c.Tested c := ⟨_, _, rfl, rfl⟩

theorem Can.tested_pass (c : Can) (p : CanPending) : c.Tested (c.pass p) := by
  refine ⟨_, _, rfl, ?_⟩
  unfold barePending
  rw [List.map_map]
  refine List.map_congr_left fun q _ => ?_
  dsimp only [Function.comp]
  split <;> rfl

theorem bestPending_mem {l : List CanPending} {p : CanPending} (h : bestPending l = some p) : p ∈ l := by
  have go : ∀ (l : List CanPending) (m : Option CanPending),
      l.foldl (fun m p => match m with | some x => if p.before x then some p else m | none => some p) m = some p →
        m = some p ∨ p ∈ l := by
    intro l
    induction l with
    | nil => exact fun m h => .inl h
    | cons q l ih =>
      intro m h
      rcases ih _ h with h | h
      · cases m with
        | none => exact .inr (Option.some.inj h ▸ List.mem_cons_self)
        | some x =>
          dsimp only at h
          split at h
          · exact .inr (Option.some.inj h ▸ List.mem_cons_self)
          · exact .inl h
      · exact .inr (List.mem_cons_of_mem _ h)
  rcases go l none h with h | h
  · cases h
  · exact h

/-- The frame offered is the urgent one or a pending one. -/
theorem Can.offer_mem {c : Can} {t : Nat} {p : CanPending} (h : c.offer t = some p) : c.urgent = some p ∨ p ∈ c.pending := by
  unfold Can.offer at h
  split at h
  · next u hu => exact .inl (hu.trans h)
  · exact .inr (List.mem_of_mem_filter (bestPending_mem h))

/-- Every frame of a controller is on the list in force. -/
def Bench.AllAllowed (b : Bench) (k : Fin 2) (c : Can) : Prop :=
  (∀ q ∈ c.pending, b.canAllowed k q.frame = true) ∧ ∀ u, c.urgent = some u → b.canAllowed k u.frame = true

theorem Bench.canAllowed_congr {b b' : Bench} (h : b'.gd = b.gd) (k : Fin 2) (f : CanFrame) :
    b'.canAllowed k f = b.canAllowed k f := by
  unfold Bench.canAllowed Bench.guard
  rw [h]

theorem Bench.setCan_self (b : Bench) (k : Fin 2) (f : Can → Can) : (b.setCan k f).can[k] = f b.can[k] := upd_self ..

theorem Bench.setCan_same {b : Bench} {k : Fin 2} {f : Can → Can} (h : f b.can[k] = b.can[k]) : b.setCan k f = b := by
  unfold Bench.setCan upd
  rw [h]
  simp

/-- Offers of frames that are all allowed only note that they have passed. -/
theorem Bench.canOffer_allowed {b : Bench} {k : Fin 2} {t : Nat} (h : b.AllAllowed k b.can[k]) (m : Nat) :
    ∃ f, b.canOffer k t m = b.setCan k f ∧ (b.can[k]).Tested (f b.can[k]) := by
  have same : ∃ f, b = b.setCan k f ∧ (b.can[k]).Tested (f b.can[k]) :=
    ⟨id, (Bench.setCan_same rfl).symm, .refl _⟩
  cases m with
  | zero => exact same
  | succ m =>
    unfold Bench.canOffer
    split
    · exact same
    · split
      · next p hp =>
        have ha : b.canAllowed k p.frame = true := by
          rcases Can.offer_mem hp with hu | hm
          · exact h.2 p hu
          · exact h.1 p hm
        split
        · exact same
        · exact ⟨_, rfl, Can.tested_pass ..⟩
      · exact same

theorem Bench.canEval_allowed {b : Bench} {k : Fin 2} (h : b.AllAllowed k b.can[k]) :
    (b.canEval k).points = b.points ∧ (b.can[k]).Tested (b.canEval k).can[k] := by
  obtain ⟨f, he, ht⟩ := Bench.canOffer_allowed (t := b.rail.now) h ((b.can[k]).pending.length + 2)
  unfold Bench.canEval
  rw [he, Bench.setCan_self]
  exact ⟨rfl, ht⟩

/-- The same after a change of the controller. -/
theorem Bench.setCan_canEval {b : Bench} {k : Fin 2} {g : Can → Can} (h : b.AllAllowed k (g b.can[k])) :
    ((b.setCan k g).canEval k).points = b.points ∧ (g b.can[k]).Tested ((b.setCan k g).canEval k).can[k] := by
  have hg : (b.setCan k g).AllAllowed k (b.setCan k g).can[k] := by
    rw [Bench.setCan_self]
    exact h
  have := Bench.canEval_allowed hg
  rwa [Bench.setCan_self] at this

theorem Can.Tested.bare {c c' : Can} (h : c.Tested c') : barePending c'.pending = barePending c.pending := by
  obtain ⟨l, u, rfl, h⟩ := h
  exact h

theorem barePending_append (l r : List CanPending) : barePending (l ++ r) = barePending l ++ barePending r :=
  List.map_append

/-- A bus that is free again forgets withdrawn frames and the notes. -/
theorem Can.purge_bare (c : Can) : barePending c.purge.pending = barePending (c.pending.filter (·.dead.isNone)) := by
  unfold Can.purge barePending
  rw [List.map_map]
  rfl

theorem Bench.AllAllowed.purge {b : Bench} {k : Fin 2} {c : Can} (h : b.AllAllowed k c) : b.AllAllowed k c.purge := by
  obtain ⟨hp, hu⟩ := h
  refine ⟨fun q hq => ?_, fun u hq => ?_⟩
  · obtain ⟨x, hx, rfl⟩ := List.mem_map.1 hq
    exact hp x (List.mem_of_mem_filter hx)
  · obtain ⟨x, hx, rfl⟩ := Option.map_eq_some_iff.1 hq
    exact hu x hx

theorem Bench.AllAllowed.congr {b b' : Bench} {k : Fin 2} {c : Can} (h : b.AllAllowed k c) (hg : b'.gd = b.gd) :
    b'.AllAllowed k c := by
  obtain ⟨hp, hu⟩ := h
  exact ⟨fun q hq => (Bench.canAllowed_congr hg ..).trans (hp q hq), fun u hq => (Bench.canAllowed_congr hg ..).trans (hu u hq)⟩

/-! ### A denied frame -/

theorem Bench.canDenied_can (b : Bench) (k : Fin 2) (p : CanPending) :
    (b.canDenied k p).can[k] =
      { (b.can[k]).count 7 with
        pending := (b.can[k]).pending.filter (fun x => x ≠ p)
        urgent := if (b.can[k]).urgent = some p then none else (b.can[k]).urgent } := by
  unfold Bench.canDenied Bench.canEvent
  rw [Bench.raise_can]
  unfold Bench.guardDeny
  cases p.src <;> exact Bench.setCan_self ..

theorem Bench.canDenied_bit (b : Bench) (k : Fin 2) (p : CanPending) :
    bitOf (b.canDenied k p).ev[(if k = 0 then 14 else 15 : Fin 18)] 7 = true :=
  Bench.raise_bit _ _ (by decide) ..

/-- A frame with a note is another one than a frame without. -/
theorem Can.pass_not_mem {c : Can} {p q : CanPending} (hp : p.passed = false) (h : p ∉ c.pending) : p ∉ (c.pass q).pending := by
  intro hm
  obtain ⟨x, hx, he⟩ := List.mem_map.1 hm
  split at he
  · rw [← he] at hp
    cases hp
  · exact h (he ▸ hx)

/-- The frame p is gone and its denial noted, no point touched. -/
def Bench.Gone (k : Fin 2) (p : CanPending) (b b' : Bench) : Prop :=
  p ∉ (b'.can[k]).pending ∧ b'.points = b.points ∧ bitOf b'.ev[(if k = 0 then 14 else 15 : Fin 18)] 7 = true

/-- Further offers do not bring back a frame that is gone. -/
theorem Bench.canOffer_gone {k : Fin 2} {t : Nat} {p : CanPending} (hp : p.passed = false) (m : Nat) {b₀ b : Bench}
    (h : Bench.Gone k p b₀ b) : Bench.Gone k p b₀ (b.canOffer k t m) := by
  induction m generalizing b with
  | zero => exact h
  | succ m ih =>
    obtain ⟨hg, hq, he⟩ := h
    unfold Bench.canOffer
    split
    · exact ⟨hg, hq, he⟩
    · split
      · next q _ =>
        split
        · exact ⟨hg, hq, he⟩
        · split
          · refine ⟨?_, hq, he⟩
            rw [Bench.setCan_self]
            exact Can.pass_not_mem hp hg
          · refine ih ⟨?_, (Bench.canDenied_points ..).trans hq, Bench.canDenied_bit ..⟩
            rw [Bench.canDenied_can]
            exact fun hm => hg (List.mem_of_mem_filter hm)
      · exact ⟨hg, hq, he⟩

/-- A frame without a note is denied where it is offered first. -/
theorem Bench.canEval_denied {b : Bench} {k : Fin 2} {p : CanPending} (hn : (b.can[k]).state.normal = true)
    (ho : (b.can[k]).offer b.rail.now = some p) (hp : p.passed = false) (ha : b.canAllowed k p.frame = false) :
    Bench.Gone k p b (b.canEval k) := by
  have e : b.canEval k = (b.canDenied k p).canOffer k b.rail.now ((b.can[k]).pending.length + 1) := by
    unfold Bench.canEval
    rw [Bench.canOffer]
    simp only [hn, ho, hp, ha, Bool.not_true, Bool.false_eq_true, if_false]
  rw [e]
  refine Bench.canOffer_gone hp _ ⟨?_, Bench.canDenied_points .., Bench.canDenied_bit ..⟩
  rw [Bench.canDenied_can]
  exact fun hm => by simpa using List.of_mem_filter hm

theorem Can.purge_offer_passed {c : Can} {t : Nat} {p : CanPending} (h : c.purge.offer t = some p) : p.passed = false := by
  rcases Can.offer_mem h with hu | hm
  · obtain ⟨x, _, rfl⟩ := Option.map_eq_some_iff.1 hu
    rfl
  · obtain ⟨x, _, rfl⟩ := List.mem_map.1 hm
    rfl

/-! ### What the cut of an object's point slots changes -/

/-- The controller has at most counted, but replaced no frame. -/
def Can.Slotted (c c' : Can) : Prop := ∃ cnt, c' = { c with cnt := cnt } ∧ cnt[(6 : Fin 12)] = c.cnt[(6 : Fin 12)]

theorem Bench.canSlot_slotted (k : Fin 2) (a : Nat) (r : List Word × Bench) (p : Nat) {c : Can} (h : c.Slotted r.2.can[k]) :
    c.Slotted (Bench.canSlot k a r p).2.can[k] := by
  unfold Bench.canSlot
  dsimp only
  split
  · obtain ⟨cnt, hc, h6⟩ := h
    refine ⟨upd cnt 5 inc, ?_, (upd_other _ _ (by decide)).trans h6⟩
    rw [Bench.setCan_self, Bench.markPoint_can, hc]
    rfl
  · exact h

theorem Bench.canSlots_slotted (k : Fin 2) (a : Nat) (l : List Nat) (r : List Word × Bench) {c : Can} (h : c.Slotted r.2.can[k]) :
    c.Slotted (l.foldl (Bench.canSlot k a) r).2.can[k] := by
  induction l generalizing r with
  | nil => exact h
  | cons p l ih => exact ih _ (Bench.canSlot_slotted k a r p h)

/-- Cutting an object's data at most counts, and takes PAYLOAD alone where it is not live. -/
theorem Bench.objData_spec (k : Fin 2) (n a : Nat) (live : Bool) (b : Bench) : ∃ ws vals b',
    b.objData k n a live = ((ws, vals), b') ∧ (b.can[k]).Slotted b'.can[k] ∧
      (live = false → ws = frameWords (b.objFrame k n).bytes (b.objPayload k n)) := by
  unfold Bench.objData
  dsimp only
  split
  · next h => exact ⟨_, _, _, rfl, Bench.canSlots_slotted k a _ ([], b) ⟨_, rfl, rfl⟩, fun hl => absurd h (by simp [hl])⟩
  · exact ⟨_, _, _, rfl, ⟨_, rfl, rfl⟩, fun _ => rfl⟩

/-- The pending frames after the cut of an object's frame. -/
def Can.joined (c : Can) (n : Nat) (begun : Bool) (p : CanPending) : List CanPending :=
  (if begun || !c.pending.any (fun q => q.src = .object n && q.dead.isNone) then c.pending
    else c.pending.filter fun q => q.src ≠ .object n) ++ [p]

/-- An object's frame joins the pending frames in its place; a frame that it replaces is counted. -/
theorem Bench.objPend_spec {b : Bench} {k : Fin 2} {n a : Nat} {begun : Bool}
    (hu : ∀ u, (b.can[k]).urgent = some u → u.src ≠ .object n) :
    ∃ ws vals, ((b.objPend k n a begun).can[k]).pending =
        (b.can[k]).joined n begun { src := .object n, frame := { b.objFrame k n with data := ws }, time := a, vals := vals } ∧
      (b.bn.mode ≠ .run → ws = frameWords (b.objFrame k n).bytes (b.objPayload k n)) ∧
      ((b.can[k]).pending.any (fun q => q.src = .object n && q.dead.isNone) = true → begun = false →
        ((b.objPend k n a begun).can[k]).cnt[(6 : Fin 12)] = inc (b.can[k]).cnt[(6 : Fin 12)]) := by
  obtain ⟨ws, vals, b₁, hd, ⟨cnt, hc, h6⟩, hw⟩ := b.objData_spec k n a (b.bn.mode = .run)
  refine ⟨ws, vals, ?_⟩
  have hf : b₁.objFrame k n = b.objFrame k n := by
    unfold Bench.objFrame Bench.ow
    rw [hc]
    rfl
  have hu₁ : (b₁.can[k]).urgent = (b.can[k]).urgent := by rw [hc]
  have hp₁ : (b₁.can[k]).pending = (b.can[k]).pending := by rw [hc]
  have hn : ¬ ((match (b₁.can[k]).urgent with | some u => (u.src = .object n : Bool) | none => false) && !begun) = true := by
    rw [hu₁]
    cases h : (b.can[k]).urgent with
    | none => exact Bool.false_ne_true
    | some u => simp [hu u h]
  unfold Bench.objPend Can.joined
  rw [hd]
  dsimp only
  rw [hf, if_neg, hp₁]
  case hnc => exact hn
  have hset (f : Can → Can) : (b₁.setCan k f).can[k] = f { b.can[k] with cnt := cnt } := by rw [Bench.setCan_self, hc]
  refine ⟨?_, fun hr => hw (by simpa using hr), fun ho hb => ?_⟩
  · split
    · next h =>
      rw [Bool.and_eq_true] at h
      rw [hset, if_neg (by simp_all)]
    · next h =>
      rw [hset, if_pos (by cases begun <;> simp_all)]
  · subst hb
    rw [if_pos (by simpa using ho), hset]
    exact (upd_self ..).trans (congrArg inc h6)

/-! ### The rows of transmission -/

/-- Dropping a packet takes one packet end away. -/
theorem Fifo.dropPacket_pkts {f : Fifo} (h : f.pkts ≠ 0) : f.dropPacket.pkts + 1 = f.pkts := by
  have hw : f.dropPacket.words = (f.words.dropWhile fun y => !y.2).drop 1 := (Fifo.dropPacket_spec (Nat.pos_of_ne_zero h)).1
  unfold Fifo.pkts at *
  rw [hw]
  clear hw
  generalize f.words = l at h ⊢
  induction l with
  | nil => exact absurd rfl h
  | cons y l ih =>
    cases hy : y.2
    · rw [List.filter_cons_of_neg (by simp [hy])] at h ⊢
      rw [List.dropWhile_cons_of_pos (by simp [hy])]
      exact ih h
    · simp [hy]

/-- A FIFO packet is offered as a frame, or dropped where it is none. -/
def Bench.offerPacket (k : Fin 2) (j : Fin 32) (fr : Option CanFrame) (b : Bench) : Bench :=
  match fr with
  | none => (b.setFifo j Fifo.dropPacket).setCan k (Can.count 11)
  | some fr =>
    let p : CanPending := { src := .fifo j, frame := fr, time := b.rail.now }
    (b.setCan k fun c => { c with pending := c.pending ++ [p] }).canEval k

section rows

variable {s : State} {n : BenchIx} {t : Nat} {k : Fin 2} {x : Bench} {z : Can}

theorem objectCut_gives {i : Fin 48} {begun : Bool} (hx : x = (s.bench n).canTick t) (hz : z = x.can[k])
    (hen : x.canEn k = true) (ho : x.objEn k i = true) (hi : x.objInstant k i (x.rail.now + 1000) = true)
    (hm : x.bn.mode = .run ∨ x.bn.mode = .hold) (h1 : z.state ≠ .off) (h2 : z.state ≠ .monitoring) (h3 : z.state ≠ .busOff)
    (hu : ∀ u, z.urgent = some u → u.src ≠ .object i) :
    Gives (.objectCut n t k i begun) n s fun b' => (∃ ws vals, (b'.can[k]).pending =
        z.joined i begun { src := .object i, frame := { x.objFrame k i with data := ws }, time := x.rail.now + 1000, vals := vals } ∧
        (x.bn.mode = .hold → ws = frameWords (x.objFrame k i).bytes (x.objPayload k i))) ∧
      (z.pending.any (fun q => q.src = .object i && q.dead.isNone) = true → begun = false →
        (b'.can[k]).cnt[(6 : Fin 12)] = inc z.cnt[(6 : Fin 12)]) := by
  subst hz
  refine gives_of_onBench (exec_objectCut ..) fun q => ?_
  dsimp only
  rw [← hx, if_neg (by rcases hm with hm | hm <;> simp [hen, ho, hi, hm]), if_neg h3, if_neg]
  case hnc =>
    rw [Bool.or_eq_true, not_or]
    exact ⟨fun h => h1 (of_decide_eq_true h), fun h => h2 (of_decide_eq_true h)⟩
  obtain ⟨ws, vals, hp, hw, hc⟩ := Bench.objPend_spec (a := x.rail.now + 1000) (begun := begun) hu
  exact ⟨⟨ws, vals, hp, fun hh => hw (by rw [hh]; decide)⟩, hc⟩

theorem fifoTxOffer_gives {j : Fin 32} {P : Bench → Prop} (hx : x = (s.bench n).canTick t)
    (hen : x.canEn k = true) (hn : (x.can[k]).state.normal = true)
    (hm : x.bn.mode = .configure ∨ x.bn.mode = .run ∨ x.bn.mode = .hold)
    (hf : (x.fifo j).en = true) (hc : (x.fifo j).cons = 3 + k.val) (hp : (x.fifo j).pkts ≠ 0)
    (ho : (!((x.can[k]).pending.any (fun q => q.src = .fifo j) ||
      (match (x.can[k]).urgent with | some u => u.src = .fifo j | none => false))) = true)
    (h : ∀ q, P { x.offerPacket k j (x.packetFrame k (x.fifo j).firstPacket) with qn := q }) :
    Gives (.fifoTxOffer n t k j) n s P := by
  refine gives_of_onBench (exec_fifoTxOffer ..) fun q => ?_
  dsimp only
  rw [← hx, if_neg]
  · exact h q
  · rw [Bool.or_eq_true, not_or]
    refine ⟨?_, Bool.eq_false_iff.1 (by rwa [Bool.not_eq_true'] at ho)⟩
    rcases hm with hm | hm | hm <;> (simp [hen, hf, hc, hp, hm]; exact hn)

theorem Bench.offerPacket_frame {j : Fin 32} {fr : CanFrame} (ha : x.AllAllowed k x.can[k]) (hf : x.canAllowed k fr = true) :
    barePending ((x.offerPacket k j (some fr)).can[k]).pending =
        barePending (x.can[k]).pending ++ [{ src := .fifo j, frame := fr, time := x.rail.now }] ∧
      (x.offerPacket k j (some fr)).points = x.points := by
  obtain ⟨hp, hu⟩ := ha
  obtain ⟨hq, ht⟩ := Bench.setCan_canEval (b := x) (k := k)
    (g := fun c => { c with pending := c.pending ++ [{ src := .fifo j, frame := fr, time := x.rail.now }] })
    ⟨fun q hq => (List.mem_append.1 hq).elim (hp q) fun h => List.mem_singleton.1 h ▸ hf, hu⟩
  exact ⟨ht.bare.trans (barePending_append ..), hq⟩

theorem Bench.offerPacket_none {j : Fin 32} (hp : (x.fifo j).pkts ≠ 0) :
    ((x.offerPacket k j none).can[k]) = (x.can[k]).count 11 ∧ ((x.offerPacket k j none).fifo j).pkts + 1 = (x.fifo j).pkts :=
  ⟨Bench.setCan_self .., (congrArg (fun y => Fifo.pkts y + 1) (Bench.setFifo_self ..)).trans (Fifo.dropPacket_pkts hp)⟩

theorem Can.count_self (c : Can) (i : Fin 12) : (c.count i).cnt[i] = inc c.cnt[i] := upd_self ..

theorem fifoTxOffer_frame {j : Fin 32} {fr : CanFrame} (hx : x = (s.bench n).canTick t)
    (hen : x.canEn k = true) (hn : (x.can[k]).state.normal = true)
    (hm : x.bn.mode = .configure ∨ x.bn.mode = .run ∨ x.bn.mode = .hold)
    (hf : (x.fifo j).en = true) (hc : (x.fifo j).cons = 3 + k.val) (hp : (x.fifo j).pkts ≠ 0)
    (ho : (!((x.can[k]).pending.any (fun q => q.src = .fifo j) ||
      (match (x.can[k]).urgent with | some u => u.src = .fifo j | none => false))) = true)
    (ha : x.AllAllowed k x.can[k]) (hfr : x.packetFrame k (x.fifo j).firstPacket = some fr) (hfa : x.canAllowed k fr = true) :
    Gives (.fifoTxOffer n t k j) n s fun b' =>
      barePending (b'.can[k]).pending =
        barePending (x.can[k]).pending ++ [{ src := .fifo j, frame := fr, time := x.rail.now }] ∧ b'.points = x.points := by
  refine fifoTxOffer_gives hx hen hn hm hf hc hp ho fun q => ?_
  rw [hfr]
  exact Bench.offerPacket_frame ha hfa

theorem fifoTxOffer_malformed {j : Fin 32} (hx : x = (s.bench n).canTick t)
    (hen : x.canEn k = true) (hn : (x.can[k]).state.normal = true)
    (hm : x.bn.mode = .configure ∨ x.bn.mode = .run ∨ x.bn.mode = .hold)
    (hf : (x.fifo j).en = true) (hc : (x.fifo j).cons = 3 + k.val) (hp : (x.fifo j).pkts ≠ 0)
    (ho : (!((x.can[k]).pending.any (fun q => q.src = .fifo j) ||
      (match (x.can[k]).urgent with | some u => u.src = .fifo j | none => false))) = true)
    (hfr : x.packetFrame k (x.fifo j).firstPacket = none) :
    Gives (.fifoTxOffer n t k j) n s fun b' => (b'.can[k]).cnt[(11 : Fin 12)] = inc (x.can[k]).cnt[(11 : Fin 12)] ∧
      (b'.fifo j).pkts + 1 = (x.fifo j).pkts ∧ (b'.can[k]).pending = (x.can[k]).pending := by
  refine fifoTxOffer_gives hx hen hn hm hf hc hp ho fun q => ?_
  rw [hfr]
  simp only [Bench.fifo_qn]
  obtain ⟨h1, h2⟩ := Bench.offerPacket_none (x := x) (k := k) (j := j) hp
  generalize x.offerPacket k j none = b' at *
  refine ⟨?_, h2, ?_⟩
  · exact (congrArg (fun c => c.cnt[(11 : Fin 12)]) h1).trans (Can.count_self ..)
  · exact (congrArg Can.pending h1 :)

theorem arbitrationLost_bare (hx : x = (s.bench n).canTick t) (ha : x.AllAllowed k x.can[k]) :
    Gives (.arbitrationLost n t k) n s fun b' =>
      barePending (b'.can[k]).pending = barePending ((x.can[k]).pending.filter (·.dead.isNone)) ∧ b'.points = x.points := by
  refine gives_of_onBench (exec_arbitrationLost ..) fun q => ?_
  rw [← hx]
  obtain ⟨hq, ht⟩ := Bench.setCan_canEval (g := Can.purge) ha.purge
  exact ⟨ht.bare.trans (Can.purge_bare _), hq⟩

/-- The offer after an arbitration lost denies a frame that the list in force does not name. -/
theorem arbitrationLost_denied {p : CanPending} (hx : x = (s.bench n).canTick t) (hn : (x.can[k]).state.normal = true)
    (ho : (x.can[k]).purge.offer x.rail.now = some p) (ha : x.canAllowed k p.frame = false) :
    Gives (.arbitrationLost n t k) n s fun b' => p ∉ (b'.can[k]).pending ∧ b'.points = x.points ∧
      bitOf b'.ev[(if k = 0 then 14 else 15 : Fin 18)] 7 = true := by
  refine gives_of_onBench (exec_arbitrationLost ..) fun q => ?_
  rw [← hx]
  have hz : (x.setCan k Can.purge).can[k] = (x.can[k]).purge := Bench.setCan_self ..
  exact Bench.canEval_denied (by rw [hz]; exact hn) (by rw [hz]; exact ho) (Can.purge_offer_passed ho) ha

/-- The controller after a frame has been sent: the frame is noted and leaves the pending ones, TEC falls. -/
def Can.sentFrame (p : CanPending) (sof : Nat) (c : Can) : Can :=
  { c with
    pending := c.pending.erase p, urgent := if c.urgent = some p then none else c.urgent, sent := c.sent ++ [p.frame]
    txErr := c.txErr - 1, errType := 0, last := p.vals.foldl (fun m e => Tbl.set 0 m e.1 e.2) c.last
    state := if c.state = .passive && c.txErr - 1 ≤ 127 && c.rxErr ≤ 127 then .active else c.state
    refSof := if p.src = .reference then sof else c.refSof }

theorem Bench.canSent_can (b : Bench) (k : Fin 2) (p : CanPending) (sof : Nat) :
    (b.canSent k p sof).can[k] = (b.can[k]).sentFrame p sof := by
  unfold Bench.canSent Can.sentFrame
  cases p.src <;> exact Bench.setCan_self ..

theorem Bench.canSent_points (b : Bench) (k : Fin 2) (p : CanPending) (sof : Nat) : (b.canSent k p sof).points = b.points := by
  unfold Bench.canSent
  cases p.src <;> rfl

theorem Bench.canSent_gd (b : Bench) (k : Fin 2) (p : CanPending) (sof : Nat) : (b.canSent k p sof).gd = b.gd := by
  unfold Bench.canSent
  cases p.src <;> rfl

theorem Bench.canDelay_spec (b : Bench) (k : Fin 2) (f : CanFrame) (delay : Option Nat) : ∃ dly,
    b.canDelay k f delay = b.setCan k fun c => { c with loopDly := dly } := by
  have same : b = b.setCan k fun c => { c with loopDly := (b.can[k]).loopDly } := (Bench.setCan_same rfl).symm
  unfold Bench.canDelay
  split
  · split
    · exact ⟨_, rfl⟩
    · exact ⟨_, same⟩
  · exact ⟨_, same⟩

theorem Bench.AllAllowed.sentFrame {b : Bench} {c : Can} (h : b.AllAllowed k c) (p : CanPending) (sof : Nat) :
    b.AllAllowed k (c.sentFrame p sof) := by
  obtain ⟨hp, hu⟩ := h
  refine ⟨fun q hq => hp q (List.mem_of_mem_erase hq), fun u hq => ?_⟩
  dsimp only [Can.sentFrame] at hq
  split at hq
  · cases hq
  · exact hu u hq

theorem txComplete_gives {sof : Nat} {delay : Option Nat} {p : CanPending} (hx : x = (s.bench n).canTick t)
    (hz : z = x.can[k]) (ha : x.AllAllowed k z) (hn : z.state.normal = true) (ho : z.offer sof = some p) :
    Gives (.txComplete n t k sof delay) n s fun b' =>
      (b'.can[k]).sent = z.sent ++ [p.frame] ∧ (b'.can[k]).txErr = z.txErr - 1 ∧
      barePending (b'.can[k]).pending = barePending ((z.pending.erase p).filter (·.dead.isNone)) ∧ b'.points = x.points ∧
      (p.src = .reference → (b'.can[k]).refSof = sof) := by
  subst hz
  refine gives_of_onBench (exec_txComplete ..) fun q => ?_
  dsimp only
  rw [← hx, if_neg]
  case hnc => simpa using fun h => absurd hn (by simpa using h)
  rw [ho]
  dsimp only
  obtain ⟨dly, hd⟩ := (x.canSent k p sof).canDelay_spec k p.frame delay
  rw [hd]
  have hs : ((x.canSent k p sof).setCan k fun c => { c with loopDly := dly }).can[k] =
      { (x.can[k]).sentFrame p sof with loopDly := dly } := by rw [Bench.setCan_self, Bench.canSent_can]
  generalize hb : ((x.canSent k p sof).setCan k fun c => { c with loopDly := dly }) = b₁ at hs
  have hall : b₁.AllAllowed k (b₁.can[k]).purge := by
    rw [hs]
    refine Bench.AllAllowed.purge (Bench.AllAllowed.congr (ha.sentFrame p sof) ?_)
    rw [← hb]
    exact Bench.canSent_gd ..
  obtain ⟨hq, hc⟩ := Bench.setCan_canEval (g := Can.purge) hall
  have hpt : b₁.points = x.points := by
    rw [← hb]
    exact Bench.canSent_points ..
  obtain ⟨l, u, hl, hbare⟩ := hc
  have hsent : (b₁.can[k]).purge.sent = (x.can[k]).sent ++ [p.frame] := by rw [hs]; rfl
  have htx : (b₁.can[k]).purge.txErr = (x.can[k]).txErr - 1 := by rw [hs]; rfl
  have hsof : (b₁.can[k]).purge.refSof = if p.src = .reference then sof else (x.can[k]).refSof := by rw [hs]; rfl
  rw [hl]
  refine ⟨hsent, htx, hbare.trans ?_, hq.trans hpt, fun hr => hsof.trans (if_pos hr)⟩
  rw [Can.purge_bare, hs]
  rfl

/-- The reference message of a controller. -/
def Bench.refFrame (b : Bench) (k : Fin 2) : CanFrame :=
  { h0 := b.cw k 0x1C &&& 0x3FFFFFFF#32, h1 := 1, data := [at32 (b.can[k]).cycle 0] }

theorem mem_of_barePending {l r : List CanPending} {p : CanPending} (h : barePending l = barePending r) (hp : p ∈ r) :
    ∃ q ∈ l, q.src = p.src ∧ q.time = p.time ∧ q.frame = p.frame := by
  have hm : ({ p with passed := false } : CanPending) ∈ barePending l := h ▸ List.mem_map.2 ⟨p, hp, rfl⟩
  obtain ⟨q, hq, he⟩ := List.mem_map.1 hm
  exact ⟨q, hq, (congrArg CanPending.src he :), (congrArg CanPending.time he :), (congrArg CanPending.frame he :)⟩

theorem referenceMessage_gives (hx : x = (s.bench n).canTick t) (hz : z = x.can[k]) (ha : x.AllAllowed k z)
    (hr : x.refActive k = true) (hp : x.refPeriod k ≠ 0) (hi : x.rail.now % x.refPeriod k = 0)
    (hf : x.canAllowed k (x.refFrame k) = true) :
    Gives (.referenceMessage n t k) n s fun b' => (b'.can[k]).cycle = (z.cycle + 1) % 64 ∧ b'.points = x.points ∧
      ∃ q ∈ (b'.can[k]).pending, q.src = .reference ∧ q.time = x.rail.now ∧ q.frame = x.refFrame k := by
  subst hz
  refine gives_of_onBench (exec_referenceMessage ..) fun q => ?_
  dsimp only
  rw [← hx, if_neg (by simp [hr, hp, hi])]
  let p : CanPending := { src := .reference, time := x.rail.now, frame := x.refFrame k }
  obtain ⟨hpa, hu⟩ := ha
  obtain ⟨hq, hc⟩ := Bench.setCan_canEval (b := x) (k := k)
    (g := fun c => { c with cycle := (c.cycle + 1) % 64, pending := c.pending ++ [p] })
    ⟨fun q hq => (List.mem_append.1 hq).elim (hpa q) fun h => List.mem_singleton.1 h ▸ hf, hu⟩
  have hm := mem_of_barePending hc.bare (p := p) (by simp)
  obtain ⟨l, u, hl, hbare⟩ := hc
  have hcyc := congrArg Can.cycle hl
  exact ⟨hcyc, hq, hm⟩

/-- A reference message that has waited for half a period. -/
def Bench.refOld (b : Bench) (k : Fin 2) (q : CanPending) : Bool :=
  q.src = .reference && q.dead.isNone && q.time + b.refPeriod k / 2 ≤ b.rail.now

theorem refLate_gives (hx : x = (s.bench n).canTick t) (hz : z = x.can[k]) (hl : z.pending.any (x.refOld k) = true) :
    Gives (.refLate n t k false) n s fun b' => (b'.can[k]).pending.any (x.refOld k) = false ∧
      (b'.can[k]).cnt[(9 : Fin 12)] = inc z.cnt[(9 : Fin 12)] ∧ b'.points = x.points := by
  subst hz
  refine gives_of_onBench (exec_refLate ..) fun q => ?_
  dsimp only
  rw [← hx, if_neg]
  case hnc =>
    rw [Bool.false_or, Bool.not_eq_true', Bool.not_eq_false]
    exact hl
  unfold Bench.canEvent
  rw [Bench.raise_can, Bench.raise_points, Bench.setCan_self]
  refine ⟨?_, upd_self .., rfl⟩
  rw [List.any_eq_false]
  intro p hp
  have hn := List.of_mem_filter hp
  rw [Bool.not_eq_true'] at hn
  exact Bool.eq_false_iff.1 hn

theorem refLate_begun (hx : x = (s.bench n).canTick t) : Gives (.refLate n t k true) n s fun b' => b'.can = x.can := by
  refine gives_of_onBench (exec_refLate ..) fun q => ?_
  dsimp only
  rw [← hx, Bool.true_or, if_pos rfl]

end rows

/-! ### CAN_OBJ_SET -/

theorem Can.word_put_self (c : Can) (o : Nat) (v : Word) : (c.put o v).word o = v := Tbl.get_set_self ..

theorem Can.word_put_other (c : Can) {o q : Nat} (v : Word) (h : q ≠ o) : (c.put o v).word q = c.word q :=
  Tbl.get_set_other h

/-- What CAN_OBJ_SET does once accepted. -/
def Bench.objSet (c : Cmd) (w : Word) (b : Bench) : Bench :=
  let k : Fin 2 := mkIx 1 (fld w 0 0)
  let n := fld w 13 8
  let en := bitOf w 16
  if w &&& 0xFFFEC0FE#32 ≠ 0 || 48 ≤ n then b.refuse c .badParam
  else if en && !b.objOk k n then b.refuse c .badParam
  else if en && !loadOk (b.canLoad k (some n)) then b.refuse c .overBudget
  else (b.setCan k fun x => x.put (objAt n + 8) (putBit (x.word (objAt n + 8)) 31 en)).complete c .ok (b.nextApply k n)

theorem exec_canObjSet_objSet (c : Cmd) (w : Word) (s : State) :
    exec (.canObjSet c w) s = s.onBench c.bench (Bench.accept (.canObjSet c w) c (fun m => m = .run || m = .hold) (Bench.objSet c w)) := rfl

section objSet

variable {s : State} {c : Cmd} {w : Word} {b h : Bench} {k : Fin 2} {n : Nat}

theorem Bench.objSet_ok (hk : mkIx 1 (fld w 0 0) = k) (hf : fld w 13 8 = n) (hw : w &&& 0xFFFEC0FE#32 = 0) (hn : n < 48)
    (ho : bitOf w 16 = false ∨ (b.objOk k n = true ∧ loadOk (b.canLoad k (some n)) = true)) :
    b.objSet c w = (b.setCan k fun x => x.put (objAt n + 8) (putBit (x.word (objAt n + 8)) 31 (bitOf w 16))).complete c .ok
      (b.nextApply k n) := by
  unfold Bench.objSet
  rw [hk, hf]
  rcases ho with ho | ⟨ho, hl⟩
  · simp [hw, hn, ho]
  · simp [hw, hn, ho, hl]

theorem Bench.objSet_badParam (hb : bitOf w 16 = true) (ho : b.objOk (mkIx 1 (fld w 0 0)) (fld w 13 8) = false) :
    b.objSet c w = b.refuse c .badParam := by
  unfold Bench.objSet
  simp only [hb, ho, Bool.not_false, Bool.true_and, if_true, ite_self]

theorem Bench.objOk_accepted (b : Bench) (c : Cmd) (k : Fin 2) (n : Nat) : (b.accepted c).objOk k n = b.objOk k n := rfl
theorem Bench.canLoad_accepted (b : Bench) (c : Cmd) (k : Fin 2) (x : Option Nat) :
    (b.accepted c).canLoad k x = b.canLoad k x := rfl

theorem canObjSet_serves (hh : h = s.bench c.bench) (ht : h.Takes (fun m => m = .run || m = .hold)) (ha : h.Answers c)
    (hk : mkIx 1 (fld w 0 0) = k) (hf : fld w 13 8 = n) (hw : w &&& 0xFFFEC0FE#32 = 0) (hn : n < 48)
    (ho : bitOf w 16 = false ∨ (h.objOk k n = true ∧ loadOk (h.canLoad k (some n)) = true)) :
    Serves (.canObjSet c w) c s fun b' => Completed c .ok (h.nextApply k n) h b' ∧
      b'.can[k] = (h.can[k]).put (objAt n + 8) (putBit ((h.can[k]).word (objAt n + 8)) 31 (bitOf w 16)) ∧ b'.points = h.points := by
  subst hh
  refine serves_of_accept (exec_canObjSet_objSet ..) ht fun q => ?_
  rw [Bench.objSet_ok hk hf hw hn (by rwa [Bench.objOk_accepted, Bench.canLoad_accepted])]
  refine ⟨completed_accepted ha (b₁ := ((s.bench c.bench).accepted c).setCan k _) rfl rfl, ?_, ?_⟩
  · dsimp only
    rw [Bench.complete_can]
    exact Bench.setCan_self ..
  · exact Bench.complete_points ..

theorem canObjSet_badParam (hh : h = s.bench c.bench) (ht : h.Takes (fun m => m = .run || m = .hold)) (ha : h.Answers c)
    (hb : bitOf w 16 = true) (ho : h.objOk (mkIx 1 (fld w 0 0)) (fld w 13 8) = false) :
    Serves (.canObjSet c w) c s fun b' => Completed c .badParam 0 h b' ∧ b'.can = h.can := by
  subst hh
  refine serves_of_accept (exec_canObjSet_objSet ..) ht fun q => ?_
  rw [Bench.objSet_badParam hb (by rwa [Bench.objOk_accepted])]
  exact ⟨completed_accepted ha (b₁ := (s.bench c.bench).accepted c) rfl rfl, Bench.refuse_can ..⟩

theorem canObjSet_words (hh : h = s.bench c.bench) (ht : h.Takes (fun m => m = .run || m = .hold)) (ha : h.Answers c)
    (hk : mkIx 1 (fld w 0 0) = k) (hf : fld w 13 8 = n) (hw : w &&& 0xFFFEC0FE#32 = 0) (hn : n < 48)
    (ho : bitOf w 16 = false ∨ (h.objOk k n = true ∧ loadOk (h.canLoad k (some n)) = true)) :
    Serves (.canObjSet c w) c s fun b' => Completed c .ok (h.nextApply k n) h b' ∧
      (b'.can[k]).word (objAt n + 8) = putBit ((h.can[k]).word (objAt n + 8)) 31 (bitOf w 16) ∧
      (∀ q, q ≠ objAt n + 8 → (b'.can[k]).word q = (h.can[k]).word q) ∧ b'.points = h.points := fun hi =>
  (canObjSet_serves hh ht ha hk hf hw hn ho hi).mono fun b' hb => by
    obtain ⟨h1, h2, h3⟩ := hb
    rw [h2]
    exact ⟨h1, Can.word_put_self .., fun q hq => Can.word_put_other _ _ hq, h3⟩

end objSet

/-- Settles O37. -/
theorem canSendsPendingFrames : Obligations.CanSendsPendingFrames := by
  intro s n t sof k i j begun delay p fr c w x now z f per late old h hk at' offers bare ref
  have hx : x = (s.bench n).canTick t := rfl
  have hb : bare = barePending := rfl
  clear_value x bare
  subst hb
  refine ⟨fun hp hu => ⟨?cut, ?fifo, ?lost, ?sent, ?ref⟩, ?denied, ?old, ?kept, ?objSet⟩
  case cut => exact fun hen ho hi _ hm h1 h2 h3 hur => objectCut_gives hx rfl hen ho hi hm h1 h2 h3 hur
  case fifo =>
    exact fun hen hn hm hfe hc hpk ho => ⟨fun hfr ha => fifoTxOffer_frame hx hen hn hm hfe hc hpk ho ⟨hp, hu⟩ hfr ha,
      fun hfr => fifoTxOffer_malformed hx hen hn hm hfe hc hpk ho hfr⟩
  case lost => exact arbitrationLost_bare hx ⟨hp, hu⟩
  case sent => exact fun hn ho => txComplete_gives hx rfl ⟨hp, hu⟩ hn ho
  case ref =>
    refine fun hr hpe hi ha => (referenceMessage_gives hx rfl ⟨hp, hu⟩ hr hpe hi ha).mono fun b' hb => ?_
    obtain ⟨h1, h2, h3⟩ := hb
    exact ⟨h1, h2, fun _ => h3⟩
  case denied => exact fun hn ho ha => arbitrationLost_denied hx hn ho ha
  case old => exact fun hl => refLate_gives hx rfl hl
  case kept => exact refLate_begun hx
  case objSet =>
    exact fun ht ha hw hn => ⟨canObjSet_words rfl ht ha rfl rfl hw hn, fun hb ho => canObjSet_badParam rfl ht ha hb ho⟩

end Sys2Proof.Machine
end

section
/-!
What a decision of Quoin changes, and its faults cleared
-/

namespace Sys2Proof.Machine

/-! ### Work beside Quoin, the face and the points -/

/-- What work on axes, health records, error causes and events leaves as it is: mode, rail, face, Quoin, points and the
last liveness token; and it sends no completion away. -/
structure Bench.Aside (b b' : Bench) : Prop where
  mode : b'.bn.mode = b.bn.mode
  rail : b'.rail = b.rail
  fc : b'.fc = b.fc
  qn : b'.qn = b.qn
  points : b'.points = b.points
  token : b'.nl.tokenAt = b.nl.tokenAt
  carries : b.Carries b'

namespace Bench.Aside
variable {b b' b'' : Bench}

theorem refl : b.Aside b := ⟨rfl, rfl, rfl, rfl, rfl, rfl, .refl⟩
theorem trans (h : b.Aside b') (g : b'.Aside b'') : b.Aside b'' :=
  ⟨g.mode.trans h.mode, g.rail.trans h.rail, g.fc.trans h.fc, g.qn.trans h.qn, g.points.trans h.points, g.token.trans h.token,
    h.carries.trans g.carries⟩
theorem foldl {α : Type} {f : Bench → α → Bench} (h : ∀ b a, Bench.Aside b (f b a)) :
    ∀ (l : List α) (b : Bench), b.Aside (l.foldl f b)
  | [], _ => refl
  | a :: l, b => (h b a).trans (foldl h l (f b a))

theorem of_axisWork (h : b.AxisWork b') (hc : b.Carries b') : b.Aside b' := by
  obtain ⟨_, _, _, _, _, _, rfl⟩ := h
  exact ⟨rfl, rfl, rfl, rfl, rfl, rfl, hc⟩

theorem raise (b : Bench) (k : Fin 18) (i : Nat) (d0 d1 d2 : Word) : b.Aside (b.raise k i d0 d1 d2) := by
  have hc := Bench.Carries.raise b k i d0 d1 d2
  obtain ⟨_, _, _, h⟩ := b.raise_only k i d0 d1 d2
  rw [h] at hc ⊢
  exact ⟨rfl, rfl, rfl, rfl, rfl, rfl, hc⟩
theorem event (b : Bench) (src : Nat) (d0 d1 d2 : Word) : b.Aside (b.event src d0 d1 d2) :=
  ⟨by rw [Bench.event_bn], Bench.event_rail .., Bench.event_fc .., Bench.event_qn .., Bench.event_points .., by rw [Bench.event_nl],
    .event ..⟩
theorem completeTag (b : Bench) (tag : BitVec 16) (noirq : Bool) (st : Status) (r : Nat) :
    b.Aside (b.completeTag tag noirq st r) :=
  ⟨by rw [Bench.completeTag_bn], Bench.completeTag_rail .., Bench.completeTag_fc .., Bench.completeTag_qn ..,
    Bench.completeTag_points .., by rw [Bench.completeTag_nl], .completeTag ..⟩

/-! #### Axes -/

theorem setAxis (b : Bench) (a : Nat) (x : Axis) : b.Aside (b.setAxis a x) := ⟨rfl, rfl, rfl, rfl, rfl, rfl, .of_qc rfl⟩
theorem setCfg (b : Bench) (o : Nat) (v : Word) : b.Aside (b.setCfg o v) := ⟨rfl, rfl, rfl, rfl, rfl, rfl, .of_qc rfl⟩
theorem guardClip (b : Bench) : b.Aside b.guardClip := ⟨rfl, rfl, rfl, rfl, rfl, rfl, .of_qc rfl⟩
theorem guardDelay (b : Bench) : b.Aside b.guardDelay := ⟨rfl, rfl, rfl, rfl, rfl, rfl, .of_qc rfl⟩
theorem axisEvent (b : Bench) (a i : Nat) : b.Aside (b.axisEvent a i) := raise ..
theorem axisLimited (b : Bench) (a : Nat) (on : Bool) : b.Aside (b.axisLimited a on) := by
  unfold Bench.axisLimited
  dsimp only
  split
  · exact ((setAxis ..).trans (guardClip _)).trans (axisEvent ..)
  · exact refl
theorem axisDce (b : Bench) (a : Nat) (d : AxisDce) : b.Aside (b.axisDce a d) := by
  unfold Bench.axisDce
  dsimp only
  split
  · exact ((setAxis ..).trans (axisLimited ..)).trans (axisEvent ..)
  · exact (setAxis ..).trans (axisLimited ..)
theorem axisChange (b : Bench) (a : Nat) (c : AxisChange) : b.Aside (b.axisChange a c) := by
  unfold Bench.axisChange
  dsimp only
  split
  · exact setCfg ..
  · exact setCfg ..
  · exact (setCfg ..).trans (axisDce ..)
  · exact setAxis ..
  · exact setAxis ..
  · exact (setAxis ..).trans (axisDce ..)
  · exact (setAxis ..).trans (axisDce ..)
theorem axisTake (b : Bench) (a t : Nat) : b.Aside (b.axisTake a t) := by
  unfold Bench.axisTake
  exact (setAxis ..).trans (foldl (fun b c => axisChange b a c) _ _)
theorem axisCompute (b : Bench) (a t : Nat) : b.Aside (b.axisCompute a t) := by
  unfold Bench.axisCompute
  split
  · exact refl
  · exact ((axisTake ..).trans (setAxis ..)).trans (axisLimited ..)
theorem axisRest (b : Bench) (a : Nat) (l : List AxisChange) : b.Aside (b.axisRest a l) := by
  unfold Bench.axisRest
  refine foldl (fun b c => ?_) _ _
  split
  · exact setCfg ..
  · exact setCfg ..
  · exact setCfg ..
  · exact refl
theorem axisDoubt (b : Bench) (a : Nat) : b.Aside (b.axisDoubt a) := by
  unfold Bench.axisDoubt
  dsimp only
  split
  · exact setAxis ..
  · exact (setAxis ..).trans (axisEvent ..)
theorem stopsDone (b : Bench) : b.Aside b.stopsDone := by
  unfold Bench.stopsDone
  extract_lets done mx b₁
  exact .trans (b' := b₁) ⟨rfl, rfl, rfl, rfl, rfl, rfl, .of_qc rfl⟩ (foldl (fun _ _ => completeTag ..) _ _)
theorem axisBegin (b : Bench) (a m : Nat) (x : Axis) : b.Aside (b.axisBegin a m x) := by
  unfold Bench.axisBegin
  extract_lets x₁ x₂ e l q q' k e0 e1 x₃
  clear_value x₂ x₃ e k
  split
  · exact (setAxis ..).trans (axisLimited ..)
  · exact ((setAxis ..).trans (axisLimited ..)).trans (axisCompute ..)
theorem axisIdle (b : Bench) (a : Nat) (st : AxisState) : b.Aside (b.axisIdle a st) := by
  unfold Bench.axisIdle
  extract_lets x evt b₁ b₂ b₃ b₄
  have h : b.Aside b₃ := ((axisRest ..).trans (setAxis ..)).trans (foldl (fun _ _ => completeTag ..) _ _)
  have h₄ : b₃.Aside b₄ := by
    unfold b₄
    split
    · exact event ..
    · exact refl
  exact (h.trans h₄).trans (stopsDone _)
theorem axisStops (b : Bench) (a : Nat) : b.Aside (b.axisStops a) := by
  unfold Bench.axisStops
  extract_lets x e v b₁ atEdge b₂
  have h₁ : b.Aside b₁ := by
    unfold b₁
    split
    · exact axisDoubt ..
    · exact refl
  have h₂ : b.Aside b₂ := h₁.trans (axisLimited ..)
  split
  · exact h₂.trans (axisIdle ..)
  · exact h₂.trans (axisIdle ..)
  · exact h₂.trans (axisBegin ..)
theorem axisHard (b : Bench) (a : Nat) : b.Aside (b.axisHard a) := by
  unfold Bench.axisHard
  dsimp only
  split
  · exact (setAxis ..).trans (axisStops ..)
  · split
    · exact axisIdle ..
    · exact refl
theorem axisRamp (b : Bench) (a : Nat) (st : AxisState) (ph : HomePhase) : b.Aside (b.axisRamp a st ph) := by
  unfold Bench.axisRamp
  dsimp only
  split
  · exact (setAxis ..).trans (axisCompute ..)
  · exact setAxis ..
theorem axisStopOne (b : Bench) (hard : Bool) (a : Nat) : b.Aside (b.axisStopOne hard a) := by
  unfold Bench.axisStopOne
  dsimp only
  split
  · exact (setAxis ..).trans (axisIdle ..)
  · split
    · exact axisHard ..
    · exact axisRamp ..
theorem axisQueue (b : Bench) (a : Nat) (c : AxisChange) : b.Aside (b.axisQueue a c) := by
  unfold Bench.axisQueue
  extract_lets x before l b₁
  have h : b.Aside b₁ := setAxis ..
  split
  · exact h.trans (axisCompute ..)
  · exact h
theorem quoinHard (b : Bench) : b.Aside b.quoinHard := foldl (fun _ _ => axisHard ..) _ _
theorem quoinRamp (b : Bench) : b.Aside b.quoinRamp := by
  unfold Bench.quoinRamp
  refine foldl (fun b a => ?_) _ _
  dsimp only
  split
  · exact axisStopOne ..
  · exact refl

/-! #### Health records and error causes -/

theorem health (b : Bench) (i : Fin 25) : b.Aside (b.health i) := by
  obtain ⟨hl, h⟩ := b.health_only i
  rw [h]
  exact ⟨rfl, rfl, rfl, rfl, rfl, rfl, .of_qc rfl⟩
theorem gaugeBlock (b : Bench) (i : Nat) : b.Aside (b.gaugeBlock i).2 := by
  obtain ⟨f, h⟩ := b.gaugeBlock_only i
  rw [h]
  exact ⟨rfl, rfl, rfl, rfl, rfl, rfl, .of_qc rfl⟩
theorem recordWrite (b : Bench) (kind cls cause : Nat) (l : List Word) : b.Aside (b.recordWrite kind cls cause l) := by
  unfold Bench.recordWrite
  dsimp only
  split
  · exact ⟨rfl, rfl, rfl, rfl, rfl, rfl, .of_qc rfl⟩
  · exact .trans (b' := b.setHealth _) ⟨rfl, rfl, rfl, rfl, rfl, rfl, .of_qc rfl⟩ (raise ..)
theorem setHealth (b : Bench) (f : Health → Health) : b.Aside (b.setHealth f) := ⟨rfl, rfl, rfl, rfl, rfl, rfl, .of_qc rfl⟩
theorem periodOpen (b : Bench) : b.Aside b.periodOpen := ⟨rfl, rfl, rfl, rfl, rfl, rfl, .of_qc rfl⟩
theorem periodClose (b : Bench) (cls cause : Nat) : b.Aside (b.periodClose cls cause) := by
  unfold Bench.periodClose
  dsimp only
  refine .trans ?_ (periodOpen _)
  refine .trans ?_ (recordWrite ..)
  refine .trans ?_ (recordWrite ..)
  refine .trans ?_ (gaugeBlock ..)
  refine .trans ?_ (gaugeBlock ..)
  refine .trans ?_ (recordWrite ..)
  refine .trans ?_ (gaugeBlock ..)
  refine .trans ?_ (gaugeBlock ..)
  exact setHealth ..
theorem earlyClose (b : Bench) (cause : Nat) : b.Aside (b.earlyClose cause) := by
  unfold Bench.earlyClose
  split
  · exact refl
  · extract_lets b₁ near
    have h : b.Aside b₁ := ⟨rfl, rfl, rfl, rfl, rfl, rfl, .of_qc rfl⟩
    split
    · exact h
    · exact ((h.trans (setHealth ..)).trans (periodClose ..)).trans (raise ..)
theorem store (b : Bench) (a n v : Nat) : b.Aside (b.store a n v) := by
  refine ⟨rfl, rfl, rfl, rfl, rfl, ?_, .of_qc rfl⟩
  unfold Bench.store Nalry.note
  dsimp only
  split <;> rfl
theorem errorCause (b : Bench) (i : Nat) (d : Word) : b.Aside (b.errorCause i d) := by
  unfold Bench.errorCause
  split
  · exact refl
  · split
    · exact ⟨rfl, rfl, rfl, rfl, rfl, rfl, .of_qc rfl⟩
    · lift_lets
      intro mask ring
      split
      · exact refl
      · intro w r src b₁
        have h : b.Aside b₁ := by
          by_cases hw : (w + 1) % 32 = r
          · rw [show b₁ = _ from if_pos hw]
            exact .trans (b' := { b with pe := { b.pe with errDrop := inc b.pe.errDrop } })
              ⟨rfl, rfl, rfl, rfl, rfl, rfl, .of_qc rfl⟩ (raise ..)
          · rw [show b₁ = _ from if_neg hw]
            exact (((store ..).trans (store ..)).trans (store ..)).trans (store ..)
        clear_value b₁
        exact h.trans ⟨rfl, rfl, rfl, rfl, rfl, rfl, .of_qc rfl⟩

end Bench.Aside

/-! ### What a decision of Quoin leaves as it is -/

/-- What decisions leave of a lane: its faults, its drive and its channels. -/
structure Lane.Kept (l l' : Lane) : Prop where
  fault : l'.fault = l.fault
  toggleAt : l'.toggleAt = l.toggleAt
  driveLost : l'.driveLost = l.driveLost
  ch : l'.ch = l.ch

theorem Lane.Kept.refl (l : Lane) : l.Kept l := ⟨rfl, rfl, rfl, rfl⟩
theorem Lane.Kept.trans {l l' l'' : Lane} (h : l.Kept l') (g : l'.Kept l'') : l.Kept l'' :=
  ⟨g.fault.trans h.fault, g.toggleAt.trans h.toggleAt, g.driveLost.trans h.driveLost, g.ch.trans h.ch⟩

/-- Password, its failures and its wait, the configuration with its copies and its session, the log, and the references
still to be set. -/
structure Quoin.SameBooks (q q' : Quoin) : Prop where
  cfg : q'.cfg = q.cfg
  copyA : q'.copyA = q.copyA
  copyB : q'.copyB = q.copyB
  session : q'.session = q.session
  staged : q'.staged = q.staged
  logSeq : q'.logSeq = q.logSeq
  log : q'.log = q.log
  password : q'.password = q.password
  failures : q'.failures = q.failures
  waitAt : q'.waitAt = q.waitAt
  setRef : q'.setRef = q.setRef
  ref : q'.ref = q.ref

theorem Quoin.SameBooks.refl (q : Quoin) : q.SameBooks q := ⟨rfl, rfl, rfl, rfl, rfl, rfl, rfl, rfl, rfl, rfl, rfl, rfl⟩
theorem Quoin.SameBooks.trans {q q' q'' : Quoin} (h : q.SameBooks q') (g : q'.SameBooks q'') : q.SameBooks q'' :=
  ⟨g.cfg.trans h.cfg, g.copyA.trans h.copyA, g.copyB.trans h.copyB, g.session.trans h.session, g.staged.trans h.staged,
    g.logSeq.trans h.logSeq, g.log.trans h.log, g.password.trans h.password, g.failures.trans h.failures,
    g.waitAt.trans h.waitAt, g.setRef.trans h.setRef, g.ref.trans h.ref⟩

/-- Quoin after decisions: the books and what decisions keep of the lanes, a wanted reset still wanted, and no lane in
FAULT that was not, while no module fault stands. -/
structure Quoin.Decided (q q' : Quoin) : Prop where
  books : q.SameBooks q'
  a : q.a.Kept q'.a
  b : q.b.Kept q'.b
  rst : q.rstReq = true → q'.rstReq = true
  calmA : q.moduleFault = false → q.a.state ≠ .fault → q'.a.state ≠ .fault
  calmB : q.moduleFault = false → q.b.state ≠ .fault → q'.b.state ≠ .fault

namespace Quoin.Decided
variable {q q' q'' : Quoin}

theorem refl (q : Quoin) : q.Decided q := ⟨.refl q, .refl _, .refl _, id, fun _ h => h, fun _ h => h⟩
theorem fault (h : q.Decided q') : q'.fault = q.fault := by
  unfold Quoin.fault
  rw [h.a.fault, h.b.fault]
theorem moduleFault (h : q.Decided q') : q'.moduleFault = q.moduleFault := by
  unfold Quoin.moduleFault
  rw [h.fault]
theorem trans (h : q.Decided q') (g : q'.Decided q'') : q.Decided q'' :=
  ⟨h.books.trans g.books, h.a.trans g.a, h.b.trans g.b, fun x => g.rst (h.rst x),
    fun x y => g.calmA (h.moduleFault.trans x) (h.calmA x y), fun x y => g.calmB (h.moduleFault.trans x) (h.calmB x y)⟩
/-- Decisions that write none of the lanes' states. -/
theorem of_state (hq : q.SameBooks q') (ha : q.a.Kept q'.a) (hb : q.b.Kept q'.b) (hr : q.rstReq = true → q'.rstReq = true)
    (sa : q'.a.state = q.a.state) (sb : q'.b.state = q.b.state) : q.Decided q' :=
  ⟨hq, ha, hb, hr, fun _ h => sa ▸ h, fun _ h => sb ▸ h⟩

end Quoin.Decided

/-- A bench after decisions of Quoin: mode, rail, face and token as before, no point written but a mirror point. -/
structure Bench.QuoinWork (b b' : Bench) : Prop where
  mode : b'.bn.mode = b.bn.mode
  rail : b'.rail = b.rail
  fc : b'.fc = b.fc
  qn : b.qn.Decided b'.qn
  points : ∀ p, some p ∉ b.mirrorPoints → b'.point p = b.point p
  token : b'.nl.tokenAt = b.nl.tokenAt
  carries : b.Carries b'

theorem Bench.mirrorPoints_congr {b b' : Bench} (h : b'.qn.cfg = b.qn.cfg) : b'.mirrorPoints = b.mirrorPoints := by
  unfold Bench.mirrorPoints Bench.quoinPoint Bench.qw
  rw [h]

/-- No row of R364 leads into FAULT but that of a module fault. -/
theorem Bench.laneRow_calm (b : Bench) (laneB fell : Bool) (hm : b.qn.moduleFault = false)
    (hs : (b.lane laneB).state ≠ .fault) : (b.laneRow laneB fell).1 ≠ .fault := by
  unfold Bench.laneRow
  dsimp only
  rw [hm, if_neg Bool.false_ne_true]
  cases h : (b.lane laneB).state with
  | fault => exact absurd h hs
  | _ => dsimp only; (repeat' split) <;> nofun

namespace Bench.QuoinWork
variable {b b' b'' : Bench}

theorem refl : b.QuoinWork b := ⟨rfl, rfl, rfl, .refl _, fun _ _ => rfl, rfl, .refl⟩
theorem trans (h : b.QuoinWork b') (g : b'.QuoinWork b'') : b.QuoinWork b'' where
  mode := g.mode.trans h.mode
  rail := g.rail.trans h.rail
  fc := g.fc.trans h.fc
  qn := h.qn.trans g.qn
  points p hp := (g.points p (by rwa [Bench.mirrorPoints_congr h.qn.books.cfg])).trans (h.points p hp)
  token := g.token.trans h.token
  carries := h.carries.trans g.carries
theorem foldl {α : Type} {f : Bench → α → Bench} (h : ∀ b a, Bench.QuoinWork b (f b a)) :
    ∀ (l : List α) (b : Bench), b.QuoinWork (l.foldl f b)
  | [], _ => refl
  | a :: l, b => (h b a).trans (foldl h l (f b a))
theorem aside (h : b.Aside b') : b.QuoinWork b' :=
  ⟨h.mode, h.rail, h.fc, by rw [h.qn]; exact .refl _, fun p _ => by unfold Bench.point; rw [h.points], h.token, h.carries⟩
theorem setQuoin {f : Quoin → Quoin} (h : b.qn.Decided (f b.qn)) : b.QuoinWork (b.setQuoin f) :=
  ⟨rfl, rfl, rfl, h, fun _ _ => rfl, rfl, .of_qc rfl⟩
/-- A lane is written whose state stays. -/
theorem setLane {laneB : Bool} {l : Lane} (h : (b.lane laneB).Kept l) (hs : l.state = (b.lane laneB).state) :
    b.QuoinWork (b.setLane laneB l) := by
  refine setQuoin ?_
  cases laneB
  · exact .of_state ⟨rfl, rfl, rfl, rfl, rfl, rfl, rfl, rfl, rfl, rfl, rfl, rfl⟩ h (.refl _) id hs rfl
  · exact .of_state ⟨rfl, rfl, rfl, rfl, rfl, rfl, rfl, rfl, rfl, rfl, rfl, rfl⟩ (.refl _) h id rfl hs


/-! #### The steps of a decision -/

theorem inputTrack (b : Bench) (laneB : Bool) : b.QuoinWork (b.inputTrack laneB) := setLane ⟨rfl, rfl, rfl, rfl⟩ rfl

/-- What writes only the rest of Quoin and of its lanes. -/
theorem setRest {f : Quoin → Quoin} (hq : b.qn.SameBooks (f b.qn)) (ha : b.qn.a.Kept (f b.qn).a) (hb : b.qn.b.Kept (f b.qn).b)
    (hr : b.qn.rstReq = true → (f b.qn).rstReq = true) (sa : (f b.qn).a.state = b.qn.a.state)
    (sb : (f b.qn).b.state = b.qn.b.state) : b.QuoinWork (b.setQuoin f) :=
  setQuoin (.of_state hq ha hb hr sa sb)

theorem startupTrack (b : Bench) : b.QuoinWork b.startupTrack := by
  unfold Bench.startupTrack
  split
  · exact refl
  · extract_lets gone b₁ pend
    exact .trans (b' := b₁) (setRest (by constructor <;> rfl) (.refl _) (.refl _) id rfl rfl)
      (setRest (by constructor <;> rfl) (.refl _) (.refl _) id rfl rfl)

theorem noteOut (b : Bench) : b.QuoinWork b.noteOut := setRest (by constructor <;> rfl) (.refl _) (.refl _) id rfl rfl

theorem ossdFollow (b : Bench) : b.QuoinWork b.ossdFollow := by
  unfold Bench.ossdFollow
  extract_lets pa pb on at'
  exact setRest (by constructor <;> rfl) ⟨rfl, rfl, rfl, rfl⟩ ⟨rfl, rfl, rfl, rfl⟩ id rfl rfl

theorem pressTrack (b : Bench) : b.QuoinWork b.pressTrack := by
  unfold Bench.pressTrack
  refine setQuoin ?_
  dsimp only
  split <;> split <;> exact .of_state (by constructor <;> rfl) (.refl _) (.refl _) id rfl rfl

theorem activate (b : Bench) : b.QuoinWork b.activate := by
  unfold Bench.activate
  extract_lets new old b₁ rises b₂ caps was b₃
  split
  · exact refl
  · have h₁ : b.QuoinWork b₁ := setRest (by constructor <;> rfl) ⟨rfl, rfl, rfl, rfl⟩ ⟨rfl, rfl, rfl, rfl⟩ id rfl rfl
    have h₂ : b₁.QuoinWork b₂ := by
      refine foldl (fun b q => ?_) _ _
      extract_lets c₁ slp c₂
      have g₁ : b.QuoinWork c₁ := by
        unfold c₁
        split
        · exact setRest (by constructor <;> rfl) (.refl _) (.refl _) id rfl rfl
        · exact refl
      have g₂ : c₁.QuoinWork c₂ := by
        unfold c₂
        split
        · exact setRest (by constructor <;> rfl) ⟨rfl, rfl, rfl, rfl⟩ ⟨rfl, rfl, rfl, rfl⟩ id rfl rfl
        · exact refl
      clear_value c₂
      refine (g₁.trans g₂).trans ?_
      split
      · exact setRest (by constructor <;> rfl) ⟨rfl, rfl, rfl, rfl⟩ ⟨rfl, rfl, rfl, rfl⟩ id rfl rfl
      · exact refl
    have h₃ : b₂.QuoinWork b₃ := setRest (by constructor <;> rfl) (.refl _) (.refl _) id rfl rfl
    have h := (h₁.trans h₂).trans h₃
    clear_value b₃
    split
    · exact h
    · refine h.trans (foldl (fun b a => ?_) _ _)
      split
      · exact aside (.axisQueue ..)
      · exact refl

theorem demandEval (b : Bench) : b.QuoinWork b.demandEval := by
  unfold Bench.demandEval
  extract_lets oldA old b₁ new' b₂ b₃ rose
  have h₁ : b.QuoinWork b₁ := setRest (by constructor <;> rfl) ⟨rfl, rfl, rfl, rfl⟩ ⟨rfl, rfl, rfl, rfl⟩ id rfl rfl
  have h₂ : b₁.QuoinWork b₂ := by
    refine foldl (fun b c => ?_) _ _
    split
    · refine .trans ?_ (aside (.raise ..))
      refine .trans ?_ (aside (.errorCause ..))
      refine .trans ?_ (aside (.health ..))
      exact setRest (by constructor <;> rfl) (.refl _) (.refl _) id rfl rfl
    · split
      · exact aside (.raise ..)
      · exact refl
  have h₃ : b₂.QuoinWork b₃ := by
    unfold b₃
    split
    · exact setRest (by constructor <;> rfl) (.refl _) (.refl _) (fun _ => rfl) rfl rfl
    · exact refl
  have h := (h₁.trans h₂).trans h₃
  clear_value b₃
  split
  · exact h.trans (aside (.quoinHard _))
  · split
    · exact h.trans (aside (.quoinRamp _))
    · exact h

/-- A lane is written that enters FAULT only under a module fault. -/
theorem setLaneState {laneB : Bool} {l : Lane} (h : (b.lane laneB).Kept l)
    (hs : b.qn.moduleFault = false → (b.lane laneB).state ≠ .fault → l.state ≠ .fault) : b.QuoinWork (b.setLane laneB l) := by
  refine setQuoin ?_
  cases laneB
  · exact ⟨by constructor <;> rfl, h, .refl _, id, hs, fun _ h => h⟩
  · exact ⟨by constructor <;> rfl, .refl _, h, id, fun _ h => h, hs⟩

theorem laneRun (laneB : Bool) (k : Nat) (fell : Bool) (b : Bench) : b.QuoinWork (Bench.laneRun laneB k fell b) := by
  induction k generalizing fell b with
  | zero => exact refl
  | succ k ih =>
    unfold Bench.laneRun
    have hcalm := Bench.laneRow_calm b laneB fell
    generalize b.laneRow laneB fell = r at hcalm ⊢
    obtain ⟨st, req⟩ := r
    dsimp only at hcalm ⊢
    have h₁ : ∃ b₁, (if req = true then b.setQuoin fun q => { q with rstReq := true } else b) = b₁ ∧ b.QuoinWork b₁ ∧
        b₁.lane laneB = b.lane laneB := by
      refine ⟨_, rfl, ?_⟩
      split
      · exact ⟨setRest (by constructor <;> rfl) (.refl _) (.refl _) (fun _ => rfl) rfl rfl, rfl⟩
      · exact ⟨refl, rfl⟩
    obtain ⟨b₁, he, h₁, hl⟩ := h₁
    rw [he]
    split
    · exact h₁
    · refine (h₁.trans (setLaneState (by rw [hl]; exact ⟨rfl, rfl, rfl, rfl⟩) fun hm hs => ?_)).trans (ih ..)
      rw [hl] at hs
      exact hcalm (h₁.qn.moduleFault.symm.trans hm) hs

theorem writePoint (b : Bench) {p : Nat} (src : Source) (v : Word) (q : Half) (st : Time) (h : some p ∈ b.mirrorPoints) :
    b.QuoinWork (b.writePoint src p v q st) := by
  unfold Bench.writePoint
  split
  · exact refl
  · split
    · exact .trans (b' := { b with bn := { b.bn with producerConflict := inc b.bn.producerConflict } })
        ⟨rfl, rfl, rfl, .refl _, fun _ _ => rfl, rfl, .of_qc rfl⟩ (aside (.errorCause ..))
    · refine ⟨by rw [Bench.putPoint_bn], Bench.putPoint_rail .., Bench.putPoint_fc .., ?_, fun r hr => ?_, by rw [Bench.putPoint_nl],
        .of_qc (Bench.putPoint_qc ..)⟩
      · rw [Bench.putPoint_qn]
        exact .refl _
      · exact Bench.putPoint_point_other (h := fun e : r = p => hr (e ▸ h)) ..

theorem mirrorWrite (b : Bench) : b.QuoinWork b.mirrorWrite := by
  unfold Bench.mirrorWrite
  extract_lets new old b₁
  have h₁ : b.QuoinWork b₁ := setRest (by constructor <;> rfl) (.refl _) (.refl _) id rfl rfl
  clear_value b₁
  refine h₁.trans (foldl (fun b k => ?_) _ _)
  split
  · next p hp =>
    split
    · exact refl
    · refine writePoint _ _ _ _ _ ?_
      rw [List.getD_eq_getElem?_getD] at hp
      cases hk : b.mirrorPoints[k]? with
      | none =>
        rw [hk] at hp
        cases hp
      | some x =>
        rw [hk] at hp
        exact (show x = some p from hp) ▸ List.mem_of_getElem? hk
  · exact refl

theorem lanesEval (b : Bench) : b.QuoinWork b.lanesEval := by
  unfold Bench.lanesEval
  extract_lets b₁ b₂ fell b₃ differ b₄
  have h₁ : b.QuoinWork b₁ := ((inputTrack ..).trans (inputTrack ..)).trans (startupTrack _)
  have h₂ : b₁.QuoinWork b₂ := (activate _).trans (demandEval _)
  have h₃ : b₂.QuoinWork b₃ := ((noteOut _).trans (laneRun ..)).trans (laneRun ..)
  have h₄ : b₃.QuoinWork b₄ := setRest (by constructor <;> rfl) (.refl _) (.refl _) id rfl rfl
  have h := ((h₁.trans h₂).trans h₃).trans h₄
  clear_value b₄
  exact ((h.trans (pressTrack _)).trans (ossdFollow _)).trans (mirrorWrite _)

theorem laneBEval (b : Bench) : b.QuoinWork b.laneBEval := by
  unfold Bench.laneBEval
  extract_lets fell b₁ d b₂
  have h₁ : b.QuoinWork b₁ := ((noteOut _).trans (inputTrack ..)).trans (activate _)
  have h₂ : b₁.QuoinWork b₂ := setLane (laneB := true) ⟨rfl, rfl, rfl, rfl⟩ rfl
  exact (((h₁.trans h₂).trans (laneRun ..)).trans (pressTrack _)).trans (ossdFollow _)

theorem quoinEval (b : Bench) : b.QuoinWork b.quoinEval := by
  unfold Bench.quoinEval
  split
  · exact laneBEval b
  · exact lanesEval b

end Bench.QuoinWork

/-! ### The OSSDs without enabled outputs -/

theorem Bench.outEn_congr {b b' : Bench} (hm : b'.bn.mode = b.bn.mode) (hf : b'.fc = b.fc) : b'.outEn = b.outEn := by
  unfold Bench.outEn
  rw [hm, hf]

theorem Bench.ossdFollow_off {b : Bench} (h : b.outEn = false) : b.ossdFollow.qn.ossdOn = false := by
  have hp : b.permits false = false := by simp [Bench.permits, h]
  unfold Bench.ossdFollow
  dsimp only [Bench.setQuoin]
  rw [hp, Bool.false_and]

theorem Bench.mirrorWrite_qn (b : Bench) : ∃ m, b.mirrorWrite.qn = { b.qn with mirror := m } := by
  unfold Bench.mirrorWrite
  extract_lets new old b₁
  refine ⟨new, (foldl_keeps (g := fun b : Bench => b.qn) (fun b k => ?_) _ b₁ :)⟩
  split
  · split
    · rfl
    · exact Bench.writePoint_qn ..
  · rfl

/-- Without enabled outputs a decision leaves the OSSDs open. -/
theorem Bench.quoinEval_off {b : Bench} (h : b.outEn = false) : b.quoinEval.qn.ossdOn = false := by
  have off {b' : Bench} (hw : b.QuoinWork b') : b'.pressTrack.ossdFollow.qn.ossdOn = false :=
    Bench.ossdFollow_off ((Bench.outEn_congr (hw.trans (.pressTrack _)).mode (hw.trans (.pressTrack _)).fc).trans h)
  unfold Bench.quoinEval
  split
  · unfold Bench.laneBEval
    extract_lets fell b₁ d b₂
    have h₁ : b.QuoinWork b₁ := ((Bench.QuoinWork.noteOut _).trans (.inputTrack ..)).trans (.activate _)
    have h₂ : b₁.QuoinWork b₂ := .setLane (laneB := true) ⟨rfl, rfl, rfl, rfl⟩ rfl
    exact off ((h₁.trans h₂).trans (.laneRun ..))
  · unfold Bench.lanesEval
    extract_lets b₁ b₂ fell b₃ differ b₄
    have h₁ : b.QuoinWork b₁ := ((Bench.QuoinWork.inputTrack ..).trans (.inputTrack ..)).trans (.startupTrack _)
    have h₂ : b₁.QuoinWork b₂ := (Bench.QuoinWork.activate _).trans (.demandEval _)
    have h₃ : b₂.QuoinWork b₃ := ((Bench.QuoinWork.noteOut _).trans (.laneRun ..)).trans (.laneRun ..)
    have h₄ : b₃.QuoinWork b₄ := .setRest (by constructor <;> rfl) (.refl _) (.refl _) id rfl rfl
    obtain ⟨m, hm⟩ := b₄.pressTrack.ossdFollow.mirrorWrite_qn
    rw [hm]
    exact off (((h₁.trans h₂).trans h₃).trans h₄)
/-! ### What a fault clearing tests -/

/-- Two lanes agree in what a fault clearing asks of them (R358, R370, R376). -/
structure Lane.SameTests (l l' : Lane) : Prop where
  clearSeen : l'.clearSeen = l.clearSeen
  exchAt : l'.exchAt = l.exchAt
  bad : ∀ c : Fin 5, (l'.ch[c]).bad = (l.ch[c]).bad
  raw : ∀ c : Fin 5, (l'.ch[c]).raw = (l.ch[c]).raw

theorem Lane.SameTests.refl (l : Lane) : l.SameTests l := ⟨rfl, rfl, fun _ => rfl, fun _ => rfl⟩
theorem Lane.SameTests.trans {l l' l'' : Lane} (h : l.SameTests l') (g : l'.SameTests l'') : l.SameTests l'' :=
  ⟨g.clearSeen.trans h.clearSeen, g.exchAt.trans h.exchAt, fun c => (g.bad c).trans (h.bad c), fun c => (g.raw c).trans (h.raw c)⟩

/-- Two benches agree in what a fault clearing asks of both lanes. -/
structure Bench.SameTests (b b' : Bench) : Prop where
  laneA : b.qn.a.SameTests b'.qn.a
  laneB : b.qn.b.SameTests b'.qn.b
  laneDiff : b'.qn.laneDiff = b.qn.laneDiff
  posDiff : b'.qn.posDiff = b.qn.posDiff
  rail : b'.rail = b.rail

theorem Bench.SameTests.trans {b b' b'' : Bench} (h : b.SameTests b') (g : b'.SameTests b'') : b.SameTests b'' :=
  ⟨h.laneA.trans g.laneA, h.laneB.trans g.laneB, g.laneDiff.trans h.laneDiff, g.posDiff.trans h.posDiff, g.rail.trans h.rail⟩

theorem Bench.faultsGone_congr {b b' : Bench} {l l' : Lane} (h : b.SameTests b') (hl : l.SameTests l') (check : Bool) :
    b'.faultsGone l' check = b.faultsGone l check := by
  unfold Bench.faultsGone
  dsimp only
  rw [h.laneA.exchAt, h.laneB.exchAt, h.laneDiff, h.posDiff, h.rail, hl.clearSeen, hl.bad 0, hl.bad 1, hl.bad 2, hl.bad 3, hl.bad 4]

/-! #### The off-pulses -/

/-- The fault bit of a channel whose verification failed. -/
def chanBit (c : Fin 5) : Nat := if c.val = 4 then 11 else c.val / 2

/-- One channel of a lane in the off-pulses of a fault clearing. -/
def Lane.pulse (fed : Fin 5 → Bool) (off : BitVec 5) (l : Lane) (c : Fin 5) : Lane :=
  if !(fed c && (l.ch[c]).raw) then l
  else
    let l' := { l with ch := l.ch.set c { l.ch[c] with bad := !off.getLsbD c.val, verify := false } }
    if off.getLsbD c.val then l' else l'.latch (chanBit c)

theorem Bench.setLane_lane (b : Bench) (laneB : Bool) (l : Lane) : (b.setLane laneB l).lane laneB = l := by
  cases laneB <;> rfl

/-- A bench with another count of failed verifications and another lane. -/
def Bench.tested (laneB : Bool) (n : Word) (l : Lane) (b : Bench) : Bench :=
  (b.setQuoin fun q => { q with testfailCnt := n }).setLane laneB l

/-- A channel's failed verification makes no module fault. -/
theorem Bench.verifyFailed_tested (b : Bench) (laneB : Bool) (c : Fin 5) :
    b.verifyFailed laneB c.val = b.tested laneB (inc b.qn.testfailCnt) ((b.lane laneB).latch (chanBit c)) := by
  have hc : ¬ (4 ≤ chanBit c ∧ chanBit c ≤ 10) := by
    revert c
    decide
  unfold Bench.verifyFailed Bench.laneFault
  change (if _ || !(4 ≤ chanBit c && chanBit c ≤ 10 : Bool) then _ else _) = _
  rw [if_pos (by simp only [Bool.or_eq_true, Bool.not_eq_true', Bool.and_eq_false_iff, decide_eq_false_iff_not]; omega)]
  cases laneB <;> rfl

/-- One channel of the off-pulses, as the bench does it. -/
def Bench.pulseOne (laneB : Bool) (off : BitVec 5) (b : Bench) (c : Fin 5) : Bench :=
  let l := b.lane laneB
  let x := l.ch[c]
  if !((b.fedFrom false c.val || b.fedFrom true c.val) && x.raw) then b
  else
    let ok := off.getLsbD c.val
    let b := b.setLane laneB { l with ch := l.ch.set c { x with bad := !ok, verify := false } }
    if ok then b else b.verifyFailed laneB c.val

/-- The channels fed from a source. -/
def Bench.fed (b : Bench) (c : Fin 5) : Bool := b.fedFrom false c.val || b.fedFrom true c.val

theorem Bench.pulseOne_tested (b : Bench) (laneB : Bool) (off : BitVec 5) (n : Word) (l : Lane) (c : Fin 5) : ∃ n',
    (b.tested laneB n l).pulseOne laneB off c = b.tested laneB n' (l.pulse b.fed off c) := by
  have hl : (b.tested laneB n l).lane laneB = l := Bench.setLane_lane ..
  have hf : ((b.tested laneB n l).fedFrom false c.val || (b.tested laneB n l).fedFrom true c.val) = b.fed c := by
    cases laneB <;> rfl
  have set (m : Lane) : (b.tested laneB n l).setLane laneB m = b.tested laneB n m := by cases laneB <;> rfl
  have again (m : Word) (k k' : Lane) : (b.tested laneB n k).tested laneB m k' = b.tested laneB m k' := by cases laneB <;> rfl
  unfold Bench.pulseOne Lane.pulse
  dsimp only
  rw [hl, hf, set]
  split
  · exact ⟨n, rfl⟩
  · split
    · exact ⟨n, rfl⟩
    · rw [Bench.verifyFailed_tested, again, show (b.tested laneB n _).lane laneB = _ from Bench.setLane_lane ..]
      exact ⟨_, rfl⟩

/-- The off-pulses of a fault clearing change one lane and a count. -/
theorem Bench.pulsesSeen_tested (b : Bench) (laneB : Bool) (off : BitVec 5) : ∃ n, b.pulsesSeen laneB off =
    b.tested laneB n ((List.finRange 5).foldl (Lane.pulse b.fed off) (b.lane laneB)) := by
  have start : b = b.tested laneB b.qn.testfailCnt (b.lane laneB) := by cases laneB <;> rfl
  have go (cs : List (Fin 5)) (n : Word) (l : Lane) : ∃ n', cs.foldl (Bench.pulseOne laneB off) (b.tested laneB n l) =
      b.tested laneB n' (cs.foldl (Lane.pulse b.fed off) l) := by
    induction cs generalizing n l with
    | nil => exact ⟨n, rfl⟩
    | cons c cs ih =>
      obtain ⟨m, hm⟩ := b.pulseOne_tested laneB off n l c
      rw [List.foldl_cons, List.foldl_cons, hm]
      exact ih ..
  obtain ⟨n, hn⟩ := go (List.finRange 5) b.qn.testfailCnt (b.lane laneB)
  rw [← start] at hn
  exact ⟨n, hn⟩

theorem Lane.SameTests.latch {l l' : Lane} (h : l.SameTests l') (hf : l'.fault = l.fault) (bit : Nat) :
    (l.latch bit).SameTests (l'.latch bit) ∧ (l'.latch bit).fault = (l.latch bit).fault := by
  unfold Lane.latch
  rw [hf]
  split
  · exact ⟨h, hf⟩
  · exact ⟨⟨by rw [h.clearSeen], h.exchAt, h.bad, h.raw⟩, rfl⟩

theorem Lane.SameTests.setChan {l l' : Lane} (h : l.SameTests l') {x x' : Chan} (hb : x'.bad = x.bad) (hr : x'.raw = x.raw)
    (c : Fin 5) : Lane.SameTests { l with ch := l.ch.set c x } { l' with ch := l'.ch.set c x' } := by
  have other (f : Chan → Bool) (hx : f x' = f x) (hl : ∀ d : Fin 5, f l'.ch[d] = f l.ch[d]) (d : Fin 5) :
      f (l'.ch.set c x')[d] = f (l.ch.set c x)[d] := by
    by_cases e : c = d
    · subst e
      simpa using hx
    · have : c.val ≠ d.val := fun he => e (Fin.ext he)
      have hd := hl d
      simp only [Fin.getElem_fin, Vector.getElem_set_ne _ _ this] at hd ⊢
      exact hd
  exact ⟨h.clearSeen, h.exchAt, other Chan.bad hb h.bad, other Chan.raw hr h.raw⟩

theorem Lane.pulse_congr (fed : Fin 5 → Bool) (off : BitVec 5) (c : Fin 5) {l l' : Lane} (h : l.SameTests l')
    (hf : l'.fault = l.fault) : (l.pulse fed off c).SameTests (l'.pulse fed off c) ∧
      (l'.pulse fed off c).fault = (l.pulse fed off c).fault := by
  unfold Lane.pulse
  dsimp only
  have hc : (!(fed c && (l'.ch[c]).raw)) = !(fed c && (l.ch[c]).raw) := by rw [h.raw c]
  rw [hc]
  split
  · exact ⟨h, hf⟩
  · have hs := h.setChan (x := { l.ch[c] with bad := !off.getLsbD c.val, verify := false })
      (x' := { l'.ch[c] with bad := !off.getLsbD c.val, verify := false }) rfl (h.raw c) c
    split
    · exact ⟨hs, hf⟩
    · exact hs.latch hf _

/-- Lanes that agree in the tests, and in their faults, agree after the same pulses. -/
theorem Lane.pulses_congr (fed : Fin 5 → Bool) (off : BitVec 5) (cs : List (Fin 5)) {l l' : Lane} (h : l.SameTests l')
    (hf : l'.fault = l.fault) : (cs.foldl (Lane.pulse fed off) l).SameTests (cs.foldl (Lane.pulse fed off) l') ∧
      (cs.foldl (Lane.pulse fed off) l').fault = (cs.foldl (Lane.pulse fed off) l).fault := by
  induction cs generalizing l l' with
  | nil => exact ⟨h, hf⟩
  | cons c cs ih =>
    obtain ⟨hs, he⟩ := Lane.pulse_congr fed off c h hf
    exact ih hs he

theorem Bench.fed_congr {b b' : Bench} (h : b'.qn.cfg = b.qn.cfg) : b'.fed = b.fed := by
  funext c
  unfold Bench.fed Bench.fedFrom Bench.qRstTp Bench.qSmode Bench.qw
  rw [h]

/-- A lane after the off-pulses. -/
def Lane.pulsed (fed : Fin 5 → Bool) (off : BitVec 5) (l : Lane) : Lane := (List.finRange 5).foldl (Lane.pulse fed off) l

theorem Bench.pulsesSeen_both (b : Bench) (offA offB : BitVec 5) : ∃ n,
    (b.pulsesSeen false offA).pulsesSeen true offB =
      b.setQuoin fun q => { q with testfailCnt := n, a := q.a.pulsed b.fed offA, b := q.b.pulsed b.fed offB } := by
  obtain ⟨n, hn⟩ := b.pulsesSeen_tested false offA
  obtain ⟨m, hm⟩ := (b.pulsesSeen false offA).pulsesSeen_tested true offB
  have fed (l : Lane) : (b.tested false n l).fed = b.fed := Bench.fed_congr rfl
  have lane (l : Lane) : (b.tested false n l).lane true = b.qn.b := rfl
  have both (l k : Lane) : (b.tested false n l).tested true m k = b.setQuoin fun q => { q with testfailCnt := m, a := l, b := k } := by
    simp only [Bench.tested, Bench.setLane, Bench.setQuoin, if_true, Bool.false_eq_true, if_false]
  rw [hn, fed, lane, both] at hm
  refine ⟨m, ?_⟩
  rw [hn]
  exact hm

theorem Bench.pulsesSeen_only (b : Bench) (offA offB : BitVec 5) :
    ((b.pulsesSeen false offA).pulsesSeen true offB).bn = b.bn ∧ ((b.pulsesSeen false offA).pulsesSeen true offB).qc = b.qc := by
  obtain ⟨n, hn⟩ := b.pulsesSeen_both offA offB
  rw [hn]
  exact ⟨rfl, rfl⟩

/-- The off-pulses of both lanes, on benches that agree in what they ask. -/
theorem Bench.pulsesSeen_congr {b b' : Bench} (h : b.SameTests b') (ha : b'.qn.a.fault = b.qn.a.fault)
    (hb : b'.qn.b.fault = b.qn.b.fault) (hcfg : b'.qn.cfg = b.qn.cfg) (offA offB : BitVec 5) :
    let z := (b.pulsesSeen false offA).pulsesSeen true offB
    let z' := (b'.pulsesSeen false offA).pulsesSeen true offB
    z.SameTests z' ∧ z'.qn.a.fault = z.qn.a.fault ∧ z'.qn.b.fault = z.qn.b.fault := by
  obtain ⟨pa, fa⟩ := Lane.pulses_congr b.fed offA (List.finRange 5) h.laneA ha
  obtain ⟨pb, fb⟩ := Lane.pulses_congr b.fed offB (List.finRange 5) h.laneB hb
  obtain ⟨n, hn⟩ := b.pulsesSeen_both offA offB
  obtain ⟨m, hm⟩ := b'.pulsesSeen_both offA offB
  intro z z'
  rw [show z = _ from hn, show z' = _ from hm, Bench.fed_congr hcfg]
  exact ⟨⟨pa, pb, h.laneDiff, h.posDiff, h.rail⟩, fa, fb⟩

/-- The channels of a lane after the windows of a source have started. -/
def Bench.withWindows (b : Bench) (t2 : Bool) (start : Nat) (v : Vector Chan 5) : Vector Chan 5 :=
  v.mapFinIdx fun c x _ => if b.fedFrom t2 c then { x with win := some start, verify := x.raw, sawOff := false } else x

theorem Bench.withWindows_chan (b : Bench) (t2 : Bool) (start : Nat) (v : Vector Chan 5) (c : Fin 5) :
    ((b.withWindows t2 start v)[c]).bad = (v[c]).bad ∧ ((b.withWindows t2 start v)[c]).raw = (v[c]).raw := by
  unfold Bench.withWindows
  simp only [Fin.getElem_fin, Vector.getElem_mapFinIdx]
  split <;> exact ⟨rfl, rfl⟩

/-- Windows started ask nothing else of the lanes. -/
theorem Bench.windowsStart_tests (b : Bench) (t2 : Bool) (start : Nat) : b.SameTests (b.windowsStart t2 start) ∧
    (b.windowsStart t2 start).qn.a.fault = b.qn.a.fault ∧ (b.windowsStart t2 start).qn.b.fault = b.qn.b.fault ∧
    (b.windowsStart t2 start).qn.cfg = b.qn.cfg := by
  have lane (l : Lane) : l.SameTests { l with ch := b.withWindows t2 start l.ch } :=
    ⟨rfl, rfl, fun c => (b.withWindows_chan t2 start l.ch c).1, fun c => (b.withWindows_chan t2 start l.ch c).2⟩
  exact ⟨⟨lane _, lane _, rfl, rfl, rfl⟩, rfl, rfl, rfl⟩

/-! #### The clearing -/

/-- What a fault that a lane latches does besides. -/
theorem Bench.laneFault_aside (b : Bench) (laneB : Bool) (bit : Nat) :
    (b.setLane laneB ((b.lane laneB).latch bit)).Aside (b.laneFault laneB bit) := by
  unfold Bench.laneFault
  extract_lets was b₁
  have h₁ : b.setLane laneB ((b.lane laneB).latch bit) = b₁ := rfl
  clear_value b₁
  rw [h₁]
  split
  · exact .refl
  · exact ((((Bench.Aside.health ..).trans (.earlyClose ..)).trans (.errorCause ..)).trans (.raise ..)).trans (.quoinHard _)

/-- A bench whose lanes have taken on the faults of a word, and that is else as its mode, rail and what it has sent say. -/
structure Bench.Faulted (w : Word) (b b' : Bench) : Prop where
  mode : b'.bn.mode = b.bn.mode
  tests : b.SameTests b'
  faultA : b'.qn.a.fault = b.qn.a.fault ||| w
  faultB : b'.qn.b.fault = b.qn.b.fault ||| w
  carries : b.Carries b'

theorem Bench.Faulted.refl (b : Bench) : b.Faulted 0 b :=
  ⟨rfl, ⟨.refl _, .refl _, rfl, rfl, rfl⟩, by simp, by simp, .refl⟩

theorem Bench.Faulted.trans {b b' b'' : Bench} {v w : Word} (h : b.Faulted v b') (g : b'.Faulted w b'') :
    b.Faulted (v ||| w) b'' :=
  ⟨g.mode.trans h.mode, h.tests.trans g.tests, by rw [g.faultA, h.faultA, BitVec.or_assoc], by rw [g.faultB, h.faultB, BitVec.or_assoc],
    h.carries.trans g.carries⟩

theorem putBit_of_bitOf {w : Word} {i : Nat} (h : bitOf w i = true) : w ||| BitVec.ofNat 32 (2 ^ i) = w := by
  apply BitVec.eq_of_getLsbD_eq
  intro j hj
  rw [BitVec.getLsbD_or, BitVec.getLsbD_ofNat, Nat.testBit_two_pow]
  by_cases e : i = j
  · subst e
    rw [show w.getLsbD i = true from h, Bool.true_or]
  · simp [e]

/-- A bit beyond the input faults is latched without asking anything else. -/
theorem Lane.latch_module (l : Lane) {bit : Nat} (h : 4 ≤ bit) :
    l.SameTests (l.latch bit) ∧ (l.latch bit).fault = l.fault ||| BitVec.ofNat 32 (2 ^ bit) := by
  unfold Lane.latch
  split
  · next hf => exact ⟨.refl l, (putBit_of_bitOf hf).symm⟩
  · exact ⟨⟨Vector.setIfInBounds_eq_of_size_le h, rfl, fun _ => rfl, fun _ => rfl⟩, rfl⟩

theorem Bench.quoinFault_faulted (b : Bench) {bit : Nat} (h : 4 ≤ bit) :
    b.Faulted (BitVec.ofNat 32 (2 ^ bit)) (b.quoinFault bit) := by
  obtain ⟨mA, rA, -, qA, -, -, cA⟩ := b.laneFault_aside false bit
  obtain ⟨mB, rB, -, qB, -, -, cB⟩ := (b.laneFault false bit).laneFault_aside true bit
  have hq : (b.quoinFault bit).qn = { b.qn with a := b.qn.a.latch bit, b := b.qn.b.latch bit } := by
    refine qB.trans ?_
    change { (b.laneFault false bit).qn with b := ((b.laneFault false bit).qn.b).latch bit } = _
    rw [qA]
    rfl
  obtain ⟨ta, fa⟩ := b.qn.a.latch_module h
  obtain ⟨tb, fb⟩ := b.qn.b.latch_module h
  have hr : (b.quoinFault bit).rail = b.rail := rB.trans rA
  have hm : (b.quoinFault bit).bn.mode = b.bn.mode := mB.trans mA
  have set (b : Bench) (laneB : Bool) (l : Lane) : b.Carries (b.setLane laneB l) := .of_qc rfl
  have hc : b.Carries (b.quoinFault bit) := ((set ..).trans cA).trans ((set ..).trans cB)
  generalize b.quoinFault bit = b' at *
  refine ⟨hm, ⟨?_, ?_, ?_, ?_, hr⟩, ?_, ?_, hc⟩
  all_goals rw [hq]
  · exact ta
  · exact tb
  · exact fa
  · exact fb

theorem Bench.unless_faulted (b : Bench) (ok : Bool) {bit : Nat} (h : 4 ≤ bit) :
    b.Faulted (if ok then 0 else BitVec.ofNat 32 (2 ^ bit)) (if ok then b else b.quoinFault bit) := by
  cases ok
  · exact b.quoinFault_faulted h
  · exact .refl b

section clear

variable {s : State} {c : Cmd} {oper : BitVec 16} {t1 t2 : Nat} {back : PulseBack} {b : Bench}

/-- The test windows, pulses and read-backs of a fault clearing, of an accepted command. -/
def Bench.clearTests (t1 t2 : Nat) (back : PulseBack) (b : Bench) : Bench :=
  let srcOk := t1 < 3000 && t2 < 3000
  let outOk := back.ossdA < 5000 && back.ossdB < 5000
  let b := (b.quoinTouch.windowsStart false b.rail.now).windowsStart true (b.rail.now + b.qTpw + 100000)
  let b := (b.pulsesSeen false back.offA).pulsesSeen true back.offB
  let b := if srcOk then b else b.quoinFault 4
  if outOk then b else b.quoinFault 5

/-- A lane that leaves FAULT. -/
def Lane.leave (l : Lane) : Lane := if l.state = .fault then { l with state := .ready } else l

/-- What follows the tests of a fault clearing. -/
def Bench.clearEnd (c : Cmd) (cal : Nat) (oper : BitVec 16) (check : Bool) (was : Word) (b : Bench) : Bench :=
  let b := b.faultsClear check
  let gone := was &&& ~~~ b.qn.fault
  let b := b.quoinLog cal 6 oper b.qn.crc gone
  if b.qn.fault ≠ 0 then b.quoinEval.complete c .badState 0
  else (b.setQuoin fun q => { q with rstReq := true, a := q.a.leave, b := q.b.leave }).quoinEval.complete c .ok gone.toNat

theorem exec_qnFaultClear_tests (c : Cmd) (oper : BitVec 16) (t1 t2 : Nat) (back : PulseBack) (s : State) :
    exec (.qnFaultClear c oper (t1, t2) back) s = s.onBench c.bench (Bench.accept (.qnFaultClear c oper (t1, t2) back) c modesAny
      fun b => (b.clearTests t1 t2 back).clearEnd c s.hub.calNow oper
        ((t1 < 3000 && t2 < 3000) && (back.ossdA < 5000 && back.ossdB < 5000)) b.qn.fault) := rfl

/-- The benches that the tests of a fault clearing start from agree in what they ask. -/
theorem Bench.clearStart_tests {b₀ : Bench} (h : b₀.SameTests b) (ha : b.qn.a.fault = b₀.qn.a.fault)
    (hb : b.qn.b.fault = b₀.qn.b.fault) (hcfg : b.qn.cfg = b₀.qn.cfg) (p q : Nat) :
    let b' := (b.quoinTouch.windowsStart false p).windowsStart true q
    b₀.SameTests b' ∧ b'.qn.a.fault = b₀.qn.a.fault ∧ b'.qn.b.fault = b₀.qn.b.fault ∧ b'.qn.cfg = b₀.qn.cfg := by
  obtain ⟨t₁, a₁, f₁, c₁⟩ := b.quoinTouch.windowsStart_tests false p
  obtain ⟨t₂, a₂, f₂, c₂⟩ := (b.quoinTouch.windowsStart false p).windowsStart_tests true q
  have ht : b.SameTests b.quoinTouch := ⟨.refl _, .refl _, rfl, rfl, rfl⟩
  exact ⟨((h.trans ht).trans t₁).trans t₂, (a₂.trans a₁).trans ha, (f₂.trans f₁).trans hb, (c₂.trans c₁).trans hcfg⟩

/-- The faults that a fault clearing finds itself. -/
def clearFound (src out : Bool) : Word := (if src then 0 else 0x10) ||| (if out then 0 else 0x20)

theorem Bench.clearTests_spec {b₀ : Bench} (h : b₀.SameTests b) (ha : b.qn.a.fault = b₀.qn.a.fault)
    (hb : b.qn.b.fault = b₀.qn.b.fault) (hcfg : b.qn.cfg = b₀.qn.cfg) :
    let z := (b₀.pulsesSeen false back.offA).pulsesSeen true back.offB
    let b' := b.clearTests t1 t2 back
    let w := clearFound (t1 < 3000 && t2 < 3000) (back.ossdA < 5000 && back.ossdB < 5000)
    z.SameTests b' ∧ b'.qn.a.fault = z.qn.a.fault ||| w ∧ b'.qn.b.fault = z.qn.b.fault ||| w ∧ b'.bn.mode = b.bn.mode ∧
      b.Carries b' := by
  intro z b' w
  obtain ⟨ht, fa, fb, hc⟩ := Bench.clearStart_tests h ha hb hcfg b.rail.now (b.rail.now + b.qTpw + 100000)
  obtain ⟨hz, za, zb⟩ := Bench.pulsesSeen_congr ht fa fb hc back.offA back.offB
  have hb' : b' = b.clearTests t1 t2 back := rfl
  unfold Bench.clearTests at hb'
  extract_lets src out b₁ b₂ b₃ at hb'
  have hm : b₂.bn.mode = b.bn.mode ∧ b.Carries b₂ := by
    obtain ⟨h1, h2⟩ := b₁.pulsesSeen_only back.offA back.offB
    exact ⟨congrArg Bn.mode h1, .of_qc h2⟩
  have h₂ : z.SameTests b₂ ∧ b₂.qn.a.fault = z.qn.a.fault ∧ b₂.qn.b.fault = z.qn.b.fault := ⟨hz, za, zb⟩
  have h₃ : b₂.Faulted (if src then 0 else 0x10) b₃ := b₂.unless_faulted src (bit := 4) (by decide)
  clear_value b₂ b₃
  have h₄ : b₃.Faulted (if out then 0 else 0x20) b' := by
    rw [hb']
    exact b₃.unless_faulted out (bit := 5) (by decide)
  clear_value b'
  obtain ⟨hmode, htests, hA, hB, hcar⟩ := h₃.trans h₄
  obtain ⟨hz₂, za₂, zb₂⟩ := h₂
  exact ⟨hz₂.trans htests, by rw [hA, za₂]; rfl, by rw [hB, zb₂]; rfl, hmode.trans hm.1, hm.2.trans hcar⟩

theorem Bench.faultsClear_fault (b : Bench) (check : Bool) : (b.faultsClear check).qn.fault =
    (b.qn.a.fault &&& ~~~ b.faultsGone b.qn.a check) ||| (b.qn.b.fault &&& ~~~ b.faultsGone b.qn.b check) := rfl

theorem Bench.quoinLog_fault (cal kind : Nat) (oper : BitVec 16) (v w : Word) (b : Bench) :
    (b.quoinLog cal kind oper v w).qn.fault = b.qn.fault ∧ (b.quoinLog cal kind oper v w).qc = b.qc := by
  unfold Bench.quoinLog Quoin.fault
  exact ⟨rfl, rfl⟩

theorem Bench.clearEnd_left {cal : Nat} {check : Bool} {was : Word} (h : (b.faultsClear check).qn.fault ≠ 0) :
    ∃ b₁, b.clearEnd c cal oper check was = b₁.complete c .badState 0 ∧ b.Carries b₁ ∧ b₁.qn.fault = (b.faultsClear check).qn.fault := by
  have hqc : (b.faultsClear check).qc = b.qc := rfl
  unfold Bench.clearEnd
  generalize b.faultsClear check = f at h hqc ⊢
  extract_lets f₁ gone b₁
  have hl : b₁.qn.fault = f.qn.fault ∧ b₁.qc = f.qc := Bench.quoinLog_fault ..
  clear_value b₁
  obtain ⟨hf, hq⟩ := hl
  have hw := Bench.QuoinWork.quoinEval b₁
  rw [if_pos (by rw [hf]; exact h)]
  exact ⟨_, rfl, .trans (.of_qc (hq.trans hqc)) hw.carries, hw.qn.fault.trans hf⟩

theorem Lane.leave_spec (l : Lane) : l.leave.fault = l.fault ∧ l.leave.state ≠ .fault := by
  unfold Lane.leave
  split
  · exact ⟨rfl, nofun⟩
  · next hs => exact ⟨rfl, hs⟩

/-- Both lanes leave FAULT, and the reset is wanted. -/
def Quoin.leave (q : Quoin) : Quoin := { q with rstReq := true, a := q.a.leave, b := q.b.leave }

/-- A decision after both lanes have left FAULT, without a fault. -/
theorem Bench.leave_quoinEval {f : Bench} (h : f.qn.fault = 0) : ∃ b₁, (f.setQuoin Quoin.leave).quoinEval = b₁ ∧ f.Carries b₁ ∧
    b₁.qn.fault = 0 ∧ b₁.qn.rstReq = true ∧ b₁.qn.a.state ≠ .fault ∧ b₁.qn.b.state ≠ .fault := by
  have hl : (f.setQuoin Quoin.leave).qn.fault = 0 ∧ (f.setQuoin Quoin.leave).qn.rstReq = true ∧
      (f.setQuoin Quoin.leave).qn.a.state ≠ .fault ∧ (f.setQuoin Quoin.leave).qn.b.state ≠ .fault ∧
      (f.setQuoin Quoin.leave).qc = f.qc :=
    ⟨(congrArg₂ _ (Lane.leave_spec _).1 (Lane.leave_spec _).1).trans h, rfl, (Lane.leave_spec _).2, (Lane.leave_spec _).2, rfl⟩
  generalize f.setQuoin Quoin.leave = b₂ at hl ⊢
  obtain ⟨hf, hr, ha, hb, hq⟩ := hl
  have hm : b₂.qn.moduleFault = false := by
    unfold Quoin.moduleFault
    rw [hf]
    decide
  have hw := Bench.QuoinWork.quoinEval b₂
  exact ⟨_, rfl, .trans (.of_qc hq) hw.carries, hw.qn.fault.trans hf, hw.qn.rst hr, hw.qn.calmA hm ha, hw.qn.calmB hm hb⟩

/-- Nothing left: both lanes leave FAULT, and the reset is wanted. -/
theorem Bench.clearEnd_gone {cal : Nat} {check : Bool} {was : Word} (h : (b.faultsClear check).qn.fault = 0) :
    ∃ b₁, b.clearEnd c cal oper check was = b₁.complete c .ok was.toNat ∧ b.Carries b₁ ∧ b₁.qn.fault = 0 ∧ b₁.qn.rstReq = true ∧
      b₁.qn.a.state ≠ .fault ∧ b₁.qn.b.state ≠ .fault := by
  have hqc : (b.faultsClear check).qc = b.qc := rfl
  unfold Bench.clearEnd
  generalize b.faultsClear check = f at h hqc ⊢
  extract_lets f₁ gone b₁
  have hgone : gone = was := by
    unfold gone f₁
    rw [h]
    exact BitVec.and_allOnes
  have hl : b₁.qn.fault = f.qn.fault ∧ b₁.qc = f.qc := Bench.quoinLog_fault ..
  clear_value b₁ gone f₁
  obtain ⟨hf, hq⟩ := hl
  rw [if_neg (by rw [hf, h]; exact not_not.2 rfl), hgone]
  obtain ⟨b₂, he, hc, hr⟩ := Bench.leave_quoinEval (hf.trans h)
  exact ⟨b₂, congrArg (Bench.complete c .ok was.toNat) he, .trans (.of_qc (hq.trans hqc)) hc, hr⟩

/-- What stays of a lane's faults at a fault clearing. -/
def Bench.faultStays (t1 t2 : Nat) (back : PulseBack) (b : Bench) (l : Lane) : Word :=
  (l.fault ||| clearFound (t1 < 3000 && t2 < 3000) (back.ossdA < 5000 && back.ossdB < 5000)) &&&
    ~~~ ((b.pulsesSeen false back.offA).pulsesSeen true back.offB).faultsGone l
      ((t1 < 3000 && t2 < 3000) && (back.ossdA < 5000 && back.ossdB < 5000))

/-- The faults that a fault clearing leaves. -/
def Bench.faultsLeft (t1 t2 : Nat) (back : PulseBack) (b : Bench) : Word :=
  let z := (b.pulsesSeen false back.offA).pulsesSeen true back.offB
  b.faultStays t1 t2 back z.qn.a ||| b.faultStays t1 t2 back z.qn.b

theorem Bench.clearTests_left (b : Bench) (c : Cmd) : (((b.accepted c).clearTests t1 t2 back).faultsClear
    ((t1 < 3000 && t2 < 3000) && (back.ossdA < 5000 && back.ossdB < 5000))).qn.fault = b.faultsLeft t1 t2 back := by
  obtain ⟨hs, ha, hb, -, -⟩ := Bench.clearTests_spec (t1 := t1) (t2 := t2) (back := back) (b := b.accepted c) (b₀ := b)
    ⟨.refl _, .refl _, rfl, rfl, rfl⟩ rfl rfl rfl
  rw [Bench.faultsClear_fault, ha, hb, Bench.faultsGone_congr hs hs.laneA, Bench.faultsGone_congr hs hs.laneB]
  rfl

theorem Bench.clearTests_carries (b : Bench) : b.Carries (b.clearTests t1 t2 back) := by
  obtain ⟨-, -, -, -, h⟩ := Bench.clearTests_spec (t1 := t1) (t2 := t2) (back := back) (b := b) (b₀ := b)
    ⟨.refl _, .refl _, rfl, rfl, rfl⟩ rfl rfl rfl
  exact h

theorem qnFaultClear_serves {P : Bench → Prop} (ht : (s.bench c.bench).Takes modesAny)
    (h : ∀ b₁, (((s.bench c.bench).accepted c).clearTests t1 t2 back).clearEnd c s.hub.calNow oper
        ((t1 < 3000 && t2 < 3000) && (back.ossdA < 5000 && back.ossdB < 5000)) (s.bench c.bench).qn.fault = b₁ →
      ∀ x w k l, P { b₁ with qn := { b₁.qn with session := x, staged := w, logSeq := k, log := l } }) :
    Serves (.qnFaultClear c oper (t1, t2) back) c s P := fun hi =>
  gives_of_onBench_quoin (exec_qnFaultClear_tests ..) fun x w k l => by
    rw [Bench.accept_of_takes hi ht]
    exact h _ rfl x w k l

theorem qnFaultClear_gone (hb : b = s.bench c.bench) (ha : b.Answers c) (ht : b.Takes modesAny)
    (hl : b.faultsLeft t1 t2 back = 0) : Serves (.qnFaultClear c oper (t1, t2) back) c s fun b' =>
      Completed c .ok b.qn.fault.toNat b b' ∧ b'.qn.fault = 0 ∧ b'.qn.rstReq = true ∧ b'.qn.a.state ≠ .fault ∧
      b'.qn.b.state ≠ .fault := by
  subst hb
  refine qnFaultClear_serves ht fun b₁ he x w k l => ?_
  obtain ⟨b₂, h₂, hc, hf, hr, hsa, hsb⟩ := Bench.clearEnd_gone (c := c) (oper := oper) (cal := s.hub.calNow)
    (was := (s.bench c.bench).qn.fault) ((Bench.clearTests_left ..).trans hl)
  rw [← he, h₂]
  refine ⟨completed_of_carries ha (((Bench.Carries.accepted ..).trans (Bench.clearTests_carries _)).trans hc) (.of_qc rfl), ?_⟩
  rw [← Bench.complete_qn b₂ c .ok] at hf hr hsa hsb
  exact ⟨hf, hr, hsa, hsb⟩

theorem qnFaultClear_left (hb : b = s.bench c.bench) (ha : b.Answers c) (ht : b.Takes modesAny)
    (hl : b.faultsLeft t1 t2 back ≠ 0) : Serves (.qnFaultClear c oper (t1, t2) back) c s fun b' =>
      Completed c .badState 0 b b' ∧ b'.qn.fault = b.faultsLeft t1 t2 back := by
  subst hb
  refine qnFaultClear_serves ht fun b₁ he x w k l => ?_
  have hleft := Bench.clearTests_left (t1 := t1) (t2 := t2) (back := back) (s.bench c.bench) c
  obtain ⟨b₂, h₂, hc, hf⟩ := Bench.clearEnd_left (c := c) (oper := oper) (cal := s.hub.calNow)
    (was := (s.bench c.bench).qn.fault) (hleft.trans_ne hl)
  rw [← he, h₂]
  refine ⟨completed_of_carries ha (((Bench.Carries.accepted ..).trans (Bench.clearTests_carries _)).trans hc) (.of_qc rfl), ?_⟩
  rw [← Bench.complete_qn b₂ c .badState] at hf
  exact hf.trans hleft

end clear

/-! ### References of monitored axes -/

section setRef

variable {s : State} {c : Cmd} {q : Fin 2} {pos lo hi : Word} {b : Bench}

/-- What QN_SET_REF does once accepted, for a monitored axis. -/
def Bench.refOrder (c : Cmd) (q : Fin 2) (pos : Word) (at' : Nat) (b : Bench) : Bench :=
  if (b.axis (b.qAxis q.val)).state ≠ .idle then b.refuse c .badState
  else
    let z := if at' = 0 then firstMul 10000 (b.acc + 20000) else at'
    if z < b.acc then b.refuse c .timeout
    else (b.setQuoin fun x => { x with setRef := x.setRef ++ [(q.val, z, s32 pos)] }).complete c .ok z

/-- The instant of a reference: the one asked for, or the first grid instant 20 µs after acceptance. -/
def refInstant (acc at' : Nat) : Nat := if at' = 0 then firstMul 10000 (acc + 20000) else at'

theorem Bench.refOrder_idle {at' : Nat} (h : (b.axis (b.qAxis q)).state = .idle) : b.refOrder c q pos at' =
    if refInstant b.acc at' < b.acc then b.refuse c .timeout
    else (b.setQuoin fun x => { x with setRef := x.setRef ++ [(q.val, refInstant b.acc at', s32 pos)] }).complete c .ok
      (refInstant b.acc at') := if_neg (not_not.2 h)

theorem Bench.refOrder_busy {at' : Nat} (h : (b.axis (b.qAxis q)).state ≠ .idle) : b.refOrder c q pos at' = b.refuse c .badState :=
  if_pos h

/-- What QN_SET_REF does once accepted. -/
def Bench.setRefCmd (c : Cmd) (w pos lo hi : Word) (b : Bench) : Bench :=
  let b := b.quoinTouch
  let q : Fin 2 := mkIx 1 w.toNat
  if 1 < w.toNat || cat64 lo hi % 10 ≠ 0 || !b.qAxisEn q.val then b.refuse c .badParam
  else b.refOrder c q pos (cat64 lo hi)

theorem exec_qnSetRef_cmd (c : Cmd) (w pos lo hi : Word) (s : State) : exec (.qnSetRef c w pos lo hi) s =
    s.onBench c.bench (Bench.accept (.qnSetRef c w pos lo hi) c modesRun (Bench.setRefCmd c w pos lo hi)) := rfl

theorem refWord (q : Fin 2) : (mkIx 1 (BitVec.ofNat 32 q.val).toNat : Fin 2) = q ∧ ¬ 1 < (BitVec.ofNat 32 q.val).toNat := by
  revert q
  decide

theorem Bench.setRefCmd_order (he : b.qAxisEn q = true) (ha : cat64 lo hi % 10 = 0) :
    b.setRefCmd c (BitVec.ofNat 32 q) pos lo hi = b.quoinTouch.refOrder c q pos (cat64 lo hi) := by
  obtain ⟨hk, hq⟩ := refWord q
  unfold Bench.setRefCmd
  dsimp only
  rw [hk, if_neg]
  rw [show b.quoinTouch.qAxisEn q = true from he, Bool.or_eq_true, Bool.or_eq_true]
  rintro ((h | h) | h)
  · exact hq (of_decide_eq_true h)
  · exact of_decide_eq_true h ha
  · cases h

theorem qnSetRef_serves {P : Bench → Prop} (hb : b = s.bench c.bench) (ht : b.Takes modesRun) (he : b.qAxisEn q = true)
    (ha : cat64 lo hi % 10 = 0) (h : ∀ b', (b.accepted c).quoinTouch.refOrder c q pos (cat64 lo hi) = b' →
      ∀ x w k l, P { b' with qn := { b'.qn with session := x, staged := w, logSeq := k, log := l } }) :
    Serves (.qnSetRef c (BitVec.ofNat 32 q) pos lo hi) c s P := fun hi' => by
  subst hb
  refine gives_of_onBench_quoin (exec_qnSetRef_cmd ..) fun x w k l => ?_
  rw [Bench.accept_of_takes hi' ht, Bench.setRefCmd_order (b := (s.bench c.bench).accepted c) he ha]
  exact h _ rfl x w k l

theorem qnSetRef_ok (hb : b = s.bench c.bench) (ha : b.Answers c) (ht : b.Takes modesRun) (he : b.qAxisEn q = true)
    (hidle : (b.axis (b.qAxis q)).state = .idle) (hg : cat64 lo hi % 10 = 0) (hlate : ¬ refInstant b.acceptance (cat64 lo hi) < b.acceptance) :
    Serves (.qnSetRef c (BitVec.ofNat 32 q) pos lo hi) c s fun b' =>
      Completed c .ok (refInstant b.acceptance (cat64 lo hi)) b b' ∧
      b'.qn.setRef = b.qn.setRef ++ [(q.val, refInstant b.acceptance (cat64 lo hi), s32 pos)] ∧ b'.qn.ref = b.qn.ref ∧
      b'.points = b.points := by
  refine qnSetRef_serves hb ht he hg fun b' h x w k l => ?_
  have hacc : (b.accepted c).quoinTouch.acc = b.acceptance := rfl
  rw [Bench.refOrder_idle (b := (b.accepted c).quoinTouch) hidle, hacc, if_neg hlate] at h
  subst h
  refine ⟨completed_accepted ha (b₁ := ((b.accepted c).quoinTouch).setQuoin _) rfl rfl, ?_, ?_, Bench.complete_points ..⟩
  all_goals
    dsimp only
    rw [Bench.complete_qn]
    rfl

theorem qnSetRef_late (hb : b = s.bench c.bench) (ha : b.Answers c) (ht : b.Takes modesRun) (he : b.qAxisEn q = true)
    (hidle : (b.axis (b.qAxis q)).state = .idle) (hg : cat64 lo hi % 10 = 0) (hlate : refInstant b.acceptance (cat64 lo hi) < b.acceptance) :
    Serves (.qnSetRef c (BitVec.ofNat 32 q) pos lo hi) c s fun b' =>
      Completed c .timeout 0 b b' ∧ b'.qn.setRef = b.qn.setRef := by
  refine qnSetRef_serves hb ht he hg fun b' h x w k l => ?_
  have hacc : (b.accepted c).quoinTouch.acc = b.acceptance := rfl
  rw [Bench.refOrder_idle (b := (b.accepted c).quoinTouch) hidle, hacc, if_pos hlate] at h
  subst h
  exact ⟨completed_accepted ha (b₁ := (b.accepted c).quoinTouch) rfl rfl, by
    dsimp only
    rw [Bench.refuse_qn]
    rfl⟩

theorem qnSetRef_busy (hb : b = s.bench c.bench) (ha : b.Answers c) (ht : b.Takes modesRun) (he : b.qAxisEn q = true)
    (hidle : (b.axis (b.qAxis q)).state ≠ .idle) (hg : cat64 lo hi % 10 = 0) :
    Serves (.qnSetRef c (BitVec.ofNat 32 q) pos lo hi) c s fun b' =>
      Completed c .badState 0 b b' ∧ b'.qn.setRef = b.qn.setRef := by
  refine qnSetRef_serves hb ht he hg fun b' h x w k l => ?_
  rw [Bench.refOrder_busy (b := (b.accepted c).quoinTouch) hidle] at h
  subst h
  exact ⟨completed_accepted ha (b₁ := (b.accepted c).quoinTouch) rfl rfl, by
    dsimp only
    rw [Bench.refuse_qn]
    rfl⟩

end setRef

/-- Settles O33. -/
theorem quoinFaultsClearAndReferencesSet : Obligations.QuoinFaultsClearAndReferencesSet := by
  intro s c oper t1 t2 back q pos lo hi b sourcesOk ossdsOk z found stays left at' ha
  have hleft : left = b.faultsLeft t1 t2 back := by
    unfold left stays found sourcesOk ossdsOk Bench.faultsLeft Bench.faultStays clearFound
    simp only [Bool.decide_and]
    rfl
  rw [hleft]
  refine ⟨fun ht hl => qnFaultClear_gone rfl ha ht hl, fun ht hl => qnFaultClear_left rfl ha ht hl, ?_, ?_⟩
  · refine fun ht he hidle hg => ⟨fun hat => ?_, fun h0 hlt => ?_⟩
    · refine qnSetRef_ok rfl ha ht he hidle hg ?_
      unfold refInstant firstMul ceilDiv
      split
      · omega
      · next h0 => exact Nat.not_lt.2 (hat.resolve_left h0)
    · exact qnSetRef_late rfl ha ht he hidle hg (by rw [refInstant, if_neg h0]; exact hlt)
  · exact fun ht he hidle hg => qnSetRef_busy rfl ha ht he hidle hg

end Sys2Proof.Machine
end

section
/-!
Configuration sessions of Quoin, and the links of the face
-/

namespace Sys2Proof.Machine

/-! ### Commands of a configuration session -/

section command

variable {s : State} {c : Cmd} {i : Instr} {modes : Mode → Bool} {k : Bench → Bench} {st : Status} {r : Nat}
  {P : Quoin → Prop} {b : Bench}

theorem modesCfg_iff {m : Mode} : modesCfg m = true ↔ m = .configure := by
  cases m <;> decide

theorem Bench.Takes.any (h : b.Takes modesCfg) : b.Takes modesAny := by
  obtain ⟨hr, hw, hm⟩ := h
  exact ⟨hr, hw, by rw [modesCfg_iff.1 hm]; decide⟩

/-- A command of CONFIGURE serves as its operation, which stays in CONFIGURE, completes. -/
theorem quoinCommand_serves (he : exec i s = s.onBench c.bench (Bench.accept i c modes k)) (hb : b = s.bench c.bench)
    (ht : b.Takes modes) (ha : b.Answers c)
    (hk : ∃ b₁, k (b.accepted c) = b₁.complete c st r ∧ b₁.bn.mode = .configure ∧ b.Carries b₁ ∧ P b₁.qn) :
    Serves i c s fun b' => Completed c st r b b' ∧ P b'.qn := by
  subst hb
  obtain ⟨b₁, h₁, hm, hc, hp⟩ := hk
  refine serves_of_accept_closed he ht (.inl ?_) ?_
  · rw [h₁, Bench.complete_bn]
    exact hm
  · rw [h₁]
    refine ⟨completed_of_carries ha hc .refl, ?_⟩
    rw [Bench.complete_qn]
    exact hp

/-- The same for an operation that is known by what it does to Quoin alone. -/
theorem Bench.quoinBooks {b₁ : Bench} (h : ∃ q, b₁ = { b.accepted c with qn := q } ∧ P q) (hm : b.bn.mode = .configure) :
    b₁.bn.mode = .configure ∧ b.Carries b₁ ∧ P b₁.qn := by
  obtain ⟨q, rfl, hp⟩ := h
  exact ⟨hm, .trans (.accepted ..) (.of_qc rfl), hp⟩

end command

/-- An entry of the change log. -/
theorem Bench.quoinLog_books (cal kind : Nat) (oper : BitVec 16) (v w : Word) (b : Bench) : ∃ l,
    b.quoinLog cal kind oper v w = { b with qn := { b.qn with logSeq := b.qn.logSeq + 1, log := l } } := ⟨_, rfl⟩

/-- Closing a session throws away what it staged. -/
theorem Bench.quoinClose_books (cal : Nat) (b : Bench) : ∃ q, b.quoinClose cal = { b with qn := q } ∧ q.session = none ∧ q.cfg = b.qn.cfg ∧
    (b.qn.session ≠ none → q.staged = b.qn.cfg.getD (Vector.replicate 24 0)) := by
  unfold Bench.quoinClose
  split
  · next h => exact ⟨b.qn, rfl, h, rfl, fun hs => absurd h hs⟩
  · exact ⟨_, rfl, rfl, rfl, fun _ => rfl⟩

section rows

variable {s : State} {c : Cmd} {pw new : List Byte} {oper : BitVec 16} {first count : Word} {b : Bench}

/-- An accepted command of the session, which has started its ten minutes again. -/
def Bench.touched (c : Cmd) (b : Bench) : Bench := (b.accepted c).quoinTouch

theorem Bench.touched_qn (c : Cmd) (b : Bench) :
    (b.touched c).qn = { b.qn with session := b.qn.session.map fun x => { x with last := b.rail.up } } := rfl

/-- Quoin after a command of the session: what an operation makes of it, and its log entry. -/
def Quoin.logged (q : Quoin) (l : List (List Word)) : Quoin := { q with logSeq := q.logSeq + 1, log := l }

/-- The outcome of a command of the session that changes Quoin alone, is logged and completes. -/
def Bench.LoggedAs (c : Cmd) (st : Status) (r : Nat) (f : Quoin → Quoin) (b b' : Bench) : Prop :=
  ∃ cal kind oper v w, b' = (((b.touched c).setQuoin f).quoinLog cal kind oper v w).complete c st r

/-- A command of CONFIGURE that changes Quoin alone, is logged and completes. -/
theorem quoinLogged_serves {i : Instr} {modes : Mode → Bool} {k : Bench → Bench} {st : Status} {r : Nat} {P : Quoin → Prop}
    (f : Quoin → Quoin)
    (he : exec i s = s.onBench c.bench (Bench.accept i c modes k)) (hb : b = s.bench c.bench) (ht : b.Takes modes)
    (ha : b.Answers c) (hm : b.bn.mode = .configure)
    (hk : b.LoggedAs c st r f (k (b.accepted c)))
    (h : ∀ l, P ((f (b.touched c).qn).logged l)) : Serves i c s fun b' => Completed c st r b b' ∧ P b'.qn := by
  obtain ⟨cal, kind, oper, v, w, hk⟩ := hk
  refine quoinCommand_serves he hb ht ha ⟨_, hk, ?_⟩
  obtain ⟨l, hl⟩ := ((b.touched c).setQuoin f).quoinLog_books cal kind oper v w
  rw [hl]
  exact ⟨hm, .trans (.accepted ..) (.of_qc rfl), h l⟩

theorem qnUnlock_ok (hb : b = s.bench c.bench) (ht : b.Takes modesCfg) (ha : b.Answers c) (hw : b.qn.waitAt = none)
    (hp : passwordOk pw = true) (hq : b.qn.password = some pw) : Serves (.qnUnlock c pw oper) c s fun b' =>
      Completed c .ok 0 b b' ∧ (b'.qn.session = some { oper := oper, last := b.rail.up } ∧ b'.qn.failures = 0 ∧
        b'.qn.logSeq = b.qn.logSeq + 1 ∧ b'.qn.cfg = b.qn.cfg) := by
  refine quoinLogged_serves (P := fun q => q.session = some { oper := oper, last := b.rail.up } ∧ q.failures = 0 ∧
    q.logSeq = b.qn.logSeq + 1 ∧ q.cfg = b.qn.cfg)
    (fun q => { q with failures := 0, session := some { oper := oper, last := b.rail.up } })
    (exec_qnUnlock ..) hb ht ha (modesCfg_iff.1 ht.2.2) ?_ fun l => ⟨rfl, rfl, rfl, rfl⟩
  have hw' : (b.touched c).qn.waitAt = none := hw
  have hq' : (b.touched c).qn.password = some pw := hq
  change Bench.LoggedAs _ _ _ _ _ (if (b.touched c).qn.waitAt.isSome then _ else if !passwordOk pw then _ else
    match (b.touched c).qn.password with | none => _ | some p => _)
  rw [hw', hp, hq']
  exact ⟨_, _, _, _, _, if_pos rfl⟩

theorem qnUnlock_wrong (hb : b = s.bench c.bench) (ht : b.Takes modesCfg) (ha : b.Answers c) (hw : b.qn.waitAt = none)
    (hp : passwordOk pw = true) (hn : b.qn.password ≠ none) (hq : b.qn.password ≠ some pw) :
    Serves (.qnUnlock c pw oper) c s fun b' => Completed c .password 0 b b' ∧ (b'.qn.session.isSome = b.qn.session.isSome ∧
      b'.qn.password = b.qn.password ∧ b'.qn.logSeq = b.qn.logSeq + 1 ∧
      (b.qn.failures < 2 → b'.qn.failures = b.qn.failures + 1 ∧ b'.qn.waitAt = none) ∧
      (2 ≤ b.qn.failures → b'.qn.waitAt = some b.rail.up)) := by
  obtain ⟨p, hpw⟩ := Option.ne_none_iff_exists'.1 hn
  have hne : p ≠ pw := fun e => hq (e ▸ hpw)
  refine quoinLogged_serves (P := fun q => q.session.isSome = b.qn.session.isSome ∧ q.password = b.qn.password ∧
      q.logSeq = b.qn.logSeq + 1 ∧ (b.qn.failures < 2 → q.failures = b.qn.failures + 1 ∧ q.waitAt = none) ∧
      (2 ≤ b.qn.failures → q.waitAt = some b.rail.up))
    (fun q => if q.failures + 1 < 3 then { q with failures := q.failures + 1 } else { q with failures := 3, waitAt := some b.rail.up })
    (exec_qnUnlock ..) hb ht ha (modesCfg_iff.1 ht.2.2) ?_ fun l => ?_
  · have hw' : (b.touched c).qn.waitAt = none := hw
    have hq' : (b.touched c).qn.password = some p := hpw
    change Bench.LoggedAs _ _ _ _ _ (if (b.touched c).qn.waitAt.isSome then _ else if !passwordOk pw then _ else
      match (b.touched c).qn.password with | none => _ | some p => _)
    rw [hw', hp, hq']
    exact ⟨_, _, _, _, _, if_neg hne⟩
  · rw [Bench.touched_qn]
    dsimp only
    unfold Quoin.logged
    split
    · next h => exact ⟨Option.isSome_map, rfl, rfl, fun _ => ⟨rfl, hw⟩, fun h2 => absurd h (by omega)⟩
    · next h => exact ⟨Option.isSome_map, rfl, rfl, fun h2 => absurd h2 (by omega), fun _ => rfl⟩

theorem qnUnlock_busy (hb : b = s.bench c.bench) (ht : b.Takes modesCfg) (ha : b.Answers c) (hw : b.qn.waitAt ≠ none) :
    Serves (.qnUnlock c pw oper) c s fun b' => Completed c .busy 0 b b' ∧ (b'.qn.session.isSome = b.qn.session.isSome ∧
      b'.qn.waitAt = b.qn.waitAt) := by
  refine quoinCommand_serves (P := fun q => q.session.isSome = b.qn.session.isSome ∧ q.waitAt = b.qn.waitAt)
    (exec_qnUnlock ..) hb ht ha ⟨b.touched c, ?_, modesCfg_iff.1 ht.2.2, .trans (.accepted ..) (.of_qc rfl), Option.isSome_map, rfl⟩
  exact if_pos (Option.isSome_iff_ne_none.2 hw)

theorem qnLock_ok (hb : b = s.bench c.bench) (ht : b.Takes modesCfg) (ha : b.Answers c) :
    Serves (.qnLock c) c s fun b' => Completed c .ok 0 b b' ∧ (b'.qn.session = none ∧ b'.qn.cfg = b.qn.cfg ∧
      (b.qn.session ≠ none → b'.qn.staged = b.qn.cfg.getD (Vector.replicate 24 0))) := by
  obtain ⟨q, he, hs, hc, hst⟩ := (b.accepted c).quoinClose_books s.hub.calNow
  exact quoinCommand_serves (P := fun q => q.session = none ∧ q.cfg = b.qn.cfg ∧
    (b.qn.session ≠ none → q.staged = b.qn.cfg.getD (Vector.replicate 24 0)))
    (exec_qnLock ..) hb ht ha ⟨_, congrArg (Bench.complete c .ok 0) he, modesCfg_iff.1 ht.2.2, .trans (.accepted ..) (.of_qc rfl),
      hs, hc, hst⟩

/-- The password replaced: by one who gives the old one, or where there is none. -/
theorem qnSetPassword_ok {old : List Byte} (hb : b = s.bench c.bench) (ht : b.Takes modesCfg) (ha : b.Answers c)
    (hw : b.qn.waitAt = none) (hnew : passwordOk new = true)
    (hold : (passwordOk old = true ∧ b.qn.password = some old) ∨ (old = [] ∧ b.qn.password = none)) :
    Serves (.qnSetPassword c old new oper) c s fun b' => Completed c .ok 0 b b' ∧
      (b'.qn.password = some new ∧ b'.qn.failures = 0) := by
  refine quoinLogged_serves (P := fun q => q.password = some new ∧ q.failures = 0)
    (fun q => { q with password := some new, failures := 0 }) (exec_qnSetPassword ..) hb ht ha (modesCfg_iff.1 ht.2.2) ?_
    fun l => ⟨rfl, rfl⟩
  have hw' : (b.touched c).qn.waitAt = none := hw
  change Bench.LoggedAs _ _ _ _ _ (if (b.touched c).qn.waitAt.isSome then _
    else if !passwordOk new || !(passwordOk old || (old.isEmpty && (b.touched c).qn.password.isNone)) then _
    else if !(match (b.touched c).qn.password with | none => old.isEmpty | some p => (p = old : Bool)) then _ else _)
  have hpw : (b.touched c).qn.password = b.qn.password := rfl
  rw [hw', hpw, hnew]
  rcases hold with ⟨ho, hp⟩ | ⟨rfl, hp⟩
  · rw [hp, ho]
    have hneg : ¬ (!(old = old : Bool)) = true := by simp
    exact ⟨_, _, _, _, _, (if_neg Bool.false_ne_true).trans ((if_neg Bool.false_ne_true).trans (if_neg hneg))⟩
  · rw [hp]
    exact ⟨_, _, _, _, _, rfl⟩

end rows

/-! ### The commit of a configuration -/

theorem Bench.safetyFlags_only (b : Bench) : ∃ p, b.safetyFlags = { b with points := p } := by
  unfold Bench.safetyFlags
  extract_lets maps b₁
  have h₁ : ∃ p, b₁ = { b with points := p } := ⟨_, rfl⟩
  clear_value b₁
  induction maps generalizing b₁ with
  | nil => exact h₁
  | cons p l ih =>
    obtain ⟨m, rfl⟩ := h₁
    exact ih _ ⟨_, rfl⟩

/-- Quoin with what it staged in force, and no session. -/
def Quoin.commit (q : Quoin) : Quoin :=
  { q with
    cfg := some q.staged, copyA := some q.staged, copyB := some q.staged, session := none
    a := { q.a with fault := putBit q.a.fault 10 false }, b := { q.b with fault := putBit q.b.fault 10 false }
    stPend := q.stPend && bitOf (cfgWord q.staged 0) 31 }

/-- The lanes start anew under a configuration; the books stay. -/
theorem Bench.quoinRestart_books (b : Bench) : b.quoinRestart.bn.mode = b.bn.mode ∧ b.Carries b.quoinRestart ∧
    b.qn.SameBooks b.quoinRestart.qn := by
  unfold Bench.quoinRestart
  extract_lets st
  have hq (f : Quoin → Quoin) (h : b.qn.SameBooks (f b.qn)) : (b.setQuoin f).lanesEval.bn.mode = b.bn.mode ∧
      b.Carries (b.setQuoin f).lanesEval ∧ b.qn.SameBooks (b.setQuoin f).lanesEval.qn := by
    have hw := Bench.QuoinWork.lanesEval (b.setQuoin f)
    exact ⟨hw.mode, .trans (b' := b.setQuoin f) (.of_qc rfl) hw.carries, h.trans hw.qn.books⟩
  exact hq _ (by constructor <;> rfl)

section commit

variable {s : State} {c : Cmd} {oper : BitVec 16} {first : Word} {b : Bench}

/-- What QN_COMMIT does with a configuration that passes its checks. -/
theorem Bench.commit_books {cal : Nat} {v w : Word} {d0 d1 d2 : Word} (hm : b.bn.mode = .configure) :
    ∃ b₁, (((b.accepted c).setQuoin Quoin.commit).safetyFlags.quoinRestart.quoinLog cal 1 oper v w).raise 9 4 d0 d1 d2 = b₁ ∧
      b₁.bn.mode = .configure ∧ b.Carries b₁ ∧ b₁.qn.cfg = some b.qn.staged ∧ b₁.qn.copyA = some b.qn.staged ∧
      b₁.qn.copyB = some b.qn.staged ∧ b₁.qn.session = none ∧ b₁.qn.logSeq = b.qn.logSeq + 1 := by
  refine ⟨_, rfl, ?_⟩
  obtain ⟨p, hp⟩ := ((b.accepted c).setQuoin Quoin.commit).safetyFlags_only
  have h₀ : ((b.accepted c).setQuoin Quoin.commit).safetyFlags.bn.mode = .configure ∧
      b.Carries ((b.accepted c).setQuoin Quoin.commit).safetyFlags ∧
      ((b.accepted c).setQuoin Quoin.commit).safetyFlags.qn = b.qn.commit := by
    rw [hp]
    exact ⟨hm, .trans (.accepted ..) (.of_qc rfl), rfl⟩
  generalize ((b.accepted c).setQuoin Quoin.commit).safetyFlags = b₀ at h₀
  obtain ⟨m₀, c₀, q₀⟩ := h₀
  obtain ⟨m₁, c₁, q₁⟩ := b₀.quoinRestart_books
  rw [q₀] at q₁
  generalize b₀.quoinRestart = b₁ at m₁ c₁ q₁
  obtain ⟨l, hl⟩ := b₁.quoinLog_books cal 1 oper v w
  have h₂ : (b₁.quoinLog cal 1 oper v w).bn.mode = .configure ∧ b.Carries (b₁.quoinLog cal 1 oper v w) ∧
      (b₁.quoinLog cal 1 oper v w).qn = b₁.qn.logged l := by
    rw [hl]
    exact ⟨m₁.trans m₀, (c₀.trans c₁).trans (.of_qc rfl), rfl⟩
  generalize b₁.quoinLog cal 1 oper v w = b₂ at h₂
  obtain ⟨m₂, c₂, q₂⟩ := h₂
  rw [Bench.raise_bn, Bench.raise_qn, q₂]
  exact ⟨m₂, c₂.trans (.raise ..), q₁.cfg, q₁.copyA, q₁.copyB, q₁.session, congrArg (· + 1) q₁.logSeq⟩

/-- A commit that is refused: logged with its status. -/
def Bench.commitNo (c : Cmd) (cal : Nat) (oper : BitVec 16) (st : Status) (b : Bench) : Bench :=
  ((b.quoinTouch).quoinLog cal 2 oper b.qn.crc (BitVec.ofNat 32 st.code)).refuse c st

/-- What QN_COMMIT does once accepted. -/
def Bench.commitCmd (c : Cmd) (cal : Nat) (crc : Word) (oper : BitVec 16) (b : Bench) : Bench :=
  if b.bn.mode ≠ .configure || b.qn.session.isNone then b.commitNo c cal oper .badState
  else if !b.quoinCfgOk b.qn.staged then b.commitNo c cal oper .badParam
  else if crc32c b.qn.staged.toList ≠ crc then b.commitNo c cal oper .checkFailed
  else (((b.setQuoin Quoin.commit).safetyFlags.quoinRestart.quoinLog cal 1 oper b.qn.crc 0).raise 9 4 0 0 0).complete c .ok crc.toNat

theorem exec_qnCommit_cmd (c : Cmd) (crc : Word) (oper : BitVec 16) (s : State) : exec (.qnCommit c crc oper) s =
    s.onBench c.bench (Bench.accept (.qnCommit c crc oper) c modesAny (Bench.commitCmd c s.hub.calNow crc oper)) := rfl

theorem Bench.commitCmd_ok {cal : Nat} (hm : b.bn.mode = .configure) (hs : b.qn.session ≠ none)
    (hok : b.quoinCfgOk b.qn.staged = true) : b.commitCmd c cal (crc32c b.qn.staged.toList) oper =
      (((b.setQuoin Quoin.commit).safetyFlags.quoinRestart.quoinLog cal 1 oper b.qn.crc 0).raise 9 4 0 0 0).complete c .ok
        (crc32c b.qn.staged.toList).toNat := by
  unfold Bench.commitCmd
  rw [if_neg (by simp [hm, hs]), hok, if_neg (by decide), if_neg (fun h => h rfl)]

theorem Bench.commitCmd_checkFailed {cal : Nat} (hm : b.bn.mode = .configure) (hs : b.qn.session ≠ none)
    (hok : b.quoinCfgOk b.qn.staged = true) (hc : first ≠ crc32c b.qn.staged.toList) :
    b.commitCmd c cal first oper = b.commitNo c cal oper .checkFailed := by
  unfold Bench.commitCmd
  rw [if_neg (by simp [hm, hs]), hok, if_neg (by decide), if_pos (Ne.symm hc)]

theorem Bench.commitCmd_badState {cal : Nat} (hs : b.qn.session = none) :
    b.commitCmd c cal first oper = b.commitNo c cal oper .badState := by
  unfold Bench.commitCmd
  rw [if_pos (by simp [hs])]

/-- A refused commit changes the log alone. -/
theorem Bench.commitNo_books {cal : Nat} {st : Status} (hm : b.bn.mode = .configure) :
    ∃ b₁, (b.accepted c).commitNo c cal oper st = b₁.complete c st 0 ∧ b₁.bn.mode = .configure ∧ b.Carries b₁ ∧
      b₁.qn.cfg = b.qn.cfg ∧ b₁.qn.session.isSome = b.qn.session.isSome := by
  obtain ⟨l, hl⟩ := (b.touched c).quoinLog_books cal 2 oper b.qn.crc (BitVec.ofNat 32 st.code)
  refine ⟨_, rfl, ?_⟩
  rw [show ((b.accepted c).quoinTouch).quoinLog cal 2 oper (b.accepted c).qn.crc (BitVec.ofNat 32 st.code) = _ from hl]
  exact ⟨hm, .trans (.accepted ..) (.of_qc rfl), rfl, Option.isSome_map⟩

theorem qnCommit_ok (hb : b = s.bench c.bench) (ht : b.Takes modesCfg) (ha : b.Answers c) (hs : b.qn.session ≠ none)
    (hok : b.quoinCfgOk b.qn.staged = true) : Serves (.qnCommit c (crc32c b.qn.staged.toList) oper) c s fun b' =>
      Completed c .ok (crc32c b.qn.staged.toList).toNat b b' ∧ (b'.qn.cfg = some b.qn.staged ∧
        b'.qn.copyA = some b.qn.staged ∧ b'.qn.copyB = some b.qn.staged ∧ b'.qn.session = none ∧
        b'.qn.logSeq = b.qn.logSeq + 1) := by
  have hm : b.bn.mode = .configure := modesCfg_iff.1 ht.2.2
  obtain ⟨b₁, he, hm₁, hc₁, hq₁⟩ := b.commit_books (c := c) (oper := oper) (cal := s.hub.calNow) (v := b.qn.crc) (w := 0)
    (d0 := 0) (d1 := 0) (d2 := 0) hm
  refine quoinCommand_serves (P := fun q => q.cfg = some b.qn.staged ∧ q.copyA = some b.qn.staged ∧
    q.copyB = some b.qn.staged ∧ q.session = none ∧ q.logSeq = b.qn.logSeq + 1) (exec_qnCommit_cmd ..) hb ht.any ha
    ⟨b₁, ?_, hm₁, hc₁, hq₁⟩
  exact (Bench.commitCmd_ok (b := b.accepted c) hm hs hok).trans (congrArg (Bench.complete c .ok _) he)

theorem qnCommit_checkFailed (hb : b = s.bench c.bench) (ht : b.Takes modesCfg) (ha : b.Answers c) (hs : b.qn.session ≠ none)
    (hok : b.quoinCfgOk b.qn.staged = true) (hc : first ≠ crc32c b.qn.staged.toList) :
    Serves (.qnCommit c first oper) c s fun b' =>
      Completed c .checkFailed 0 b b' ∧ (b'.qn.cfg = b.qn.cfg ∧ b'.qn.session.isSome = true) := by
  have hm : b.bn.mode = .configure := modesCfg_iff.1 ht.2.2
  obtain ⟨b₁, he, hm₁, hc₁, hq₁, hs₁⟩ := b.commitNo_books (c := c) (oper := oper) (cal := s.hub.calNow) (st := .checkFailed) hm
  exact quoinCommand_serves (P := fun q => q.cfg = b.qn.cfg ∧ q.session.isSome = true) (exec_qnCommit_cmd ..) hb ht.any ha
    ⟨b₁, (Bench.commitCmd_checkFailed (b := b.accepted c) hm hs hok hc).trans he, hm₁, hc₁, hq₁,
      hs₁.trans (Option.isSome_iff_ne_none.2 hs)⟩

theorem qnCommit_badState (hb : b = s.bench c.bench) (ht : b.Takes modesCfg) (ha : b.Answers c) (hs : b.qn.session = none) :
    Serves (.qnCommit c first oper) c s fun b' =>
      Completed c .badState 0 b b' ∧ (b'.qn.cfg = b.qn.cfg ∧ b'.qn.session = none) := by
  have hm : b.bn.mode = .configure := modesCfg_iff.1 ht.2.2
  obtain ⟨b₁, he, hm₁, hc₁, hq₁, hs₁⟩ := b.commitNo_books (c := c) (oper := oper) (cal := s.hub.calNow) (st := .badState) hm
  exact quoinCommand_serves (P := fun q => q.cfg = b.qn.cfg ∧ q.session = none) (exec_qnCommit_cmd ..) hb ht.any ha
    ⟨b₁, (Bench.commitCmd_badState (b := b.accepted c) hs).trans he, hm₁, hc₁, hq₁,
      Option.not_isSome_iff_eq_none.1 (by rw [hs₁, hs]; exact Bool.false_ne_true)⟩

end commit

/-! ### The log and the times of a session -/

section times

variable {s : State} {c : Cmd} {first count : Word} {b x : Bench} {n : BenchIx} {t a : Nat} {y : QSession}

/-- What QN_LOG_READ does once accepted. -/
def Bench.logReadCmd (c : Cmd) (first count : Word) (b : Bench) : Bench :=
  let b := b.quoinTouch
  if count = 0 || 256 < count.toNat then b.refuse c .badParam
  else
    let r := logRead b.qn.log first.toNat count.toNat
    b.readDone c r.1.flatten r.2

theorem exec_qnLogRead_cmd (c : Cmd) (first count : Word) (s : State) : exec (.qnLogRead c first count) s =
    s.onBench c.bench (Bench.accept (.qnLogRead c first count) c modesAny (Bench.logReadCmd c first count)) := rfl

theorem Bench.logReadCmd_read (h0 : count ≠ 0) (h1 : count.toNat ≤ 256) : b.logReadCmd c first count =
    b.quoinTouch.readDone c (logRead b.qn.log first.toNat count.toNat).1.flatten (logRead b.qn.log first.toNat count.toNat).2 :=
  if_neg (by
    rw [Bool.or_eq_true, not_or]
    exact ⟨fun h => h0 (of_decide_eq_true h), fun h => Nat.not_lt.2 h1 (of_decide_eq_true h)⟩)

/-- A list that the buffer holds, or what of it the buffer holds, completes the command. -/
theorem Bench.readDone_completed {b₀ b' : Bench} {ws : List Word} {r : Nat} (ha : b₀.Answers c) (h : b₀.Carries b)
    (hq : b'.qc = (b.readDone c ws r).qc) :
    Completed c (if ws.length ≤ c.buf / 4 then .ok else .partialDone) (if ws.length ≤ c.buf / 4 then r else c.buf / 4 * 4) b₀ b' := by
  split
  · next hl => exact (Bench.readDone_ok ha h hl hq).1
  · next hl => exact (Bench.readDone_partial ha h (Nat.lt_of_not_le hl) hq).1

theorem qnLogRead_serves (hb : b = s.bench c.bench) (ht : b.Takes modesAny) (ha : b.Answers c) (h0 : count ≠ 0)
    (h1 : count.toNat ≤ 256) : let found := logRead b.qn.log first.toNat count.toNat
      let full := found.1.flatten.length ≤ c.buf / 4
      Serves (.qnLogRead c first count) c s fun b' =>
        Completed c (if full then .ok else .partialDone) (if full then found.2 else c.buf / 4 * 4) b b' ∧
        (b'.qn.log = b.qn.log ∨ (b.bn.mode ≠ .configure ∧ b.qn.session ≠ none)) := by
  subst hb
  intro found full hi
  have hread := Bench.logReadCmd_read (c := c) (first := first) (b := (s.bench c.bench).accepted c) h0 h1
  have hcar : (s.bench c.bench).Carries ((s.bench c.bench).accepted c).quoinTouch := .trans (.accepted ..) (.of_qc rfl)
  have hqn : (((s.bench c.bench).accepted c).quoinTouch.readDone c found.1.flatten found.2).qn.log = (s.bench c.bench).qn.log := by
    rw [Bench.readDone_qn]
    rfl
  have hsess : (((s.bench c.bench).accepted c).quoinTouch.readDone c found.1.flatten found.2).qn.session =
      (s.bench c.bench).qn.session.map fun x => { x with last := (s.bench c.bench).rail.up } := by
    rw [Bench.readDone_qn]
    rfl
  have hmode : (((s.bench c.bench).accepted c).quoinTouch.readDone c found.1.flatten found.2).bn.mode = (s.bench c.bench).bn.mode := by
    rw [Bench.readDone_bn]
    rfl
  by_cases hopen : (s.bench c.bench).bn.mode ≠ .configure ∧ (s.bench c.bench).qn.session ≠ none
  · refine gives_of_onBench (exec_qnLogRead_cmd ..) fun q => ?_
    rw [Bench.accept_of_takes hi ht, hread]
    exact ⟨Bench.readDone_completed ha hcar rfl, .inr hopen⟩
  · refine gives_of_onBench_closed (exec_qnLogRead_cmd ..) ?_ ?_
    · rw [Bench.accept_of_takes hi ht, hread]
      by_cases hm : (s.bench c.bench).bn.mode = .configure
      · exact .inl (hmode.trans hm)
      · exact .inr (hsess.trans (by rw [not_not.1 fun hs => hopen ⟨hm, hs⟩]; rfl))
    · rw [Bench.accept_of_takes hi ht, hread]
      exact ⟨Bench.readDone_completed ha hcar rfl, .inl hqn⟩

/-- What QN_SESSION_TIMEOUT does once the time has come on. -/
def Bench.sessionTime (cal : Nat) (b : Bench) : Bench :=
  match b.qn.session with
  | some x => if x.last + 600000000000 ≤ b.rail.up then b.quoinClose cal else b
  | none => b

theorem exec_qnSessionTimeout_time (n : BenchIx) (t : Nat) (s : State) : exec (.qnSessionTimeout n t) s =
    s.onBench n fun b => (b.tick t).sessionTime s.hub.calNow := rfl

theorem Bench.sessionTime_over {cal : Nat} (hy : x.qn.session = some y) (hl : y.last + 600000000000 ≤ x.rail.up) :
    x.sessionTime cal = x.quoinClose cal := by
  unfold Bench.sessionTime
  rw [hy]
  exact if_pos hl

theorem Bench.sessionTime_open {cal : Nat} (hy : x.qn.session = some y) (hl : x.rail.up < y.last + 600000000000) :
    x.sessionTime cal = x := by
  unfold Bench.sessionTime
  rw [hy]
  exact if_neg (Nat.not_le.2 hl)

theorem qnSessionTimeout_over (hx : x = (s.bench n).tick t) (hy : x.qn.session = some y)
    (hl : y.last + 600000000000 ≤ x.rail.up) : Gives (.qnSessionTimeout n t) n s fun b' => b'.qn.session = none ∧
      b'.qn.cfg = x.qn.cfg ∧ b'.qn.staged = x.qn.cfg.getD (Vector.replicate 24 0) ∧ b'.points = x.points := by
  obtain ⟨q, he, hs, hc, hst⟩ := x.quoinClose_books s.hub.calNow
  have hf := (Bench.sessionTime_over (cal := s.hub.calNow) hy hl).trans he
  subst hx
  refine gives_of_onBench_closed (exec_qnSessionTimeout_time ..) (.inr ?_) ?_
  · rw [hf]
    exact hs
  · rw [hf]
    exact ⟨hs, hc, hst (by rw [hy]; nofun), rfl⟩

theorem qnSessionTimeout_open (hx : x = (s.bench n).tick t) (hm : x.bn.mode = .configure) (hy : x.qn.session = some y)
    (hl : x.rail.up < y.last + 600000000000) : Gives (.qnSessionTimeout n t) n s fun b' => b'.qn = x.qn := by
  have hf := Bench.sessionTime_open (cal := s.hub.calNow) hy hl
  subst hx
  refine gives_of_onBench_closed (exec_qnSessionTimeout_time ..) (.inl ?_) ?_
  · rw [hf]
    exact hm
  · rw [hf]

/-- What PASSWORD_WAIT_EXPIRY does once the time has come on. -/
def Bench.waitTime (b : Bench) : Bench :=
  match b.qn.waitAt with
  | some a => if a + 60000000000 ≤ b.rail.up then b.setQuoin fun q => { q with waitAt := none, failures := 0 } else b
  | none => b

theorem exec_passwordWaitExpiry_time (n : BenchIx) (t : Nat) (s : State) : exec (.passwordWaitExpiry n t) s =
    s.onBench n fun b => (b.tick t).waitTime := rfl

theorem passwordWaitExpiry_over (hx : x = (s.bench n).tick t) (hw : x.qn.waitAt = some a) (hl : a + 60000000000 ≤ x.rail.up) :
    Gives (.passwordWaitExpiry n t) n s fun b' => b'.qn.waitAt = none ∧ b'.qn.failures = 0 ∧ b'.qn.password = x.qn.password := by
  have hf : x.waitTime = x.setQuoin fun q => { q with waitAt := none, failures := 0 } := by
    unfold Bench.waitTime
    rw [hw]
    exact if_pos hl
  subst hx
  refine gives_of_onBench_quoin (exec_passwordWaitExpiry_time ..) fun q w k l => ?_
  rw [hf]
  exact ⟨rfl, rfl, rfl⟩

theorem passwordWaitExpiry_on (hx : x = (s.bench n).tick t) (hw : x.qn.waitAt = some a) (hl : x.rail.up < a + 60000000000) :
    Gives (.passwordWaitExpiry n t) n s fun b' => b'.qn.waitAt = some a := by
  have hf : x.waitTime = x := by
    unfold Bench.waitTime
    rw [hw]
    exact if_neg (Nat.not_le.2 hl)
  subst hx
  refine gives_of_onBench_quoin (exec_passwordWaitExpiry_time ..) fun q w k l => ?_
  rw [hf]
  exact hw

end times

/-- Settles O32. -/
theorem quoinSessionsGuardTheConfiguration : Obligations.QuoinSessionsGuardTheConfiguration := by
  intro s c pw new oper first count n t y a b q x gives
  refine ⟨fun ht ha => ⟨?unlock, ?wrong, ?busy, ?lock, ?change, ?set, ?commit, ?check, ?closed⟩, ?log, ?ended, ?still, ?waited, ?waits⟩
  case unlock => exact fun hw hp hq => qnUnlock_ok rfl ht ha hw hp hq
  case wrong => exact fun hw hp hn hq => qnUnlock_wrong rfl ht ha hw hp hn hq
  case busy => exact fun hw => qnUnlock_busy rfl ht ha hw
  case lock => exact qnLock_ok rfl ht ha
  case change => exact fun hw hp hnew hq => qnSetPassword_ok rfl ht ha hw hnew (.inl ⟨hp, hq⟩)
  case set =>
    refine fun hw hnew hq hi => (qnSetPassword_ok rfl ht ha hw hnew (.inr ⟨rfl, hq⟩) hi).mono fun b' hb => ?_
    obtain ⟨hc, hp, -⟩ := hb
    exact ⟨hc, hp⟩
  case commit => exact fun hs hok => qnCommit_ok rfl ht ha hs hok
  case check => exact fun hs hok hc => qnCommit_checkFailed rfl ht ha hs hok hc
  case closed => exact fun hs => qnCommit_badState rfl ht ha hs
  case log =>
    intro ht ha h0 h1
    simp only [decide_eq_true_eq]
    exact qnLogRead_serves rfl ht ha h0 h1
  case ended => exact fun _ hy hl => qnSessionTimeout_over rfl hy hl
  case still => exact fun hm hy hl => qnSessionTimeout_open rfl hm hy hl
  case waited => exact fun hw hl => passwordWaitExpiry_over rfl hw hl
  case waits => exact fun hw hl => passwordWaitExpiry_on rfl hw hl
/-! ### What work of the face leaves of its links -/

/-- Two states of a face agree in its links, its power, its tokens and the levels sampled. -/
structure Face.SameLinks (f f' : Face) : Prop where
  powered : f'.powered = f.powered
  faceLink : f'.faceLink = f.faceLink
  linkOk : f'.linkOk = f.linkOk
  tokenOk : f'.tokenOk = f.tokenOk
  tokenAt : f'.tokenAt = f.tokenAt
  follower : f'.follower = f.follower
  raw : ∀ i : Fin 16, (f'.di[i]).raw = (f.di[i]).raw

theorem Face.SameLinks.refl (f : Face) : f.SameLinks f := ⟨rfl, rfl, rfl, rfl, rfl, rfl, fun _ => rfl⟩
theorem Face.SameLinks.trans {f f' f'' : Face} (h : f.SameLinks f') (g : f'.SameLinks f'') : f.SameLinks f'' :=
  ⟨g.powered.trans h.powered, g.faceLink.trans h.faceLink, g.linkOk.trans h.linkOk, g.tokenOk.trans h.tokenOk,
    g.tokenAt.trans h.tokenAt, g.follower.trans h.follower, fun i => (g.raw i).trans (h.raw i)⟩

/-- A bench after work of its face: mode, rail, Quoin, points and token as before, and the face's links. -/
structure Bench.FaceWork (b b' : Bench) : Prop where
  mode : b'.bn.mode = b.bn.mode
  rail : b'.rail = b.rail
  qn : b'.qn = b.qn
  points : b'.points = b.points
  token : b'.nl.tokenAt = b.nl.tokenAt
  face : b.fc.SameLinks b'.fc

namespace Bench.FaceWork
variable {b b' b'' : Bench}

theorem refl : b.FaceWork b := ⟨rfl, rfl, rfl, rfl, rfl, .refl _⟩
theorem trans (h : b.FaceWork b') (g : b'.FaceWork b'') : b.FaceWork b'' :=
  ⟨g.mode.trans h.mode, g.rail.trans h.rail, g.qn.trans h.qn, g.points.trans h.points, g.token.trans h.token, h.face.trans g.face⟩
theorem foldl {α : Type} {f : Bench → α → Bench} (h : ∀ b a, Bench.FaceWork b (f b a)) :
    ∀ (l : List α) (b : Bench), b.FaceWork (l.foldl f b)
  | [], _ => refl
  | a :: l, b => (h b a).trans (foldl h l (f b a))
theorem aside (h : b.Aside b') : b.FaceWork b' := ⟨h.mode, h.rail, h.qn, h.points, h.token, by rw [h.fc]; exact .refl _⟩
theorem setFace {f : Face → Face} (h : b.fc.SameLinks (f b.fc)) : b.FaceWork (b.setFace f) := ⟨rfl, rfl, rfl, rfl, rfl, h⟩
/-- Work on the rest of the face. -/
theorem setRest {f : Face → Face} (h1 : (f b.fc).powered = b.fc.powered) (h2 : (f b.fc).faceLink = b.fc.faceLink)
    (h3 : (f b.fc).linkOk = b.fc.linkOk) (h4 : (f b.fc).tokenOk = b.fc.tokenOk) (h5 : (f b.fc).tokenAt = b.fc.tokenAt)
    (h6 : (f b.fc).follower = b.fc.follower) (h7 : (f b.fc).di = b.fc.di) : b.FaceWork (b.setFace f) :=
  setFace ⟨h1, h2, h3, h4, h5, h6, fun i => by rw [h7]⟩
theorem setDo (b : Bench) (i : Fin 8) (x : DigOut) : b.FaceWork (b.setDo i x) := setRest rfl rfl rfl rfl rfl rfl rfl
theorem setAo (b : Bench) (i : Fin 2) (x : AnaOut) : b.FaceWork (b.setAo i x) := setRest rfl rfl rfl rfl rfl rfl rfl
theorem setEnc (b : Bench) (i : Fin 2) (x : Encoder) : b.FaceWork (b.setEnc i x) := setRest rfl rfl rfl rfl rfl rfl rfl

theorem faceHear (b : Bench) (n : FaceNews) : b.FaceWork (b.faceHear n) := by
  have count {f : Face → Face} (b' : Bench) (h : b.FaceWork (b.setFace f)) (g : (b.setFace f).Aside b') : b.FaceWork b' :=
    h.trans (aside g)
  cases n with
  | warn =>
    refine count _ (f := fun f => { f with sagCnt := inc f.sagCnt }) (setRest rfl rfl rfl rfl rfl rfl rfl) ?_
    exact ((Bench.Aside.health ..).trans (.raise ..)).trans (.errorCause ..)
  | lockout =>
    refine count _ (f := fun f => { f with lockCnt := inc f.lockCnt }) (setRest rfl rfl rfl rfl rfl rfl rfl) ?_
    exact ((Bench.Aside.health ..).trans (.raise ..)).trans (.errorCause ..)
  | reenabled => exact aside (.raise ..)
  | fault =>
    refine count _ (f := fun f => { f with faultCnt := inc f.faultCnt }) (setRest rfl rfl rfl rfl rfl rfl rfl) ?_
    exact ((Bench.Aside.health ..).trans (.raise ..)).trans (.errorCause ..)
  | wire => exact count _ (f := fun f => { f with wbCnt := inc f.wbCnt }) (setRest rfl rfl rfl rfl rfl rfl rfl) (.raise ..)
  | alarm => exact aside (.raise ..)
  | compliance => exact count _ (f := fun f => { f with cplCnt := inc f.cplCnt }) (setRest rfl rfl rfl rfl rfl rfl rfl) (.raise ..)
  | encErr =>
    refine count _ (f := fun f => { f with encErrCnt := inc f.encErrCnt }) (setRest rfl rfl rfl rfl rfl rfl rfl) ?_
    unfold Bench.faceHear
    dsimp only
    split
    · exact .refl
    · exact .raise ..

theorem faceSay (b : Bench) (n : FaceNews) : b.FaceWork (b.faceSay n) := by
  unfold Bench.faceSay
  split
  · exact faceHear ..
  · exact setRest rfl rfl rfl rfl rfl rfl rfl
theorem outFaultEval (b : Bench) : b.FaceWork b.outFaultEval := by
  unfold Bench.outFaultEval
  extract_lets now was b₁
  have h : b.FaceWork b₁ := setRest rfl rfl rfl rfl rfl rfl rfl
  clear_value b₁
  split
  · exact h.trans (faceSay ..)
  · exact h
theorem faceReport (b : Bench) : b.FaceWork b.faceReport := by
  unfold Bench.faceReport
  split
  · exact setRest rfl rfl rfl rfl rfl rfl rfl
  · exact refl
theorem faceObey (b : Bench) (o : FaceOrder) : b.FaceWork (b.faceObey o) := by
  cases o with
  | clear =>
    unfold Bench.faceObey
    refine .trans (.trans ?_ (outFaultEval _)) (faceReport _)
    exact setRest rfl rfl rfl rfl rfl rfl rfl
  | encSet e t v => exact setEnc ..
theorem handDo (b : Bench) (i : Fin 8) (v : Bool) : b.FaceWork (b.handDo i v).2 := by
  unfold Bench.handDo
  dsimp only
  split
  · exact setDo ..
  · split
    · exact (setDo ..).trans (outFaultEval _)
    · dsimp only
      split
      · exact refl
      · exact (setDo ..).trans (aside (.guardDelay _))
theorem applyAo (b : Bench) (m : Fin 2) (slewed : Bool) (v : Int) : b.FaceWork (b.applyAo m slewed v) := by
  unfold Bench.applyAo
  extract_lets x w slew u b₁ u' start b₂
  have h₁ : b.FaceWork b₁ := by
    unfold b₁
    split
    · exact aside (.guardClip _)
    · exact refl
  have h₂ : b₁.FaceWork b₂ := by
    unfold b₂
    split
    · exact aside (.guardDelay _)
    · exact refl
  clear_value b₁ b₂
  split
  · exact h₁.trans (setAo ..)
  · exact (h₁.trans h₂).trans (setAo ..)
theorem faceConf (b : Bench) : b.FaceWork b.faceConf := by
  unfold Bench.faceConf
  split
  · exact refl
  · refine setFace ⟨rfl, rfl, rfl, rfl, rfl, rfl, fun i => ?_⟩
    simp only [Fin.getElem_fin, Vector.getElem_mapFinIdx]
    split <;> rfl
theorem faceSafe (b : Bench) : b.FaceWork b.faceSafe := by
  unfold Bench.faceSafe
  split
  · exact refl
  · extract_lets now safe b₁
    have h₁ : b.FaceWork b₁ := (faceConf b).trans (setRest rfl rfl rfl rfl rfl rfl rfl)
    clear_value b₁
    exact (((h₁.trans (applyAo ..)).trans (applyAo ..)).trans (outFaultEval _)).trans (faceReport _)
theorem faceBack (b : Bench) : b.FaceWork b.faceBack := by
  unfold Bench.faceBack
  split
  · exact refl
  · split
    · exact (foldl (fun b i => handDo ..) _ _).trans (foldl (fun b m => applyAo ..) _ _)
    · exact faceSafe _
    · exact faceSafe _
    · exact refl
/-- The outputs fall to their safe values. -/
theorem faceDrop (b : Bench) (off : Bool) : b.FaceWork (b.faceDrop off) := by
  unfold Bench.faceDrop
  extract_lets now
  refine .trans ?_ (outFaultEval _)
  exact setRest rfl rfl rfl rfl rfl rfl rfl

end Bench.FaceWork

/-! ### Points that stay -/

/-- The rail stands, Quoin's configuration stays, and no point is written but a mirror point. -/
structure Bench.Still (b b' : Bench) : Prop where
  rail : b'.rail = b.rail
  cfg : b'.qn.cfg = b.qn.cfg
  points : ∀ p, some p ∉ b.mirrorPoints → b'.point p = b.point p

namespace Bench.Still
variable {b b' b'' : Bench}

theorem refl : b.Still b := ⟨rfl, rfl, fun _ _ => rfl⟩
theorem trans (h : b.Still b') (g : b'.Still b'') : b.Still b'' :=
  ⟨g.rail.trans h.rail, g.cfg.trans h.cfg, fun p hp => (g.points p (by rwa [Bench.mirrorPoints_congr h.cfg])).trans (h.points p hp)⟩
theorem of_points (hr : b'.rail = b.rail) (hc : b'.qn.cfg = b.qn.cfg) (hp : b'.points = b.points) : b.Still b' :=
  ⟨hr, hc, fun p _ => by unfold Bench.point; rw [hp]⟩
theorem face (h : b.FaceWork b') : b.Still b' := of_points h.rail (by rw [h.qn]) h.points
theorem quoin (h : b.QuoinWork b') : b.Still b' := ⟨h.rail, h.qn.books.cfg, h.points⟩
theorem setLane (b : Bench) (laneB : Bool) (l : Lane) : b.Still (b.setLane laneB l) := by
  cases laneB <;> exact of_points rfl rfl rfl
theorem setFace (b : Bench) (f : Face → Face) : b.Still (b.setFace f) := of_points rfl rfl rfl

end Bench.Still

/-- References that set change Quoin alone, and not its configuration. -/
theorem Bench.refSettle_only (cal : Nat) (b : Bench) : ∃ q, b.refSettle cal = { b with qn := q } ∧ q.cfg = b.qn.cfg := by
  unfold Bench.refSettle
  extract_lets due b₁
  have h₁ : ∃ q, b₁ = { b with qn := q } ∧ q.cfg = b.qn.cfg := ⟨_, rfl, rfl⟩
  clear_value b₁ due
  induction due generalizing b₁ with
  | nil => exact h₁
  | cons r l ih =>
    obtain ⟨q, rfl, hq⟩ := h₁
    exact ih _ ⟨_, rfl, hq⟩

/-- A frame to the face: its link runs, and its follower follows. -/
theorem Bench.faceFramed_spec (b : Bench) : ∃ b₁, b.faceFramed = b₁ ∧ b.Still b₁ ∧ b₁.fc.faceLink = true ∧
    b₁.fc.follower = b.rail.now ∧ b₁.bn.mode = b.bn.mode ∧ b₁.qn = b.qn ∧ b₁.fc.tokenOk = b.fc.tokenOk ∧
    b₁.fc.powered = b.fc.powered ∧ b₁.points = b.points := by
  refine ⟨_, rfl, ?_⟩
  unfold Bench.faceFramed
  extract_lets l b₁
  have h₀ : ∃ b₀ : Bench, b₀.FaceWork b₁ ∧ b.Still b₀ ∧ b₀.fc.faceLink = true ∧ b₀.fc.follower = b.rail.now ∧
      b₀.bn.mode = b.bn.mode ∧ b₀.qn = b.qn ∧ b₀.fc.tokenOk = b.fc.tokenOk ∧ b₀.fc.powered = b.fc.powered ∧
      b₀.points = b.points := ⟨_, .faceConf _, .setFace .., rfl, rfl, rfl, rfl, rfl, rfl, rfl⟩
  obtain ⟨b₀, h₁, hs, hl, hf, hm, hq, ht, hp, hpt⟩ := h₀
  clear_value b₁
  have h := h₁.trans (.foldl (fun b o => .faceObey b o) l b₁)
  exact ⟨hs.trans (.face h), h.face.faceLink.trans hl, h.face.follower.trans hf, h.mode.trans hm, h.qn.trans hq,
    h.face.tokenOk.trans ht, h.face.powered.trans hp, h.points.trans hpt⟩

/-- The drive of lane A's switches toggles. -/
theorem Bench.toggle_spec (b : Bench) : b.Still (b.toggle false) ∧ (b.toggle false).fc = b.fc ∧
    (b.toggle false).qn.a.toggleAt = b.rail.now ∧ (b.toggle false).qn.a.driveLost = false := by
  unfold Bench.toggle
  extract_lets l b₁
  have h₁ : b.Still b₁ ∧ b₁.fc = b.fc ∧ b₁.qn.a.toggleAt = b.rail.now ∧ b₁.qn.a.driveLost = false :=
    ⟨.setLane .., rfl, rfl, rfl⟩
  obtain ⟨hs, hf, ht, hd⟩ := h₁
  clear_value b₁
  split
  · have hw := Bench.QuoinWork.quoinEval b₁
    exact ⟨hs.trans (.quoin hw), hw.fc.trans hf, hw.qn.a.toggleAt.trans ht, hw.qn.a.driveLost.trans hd⟩
  · exact ⟨hs, hf, ht, hd⟩

/-! ### Frames of the barrier link -/

/-- What BARRIER_FRAME does on a face with power and a core, once references have settled. -/
def Bench.barrier (toFace : Bool) (si : BitVec 5) (b : Bench) : Bench :=
  if toFace then
    ((if b.fc.faceLink then b.faceFramed else b.faceFramed.faceBack).toggle false).quoinEval
  else (b.faceHeard.faceReport.laneSample false si).quoinEval

theorem exec_barrierFrame_barrier (n : BenchIx) (t : Nat) (toFace : Bool) (si : BitVec 5) (s : State) :
    exec (.barrierFrame n t toFace si) s = s.onBench n fun b =>
      if !((b.tick t).refSettle s.hub.calNow).fc.powered || !((b.tick t).refSettle s.hub.calNow).bn.coreOk then
        (b.tick t).refSettle s.hub.calNow
      else ((b.tick t).refSettle s.hub.calNow).barrier toFace si := rfl

theorem Bench.barrier_toFace (b : Bench) (si : BitVec 5) : b.Still (b.barrier true si) ∧ (b.barrier true si).fc.faceLink = true ∧
    (b.barrier true si).fc.follower = b.rail.now ∧ (b.barrier true si).qn.a.toggleAt = b.rail.now ∧
    (b.barrier true si).qn.a.driveLost = false := by
  obtain ⟨b₁, he, hs, hl, hf, -⟩ := b.faceFramed_spec
  unfold Bench.barrier
  rw [if_pos rfl, he]
  have h₂ : ∃ b₂, (if b.fc.faceLink then b₁ else b₁.faceBack) = b₂ ∧ b₁.FaceWork b₂ := by
    refine ⟨_, rfl, ?_⟩
    split
    · exact .refl
    · exact .faceBack _
  obtain ⟨b₂, he₂, h₂⟩ := h₂
  rw [he₂]
  have hs₂ := hs.trans (.face h₂)
  obtain ⟨h₃, hfc, ht, hd⟩ := b₂.toggle_spec
  have hw := Bench.QuoinWork.quoinEval (b₂.toggle false)
  rw [hw.fc, hfc, hw.qn.a.toggleAt, ht, hw.qn.a.driveLost, hs₂.rail]
  exact ⟨(hs₂.trans h₃).trans (.quoin hw), h₂.face.faceLink.trans hl, h₂.face.follower.trans hf, rfl, hd⟩

/-- A face frame: what waited is heard, and its link runs. -/
theorem Bench.faceHeard_spec (b : Bench) : ∃ b₁, b.faceHeard = b₁ ∧ b.Still b₁ ∧ b₁.fc.linkOk = true ∧
    (∀ i : Fin 16, (b₁.fc.di[i]).raw = (b.fc.di[i]).raw) ∧ b₁.bn.mode = b.bn.mode ∧ b₁.fc.faceLink = b.fc.faceLink ∧
    b₁.fc.tokenOk = b.fc.tokenOk ∧ b₁.fc.powered = b.fc.powered ∧ b₁.points = b.points := by
  refine ⟨_, rfl, ?_⟩
  unfold Bench.faceHeard
  extract_lets l
  have h := Bench.FaceWork.foldl (fun b n => .faceHear b n) l
    (b.setFace fun f => { f with linkOk := true, confAt := b.rail.now, news := [] })
  exact ⟨.trans (.setFace ..) (.face h), h.face.linkOk, h.face.raw, h.mode, h.face.faceLink, h.face.tokenOk, h.face.powered, h.points⟩

theorem foldl_putBit_fin {m : Nat} (f : Fin m → Bool) (l : List (Fin m)) {k : Nat} (hk : m ≤ k) (w : BitVec k) (i : Fin m)
    (h : i ∈ l) : (l.foldl (fun w (j : Fin m) => putBit w j.val (f j)) w).getLsbD i = f i := by
  have go (l : List (Fin m)) (w : BitVec k) : i ∈ l ∨ bitOf w i = f i →
      bitOf (l.foldl (fun w (j : Fin m) => putBit w j.val (f j)) w) i = f i := by
    induction l generalizing w with
    | nil => exact fun hi => hi.resolve_left List.not_mem_nil
    | cons j l ih =>
      intro hi
      refine ih _ ?_
      by_cases e : j = i
      · subst e
        exact .inr (bitOf_putBit_self _ _ (by omega))
      · rw [bitOf_putBit_other _ _ fun h => e (Fin.ext h)]
        exact hi.imp_left fun h => (List.mem_cons.1 h).resolve_left (Ne.symm e)
  exact go l w (.inl h)

/-- The next frame says the levels of the inputs. -/
theorem Bench.faceReport_raw {b : Bench} (h : b.fc.linkOk = true) (i : Fin 16) :
    (b.faceReport.fc.seen.raw).getLsbD i = (b.fc.di[i]).raw := by
  unfold Bench.faceReport
  rw [if_pos h]
  exact foldl_putBit_fin (fun i : Fin 16 => (b.fc.di[i]).raw) (List.finRange 16) (by decide) 0 i (List.mem_finRange i)

theorem Bench.chanSample_raw (b : Bench) (raw : Bool) (period : Nat) (x : Chan) : (b.chanSample raw period x).1.raw = raw := by
  unfold Bench.chanSample
  extract_lets now counted x₁ ahead
  split
  · rfl
  · split <;> rfl

/-- One channel of lane A sampled. -/
def Bench.sampleOne (si : BitVec 5) (b : Bench) (c : Fin 5) : Bench :=
  let l := b.lane false
  let r := b.chanSample (si.getLsbD c.val) 1000 l.ch[c]
  let b := b.setLane false { l with ch := l.ch.set c r.1 }
  if r.2 then b.verifyFailed false c.val else b

theorem Bench.sampleOne_spec (b : Bench) (si : BitVec 5) (c : Fin 5) : b.Still (b.sampleOne si c) ∧ (b.sampleOne si c).fc = b.fc ∧
    ∃ x, (b.sampleOne si c).qn.a.ch = b.qn.a.ch.set c x ∧ x.raw = si.getLsbD c := by
  unfold Bench.sampleOne
  have hraw := b.chanSample_raw (si.getLsbD c.val) 1000 (b.lane false).ch[c]
  extract_lets l r b₁
  have h₁ : b.Still b₁ ∧ b₁.fc = b.fc ∧ b₁.qn.a.ch = b.qn.a.ch.set c r.1 := ⟨.setLane .., rfl, rfl⟩
  obtain ⟨hs, hf, hc⟩ := h₁
  clear_value b₁
  split
  · rw [Bench.verifyFailed_tested]
    have ht (n : Word) (m : Lane) : b₁.Still (b₁.tested false n m) ∧ (b₁.tested false n m).fc = b₁.fc ∧
        (b₁.tested false n m).qn.a = m := ⟨.of_points rfl rfl rfl, rfl, rfl⟩
    have hl (m : Lane) (bit : Nat) : (m.latch bit).ch = m.ch := by
      unfold Lane.latch
      split <;> rfl
    obtain ⟨ts, tf, ta⟩ := ht (inc b₁.qn.testfailCnt) ((b₁.lane false).latch (chanBit c))
    exact ⟨hs.trans ts, tf.trans hf, r.1, by rw [ta, hl]; exact hc, hraw⟩
  · exact ⟨hs, hf, r.1, hc, hraw⟩

theorem Bench.laneSample_fold (b : Bench) (si : BitVec 5) : b.laneSample false si = (List.finRange 5).foldl (Bench.sampleOne si) b := by
  unfold Bench.laneSample
  generalize List.finRange 5 = cs
  rfl

/-- Lane A's samples: the channels have their raw states, and the face and the points stay. -/
theorem Bench.laneSample_spec (b : Bench) (si : BitVec 5) : b.Still (b.laneSample false si) ∧ (b.laneSample false si).fc = b.fc ∧
    ∀ c : Fin 5, ((b.laneSample false si).qn.a.ch[c]).raw = si.getLsbD c := by
  have go (cs : List (Fin 5)) (b : Bench) : b.Still (cs.foldl (Bench.sampleOne si) b) ∧ (cs.foldl (Bench.sampleOne si) b).fc = b.fc ∧
      ∀ c : Fin 5, c ∈ cs ∨ (b.qn.a.ch[c]).raw = si.getLsbD c → ((cs.foldl (Bench.sampleOne si) b).qn.a.ch[c]).raw = si.getLsbD c := by
    induction cs generalizing b with
    | nil => exact ⟨.refl, rfl, fun c hc => hc.resolve_left List.not_mem_nil⟩
    | cons d cs ih =>
      obtain ⟨hs, hf, x, hx, hr⟩ := b.sampleOne_spec si d
      obtain ⟨is, if', ir⟩ := ih (b.sampleOne si d)
      refine ⟨hs.trans is, if'.trans hf, fun c hc => ir c ?_⟩
      rw [List.mem_cons] at hc
      rw [hx]
      by_cases e : d = c
      · subst e
        exact .inr (by simpa using hr)
      · have hne : d.val ≠ c.val := fun h => e (Fin.ext h)
        refine (hc.elim (fun h => h.resolve_left (Ne.symm e) |> .inl) fun h => .inr ?_)
        simp only [Fin.getElem_fin, Vector.getElem_set_ne _ _ hne] at h ⊢
        exact h
  obtain ⟨hs, hf, hr⟩ := go (List.finRange 5) b
  rw [Bench.laneSample_fold]
  exact ⟨hs, hf, fun c => hr c (.inl (List.mem_finRange c))⟩

theorem Bench.barrier_fromFace (b : Bench) (si : BitVec 5) : b.Still (b.barrier false si) ∧ (b.barrier false si).fc.linkOk = true ∧
    (∀ i : Fin 16, ((b.barrier false si).fc.seen.raw).getLsbD i = (b.fc.di[i]).raw) ∧
    ∀ c : Fin 5, ((b.barrier false si).qn.a.ch[c]).raw = si.getLsbD c := by
  obtain ⟨b₁, he, hs₁, hl, hraw, -⟩ := b.faceHeard_spec
  unfold Bench.barrier
  rw [if_neg Bool.false_ne_true, he]
  have hrep := Bench.FaceWork.faceReport b₁
  obtain ⟨hs, hf, hch⟩ := b₁.faceReport.laneSample_spec si
  have hw := Bench.QuoinWork.quoinEval (b₁.faceReport.laneSample false si)
  rw [hw.fc, hf, hw.qn.a.ch]
  exact ⟨((hs₁.trans (.face hrep)).trans hs).trans (.quoin hw), hrep.face.linkOk.trans hl,
    fun i => (Bench.faceReport_raw hl i).trans (hraw i), hch⟩

section rows

variable {s : State} {n : BenchIx} {t : Nat} {x : Bench}

/-- Points of a bench of which another bench is the same but for Quoin. -/
theorem Bench.point_any (b : Bench) (q : Quoin) (p : Nat) : Bench.point { b with qn := q } p = b.point p := rfl

theorem barrierFrame_gives {toFace : Bool} {si : BitVec 5} {P : Bench → Prop} (hx : x = (s.bench n).tick t)
    (hp : x.fc.powered = true) (hc : x.bn.coreOk = true)
    (h : ∀ q, q.cfg = x.qn.cfg → ∀ b', ({ x with qn := q } : Bench).barrier toFace si = b' →
      ∀ y w k l, P { b' with qn := { b'.qn with session := y, staged := w, logSeq := k, log := l } }) :
    Gives (.barrierFrame n t toFace si) n s P := by
  refine gives_of_onBench_quoin (exec_barrierFrame_barrier ..) fun y w k l => ?_
  obtain ⟨q, hq, hcfg⟩ := x.refSettle_only s.hub.calNow
  dsimp only
  rw [← hx, hq, if_neg (by simp [hp, hc])]
  exact h q hcfg _ rfl y w k l

/-- Points stay where they did on the bench with its references settled. -/
theorem Bench.Still.of_settled {b' : Bench} {q : Quoin} (hq : q.cfg = x.qn.cfg) (h : Bench.Still { x with qn := q } b') :
    x.Still b' :=
  .trans (b' := { x with qn := q }) (.of_points rfl hq rfl) h

theorem barrierFrame_toFace {si : BitVec 5} (hx : x = (s.bench n).tick t) (hp : x.fc.powered = true) (hc : x.bn.coreOk = true) :
    Gives (.barrierFrame n t true si) n s fun b' => b'.fc.faceLink = true ∧ b'.fc.follower = x.rail.now ∧
      b'.qn.a.toggleAt = x.rail.now ∧ b'.qn.a.driveLost = false ∧ ∀ p, some p ∉ x.mirrorPoints → b'.point p = x.point p := by
  refine barrierFrame_gives hx hp hc fun q hq b' he y w k l => ?_
  obtain ⟨hs, hl, hf, ht, hd⟩ := Bench.barrier_toFace { x with qn := q } si
  rw [he] at hs hl hf ht hd
  exact ⟨hl, hf, ht, hd, (hs.of_settled hq).points⟩

theorem barrierFrame_fromFace {si : BitVec 5} (hx : x = (s.bench n).tick t) (hp : x.fc.powered = true) (hc : x.bn.coreOk = true) :
    Gives (.barrierFrame n t false si) n s fun b' => b'.fc.linkOk = true ∧
      (∀ p, some p ∉ x.mirrorPoints → b'.point p = x.point p) ∧
      (∀ i : Fin 16, (b'.fc.seen.raw).getLsbD i = (x.fc.di[i]).raw) ∧ ∀ ch : Fin 5, (b'.qn.a.ch[ch]).raw = si.getLsbD ch := by
  refine barrierFrame_gives hx hp hc fun q hq b' he y w k l => ?_
  obtain ⟨hs, hl, hraw, hch⟩ := Bench.barrier_fromFace { x with qn := q } si
  rw [he] at hs hl hraw hch
  exact ⟨hl, (hs.of_settled hq).points, hraw, hch⟩

theorem barrierFrame_dead {toFace : Bool} {si : BitVec 5} (hx : x = (s.bench n).tick t)
    (h : x.fc.powered = false ∨ x.bn.coreOk = false) :
    Gives (.barrierFrame n t toFace si) n s fun b' => b'.fc = x.fc ∧ b'.points = x.points := by
  refine gives_of_onBench (exec_barrierFrame_barrier ..) fun q' => ?_
  obtain ⟨q, hq, -⟩ := x.refSettle_only s.hub.calNow
  dsimp only
  rw [← hx, hq, if_pos (by rcases h with h | h <;> simp [h])]
  exact ⟨rfl, rfl⟩

/-! ### The face without frames, tokens or power -/

/-- What is left of a face that one of these is missing: its link, its tokens and its power as before, and after the
decision the OSSDs open. -/
theorem Bench.quoinEval_dead {b : Bench} (h : b.outEn = false) : b.quoinEval.outEn = false ∧ b.quoinEval.qn.ossdOn = false ∧
    b.quoinEval.fc = b.fc ∧ b.Still b.quoinEval := by
  have hw := Bench.QuoinWork.quoinEval b
  exact ⟨(Bench.outEn_congr hw.mode hw.fc).trans h, Bench.quoinEval_off h, hw.fc, .quoin hw⟩

/-- The outcome on a bench that stays still, with the outputs off. -/
theorem gives_off {i : Instr} {P : Face → Prop} {f : Bench → Bench} {b : Bench} (he : exec i s = s.onBench n fun b => f (b.tick t))
    (hx : x = (s.bench n).tick t) (hf : f x = b.quoinEval) (hs : x.Still b) (ho : b.outEn = false) (hp : P b.fc) :
    Gives i n s fun b' => P b'.fc ∧ b'.outEn = false ∧ b'.qn.ossdOn = false ∧
      ∀ p, some p ∉ x.mirrorPoints → b'.point p = x.point p := by
  subst hx
  obtain ⟨h1, h2, h3, h4⟩ := Bench.quoinEval_dead ho
  refine gives_of_onBench_quoin he fun y w k l => ?_
  rw [hf]
  exact ⟨h3.symm ▸ hp, h1, h2, (hs.trans h4).points⟩

theorem Bench.outEn_of_link {b : Bench} (h : b.fc.faceLink = false) : b.outEn = false := by simp [Bench.outEn, h]
theorem Bench.outEn_of_token {b : Bench} (h : b.fc.tokenOk = false) : b.outEn = false := by simp [Bench.outEn, h]
theorem Bench.outEn_of_power {b : Bench} (h : b.fc.powered = false) : b.outEn = false := by simp [Bench.outEn, h]
theorem Bench.doLand_of_token {b : Bench} (h : b.fc.tokenOk = false) (j : Fin 8) : b.doLand j = false := by
  simp [Bench.doLand, h]
theorem Bench.doLand_of_power {b : Bench} (h : b.fc.powered = false) (j : Fin 8) : b.doLand j = false := by
  simp [Bench.doLand, h]

theorem Bench.faceAlone_spec (b : Bench) : b.Still b.faceAlone ∧ b.faceAlone.fc.faceLink = false := by
  unfold Bench.faceAlone
  split
  · next h => exact ⟨.refl, by simpa using h⟩
  · exact ⟨.setFace .., rfl⟩

theorem faceLinkLoss_off (hx : x = (s.bench n).tick t) : Gives (.faceLinkLoss n t) n s fun b' => b'.fc.faceLink = false ∧
    b'.outEn = false ∧ b'.qn.ossdOn = false ∧ ∀ p, some p ∉ x.mirrorPoints → b'.point p = x.point p := by
  obtain ⟨hs, hl⟩ := x.faceAlone_spec
  have hw := Bench.FaceWork.faceDrop x.faceAlone false
  have hlink := hw.face.faceLink.trans hl
  exact gives_off (P := fun f => f.faceLink = false) (f := fun b => (b.faceAlone.faceDrop false).quoinEval) (exec_faceLinkLoss ..) hx
    rfl (hs.trans (.face hw)) (Bench.outEn_of_link hlink) hlink

/-- What LIVENESS_LOSS does once the time has come on. -/
def Bench.tokenLoss (b : Bench) : Bench :=
  if b.fc.tokenAt + 6000 ≤ b.rail.now then ((b.setFace fun f => { f with tokenOk := false }).faceDrop true).quoinEval else b

theorem livenessLoss_off (hx : x = (s.bench n).tick t) (ha : x.fc.tokenAt + 6000 ≤ x.rail.now) :
    Gives (.livenessLoss n t) n s fun b' => b'.fc.tokenOk = false ∧ b'.outEn = false ∧ b'.qn.ossdOn = false ∧
      ∀ p, some p ∉ x.mirrorPoints → b'.point p = x.point p := by
  have hw := Bench.FaceWork.faceDrop (x.setFace fun f => { f with tokenOk := false }) true
  have hs : x.Still (x.setFace fun f => { f with tokenOk := false }) := .setFace ..
  have htok : ((x.setFace fun f => { f with tokenOk := false }).faceDrop true).fc.tokenOk = false := hw.face.tokenOk
  exact gives_off (P := fun f => f.tokenOk = false) (f := Bench.tokenLoss) (exec_livenessLoss ..) hx (if_pos ha)
    (hs.trans (.face hw)) (Bench.outEn_of_token htok) htok

theorem facePowerLoss_off (hx : x = (s.bench n).tick t) : Gives (.facePowerLoss n t) n s fun b' => b'.fc.powered = false ∧
    b'.outEn = false ∧ b'.qn.ossdOn = false ∧ ∀ p, some p ∉ x.mirrorPoints → b'.point p = x.point p := by
  obtain ⟨hs, -⟩ := x.faceAlone_spec
  have hw := Bench.FaceWork.outFaultEval (x.faceAlone.setFace (Face.unpowered x.rail.now))
  have hp : (x.faceAlone.setFace (Face.unpowered x.rail.now)).outFaultEval.fc.powered = false := hw.face.powered
  exact gives_off (P := fun f => f.powered = false) (f := Bench.facePowerLoss) (exec_facePowerLoss ..) hx rfl
    ((hs.trans (.setFace ..)).trans (.face hw)) (Bench.outEn_of_power hp) hp

/-! ### Tokens, and power that returns -/

/-- What LIVENESS_TOKEN does once the time has come on. -/
def Bench.tokenSeen (pulse : Pulse) (b : Bench) : Bench :=
  if pulse.probe && pulse.rail && b.bn.coreOk then
    let b := b.setNl fun x => { x with tokenAt := some b.rail.now }
    if b.fc.powered && b.fc.faceLink then
      let was := b.fc.tokenOk
      let b := b.setFace fun f => { f with tokenOk := true, tokenAt := b.rail.now }
      if was then b else b.faceBack
    else b
  else b

theorem exec_livenessToken_seen (n : BenchIx) (t : Nat) (pulse : Pulse) (s : State) :
    exec (.livenessToken n t pulse) s = s.onBench n fun b => (b.tick t).tokenSeen pulse := rfl

theorem Bench.tokenSeen_spec (b : Bench) (hc : b.bn.coreOk = true) :
    (b.tokenSeen { probe := true, rail := true }).nl.tokenAt = some b.rail.now ∧
    (b.tokenSeen { probe := true, rail := true }).points = b.points ∧
    (b.fc.powered = true → b.fc.faceLink = true → (b.tokenSeen { probe := true, rail := true }).fc.tokenOk = true ∧
      (b.tokenSeen { probe := true, rail := true }).fc.tokenAt = b.rail.now) := by
  unfold Bench.tokenSeen
  rw [hc, if_pos (by rfl)]
  extract_lets b₁ was b₂
  have h₁ : b₁.nl.tokenAt = some b.rail.now ∧ b₁.points = b.points ∧ b₁.fc = b.fc ∧ b₁.rail = b.rail := ⟨rfl, rfl, rfl, rfl⟩
  have h₂ : b₂.nl = b₁.nl ∧ b₂.points = b₁.points ∧ b₂.fc.tokenOk = true ∧ b₂.fc.tokenAt = b₁.rail.now := ⟨rfl, rfl, rfl, rfl⟩
  clear_value b₂ was b₁
  obtain ⟨hn, hp, hf, hr⟩ := h₁
  obtain ⟨hn₂, hp₂, ho, hat⟩ := h₂
  have hn₂' := (congrArg Nalry.tokenAt hn₂).trans hn
  rw [hr] at hat
  split
  · have hw : b₂.FaceWork (if was then b₂ else b₂.faceBack) := by
      split
      · exact .refl
      · exact .faceBack _
    exact ⟨hw.token.trans hn₂', hw.points.trans (hp₂.trans hp), fun _ _ => ⟨hw.face.tokenOk.trans ho, hw.face.tokenAt.trans hat⟩⟩
  · next h => exact ⟨hn, hp, fun hpw hl => absurd (by rw [hf, hpw, hl]; rfl) h⟩

theorem livenessToken_seen (hx : x = (s.bench n).tick t) (hc : x.bn.coreOk = true) :
    Gives (.livenessToken n t { probe := true, rail := true }) n s fun b' => b'.nl.tokenAt = some x.rail.now ∧
      b'.points = x.points ∧
      (x.fc.powered = true → x.fc.faceLink = true → b'.fc.tokenOk = true ∧ b'.fc.tokenAt = x.rail.now) := by
  subst hx
  exact gives_of_onBench (exec_livenessToken_seen ..) fun q => Bench.tokenSeen_spec _ hc

theorem livenessToken_bad {p : Pulse} (hx : x = (s.bench n).tick t) (h : p.probe = false ∨ p.rail = false) :
    Gives (.livenessToken n t p) n s fun b' => b'.nl = x.nl ∧ b'.fc = x.fc ∧ b'.points = x.points := by
  subst hx
  refine gives_of_onBench (exec_livenessToken_seen ..) fun q => ?_
  have hf : ((s.bench n).tick t).tokenSeen p = (s.bench n).tick t := if_neg (by rcases h with h | h <;> simp [h])
  rw [hf]
  exact ⟨rfl, rfl, rfl⟩

/-- The face with power again: its links run, and its tokens stand as before. -/
theorem Bench.powered_spec (b : Bench) :
    let b' := (((b.setFace fun f => { f with powered := true }).faceFramed).faceHeard).faceBack
    b'.fc.powered = true ∧ b'.fc.linkOk = true ∧ b'.fc.faceLink = true ∧ b'.fc.tokenOk = b.fc.tokenOk ∧ b'.points = b.points := by
  obtain ⟨b₁, he₁, -, hl₁, -, -, -, ht₁, hp₁, hpt₁⟩ := (b.setFace fun f => { f with powered := true }).faceFramed_spec
  obtain ⟨b₂, he₂, -, hk₂, -, -, hl₂, ht₂, hp₂, hpt₂⟩ := b₁.faceHeard_spec
  have hw := Bench.FaceWork.faceBack b₂
  rw [he₁, he₂]
  exact ⟨hw.face.powered.trans (hp₂.trans hp₁), hw.face.linkOk.trans hk₂, hw.face.faceLink.trans (hl₂.trans hl₁),
    hw.face.tokenOk.trans (ht₂.trans ht₁), hw.points.trans (hpt₂.trans hpt₁)⟩

theorem facePowerReturn_on (hx : x = (s.bench n).tick t) : Gives (.facePowerReturn n t) n s fun b' => b'.fc.powered = true ∧
    b'.fc.linkOk = true ∧ b'.fc.faceLink = true ∧ b'.fc.tokenOk = x.fc.tokenOk ∧ b'.points = x.points := by
  subst hx
  exact gives_of_onBench (exec_facePowerReturn ..) fun q => Bench.powered_spec ((s.bench n).tick t)

end rows

/-- Settles O31. -/
theorem faceLinkAndPower : Obligations.FaceLinkAndPower := by
  intro s n t si x now still off
  have hx : x = (s.bench n).tick t := rfl
  clear_value x
  refine ⟨barrierFrame_toFace hx, barrierFrame_fromFace hx, fun h w => barrierFrame_dead hx h, faceLinkLoss_off hx,
    livenessToken_seen hx, fun q h => livenessToken_bad hx h, fun ha => ?_, ?_, facePowerReturn_on hx⟩
  · refine (livenessLoss_off hx ha).mono fun b' hb => ?_
    obtain ⟨h1, h2, h3, h4⟩ := hb
    exact ⟨h1, ⟨h2, h3, h4⟩, Bench.doLand_of_token h1⟩
  · refine (facePowerLoss_off hx).mono fun b' hb => ?_
    obtain ⟨h1, h2, h3, h4⟩ := hb
    exact ⟨h1, ⟨h2, h3, h4⟩, Bench.doLand_of_power h1⟩

end Sys2Proof.Machine
end

section
/-!
A force table that holds an index twice
-/

namespace Sys2Proof.Machine

-- The kernel evaluates the states below one after another.
set_option Elab.async false

/-! ### A force table that holds an index twice -/

/-- Bench 0 in RUN, 5 µs after a latch instant of station 0, which is OPERATIONAL and whose inputs are points 0 and 1. The
force table holds its index 0 twice: an entry that is disabled and whose force on point 1 still acts, and one that is to
force point 1 from its next instant on. -/
def doubledForce : State :=
  State.reset.withBench 0 { Bench.atReset 0 with
    bn := { (Bench.atReset 0).bn with mode := .run }
    rail := { (Bench.atReset 0).rail with now := 25000, up := 25000 }
    points := [(0, { flags := 0x4000 }), (1, { flags := 0x4000 })]
    conf := [(haulAt 8, 0x80202000), (haulAt 0x20, 2), (haulAt 0x24, 0x00100401), (haulAt 0x1000, 0x80000100), (haulAt 0x100C, 2)]
    pe := { (Bench.atReset 0).pe with forces := [(0, { eff := some (1, 3) }), (0, { en := true, point := 1, value := 5 })] }
    ha := { (Bench.atReset 0).ha with stations := [(0, { state := .operational })] } }

/-- The up frame of station 0 for the latch instant 20 µs: 7 for point 0 and 9 for point 1. -/
def pairFrame : UpFrame :=
  { vid := 0, etype := 0x88B5, dst := 0,
    payload := [0x50, 0, 0, 0] ++ leBytes 8 20000 ++ List.replicate 16 0 ++ [7, 0, 0, 0, 9] ++ List.replicate 9 0 }

/-- The value of point 1 of bench 0 after an instruction. -/
def pointOneAfter (i : Instr) (s : State) : Option Word :=
  match exec i s with
  | .next t => some ((t.bench 0).point 1).value
  | _ => none

theorem pairFrame_valid :
    let x := (doubledForce.bench 0).tick 0
    x.haulEn = true ∧ x.bn.mode = .run ∧ (x.station 0).state = .operational ∧
      (pairFrame.typ = 1 ∧ x.frameOk pairFrame = true ∧ pairFrame.station = (0 : Fin 64).val ∧
        x.stationEn (0 : Fin 64) = true ∧ (x.station (0 : Fin 64)).state ≠ .disabled ∧
        x.latchAt (0 : Fin 64) x.rail.now = some pairFrame.latch ∧ x.rail.now ≤ pairFrame.latch + x.haulRxwin ∧
        pairFrame.holds (x.stationIn (0 : Fin 64)).length = true ∧ pairFrame.lateLatch = false ∧
        (x.station (0 : Fin 64)).latch ≠ some pairFrame.latch) := by
  decide +kernel

theorem pairFrame_slot :
    let x := (doubledForce.bench 0).tick 0
    (1, 9) ∈ (x.stationIn (0 : Fin 64)).zip (pairFrame.slots (x.stationIn (0 : Fin 64)).length) ∧
      1 ∈ x.stationIn (0 : Fin 64) ∧ (x.point 1).source = 2 ∧ (x.point 1).output = false ∧
      (x.settleForces 1 pairFrame.latch).forceOn 1 = none ∧ fmtWord (x.point 1).format 9 = 9 := by
  decide +kernel

theorem doubledForce_forces : pointOneAfter (.upFrame 0 0 pairFrame) doubledForce = some 5 := by
  decide +kernel

/-- Refutes O35: with the force table's index 0 held twice, settling the table at point 1 drops the second entry with the
first, which falls to its default; but the update of point 0, which comes first, leaves its value as LIVE in the first
entry, so at point 1 both stay and the second one forces the point. The clause of a group in RUN asks whether a force acts
of the table as it was before the group, and has no premise that the table is in canonical form. No run leads to such a
table. -/
theorem not_haulServesItsStations : ¬ Obligations.HaulServesItsStations := by
  intro h
  obtain ⟨hen, hrun, hop, hvalid⟩ := pairFrame_valid
  obtain ⟨hslot, hin, hsrc, hout, hfree, hfmt⟩ := pairFrame_slot
  obtain ⟨hcycle, -⟩ := h
  obtain ⟨-, -, -, -, -, group, -⟩ := hcycle doubledForce 0 0 1 [] 0 pairFrame 9 hen
  obtain ⟨u, he, -, -, -, hvalue, -⟩ := group hrun hvalid hop hslot ⟨hin, hsrc, hout⟩
  obtain ⟨hv, -⟩ := hvalue hfree
  have after : pointOneAfter (.upFrame 0 0 pairFrame) doubledForce = some ((u.bench 0).point 1).value := by
    rw [pointOneAfter, he]
  rw [doubledForce_forces, hv, hfmt] at after
  exact absurd after (by decide)

end Sys2Proof.Machine
end
